-- ==== Sys2Proof/Word.lean ====
section
/-! DEFINITION. The words of the Plovler: bytes, 64-bit words and master identities (00 R2, 15 R479). -/

namespace Sys2Proof

/-- A byte. -/
abbrev Byte := BitVec 8

/-- A 64-bit word: a register, a context word, a header word (00 R2). -/
abbrev Word := BitVec 64

/-- The master identity of 15 R479: class in [15:12], index in [11:0]. -/
abbrev Mst := BitVec 16

end Sys2Proof
end

