-- ==== Sys2Proof/Types.lean ====
section
/-! DEFINITION. The data that commands carry: eight-word blocks (work entries, control frames, lane
records), fabric packets, answers of host memory, and the parties that commands name. -/

namespace Sys2Proof

/-- Eight 64-bit words: a work or receive-post entry (03 R83, R88), a control frame (11 R379), a lane
record (12 R411) or a packet header (01 R18). -/
structure Octet where
  w0 : Word
  w1 : Word
  w2 : Word
  w3 : Word
  w4 : Word
  w5 : Word
  w6 : Word
  w7 : Word
  deriving DecidableEq, Repr

/-- A field [hi:lo] of word `w` of an eight-word block. -/
structure OFld where
  w : Nat
  hi : Nat
  lo : Nat
  deriving DecidableEq, Repr

/-- A fabric packet (01 R17): header, payload and end-to-end trailer. The link trailer belongs to the
frame. -/
structure Packet where
  hdr : Octet
  payload : List Byte
  trailer : List Byte
  deriving DecidableEq, Repr

/-- What a read of host memory or of another outside party returns: the bytes, or a failure at the
root complex behind the bytes that came before it (03 R103, R104, 07 R221). -/
inductive Fetched where
  | data (bs : List Byte)
  | failed (got : List Byte)
  deriving DecidableEq, Repr

/-- The operations of an uncached atomic (05 R153, 07 R225). -/
inductive AtomOp where
  | add | swap | cas | and | or
  deriving DecidableEq, Repr

/-- A request of a host to a function of its port (02 R29, R33, R35, R63): a read or write of a dword of its
configuration space, of an entry or of the pending bits of its MSI-X table, of its MSI-X control, or of a BAR, or an
AtomicOp of 4, 8 or 16 B at a BAR; the same of configuration space and MSI-X for the pier function, through the tunnel
(R55). -/
inductive HostReq where
  | configRead (off : Nat)
  | configWrite (off : Nat) (v : BitVec 32)
  | msixRead (vector : Nat)
  | msixWrite (vector : Nat) (addr : Word) (data : BitVec 32) (mask : Bool)
  | msixControl (enable mask : Bool)
  | pierConfigRead (off : Nat)
  | pierConfigWrite (off : Nat) (v : BitVec 32)
  | pierMsixRead (vector : Nat)
  | pierMsixWrite (vector : Nat) (addr : Word) (data : BitVec 32) (mask : Bool)
  | pierMsixControl (enable mask : Bool)
  | pierMemRead (a : BitVec 34) (n : Nat)
  | pierMemWrite (a : BitVec 34) (bytes : List Byte)
  | atomic (bar : Nat) (off size : Nat) (op : AtomOp) (y cmp : Nat)
  | read (bar : Nat) (off : Nat)
  | write (bar : Nat) (off : Nat) (v : Word)
  deriving DecidableEq, Repr

/-- The rates at which a host port trains (02 R29), in GT/s. -/
inductive PcieRate where
  | gt64 | gt32 | gt16 | gt8
  deriving DecidableEq, Repr

/-- The widths at which a host port trains (02 R29). -/
inductive PcieWidth where
  | x16 | x8 | x4
  deriving DecidableEq, Repr

/-- A fabric port (01 R15). -/
abbrev PortNum := Fin 128
/-- A queue number (03 R68). -/
abbrev QNum := Fin 1048576
/-- A general register number (05 R144). -/
abbrev GReg := Fin 32

/-- What a host link trained to (02 R29, R30): CXL or PCIe, rate and width. -/
structure HostLink where
  cxl : Bool
  rate : PcieRate
  width : PcieWidth
  deriving DecidableEq, Repr

/-- A physical lane of a fabric port (12 R396), and the codewords received on it from a block boundary on (R402, R406), where they
are given: 10-bit symbols in sending order. -/
structure PhysLane where
  port : PortNum
  lane : Fin 5
  words : List (List Nat) := []
  deriving DecidableEq, Repr

/-- A block of a lane's message stream (12 R398): a sync header and a payload. -/
structure Block where
  header : BitVec 2
  payload : BitVec 128
  deriving DecidableEq, Repr

/-- What the lanes tell of a received frame (11 R364, R367): a lane error in it, or an end before its trailer; whether
its packet has begun to leave before that shows (notes/assumptions/54.md); and the descrambled blocks of the data slots that
carried it, in unit order (12 R403), where they are given: the frame is then what they spell. -/
structure FrameSeen where
  err : Bool
  cut : Bool
  slots : List Block := []
  deriving DecidableEq, Repr

/-- The lane modes of the pier (02 R54): Gen 3 at 40 Gbit/s and Gen 2 at 20 Gbit/s, on two lanes. -/
inductive Usb4Gen where
  | gen2 | gen3
  deriving DecidableEq, Repr

/-- The origin of an accepted MGMT command (10 R347, R348): the fabric-remote entry (0 to 7, 8 for a
SERVICE port), the port it arrived on if it came over a link, its source endpoint and its requester tag. -/
structure MgmtReq where
  via : Fin 9
  port : Option (Fin 128)
  src : BitVec 20
  mtag : BitVec 16
  deriving DecidableEq, Repr

/-- Who asks for a drain step (10 R350): an MGMT command or a register write by a master. -/
inductive Origin where
  | mgmt (r : MgmtReq)
  | reg (m : Mst)
  deriving DecidableEq, Repr

/-- How a running brush ends (05 R165): whole, with the bytes a host source gave; or failed after some
bytes, with what a host source gave before. -/
inductive BrushEnd where
  | done (host : List Byte)
  | failed (written : Nat) (host : List Byte)
  deriving DecidableEq, Repr

/-- What one 1 ms window observed on one physical lane (12 R408), and where its loops stand at its end (R404): the CTLE code,
the four DFE taps, the CDR phase code and the eye height. The codewords of the window (R406) count beside the two counts. -/
structure LaneObs where
  words : List (List Nat) := []
  uncorr : Nat
  symCorr : Nat
  skew : Nat
  ctle : BitVec 6
  dfe : BitVec 24
  cdrPhase : BitVec 8
  eye : BitVec 8
  deriving DecidableEq, Repr

/-- A PAM4 symbol: −3, −1, +1 or +3 (12 R397). -/
inductive Pam where
  | m3 | m1 | p1 | p3
  deriving DecidableEq, Repr

/-- What the monitor photodiode of one lamp position reads in one iteration (12 R423, R424): the power in 0.01 dBm. -/
structure LampReading where
  power : Int
  deriving DecidableEq, Repr

/-- The kind of a gated access (15 R482, R484, 16 R517). -/
inductive AccKind where
  | read
  | write
  | atomic
  | fetch
  deriving DecidableEq, Repr

/-- A firmware image slot as boot reads it from QSPI NOR (18 R573): its bytes, or blank. -/
inductive ImageBytes where
  | blank
  | image (bs : List Byte)
  deriving DecidableEq, Repr

/-- What boot samples and reads from the board (18 R569, R570, R573): the mode strap and both image
slots; the warm-reset kind is in the state. `trains` says whether the GDDR6 interfaces train in step 5. -/
structure BootInputs where
  mode : BitVec 2
  slotA : ImageBytes
  slotB : ImageBytes
  trains : Bool := true
  deriving DecidableEq, Repr

/-- A device-wide engine context number, 8 × engine + context (01 R10). -/
abbrev CtxNum := Fin 2176
/-- A device-wide logical engine number (00 R3). -/
abbrev EngNum := Fin 272
/-- What a coherence request carries besides its kind (13 R437, R444): the line number A ÷ 64, the
requesting master, when its home first sampled it (its age counts from then, 01 R26) and its NACK count. -/
structure CohReq where
  line : Fin 268435456
  req : Mst
  since : Nat
  nacks : Fin 16
  deriving DecidableEq, Repr

/-- Which requests are forwarded to an owner (13 R437). -/
inductive FwdKind where
  | gets | getm | rdu
  deriving DecidableEq, Repr

/-- A junction sensor, island regulator or power estimate reading handed in by the analogue monitors
(19 R592, R595, R598). -/
structure AvsReading where
  vneed : Nat
  vneedNext : Nat
  vddCore : Nat
  deriving DecidableEq, Repr

/-- A symbol of a group (14 R462): its burst among the nine of the group, its DQ pin, and its beat group. -/
structure Sym where
  burst : Nat
  pin : Nat
  beats : Nat
  deriving DecidableEq, Repr

/-- What one patrol-scrub visit of a group meets (14 R463, R466, R467): symbols of its lines' codewords that have gone wrong
in the cells, as (line, codeword, symbol), and for each line the mismatches of the EDC of its read and of its write back. -/
structure ScrubObs where
  flips : List (Fin 4 × Fin 4 × Fin 36)
  edc : List (Fin 4 × Nat × Nat)
  deriving DecidableEq, Repr

/-- What starts a host port reset besides GLB_RST.HPORT (18 R562). -/
inductive HostResetCause where
  | perst
  | linkLoss
  | register (m : Mst) (v : Word)
  deriving DecidableEq, Repr

/-- The space a debug access names (15 R506): a word of device space, a block of it with the bytes written (for a read, as many
as are read), or a register. -/
inductive DbgSpace where
  | device (a : BitVec 34)
  | block (a : BitVec 34) (data : List Byte)
  | register (r : BitVec 25)
  deriving DecidableEq, Repr

end Sys2Proof
end

