-- ==== Sys2Proof/Syntax.lean ====
section
/-! DEFINITION. The commands of the Plovler: one constructor for each row of spec/opcode_table.json. An
operand that stands for what the outside world supplies (bytes read from host memory, a received frame,
a reading of an analogue monitor) is named in the constructor's comment. -/

namespace Sys2Proof

/-- A command of the block: the rows of spec/opcode_table.json. -/
inductive Instr where
  -- chapter 02
  /-- 02 R34: a posted write of bytes at an offset of the doorbell BAR of function f of host port p. -/
  | doorbellPageWrite (p : Fin 4) (f : Fin 256) (off : Nat) (bytes : List Byte)
  /-- 02 R38: a posted write at an offset of the easel window. -/
  | easelWrite (p : Fin 4) (f : Fin 256) (off : Nat) (bytes : List Byte)
  /-- 02 R38. -/
  | easelWriteApply (p : Fin 4)
  /-- 02 R40. -/
  | easelAssemblyTimeout (p : Fin 4) (f : Fin 256) (slot : Fin 64)
  /-- 02 R42. -/
  | easelTake (p : Fin 4)
  /-- 02 R50: FIFO index of R48. -/
  | watermarkWrite (m : Mst) (i : Fin 22) (v : Word)
  /-- 02 R56. -/
  | pieEvtPop (m : Mst) (v : Word)
  /-- 02 R58. -/
  | islEvtPop (m : Mst) (i : Fin 16) (v : Word)
  /-- 02 R59: 0 the pier FIFO, 1 + i the FIFO of island i. -/
  | overflowEntryWrite (k : Fin 17)
  /-- 02 R66: 0 to 3 HOST_RDY, 4 PIER_RDY. -/
  | attentionPulse (pin : Fin 5)
  /-- 02 R64. -/
  | attentionPulseEnd (pin : Fin 5)
  /-- 02 R66. -/
  | pieAttnRead (m : Mst)
  /-- 02 R66. -/
  | hptAttnRead (m : Mst) (n : Fin 4)
  /-- 02 R63. -/
  | hostRequestWhileBusy (p : Fin 4) (f : Fin 256) (r : HostReq)
  -- chapter 03
  /-- 03 R73: through the master's QCW_SEL. -/
  | qcwWrite (m : Mst) (w : Fin 16) (v : Word)
  /-- 03 R73: a word 0 that carries STATE = ACTIVE. -/
  | queueActivate (m : Mst) (v : Word)
  /-- 03 R74: a word 0 that carries STATE = DISABLED. -/
  | queueDisable (m : Mst) (v : Word)
  /-- 03 R74. -/
  | queueDrainEnd (q : QNum)
  /-- 03 R75. -/
  | functionLevelReset (p : Fin 4) (f : Fin 256)
  /-- 03 R75. -/
  | flrEnd (p : Fin 4) (f : Fin 256)
  /-- 03 R96: the entry as the ring holds it at the moment of taking. -/
  | takeWorkEntry (q : QNum) (e : Octet)
  /-- 03 R103. -/
  | ringAccessFault (q : QNum) (iova : Word)
  /-- 03 R91. -/
  | writeCompletion (q : QNum)
  /-- 03 R85: executes taken entry id of work ring q. -/
  | nop (q : QNum) (id : Nat)
  /-- 07 R223: with the bytes read at LADDR. -/
  | put (q : QNum) (id : Nat) (src : Fetched)
  /-- 07 R223. -/
  | get (q : QNum) (id : Nat)
  /-- 07 R225. -/
  | atomic (q : QNum) (id : Nat)
  /-- 07 R224. -/
  | flush (q : QNum) (id : Nat)
  /-- 07 R220. -/
  | keyNext (q : QNum) (id : Nat) (src : Fetched)
  /-- 07 R220. -/
  | keyCur (q : QNum) (id : Nat) (src : Fetched)
  /-- 08 R262. -/
  | send (q : QNum) (id : Nat) (src : Fetched)
  /-- 10 R345. -/
  | dgram (q : QNum) (id : Nat) (src : Fetched)
  /-- 09 R287. -/
  | coll (q : QNum) (id : Nat) (src : Fetched)
  /-- 10 R347. -/
  | mgmt (q : QNum) (id : Nat) (src : Fetched)
  /-- 09 R285: on the firmware control ring. -/
  | treeWrite (id : Nat) (src : Fetched)
  /-- 08 R255: takes a receive-post entry. -/
  | recv (q : QNum) (e : Octet)
  -- chapter 04
  /-- 04 R113. -/
  | schedulePacket
  /-- 04 R119. -/
  | shaperRefill (i : Fin 65536)
  /-- 04 R121. -/
  | shaperWrite (m : Mst) (w : Fin 2) (v : Word)
  /-- 04 R124. -/
  | policerRefill (t : Fin 4096)
  /-- 04 R126. -/
  | tenantWindowWrite (m : Mst) (w : Fin 5) (v : Word)
  /-- 04 R128. -/
  | samplerPeriod
  /-- 04 R130. -/
  | samplerResetQueue (m : Mst) (v : Word)
  /-- 04 R135. -/
  | meterSnapshot
  /-- 04 R133. -/
  | meterGddr6Sample
  -- chapter 05
  /-- 05 R146. -/
  | add (c : CtxNum) (d a b : GReg)
  /-- 05 R146. -/
  | sub (c : CtxNum) (d a b : GReg)
  /-- 05 R146. -/
  | and (c : CtxNum) (d a b : GReg)
  /-- 05 R146. -/
  | or (c : CtxNum) (d a b : GReg)
  /-- 05 R146. -/
  | xor (c : CtxNum) (d a b : GReg)
  /-- 05 R146. -/
  | sll (c : CtxNum) (d a b : GReg)
  /-- 05 R146. -/
  | srl (c : CtxNum) (d a b : GReg)
  /-- 05 R146. -/
  | sra (c : CtxNum) (d a b : GReg)
  /-- 05 R146. -/
  | slt (c : CtxNum) (d a b : GReg)
  /-- 05 R146. -/
  | sltu (c : CtxNum) (d a b : GReg)
  /-- 05 R146. -/
  | seq (c : CtxNum) (d a b : GReg)
  /-- 05 R146. -/
  | sne (c : CtxNum) (d a b : GReg)
  /-- 05 R146. -/
  | mul (c : CtxNum) (d a b : GReg)
  /-- 05 R146. -/
  | mulh (c : CtxNum) (d a b : GReg)
  /-- 05 R146. -/
  | mulhu (c : CtxNum) (d a b : GReg)
  /-- 05 R146. -/
  | min (c : CtxNum) (d a b : GReg)
  /-- 05 R146. -/
  | max (c : CtxNum) (d a b : GReg)
  /-- 05 R146. -/
  | minu (c : CtxNum) (d a b : GReg)
  /-- 05 R146. -/
  | maxu (c : CtxNum) (d a b : GReg)
  /-- 05 R146. -/
  | clz (c : CtxNum) (d a : GReg)
  /-- 05 R146. -/
  | ctz (c : CtxNum) (d a : GReg)
  /-- 05 R146. -/
  | popc (c : CtxNum) (d a : GReg)
  /-- 05 R145. -/
  | addi (c : CtxNum) (d a : GReg) (imm : BitVec 16)
  /-- 05 R145. -/
  | andi (c : CtxNum) (d a : GReg) (imm : BitVec 16)
  /-- 05 R145. -/
  | ori (c : CtxNum) (d a : GReg) (imm : BitVec 16)
  /-- 05 R145. -/
  | xori (c : CtxNum) (d a : GReg) (imm : BitVec 16)
  /-- 05 R145. -/
  | slli (c : CtxNum) (d a : GReg) (sh : BitVec 6)
  /-- 05 R145. -/
  | srli (c : CtxNum) (d a : GReg) (sh : BitVec 6)
  /-- 05 R145. -/
  | srai (c : CtxNum) (d a : GReg) (sh : BitVec 6)
  /-- 05 R145. -/
  | slti (c : CtxNum) (d a : GReg) (imm : BitVec 16)
  /-- 05 R145. -/
  | sltiu (c : CtxNum) (d a : GReg) (imm : BitVec 16)
  /-- 05 R145. -/
  | lsi (c : CtxNum) (d a : GReg) (imm : BitVec 16)
  /-- 05 R145, R147: len1 is len − 1. -/
  | bfxU (c : CtxNum) (d a : GReg) (pos len1 : BitVec 6)
  /-- 05 R145, R147: len1 is len − 1. -/
  | bfxS (c : CtxNum) (d a : GReg) (pos len1 : BitVec 6)
  /-- 05 R145, R147: len1 is len − 1. -/
  | bfi (c : CtxNum) (d a : GReg) (pos len1 : BitVec 6)
  /-- 05 R145. -/
  | ldB (c : CtxNum) (d a : GReg) (imm : BitVec 16)
  /-- 05 R145. -/
  | ldBu (c : CtxNum) (d a : GReg) (imm : BitVec 16)
  /-- 05 R145. -/
  | ldH (c : CtxNum) (d a : GReg) (imm : BitVec 16)
  /-- 05 R145. -/
  | ldHu (c : CtxNum) (d a : GReg) (imm : BitVec 16)
  /-- 05 R145. -/
  | ldW (c : CtxNum) (d a : GReg) (imm : BitVec 16)
  /-- 05 R145. -/
  | ldWu (c : CtxNum) (d a : GReg) (imm : BitVec 16)
  /-- 05 R145. -/
  | ldD (c : CtxNum) (d a : GReg) (imm : BitVec 16)
  /-- 05 R145. -/
  | stB (c : CtxNum) (d a : GReg) (imm : BitVec 16)
  /-- 05 R145. -/
  | stH (c : CtxNum) (d a : GReg) (imm : BitVec 16)
  /-- 05 R145. -/
  | stW (c : CtxNum) (d a : GReg) (imm : BitVec 16)
  /-- 05 R145. -/
  | stD (c : CtxNum) (d a : GReg) (imm : BitVec 16)
  /-- 05 R145. -/
  | hld (c : CtxNum) (d : GReg) (i : Fin 16)
  /-- 05 R145. -/
  | hst (c : CtxNum) (a : GReg) (i : Fin 8)
  /-- 05 R145. -/
  | beq (c : CtxNum) (a b : GReg) (off : BitVec 16)
  /-- 05 R145. -/
  | bne (c : CtxNum) (a b : GReg) (off : BitVec 16)
  /-- 05 R145. -/
  | blt (c : CtxNum) (a b : GReg) (off : BitVec 16)
  /-- 05 R145. -/
  | bge (c : CtxNum) (a b : GReg) (off : BitVec 16)
  /-- 05 R145. -/
  | bltu (c : CtxNum) (a b : GReg) (off : BitVec 16)
  /-- 05 R145. -/
  | bgeu (c : CtxNum) (a b : GReg) (off : BitVec 16)
  /-- 05 R145. -/
  | jal (c : CtxNum) (d : GReg) (off : BitVec 21)
  /-- 05 R145. -/
  | jalr (c : CtxNum) (d a : GReg) (imm : BitVec 16)
  /-- 05 R152. -/
  | fenceR (c : CtxNum)
  /-- 05 R152. -/
  | fenceW (c : CtxNum)
  /-- 05 R152. -/
  | fenceAll (c : CtxNum)
  /-- 05 R153. -/
  | amoAdd (c : CtxNum) (d a b : GReg)
  /-- 05 R153. -/
  | amoSwap (c : CtxNum) (d a b : GReg)
  /-- 05 R153. -/
  | amoCas (c : CtxNum) (d a b : GReg)
  /-- 05 R153. -/
  | amoAnd (c : CtxNum) (d a b : GReg)
  /-- 05 R153. -/
  | amoOr (c : CtxNum) (d a b : GReg)
  /-- 05 R154. -/
  | lockAcq (c : CtxNum) (d a : GReg)
  /-- 05 R154. -/
  | lockTry (c : CtxNum) (d a : GReg)
  /-- 05 R154. -/
  | lockRel (c : CtxNum) (d a : GReg)
  /-- 05 R155. -/
  | wait (c : CtxNum) (d a : GReg)
  /-- 05 R155. -/
  | yield (c : CtxNum)
  /-- 05 R155. -/
  | done (c : CtxNum)
  /-- 05 R145. -/
  | trap (c : CtxNum) (imm : BitVec 16)
  /-- 05 R156. -/
  | halt (c : CtxNum)
  /-- 05 R160. -/
  | csrRd (c : CtxNum) (d : GReg) (n : BitVec 8)
  /-- 05 R160. -/
  | csrWr (c : CtxNum) (a : GReg) (n : BitVec 8)
  /-- 05 R165. -/
  | brushCopy (c : CtxNum) (d a b : GReg)
  /-- 05 R165. -/
  | brushFill (c : CtxNum) (d a b : GReg)
  /-- 05 R165. -/
  | brushDrain (c : CtxNum) (d a b : GReg)
  /-- 05 R165: brush id of the context ends. -/
  | brushFinish (c : CtxNum) (id : Nat) (e : BrushEnd)
  /-- 05 R167: with the entry read from the ring. -/
  | qPop (c : CtxNum) (d a b : GReg) (src : Fetched)
  /-- 05 R167. -/
  | qPush (c : CtxNum) (d a b : GReg)
  /-- 05 R168. -/
  | qComplete (c : CtxNum) (d a b : GReg)
  /-- 05 R167. -/
  | qBell (c : CtxNum) (d a : GReg)
  /-- 05 R169. -/
  | pktBuild (c : CtxNum) (d a b : GReg)
  /-- 05 R170. -/
  | pktSend (c : CtxNum) (d a b : GReg)
  /-- 05 R169. -/
  | pktFwd (c : CtxNum) (d a b : GReg)
  /-- 05 R169. -/
  | pktDrop (c : CtxNum) (d a b : GReg)
  /-- 08 R278. -/
  | matchPost (c : CtxNum) (d a b : GReg)
  /-- 08 R277. -/
  | matchProbe (c : CtxNum) (d a b : GReg)
  /-- 08 R277. -/
  | matchTake (c : CtxNum) (d a b : GReg)
  /-- 09 R291. -/
  | mixOpen (c : CtxNum) (d a b : GReg)
  /-- 09 R291. -/
  | mixFeed (c : CtxNum) (d a b : GReg)
  /-- 05 R173. -/
  | mixClose (c : CtxNum) (d a b : GReg)
  /-- 05 R174. -/
  | tmArm (c : CtxNum) (d a b : GReg)
  /-- 05 R174. -/
  | tmStop (c : CtxNum) (d a b : GReg)
  /-- 05 R175. -/
  | cntRd (c : CtxNum) (d a b : GReg)
  /-- 05 R174. -/
  | timerFire (c : CtxNum) (t : Fin 8)
  /-- 05 R143. -/
  | illegalInstruction (c : CtxNum) (w : BitVec 32)
  -- chapter 06
  /-- 06 R193: the oldest event waiting for the queue of engine e. -/
  | steeredEventArrival (e : EngNum)
  /-- 06 R195. -/
  | eventDispatch (e : EngNum)
  /-- 06 R188. -/
  | ctxCfgWrite (m : Mst) (c : CtxNum) (v : Word)
  /-- 06 R188. -/
  | ctxEnable (m : Mst) (c : CtxNum) (v : Word)
  /-- 06 R189. -/
  | ctxDisable (m : Mst) (c : CtxNum) (v : Word)
  /-- 06 R190. -/
  | ctxReset (m : Mst) (c : CtxNum) (v : Word)
  /-- 06 R185: a write of the SKETCH_LOAD command to ENG_WMBX_CMD. -/
  | sketchLoad (m : Mst) (v : Word)
  /-- 06 R184. -/
  | sketchFree (m : Mst) (v : Word)
  /-- 06 R184. -/
  | keyInstall (m : Mst) (v : Word)
  /-- 06 R186. -/
  | keyLock (m : Mst) (v : Word)
  /-- 06 R185. -/
  | mailboxCommandDone
  /-- 06 R194. -/
  | steeringWrite (m : Mst) (v : Word)
  -- chapter 07
  /-- 07 R212: a word 0 that carries STATE = ACTIVE. -/
  | connActivate (m : Mst) (v : Word)
  /-- 07 R214. -/
  | connFree (m : Mst) (v : Word)
  /-- 07 R218. -/
  | canvasValidate (m : Mst) (v : Word)
  /-- 07 R245. -/
  | canvasRevoke (m : Mst) (v : Word)
  /-- 07 R227: a connection packet addressed to this device; mark is the congestion mark of a packet whose delivery no earlier
  command brought about. -/
  | connPacketArrival (p : Packet) (mark : Bool)
  /-- 07 R231. -/
  | ackDelayExpiry (n : Fin 262144) (reply : Bool)
  /-- 07 R236. -/
  | rtoExpiry (n : Fin 262144) (reply : Bool)
  /-- 07 R232. -/
  | nrBackoffExpiry (n : Fin 262144) (seq : BitVec 32)
  /-- 07 R234. -/
  | flushReqDispatch (n : Fin 262144)
  /-- 07 R242. -/
  | cnxKeyInstall (m : Mst) (v : Word)
  /-- 07 R244. -/
  | rekeyGo (m : Mst) (v : Word)
  -- chapter 08
  /-- 08 R252. -/
  | mctxActivate (m : Mst) (v : Word)
  /-- 08 R253. -/
  | mctxFree (m : Mst) (v : Word)
  /-- 08 R270. -/
  | rndvCanvasTake (q : QNum) (id : Nat)
  -- chapter 09
  /-- 09 R284. -/
  | treeActivate (m : Mst) (v : Word)
  /-- 09 R284. -/
  | treeFree (m : Mst) (v : Word)
  /-- 09 R294. -/
  | mixUpArrival (p : Packet)
  /-- 09 R299. -/
  | mixDownArrival (p : Packet)
  /-- 09 R299. -/
  | mcastArrival (p : Packet)
  /-- 09 R312. -/
  | treeTimeout (t : Fin 16384)
  -- chapter 10
  /-- 10 R327. -/
  | routeTableWrite (m : Mst) (w : Fin 2) (v : Word)
  /-- 10 R340: the buffered packet of that number. -/
  | winOutput (id : Nat)
  /-- 10 R341. -/
  | ferryWaitExpiry (id : Nat)
  /-- 10 R333. -/
  | tideReportSend (n : PortNum)
  /-- 10 R337. -/
  | rteLoopWindow (n : PortNum)
  /-- 10 R337. -/
  | rteLoopWrite (m : Mst) (n : PortNum) (v : Word)
  /-- 10 R344: the held packet of that number. -/
  | flaggedRelease (id : Nat)
  /-- 10 R346. -/
  | dgramArrival (p : Packet)
  /-- 10 R347: inPort is the port of a packet whose delivery no earlier command brought about. -/
  | mgmtArrival (p : Packet) (inPort : Option PortNum)
  /-- 10 R348. -/
  | readReg (r : MgmtReq) (addr : BitVec 25)
  /-- 10 R348. -/
  | writeReg (r : MgmtReq) (addr : BitVec 25) (v : Word)
  /-- 10 R351. -/
  | drain (o : Origin)
  /-- 10 R353. -/
  | switch (o : Origin)
  /-- 10 R353. -/
  | resume (o : Origin)
  /-- 10 R348. -/
  | status (r : MgmtReq)
  /-- 10 R349. -/
  | fwctl (r : MgmtReq) (e : Octet) (data : List Byte)
  -- chapter 11
  /-- 11 R367: the bytes of the frame with its link trailer. -/
  | receiveDataFrame (n : PortNum) (bytes : List Byte) (seen : FrameSeen)
  /-- 11 R369. -/
  | sendDataFrame (n : PortNum)
  /-- 11 R371. -/
  | replayTimerExpiry (n : PortNum)
  /-- 11 R377. -/
  | creditFramePeriod (n : PortNum)
  /-- 11 R380. -/
  | creditFrame (n : PortNum) (f : Octet)
  /-- 10 R334. -/
  | tideFrame (n : PortNum) (f : Octet)
  /-- 11 R391. -/
  | timeFrame (n : PortNum) (f : Octet)
  /-- 12 R412. -/
  | laneFrame (n : PortNum) (f : Octet)
  /-- 11 R389. -/
  | timeFramePeriod (n : PortNum)
  /-- 11 R390. -/
  | gmAnnounceLapse
  /-- 12 R416. -/
  | fastRetrainEnd (n : PortNum) (ok : Bool)
  /-- 12 R416. -/
  | retrainAcceptTimeout (n : PortNum)
  /-- 11 R384. -/
  | linkDownPatternEnd (n : PortNum)
  /-- 11 R388. -/
  | linkUp (n : PortNum)
  -- chapter 12
  /-- 12 R405. -/
  | alignmentLockGain (on : PhysLane) (seen : Vector (BitVec 128) 2)
  /-- 12 R405. -/
  | alignmentLockLoss (on : PhysLane) (seen : Vector (BitVec 128) 4)
  /-- 12 R406. -/
  | blockLockGain (on : PhysLane) (headers : Vector (BitVec 2) 64)
  /-- 12 R406. -/
  | blockLockLoss (on : PhysLane) (headers : Vector (BitVec 2) 64)
  /-- 12 R408: what the window observed on lanes 0 to 4. -/
  | laneClassWindow (n : PortNum) (obs : List LaneObs)
  /-- 12 R409. -/
  | trainPhaseEnd (n : PortNum)
  /-- 12 R410. -/
  | portAligned (n : PortNum)
  /-- 12 R412. -/
  | laneRecordReceive (on : PhysLane) (prev : BitVec 58) (blocks : List Block)
  /-- 12 R413. -/
  | mapChangeApply (n : PortNum)
  /-- 12 R414. -/
  | laneSpareSwap (n : PortNum)
  /-- 12 R416. -/
  | lneRetrain (m : Mst) (n : PortNum) (v : Word)
  /-- 12 R415. -/
  | lneWiden (m : Mst) (n : PortNum) (v : Word)
  /-- 12 R418. -/
  | lneRestart (m : Mst) (n : PortNum) (v : Word)
  /-- 12 R427. -/
  | quiesceDone (n : PortNum)
  /-- 12 R427. -/
  | quiesceWrite (m : Mst) (n : PortNum) (v : Word)
  /-- 12 R399. -/
  | alignmentPeriodStart (n : PortNum)
  /-- 12 R422: the identity bytes read, none when they cannot be read. -/
  | lampIdentify (i : Fin 16) (id : Option (List Byte))
  /-- 12 R421. -/
  | lampAuthResponse (i : Fin 16) (resp : Option (List Byte))
  /-- 12 R422. -/
  | lampRemoved (i : Fin 16)
  /-- 12 R423: the monitors of positions 0 to 9. -/
  | biasLoopIteration (i : Fin 16) (r : List LampReading)
  /-- 12 R425. -/
  | lampHourTick (i : Fin 16)
  /-- 12 R426. -/
  | lampEnable (m : Mst) (i : Fin 16) (v : Word)
  /-- 12 R426. -/
  | lampDisable (m : Mst) (i : Fin 16) (v : Word)
  /-- 12 R426. -/
  | lampReauth (m : Mst) (i : Fin 16) (v : Word)
  -- chapter 13
  /-- 13 R440. -/
  | gets (r : CohReq)
  /-- 13 R440. -/
  | getm (r : CohReq)
  /-- 13 R440. -/
  | rdu (r : CohReq)
  /-- 13 R440: the bytes written at an offset of the line. -/
  | wru (r : CohReq) (off : Fin 64) (bytes : List Byte)
  /-- 13 R451. -/
  | atu (r : CohReq) (word : Fin 8) (op : AtomOp) (y cmp : Word)
  /-- 13 R440. -/
  | putm (e : EngNum) (line : Fin 268435456)
  /-- 13 R440. -/
  | puto (e : EngNum) (line : Fin 268435456)
  /-- 13 R440. -/
  | pute (e : EngNum) (line : Fin 268435456)
  /-- 13 R441. -/
  | cohDone (r : CohReq) (dirty : Bool)
  /-- 13 R440. -/
  | invAck (isl : Fin 16) (line : Fin 268435456) (data : Option (List Byte)) (poison : Bool)
  /-- 13 R442. -/
  | nackWb (e : EngNum) (line : Fin 268435456)
  /-- 13 R440. -/
  | dataS (e : EngNum) (line : Fin 268435456) (data : List Byte) (poison dirty : Bool)
  /-- 13 R440. -/
  | dataE (e : EngNum) (line : Fin 268435456) (data : List Byte) (poison : Bool)
  /-- 13 R440: none from the home to an O owner. -/
  | dataM (e : EngNum) (line : Fin 268435456) (data : Option (List Byte)) (poison dirty : Bool)
  /-- 13 R440. -/
  | fwdGets (owner : EngNum) (r : CohReq)
  /-- 13 R440. -/
  | fwdGetm (owner : EngNum) (r : CohReq)
  /-- 13 R440. -/
  | fwdRdu (owner : EngNum) (r : CohReq)
  /-- 13 R438. -/
  | inv (e : EngNum) (line : Fin 268435456)
  /-- 13 R449. -/
  | binv (e : EngNum) (line : Fin 268435456)
  /-- 13 R440. -/
  | recall (owner : EngNum) (line : Fin 268435456)
  /-- 13 R444. -/
  | cohNack (r : CohReq)
  /-- 13 R444. -/
  | cohRetry (r : CohReq)
  /-- 13 R436. -/
  | wbAck (e : EngNum) (line : Fin 268435456)
  /-- 13 R446: the reservation of the line, or of its directory set. -/
  | reservationLapse (line : Fin 268435456) (set : Bool)
  -- chapter 14
  /-- 14 R467: the next group of a logical channel. -/
  | scrubVisit (ch : Fin 16) (o : ScrubObs)
  /-- 14 R468. -/
  | rowRemap (p : Fin 18) (bank : Fin 16) (row : Fin 32768)
  /-- 14 R466. -/
  | channelRetrainEnd (p : Fin 18) (ok : Bool)
  /-- 14 R469: the counts of the second that ended. -/
  | channelWearWindow (p : Fin 18) (edc : List (Nat × Nat × Nat)) (sym : List (Nat × Sym)) (pin : Fin 16) (up : Bool)
  /-- 14 R470. -/
  | migrationGo (m : Mst) (v : Word)
  /-- 14 R472. -/
  | migrationAbort (m : Mst) (v : Word)
  /-- 14 R470. -/
  | migrationSwitch
  /-- 14 R477. -/
  | errinjArm (m : Mst) (p : Fin 18) (v : Word)
  /-- 14 R474. -/
  | allocEntryWrite (m : Mst) (v : Word)
  /-- 14 R475: the contexts accessed in the window that ended, as (is a queue context, number, accesses). -/
  | placementWindow (obs : List (Bool × Nat × Nat))
  -- chapter 15
  /-- 15 R489. -/
  | gateEntryWrite (m : Mst) (g : Fin 23) (e : Fin 64) (w : Fin 2) (v : Word)
  /-- 15 R489. -/
  | gateCtlWrite (m : Mst) (g : Fin 23) (v : Word)
  /-- 15 R490. -/
  | gateFenceRead (m : Mst) (g : Fin 23)
  /-- 15 R490. -/
  | gateFenceTimeout (m : Mst) (g : Fin 23)
  /-- 15 R493. -/
  | semAcqRead (m : Mst) (n : Fin 4096)
  /-- 15 R494. -/
  | semTryRead (m : Mst) (n : Fin 4096)
  /-- 15 R496. -/
  | semRelWrite (m : Mst) (n : Fin 4096) (v : Word)
  /-- 15 R497. -/
  | semaphoreClaimGrant (n : Fin 4096)
  /-- 15 R493. -/
  | semAcqTimeout (m : Mst) (n : Fin 4096)
  /-- 15 R504. -/
  | lcsAdvance (m : Mst) (v : Word)
  /-- 15 R507: a read, or a write of v. -/
  | debugAccess (a : DbgSpace) (v : Option Word)
  -- chapter 16
  /-- 16 R518. -/
  | faultForce (m : Mst) (s : Fin 1536) (v : Word)
  /-- 16 R513. -/
  | fltSrcSevWrite (m : Mst) (s : Fin 1536) (v : Word)
  /-- 16 R512. -/
  | faultClrcnt (m : Mst) (s : Fin 1536) (v : Word)
  /-- 16 R516. -/
  | faultRecordClear (m : Mst) (d : Fin 64) (v : Word)
  /-- 16 R526. -/
  | faultRelease (m : Mst) (v : Word)
  /-- 16 R533. -/
  | engineRetire (i : Fin 16) (l : Fin 17)
  /-- 16 R535. -/
  | softRepairRecord (addr : BitVec 16) (desc : Word)
  -- chapter 17
  /-- 17 R539: block 0 to 15 of an island, 16 of the device. -/
  | counterWrap (b : Fin 17) (k : Fin 8)
  /-- 17 R536. -/
  | counterClear (m : Mst) (v : Word)
  /-- 17 R541. -/
  | sampleRingCopy
  /-- 17 R543, R544: what the pipeline measured of the instruction. -/
  | instructionTag (c : CtxNum) (insn : BitVec 32) (stages : List Byte) (stall : List Nat) (trapCode : Byte) (memlat : BitVec 16) (addr : Word)
  /-- 17 R547. -/
  | bwWindowEnd
  /-- 17 R549. -/
  | ppsOutRise
  /-- 17 R549. -/
  | ppsOutFall
  /-- 17 R550. -/
  | ppsInEdge
  /-- 17 R550. -/
  | ppsInTimeout
  /-- 17 R556. -/
  | gapRecordCommit
  /-- 17 R560. -/
  | auditExport (m : Mst) (v : Word)
  -- chapter 18
  /-- 18 R562. -/
  | powerOnReset
  /-- 18 R570. -/
  | boot (b : BootInputs)
  /-- 18 R570: step 1 + step passes its latest end. -/
  | bootStepTimeout (step : Fin 5) (b : BootInputs)
  /-- 18 R564. -/
  | deviceWarmReset
  /-- 18 R564. -/
  | warmRstShortPulse
  /-- 18 R564. -/
  | warmResetPhaseEnd
  /-- 18 R565. -/
  | glbRstWarm (m : Mst) (v : Word)
  /-- 18 R567. -/
  | islandReset (m : Mst) (v : Word)
  /-- 18 R568. -/
  | hostPortReset (n : Fin 4) (c : HostResetCause)
  /-- 18 R562. -/
  | portReset (m : Mst) (i : Fin 2) (v : Word)
  /-- 18 R562. -/
  | pierReset
  /-- 18 R578. -/
  | imageInstall (m : Mst) (v : Word)
  -- chapter 19
  /-- 19 R586. -/
  | railFault (r : Fin 16)
  /-- 19 R591. -/
  | rootPllUnlock
  /-- 19 R591. -/
  | lanePllUnlock (i : Fin 16)
  /-- 19 R591. -/
  | lanePllRelock (i : Fin 16)
  /-- 19 R592. -/
  | avsLoopStep (i : Fin 16) (r : AvsReading)
  /-- 19 R594. -/
  | droopDetect (i : Fin 16)
  /-- 19 R594. -/
  | droopRelax (i : Fin 16)
  /-- 19 R595: the estimate, and the island whose engines issue most. -/
  | powerCapIteration (pest : Nat) (busiest : Fin 16)
  /-- 19 R598. -/
  | thermalSensorRead (s : Fin 24) (temp : BitVec 16)
  -- chapter 20
  /-- 20 R612: a read, or a write of v. -/
  | paletteWindowAccess (m : Mst) (w : Fin 16) (v : Option Word)
  /-- 20 R605: a read, or a write of bytes. -/
  | registerOddAccess (m : Mst) (addr : BitVec 25) (size : Nat) (write : Option (List Byte))
  /-- 20 R607. -/
  | registerWrite (m : Mst) (addr : BitVec 25) (v : Word)
  /-- 18 R568. -/
  | hostPerstDeassert (n : Fin 4)
  /-- 18 R572. -/
  | hostLinkUp (n : Fin 4) (link : HostLink)
  /-- 16 R511. -/
  | pierLinkDown
  /-- 16 R511. -/
  | pierLinkUp
  /-- 19 R586. -/
  | railInRange (r : Fin 16)
  /-- 19 R591. -/
  | rootPllRelock
  /-- 19 R591. -/
  | hostRefclkChange (n : Fin 4) (run : Bool)
  /-- 19 R591. -/
  | pierRefclkChange (run : Bool)
  /-- 00 R5. -/
  | registerReadClear (m : Mst) (addr : BitVec 25)
  /-- 02 R65. -/
  | busyPeriodMinEnd (pin : Fin 5)
  /-- 18 R567. -/
  | islandResetEnd (i : Fin 16)
  /-- 18 R578. -/
  | imageInstallEnd
  deriving DecidableEq, Repr

end Sys2Proof
end

