-- ==== Sys2Proof/Machine/Bits.lean ====
section
/-! DEFINITION. Bit fields, little-endian byte order (00 R2), serial arithmetic and the field reads of
eight-word blocks and packets. -/

namespace Sys2Proof

/-- The field [hi:lo] of a word, as a number. -/
def bits (w : Word) (hi lo : Nat) : Nat := w.toNat / 2 ^ lo % 2 ^ (hi + 1 - lo)

/-- The word with the field [hi:lo] replaced by the low bits of `v`. -/
def setBits (w : Word) (hi lo v : Nat) : Word :=
  BitVec.ofNat 64
    (w.toNat / 2 ^ (hi + 1) * 2 ^ (hi + 1) + v % 2 ^ (hi + 1 - lo) * 2 ^ lo + w.toNat % 2 ^ lo)

/-- The `n` little-endian bytes of a number (00 R2). -/
def bytesOf : Nat → Nat → List Byte
  | 0, _ => []
  | n + 1, v => BitVec.ofNat 8 v :: bytesOf n (v / 256)

/-- The number that little-endian bytes spell (00 R2). -/
def ofBytes : List Byte → Nat
  | [] => 0
  | b :: bs => b.toNat + 256 * ofBytes bs

/-- The word that the first eight of some bytes spell, missing bytes read as zero. -/
def wordOfBytes (bs : List Byte) : Word := BitVec.ofNat 64 (ofBytes (bs.take 8))

/-- A saturating count of `n` bits. -/
def satAdd (n v k : Nat) : Nat := min (v + k) (2 ^ n - 1)

/-- `a` precedes `b` in serial arithmetic of `n` bits (07 R226, 08 R256, 11 R365). -/
def precedes (n a b : Nat) : Bool :=
  let d := (b + 2 ^ n - a % 2 ^ n) % 2 ^ n
  decide (1 ≤ d ∧ d < 2 ^ (n - 1))

/-- The distance from `a` up to `b` modulo 2^n. -/
def serialSub (n b a : Nat) : Nat := (b + 2 ^ n - a % 2 ^ n) % 2 ^ n

/-- Word `i` of the eight. -/
def Octet.word (o : Octet) (i : Nat) : Word :=
  match i with
  | 0 => o.w0 | 1 => o.w1 | 2 => o.w2 | 3 => o.w3
  | 4 => o.w4 | 5 => o.w5 | 6 => o.w6 | _ => o.w7

/-- The eight words with word `i` replaced. -/
def Octet.setWord (o : Octet) (i : Nat) (v : Word) : Octet :=
  match i with
  | 0 => { o with w0 := v } | 1 => { o with w1 := v } | 2 => { o with w2 := v } | 3 => { o with w3 := v }
  | 4 => { o with w4 := v } | 5 => { o with w5 := v } | 6 => { o with w6 := v } | _ => { o with w7 := v }

/-- The eight zero words. -/
def Octet.zero : Octet := ⟨0, 0, 0, 0, 0, 0, 0, 0⟩

/-- The eight words in order. -/
def Octet.toList (o : Octet) : List Word := [o.w0, o.w1, o.w2, o.w3, o.w4, o.w5, o.w6, o.w7]

/-- The eight words that 64 bytes spell. -/
def Octet.ofByteList (bs : List Byte) : Octet :=
  ⟨wordOfBytes bs, wordOfBytes (bs.drop 8), wordOfBytes (bs.drop 16), wordOfBytes (bs.drop 24),
   wordOfBytes (bs.drop 32), wordOfBytes (bs.drop 40), wordOfBytes (bs.drop 48), wordOfBytes (bs.drop 56)⟩

/-- The 64 bytes of eight words. -/
def Octet.toByteList (o : Octet) : List Byte := o.toList.flatMap fun w => bytesOf 8 w.toNat

/-- The value of a field of an eight-word block. -/
def Octet.get (o : Octet) (f : OFld) : Nat := bits (o.word f.w) f.hi f.lo

/-- The eight-word block with a field replaced. -/
def Octet.set (o : Octet) (f : OFld) (v : Nat) : Octet := o.setWord f.w (setBits (o.word f.w) f.hi f.lo v)

/-- The value of a header field. -/
def Packet.get (p : Packet) (f : OFld) : Nat := p.hdr.get f

/-- The packet with a header field replaced. -/
def Packet.set (p : Packet) (f : OFld) (v : Nat) : Packet := { p with hdr := p.hdr.set f v }

end Sys2Proof
end

