-- ==== Sys2Proof/Machine/Regs.lean ====
section
/-! DEFINITION. The software-visible words of the Plovler: every register, context word and table word of
the spec's field tables, with the access code and reset value of each field (00 R3 to R6), the engine
registers (05 R140), and the fault sources (16 R509 to R513). -/

namespace Sys2Proof.Machine

/-- The access codes of a field (00 R5). RSA words are not stored fields. -/
inductive Acc where
  | rw | ro | w1c | w1s | rc | rwl
  deriving DecidableEq, Repr

/-- One field of a register table. -/
structure FieldDesc where
  hi : Nat
  lo : Nat
  acc : Acc
  reset : Nat
  deriving DecidableEq, Repr

/-- The select registers of the indirect windows (03 R72). -/
inductive SelName where
  | qcw | shp | ten | steer | cnx | cvs | mtc | rte | tree | alloc | aud | pal
  deriving DecidableEq, Repr

/-- The index of a master among those that have selects (03 R72): a PF, the pier, the debug master, a
fabric-remote entry; master identities of 15 R479. -/
abbrev MasterKey := Nat

/-- Every software-visible 64-bit word, with its indices (00 R3). -/
inductive Reg where
  /-- R614. -/
  | hptFnTen (n f : Nat)
  /-- R32: the identification registers of function k, 1,024 the pier function. -/
  | fnId (k : Nat)
  /-- R49. -/
  | wm (i : Nat)
  /-- R52. -/
  | fcOutSel (m : Nat)
  /-- R82, R117. -/
  | qctx (q w : Nat)
  /-- R116. -/
  | schHpCfg (n : Nat)
  /-- R118. -/
  | shp (i w : Nat)
  /-- R126. -/
  | ten (t w : Nat)
  /-- R127. -/
  | smpCfg
  /-- R136: SCH_MTR_CFG. -/
  | mtrCfg
  /-- R136: SCH_MTR_BASE. -/
  | mtrBase
  /-- R136: SCH_MTR_PI. -/
  | mtrPi
  /-- R136: SCH_MTR_CI. -/
  | mtrCi
  /-- R136: SCH_STAT. -/
  | schStat
  /-- R161. -/
  | csr (c w : Nat)
  /-- R183: ENG_WMBX_CMD. -/
  | wmbxCmd
  /-- R183: ENG_WMBX_ARG[i]. -/
  | wmbxArg (i : Nat)
  /-- R183: ENG_WMBX_STAT. -/
  | wmbxStat
  /-- R187. -/
  | ctxCfg (c : Nat)
  /-- R191. -/
  | engStat (e : Nat)
  /-- R194. -/
  | steer (i : Nat)
  /-- R211. -/
  | conn (n w : Nat)
  /-- R217. -/
  | cvs (i w : Nat)
  /-- R242. -/
  | cnxKeyCmd
  /-- R247: CNX_TIMING. -/
  | cnxTiming
  /-- R247: CNX_RTX_CFG. -/
  | cnxRtxCfg
  /-- R247: CNX_STAT. -/
  | cnxStat
  /-- R251. -/
  | mtc (m w : Nat)
  /-- R280: MTC_CFG. -/
  | mtcCfg
  /-- R280: MTC_STAT. -/
  | mtcStat
  /-- R280: MTC_POOL. -/
  | mtcPool
  /-- R280: MTC_USE. -/
  | mtcUse
  /-- R283. -/
  | tree (t w : Nat)
  /-- R318: MIX_STAGE. -/
  | mixStage
  /-- R318: MIX_STAT. -/
  | mixStat
  /-- R319. -/
  | rteCfg
  /-- R321. -/
  | rtePort (n : Nat)
  /-- R325. -/
  | rteGrp (b i w : Nat)
  /-- R326. -/
  | rteMem (b i w : Nat)
  /-- R336. -/
  | rteLoop (n : Nat)
  /-- R350. -/
  | rteDrain
  /-- R355. -/
  | rteStat
  /-- R393: LNK_CFG[n]. -/
  | lnkCfg (n : Nat)
  /-- R393: LNK_STAT[n]. -/
  | lnkStat (n : Nat)
  /-- R393: LNK_CNT[n]. -/
  | lnkCnt (n : Nat)
  /-- R393: LNK_CNT2[n]. -/
  | lnkCnt2 (n : Nat)
  /-- R393: LNK_CREDIT[n][j]. -/
  | lnkCredit (n j : Nat)
  /-- R394: LNK_GLB_CFG. -/
  | lnkGlbCfg
  /-- R394: LNK_TIME_STAT. -/
  | lnkTimeStat
  /-- R394: LNK_TIME_OFS. -/
  | lnkTimeOfs
  /-- R418: PRT_CFG[n]. -/
  | prtCfg (n : Nat)
  /-- R418: PRT_STAT[n]. -/
  | prtStat (n : Nat)
  /-- R418: LNE_CTL[n]. -/
  | lneCtl (n : Nat)
  /-- R418: LNE_STAT[n][l]. -/
  | lneStat (n l : Nat)
  /-- R418: LNE_CNT[n][l]. -/
  | lneCnt (n l : Nat)
  /-- R418: LNE_EQ[n][l]. -/
  | lneEq (n l : Nat)
  /-- R426: LMP_CFG[n]. -/
  | lmpCfg (n : Nat)
  /-- R426: LMP_STAT[n]. -/
  | lmpStat (n : Nat)
  /-- R426: LMP_CTL[n]. -/
  | lmpCtl (n : Nat)
  /-- R426: LMP_ID[n][w]. -/
  | lmpId (n w : Nat)
  /-- R426: LMP_EMIT[n][e]. -/
  | lmpEmit (n e : Nat)
  /-- R456: HRB_CFG[n]. -/
  | hrbCfg (n : Nat)
  /-- R456: HRB_STAT[n]. -/
  | hrbStat (n : Nat)
  /-- R456: HRB_OCC[n]. -/
  | hrbOcc (n : Nat)
  /-- R477: GDM_CFG. -/
  | gdmCfg
  /-- R477: GDM_MIG. -/
  | gdmMig
  /-- R477: GDM_PLACE. -/
  | gdmPlace
  /-- R477: GDM_STAT. -/
  | gdmStat
  /-- R477: GDM_ALLOC_DATA. -/
  | alloc (i : Nat)
  /-- R477: GDM_CH_STAT[p]. -/
  | gdmChStat (p : Nat)
  /-- R477: GDM_CH_CNT[p]. -/
  | gdmChCnt (p : Nat)
  /-- R477: GDM_ERRINJ[p]. -/
  | gdmErrinj (p : Nat)
  /-- R483. -/
  | gteEnt (g e w : Nat)
  /-- R486: GTE_CTL[g]. -/
  | gteCtl (g : Nat)
  /-- R486: GTE_STAT[g]. -/
  | gteStat (g : Nat)
  /-- R492: read word. -/
  | sem (n : Nat)
  /-- R502. -/
  | semStat
  /-- R503: LCS_STATE. -/
  | lcsState
  /-- R503: LCS_ADVANCE. -/
  | lcsAdvance
  /-- R512. -/
  | fltSrc (s : Nat)
  /-- R516. -/
  | fltDom (d w : Nat)
  /-- R524: FLT_PIN_THRESH. -/
  | fltPin
  /-- R524: FLT_CFG. -/
  | fltCfg
  /-- R524: FLT_HALT. -/
  | fltHalt
  /-- R524: FLT_FORCE_ARG. -/
  | fltForceArg
  /-- R534. -/
  | islEngMap (i : Nat)
  /-- R536: CNT_CYC. -/
  | cntCyc (b : Nat)
  /-- R536: CNT_CTL[k]. -/
  | cntCtl (b k : Nat)
  /-- R536: CNT_VAL[k]. -/
  | cntVal (b k : Nat)
  /-- R536: CNT_GLB. -/
  | cntGlb
  /-- R540: CNT_SMP_CFG. -/
  | cntSmpCfg
  /-- R540: CNT_SMP_BASE. -/
  | cntSmpBase
  /-- R540: CNT_SMP_PI. -/
  | cntSmpPi
  /-- R540: CNT_SMP_CI. -/
  | cntSmpCi
  /-- R540: CNT_SMP_STAT. -/
  | cntSmpStat
  /-- R542. -/
  | cntIsmp (i : Nat)
  /-- R546: CNT_BW_TX[n]. -/
  | cntBwTx (n : Nat)
  /-- R546: CNT_BW_RX[n]. -/
  | cntBwRx (n : Nat)
  /-- R546: CNT_BW_SEQ[n]. -/
  | cntBwSeq (n : Nat)
  /-- R548: TIM_NOW. -/
  | timNow
  /-- R548: TIM_CFG. -/
  | timCfg
  /-- R548: TIM_PPS_STAMP. -/
  | timPpsStamp
  /-- R559: AUD_CFG. -/
  | audCfg
  /-- R559: AUD_SEQ. -/
  | audSeq
  /-- R559: AUD_PTR. -/
  | audPtr
  /-- R559: AUD_EXPORT. -/
  | audExport
  /-- R559: AUD_STAT. -/
  | audStat
  /-- R559: AUD_WEAR. -/
  | audWear
  /-- R579: GLB_RST. -/
  | glbRst
  /-- R579: GLB_PRT_RST[i]. -/
  | glbPrtRst (i : Nat)
  /-- R579: GLB_RST_CAUSE. -/
  | glbRstCause
  /-- R579: GLB_BOOT_STAT. -/
  | glbBootStat
  /-- R579: GLB_BOOT_CTL. -/
  | glbBootCtl
  /-- R591: CLK_STAT. -/
  | clkStat
  /-- R596: PWR_AVS. -/
  | pwrAvs
  /-- R596: PWR_DFS. -/
  | pwrDfs
  /-- R596: PWR_STAT. -/
  | pwrStat
  /-- R596: PWR_ISL[i]. -/
  | pwrIsl (i : Nat)
  /-- R597: PWR_THERM_CFG. -/
  | pwrThermCfg
  /-- R597: PWR_TEMP[s]. -/
  | pwrTemp (s : Nat)
  /-- R611: GLB_ID. -/
  | glbId
  /-- R611: GLB_REV. -/
  | glbRev
  /-- R611: GLB_UID. -/
  | glbUid
  /-- R611: PIE_EVT_POP. -/
  | pieEvtPop
  /-- R611: PIE_ATTN. -/
  | pieAttn
  /-- R611: GLB_WM_REJECT. -/
  | glbWmReject
  /-- R611: HPT_EASEL_STAT[n]. -/
  | hptEaselStat (n : Nat)
  /-- R611: HPT_DB_REFUSED[n]. -/
  | hptDbRefused (n : Nat)
  /-- R611: HPT_ATTN[n]. -/
  | hptAttn (n : Nat)
  /-- R611: ISL_EVT_POP[i]. -/
  | islEvtPop (i : Nat)
  /-- R611: ENG_HANDLER_DROP[i]. -/
  | handlerDrop (i : Nat)
  /-- R611: ISL_DROP_SEL[i]. -/
  | dropSel (i : Nat)
  /-- R611: ISL_DROP_DATA[i]. -/
  | dropCnt (i r : Nat)
  /-- R611: QCW_STAT. -/
  | qcwStat
  /-- R477. -/
  | gdmMap (i : Nat)
  /-- R546: CNT_BW_CFG. -/
  | cntBwCfg
  /-- R347: RTE_MGMT_SRC[i]. -/
  | rteMgmtSrc (i : Nat)
  /-- R242: CNX_KEY[w]. -/
  | cnxKey (w : Nat)
  /-- R551: audit store. -/
  | audRec (i w : Nat)
  /-- R108: TSP_QSEL. -/
  | tspQsel (p f : Nat)
  /-- R140: g0 to g31. -/
  | g (c i : Nat)
  /-- R140: h0 to h15. -/
  | h (c i : Nat)
  /-- R140: pc. -/
  | pc (c : Nat)
  /-- R72: a select register of a master. -/
  | sel (m : MasterKey) (k : SelName)
  deriving DecidableEq, Repr

/-- The kind of unit a fault source names (16 R512 UNITK). -/
inductive UnitK where
  | none | port | queue | connection | context | tree | channel
  deriving DecidableEq, Repr

/-- The UNITK code of 16 R512. -/
def UnitK.code : UnitK → Nat
  | .none => 0 | .port => 1 | .queue => 2 | .connection => 3 | .context => 4 | .tree => 5 | .channel => 6

/-- What 16 R511 to R513 fix of one source: default severity, least accepted severity, whether fixed,
whether LEVEL, and its unit kind. -/
structure SrcInfo where
  sev : Nat
  minSev : Nat
  fixed : Bool
  level : Bool
  unitk : UnitK
  deriving DecidableEq, Repr

/-- A source at LOG. -/
def siLog (level : Bool := false) (u : UnitK := .none) : SrcInfo := ⟨0, 0, false, level, u⟩
/-- A source at CORRECTED. -/
def siCorr (level : Bool := false) (u : UnitK := .none) : SrcInfo := ⟨1, 0, false, level, u⟩
/-- A source at CONTAIN. -/
def siCont (level : Bool := false) (u : UnitK := .none) : SrcInfo := ⟨2, 0, false, level, u⟩

/-- The sources of domain 0 in position order (16 R510, R511; 03 R107, 06 R207, 15 R508). -/
def srcDom0 : List SrcInfo :=
  [⟨3, 3, true, false, .none⟩, ⟨3, 3, true, false, .none⟩, siLog, siLog, siLog,
   ⟨4, 4, true, false, .none⟩, siLog, siLog, ⟨4, 4, true, true, .none⟩]

/-- The sources of domain 1 (16 R510, R511). -/
def srcDom1 : List SrcInfo :=
  [⟨4, 4, true, true, .none⟩, siLog true, siLog true, ⟨3, 3, false, true, .none⟩, siCorr, siLog true,
   siLog true, ⟨3, 0, false, true, .none⟩, siLog true]

/-- The sources of domain 2 (16 R510, R511). -/
def srcDom2 : List SrcInfo :=
  [siCont false .queue, siCont false .connection, siCont false .connection, siCont false .connection,
   siLog, siLog, siLog, siCont false .tree, siLog, siLog]

/-- The sources of domain 3 (16 R510, R511). -/
def srcDom3 : List SrcInfo := [siCorr, siLog true]

/-- The sources of a host port's domain (16 R510, R511; 02 R34, R40, R43). -/
def srcDomHost : List SrcInfo := [siLog, siLog, siLog, siLog false .queue, siCorr, siLog, siLog true]

/-- The sources of a GDDR6 interface's domain (16 R510, 14 R478). -/
def srcDomGddr : List SrcInfo :=
  [siCorr false .channel, siCorr false .channel, siLog false .channel, siLog false .channel,
   siCorr false .channel, siCorr false .channel, siCont true .channel]

/-- The sources of an island's domain (16 R510, R511; 12 R428, 13 R455). -/
def srcDomIsland : List SrcInfo :=
  [siLog false .context, siCont false .context, siLog false .context, siCont false .context, siCorr, siCorr,
   siLog false .context, siLog false .tree, siCorr, siLog, siCorr, siLog,
   ⟨3, 3, false, false, .none⟩, ⟨3, 0, false, false, .none⟩, siLog, siLog,
   siCorr, siLog true, siLog, siLog, siLog, siLog]

/-- The sources of a port domain (16 R510, R511; 11 R395, 12 R428). -/
def srcDomPort : List SrcInfo :=
  [siLog false .port, siLog false .port, siCorr false .port, siLog false .port, siCorr false .port,
   siCorr false .port, siCorr false .port, siCont true .port, siLog false .port, siLog false .port,
   siLog false .port, siCorr true .port, siCorr false .port, siLog false .port, siLog true .port,
   siLog true .port]

/-- The sources of each fault domain (16 R509). -/
def srcDomList (d : Nat) : List SrcInfo :=
  if d = 0 then srcDom0 else if d = 1 then srcDom1 else if d = 2 then srcDom2 else if d = 3 then srcDom3
  else if d < 8 then srcDomHost else if d < 17 then srcDomGddr else if d < 32 then []
  else if d < 48 then srcDomIsland else if d < 64 then srcDomPort else []

/-- What is fixed of source `s`; reserved positions hold none (16 R510). -/
def srcInfo (s : Nat) : Option SrcInfo := (srcDomList (s / 24))[s % 24]?

/-- The default severity of a source. -/
def srcSev (s : Nat) : Nat := match srcInfo s with | some i => i.sev | none => 0
/-- The least accepted severity of a source. -/
def srcMinSev (s : Nat) : Nat := match srcInfo s with | some i => i.minSev | none => 0
/-- Whether the severity of a source is fixed. -/
def srcFixed (s : Nat) : Nat := match srcInfo s with | some i => i.fixed.toNat | none => 0
/-- Whether a source is a LEVEL source. -/
def srcKind (s : Nat) : Nat := match srcInfo s with | some i => i.level.toNat | none => 0
/-- The unit kind code of a source. -/
def srcUnitK (s : Nat) : Nat := match srcInfo s with | some i => i.unitk.code | none => 0

/-! The source numbers of 16 R510 by name; a host port p, a GDDR6 interface d, an island i or a port n
selects the domain. -/

abbrev Src.FWCTL_MALFORMED : Nat := 0
abbrev Src.WARDEN_LOST : Nat := 1
abbrev Src.GTE_DENIED : Nat := 2
abbrev Src.GTE_DEBUG_PASS : Nat := 3
abbrev Src.SEM_BAD_RELEASE : Nat := 4
abbrev Src.LCS_FUSE_INTEGRITY : Nat := 5
abbrev Src.AUD_FULL : Nat := 6
abbrev Src.AUD_GAP : Nat := 7
abbrev Src.AUD_STORE_CORRUPT : Nat := 8
abbrev Src.CLK_ROOT_UNLOCK : Nat := 24
abbrev Src.CLK_LANE_PLL_UNLOCK : Nat := 25
abbrev Src.THERM_WARN : Nat := 26
abbrev Src.THERM_TRIP : Nat := 27
abbrev Src.PWR_DROOP : Nat := 28
abbrev Src.PWR_CAP : Nat := 29
abbrev Src.AVS_LIMIT : Nat := 30
abbrev Src.RAIL_FAULT : Nat := 31
abbrev Src.PPS_LOST : Nat := 32
abbrev Src.QCW_UNCORR : Nat := 48
abbrev Src.CNX_UNCORR : Nat := 49
abbrev Src.CNX_KEY_UNCORR : Nat := 50
abbrev Src.RTX_UNCORR : Nat := 51
abbrev Src.TIDE_UNCORR : Nat := 52
abbrev Src.CVS_UNCORR : Nat := 53
abbrev Src.MTC_UNCORR : Nat := 54
abbrev Src.TREE_UNCORR : Nat := 55
abbrev Src.RTE_UNCORR : Nat := 56
abbrev Src.SKETCH_UNCORR : Nat := 57
abbrev Src.PIE_USB4_CORR : Nat := 72
abbrev Src.PIE_LINK_DOWN : Nat := 73
abbrev Src.HPT_DB_REFUSED (p : Nat) : Nat := 24 * (4 + p) + 0
abbrev Src.HPT_EASEL_ABORTED (p : Nat) : Nat := 24 * (4 + p) + 1
abbrev Src.HPT_EASEL_REFUSED (p : Nat) : Nat := 24 * (4 + p) + 2
abbrev Src.HPT_RING_FAULT (p : Nat) : Nat := 24 * (4 + p) + 3
abbrev Src.HPT_PCIE_CORR (p : Nat) : Nat := 24 * (4 + p) + 4
abbrev Src.HPT_PCIE_UNCORR (p : Nat) : Nat := 24 * (4 + p) + 5
abbrev Src.HPT_LINK_DOWN (p : Nat) : Nat := 24 * (4 + p) + 6
abbrev Src.GDM_EDC_RETRY (d : Nat) : Nat := 24 * (8 + d) + 0
abbrev Src.GDM_SYM_CORR (d : Nat) : Nat := 24 * (8 + d) + 1
abbrev Src.GDM_UNCORR (d : Nat) : Nat := 24 * (8 + d) + 2
abbrev Src.GDM_CH_WEAR (d : Nat) : Nat := 24 * (8 + d) + 3
abbrev Src.GDM_ROW_SPARED (d : Nat) : Nat := 24 * (8 + d) + 4
abbrev Src.GDM_MIGRATED (d : Nat) : Nat := 24 * (8 + d) + 5
abbrev Src.GDM_CH_FAIL (d : Nat) : Nat := 24 * (8 + d) + 6
abbrev Src.CTX_HALTED (i : Nat) : Nat := 24 * (32 + i) + 0
abbrev Src.CTX_DOUBLE_TRAP (i : Nat) : Nat := 24 * (32 + i) + 1
abbrev Src.ENG_DENIED (i : Nat) : Nat := 24 * (32 + i) + 2
abbrev Src.ENG_RF_PARITY (i : Nat) : Nat := 24 * (32 + i) + 3
abbrev Src.ENG_RETIRED (i : Nat) : Nat := 24 * (32 + i) + 4
abbrev Src.PAL_ECC_CORR (i : Nat) : Nat := 24 * (32 + i) + 5
abbrev Src.PAL_UNCORR (i : Nat) : Nat := 24 * (32 + i) + 6
abbrev Src.MIX_RESIDUE (i : Nat) : Nat := 24 * (32 + i) + 7
abbrev Src.L1_ECC_CORR (i : Nat) : Nat := 24 * (32 + i) + 8
abbrev Src.L1_POISON (i : Nat) : Nat := 24 * (32 + i) + 9
abbrev Src.HRB_ECC_CORR (i : Nat) : Nat := 24 * (32 + i) + 10
abbrev Src.HRB_POISON (i : Nat) : Nat := 24 * (32 + i) + 11
abbrev Src.HRB_DIR_UNCORR (i : Nat) : Nat := 24 * (32 + i) + 12
abbrev Src.HRB_PROTOCOL (i : Nat) : Nat := 24 * (32 + i) + 13
abbrev Src.HRB_AGED (i : Nat) : Nat := 24 * (32 + i) + 14
abbrev Src.XBAR_PARITY (i : Nat) : Nat := 24 * (32 + i) + 15
abbrev Src.LAMP_SPARED (i : Nat) : Nat := 24 * (32 + i) + 16
abbrev Src.LAMP_WORN (i : Nat) : Nat := 24 * (32 + i) + 17
abbrev Src.LAMP_EMITTER_FAIL (i : Nat) : Nat := 24 * (32 + i) + 18
abbrev Src.LAMP_UNAUTH (i : Nat) : Nat := 24 * (32 + i) + 19
abbrev Src.LAMP_IDERR (i : Nat) : Nat := 24 * (32 + i) + 20
abbrev Src.LAMP_REMOVED (i : Nat) : Nat := 24 * (32 + i) + 21
abbrev Src.PRT_HDR_ERR (n : Nat) : Nat := 24 * (48 + n / 8) + 0
abbrev Src.PRT_HOP_LIMIT (n : Nat) : Nat := 24 * (48 + n / 8) + 1
abbrev Src.PRT_BUF_CORR (n : Nat) : Nat := 24 * (48 + n / 8) + 2
abbrev Src.PRT_BUF_UNCORR (n : Nat) : Nat := 24 * (48 + n / 8) + 3
abbrev Src.LNK_CRC (n : Nat) : Nat := 24 * (48 + n / 8) + 4
abbrev Src.LNK_REPLAY (n : Nat) : Nat := 24 * (48 + n / 8) + 5
abbrev Src.LNK_RETRAIN (n : Nat) : Nat := 24 * (48 + n / 8) + 6
abbrev Src.LNK_DOWN (n : Nat) : Nat := 24 * (48 + n / 8) + 7
abbrev Src.LNK_OVERRUN (n : Nat) : Nat := 24 * (48 + n / 8) + 8
abbrev Src.LNK_BADACK (n : Nat) : Nat := 24 * (48 + n / 8) + 9
abbrev Src.LNK_TIME_LOST (n : Nat) : Nat := 24 * (48 + n / 8) + 10
abbrev Src.LNE_DEGRADED (n : Nat) : Nat := 24 * (48 + n / 8) + 11
abbrev Src.LNE_SPARED (n : Nat) : Nat := 24 * (48 + n / 8) + 12
abbrev Src.LNE_WIDTH (n : Nat) : Nat := 24 * (48 + n / 8) + 13
abbrev Src.LNE_MISWIRED (n : Nat) : Nat := 24 * (48 + n / 8) + 14
abbrev Src.LNE_FEC_MISMATCH (n : Nat) : Nat := 24 * (48 + n / 8) + 15


/-- The watermark defaults of 02 R48. -/
def wmHiReset (i : Nat) : Nat := if i < 4 then 448 else if i = 4 then 768 else if i < 21 then 192 else 3072

/-- The watermark defaults of 02 R48. -/
def wmLoReset (i : Nat) : Nat := if i < 4 then 256 else if i = 4 then 256 else if i < 21 then 64 else 1024

/-- The device ID of function `k`, 1,024 the pier function (02 R32). -/
def fnDevice (k : Nat) : Nat := if k = 1024 then 0x0814 else if k % 256 = 0 then 0x0812 else 0x0813

/-- The class code of function `k` (02 R32). -/
def fnClass (k : Nat) : Nat := if k = 1024 then 0x0C8000 else 0x028000

/-- A field of a register table. -/
def fd (hi lo : Nat) (acc : Acc) (reset : Nat) : FieldDesc := ⟨hi, lo, acc, reset⟩

/-- The fields of every word, from the spec's register tables; bits of no field are reserved (00 R4). -/
def Reg.fields : Reg → List FieldDesc
  | .hptFnTen _ _ => [fd 63 63 .rw 0, fd 11 0 .rw 0]
  | .wm i => [fd 63 63 .ro 0, fd 60 48 .ro 0, fd 44 32 .rw (wmHiReset i), fd 28 16 .rw (wmLoReset i), fd 15 15 .rw 0, fd 14 0 .rc 0]
  | .fcOutSel _ => [fd 8 8 .rw 0, fd 7 7 .rw 0, fd 4 0 .rw 0]
  | .qctx _ 0 => [fd 63 60 .rw 0, fd 59 57 .rw 0, fd 56 52 .rw 0, fd 51 49 .rw 0, fd 48 48 .rw 0, fd 47 36 .rw 0, fd 35 26 .rw 0, fd 25 24 .rw 0, fd 10 0 .rw 0]
  | .qctx _ 1 => [fd 63 0 .rw 0]
  | .qctx _ 2 => [fd 52 32 .ro 0, fd 20 0 .ro 0]
  | .qctx _ 3 => [fd 59 40 .rw 0, fd 39 20 .rw 0, fd 15 0 .rw 0]
  | .qctx _ 4 => [fd 41 21 .ro 0, fd 6 0 .ro 0]
  | .qctx _ 5 => [fd 63 48 .ro 0, fd 47 32 .ro 0, fd 31 24 .ro 0, fd 23 0 .ro 0]
  | .qctx _ 6 => [fd 48 48 .rw 0, fd 47 32 .rw 0, fd 11 11 .rw 0, fd 10 10 .rw 0, fd 9 0 .rw 0]
  | .qctx _ 7 => [fd 16 0 .ro 0]
  | .qctx _ 8 => [fd 41 21 .ro 0, fd 20 0 .ro 0]
  | .qctx _ 9 => [fd 28 0 .ro 0]
  | .qctx _ 10 => [fd 63 32 .ro 0, fd 31 0 .ro 0]
  | .qctx _ 11 => [fd 39 0 .ro 0]
  | .qctx _ 12 => [fd 63 0 .ro 0]
  | .qctx _ 13 => [fd 63 0 .ro 0]
  | .qctx _ 14 => [fd 63 32 .ro 0]
  | .qctx _ 15 => []
  | .qctx _ _ => []
  | .schHpCfg _ => [fd 9 0 .rw 0x00F]
  | .shp _ 0 => [fd 63 63 .rw 0, fd 51 32 .rw 0, fd 23 0 .rw 0]
  | .shp _ 1 => [fd 23 0 .rw 0]
  | .shp _ 2 => [fd 63 63 .ro 0, fd 24 0 .ro 0]
  | .shp _ 3 => [fd 63 0 .ro 0]
  | .shp _ 4 => [fd 63 0 .ro 0]
  | .shp _ 5 => [fd 63 0 .ro 0]
  | .shp _ _ => []
  | .ten _ 0 => [fd 34 34 .rw 0, fd 33 33 .rw 0, fd 31 16 .rw 0, fd 9 0 .rw 0x00F]
  | .ten _ 1 => [fd 63 63 .rw 0, fd 62 61 .rw 0, fd 51 32 .rw 0, fd 23 0 .rw 0]
  | .ten _ 2 => [fd 35 24 .rw 0x010, fd 23 0 .rw 0]
  | .ten _ 3 => [fd 24 0 .ro 0]
  | .ten _ 4 => [fd 63 32 .ro 0, fd 31 0 .ro 0]
  | .ten _ _ => []
  | .smpCfg => [fd 63 63 .rw 1, fd 47 44 .rw 4, fd 41 32 .rw 255, fd 23 0 .rw 10]
  | .mtrCfg => [fd 63 63 .rw 0, fd 47 36 .rw 60, fd 35 31 .rw 0, fd 30 21 .rw 0, fd 10 0 .rw 0]
  | .mtrBase => [fd 63 0 .rw 0]
  | .mtrPi => [fd 20 0 .ro 0]
  | .mtrCi => [fd 20 0 .rw 0]
  | .schStat => [fd 63 48 .rc 0, fd 47 32 .rc 0, fd 31 16 .rc 0]
  | .csr c 0 => [fd 55 52 .ro (c / 136), fd 51 47 .ro ((c / 8) % 17), fd 46 44 .ro (c % 8), fd 43 32 .ro 0, fd 0 0 .w1c 0]
  | .csr _ 1 => [fd 63 16 .ro 0, fd 7 0 .ro 0]
  | .csr _ 2 => [fd 31 0 .rw 0]
  | .csr _ 3 => [fd 15 0 .rw 0]
  | .csr _ 4 => [fd 47 32 .rw 0x1000, fd 15 0 .ro 0]
  | .csr _ 5 => [fd 1 0 .ro 0]
  | .csr _ _ => []
  | .wmbxCmd => [fd 7 0 .rw 0]
  | .wmbxArg _ => [fd 63 0 .rw 0]
  | .wmbxStat => [fd 63 63 .ro 0, fd 47 32 .ro 0, fd 31 16 .rc 0, fd 7 0 .ro 0]
  | .ctxCfg _ => [fd 63 63 .rw 0, fd 62 62 .w1s 0, fd 61 60 .ro 0, fd 59 58 .rw 0, fd 55 44 .rw 0, fd 43 32 .rw 0, fd 31 24 .rw 0, fd 23 16 .rw 0, fd 15 0 .rw 0]
  | .engStat _ => [fd 63 48 .rc 0, fd 47 32 .rc 0, fd 22 14 .ro 0]
  | .steer i => [fd 7 4 .rw (i % 16), fd 3 0 .rw ((i / 16) % 16)]
  | .conn _ 0 => [fd 63 61 .rw 0, fd 60 60 .rw 0, fd 59 58 .rw 0, fd 57 50 .rw 0, fd 49 38 .rw 0, fd 37 20 .rw 0, fd 19 0 .rw 0]
  | .conn _ 1 => [fd 63 44 .rw 0, fd 43 24 .rw 0, fd 23 12 .rw 0, fd 7 0 .rw 0]
  | .conn _ 2 => [fd 63 32 .ro 0, fd 31 0 .ro 0]
  | .conn _ 3 => [fd 63 32 .ro 0, fd 31 0 .ro 0]
  | .conn _ 4 => [fd 63 32 .ro 0, fd 31 0 .ro 0]
  | .conn _ 5 => [fd 59 48 .ro 0, fd 43 32 .ro 0, fd 31 0 .ro 0]
  | .conn _ 6 => [fd 63 32 .ro 0, fd 31 24 .ro 0, fd 23 12 .ro 0, fd 7 0 .ro 0]
  | .conn _ 7 => [fd 1 1 .ro 0, fd 0 0 .ro 0]
  | .conn _ 8 => [fd 63 32 .ro 0, fd 31 0 .ro 0]
  | .conn _ 9 => [fd 63 32 .ro 0, fd 31 0 .ro 0]
  | .conn _ 10 => [fd 31 0 .ro 0]
  | .conn _ _ => []
  | .cvs _ 0 => [fd 63 62 .rw 0, fd 61 61 .rw 0, fd 60 60 .rw 0, fd 59 59 .rw 0, fd 58 58 .rw 0, fd 57 48 .rw 0, fd 47 36 .rw 0, fd 35 24 .rw 0, fd 19 0 .rw 0]
  | .cvs _ 1 => [fd 63 0 .rw 0]
  | .cvs _ 2 => [fd 47 0 .rw 0]
  | .cvs _ 3 => [fd 31 0 .ro 0]
  | .cvs _ _ => []
  | .cnxKeyCmd => [fd 63 56 .ro 0, fd 2 2 .w1s 0, fd 1 1 .w1s 0, fd 0 0 .rw 0]
  | .cnxTiming => [fd 63 54 .rw 1000, fd 53 46 .rw 20, fd 45 40 .rw 4, fd 39 32 .rw 10, fd 31 24 .rw 8, fd 23 16 .rw 2]
  | .cnxRtxCfg => [fd 47 16 .ro 0, fd 15 0 .ro 256]
  | .cnxStat => [fd 63 48 .rc 0, fd 47 32 .rc 0, fd 31 16 .rc 0, fd 15 0 .rc 0]
  | .mtc _ 0 => [fd 63 62 .rw 0, fd 49 38 .rw 0, fd 19 0 .rw 0]
  | .mtc _ 1 => [fd 44 24 .rw 0, fd 18 0 .rw 0]
  | .mtc _ 2 => [fd 47 0 .ro 0]
  | .mtc _ 3 => [fd 60 40 .ro 0, fd 39 19 .ro 0, fd 18 0 .ro 0]
  | .mtc _ 4 => [fd 63 32 .ro 0, fd 31 0 .ro 0]
  | .mtc _ 5 => [fd 63 32 .ro 0, fd 31 0 .ro 0]
  | .mtc _ _ => []
  | .mtcCfg => [fd 63 44 .rw 0xFF000, fd 43 24 .rw 4096, fd 13 0 .rw 8192]
  | .mtcStat => [fd 63 48 .rc 0, fd 47 32 .rc 0, fd 31 16 .rc 0, fd 15 0 .rc 0]
  | .mtcPool => [fd 63 0 .ro 0]
  | .mtcUse => [fd 63 44 .ro 0, fd 43 23 .ro 0, fd 18 0 .ro 0]
  | .tree _ 0 => [fd 63 62 .rw 0, fd 61 61 .rw 0, fd 60 60 .rw 0, fd 59 59 .rw 0, fd 58 54 .rw 0, fd 53 47 .rw 0, fd 43 32 .rw 0, fd 31 24 .rw 0, fd 19 0 .rw 0]
  | .tree _ 1 => [fd 63 44 .rw 0, fd 43 28 .rw 0, fd 27 20 .rw 0, fd 19 0 .rw 0]
  | .tree _ 8 => [fd 63 48 .ro 0, fd 47 32 .ro 0, fd 31 0 .ro 0]
  | .tree _ 9 => [fd 63 32 .ro 0, fd 31 16 .ro 0, fd 15 8 .ro 0]
  | .tree _ 2 => [fd 59 40 .rw 0, fd 39 20 .rw 0, fd 19 0 .rw 0]
  | .tree _ 3 => [fd 59 40 .rw 0, fd 39 20 .rw 0, fd 19 0 .rw 0]
  | .tree _ 4 => [fd 59 40 .rw 0, fd 39 20 .rw 0, fd 19 0 .rw 0]
  | .tree _ 5 => [fd 59 40 .rw 0, fd 39 20 .rw 0, fd 19 0 .rw 0]
  | .tree _ 6 => [fd 59 40 .rw 0, fd 39 20 .rw 0, fd 19 0 .rw 0]
  | .tree _ 7 => [fd 19 0 .rw 0]
  | .tree _ _ => []
  | .mixStage => [fd 63 0 .ro 0]
  | .mixStat => [fd 63 48 .rc 0, fd 47 32 .rc 0, fd 31 16 .rc 0, fd 15 0 .rc 0]
  | .rteCfg => [fd 63 63 .rw 0, fd 62 62 .ro 0, fd 61 60 .ro 0, fd 51 40 .rw 0, fd 39 32 .rw 20, fd 28 18 .rw 256, fd 17 0 .rw 0]
  | .rtePort _ => [fd 63 62 .rw 0, fd 61 61 .rw 0, fd 60 54 .rw 0, fd 53 48 .ro 0, fd 47 47 .ro 0, fd 35 18 .ro 0]
  | .rteGrp _ _ 0 => [fd 63 63 .rw 0, fd 62 62 .rw 0, fd 61 60 .rw 0, fd 59 57 .rw 0, fd 56 50 .rw 0, fd 49 43 .rw 0, fd 42 36 .rw 0]
  | .rteGrp _ _ 1 => [fd 59 48 .rw 0, fd 43 32 .rw 0, fd 27 16 .rw 0, fd 11 0 .rw 0]
  | .rteGrp _ _ _ => []
  | .rteMem _ _ 0 => [fd 63 63 .rw 0, fd 62 62 .rw 0, fd 61 61 .rw 0, fd 60 59 .rw 0, fd 58 52 .rw 0, fd 51 45 .rw 0, fd 44 38 .rw 0]
  | .rteMem _ _ _ => []
  | .rteLoop _ => [fd 63 63 .rw 1, fd 62 62 .rw 0, fd 61 58 .rw 6, fd 57 54 .rw 0, fd 53 50 .rw 15, fd 49 44 .rw 16, fd 43 38 .rw 4, fd 37 32 .rw 48, fd 23 16 .ro 0, fd 15 12 .ro 0, fd 7 0 .ro 0]
  | .rteDrain => [fd 63 63 .w1s 0, fd 62 62 .w1s 0, fd 61 61 .w1s 0, fd 60 60 .ro 0, fd 31 0 .ro 0]
  | .rteStat => [fd 63 56 .rc 0, fd 55 48 .rc 0, fd 47 40 .rc 0, fd 39 32 .rc 0, fd 31 24 .rc 0, fd 23 16 .rc 0]
  | .lnkCfg _ => [fd 63 61 .rw 3, fd 60 58 .rw 2, fd 47 32 .rw 2000, fd 31 16 .rw 0]
  | .lnkStat _ => [fd 63 61 .ro 0, fd 59 48 .ro 0, fd 47 32 .ro 0, fd 31 16 .ro 0, fd 15 0 .ro 0]
  | .lnkCnt _ => [fd 63 48 .rc 0, fd 47 32 .rc 0, fd 31 24 .rc 0, fd 23 16 .rc 0, fd 15 8 .rc 0, fd 7 0 .rc 0]
  | .lnkCnt2 _ => [fd 63 32 .rc 0, fd 31 16 .rc 0, fd 15 0 .rc 0]
  | .lnkCredit _ _ => [fd 47 24 .ro 0, fd 23 0 .ro 0]
  | .lnkGlbCfg => [fd 63 63 .rw 1, fd 62 62 .rw 0, fd 55 48 .rw 25, fd 47 40 .rw 10, fd 39 32 .rw 128, fd 29 16 .rw 10, fd 15 0 .rw 200]
  | .lnkTimeStat => [fd 63 46 .ro 0, fd 45 38 .ro 0, fd 37 34 .ro 0, fd 33 27 .ro 0, fd 26 26 .ro 0, fd 25 25 .ro 0]
  | .lnkTimeOfs => [fd 63 32 .ro 0, fd 31 0 .ro 0]
  | .prtCfg _ => [fd 61 61 .rw 0, fd 60 60 .rw 0, fd 59 57 .rw 1, fd 56 56 .rw 1, fd 55 48 .rw 16, fd 47 44 .rw 4, fd 43 36 .rw 8, fd 35 28 .rw 20]
  | .prtStat _ => [fd 63 61 .ro 0, fd 60 58 .ro 0, fd 57 46 .ro 0, fd 45 34 .ro 0, fd 33 26 .ro 0, fd 25 25 .ro 0]
  | .lneCtl _ => [fd 2 2 .w1s 0, fd 1 1 .w1s 0, fd 0 0 .w1s 0]
  | .lneStat _ _ => [fd 63 62 .ro 0, fd 61 60 .ro 0, fd 59 59 .ro 0, fd 58 58 .ro 0, fd 57 57 .ro 0, fd 56 56 .ro 0, fd 55 55 .ro 0, fd 54 52 .ro 0, fd 15 0 .ro 0]
  | .lneCnt _ _ => [fd 63 32 .rc 0, fd 31 16 .rc 0, fd 15 8 .rc 0]
  | .lneEq _ _ => [fd 63 63 .rw 1, fd 62 62 .rw 0, fd 61 56 .ro 0, fd 55 32 .ro 0, fd 31 24 .ro 0, fd 23 16 .ro 0, fd 15 10 .rw 0, fd 9 4 .rw 63, fd 3 2 .rw 1, fd 1 1 .rw 0]
  | .lmpCfg _ => [fd 63 63 .rw 1, fd 62 62 .rwl 0, fd 61 61 .w1s 0, fd 60 60 .rw 1, fd 59 59 .rw 0, fd 55 44 .rw 200, fd 43 36 .rw 90]
  | .lmpStat _ => [fd 63 61 .ro 0, fd 60 60 .ro 0, fd 59 56 .ro 0, fd 55 44 .ro 0, fd 43 32 .ro 0]
  | .lmpCtl _ => [fd 2 2 .w1s 0, fd 1 1 .w1s 0, fd 0 0 .w1s 0]
  | .lmpId _ _ => [fd 63 0 .ro 0]
  | .lmpEmit _ _ => [fd 63 62 .ro 0, fd 61 58 .ro 15, fd 57 46 .ro 0, fd 45 34 .ro 0, fd 33 22 .ro 0, fd 21 0 .ro 0]
  | .hrbCfg _ => [fd 59 52 .rw 64, fd 51 44 .rw 8, fd 43 40 .ro 8]
  | .hrbStat _ => [fd 63 48 .rc 0, fd 47 32 .rc 0, fd 31 16 .rc 0, fd 15 0 .rc 0]
  | .hrbOcc _ => [fd 49 36 .ro 0, fd 35 22 .ro 0, fd 21 8 .ro 0]
  | .gdmCfg => [fd 63 56 .rw 24, fd 55 52 .rw 3, fd 47 32 .rw 1000, fd 31 16 .rw 4096, fd 15 8 .rw 8, fd 7 0 .rw 16]
  | .gdmMig => [fd 63 63 .w1s 0, fd 62 62 .w1s 0, fd 61 60 .ro 0, fd 59 55 .rw 0, fd 54 50 .rw 16, fd 21 0 .ro 0]
  | .gdmPlace => [fd 63 63 .rw 1, fd 62 62 .rw 0, fd 55 48 .rw 100, fd 47 40 .rw 64, fd 39 32 .rw 8, fd 31 28 .rw 4, fd 16 0 .ro 0]
  | .gdmStat => [fd 63 48 .rc 0, fd 47 32 .rc 0, fd 31 16 .ro 0, fd 15 0 .ro 0]
  | .alloc _ => [fd 63 63 .rw 0, fd 45 32 .rw 0, fd 13 0 .rw 0]
  | .gdmChStat p => [fd 63 61 .ro (if p < 16 then 0 else 1), fd 60 56 .ro (if p < 16 then p else 31), fd 55 42 .ro 0, fd 41 37 .ro 0, fd 36 30 .ro 0]
  | .gdmChCnt _ => [fd 63 44 .rc 0, fd 43 20 .rc 0, fd 19 8 .rc 0, fd 7 0 .rc 0]
  | .gdmErrinj _ => [fd 63 63 .w1s 0, fd 62 58 .rw 0, fd 57 56 .rw 1]
  | .gteEnt _ _ 0 => [fd 63 63 .rwl 0, fd 62 62 .rwl 0, fd 61 61 .rwl 0, fd 60 49 .rwl 0, fd 48 34 .rwl 0, fd 23 0 .rwl 0]
  | .gteEnt _ _ 1 => [fd 23 0 .rwl 0]
  | .gteEnt _ _ _ => []
  | .gteCtl _ => [fd 63 63 .rwl 0, fd 62 62 .w1s 0, fd 61 61 .rwl 0, fd 60 58 .rwl 4]
  | .gteStat _ => [fd 63 48 .rc 0, fd 47 32 .rc 0, fd 31 16 .rc 0]
  | .sem _ => [fd 63 48 .ro 0, fd 47 47 .ro 0, fd 46 46 .ro 0, fd 7 0 .ro 0]
  | .semStat => [fd 63 48 .rc 0, fd 47 32 .rc 0, fd 31 16 .rc 0, fd 10 0 .ro 0]
  | .lcsState => [fd 4 4 .ro 0, fd 3 2 .ro 0, fd 1 0 .ro 2]
  | .lcsAdvance => [fd 63 48 .rw 0, fd 1 0 .rw 0]
  | .fltSrc s => [fd 63 61 .rwl (srcSev s), fd 60 58 .ro (srcMinSev s), fd 57 57 .ro (srcFixed s), fd 56 56 .w1s 0, fd 55 55 .w1c 0, fd 54 54 .ro 0, fd 53 52 .ro 0, fd 51 51 .ro (srcKind s), fd 50 48 .ro (srcUnitK s), fd 47 47 .w1s 0, fd 15 0 .ro 0]
  | .fltDom _ 0 => [fd 63 0 .ro 0]
  | .fltDom _ 1 => [fd 63 0 .ro 0]
  | .fltDom _ 2 => [fd 63 63 .w1c 0, fd 47 32 .ro 0, fd 31 28 .ro 0, fd 26 16 .ro 0, fd 15 0 .ro 0]
  | .fltDom _ 3 => [fd 63 61 .ro 0, fd 60 58 .ro 0, fd 19 0 .ro 0]
  | .fltDom _ _ => []
  | .fltPin => [fd 63 63 .ro 1, fd 62 62 .ro 0, fd 61 61 .w1s 0, fd 2 0 .rwl 3]
  | .fltCfg => [fd 63 63 .w1s 0, fd 62 60 .rw 2, fd 59 57 .rw 2, fd 56 56 .rw 0, fd 19 0 .rw 0]
  | .fltHalt => [fd 63 63 .ro 0, fd 62 62 .ro 0, fd 61 61 .ro 0, fd 10 0 .ro 0]
  | .fltForceArg => [fd 19 0 .rw 0]
  | .islEngMap _ => [fd 63 63 .ro 0, fd 62 58 .ro 0, fd 57 41 .ro 0]
  | .cntCyc _ => [fd 63 0 .ro 0]
  | .cntCtl _ _ => [fd 63 63 .rw 0, fd 62 62 .rw 0, fd 61 61 .rw 0, fd 60 60 .w1c 0, fd 55 40 .rw 0, fd 7 0 .rw 0]
  | .cntVal _ _ => [fd 47 0 .rw 0]
  | .cntGlb => [fd 63 63 .rw 0, fd 62 62 .w1s 0]
  | .cntSmpCfg => [fd 63 63 .rw 0, fd 35 31 .rw 0, fd 30 21 .rw 0, fd 10 0 .rw 0]
  | .cntSmpBase => [fd 63 0 .rw 0]
  | .cntSmpPi => [fd 20 0 .ro 0]
  | .cntSmpCi => [fd 20 0 .rw 0]
  | .cntSmpStat => [fd 63 32 .rc 0]
  | .cntIsmp _ => [fd 63 63 .rw 0, fd 62 62 .rw 1, fd 61 61 .rw 1, fd 60 60 .rw 1, fd 52 48 .rw 16]
  | .cntBwTx _ => [fd 63 0 .ro 0]
  | .cntBwRx _ => [fd 63 0 .ro 0]
  | .cntBwSeq _ => [fd 63 32 .ro 0]
  | .timNow => [fd 63 0 .ro 0]
  | .timCfg => [fd 63 63 .rw 0, fd 62 62 .rw 0, fd 61 61 .rw 0, fd 8 0 .rw 100]
  | .timPpsStamp => [fd 63 0 .ro 0]
  | .audCfg => [fd 63 63 .rwl 0, fd 62 62 .w1s 0, fd 10 0 .rwl 1024]
  | .audSeq => [fd 63 0 .ro 0]
  | .audPtr => [fd 47 30 .ro 0, fd 17 0 .ro 0]
  | .audExport => [fd 17 0 .rw 0]
  | .audStat => [fd 63 48 .rc 0, fd 47 32 .rc 0, fd 31 0 .ro 0]
  | .audWear => [fd 26 0 .ro 0]
  | .glbRst => [fd 63 63 .w1s 0, fd 47 32 .w1s 0, fd 31 28 .w1s 0]
  | .glbPrtRst _ => [fd 63 0 .w1s 0]
  | .glbRstCause => [fd 63 63 .ro 1, fd 62 62 .ro 0, fd 61 61 .ro 0, fd 23 16 .rc 0, fd 15 0 .ro 0]
  | .glbBootStat => [fd 63 60 .ro 0, fd 59 56 .ro 0, fd 55 54 .ro 0, fd 53 53 .ro 0, fd 52 52 .ro 0, fd 51 48 .ro 0, fd 47 44 .ro 0, fd 31 0 .ro 0]
  | .glbBootCtl => [fd 63 63 .w1s 0, fd 62 62 .ro 0, fd 61 61 .rw 0, fd 55 48 .ro 0, fd 31 0 .rw 0]
  | .clkStat => [fd 63 63 .ro 0, fd 62 47 .ro 0, fd 46 43 .ro 0, fd 42 42 .ro 0]
  | .pwrAvs => [fd 63 63 .rw 1, fd 62 62 .rw 0, fd 61 52 .rw 850, fd 51 42 .rw 650, fd 41 36 .rw 25, fd 35 26 .ro 800]
  | .pwrDfs => [fd 63 63 .rw 1, fd 62 62 .rw 0, fd 61 60 .rw 2, fd 59 48 .rw 940, fd 47 36 .ro 0]
  | .pwrStat => [fd 63 32 .ro 0]
  | .pwrIsl _ => [fd 63 62 .ro 0, fd 61 61 .ro 0, fd 60 60 .ro 0, fd 59 50 .ro 0, fd 49 40 .ro 0, fd 39 30 .rw 600, fd 29 20 .rw 830]
  | .pwrThermCfg => [fd 63 56 .rw 90, fd 55 48 .rw 105, fd 47 44 .rw 3]
  | .pwrTemp _ => [fd 31 16 .ro 0, fd 15 0 .ro 0]
  | .glbId => [fd 63 48 .ro 0x1F3C, fd 47 32 .ro 0x0812, fd 31 24 .ro 0xB0, fd 23 16 .ro 16, fd 15 8 .ro 128, fd 7 0 .ro 4]
  | .glbRev => [fd 63 32 .ro 0x00010000]
  | .glbUid => [fd 63 0 .ro 1]
  | .fnId k => [fd 63 40 .ro (fnClass k), fd 31 16 .ro (fnDevice k), fd 15 0 .ro 0x1F3C]
  | .pieEvtPop => [fd 0 0 .w1s 0]
  | .pieAttn => [fd 47 32 .rc 0, fd 1 1 .rc 0, fd 0 0 .rc 0]
  | .glbWmReject => [fd 15 0 .rc 0]
  | .hptEaselStat _ => [fd 63 32 .rc 0, fd 31 0 .rc 0]
  | .hptDbRefused _ => [fd 31 0 .rc 0]
  | .hptAttn _ => [fd 63 63 .rc 0, fd 39 29 .rc 0, fd 28 19 .rc 0, fd 15 0 .rc 0]
  | .islEvtPop _ => [fd 0 0 .w1s 0]
  | .handlerDrop _ => [fd 31 0 .rc 0]
  | .dropSel _ => [fd 7 0 .rw 0]
  | .dropCnt _ _ => [fd 31 0 .rc 0]
  | .qcwStat => [fd 63 48 .rc 0]
  | .gdmMap i => [fd 60 56 .ro (8 * i + 7), fd 52 48 .ro (8 * i + 6), fd 44 40 .ro (8 * i + 5), fd 36 32 .ro (8 * i + 4), fd 28 24 .ro (8 * i + 3), fd 20 16 .ro (8 * i + 2), fd 12 8 .ro (8 * i + 1), fd 4 0 .ro (8 * i + 0)]
  | .cntBwCfg => [fd 63 63 .rw 1, fd 19 0 .rw 10]
  | .rteMgmtSrc _ => [fd 63 63 .rw 0, fd 19 0 .rw 0]
  | .cnxKey _ => [fd 63 0 .rw 0]
  | .audRec _ _ => [fd 63 0 .ro 0]
  | .tspQsel _ _ => [fd 19 0 .rw 0]
  | .g _ _ => [fd 63 0 .rw 0]
  | .h _ _ => [fd 63 0 .rw 0]
  | .pc _ => [fd 31 0 .ro 0]
  | .sel _ .qcw => [fd 19 0 .rw 0]
  | .sel _ .shp => [fd 15 0 .rw 0]
  | .sel _ .ten => [fd 11 0 .rw 0]
  | .sel _ .steer => [fd 11 0 .rw 0]
  | .sel _ .cnx => [fd 17 0 .rw 0]
  | .sel _ .cvs => [fd 19 0 .rw 0]
  | .sel _ .mtc => [fd 15 0 .rw 0]
  | .sel _ .rte => [fd 17 17 .rw 0, fd 16 16 .rw 0, fd 11 0 .rw 0]
  | .sel _ .tree => [fd 13 0 .rw 0]
  | .sel _ .alloc => [fd 12 0 .rw 0]
  | .sel _ .aud => [fd 16 0 .rw 0]
  | .sel _ .pal => [fd 24 16 .rw 0, fd 15 7 .rw 0]

/-- The value of a word after power-on reset: each field at the reset of its table. -/
def Reg.reset (r : Reg) : Word :=
  r.fields.foldl (fun w f => if f.reset = 0 then w else setBits w f.hi f.lo f.reset) 0

/-- A named field of a word. -/
structure Fld where
  reg : Reg
  hi : Nat
  lo : Nat
  deriving DecidableEq, Repr

end Sys2Proof.Machine
end

