-- ==== Sys2Proof/Machine/Fields.lean ====
section
/-! DEFINITION. The fields of the spec's register tables by name: F.<word>_<FIELD>. -/

namespace Sys2Proof.Machine.F

abbrev hptFnTen_EN (n f : Nat) : Fld := ⟨.hptFnTen n f, 63, 63⟩
abbrev hptFnTen_TENANT (n f : Nat) : Fld := ⟨.hptFnTen n f, 11, 0⟩
abbrev wm_FLAG (i : Nat) : Fld := ⟨.wm i, 63, 63⟩
abbrev wm_DEPTH (i : Nat) : Fld := ⟨.wm i, 60, 48⟩
abbrev wm_HI (i : Nat) : Fld := ⟨.wm i, 44, 32⟩
abbrev wm_LO (i : Nat) : Fld := ⟨.wm i, 28, 16⟩
abbrev wm_INTFC (i : Nat) : Fld := ⟨.wm i, 15, 15⟩
abbrev wm_SETS (i : Nat) : Fld := ⟨.wm i, 14, 0⟩
abbrev fcOutSel_EN (m : Nat) : Fld := ⟨.fcOutSel m, 8, 8⟩
abbrev fcOutSel_POL (m : Nat) : Fld := ⟨.fcOutSel m, 7, 7⟩
abbrev fcOutSel_SRC (m : Nat) : Fld := ⟨.fcOutSel m, 4, 0⟩
abbrev qctx_TYPE (q : Nat) : Fld := ⟨.qctx q 0, 63, 60⟩
abbrev qctx_STATE (q : Nat) : Fld := ⟨.qctx q 0, 59, 57⟩
abbrev qctx_LOG2SIZE (q : Nat) : Fld := ⟨.qctx q 0, 56, 52⟩
abbrev qctx_PRIV (q : Nat) : Fld := ⟨.qctx q 0, 51, 49⟩
abbrev qctx_SPLITPH (q : Nat) : Fld := ⟨.qctx q 0, 48, 48⟩
abbrev qctx_TENANT (q : Nat) : Fld := ⟨.qctx q 0, 47, 36⟩
abbrev qctx_FUNC (q : Nat) : Fld := ⟨.qctx q 0, 35, 26⟩
abbrev qctx_IRQ_MODE (q : Nat) : Fld := ⟨.qctx q 0, 25, 24⟩
abbrev qctx_VECTOR (q : Nat) : Fld := ⟨.qctx q 0, 10, 0⟩
abbrev qctx_BASE (q : Nat) : Fld := ⟨.qctx q 1, 63, 0⟩
abbrev qctx_CI (q : Nat) : Fld := ⟨.qctx q 2, 52, 32⟩
abbrev qctx_PI (q : Nat) : Fld := ⟨.qctx q 2, 20, 0⟩
abbrev qctx_CQ (q : Nat) : Fld := ⟨.qctx q 3, 59, 40⟩
abbrev qctx_EQ (q : Nat) : Fld := ⟨.qctx q 3, 39, 20⟩
abbrev qctx_MCTX (q : Nat) : Fld := ⟨.qctx q 3, 15, 0⟩
abbrev qctx_RSV (q : Nat) : Fld := ⟨.qctx q 4, 41, 21⟩
abbrev qctx_OPEN (q : Nat) : Fld := ⟨.qctx q 4, 6, 0⟩
abbrev qctx_DBDROP (q : Nat) : Fld := ⟨.qctx q 5, 63, 48⟩
abbrev qctx_MALCOUNT (q : Nat) : Fld := ⟨.qctx q 5, 47, 32⟩
abbrev qctx_LASTREASON (q : Nat) : Fld := ⟨.qctx q 5, 31, 24⟩
abbrev qctx_EVLOST (q : Nat) : Fld := ⟨.qctx q 5, 23, 0⟩
abbrev qctx_SHP_EN (q : Nat) : Fld := ⟨.qctx q 6, 48, 48⟩
abbrev qctx_SHAPER (q : Nat) : Fld := ⟨.qctx q 6, 47, 32⟩
abbrev qctx_SMP_EN (q : Nat) : Fld := ⟨.qctx q 6, 11, 11⟩
abbrev qctx_RAW (q : Nat) : Fld := ⟨.qctx q 6, 10, 10⟩
abbrev qctx_QUANTUM (q : Nat) : Fld := ⟨.qctx q 6, 9, 0⟩
abbrev qctx_DEFICIT (q : Nat) : Fld := ⟨.qctx q 7, 16, 0⟩
abbrev qctx_DEPTH_MAX (q : Nat) : Fld := ⟨.qctx q 8, 41, 21⟩
abbrev qctx_DEPTH_MIN (q : Nat) : Fld := ⟨.qctx q 8, 20, 0⟩
abbrev qctx_DEPTH_EWMA (q : Nat) : Fld := ⟨.qctx q 9, 28, 0⟩
abbrev qctx_DELAY_MAX (q : Nat) : Fld := ⟨.qctx q 10, 63, 32⟩
abbrev qctx_DELAY_MIN (q : Nat) : Fld := ⟨.qctx q 10, 31, 0⟩
abbrev qctx_DELAY_EWMA (q : Nat) : Fld := ⟨.qctx q 11, 39, 0⟩
abbrev qctx_HEADSINCE (q : Nat) : Fld := ⟨.qctx q 12, 63, 0⟩
abbrev qctx_LASTSAMPLE (q : Nat) : Fld := ⟨.qctx q 13, 63, 0⟩
abbrev qctx_SAMPLES (q : Nat) : Fld := ⟨.qctx q 14, 63, 32⟩
abbrev schHpCfg_QUANTUM (n : Nat) : Fld := ⟨.schHpCfg n, 9, 0⟩
abbrev shp_EN (i : Nat) : Fld := ⟨.shp i 0, 63, 63⟩
abbrev shp_PERIOD (i : Nat) : Fld := ⟨.shp i 0, 51, 32⟩
abbrev shp_ADD (i : Nat) : Fld := ⟨.shp i 0, 23, 0⟩
abbrev shp_BURST (i : Nat) : Fld := ⟨.shp i 1, 23, 0⟩
abbrev shp_PENDING (i : Nat) : Fld := ⟨.shp i 2, 63, 63⟩
abbrev shp_TOKENS (i : Nat) : Fld := ⟨.shp i 2, 24, 0⟩
abbrev shp_NEXT (i : Nat) : Fld := ⟨.shp i 3, 63, 0⟩
abbrev shp_LIVE0 (i : Nat) : Fld := ⟨.shp i 4, 63, 0⟩
abbrev shp_LIVE1 (i : Nat) : Fld := ⟨.shp i 5, 63, 0⟩
abbrev ten_MTR_EN (t : Nat) : Fld := ⟨.ten t 0, 34, 34⟩
abbrev ten_SHP_EN (t : Nat) : Fld := ⟨.ten t 0, 33, 33⟩
abbrev ten_SHAPER (t : Nat) : Fld := ⟨.ten t 0, 31, 16⟩
abbrev ten_QUANTUM (t : Nat) : Fld := ⟨.ten t 0, 9, 0⟩
abbrev ten_POL_EN (t : Nat) : Fld := ⟨.ten t 1, 63, 63⟩
abbrev ten_DG_ACT (t : Nat) : Fld := ⟨.ten t 1, 62, 61⟩
abbrev ten_PERIOD (t : Nat) : Fld := ⟨.ten t 1, 51, 32⟩
abbrev ten_ADD (t : Nat) : Fld := ⟨.ten t 1, 23, 0⟩
abbrev ten_WCLAMP (t : Nat) : Fld := ⟨.ten t 2, 35, 24⟩
abbrev ten_BURST (t : Nat) : Fld := ⟨.ten t 2, 23, 0⟩
abbrev ten_POL_TOKENS (t : Nat) : Fld := ⟨.ten t 3, 24, 0⟩
abbrev ten_POL_MARKED (t : Nat) : Fld := ⟨.ten t 4, 63, 32⟩
abbrev ten_POL_DROPPED (t : Nat) : Fld := ⟨.ten t 4, 31, 0⟩
abbrev smpCfg_EN : Fld := ⟨.smpCfg, 63, 63⟩
abbrev smpCfg_SHIFT : Fld := ⟨.smpCfg, 47, 44⟩
abbrev smpCfg_BATCH : Fld := ⟨.smpCfg, 41, 32⟩
abbrev smpCfg_PERIOD : Fld := ⟨.smpCfg, 23, 0⟩
abbrev mtrCfg_EN : Fld := ⟨.mtrCfg, 63, 63⟩
abbrev mtrCfg_INTERVAL : Fld := ⟨.mtrCfg, 47, 36⟩
abbrev mtrCfg_LOG2SIZE : Fld := ⟨.mtrCfg, 35, 31⟩
abbrev mtrCfg_FUNC : Fld := ⟨.mtrCfg, 30, 21⟩
abbrev mtrCfg_VECTOR : Fld := ⟨.mtrCfg, 10, 0⟩
abbrev mtrBase_BASE : Fld := ⟨.mtrBase, 63, 0⟩
abbrev mtrPi_PI : Fld := ⟨.mtrPi, 20, 0⟩
abbrev mtrCi_CI : Fld := ⟨.mtrCi, 20, 0⟩
abbrev schStat_REJECT : Fld := ⟨.schStat, 63, 48⟩
abbrev schStat_OVERRUN : Fld := ⟨.schStat, 47, 32⟩
abbrev schStat_MTR_SKIP : Fld := ⟨.schStat, 31, 16⟩
abbrev csr_ISLAND (c : Nat) : Fld := ⟨.csr c 0, 55, 52⟩
abbrev csr_ENGINE (c : Nat) : Fld := ⟨.csr c 0, 51, 47⟩
abbrev csr_CONTEXT (c : Nat) : Fld := ⟨.csr c 0, 46, 44⟩
abbrev csr_TENANT (c : Nat) : Fld := ⟨.csr c 0, 43, 32⟩
abbrev csr_TRAPPED (c : Nat) : Fld := ⟨.csr c 0, 0, 0⟩
abbrev csr_VALUE (c : Nat) : Fld := ⟨.csr c 1, 63, 16⟩
abbrev csr_CODE (c : Nat) : Fld := ⟨.csr c 1, 7, 0⟩
abbrev csr_EPC (c : Nat) : Fld := ⟨.csr c 2, 31, 0⟩
abbrev csr_MASK (c : Nat) : Fld := ⟨.csr c 3, 15, 0⟩
abbrev csr_LIMIT (c : Nat) : Fld := ⟨.csr c 4, 47, 32⟩
abbrev csr_REMAINING (c : Nat) : Fld := ⟨.csr c 4, 15, 0⟩
abbrev csr_LEVEL (c : Nat) : Fld := ⟨.csr c 5, 1, 0⟩
abbrev wmbxCmd_CMD : Fld := ⟨.wmbxCmd, 7, 0⟩
abbrev wmbxArg_ARG (i : Nat) : Fld := ⟨.wmbxArg i, 63, 0⟩
abbrev wmbxStat_BUSY : Fld := ⟨.wmbxStat, 63, 63⟩
abbrev wmbxStat_OWNER : Fld := ⟨.wmbxStat, 47, 32⟩
abbrev wmbxStat_COLLIDE : Fld := ⟨.wmbxStat, 31, 16⟩
abbrev wmbxStat_RESULT : Fld := ⟨.wmbxStat, 7, 0⟩
abbrev ctxCfg_EN (c : Nat) : Fld := ⟨.ctxCfg c, 63, 63⟩
abbrev ctxCfg_RST (c : Nat) : Fld := ⟨.ctxCfg c, 62, 62⟩
abbrev ctxCfg_STATE (c : Nat) : Fld := ⟨.ctxCfg c, 61, 60⟩
abbrev ctxCfg_LEVEL (c : Nat) : Fld := ⟨.ctxCfg c, 59, 58⟩
abbrev ctxCfg_TENANT (c : Nat) : Fld := ⟨.ctxCfg c, 55, 44⟩
abbrev ctxCfg_SKETCH (c : Nat) : Fld := ⟨.ctxCfg c, 43, 32⟩
abbrev ctxCfg_PAL_BASE (c : Nat) : Fld := ⟨.ctxCfg c, 31, 24⟩
abbrev ctxCfg_PAL_UNITS (c : Nat) : Fld := ⟨.ctxCfg c, 23, 16⟩
abbrev ctxCfg_MASK (c : Nat) : Fld := ⟨.ctxCfg c, 15, 0⟩
abbrev engStat_REFUSED (e : Nat) : Fld := ⟨.engStat e, 63, 48⟩
abbrev engStat_EVLOST (e : Nat) : Fld := ⟨.engStat e, 47, 32⟩
abbrev engStat_STEERQ (e : Nat) : Fld := ⟨.engStat e, 22, 14⟩
abbrev steer_ISLAND (i : Nat) : Fld := ⟨.steer i, 7, 4⟩
abbrev steer_ENGINE (i : Nat) : Fld := ⟨.steer i, 3, 0⟩
abbrev conn_STATE (n : Nat) : Fld := ⟨.conn n 0, 63, 61⟩
abbrev conn_MODE (n : Nat) : Fld := ⟨.conn n 0, 60, 60⟩
abbrev conn_E2E (n : Nat) : Fld := ⟨.conn n 0, 59, 58⟩
abbrev conn_EPOCH (n : Nat) : Fld := ⟨.conn n 0, 57, 50⟩
abbrev conn_TENANT (n : Nat) : Fld := ⟨.conn n 0, 49, 38⟩
abbrev conn_PEERCONN (n : Nat) : Fld := ⟨.conn n 0, 37, 20⟩
abbrev conn_PEER (n : Nat) : Fld := ⟨.conn n 0, 19, 0⟩
abbrev conn_LOCAL (n : Nat) : Fld := ⟨.conn n 1, 63, 44⟩
abbrev conn_EQ (n : Nat) : Fld := ⟨.conn n 1, 43, 24⟩
abbrev conn_CWND_INIT (n : Nat) : Fld := ⟨.conn n 1, 23, 12⟩
abbrev conn_RETRY_LIMIT (n : Nat) : Fld := ⟨.conn n 1, 7, 0⟩
abbrev conn_TXNEXT (n : Nat) : Fld := ⟨.conn n 2, 63, 32⟩
abbrev conn_TXCUM (n : Nat) : Fld := ⟨.conn n 2, 31, 0⟩
abbrev conn_RTXNEXT (n : Nat) : Fld := ⟨.conn n 3, 63, 32⟩
abbrev conn_RTXCUM (n : Nat) : Fld := ⟨.conn n 3, 31, 0⟩
abbrev conn_RXNEXT (n : Nat) : Fld := ⟨.conn n 4, 63, 32⟩
abbrev conn_RRXNEXT (n : Nat) : Fld := ⟨.conn n 4, 31, 0⟩
abbrev conn_CWND (n : Nat) : Fld := ⟨.conn n 5, 59, 48⟩
abbrev conn_PEERCLAMP (n : Nat) : Fld := ⟨.conn n 5, 43, 32⟩
abbrev conn_SRTT (n : Nat) : Fld := ⟨.conn n 5, 31, 0⟩
abbrev conn_RTO (n : Nat) : Fld := ⟨.conn n 6, 63, 32⟩
abbrev conn_BCAUSE (n : Nat) : Fld := ⟨.conn n 6, 31, 24⟩
abbrev conn_TIDE (n : Nat) : Fld := ⟨.conn n 6, 23, 12⟩
abbrev conn_RETRIES (n : Nat) : Fld := ⟨.conn n 6, 7, 0⟩
abbrev conn_NEXTKEY (n : Nat) : Fld := ⟨.conn n 7, 1, 1⟩
abbrev conn_CURKEY (n : Nat) : Fld := ⟨.conn n 7, 0, 0⟩
abbrev conn_RETRANS (n : Nat) : Fld := ⟨.conn n 8, 63, 32⟩
abbrev conn_DUPS (n : Nat) : Fld := ⟨.conn n 8, 31, 0⟩
abbrev conn_AUTHFAIL (n : Nat) : Fld := ⟨.conn n 9, 63, 32⟩
abbrev conn_DISCARDS (n : Nat) : Fld := ⟨.conn n 9, 31, 0⟩
abbrev conn_RTTVAR (n : Nat) : Fld := ⟨.conn n 10, 31, 0⟩
abbrev cvs_STATE (i : Nat) : Fld := ⟨.cvs i 0, 63, 62⟩
abbrev cvs_RREAD (i : Nat) : Fld := ⟨.cvs i 0, 61, 61⟩
abbrev cvs_RWRITE (i : Nat) : Fld := ⟨.cvs i 0, 60, 60⟩
abbrev cvs_RATOM (i : Nat) : Fld := ⟨.cvs i 0, 59, 59⟩
abbrev cvs_DEVMEM (i : Nat) : Fld := ⟨.cvs i 0, 58, 58⟩
abbrev cvs_FUNC (i : Nat) : Fld := ⟨.cvs i 0, 57, 48⟩
abbrev cvs_TENANT (i : Nat) : Fld := ⟨.cvs i 0, 47, 36⟩
abbrev cvs_KEYTAG (i : Nat) : Fld := ⟨.cvs i 0, 35, 24⟩
abbrev cvs_EQ (i : Nat) : Fld := ⟨.cvs i 0, 19, 0⟩
abbrev cvs_BASE (i : Nat) : Fld := ⟨.cvs i 1, 63, 0⟩
abbrev cvs_LENGTH (i : Nat) : Fld := ⟨.cvs i 2, 47, 0⟩
abbrev cvs_INFLIGHT (i : Nat) : Fld := ⟨.cvs i 3, 31, 0⟩
abbrev cnxKeyCmd_RESULT : Fld := ⟨.cnxKeyCmd, 63, 56⟩
abbrev cnxKeyCmd_GO : Fld := ⟨.cnxKeyCmd, 2, 2⟩
abbrev cnxKeyCmd_INSTALL : Fld := ⟨.cnxKeyCmd, 1, 1⟩
abbrev cnxKeyCmd_SLOT : Fld := ⟨.cnxKeyCmd, 0, 0⟩
abbrev cnxTiming_RTO_MAX : Fld := ⟨.cnxTiming, 63, 54⟩
abbrev cnxTiming_RTO_INIT : Fld := ⟨.cnxTiming, 53, 46⟩
abbrev cnxTiming_RTO_MIN : Fld := ⟨.cnxTiming, 45, 40⟩
abbrev cnxTiming_ACK_DELAY : Fld := ⟨.cnxTiming, 39, 32⟩
abbrev cnxTiming_ACK_EVERY : Fld := ⟨.cnxTiming, 31, 24⟩
abbrev cnxTiming_NR_BACKOFF : Fld := ⟨.cnxTiming, 23, 16⟩
abbrev cnxRtxCfg_INUSE : Fld := ⟨.cnxRtxCfg, 47, 16⟩
abbrev cnxRtxCfg_SIZE : Fld := ⟨.cnxRtxCfg, 15, 0⟩
abbrev cnxStat_REFUSED : Fld := ⟨.cnxStat, 63, 48⟩
abbrev cnxStat_TIDE_FULL : Fld := ⟨.cnxStat, 47, 32⟩
abbrev cnxStat_RTX_FULL : Fld := ⟨.cnxStat, 31, 16⟩
abbrev cnxStat_BADACK : Fld := ⟨.cnxStat, 15, 0⟩
abbrev mtc_STATE (m : Nat) : Fld := ⟨.mtc m 0, 63, 62⟩
abbrev mtc_TENANT (m : Nat) : Fld := ⟨.mtc m 0, 49, 38⟩
abbrev mtc_EQ (m : Nat) : Fld := ⟨.mtc m 0, 19, 0⟩
abbrev mtc_POST_MAX (m : Nat) : Fld := ⟨.mtc m 1, 44, 24⟩
abbrev mtc_UNEXP_MAX (m : Nat) : Fld := ⟨.mtc m 1, 18, 0⟩
abbrev mtc_NEXTORD (m : Nat) : Fld := ⟨.mtc m 2, 47, 0⟩
abbrev mtc_POSTED (m : Nat) : Fld := ⟨.mtc m 3, 60, 40⟩
abbrev mtc_WILD (m : Nat) : Fld := ⟨.mtc m 3, 39, 19⟩
abbrev mtc_UNEXP (m : Nat) : Fld := ⟨.mtc m 3, 18, 0⟩
abbrev mtc_MATCHES (m : Nat) : Fld := ⟨.mtc m 4, 63, 32⟩
abbrev mtc_LATE (m : Nat) : Fld := ⟨.mtc m 4, 31, 0⟩
abbrev mtc_NR (m : Nat) : Fld := ⟨.mtc m 5, 63, 32⟩
abbrev mtc_TRUNC (m : Nat) : Fld := ⟨.mtc m 5, 31, 0⟩
abbrev mtcCfg_RNDV_BASE : Fld := ⟨.mtcCfg, 63, 44⟩
abbrev mtcCfg_RNDV_COUNT : Fld := ⟨.mtcCfg, 43, 24⟩
abbrev mtcCfg_EAGER_MAX : Fld := ⟨.mtcCfg, 13, 0⟩
abbrev mtcStat_REFUSED : Fld := ⟨.mtcStat, 63, 48⟩
abbrev mtcStat_UNBOUND : Fld := ⟨.mtcStat, 47, 32⟩
abbrev mtcStat_RNDV_WAIT : Fld := ⟨.mtcStat, 31, 16⟩
abbrev mtcStat_NR : Fld := ⟨.mtcStat, 15, 0⟩
abbrev mtcPool_BASE : Fld := ⟨.mtcPool, 63, 0⟩
abbrev mtcUse_RNDV : Fld := ⟨.mtcUse, 63, 44⟩
abbrev mtcUse_POSTED : Fld := ⟨.mtcUse, 43, 23⟩
abbrev mtcUse_UNEXP : Fld := ⟨.mtcUse, 18, 0⟩
abbrev tree_STATE (t : Nat) : Fld := ⟨.tree t 0, 63, 62⟩
abbrev tree_ROOT (t : Nat) : Fld := ⟨.tree t 0, 61, 61⟩
abbrev tree_CRC (t : Nat) : Fld := ⟨.tree t 0, 60, 60⟩
abbrev tree_MCDELIV (t : Nat) : Fld := ⟨.tree t 0, 59, 59⟩
abbrev tree_NCHILD (t : Nat) : Fld := ⟨.tree t 0, 58, 54⟩
abbrev tree_NLOCAL (t : Nat) : Fld := ⟨.tree t 0, 53, 47⟩
abbrev tree_TENANT (t : Nat) : Fld := ⟨.tree t 0, 43, 32⟩
abbrev tree_EPOCH (t : Nat) : Fld := ⟨.tree t 0, 31, 24⟩
abbrev tree_PARENT (t : Nat) : Fld := ⟨.tree t 0, 19, 0⟩
abbrev tree_EQ (t : Nat) : Fld := ⟨.tree t 1, 63, 44⟩
abbrev tree_MCTX (t : Nat) : Fld := ⟨.tree t 1, 43, 28⟩
abbrev tree_TIMEOUT (t : Nat) : Fld := ⟨.tree t 1, 27, 20⟩
abbrev tree_ROOTEP (t : Nat) : Fld := ⟨.tree t 1, 19, 0⟩
abbrev tree_INST (t : Nat) : Fld := ⟨.tree t 8, 63, 48⟩
abbrev tree_MSEQ (t : Nat) : Fld := ⟨.tree t 8, 47, 32⟩
abbrev tree_CHUNK (t : Nat) : Fld := ⟨.tree t 8, 31, 0⟩
abbrev tree_PRUNED (t : Nat) : Fld := ⟨.tree t 9, 63, 32⟩
abbrev tree_DUPS (t : Nat) : Fld := ⟨.tree t 9, 31, 16⟩
abbrev tree_BCAUSE (t : Nat) : Fld := ⟨.tree t 9, 15, 8⟩
abbrev mixStage_BASE : Fld := ⟨.mixStage, 63, 0⟩
abbrev mixStat_REFUSED : Fld := ⟨.mixStat, 63, 48⟩
abbrev mixStat_BADTREE : Fld := ⟨.mixStat, 47, 32⟩
abbrev mixStat_MC_DROP : Fld := ⟨.mixStat, 31, 16⟩
abbrev mixStat_RESIDUE : Fld := ⟨.mixStat, 15, 0⟩
abbrev rteCfg_DNV : Fld := ⟨.rteCfg, 63, 63⟩
abbrev rteCfg_BANK : Fld := ⟨.rteCfg, 62, 62⟩
abbrev rteCfg_DSTATE : Fld := ⟨.rteCfg, 61, 60⟩
abbrev rteCfg_GMAX : Fld := ⟨.rteCfg, 51, 40⟩
abbrev rteCfg_TIDE_STALE : Fld := ⟨.rteCfg, 39, 32⟩
abbrev rteCfg_FERRY_WAIT : Fld := ⟨.rteCfg, 28, 18⟩
abbrev rteCfg_DEVNUM : Fld := ⟨.rteCfg, 17, 0⟩
abbrev rtePort_ROLE (n : Nat) : Fld := ⟨.rtePort n, 63, 62⟩
abbrev rtePort_TWEN (n : Nat) : Fld := ⟨.rtePort n, 61, 61⟩
abbrev rtePort_TWIN (n : Nat) : Fld := ⟨.rtePort n, 60, 54⟩
abbrev rtePort_ORD (n : Nat) : Fld := ⟨.rtePort n, 53, 48⟩
abbrev rtePort_UP (n : Nat) : Fld := ⟨.rtePort n, 47, 47⟩
abbrev rtePort_NBR (n : Nat) : Fld := ⟨.rtePort n, 35, 18⟩
abbrev rteGrp_VALID (b i : Nat) : Fld := ⟨.rteGrp b i 0, 63, 63⟩
abbrev rteGrp_FENCE (b i : Nat) : Fld := ⟨.rteGrp b i 0, 62, 62⟩
abbrev rteGrp_NDIR (b i : Nat) : Fld := ⟨.rteGrp b i 0, 61, 60⟩
abbrev rteGrp_NVIA (b i : Nat) : Fld := ⟨.rteGrp b i 0, 59, 57⟩
abbrev rteGrp_FPORT (b i : Nat) : Fld := ⟨.rteGrp b i 0, 56, 50⟩
abbrev rteGrp_GPORT0 (b i : Nat) : Fld := ⟨.rteGrp b i 0, 49, 43⟩
abbrev rteGrp_GPORT1 (b i : Nat) : Fld := ⟨.rteGrp b i 0, 42, 36⟩
abbrev rteMem_VALID (b i : Nat) : Fld := ⟨.rteMem b i 0, 63, 63⟩
abbrev rteMem_FENCE (b i : Nat) : Fld := ⟨.rteMem b i 0, 62, 62⟩
abbrev rteMem_SELF (b i : Nat) : Fld := ⟨.rteMem b i 0, 61, 61⟩
abbrev rteMem_NLOC (b i : Nat) : Fld := ⟨.rteMem b i 0, 60, 59⟩
abbrev rteMem_FPORT (b i : Nat) : Fld := ⟨.rteMem b i 0, 58, 52⟩
abbrev rteMem_LPORT0 (b i : Nat) : Fld := ⟨.rteMem b i 0, 51, 45⟩
abbrev rteMem_LPORT1 (b i : Nat) : Fld := ⟨.rteMem b i 0, 44, 38⟩
abbrev rteLoop_EN (n : Nat) : Fld := ⟨.rteLoop n, 63, 63⟩
abbrev rteLoop_FREEZE (n : Nat) : Fld := ⟨.rteLoop n, 62, 62⟩
abbrev rteLoop_BIAS (n : Nat) : Fld := ⟨.rteLoop n, 61, 58⟩
abbrev rteLoop_BIAS_MIN (n : Nat) : Fld := ⟨.rteLoop n, 57, 54⟩
abbrev rteLoop_BIAS_MAX (n : Nat) : Fld := ⟨.rteLoop n, 53, 50⟩
abbrev rteLoop_MARKTH (n : Nat) : Fld := ⟨.rteLoop n, 49, 44⟩
abbrev rteLoop_MTH_MIN (n : Nat) : Fld := ⟨.rteLoop n, 43, 38⟩
abbrev rteLoop_MTH_MAX (n : Nat) : Fld := ⟨.rteLoop n, 37, 32⟩
abbrev rteLoop_MARKRATE (n : Nat) : Fld := ⟨.rteLoop n, 23, 16⟩
abbrev rteLoop_QMEAN (n : Nat) : Fld := ⟨.rteLoop n, 15, 12⟩
abbrev rteLoop_NMRATE (n : Nat) : Fld := ⟨.rteLoop n, 7, 0⟩
abbrev rteDrain_START : Fld := ⟨.rteDrain, 63, 63⟩
abbrev rteDrain_SWITCH : Fld := ⟨.rteDrain, 62, 62⟩
abbrev rteDrain_RESUME : Fld := ⟨.rteDrain, 61, 61⟩
abbrev rteDrain_EMPTY : Fld := ⟨.rteDrain, 60, 60⟩
abbrev rteDrain_ACTIVITY : Fld := ⟨.rteDrain, 31, 0⟩
abbrev rteStat_REFUSED : Fld := ⟨.rteStat, 63, 56⟩
abbrev rteStat_FENCED : Fld := ⟨.rteStat, 55, 48⟩
abbrev rteStat_NOROUTE : Fld := ⟨.rteStat, 47, 40⟩
abbrev rteStat_FERRY_DOWN : Fld := ⟨.rteStat, 39, 32⟩
abbrev rteStat_MGMT_REFUSED : Fld := ⟨.rteStat, 31, 24⟩
abbrev rteStat_DG_DROP : Fld := ⟨.rteStat, 23, 16⟩
abbrev lnkCfg_NREPLAY (n : Nat) : Fld := ⟨.lnkCfg n, 63, 61⟩
abbrev lnkCfg_MREPLAY (n : Nat) : Fld := ⟨.lnkCfg n, 60, 58⟩
abbrev lnkCfg_RTIMEOUT (n : Nat) : Fld := ⟨.lnkCfg n, 47, 32⟩
abbrev lnkCfg_ASYM (n : Nat) : Fld := ⟨.lnkCfg n, 31, 16⟩
abbrev lnkStat_LSTATE (n : Nat) : Fld := ⟨.lnkStat n, 63, 61⟩
abbrev lnkStat_RBUSE (n : Nat) : Fld := ⟨.lnkStat n, 59, 48⟩
abbrev lnkStat_RMARK (n : Nat) : Fld := ⟨.lnkStat n, 47, 32⟩
abbrev lnkStat_NEXT (n : Nat) : Fld := ⟨.lnkStat n, 31, 16⟩
abbrev lnkStat_EXPECT (n : Nat) : Fld := ⟨.lnkStat n, 15, 0⟩
abbrev lnkCnt_CRCERR (n : Nat) : Fld := ⟨.lnkCnt n, 63, 48⟩
abbrev lnkCnt_REPLAYS (n : Nat) : Fld := ⟨.lnkCnt n, 47, 32⟩
abbrev lnkCnt_RETRAINS (n : Nat) : Fld := ⟨.lnkCnt n, 31, 24⟩
abbrev lnkCnt_DOWNS (n : Nat) : Fld := ⟨.lnkCnt n, 23, 16⟩
abbrev lnkCnt_STOMPED (n : Nat) : Fld := ⟨.lnkCnt n, 15, 8⟩
abbrev lnkCnt_OVERRUN (n : Nat) : Fld := ⟨.lnkCnt n, 7, 0⟩
abbrev lnkCnt2_DUPFRAMES (n : Nat) : Fld := ⟨.lnkCnt2 n, 63, 32⟩
abbrev lnkCnt2_BADACK (n : Nat) : Fld := ⟨.lnkCnt2 n, 31, 16⟩
abbrev lnkCnt2_REINJECT (n : Nat) : Fld := ⟨.lnkCnt2 n, 15, 0⟩
abbrev lnkCredit_LIMIT (n j : Nat) : Fld := ⟨.lnkCredit n j, 47, 24⟩
abbrev lnkCredit_USED (n j : Nat) : Fld := ⟨.lnkCredit n j, 23, 0⟩
abbrev lnkGlbCfg_TEN : Fld := ⟨.lnkGlbCfg, 63, 63⟩
abbrev lnkGlbCfg_FREEZE : Fld := ⟨.lnkGlbCfg, 62, 62⟩
abbrev lnkGlbCfg_CRPERIOD : Fld := ⟨.lnkGlbCfg, 55, 48⟩
abbrev lnkGlbCfg_TPERIOD : Fld := ⟨.lnkGlbCfg, 47, 40⟩
abbrev lnkGlbCfg_GMPRIO : Fld := ⟨.lnkGlbCfg, 39, 32⟩
abbrev lnkGlbCfg_STEP_TH : Fld := ⟨.lnkGlbCfg, 29, 16⟩
abbrev lnkGlbCfg_SLEW_MAX : Fld := ⟨.lnkGlbCfg, 15, 0⟩
abbrev lnkTimeStat_GMDEV : Fld := ⟨.lnkTimeStat, 63, 46⟩
abbrev lnkTimeStat_GMPRIO : Fld := ⟨.lnkTimeStat, 45, 38⟩
abbrev lnkTimeStat_DIST : Fld := ⟨.lnkTimeStat, 37, 34⟩
abbrev lnkTimeStat_PARENT : Fld := ⟨.lnkTimeStat, 33, 27⟩
abbrev lnkTimeStat_GM : Fld := ⟨.lnkTimeStat, 26, 26⟩
abbrev lnkTimeStat_FREERUN : Fld := ⟨.lnkTimeStat, 25, 25⟩
abbrev lnkTimeOfs_DELAY : Fld := ⟨.lnkTimeOfs, 63, 32⟩
abbrev lnkTimeOfs_OFFSET : Fld := ⟨.lnkTimeOfs, 31, 0⟩
abbrev prtCfg_FEC_MODE (n : Nat) : Fld := ⟨.prtCfg n, 61, 61⟩
abbrev prtCfg_QUIESCE (n : Nat) : Fld := ⟨.prtCfg n, 60, 60⟩
abbrev prtCfg_WMIN (n : Nat) : Fld := ⟨.prtCfg n, 59, 57⟩
abbrev prtCfg_AUTOSPARE (n : Nat) : Fld := ⟨.prtCfg n, 56, 56⟩
abbrev prtCfg_SYMTH (n : Nat) : Fld := ⟨.prtCfg n, 55, 48⟩
abbrev prtCfg_UNCTH (n : Nat) : Fld := ⟨.prtCfg n, 47, 44⟩
abbrev prtCfg_RT_LIMIT (n : Nat) : Fld := ⟨.prtCfg n, 43, 36⟩
abbrev prtCfg_TRAIN_MIN (n : Nat) : Fld := ⟨.prtCfg n, 35, 28⟩
abbrev prtStat_PSTATE (n : Nat) : Fld := ⟨.prtStat n, 63, 61⟩
abbrev prtStat_WIDTH (n : Nat) : Fld := ⟨.prtStat n, 60, 58⟩
abbrev prtStat_TXMAP (n : Nat) : Fld := ⟨.prtStat n, 57, 46⟩
abbrev prtStat_RXMAP (n : Nat) : Fld := ⟨.prtStat n, 45, 34⟩
abbrev prtStat_PCOUNT (n : Nat) : Fld := ⟨.prtStat n, 33, 26⟩
abbrev prtStat_LEADER (n : Nat) : Fld := ⟨.prtStat n, 25, 25⟩
abbrev lneCtl_RETRAIN (n : Nat) : Fld := ⟨.lneCtl n, 2, 2⟩
abbrev lneCtl_WIDEN (n : Nat) : Fld := ⟨.lneCtl n, 1, 1⟩
abbrev lneCtl_RESTART (n : Nat) : Fld := ⟨.lneCtl n, 0, 0⟩
abbrev lneStat_RXHEALTH (n l : Nat) : Fld := ⟨.lneStat n l, 63, 62⟩
abbrev lneStat_PEERHEALTH (n l : Nat) : Fld := ⟨.lneStat n l, 61, 60⟩
abbrev lneStat_CDRLOCK (n l : Nat) : Fld := ⟨.lneStat n l, 59, 59⟩
abbrev lneStat_ALOCK (n l : Nat) : Fld := ⟨.lneStat n l, 58, 58⟩
abbrev lneStat_BLOCK (n l : Nat) : Fld := ⟨.lneStat n l, 57, 57⟩
abbrev lneStat_MIRROR (n l : Nat) : Fld := ⟨.lneStat n l, 56, 56⟩
abbrev lneStat_MISWIRED (n l : Nat) : Fld := ⟨.lneStat n l, 55, 55⟩
abbrev lneStat_PEERLANE (n l : Nat) : Fld := ⟨.lneStat n l, 54, 52⟩
abbrev lneStat_SKEW (n l : Nat) : Fld := ⟨.lneStat n l, 15, 0⟩
abbrev lneCnt_SYMCORR (n l : Nat) : Fld := ⟨.lneCnt n l, 63, 32⟩
abbrev lneCnt_UNCORR (n l : Nat) : Fld := ⟨.lneCnt n l, 31, 16⟩
abbrev lneCnt_LOCKLOSS (n l : Nat) : Fld := ⟨.lneCnt n l, 15, 8⟩
abbrev lneEq_EN (n l : Nat) : Fld := ⟨.lneEq n l, 63, 63⟩
abbrev lneEq_FREEZE (n l : Nat) : Fld := ⟨.lneEq n l, 62, 62⟩
abbrev lneEq_CTLE (n l : Nat) : Fld := ⟨.lneEq n l, 61, 56⟩
abbrev lneEq_DFE (n l : Nat) : Fld := ⟨.lneEq n l, 55, 32⟩
abbrev lneEq_CDRPH (n l : Nat) : Fld := ⟨.lneEq n l, 31, 24⟩
abbrev lneEq_EYE (n l : Nat) : Fld := ⟨.lneEq n l, 23, 16⟩
abbrev lneEq_CTLE_MIN (n l : Nat) : Fld := ⟨.lneEq n l, 15, 10⟩
abbrev lneEq_CTLE_MAX (n l : Nat) : Fld := ⟨.lneEq n l, 9, 4⟩
abbrev lneEq_CDRBW (n l : Nat) : Fld := ⟨.lneEq n l, 3, 2⟩
abbrev lneEq_CDRFRZ (n l : Nat) : Fld := ⟨.lneEq n l, 1, 1⟩
abbrev lmpCfg_AUTOEN (n : Nat) : Fld := ⟨.lmpCfg n, 63, 63⟩
abbrev lmpCfg_ALLOW_UNAUTH (n : Nat) : Fld := ⟨.lmpCfg n, 62, 62⟩
abbrev lmpCfg_ULOCK (n : Nat) : Fld := ⟨.lmpCfg n, 61, 61⟩
abbrev lmpCfg_LOOP_EN (n : Nat) : Fld := ⟨.lmpCfg n, 60, 60⟩
abbrev lmpCfg_FREEZE (n : Nat) : Fld := ⟨.lmpCfg n, 59, 59⟩
abbrev lmpCfg_PSET (n : Nat) : Fld := ⟨.lmpCfg n, 55, 44⟩
abbrev lmpCfg_EOL_PCT (n : Nat) : Fld := ⟨.lmpCfg n, 43, 36⟩
abbrev lmpStat_MSTATE (n : Nat) : Fld := ⟨.lmpStat n, 63, 61⟩
abbrev lmpStat_PRESENT (n : Nat) : Fld := ⟨.lmpStat n, 60, 60⟩
abbrev lmpStat_SPARES (n : Nat) : Fld := ⟨.lmpStat n, 59, 56⟩
abbrev lmpStat_INSERVICE (n : Nat) : Fld := ⟨.lmpStat n, 55, 44⟩
abbrev lmpStat_OUT (n : Nat) : Fld := ⟨.lmpStat n, 43, 32⟩
abbrev lmpCtl_ENABLE (n : Nat) : Fld := ⟨.lmpCtl n, 2, 2⟩
abbrev lmpCtl_DISABLE (n : Nat) : Fld := ⟨.lmpCtl n, 1, 1⟩
abbrev lmpCtl_REAUTH (n : Nat) : Fld := ⟨.lmpCtl n, 0, 0⟩
abbrev lmpId_ID (n w : Nat) : Fld := ⟨.lmpId n w, 63, 0⟩
abbrev lmpEmit_ESTATE (n e : Nat) : Fld := ⟨.lmpEmit n e, 63, 62⟩
abbrev lmpEmit_POS (n e : Nat) : Fld := ⟨.lmpEmit n e, 61, 58⟩
abbrev lmpEmit_BIAS (n e : Nat) : Fld := ⟨.lmpEmit n e, 57, 46⟩
abbrev lmpEmit_BIAS_INIT (n e : Nat) : Fld := ⟨.lmpEmit n e, 45, 34⟩
abbrev lmpEmit_BIAS_EOL (n e : Nat) : Fld := ⟨.lmpEmit n e, 33, 22⟩
abbrev lmpEmit_HOURS (n e : Nat) : Fld := ⟨.lmpEmit n e, 21, 0⟩
abbrev hrbCfg_BO_MAX (n : Nat) : Fld := ⟨.hrbCfg n, 59, 52⟩
abbrev hrbCfg_BO_MIN (n : Nat) : Fld := ⟨.hrbCfg n, 51, 44⟩
abbrev hrbCfg_AGE_NACKS (n : Nat) : Fld := ⟨.hrbCfg n, 43, 40⟩
abbrev hrbStat_NACKS (n : Nat) : Fld := ⟨.hrbStat n, 63, 48⟩
abbrev hrbStat_AGED (n : Nat) : Fld := ⟨.hrbStat n, 47, 32⟩
abbrev hrbStat_SETFULL (n : Nat) : Fld := ⟨.hrbStat n, 31, 16⟩
abbrev hrbStat_BACKINV (n : Nat) : Fld := ⟨.hrbStat n, 15, 0⟩
abbrev hrbOcc_DIRUSED (n : Nat) : Fld := ⟨.hrbOcc n, 49, 36⟩
abbrev hrbOcc_PINNED (n : Nat) : Fld := ⟨.hrbOcc n, 35, 22⟩
abbrev hrbOcc_RESV (n : Nat) : Fld := ⟨.hrbOcc n, 21, 8⟩
abbrev gdmCfg_SCRUB_H : Fld := ⟨.gdmCfg, 63, 56⟩
abbrev gdmCfg_EDC_RETRY : Fld := ⟨.gdmCfg, 55, 52⟩
abbrev gdmCfg_EDCTH : Fld := ⟨.gdmCfg, 47, 32⟩
abbrev gdmCfg_SYMTH : Fld := ⟨.gdmCfg, 31, 16⟩
abbrev gdmCfg_ROWTH : Fld := ⟨.gdmCfg, 15, 8⟩
abbrev gdmCfg_MIG_RATE : Fld := ⟨.gdmCfg, 7, 0⟩
abbrev gdmMig_GO : Fld := ⟨.gdmMig, 63, 63⟩
abbrev gdmMig_ABORT : Fld := ⟨.gdmMig, 62, 62⟩
abbrev gdmMig_MSTATE : Fld := ⟨.gdmMig, 61, 60⟩
abbrev gdmMig_LCH : Fld := ⟨.gdmMig, 59, 55⟩
abbrev gdmMig_PDST : Fld := ⟨.gdmMig, 54, 50⟩
abbrev gdmMig_COPIED : Fld := ⟨.gdmMig, 21, 0⟩
abbrev gdmPlace_EN : Fld := ⟨.gdmPlace, 63, 63⟩
abbrev gdmPlace_FREEZE : Fld := ⟨.gdmPlace, 62, 62⟩
abbrev gdmPlace_WINDOW : Fld := ⟨.gdmPlace, 55, 48⟩
abbrev gdmPlace_HOT_TH : Fld := ⟨.gdmPlace, 47, 40⟩
abbrev gdmPlace_COLD_TH : Fld := ⟨.gdmPlace, 39, 32⟩
abbrev gdmPlace_PIN_WAYS : Fld := ⟨.gdmPlace, 31, 28⟩
abbrev gdmPlace_PINNED : Fld := ⟨.gdmPlace, 16, 0⟩
abbrev gdmStat_REFUSED : Fld := ⟨.gdmStat, 63, 48⟩
abbrev gdmStat_PINSKIP : Fld := ⟨.gdmStat, 47, 32⟩
abbrev gdmStat_SCRUBPASS : Fld := ⟨.gdmStat, 31, 16⟩
abbrev gdmStat_REMAPS : Fld := ⟨.gdmStat, 15, 0⟩
abbrev alloc_EN (i : Nat) : Fld := ⟨.alloc i, 63, 63⟩
abbrev alloc_LEN (i : Nat) : Fld := ⟨.alloc i, 45, 32⟩
abbrev alloc_BASE (i : Nat) : Fld := ⟨.alloc i, 13, 0⟩
abbrev gdmChStat_CSTATE (p : Nat) : Fld := ⟨.gdmChStat p, 63, 61⟩
abbrev gdmChStat_LCH (p : Nat) : Fld := ⟨.gdmChStat p, 60, 56⟩
abbrev gdmChStat_RMAP (p : Nat) : Fld := ⟨.gdmChStat p, 55, 42⟩
abbrev gdmChStat_PINMAX (p : Nat) : Fld := ⟨.gdmChStat p, 41, 37⟩
abbrev gdmChStat_PINSHARE (p : Nat) : Fld := ⟨.gdmChStat p, 36, 30⟩
abbrev gdmChCnt_EDCRETRY (p : Nat) : Fld := ⟨.gdmChCnt p, 63, 44⟩
abbrev gdmChCnt_SYMCORR (p : Nat) : Fld := ⟨.gdmChCnt p, 43, 20⟩
abbrev gdmChCnt_UNCORR (p : Nat) : Fld := ⟨.gdmChCnt p, 19, 8⟩
abbrev gdmChCnt_RETRAINS (p : Nat) : Fld := ⟨.gdmChCnt p, 7, 0⟩
abbrev gdmErrinj_ARM (p : Nat) : Fld := ⟨.gdmErrinj p, 63, 63⟩
abbrev gdmErrinj_PIN (p : Nat) : Fld := ⟨.gdmErrinj p, 62, 58⟩
abbrev gdmErrinj_SYMS (p : Nat) : Fld := ⟨.gdmErrinj p, 57, 56⟩
abbrev gteEnt_VALID (g e : Nat) : Fld := ⟨.gteEnt g e 0, 63, 63⟩
abbrev gteEnt_LOCK (g e : Nat) : Fld := ⟨.gteEnt g e 0, 62, 62⟩
abbrev gteEnt_TMEN (g e : Nat) : Fld := ⟨.gteEnt g e 0, 61, 61⟩
abbrev gteEnt_TENANT (g e : Nat) : Fld := ⟨.gteEnt g e 0, 60, 49⟩
abbrev gteEnt_PERM (g e : Nat) : Fld := ⟨.gteEnt g e 0, 48, 34⟩
abbrev gteEnt_BASE (g e : Nat) : Fld := ⟨.gteEnt g e 0, 23, 0⟩
abbrev gteEnt_LIMIT (g e : Nat) : Fld := ⟨.gteEnt g e 1, 23, 0⟩
abbrev gteCtl_EN (g : Nat) : Fld := ⟨.gteCtl g, 63, 63⟩
abbrev gteCtl_CLOCK (g : Nat) : Fld := ⟨.gteCtl g, 62, 62⟩
abbrev gteCtl_STRADDLE (g : Nat) : Fld := ⟨.gteCtl g, 61, 61⟩
abbrev gteCtl_GRANT (g : Nat) : Fld := ⟨.gteCtl g, 60, 58⟩
abbrev gteStat_DENIED (g : Nat) : Fld := ⟨.gteStat g, 63, 48⟩
abbrev gteStat_AUDITREF (g : Nat) : Fld := ⟨.gteStat g, 47, 32⟩
abbrev gteStat_DBGPASS (g : Nat) : Fld := ⟨.gteStat g, 31, 16⟩
abbrev sem_OWNER (n : Nat) : Fld := ⟨.sem n, 63, 48⟩
abbrev sem_HELD (n : Nat) : Fld := ⟨.sem n, 47, 47⟩
abbrev sem_ABANDONED (n : Nat) : Fld := ⟨.sem n, 46, 46⟩
abbrev sem_STATUS (n : Nat) : Fld := ⟨.sem n, 7, 0⟩
abbrev semStat_BADREL : Fld := ⟨.semStat, 63, 48⟩
abbrev semStat_WAITFULL : Fld := ⟨.semStat, 47, 32⟩
abbrev semStat_ABANDONS : Fld := ⟨.semStat, 31, 16⟩
abbrev semStat_WAITING : Fld := ⟨.semStat, 10, 0⟩
abbrev lcsState_PENDING : Fld := ⟨.lcsState, 4, 4⟩
abbrev lcsState_NEXT : Fld := ⟨.lcsState, 3, 2⟩
abbrev lcsState_STATE : Fld := ⟨.lcsState, 1, 0⟩
abbrev lcsAdvance_CONFIRM : Fld := ⟨.lcsAdvance, 63, 48⟩
abbrev lcsAdvance_TARGET : Fld := ⟨.lcsAdvance, 1, 0⟩
abbrev fltSrc_SEV (s : Nat) : Fld := ⟨.fltSrc s, 63, 61⟩
abbrev fltSrc_MINSEV (s : Nat) : Fld := ⟨.fltSrc s, 60, 58⟩
abbrev fltSrc_FIXED (s : Nat) : Fld := ⟨.fltSrc s, 57, 57⟩
abbrev fltSrc_FORCE (s : Nat) : Fld := ⟨.fltSrc s, 56, 56⟩
abbrev fltSrc_LATCHED (s : Nat) : Fld := ⟨.fltSrc s, 55, 55⟩
abbrev fltSrc_ACTIVE (s : Nat) : Fld := ⟨.fltSrc s, 54, 54⟩
abbrev fltSrc_STATUS (s : Nat) : Fld := ⟨.fltSrc s, 53, 52⟩
abbrev fltSrc_KIND (s : Nat) : Fld := ⟨.fltSrc s, 51, 51⟩
abbrev fltSrc_UNITK (s : Nat) : Fld := ⟨.fltSrc s, 50, 48⟩
abbrev fltSrc_CLRCNT (s : Nat) : Fld := ⟨.fltSrc s, 47, 47⟩
abbrev fltSrc_COUNT (s : Nat) : Fld := ⟨.fltSrc s, 15, 0⟩
abbrev fltDom_ADDR (d : Nat) : Fld := ⟨.fltDom d 0, 63, 0⟩
abbrev fltDom_TIME (d : Nat) : Fld := ⟨.fltDom d 1, 63, 0⟩
abbrev fltDom_VALID (d : Nat) : Fld := ⟨.fltDom d 2, 63, 63⟩
abbrev fltDom_MASTER (d : Nat) : Fld := ⟨.fltDom d 2, 47, 32⟩
abbrev fltDom_ATYPE (d : Nat) : Fld := ⟨.fltDom d 2, 31, 28⟩
abbrev fltDom_FIRST (d : Nat) : Fld := ⟨.fltDom d 2, 26, 16⟩
abbrev fltDom_LATER (d : Nat) : Fld := ⟨.fltDom d 2, 15, 0⟩
abbrev fltDom_SEV (d : Nat) : Fld := ⟨.fltDom d 3, 63, 61⟩
abbrev fltDom_UNITK (d : Nat) : Fld := ⟨.fltDom d 3, 60, 58⟩
abbrev fltDom_UNIT (d : Nat) : Fld := ⟨.fltDom d 3, 19, 0⟩
abbrev fltPin_ASSERTED : Fld := ⟨.fltPin, 63, 63⟩
abbrev fltPin_TERMHOLD : Fld := ⟨.fltPin, 62, 62⟩
abbrev fltPin_RELEASE : Fld := ⟨.fltPin, 61, 61⟩
abbrev fltPin_THRESH : Fld := ⟨.fltPin, 2, 0⟩
abbrev fltCfg_SLOCK : Fld := ⟨.fltCfg, 63, 63⟩
abbrev fltCfg_EVT_MIN : Fld := ⟨.fltCfg, 62, 60⟩
abbrev fltCfg_EQ_MIN : Fld := ⟨.fltCfg, 59, 57⟩
abbrev fltCfg_EQEN : Fld := ⟨.fltCfg, 56, 56⟩
abbrev fltCfg_EQ : Fld := ⟨.fltCfg, 19, 0⟩
abbrev fltHalt_HALTED : Fld := ⟨.fltHalt, 63, 63⟩
abbrev fltHalt_TERM : Fld := ⟨.fltHalt, 62, 62⟩
abbrev fltHalt_PREV : Fld := ⟨.fltHalt, 61, 61⟩
abbrev fltHalt_SOURCE : Fld := ⟨.fltHalt, 10, 0⟩
abbrev fltForceArg_UNIT : Fld := ⟨.fltForceArg, 19, 0⟩
abbrev islEngMap_SUB (i : Nat) : Fld := ⟨.islEngMap i, 63, 63⟩
abbrev islEngMap_SUBL (i : Nat) : Fld := ⟨.islEngMap i, 62, 58⟩
abbrev islEngMap_OFF (i : Nat) : Fld := ⟨.islEngMap i, 57, 41⟩
abbrev cntCyc_CYC (b : Nat) : Fld := ⟨.cntCyc b, 63, 0⟩
abbrev cntCtl_EN (b k : Nat) : Fld := ⟨.cntCtl b k, 63, 63⟩
abbrev cntCtl_CHAIN (b k : Nat) : Fld := ⟨.cntCtl b k, 62, 62⟩
abbrev cntCtl_OCC (b k : Nat) : Fld := ⟨.cntCtl b k, 61, 61⟩
abbrev cntCtl_OVF (b k : Nat) : Fld := ⟨.cntCtl b k, 60, 60⟩
abbrev cntCtl_THRESH (b k : Nat) : Fld := ⟨.cntCtl b k, 55, 40⟩
abbrev cntCtl_EVENT (b k : Nat) : Fld := ⟨.cntCtl b k, 7, 0⟩
abbrev cntVal_VAL (b k : Nat) : Fld := ⟨.cntVal b k, 47, 0⟩
abbrev cntGlb_FREEZE : Fld := ⟨.cntGlb, 63, 63⟩
abbrev cntGlb_CLEAR : Fld := ⟨.cntGlb, 62, 62⟩
abbrev cntSmpCfg_EN : Fld := ⟨.cntSmpCfg, 63, 63⟩
abbrev cntSmpCfg_LOG2SIZE : Fld := ⟨.cntSmpCfg, 35, 31⟩
abbrev cntSmpCfg_FUNC : Fld := ⟨.cntSmpCfg, 30, 21⟩
abbrev cntSmpCfg_VECTOR : Fld := ⟨.cntSmpCfg, 10, 0⟩
abbrev cntSmpBase_BASE : Fld := ⟨.cntSmpBase, 63, 0⟩
abbrev cntSmpPi_PI : Fld := ⟨.cntSmpPi, 20, 0⟩
abbrev cntSmpCi_CI : Fld := ⟨.cntSmpCi, 20, 0⟩
abbrev cntSmpStat_SKIP : Fld := ⟨.cntSmpStat, 63, 32⟩
abbrev cntIsmp_EN (i : Nat) : Fld := ⟨.cntIsmp i, 63, 63⟩
abbrev cntIsmp_LVL_F (i : Nat) : Fld := ⟨.cntIsmp i, 62, 62⟩
abbrev cntIsmp_LVL_P (i : Nat) : Fld := ⟨.cntIsmp i, 61, 61⟩
abbrev cntIsmp_LVL_U (i : Nat) : Fld := ⟨.cntIsmp i, 60, 60⟩
abbrev cntIsmp_PLOG2 (i : Nat) : Fld := ⟨.cntIsmp i, 52, 48⟩
abbrev cntBwTx_BYTES (n : Nat) : Fld := ⟨.cntBwTx n, 63, 0⟩
abbrev cntBwRx_BYTES (n : Nat) : Fld := ⟨.cntBwRx n, 63, 0⟩
abbrev cntBwSeq_WSEQ (n : Nat) : Fld := ⟨.cntBwSeq n, 63, 32⟩
abbrev timNow_NOW : Fld := ⟨.timNow, 63, 0⟩
abbrev timCfg_IN_EN : Fld := ⟨.timCfg, 63, 63⟩
abbrev timCfg_DISC : Fld := ⟨.timCfg, 62, 62⟩
abbrev timCfg_OUT_EN : Fld := ⟨.timCfg, 61, 61⟩
abbrev timCfg_OUT_W : Fld := ⟨.timCfg, 8, 0⟩
abbrev timPpsStamp_STAMP : Fld := ⟨.timPpsStamp, 63, 0⟩
abbrev audCfg_MODE : Fld := ⟨.audCfg, 63, 63⟩
abbrev audCfg_ALOCK : Fld := ⟨.audCfg, 62, 62⟩
abbrev audCfg_RESERVE : Fld := ⟨.audCfg, 10, 0⟩
abbrev audSeq_SEQ : Fld := ⟨.audSeq, 63, 0⟩
abbrev audPtr_EXPMARK : Fld := ⟨.audPtr, 47, 30⟩
abbrev audPtr_WPTR : Fld := ⟨.audPtr, 17, 0⟩
abbrev audExport_ADVANCE : Fld := ⟨.audExport, 17, 0⟩
abbrev audStat_REFUSED : Fld := ⟨.audStat, 63, 48⟩
abbrev audStat_MISSED : Fld := ⟨.audStat, 47, 32⟩
abbrev audStat_LOST : Fld := ⟨.audStat, 31, 0⟩
abbrev audWear_PASSES : Fld := ⟨.audWear, 26, 0⟩
abbrev glbRst_WARM : Fld := ⟨.glbRst, 63, 63⟩
abbrev glbRst_ISLAND : Fld := ⟨.glbRst, 47, 32⟩
abbrev glbRst_HPORT : Fld := ⟨.glbRst, 31, 28⟩
abbrev glbPrtRst_PORT (i : Nat) : Fld := ⟨.glbPrtRst i, 63, 0⟩
abbrev glbRstCause_POR : Fld := ⟨.glbRstCause, 63, 63⟩
abbrev glbRstCause_WPIN : Fld := ⟨.glbRstCause, 62, 62⟩
abbrev glbRstCause_WREG : Fld := ⟨.glbRstCause, 61, 61⟩
abbrev glbRstCause_SHORT : Fld := ⟨.glbRstCause, 23, 16⟩
abbrev glbRstCause_MASTER : Fld := ⟨.glbRstCause, 15, 0⟩
abbrev glbBootStat_STEP : Fld := ⟨.glbBootStat, 63, 60⟩
abbrev glbBootStat_RESULT : Fld := ⟨.glbBootStat, 59, 56⟩
abbrev glbBootStat_MODE : Fld := ⟨.glbBootStat, 55, 54⟩
abbrev glbBootStat_SLOT : Fld := ⟨.glbBootStat, 53, 53⟩
abbrev glbBootStat_RECOVERY : Fld := ⟨.glbBootStat, 52, 52⟩
abbrev glbBootStat_ARES : Fld := ⟨.glbBootStat, 51, 48⟩
abbrev glbBootStat_BRES : Fld := ⟨.glbBootStat, 47, 44⟩
abbrev glbBootStat_SVN : Fld := ⟨.glbBootStat, 31, 0⟩
abbrev glbBootCtl_INSTALL : Fld := ⟨.glbBootCtl, 63, 63⟩
abbrev glbBootCtl_BUSY : Fld := ⟨.glbBootCtl, 62, 62⟩
abbrev glbBootCtl_TSLOT : Fld := ⟨.glbBootCtl, 61, 61⟩
abbrev glbBootCtl_IRESULT : Fld := ⟨.glbBootCtl, 55, 48⟩
abbrev glbBootCtl_ILEN : Fld := ⟨.glbBootCtl, 31, 0⟩
abbrev clkStat_ROOTLOCK : Fld := ⟨.clkStat, 63, 63⟩
abbrev clkStat_LANELOCK : Fld := ⟨.clkStat, 62, 47⟩
abbrev clkStat_HPCLK : Fld := ⟨.clkStat, 46, 43⟩
abbrev clkStat_PIERCLK : Fld := ⟨.clkStat, 42, 42⟩
abbrev pwrAvs_EN : Fld := ⟨.pwrAvs, 63, 63⟩
abbrev pwrAvs_FREEZE : Fld := ⟨.pwrAvs, 62, 62⟩
abbrev pwrAvs_VMAX : Fld := ⟨.pwrAvs, 61, 52⟩
abbrev pwrAvs_VMIN : Fld := ⟨.pwrAvs, 51, 42⟩
abbrev pwrAvs_HEADROOM : Fld := ⟨.pwrAvs, 41, 36⟩
abbrev pwrAvs_VREQ : Fld := ⟨.pwrAvs, 35, 26⟩
abbrev pwrDfs_EN : Fld := ⟨.pwrDfs, 63, 63⟩
abbrev pwrDfs_FREEZE : Fld := ⟨.pwrDfs, 62, 62⟩
abbrev pwrDfs_FLOOR : Fld := ⟨.pwrDfs, 61, 60⟩
abbrev pwrDfs_CAP : Fld := ⟨.pwrDfs, 59, 48⟩
abbrev pwrDfs_PEST : Fld := ⟨.pwrDfs, 47, 36⟩
abbrev pwrStat_HOT_S : Fld := ⟨.pwrStat, 63, 32⟩
abbrev pwrIsl_STEP (i : Nat) : Fld := ⟨.pwrIsl i, 63, 62⟩
abbrev pwrIsl_DROOP (i : Nat) : Fld := ⟨.pwrIsl i, 61, 61⟩
abbrev pwrIsl_CAPPED (i : Nat) : Fld := ⟨.pwrIsl i, 60, 60⟩
abbrev pwrIsl_VOUT (i : Nat) : Fld := ⟨.pwrIsl i, 59, 50⟩
abbrev pwrIsl_VNEED (i : Nat) : Fld := ⟨.pwrIsl i, 49, 40⟩
abbrev pwrIsl_VMIN (i : Nat) : Fld := ⟨.pwrIsl i, 39, 30⟩
abbrev pwrIsl_VMAX (i : Nat) : Fld := ⟨.pwrIsl i, 29, 20⟩
abbrev pwrThermCfg_WARN_C : Fld := ⟨.pwrThermCfg, 63, 56⟩
abbrev pwrThermCfg_TRIP_C : Fld := ⟨.pwrThermCfg, 55, 48⟩
abbrev pwrThermCfg_HYST : Fld := ⟨.pwrThermCfg, 47, 44⟩
abbrev pwrTemp_PEAK (s : Nat) : Fld := ⟨.pwrTemp s, 31, 16⟩
abbrev pwrTemp_TEMP (s : Nat) : Fld := ⟨.pwrTemp s, 15, 0⟩
abbrev glbId_VENDOR : Fld := ⟨.glbId, 63, 48⟩
abbrev glbId_DEVICE : Fld := ⟨.glbId, 47, 32⟩
abbrev glbId_STEP : Fld := ⟨.glbId, 31, 24⟩
abbrev glbId_ISLANDS : Fld := ⟨.glbId, 23, 16⟩
abbrev glbId_PORTS : Fld := ⟨.glbId, 15, 8⟩
abbrev glbId_HOSTPORTS : Fld := ⟨.glbId, 7, 0⟩
abbrev glbRev_ROM : Fld := ⟨.glbRev, 63, 32⟩
abbrev glbUid_UID : Fld := ⟨.glbUid, 63, 0⟩
abbrev pieEvtPop_POP : Fld := ⟨.pieEvtPop, 0, 0⟩
abbrev pieAttn_LOST : Fld := ⟨.pieAttn, 47, 32⟩
abbrev pieAttn_FLTREC : Fld := ⟨.pieAttn, 1, 1⟩
abbrev pieAttn_EVTFLAG : Fld := ⟨.pieAttn, 0, 0⟩
abbrev glbWmReject_COUNT : Fld := ⟨.glbWmReject, 15, 0⟩
abbrev hptEaselStat_ABORTED (n : Nat) : Fld := ⟨.hptEaselStat n, 63, 32⟩
abbrev hptEaselStat_REFUSED (n : Nat) : Fld := ⟨.hptEaselStat n, 31, 0⟩
abbrev hptDbRefused_COUNT (n : Nat) : Fld := ⟨.hptDbRefused n, 31, 0⟩
abbrev hptAttn_PEND (n : Nat) : Fld := ⟨.hptAttn n, 63, 63⟩
abbrev hptAttn_VECTOR (n : Nat) : Fld := ⟨.hptAttn n, 39, 29⟩
abbrev hptAttn_FUNC (n : Nat) : Fld := ⟨.hptAttn n, 28, 19⟩
abbrev hptAttn_COUNT (n : Nat) : Fld := ⟨.hptAttn n, 15, 0⟩
abbrev islEvtPop_POP (i : Nat) : Fld := ⟨.islEvtPop i, 0, 0⟩
abbrev handlerDrop_COUNT (i : Nat) : Fld := ⟨.handlerDrop i, 31, 0⟩
abbrev dropSel_REASON (i : Nat) : Fld := ⟨.dropSel i, 7, 0⟩
abbrev dropCnt_COUNT (i r : Nat) : Fld := ⟨.dropCnt i r, 31, 0⟩
abbrev qcwStat_REFUSED : Fld := ⟨.qcwStat, 63, 48⟩
abbrev cntBwCfg_EN : Fld := ⟨.cntBwCfg, 63, 63⟩
abbrev cntBwCfg_WINDOW : Fld := ⟨.cntBwCfg, 19, 0⟩
abbrev rteMgmtSrc_EN (i : Nat) : Fld := ⟨.rteMgmtSrc i, 63, 63⟩
abbrev rteMgmtSrc_ENDPOINT (i : Nat) : Fld := ⟨.rteMgmtSrc i, 19, 0⟩
abbrev cnxKey_KEY (w : Nat) : Fld := ⟨.cnxKey w, 63, 0⟩
abbrev audRec_WORD (i w : Nat) : Fld := ⟨.audRec i w, 63, 0⟩
abbrev tspQsel_QUEUE (p f : Nat) : Fld := ⟨.tspQsel p f, 19, 0⟩
abbrev g_V (c i : Nat) : Fld := ⟨.g c i, 63, 0⟩
abbrev h_V (c i : Nat) : Fld := ⟨.h c i, 63, 0⟩
abbrev pc_PC (c : Nat) : Fld := ⟨.pc c, 31, 0⟩
abbrev sel_qcw_V (m : MasterKey) : Fld := ⟨.sel m .qcw, 19, 0⟩
abbrev sel_shp_V (m : MasterKey) : Fld := ⟨.sel m .shp, 15, 0⟩
abbrev sel_ten_V (m : MasterKey) : Fld := ⟨.sel m .ten, 11, 0⟩
abbrev sel_steer_V (m : MasterKey) : Fld := ⟨.sel m .steer, 11, 0⟩
abbrev sel_cnx_V (m : MasterKey) : Fld := ⟨.sel m .cnx, 17, 0⟩
abbrev sel_cvs_V (m : MasterKey) : Fld := ⟨.sel m .cvs, 19, 0⟩
abbrev sel_mtc_V (m : MasterKey) : Fld := ⟨.sel m .mtc, 15, 0⟩
abbrev sel_rte_BANK (m : MasterKey) : Fld := ⟨.sel m .rte, 17, 17⟩
abbrev sel_rte_TABLE (m : MasterKey) : Fld := ⟨.sel m .rte, 16, 16⟩
abbrev sel_rte_INDEX (m : MasterKey) : Fld := ⟨.sel m .rte, 11, 0⟩
abbrev sel_tree_V (m : MasterKey) : Fld := ⟨.sel m .tree, 13, 0⟩
abbrev sel_alloc_V (m : MasterKey) : Fld := ⟨.sel m .alloc, 12, 0⟩
abbrev sel_aud_V (m : MasterKey) : Fld := ⟨.sel m .aud, 16, 0⟩
abbrev sel_pal_ENGINE (m : MasterKey) : Fld := ⟨.sel m .pal, 24, 16⟩
abbrev sel_pal_BLOCK (m : MasterKey) : Fld := ⟨.sel m .pal, 15, 7⟩
abbrev tree_CHILD (t i : Nat) : Fld := ⟨.tree t (2 + i / 3), 20 * (i % 3) + 19, 20 * (i % 3)⟩
abbrev gdmMap_PCH (l : Nat) : Fld := ⟨.gdmMap (l / 8), 8 * (l % 8) + 4, 8 * (l % 8)⟩
abbrev rteGrp_VIA (b i k : Nat) : Fld := ⟨.rteGrp b i 1, 16 * k + 11, 16 * k⟩

end Sys2Proof.Machine.F
end

