-- ==== Sys2Proof/Machine/KMap.lean ====
section
/-! DEFINITION. Finite maps from numbers as lists of pairs in rising key order, and memories as such maps
in which no byte equal to the default is listed. -/

namespace Sys2Proof.Machine

/-- A finite map from numbers, as pairs with rising keys. -/
abbrev KMap (α : Type) := List (Nat × α)

/-- The value at a key. -/
def KMap.find {α : Type} : KMap α → Nat → Option α
  | [], _ => none
  | (k, v) :: t, i => if i = k then some v else KMap.find t i

/-- The value at a key, or a default. -/
def KMap.at {α : Type} (m : KMap α) (i : Nat) (d : α) : α := (m.find i).getD d

/-- The map with a key bound to a value. -/
def KMap.put {α : Type} : KMap α → Nat → α → KMap α
  | [], i, x => [(i, x)]
  | (k, v) :: t, i, x =>
    if i < k then (i, x) :: (k, v) :: t else if i = k then (i, x) :: t else (k, v) :: KMap.put t i x

/-- The map without a key. -/
def KMap.del {α : Type} : KMap α → Nat → KMap α
  | [], _ => []
  | (k, v) :: t, i => if i = k then KMap.del t i else (k, v) :: KMap.del t i

/-- The map with the value at a key changed, a default standing for an absent one. -/
def KMap.upd {α : Type} (m : KMap α) (i : Nat) (d : α) (f : α → α) : KMap α := m.put i (f (m.at i d))

/-- The map with every value changed. -/
def KMap.each {α : Type} (m : KMap α) (f : Nat → α → α) : KMap α := m.map fun c => (c.1, f c.1 c.2)

/-- The keys rise strictly. -/
def KMap.sorted {α : Type} : KMap α → Bool
  | [] => true
  | [_] => true
  | a :: b :: t => decide (a.1 < b.1) && KMap.sorted (b :: t)

/-- A memory: listed bytes; an unlisted address reads as zero (notes/assumptions/4.md, 5.md). -/
abbrev Memory := KMap Byte

/-- The byte at an address. -/
def Memory.read (m : Memory) (a : Nat) : Byte := KMap.at m a 0

/-- The memory with a byte written; the zero byte is not listed. -/
def Memory.write (m : Memory) (a : Nat) (b : Byte) : Memory := if b = 0 then KMap.del m a else KMap.put m a b

/-- The canonical form: rising addresses and no listed zero. -/
def Memory.wf (m : Memory) : Bool := KMap.sorted m && m.all fun c => c.2 != 0

/-- The `n` bytes from an address. -/
def Memory.readBytes (m : Memory) (a : Nat) : Nat → List Byte
  | 0 => []
  | n + 1 => m.read a :: Memory.readBytes m (a + 1) n

/-- The memory with bytes written from an address. -/
def Memory.writeBytes (m : Memory) (a : Nat) : List Byte → Memory
  | [] => m
  | b :: bs => Memory.writeBytes (m.write a b) (a + 1) bs

end Sys2Proof.Machine
end

