-- ==== Sys2Proof/Machine/State.lean ====
section
/-! DEFINITION. The state of the Plovler, its outcomes other than a next state, and the state after
power-on reset. Every software-visible word is in `regs`; the rest is what the spec gives the part beside
its registers, unit by unit. -/

namespace Sys2Proof.Machine

/-- A device FIFO (02 R45): write and read pointers and the entries held, oldest first. -/
structure Fifo (α : Type) where
  wp : Nat := 0
  rp : Nat := 0
  items : List α := []
  deriving DecidableEq, Repr

/-- Four 64-bit words: an event entry (02 R56, 03 R100), a completion (03 R90), an audit record
(17 R551). -/
structure Quad where
  w0 : Word
  w1 : Word
  w2 : Word
  w3 : Word
  deriving DecidableEq, Repr

/-- What the part drives on its interfaces (notes/assumptions/11.md). -/
inductive Output where
  /-- A DMA write of bytes at an IOVA of a host function: port in [9:8], function in [7:0]. -/
  | hostWrite (func : Nat) (iova : Nat) (bytes : List Byte)
  /-- An atomic on host memory (07 R225): a PCIe AtomicOp, or under CXL.cache ownership; and and or by a compare-swap
  loop of the library. -/
  | hostAtomic (func : Nat) (iova : Nat) (op : Nat) (x y : Word) (cxl : Bool)
  /-- An MSI-X vector of a host function raised (03 R95). -/
  | msix (func : Nat) (vector : Nat)
  /-- The value that answers a read of a master (20 R605). -/
  | answer (m : Mst) (v : Word)
  /-- The error flag of a JTAG access that is not performed (15 R488). -/
  | jtagError
  /-- Request Retry Status to a configuration request of a host port, 4 for the pier (02 R63, 18 R572). -/
  | retryStatus (port : Nat)
  /-- The dwords that answer a read of a function's configuration space or MSI-X table (02 R32, R33, R35). -/
  | config (func : Nat) (v : List (BitVec 32))
  /-- A frame's bytes on a fabric port, with its link trailer; stomped when its CRC is inverted. -/
  | frame (port : Nat) (bytes : List Byte)
  /-- A control frame on a fabric port (11 R379). -/
  | control (port : Nat) (f : Octet)
  /-- A lane record on every lane of a fabric port (12 R411). -/
  | laneRecord (port : Nat) (r : Octet)
  /-- The symbols of an alignment period on a physical lane of a fabric port (12 R397, R399). -/
  | line (port lane : Nat) (symbols : List Pam)
  /-- PRBS31 (x^31 + x^28 + 1) on a physical lane of a fabric port for so many line bits (12 R409, R416). -/
  | prbs31 (port lane : Nat) (bits : Nat)
  /-- An I2C write to a lamp module (12 R420 to R425). -/
  | lamp (island : Nat) (addr : Nat) (bytes : List Byte)
  /-- A VDD_CORE request on AVSBus, in mV (19 R593). -/
  | avs (mv : Nat)
  /-- Bytes written to an image slot of QSPI NOR (18 R578). -/
  | qspi (slot : Nat) (bytes : List Byte)
  deriving DecidableEq, Repr

/-! ## Host ports and queues (02, 03, 04) -/

/-- An easel assembly in progress (02 R38): its function, its slot address, the bytes that have arrived
and when it was first written. -/
structure Assembly where
  f : Nat
  slot : Nat
  got : KMap Byte
  start : Nat
  deriving DecidableEq, Repr

/-- An entry of an easel FIFO (02 R39); `after` is the producer index of its queue when it was assembled. -/
structure EaselEntry where
  f : Nat
  after : Nat := 0
  ctl : Word
  entry : Octet
  payload : List Byte
  deriving DecidableEq, Repr

/-- A request waiting at a host port whose posted-request credits are withheld (02 R38, R41): a posted write to an
easel window (BAR 4), to a doorbell page (BAR 2) or to a register (BAR 0), or a read behind one; `req` is a request to
configuration space, to the MSI-X table or an AtomicOp that waits so. -/
structure HeldWrite where
  f : Nat
  bar : Nat := 4
  off : Nat
  bytes : List Byte := []
  read : Bool := false
  req : Option HostReq := none
  deriving DecidableEq, Repr

/-- An entry of an MSI-X table (02 R35); PCI Express resets its mask bit to 1. -/
structure MsixEntry where
  addr : Word := 0
  data : BitVec 32 := 0
  mask : Bool := true
  deriving DecidableEq, Repr

/-- The PCI Express layer of a function (02 R29, R33, R35): bus master enable, the addresses of its BARs, MSI-X enable
and function mask, its MSI-X table and pending-bit array, and the writable dwords of its capabilities, by dword number
(notes/assumptions/23.md). -/
structure FnCfg where
  busMaster : Bool := false
  bar0 : Word := 0
  bar2 : Word := 0
  bar4 : Word := 0
  msixOn : Bool := false
  msixMask : Bool := false
  table : KMap MsixEntry := []
  pend : List Nat := []
  ctl : KMap (BitVec 32) := []
  deriving DecidableEq, Repr

/-- The pier's USB4 device router (02 R54): the lane mode of its link while it is up, its sideband channel, and whether its
downstream PCIe adapter carries the tunnel to the pier function. -/
structure Pier where
  gen : Option Usb4Gen := none
  sideband : Bool := false
  tunnel : Bool := false
  deriving DecidableEq, Repr

/-- A host port (02): assemblies, easel FIFO, held requests, what R60 makes it busy for, its link (R29, R30), and the
host lines it holds through CXL.cache, latest first. -/
structure HostPort where
  asm : List Assembly := []
  easel : Fifo EaselEntry := {}
  held : List HeldWrite := []
  booted : Bool := false
  resetting : Bool := false
  perst : Bool := true
  linkUp : Bool := false
  cxl : Bool := false
  mode : Option (PcieRate × PcieWidth) := none
  lines : List (Nat × Nat) := []
  flr : List Nat := []
  deriving DecidableEq, Repr

/-- A ready pin (02 R60 to R67): its level apart from pulses, a pulse in progress, the times of its last
rise, fall and pulse start, and a fall that waits for 1 µs of high; `ready` says that it has risen since its unit was last busy
for boot or a reset (18 R572). -/
structure ReadyPin where
  level : Bool := false
  ready : Bool := false
  pulsing : Bool := false
  riseAt : Nat := 0
  pulsedAt : Option Nat := none
  fallAt : Nat := 0
  fallDue : Option Nat := none
  deriving DecidableEq, Repr

/-- An event FIFO (02 R56 to R59) with its sequence number and lost count. -/
structure EvFifo where
  fifo : Fifo Quad := {}
  eseq : Nat := 0
  lost : Nat := 0
  deriving DecidableEq, Repr

/-- How a taken work entry ended (03 R90, R104). -/
structure Result where
  status : Nat
  reason : Nat := 0
  result : Word := 0
  bytes : Nat := 0
  peer : Nat := 0
  deriving DecidableEq, Repr

/-- An entry taken from a work or receive-post ring whose completion is not yet written (03 R91, R92).
`close` says that the open segment closes at it; `stale` that it was taken before a Function Level Reset
(R75); `started` that its operation has begun; `slot` that a completion slot is reserved for it (R89, R96); `refusal` is
its lowest refused SEQ and the status (07 R232); `cut` the status with which a source read failed behind packets already
queued (07 R221); `asked` says that a sketch has sent its request (R224), `popped` that a sketch took it with q.pop. -/
structure Taken where
  id : Nat
  idx : Nat
  entry : Octet
  pay : List Byte := []
  easel : Bool := false
  started : Bool := false
  close : Bool := false
  stale : Bool := false
  slot : Bool := true
  refusal : Option (Nat × Nat) := none
  cut : Option Nat := none
  asked : Bool := false
  popped : Bool := false
  res : Option Result := none
  deriving DecidableEq, Repr

/-- A request-class packet of a work queue that waits to be scheduled (04 R110, R112): the entry it
belongs to, its connection, and whether it is the last of its entry. -/
structure TxPkt where
  id : Nat
  conn : Option Nat := none
  pkt : Packet
  last : Bool := true
  deriving DecidableEq, Repr

/-- A node of the scheduler (04 R113). -/
structure DrrNode where
  deficit : Nat := 0
  fresh : Bool := true
  deriving DecidableEq, Repr

/-- What a queue holds beside its context words: taken entries oldest first, packets not yet sent, the entry read ahead
that waits to be taken (03 R78, 09 R289), its node of the scheduler (04 R113; its deficit is word 7 of the context), the reset-at-visit flag of 04 R130, and whether the wait of its next packet for store room has been counted (07 R235). -/
structure QueueSt where
  taken : List Taken := []
  next : List TxPkt := []
  ahead : Option Octet := none
  node : DrrNode := {}
  smpReset : Bool := false
  full : Bool := false
  deriving DecidableEq, Repr

/-- The scheduler (04 R110 to R114): the lists of the three levels in rotation order from their
pointers, level 1 keyed by 4,096 × port + tenant and level 2 by port, and the nodes above queues. -/
structure Sched where
  l1 : KMap (List Nat) := []
  l2 : KMap (List Nat) := []
  l3 : List Nat := []
  tenants : KMap DrrNode := []
  ports : KMap DrrNode := []
  deriving DecidableEq, Repr

/-- A tenant's ingress policer in force and its refill time (04 R124). -/
structure Policer where
  en : Bool := false
  period : Nat := 0
  add : Nat := 0
  burst : Nat := 0
  pending : Bool := false
  next : Nat := 0
  deriving DecidableEq, Repr

/-- A tenant's meters (04 R133): G6 in byte-milliseconds. -/
structure Meter where
  bytesTx : Nat := 0
  bytesRx : Nat := 0
  pktTx : Nat := 0
  pktRx : Nat := 0
  engCyc : Nat := 0
  g6 : Nat := 0
  deriving DecidableEq, Repr

/-- The meters captured at the edge of a snapshot: the time of the header, the tenants that appear and their meters (04
R135). -/
structure Caught where
  time : Nat
  tenants : List Nat
  meters : KMap Meter
  deriving DecidableEq, Repr

/-- Sampling and metering positions: the rotation, the start of the sampler's next period and the end of its batch
(04 R128, R131), the policers, the meters, the snapshots (R135, R138), the time up to which boundaries have been seen, the
meters captured at boundaries whose snapshots are still to be written, oldest first, and the instant of the last GDDR6
sample (R133). -/
structure Metering where
  rot : Nat := 0
  smpNext : Nat := 0
  smpEnd : Nat := 0
  policers : KMap Policer := []
  meters : KMap Meter := []
  snapSeq : Nat := 0
  skipped : Nat := 0
  lastBoundary : Nat := 0
  caught : List Caught := []
  g6At : Nat := 0
  deriving DecidableEq, Repr

/-! ## Engines (05, 06) -/

/-- An event for the engines (06 R192, R193, R198, R199): handler entry, class, steering kind (15 for
targeted and MGMT events) and key. `pkt` fills h0 to h7; `inbound` says that it is a packet to be handled and
reported (R200); `late` is the bound receive of a LATE event (08 R268); `gen` counts the steering moves of its
entry before it entered a queue (R194). -/
structure Event where
  entry : Nat
  cls : Nat
  kind : Nat := 15
  tenant : Nat := 0
  key : Nat := 0
  time : Word := 0
  polmark : Bool := false
  arg0 : Word := 0
  arg1 : Word := 0
  arg2 : Word := 0
  pkt : Option Packet := none
  inbound : Bool := false
  late : Option Nat := none
  gen : Nat := 0
  deriving DecidableEq, Repr

/-- What holds a context of the engine (05 R154, R155, R165, R169, 10 R351, 13 R437): `brushes` a 17th brush, `drained` a
packet that a device drain holds back, `room` the packet with this sender number, which waits for room. -/
inductive Stall where
  | none
  | lock (sem : Nat) (d : Nat)
  | drain (d : Nat)
  | line (line : Nat)
  | brushes
  | drained
  | room (d id : Nat)
  | yielded (awaiting : List Nat)
  deriving DecidableEq, Repr

/-- A brush in flight (05 R164): its operation, descriptor words and fill pattern; `quiet` after a reset of its
context (06 R190). -/
structure Brush where
  id : Nat
  fill : Option Word
  src : Nat
  dst : Nat
  desc : Word
  tag : Word
  quiet : Bool := false
  deriving DecidableEq, Repr

/-- A tagged instruction until its record is written (17 R543, R544): TIM_NOW, pc, tenant and level at its issue, its word, the
address of its access (0 for a unit operation without a descriptor, none without an access), and the code of its trap. -/
structure Tag where
  time : Nat
  pc : Nat
  tenant : Nat
  level : Nat
  insn : Option Nat := none
  addr : Option Word := none
  trap : Nat := 0
  deriving DecidableEq, Repr

/-- What an engine context holds beside g, h, pc and its CSRs (05 R140 to R174, 06 R195): the event it runs,
the event whose packet it has still to report, the steering keys it holds, the wait mask and its destination, the tenant it runs
for, if any (04 R133), its tagged instructions whose records are due, oldest first, and whether the last to issue is one (17 R543),
whether its registers have a parity error that its next issue meets (16 R511), and, while a memory access
that its gate has passed waits for its line, the identity that the next brush or taken entry had at the check (15 R490). -/
structure Ctx where
  act : Option Event := none
  inb : Option Event := none
  keys : List (Nat × Nat) := []
  waitMask : Option (Nat × Nat) := none
  stall : Stall := .none
  outPkt : Option Packet := none
  handled : Bool := false
  timers : KMap Nat := []
  targeted : List Event := []
  lostEv : Nat := 0
  brushes : List Brush := []
  failed : Nat := 0
  issued : Nat := 0
  tenant : Option Nat := none
  contained : Bool := false
  tags : List Tag := []
  tagging : Bool := false
  parity : Bool := false
  passed : Option Nat := none
  deriving DecidableEq, Repr

/-- What an engine holds beside its contexts: the steered event queue oldest first, the dispatch pointer, the issue
pointer, the blocks of its sketch cache by offset ÷ 256, latest first, those of them that cannot be read (notes/assumptions/71.md), and the tagging counter and LFSR (05 R139, 06 R186,
R195, 17 R543). -/
structure Eng where
  queue : List Event := []
  ptr : Nat := 0
  issue : Nat := 0
  code : List (Nat × List Byte) := []
  codeEcc : List Nat := []
  down : Nat := 0
  lfsr : BitVec 32 := 1
  deriving DecidableEq, Repr

/-- A sketch slot (06 R177 to R179, R186). -/
structure Sketch where
  valid : Bool := false
  loading : Bool := false
  level : Nat := 0
  tenant : Nat := 0
  svn : Nat := 0
  budget : Nat := 0
  palNeed : Nat := 0
  codeLen : Nat := 0
  handlers : List Nat := []
  deriving DecidableEq, Repr

/-- A verification key slot (06 R181). -/
structure VKey where
  minSvn : Nat
  tbind : Bool
  tenant : Nat
  maxLevel : Nat
  key : List Byte
  deriving DecidableEq, Repr

/-- The sketch store, verification keys, locked key slots and the mailbox command in progress with its arguments
(06 R181 to R186); steered events that wait for their engine's queue, oldest first (R196), and how often each
steering entry has moved (R194). -/
structure Sandbox where
  slots : KMap Sketch := []
  keys : KMap VKey := []
  locked : List Nat := []
  running : Option (Nat × List Word) := none
  waiting : List Event := []
  moved : KMap Nat := []
  deriving DecidableEq, Repr

/-! ## Coherence and memory (13, 14) -/

/-- The state of a line in an L1 (13 R433); I is absence. -/
inductive L1St where
  | m | o | e | s
  deriving DecidableEq, Repr

/-- A line in an L1. `ecc` is the error that its cells hold until an access meets it (13 R453): 1 a correctable one, 2 an
uncorrectable one. -/
structure L1Line where
  line : Nat
  st : L1St
  data : List Byte
  poison : Bool := false
  ecc : Nat := 0
  deriving DecidableEq, Repr

/-- A writeback buffer (13 R436). -/
structure WbBuf where
  eng : Nat
  line : Nat
  st : L1St
  data : List Byte
  poison : Bool
  deriving DecidableEq, Repr

/-- A line of a harbour cache slice (13 R431); `ecc` as in an L1. -/
structure SliceLine where
  line : Nat
  data : List Byte
  dirty : Bool := false
  poison : Bool := false
  pinned : Bool := false
  ecc : Nat := 0
  deriving DecidableEq, Repr

/-- The directory states (13 R435); free is absence. -/
inductive DState where
  | s | x | o
  deriving DecidableEq, Repr

/-- The requests that open a transaction (13 R441). -/
inductive TxnKind where
  | gets | getm | rdu
  | wru (off : Nat) (bytes : List Byte)
  | atu (word : Nat) (op : AtomOp) (y cmp : Word)
  deriving DecidableEq, Repr

/-- An open transaction (13 R435, R441): its request, the acknowledgements it awaits, the state its data
grant, the line whose eviction it awaits (R448), and whether a writeback in flight holds it (R442). -/
structure Txn where
  kind : TxnKind
  req : CohReq
  acks : Nat := 0
  grant : L1St := .s
  awaiting : Option Nat := none
  nackd : Bool := false
  deriving DecidableEq, Repr

/-- A directory entry (13 R435), its way, and the acknowledgements that its eviction awaits (R449); `ecc` as in an L1. -/
structure DirEntry where
  line : Nat
  way : Nat
  st : Option DState
  owner : Nat := 0
  imask : List Nat := []
  emask : List Nat := []
  txn : Option Txn := none
  evict : Nat := 0
  ecc : Nat := 0
  deriving DecidableEq, Repr

/-- A reservation of a line or of a directory set (13 R446, R450). -/
structure Resv where
  req : CohReq
  made : Nat
  deriving DecidableEq, Repr

/-- A request waiting for its back-off (13 R444). -/
structure Backoff where
  kind : TxnKind
  req : CohReq
  due : Nat
  deriving DecidableEq, Repr

/-- A coherence message in flight (13 R439, R440), with what it carries. -/
inductive CohMsg where
  | gets (r : CohReq)
  | getm (r : CohReq)
  | rdu (r : CohReq)
  | wru (r : CohReq) (off : Nat) (bytes : List Byte)
  | atu (r : CohReq) (word : Nat) (op : AtomOp) (y cmp : Word)
  | putm (e l : Nat)
  | puto (e l : Nat)
  | pute (e l : Nat)
  | done (r : CohReq) (dirty : Bool)
  | invAck (isl l : Nat) (data : Option (List Byte)) (poison : Bool)
  | nackWb (e l : Nat)
  | dataS (e l : Nat) (data : List Byte) (poison dirty : Bool)
  | dataE (e l : Nat) (data : List Byte) (poison : Bool)
  | dataM (e l : Nat) (data : Option (List Byte)) (poison dirty : Bool)
  | fwdGets (owner : Nat) (r : CohReq)
  | fwdGetm (owner : Nat) (r : CohReq)
  | fwdRdu (owner : Nat) (r : CohReq)
  | inv (e l : Nat)
  | binv (e l : Nat)
  | recall (owner l : Nat)
  | nack (r : CohReq)
  | wbAck (e l : Nat)
  deriving DecidableEq, Repr

/-- The L1s, slices, directories and messages in flight (13): L1 sets keyed by 64 × engine + set and
slice sets by 4,096 × island + set, most recent way first; directory entries by line; `back` the dirty data that an
island holds for its one INV_ACK, by 16 × line + island (R438); the priority pointers of the harbours, and the lines where a
request has lost a tie that its winner has still to reach (R443). -/
structure Coh where
  l1 : KMap (List L1Line) := []
  wb : List WbBuf := []
  slice : KMap (List SliceLine) := []
  dir : KMap DirEntry := []
  lineResv : KMap Resv := []
  setResv : KMap Resv := []
  nacked : List (TxnKind × CohReq) := []
  backoffs : List Backoff := []
  replies : List (CohReq × List Byte × Bool) := []
  back : KMap (List Byte × Bool) := []
  msgs : List CohMsg := []
  ptrs : KMap Nat := []
  ties : List Nat := []
  deriving DecidableEq, Repr

/-- A row remap in force (14 R468): physical channel, bank, row and spare row. -/
structure Remap where
  ch : Nat
  bank : Nat
  row : Nat
  spare : Nat
  deriving DecidableEq, Repr

/-- What a physical channel counts in a second (14 R469): when the second began, EDC retries, the DQ pin of each
corrected symbol, and whether an earlier second was at a threshold and is still to be raised. -/
structure ChSecond where
  since : Nat := 0
  edc : Nat := 0
  pins : List Nat := []
  worn : Bool := false
  deriving DecidableEq, Repr

/-- A migration (14 R470): its logical, old and new channel; when the copier last moved and the bytes of a group that it had then
copied; what the new channel holds of a line otherwise than the old one: its symbols in error, and whether it is poison; and
the group at which the copier stood when the old channel was contained, since when it has copied poison. -/
structure Migration where
  lch : Nat
  old : Nat
  new : Nat
  at' : Nat := 0
  part : Nat := 0
  lines : KMap (List Sym × Bool) := []
  lost : Option Nat := none
  deriving DecidableEq, Repr

/-- The GDDR6 controllers (14): row remaps; groups visited in this scrub pass per logical channel and when the pass began;
corrected symbols of this pass per row (256 for a row with an uncorrectable codeword); injections armed as (pin, symbols); the
symbols in error of lines; for a line, how often the EDC of its next read and of its next write do not match (R466: the wires'
doing, notes/assumptions/70.md); channels that retrain, with the state they return to; contained channels; the migration; the
counts of this second; pinned contexts as (is a queue context, number), the harbour accesses of this window by context
(2 × number, and 1 more for a queue context), and when the last window of the placement loop ended. -/
structure Gddr where
  remaps : List Remap := []
  scrub : KMap Nat := []
  scrubAt : Nat := 0
  rowCorr : KMap Nat := []
  armed : KMap (Nat × Nat) := []
  injected : KMap (List Sym) := []
  edc : KMap (Nat × Nat) := []
  retrain : KMap Nat := []
  contained : List Nat := []
  mig : Option Migration := none
  second : KMap ChSecond := []
  pins : List (Bool × Nat) := []
  hits : KMap Nat := []
  placeAt : Nat := 0
  deriving DecidableEq, Repr

/-! ## Semaphores, gates, lifecycle (15) -/

/-- A stalled claim of a semaphore (15 R493, R498): the claimant, the time it was first sampled, whether it is a
lock.acq, and the MGMT command whose read it is (10 R348). -/
structure Claim where
  m : Mst
  since : Nat
  lock : Bool
  req : Option MgmtReq := none
  deriving DecidableEq, Repr

/-- A read of GTE_FENCE that stalls (15 R490): its master, gate and start, the identity that the next brush or
taken entry had then, and the MGMT command whose read it is (10 R348). -/
structure Fence where
  m : Mst
  gate : Nat
  since : Nat
  mark : Nat
  req : Option MgmtReq := none
  deriving DecidableEq, Repr

/-- Semaphore claims and pointers, and GTE_FENCE reads that stall (15 R490 to R500). -/
structure Guard where
  claims : KMap (List Claim) := []
  ptrs : KMap Nat := []
  fences : List Fence := []
  deriving DecidableEq, Repr

/-- The fuses (15 R503, 18 R574): they keep their content through every reset. -/
structure Fuses where
  keyDigest : List Byte := []
  minSvn : Nat := 0
  state : Nat := 2
  pending : Option Nat := none
  killed : Bool := false
  ok : Bool := true
  deriving DecidableEq, Repr

/-! ## Faults, counters, time, audit (16, 17) -/

/-- The fault unit beside its registers (16): conditions present as (source, unit), containments that
the command in progress still owes, as (unit kind, unit, source), uncorrectable errors in the cells of the structures of domain 2
whose place the spec does not give, as (source, unit): the next read meets them (notes/assumptions/71.md); the domains whose record
the command in progress took (R518); when the memories of an engine met uncorrectable errors, as (engine, ns), newest first, and
the retirements that wait for contexts, as the engine, its contexts that had EN, and whether the spare takes over (R533). -/
structure Faults where
  conds : List (Nat × Nat) := []
  due : List (Nat × Nat × Nat) := []
  latent : List (Nat × Nat) := []
  fresh : List Nat := []
  engErrs : List (Nat × Nat) := []
  retiring : List (Nat × List Nat × Bool) := []
  deriving DecidableEq, Repr

/-- Time (11 R392, 17 R548 to R550) and counters: the offset still to slew, nanoseconds to hold, the
fraction of the slew, PPS_OUT, its fall time and the TIM_NOW of its last rise, the last edge of PPS_IN, the
TIM_NOW of the last look for the end of a bandwidth window, the live byte counts, and the windows that have ended and are not yet shown, as (sent, received, windows
that ended there: the first with the counts, the others empty). -/
structure Clock where
  now : Nat := 0
  slewUp : Nat := 0
  slewDown : Nat := 0
  hold : Nat := 0
  frac : Nat := 0
  ppsOut : Bool := false
  ppsFall : Nat := 0
  ppsAt : Nat := 0
  ppsIn : Option Nat := none
  bwAt : Nat := 0
  cycSince : KMap Nat := []
  bwTx : KMap Nat := []
  bwRx : KMap Nat := []
  bwDone : List (KMap Nat × KMap Nat × Nat) := []
  deriving DecidableEq, Repr

/-- The audit unit beside its registers and store (17 R555, R556, R561): the owed GAP range; `deny` says that a change of
the command in progress was refused; the slots whose record fails its check (notes/assumptions/71.md). -/
structure Audit where
  owed : Option (Nat × Nat) := none
  deny : Bool := false
  corrupt : List Nat := []
  deriving DecidableEq, Repr

/-! ## Reset, boot, power (18, 19) -/

/-- The phases of the device (18 R562 to R570): held by a device warm reset, reset ended and boot due, running,
booted into recovery. -/
inductive Phase where
  | warmHeld | bootDue | running | recovery
  deriving DecidableEq, Repr

/-- An image install in progress (18 R578): slot, bytes and result. -/
structure Install where
  slot : Nat
  image : List Byte
  result : Nat
  deriving DecidableEq, Repr

/-- Resets and boot in progress (18): when the phase began, islands in reset, an install in progress, the SVN booted
before, soft repairs in force and how many spares of each macro and strait are used (16 R532), whether the pier is in service, whether boot writes registers now, without records
(R575), whether WARM_RST_N has stayed low since it started the reset (R564), and the sketch-served queues whose doorbell events an island reset raises again (R567). -/
structure Boot where
  phase : Phase := .bootDue
  began : Nat := 0
  islands : List Nat := []
  installing : Option Install := none
  prevSvn : Nat := 0
  pierBooted : Bool := false
  sram : KMap Word := []
  spent : KMap Nat := []
  quiet : Bool := false
  rstLow : Bool := false
  bells : List Nat := []
  deriving DecidableEq, Repr

/-- The loops of one island (19 R592 to R595): steps held by droop protection, the cap and the voltage limit, when
droop protection last moved, the voltage needed at the step and at the one above, the step at which they were told, and when the
voltage loop last ran. -/
structure IslePower where
  droop : Nat := 0
  droopAt : Nat := 0
  cap : Nat := 0
  limit : Nat := 0
  need : Nat := 0
  needUp : Nat := 0
  needAt : Option Nat := none
  loopAt : Nat := 0
  deriving DecidableEq, Repr

/-- Power (19): the islands, when the VDD_CORE request was last lowered, the time above 95 °C: since when, and
the sum before; when the cap was last weighed, the instructions that the engines of each island have issued since, and when each
junction sensor was last read. -/
structure Power where
  isles : KMap IslePower := []
  lowered : Nat := 0
  hotAt : Option Nat := none
  hotNs : Nat := 0
  capAt : Nat := 0
  issued : KMap Nat := []
  readAt : KMap Nat := []
  deriving DecidableEq, Repr

/-! ## Connections and canvases (07) -/

/-- A packet in the retransmission store (07 R235): as sent, when, the fabric time then (R236), whether sent once only, its SACK bit,
its NOT_READY back-off (R232), the status of its refusal, and the entry it belongs to. `pause` counts the
nanoseconds of a drain, which its timer does not count (10 R351). -/
structure TxCopy where
  seq : Nat
  pkt : Packet
  sentAt : Nat
  sentTim : Nat := 0
  once : Bool := true
  pause : Nat := 0
  sacked : Bool := false
  nrDue : Option Nat := none
  nrStep : Nat := 0
  refused : Option Nat := none
  owner : Option (Nat × Nat) := none
  deriving DecidableEq, Repr

/-- The sending side of a stream (07 R209, R233 to R239). The fields that R211 shows are also in the
connection context, which `setTx` keeps equal. -/
structure Tx where
  next : Nat := 0
  cum : Nat := 0
  cwnd : Nat := 0
  clamp : Nat := 0
  srtt : Nat := 0
  rttvar : Nat := 0
  rto : Nat := 0
  retries : Nat := 0
  acked : Nat := 0
  lastCut : Nat := 0
  sampled : Bool := false
  copies : List TxCopy := []
  deriving DecidableEq, Repr

/-- What became of a received SEQ at or beyond the mark (07 R228, R229, R232). -/
inductive RxState where
  | staged
  | inService
  | resolved
  | refused (reason : Nat)
  deriving DecidableEq, Repr

/-- A received SEQ at or beyond the mark; `line` is the line of device memory where a staged packet begins (14 R464, R473). -/
structure RxSeq where
  pkt : Packet
  st : RxState
  line : Nat := 0
  deriving DecidableEq, Repr

/-- The receiving side of a stream (07 R227 to R231): the mark, the SEQs beyond it, and what R231 asks of
the next ACK. -/
structure Rx where
  mark : Nat := 0
  seqs : KMap RxSeq := []
  fresh : Nat := 0
  firstAt : Option Nat := none
  ce : Bool := false
  deriving DecidableEq, Repr

/-- A request of this end whose reply is awaited (07 R224): its SEQ, entry, range, the bytes it asks for and the bytes placed;
for a rendezvous read, the bound receive (08 R271). -/
structure Outst where
  seq : Nat
  ptype : Nat
  owner : Option (Nat × Nat) := none
  laddr : Nat := 0
  len : Nat := 0
  want : Nat := 0
  func : Nat := 0
  devmem : Bool := false
  placed : Nat := 0
  old : Word := 0
  recv : Option Nat := none
  deriving DecidableEq, Repr

/-- What a connection binds its current message to until LAST (08 R267): a receive, or an unexpected entry by its number and its
identity, as a number is used again (R266). -/
inductive MsgBind where
  | recv (id : Nat)
  | unexp (u id : Nat)
  deriving DecidableEq, Repr

/-- A packet handed to the connection unit that waits for its window, for store room or for the end of a
rekeying (07 R235, R239, R244), with the request it records (R224), the entry it belongs to, the sender number of the
context that stalls for it (05 R169), and whether its wait for store room has been counted. -/
structure TxWait where
  pkt : Packet
  owner : Option (Nat × Nat) := none
  req : Option Outst := none
  sender : Option Nat := none
  full : Bool := false
  deriving DecidableEq, Repr

/-- A connection beside its context words (07 R210). `binds` holds the targets of SEND packets handed over and
not yet consumed, by SEQ. -/
structure Conn where
  tx0 : Tx := {}
  tx1 : Tx := {}
  rx0 : Rx := {}
  rx1 : Rx := {}
  ctl : Nat := 0
  cur : Option (List Byte) := none
  nxt : Option (List Byte) := none
  outst : List Outst := []
  flushes : List Packet := []
  note9 : Bool := false
  note10 : Option (Nat × Nat × Nat) := none
  bind : Option MsgBind := none
  binds : KMap MsgBind := []
  wait : List TxWait := []
  nackAt : Option Nat := none
  dueSent : Bool := false
  peerDue : Bool := false
  rekeySent : Option Nat := none
  rekeyAsk : Bool := false
  deriving DecidableEq, Repr

/-! ## Matching (08) -/

/-- A posted receive (08 R255): its ordinal, ring, take index, context and entry. -/
structure Post where
  ord : Nat
  rq : Nat
  ridx : Nat
  mctx : Nat
  entry : Octet
  deriving DecidableEq, Repr

/-- A receive bound to a message (08 R258, R268, R276): its post, the message, bytes placed and whether a
placement failed. `late` is the unexpected entry it was taken from; `stale` says that a Function Level Reset took
its function away (03 R75). -/
structure Bound where
  id : Nat
  post : Post
  tag : Word
  src : Nat
  conn : Option Nat
  total : Option Nat := none
  placed : Nat := 0
  late : Option Nat := none
  rts : Bool := false
  key : Nat := 0
  failed : Bool := false
  stale : Bool := false
  deriving DecidableEq, Repr

/-- An unexpected message (08 R266): its pool entry, identity, context, header, bytes stored, whether it is whole,
and the receive a post has bound to it. -/
structure Unexp where
  u : Nat
  id : Nat := 0
  mctx : Nat
  hdr : Octet
  conn : Option Nat
  rts : Bool
  stored : Nat := 0
  complete : Bool := false
  bound : Option Nat := none
  taken : Bool := false
  deriving DecidableEq, Repr

/-- A transient canvas in use (08 R270, R272): its entry, the SEND it serves, its read (SEQ and length) and the
SEQ of the read's last reply. -/
structure Transient where
  canvas : Nat
  conn : Nat
  owner : Nat × Nat
  reading : Option (Nat × Nat) := none
  last : Option Nat := none
  done : Bool := false
  len : Nat := 0
  deriving DecidableEq, Repr

/-- The matching unit beside its contexts (08): the chains of the 1,048,576 bins of exact receives and the wild list of
each context, in the order of posting (R255, R257), bound receives, unexpected messages in hand-off order, transient
canvases, and the episodes of R254, R256 and R260. -/
structure Matching where
  bins : KMap (List Post) := []
  wild : KMap (List Post) := []
  bounds : List Bound := []
  unexp : List Unexp := []
  trans : List Transient := []
  full : List Nat := []
  stalled : List Nat := []
  unbound : List Nat := []
  waits : List (Nat × Nat) := []
  deriving DecidableEq, Repr

/-- Every posted receive. -/
def Matching.posts (m : Matching) : List Post := m.bins.flatMap (·.2) ++ m.wild.flatMap (·.2)

/-! ## Trees (09) -/

/-- An element of a chunk: the bits of its type, or an exact accumulator with the status of R306. -/
inductive Elem where
  | raw (v : Nat)
  | acc (a : Int) (st : Nat)
  deriving DecidableEq, Repr

/-- What an operation does (09 R287): KIND, DTYPE and OP. -/
structure Coll where
  kind : Nat
  dtype : Nat := 0
  op : Nat := 0
  deriving DecidableEq, Repr

/-- A staging slot (09 R293, R302): chunk number, instance, operation, LEN, index of the first element, the
inputs held (children by index, local inputs as 16 + index), the elements, and poison. -/
structure Slot where
  chunk : Nat
  inst : Nat
  coll : Coll
  len : Nat
  off : Nat
  inputs : List Nat := []
  elems : List Elem := []
  poison : Bool := false
  deriving DecidableEq, Repr

/-- Who contributes to an instance or issues a multicast (09 R289, R291): an entry of a work ring, or a
context through mix.open. -/
inductive Member where
  | entry (q id : Nat)
  | ctx (c handle : Nat)
  deriving DecidableEq, Repr

/-- An open local contribution (09 R287 to R291): who, its instance and index there, the operation, LEN, result
address, the bytes supplied, whether more may come, its FLAGGED bit (03 R84), chunks fed, and whether its entry has ended. -/
structure Contrib where
  who : Member
  inst : Nat
  idx : Nat
  coll : Coll
  source : Bool := false
  len : Nat
  result : Nat := 0
  func : Nat := 0
  devmem : Bool := false
  data : List Byte := []
  closed : Bool := true
  flag : Bool := false
  fed : Nat := 0
  ended : Bool := false
  deriving DecidableEq, Repr

/-- Progress of one instance or multicast at a node (09 R297 to R300, R311, R313): the down packets seen by
offset, FINALs received and their counts, children pruned, chunks that have left, poison, whether its STATUS
has been told, and whether its KIND is still open because only contexts have contributed (R291). -/
structure Inst where
  inst : Nat
  mc : Bool := false
  coll : Coll
  len : Nat
  offs : List Nat := []
  finals : List Nat := []
  count : Nat := 0
  pruned : List Nat := []
  ups : Nat := 0
  poisoned : Bool := false
  told : Bool := false
  sent : Bool := false
  loose : Bool := false
  owner : Option Member := none
  deriving DecidableEq, Repr

/-- A tree node beside its entry (09): staging slots, the parent's cumulative grant, chunks freed,
contributions taken for INST and beyond, the first chunk of INST, contributions, instances, the time of the last
progress, and multicasts seen. -/
structure TreeSt where
  slots : KMap Slot := []
  grant : Nat := 8
  freed : Nat := 0
  taken : Nat := 0
  base : Nat := 0
  contribs : List Contrib := []
  insts : List Inst := []
  progress : Nat := 0
  mcs : List Nat := []
  deriving DecidableEq, Repr

/-! ## Routing and links (10, 11) -/

/-- A packet's claim on VC `vc` of port `port` (10 R340): when it first claimed that output, and when it first claimed the VC of the
strait's landing buffer before it (01 R26). -/
structure Want where
  port : Nat
  vc : Nat
  since : Nat
  land : Nat
  deriving DecidableEq, Repr

/-- A packet held in the device until it wins an output (10 R330): where it came from and the credit it
holds there (R376), its mark, since when it waits, the port it must take (a twin of R385, a SERVICE port of
R323), the failed port whose replay buffer still holds it, with its FSEQ there (R385), the entry that completes when it leaves (R345), and
the sender number of the context that stalls for it (05 R169). `isle` is the island whose switch a packet formed here enters (01
R12), `wants` its claims (01 R26), `ecc` the error that its input
buffer holds (16 R511): 1 a correctable one, 2 an uncorrectable one. -/
structure Held where
  id : Nat
  pkt : Packet
  inPort : Option Nat := none
  vcIn : Nat := 0
  pool : Bool := false
  mark : Bool := false
  since : Nat := 0
  twin : Option Nat := none
  replayOf : Option Nat := none
  fseq : Nat := 0
  ferry : Bool := false
  owner : Option (Nat × Nat) := none
  sender : Option Nat := none
  behind : List (Nat × Nat) := []
  wants : List Want := []
  isle : Option Nat := none
  stomp : Bool := false
  ecc : Nat := 0
  deriving DecidableEq, Repr

/-- A packet that has won an output and waits for its frame (10 R340, 11 R369), with the header it came with; `parity` is
an error of its strait or island switch (16 R511). -/
structure TxItem where
  pkt : Packet
  mark : Bool
  pool : Bool
  vc : Nat
  before : Octet
  owner : Option (Nat × Nat) := none
  stomp : Bool := false
  parity : Bool := false
  deriving DecidableEq, Repr

/-- A packet in the landing buffer of the strait from island `src` to the island of `port` (01 R13); `ecc` is the error that
the buffer holds, as in an input buffer. -/
structure Landing where
  src : Nat
  port : Nat
  item : TxItem
  ecc : Nat := 0
  deriving DecidableEq, Repr

/-- An accepted MGMT command that the warden has still to carry out, with its payload (10 R348). -/
structure MgmtAsk where
  req : MgmtReq
  body : List Byte
  deriving DecidableEq, Repr

/-- Routing beside its registers and tables (10): packets waiting for an output, packets arrived for this
device, packets taken by their unit whose event has no room yet and which keep their buffer (06 R196), held flagged
packets, packets in strait landing buffers, the rotating pointers of the output VCs (01 R27) by 8 × port + VC, the routing
LFSR, MGMT commands that the warden has still to carry out, FWCTL entries on the firmware control ring by take index, and
when the drain began. -/
structure Route where
  held : List Held := []
  arrived : List Held := []
  parked : List Held := []
  flagged : List Held := []
  landing : List Landing := []
  ptrs : KMap Nat := []
  lfsr : BitVec 16 := 1
  mgmt : List MgmtAsk := []
  fwctl : KMap MgmtReq := []
  drainAt : Nat := 0
  deriving DecidableEq, Repr

/-- A data frame in the replay buffer (11 R369); `ecc` as in an input buffer. -/
structure RFrame where
  fseq : Nat
  pkt : Packet
  mark : Bool
  pool : Bool
  stomp : Bool := false
  ecc : Nat := 0
  deriving DecidableEq, Repr

/-- The latest TIME frame received on a port (11 R389, R390). -/
structure TimeNote where
  tx : Nat
  atTim : Nat
  prio : Nat
  dist : Nat
  dnv : Bool
  dev : Nat
  uid : Nat
  deriving DecidableEq, Repr

/-- A fast retrain (12 R416): its request number, when it began, whether this end initiated it, whether it is accepted, whether
training runs and since when, and the periods of PRBS31 sent. -/
structure Retrain where
  rseq : Nat
  began : Nat
  initiator : Bool
  accepted : Bool := false
  training : Bool := false
  trainAt : Nat := 0
  prbs : Nat := 0
  deriving DecidableEq, Repr

/-- What one receiving lane knows of the sender (12 R407, R408). -/
structure LanePeer where
  plane : Nat
  port : Nat
  uid : Nat
  fecm : Nat
  deriving DecidableEq, Repr

/-- What the alignment block received on a lane tells (12 R400). -/
structure LaneAlign where
  plane : Nat
  fecm : Nat
  pcount : Nat
  at' : Nat := 0
  deriving DecidableEq, Repr

/-- Words 2 to 5 of a lane record (12 R411). -/
structure LaneWords where
  w2 : Word := 0
  w3 : Word := 0
  w4 : Word := 0
  w5 : Word := 0
  deriving DecidableEq, Repr

/-- An announced map change (12 R413): the PCOUNT at which it applies, the width and the map; `swap` says that it replaces a
failing lane (R414), `fresh` that the period of its announcement still runs. -/
structure MapChange where
  at' : Nat
  width : Nat
  map : Nat
  swap : Bool := false
  fresh : Bool := true
  deriving DecidableEq, Repr

/-- A port beside its registers: the link layer (11) and the lane layer (12), with the units that await their data slots and the
58 latest scrambled bits of each lane (12 R401). `expired`: the replay timer expired at an edge at which a FACK came (11 R372);
`replaying`: the rewind mark of the replay still being sent and how many units it has left (R371); `ctl`: the control frames
that are due, by their order (R382); `laneSent`: the record words last sent in a LANE frame (12 R412); `lost`: the lanes that
lost block lock in this window (R408); `mapWait`: the width of an accepted request that waits for PEND (R413); `retrainNeed`
and `widthNeed`: what a follower asks again (R417). -/
structure Port where
  txq : List TxItem := []
  replay : List RFrame := []
  count : Nat := 0
  more : Nat := 0
  retrainedAt : Option Nat := none
  nakPending : Bool := false
  nakDue : Bool := false
  timer : Nat := 0
  expired : Bool := false
  replaying : Option (Nat × Nat) := none
  ctl : List Nat := []
  laneSent : Option LaneWords := none
  lost : List Nat := []
  cidx : Nat := 0
  grant : KMap Nat := []
  recvd : KMap Nat := []
  creditDirty : Bool := false
  creditAt : Nat := 0
  creditSeen : Bool := false
  aligned : Bool := false
  patternAt : Option Nat := none
  phaseAt : Nat := 0
  retrain : Option Retrain := none
  tide : Option (List Nat × Nat) := none
  tideAt : Nat := 0
  timeAt : Nat := 0
  time : Option TimeNote := none
  wins : Nat := 0
  marks : Nat := 0
  nonmins : Nat := 0
  occ : Nat := 0
  occLvl : Nat := 0
  occAt : Nat := 0
  winAt : Nat := 0
  peers : KMap LanePeer := []
  aligns : KMap LaneAlign := []
  units : List Block := []
  scr : KMap (BitVec 58) := []
  peer : Option LanePeer := none
  peerDnv : Option Nat := none
  peerWords : LaneWords := {}
  pend : Option MapChange := none
  mirror : Option Nat := none
  mapWait : Option Nat := none
  req : Nat := 0
  rwidth : Nat := 0
  rseq : Nat := 0
  ackSeq : Nat := 0
  widthNeed : Option Nat := none
  retrainNeed : Bool := false
  fecMode : Nat := 0
  held : Bool := false
  deriving DecidableEq, Repr

/-! ## Lamp modules (12) -/

/-- A lamp module's controller beside its registers (12 R421 to R425); `rated` is the rated bias read from its identity (R420, R423). -/
structure Lamp where
  en : Bool := false
  challenge : List Byte := []
  askedAt : Option Nat := none
  firstLit : Bool := false
  auth : Bool := false
  eol : KMap Nat := []
  dark : KMap Nat := []
  peak : KMap Nat := []
  lastTick : Nat := 0
  loopAt : Nat := 0
  rated : Nat := 0
  deriving DecidableEq, Repr

/-! ## The whole state -/

/-- No meaning of this model ends in a fault: every command has an effect in every state. -/
inductive Fault where
  /-- Raised by no meaning. Safe. -/
  | noSuchUnit
  deriving DecidableEq, Repr

/-- Refusals of the model. -/
inductive Refusal where
  /-- A command without a meaning yet, by its mnemonic; raised only in the arms of exec. Safe. -/
  | notModelled (mnemonic : String)
  deriving DecidableEq, Repr

/-- The state of the Plovler. -/
structure State where
  /-- software-visible words that differ from their reset values or have been written -/
  regs : List (Reg × Word) := []
  /-- device memory by offset A (14 R460) -/
  mem : Memory := []
  /-- lines of device memory that read as poison (14 R465) -/
  poison : KMap Unit := []
  /-- palettes by 65,536 × engine + offset (05 R148) -/
  pal : Memory := []
  /-- palette words that are uncorrectable, by address ÷ 8 -/
  palPoison : KMap Unit := []
  /-- palette words with a correctable error, by address ÷ 8 (16 R513, notes/assumptions/71.md) -/
  palEcc : KMap Unit := []
  hosts : KMap HostPort := []
  /-- the PCI Express layer of the functions: 256 × port + function, 1,024 the pier function -/
  fns : KMap FnCfg := []
  pier : Pier := {}
  pins : KMap ReadyPin := []
  /-- event FIFOs: 0 the pier, 1 + i island i -/
  evs : KMap EvFifo := []
  samples : Fifo (List Word) := {}
  queues : KMap QueueSt := []
  sched : Sched := {}
  metering : Metering := {}
  ctxs : KMap Ctx := []
  engs : KMap Eng := []
  sandbox : Sandbox := {}
  conns : KMap Conn := []
  mtch : Matching := {}
  trees : KMap TreeSt := []
  route : Route := {}
  ports : KMap Port := []
  lamps : KMap Lamp := []
  coh : Coh := {}
  gddr : Gddr := {}
  guard : Guard := {}
  fuses : Fuses := {}
  faults : Faults := {}
  clock : Clock := {}
  audit : Audit := {}
  boot : Boot := {}
  power : Power := {}
  /-- the model's own: the next identity of a taken entry, packet or brush -/
  nextId : Nat := 0
  /-- the model's own: how many free values have been drawn -/
  free : Nat := 0
  /-- the model's own: the commands that wait, first in first out -/
  pending : List Instr := []
  /-- the model's own: what the part has driven on its interfaces, oldest first -/
  out : List Output := []
  deriving DecidableEq, Repr

/-- The machine right after power-on reset, POR_N deasserted, boot not yet run (notes/assumptions/3.md):
every word at its reset value, memory with nothing listed, every unit empty. -/
def State.reset : State := {}

end Sys2Proof.Machine
end

