-- ==== Sys2Proof/Machine/Pcs.lean ====
section
/-! DEFINITION. The coding of a lane (12 R397 to R403): blocks, the alignment block, the scrambler, the code words of RS(544,514)
and RS(272,257), the PAM4 symbols, and how a period and a lane record are built from them. -/

namespace Sys2Proof.Machine

/-! ## Bits and symbols (12 R397) -/

/-- The `n` bits of a number in sending order, bit 0 first. -/
def bitsOf (n v : Nat) : List Bool := (List.range n).map v.testBit

/-- The number that bits in sending order spell. -/
def bitsNat (l : List Bool) : Nat := l.foldr (fun b v => b.toNat + 2 * v) 0

/-- The Gray mapping of two successive line bits, of which the first stands left (notes/assumptions/55.md). -/
def pamOf : Bool → Bool → Pam
  | false, false => .m3
  | false, true => .m1
  | true, true => .p1
  | true, false => .p3

/-- The symbols of line bits. -/
def pamList : List Bool → List Pam
  | a :: b :: t => pamOf a b :: pamList t
  | _ => []

/-! ## Blocks (12 R398, R400, R403) -/

/-- The header of a block is valid (12 R398). -/
def headerValid (h : BitVec 2) : Bool := h == 1 || h == 2

/-- A continuation block and a marked block (12 R398). -/
def contBlock (bs : List Byte) : Block := { header := 1, payload := BitVec.ofNat 128 (ofBytes bs) }
def markedBlock (bs : List Byte) : Block := { header := 2, payload := BitVec.ofNat 128 (ofBytes bs) }

/-- An IDLE block (12 R403). -/
def idleBlock : Block := { header := 2, payload := 0 }

/-- AMARK (12 R400). -/
abbrev amark : Nat := 0x4B1ED2A5C3F00F3C96E17A85

/-- The alignment block of a lane (12 R400). -/
def alignBlock (plane fecm pcount : Nat) : Block :=
  { header := 2
    payload := BitVec.ofNat 128 (amark * 2 ^ 32 + plane % 8 * 2 ^ 29 + fecm % 2 * 2 ^ 28 + pcount % 256 * 2 ^ 20) }

/-- The bits of a payload in which AMARK is in error. -/
def amarkErrors (p : BitVec 128) : Nat := ((bitsOf 96 (p.toNat / 2 ^ 32 ^^^ amark)).filter id).length

/-- AMARK is found in a payload: at most six of its bits are in error (12 R405). -/
def amarkFound (p : BitVec 128) : Bool := decide (amarkErrors p ≤ 6)

/-- What an alignment block tells its receiver (12 R400). -/
def alignOf (p : BitVec 128) : LaneAlign :=
  { plane := p.toNat / 2 ^ 29 % 8, fecm := p.toNat / 2 ^ 28 % 2, pcount := p.toNat / 2 ^ 20 % 256 }

/-- The blocks of a frame: its units of 16 B, the first of them marked (12 R403). -/
def frameBlocks (bs : List Byte) : List Block :=
  (List.range ((bs.length + 15) / 16)).map fun k =>
    let u := (bs.drop (16 * k)).take 16
    if k = 0 then markedBlock u else contBlock u

/-- Byte 7 of a block. -/
def blockByte7 (b : Block) : Nat := b.payload.toNat / 2 ^ 56 % 256

/-- The frame that the blocks of data slots spell (12 R403): IDLE blocks are removed, the first unit is a frame start, whatever
its byte 7 holds, and the others continue it; none where they spell anything else. -/
def slotFrame (bs : List Block) : Option (List Byte) :=
  match bs.filter fun b => !(b.header == 2 && blockByte7 b == 0) with
  | [] => none
  | b :: t =>
    if b.header == 2 && t.all (·.header == 1) then some ((b :: t).flatMap fun x => bytesOf 16 x.payload.toNat) else none

/-! ## The scrambler (12 R401) -/

/-- Bit `k` before the next one of a lane's scrambled bits. -/
def earlier (h : BitVec 58) (k : Nat) : Bool := h.getLsbD (k - 1)

/-- The history after a further scrambled bit. -/
def scrNext (h : BitVec 58) (b : Bool) : BitVec 58 := (h <<< 1) ||| BitVec.ofNat 58 b.toNat

/-- Payload bits are scrambled: s = d XOR s(−39) XOR s(−58). -/
def scramble : BitVec 58 → List Bool → List Bool × BitVec 58
  | h, [] => ([], h)
  | h, d :: t =>
    let s := d ^^ earlier h 39 ^^ earlier h 58
    let r := scramble (scrNext h s) t
    (s :: r.1, r.2)

/-- Received bits are descrambled with the bits received before them. -/
def descramble : BitVec 58 → List Bool → List Bool × BitVec 58
  | h, [] => ([], h)
  | h, s :: t =>
    let r := descramble (scrNext h s) t
    ((s ^^ earlier h 39 ^^ earlier h 58) :: r.1, r.2)

/-- The message bits of a block: its header, never scrambled, then its payload. -/
def sendBlock (h : BitVec 58) (scrambled : Bool) (b : Block) : List Bool × BitVec 58 :=
  let d := bitsOf 128 b.payload.toNat
  let r := if scrambled then scramble h d else (d, h)
  (bitsOf 2 b.header.toNat ++ r.1, r.2)

/-- The message bits of scrambled blocks in turn. -/
def sendBlocks (h : BitVec 58) : List Block → List Bool × BitVec 58
  | [] => ([], h)
  | b :: t =>
    let x := sendBlock h true b
    let y := sendBlocks x.2 t
    (x.1 ++ y.1, y.2)

/-! ## Periods and lane records (12 R399, R411) -/

/-- The data slots of a period on one lane. -/
abbrev slotsPerPeriod : Nat := 4096

/-- The blocks of a lane in a period after the alignment block: its data slots, IDLE where no unit is left, the four blocks of
its record, and eleven IDLE blocks (12 R399). -/
def periodBlocks (units : List Block) (record : List Byte) : List Block :=
  units ++ List.replicate (slotsPerPeriod - units.length) idleBlock
    ++ (List.range 4).map (fun k => markedBlock ((record.drop (16 * k)).take 16)) ++ List.replicate 11 idleBlock

/-- The message bits of a period on one lane, and the scrambler's history after it. -/
def periodBits (h : BitVec 58) (plane fecm pcount : Nat) (units : List Block) (record : List Byte) : List Bool × BitVec 58 :=
  let a := sendBlock h false (alignBlock plane fecm pcount)
  let r := sendBlocks h (periodBlocks units record)
  (a.1 ++ r.1, r.2)

/-- Units of logical lane `i` of `w`: they are dealt to the lanes in turn (12 R403). -/
def laneUnits (w i : Nat) (units : List Block) : List Block :=
  (List.range slotsPerPeriod).filterMap fun j => units[j * w + i]?

/-- The payload bytes that four received blocks of a lane record carry, descrambled with the 58 bits received before them (12
R401); none unless their headers mark them (R399). -/
def recordBytes (h : BitVec 58) (bs : List Block) : Option (List Byte) :=
  if bs.length = 4 && bs.all (fun b => b.header == 2) then
    some (bytesOf 64 (bitsNat (descramble h (bs.flatMap fun b => bitsOf 128 b.payload.toNat)).1))
  else none

/-! ## Forward error correction (12 R402; the field and the generator are IEEE 802.3's, notes/assumptions/55.md) -/

/-- A product in GF(2^10) with x^10 = x^3 + 1; the fuel counts the bits of `b`. -/
def gfMulN : Nat → Nat → Nat → Nat
  | 0, _, _ => 0
  | k + 1, a, b =>
    let a2 := if 512 ≤ a then (2 * a) ^^^ 0x409 else 2 * a
    (if b % 2 = 1 then a else 0) ^^^ gfMulN k a2 (b / 2)

/-- The product of two symbols. -/
def gfMul (a b : Nat) : Nat := gfMulN 10 a b

/-- α to the power `k`, with α = x. -/
def gfPow : Nat → Nat
  | 0 => 1
  | k + 1 => gfMul 2 (gfPow k)

/-- A polynomial, lowest coefficient first, times (x + a). -/
def gfTimes (p : List Nat) (a : Nat) : List Nat :=
  (List.range (p.length + 1)).map fun i => (if i = 0 then 0 else p.getD (i - 1) 0) ^^^ gfMul a (p.getD i 0)

/-- The generator with `n` parity symbols: roots α^0 to α^(n−1). -/
def rsGen (n : Nat) : List Nat := (List.range n).foldl (fun p k => gfTimes p (gfPow k)) [1]

/-- The parity symbols of a message of 10-bit symbols, in sending order. -/
def rsParity (n : Nat) (msg : List Nat) : List Nat :=
  let g := (rsGen n).take n
  (msg.foldl
    (fun (r : List Nat) m =>
      let f := m ^^^ r.getD (n - 1) 0
      (List.range n).map fun i => (if i = 0 then 0 else r.getD (i - 1) 0) ^^^ gfMul f (g.getD i 0))
    (List.replicate n 0)).reverse

/-- Message and parity symbols of a codeword (R402): mode 0 is RS(544,514), mode 1 is RS(272,257). -/
def rsMessage (mode : Nat) : Nat := if mode = 0 then 514 else 257
def rsParities (mode : Nat) : Nat := if mode = 0 then 30 else 15

/-- The symbols of message bits, ten bits each in sending order. -/
def symbolsOf (bs : List Bool) : List Nat :=
  (List.range (bs.length / 10)).map fun k => bitsNat ((bs.drop (10 * k)).take 10)

/-- The line bits of the `k` codewords that message symbols fill: each codeword sends its message and then its parity. -/
def codewords (mode : Nat) : Nat → List Nat → List Bool
  | 0, _ => []
  | k + 1, syms =>
    let m := syms.take (rsMessage mode)
    (m ++ rsParity (rsParities mode) m).flatMap (bitsOf 10) ++ codewords mode k (syms.drop (rsMessage mode))

/-- The line bits of a period: 104 codewords, or 208 (R402). -/
def lineBits (mode : Nat) (message : List Bool) : List Bool :=
  codewords mode (if mode = 0 then 104 else 208) (symbolsOf message)

/-! ## Decoding (12 R402, R406) -/

/-- The inverse of a symbol that is not zero: its power 1,022. -/
def gfInv (a : Nat) : Nat := (List.range 1022).foldl (fun p _ => gfMul p a) 1

/-- A polynomial, lowest coefficient first, at a point. -/
def gfEval (p : List Nat) (x : Nat) : Nat := p.foldr (fun c a => gfMul a x ^^^ c) 0

/-- The sum of two polynomials. -/
def gfAdd (a b : List Nat) : List Nat := (List.range (max a.length b.length)).map fun i => a.getD i 0 ^^^ b.getD i 0

/-- The syndromes of a received codeword, its first symbol the highest coefficient. -/
def rsSyndromes (n : Nat) (w : List Nat) : List Nat := (List.range n).map fun k => gfEval w.reverse (gfPow k)

/-- The search for the error locator: the locator, the one before the last change of length, the length, the steps since that
change and its discrepancy (Berlekamp and Massey). -/
structure Locator where
  c : List Nat := [1]
  b : List Nat := [1]
  len : Nat := 0
  gap : Nat := 1
  disc : Nat := 1

/-- One step of the search, on syndrome `i`. -/
def Locator.next (synd : List Nat) (l : Locator) (i : Nat) : Locator :=
  let d := (List.range (l.len + 1)).foldl (fun a j => a ^^^ gfMul (l.c.getD j 0) (synd.getD (i - j) 0)) 0
  if d = 0 then { l with gap := l.gap + 1 }
  else
    let k := gfMul d (gfInv l.disc)
    let c := gfAdd l.c (List.replicate l.gap 0 ++ l.b.map (gfMul k))
    if 2 * l.len ≤ i then { c := c, b := l.c, len := i + 1 - l.len, gap := 1, disc := d }
    else { l with c := c, gap := l.gap + 1 }

/-- The error locator of some syndromes. -/
def rsLocator (synd : List Nat) : Locator := (List.range synd.length).foldl (Locator.next synd) {}

/-- The odd coefficients of a polynomial in their places: its derivative times x. -/
def gfOdd (p : List Nat) : List Nat := (List.range p.length).map fun i => if i % 2 = 1 then p.getD i 0 else 0

/-- A received codeword with its errors corrected, and how many symbols that took; none where it cannot be corrected. -/
def rsCorrect (mode : Nat) (w : List Nat) : Option (List Nat × Nat) :=
  let n := rsParities mode
  let synd := rsSyndromes n w
  let l := rsLocator synd
  let omega := (List.range n).map fun i => (List.range (i + 1)).foldl (fun a j => a ^^^ gfMul (l.c.getD j 0) (synd.getD (i - j) 0)) 0
  let size := w.length
  let fixed := (List.range size).map fun i =>
    let x := gfInv (gfPow (size - 1 - i))
    if gfEval l.c x = 0 then (w.getD i 0 ^^^ gfMul (gfEval omega x) (gfInv (gfEval (gfOdd l.c) x)), 1) else (w.getD i 0, 0)
  let k := fixed.foldl (fun a x => a + x.2) 0
  let out := fixed.map (·.1)
  if k = l.len && decide (2 * k ≤ n) && (rsSyndromes n out).all (· == 0) then some (out, k) else none

/-- Corrected symbols and uncorrectable codewords among received codewords. -/
def rsCounts (mode : Nat) (ws : List (List Nat)) : Nat × Nat :=
  ws.foldl (fun c w => match rsCorrect mode w with | some (_, k) => (c.1 + k, c.2) | none => (c.1, c.2 + 1)) (0, 0)

/-- The sync headers of the blocks that received codewords carry, from a block boundary on (12 R398, R406); a codeword that
cannot be corrected is taken as it came. -/
def rsHeaders (mode : Nat) (ws : List (List Nat)) : List (BitVec 2) :=
  let msg := ws.flatMap fun w => (match rsCorrect mode w with | some (x, _) => x | none => w).take (rsMessage mode)
  let bits := msg.flatMap (bitsOf 10)
  (List.range (bits.length / 130)).map fun k => BitVec.ofNat 2 (bitsNat ((bits.drop (130 * k)).take 2))

end Sys2Proof.Machine
end

