-- ==== Sys2Proof/Machine/Flags.lean ====
section
/-! DEFINITION. The status codes that commands compute: completion statuses (03 R104), malformed reasons
(03 R105), unit-operation status bytes (05 R162), trap codes (05 R157), and the status word of an
accumulator (09 R306). -/

namespace Sys2Proof.Machine

/-! ## Completion statuses (03 R104) -/

abbrev ST.ok : Nat := 0x00
abbrev ST.malformed : Nat := 0x01
abbrev ST.access : Nat := 0x02
abbrev ST.remoteKey : Nat := 0x03
abbrev ST.remoteBounds : Nat := 0x04
abbrev ST.localFault : Nat := 0x05
abbrev ST.timeout : Nat := 0x06
abbrev ST.broken : Nat := 0x07
abbrev ST.flushed : Nat := 0x08
abbrev ST.truncated : Nat := 0x09
abbrev ST.somePruned : Nat := 0x0A
abbrev ST.treeBroken : Nat := 0x0B
abbrev ST.poisoned : Nat := 0x0C

/-! ## Malformed reasons (03 R105) -/

abbrev RS.opcode : Nat := 0x01
abbrev RS.reserved : Nat := 0x02
abbrev RS.length : Nat := 0x03
abbrev RS.opLength : Nat := 0x04
abbrev RS.inline : Nat := 0x05
abbrev RS.connection : Nat := 0x06
abbrev RS.alignment : Nat := 0x07
abbrev RS.privilege : Nat := 0x08
abbrev RS.opmod : Nat := 0x09

/-! ## Status bytes of unit operations (05 R162) -/

abbrev US.ok : Nat := 0
abbrev US.empty : Nat := 1
abbrev US.noresv : Nat := 2
abbrev US.denied : Nat := 3
abbrev US.full : Nat := 4
abbrev US.badarg : Nat := 5
abbrev US.nomatch : Nat := 6
abbrev US.hit : Nat := 7

/-- What a unit operation writes to its destination: (value << 8) | status. -/
def unitWord (value status : Nat) : Word := BitVec.ofNat 64 (value % 2 ^ 56 * 256 + status % 256)

/-! ## Trap codes (05 R157) -/

abbrev TC.illegal : Nat := 1
abbrev TC.privilege : Nat := 2
abbrev TC.misaligned : Nat := 3
abbrev TC.address : Nat := 4
abbrev TC.access : Nat := 5
abbrev TC.fetch : Nat := 6
abbrev TC.budget : Nat := 7
abbrev TC.trap : Nat := 8
abbrev TC.memory : Nat := 9

/-! ## The status word of an accumulator (09 R306) -/

abbrev AS.nan : Nat := 1
abbrev AS.posInf : Nat := 2
abbrev AS.negInf : Nat := 4
abbrev AS.notNegZero : Nat := 8

/-- The union of two status words' contribution bits. -/
def accStatusOr (a b : Nat) : Nat := (a ||| b) % 16

end Sys2Proof.Machine
end

