-- ==== Sys2Proof/Config.lean ====
section
/-! DEFINITION. What the spec leaves open, as constants without a body (notes/assumptions/12.md). No proof can see a
value of any of them. -/

namespace Sys2Proof.Config

/-- A fresh word where the spec states no value (notes/assumptions/12.md). -/
opaque freeWord : Nat → Word

/-- A fresh byte where the spec states no value. -/
opaque freeByte : Nat → Byte

/-- The next value of the 16-bit routing LFSR (10 R331): the spec gives no polynomial. -/
opaque routeLfsr : BitVec 16 → BitVec 16

/-- The form of the tagging LFSR (17 R543): the spec gives its polynomial, not whether its taps feed the first bit
or every tapped bit. -/
opaque tagGalois : Bool

/-- The adaptive hash that a source gives a packet (01 R18): the spec says that the source chooses it. -/
opaque adaptiveHash : Nat → BitVec 16

/-- What a unit number of 16 R535 names: none for a strait, else an SRAM macro, with its engine where it belongs to one (17
R553 numbers them, and the spec gives no list; notes/assumptions/75.md). -/
opaque repairPlace : Nat → Option (Option Nat)

/-- The lamp root key in the fuses (12 R421), a key of AES-256: a secret of each part. -/
opaque lampRoot : Vector Byte 32

end Sys2Proof.Config
end

