-- ==== Sys2Proof/Machine/Packets.lean ====
section
/-! DEFINITION. Fabric packets (01 R17 to R24): header fields, types, end-to-end trailers and CRC-32C. -/

namespace Sys2Proof

/-! ## Header fields (01 R18) -/

abbrev H.hmark : OFld := ⟨0, 63, 56⟩
abbrev H.ferry : OFld := ⟨0, 55, 55⟩
abbrev H.nonmin : OFld := ⟨0, 54, 54⟩
abbrev H.hops : OFld := ⟨0, 53, 51⟩
abbrev H.flag : OFld := ⟨0, 50, 50⟩
abbrev H.vc : OFld := ⟨0, 49, 47⟩
abbrev H.mclass : OFld := ⟨0, 46, 46⟩
abbrev H.ptype : OFld := ⟨0, 45, 40⟩
abbrev H.src : OFld := ⟨0, 39, 20⟩
abbrev H.dst : OFld := ⟨0, 19, 0⟩
abbrev H.epoch : OFld := ⟨1, 63, 56⟩
abbrev H.conn : OFld := ⟨1, 55, 38⟩
abbrev H.tenant : OFld := ⟨1, 37, 26⟩
abbrev H.tree : OFld := ⟨1, 25, 12⟩
abbrev H.igroup : OFld := ⟨1, 11, 0⟩
abbrev H.ahash : OFld := ⟨2, 63, 48⟩
abbrev H.e2e : OFld := ⟨2, 45, 44⟩
abbrev H.len : OFld := ⟨2, 43, 32⟩
abbrev H.seq : OFld := ⟨2, 31, 0⟩
abbrev H.opmod : OFld := ⟨3, 55, 48⟩
abbrev H.mctx : OFld := ⟨3, 47, 32⟩
abbrev H.ckey : OFld := ⟨3, 31, 0⟩
abbrev H.offset : OFld := ⟨4, 47, 0⟩
abbrev H.tag : OFld := ⟨5, 63, 0⟩

/-! ## Packet types (01 R23) -/

abbrev PT.put : Nat := 0x01
abbrev PT.getReq : Nat := 0x02
abbrev PT.getResp : Nat := 0x03
abbrev PT.atomReq : Nat := 0x04
abbrev PT.atomResp : Nat := 0x05
abbrev PT.sendEager : Nat := 0x06
abbrev PT.sendRts : Nat := 0x07
abbrev PT.flushReq : Nat := 0x08
abbrev PT.flushResp : Nat := 0x09
abbrev PT.ack : Nat := 0x0A
abbrev PT.nack : Nat := 0x0B
abbrev PT.mixUp : Nat := 0x10
abbrev PT.mixDown : Nat := 0x11
abbrev PT.mcast : Nat := 0x12
abbrev PT.dgram : Nat := 0x18
abbrev PT.mgmt : Nat := 0x20

/-- The class of a listed packet type: 0 request, 1 reply (01 R23). -/
def ptClass (t : Nat) : Option Nat :=
  if t = 0x01 ∨ t = 0x02 ∨ t = 0x04 ∨ t = 0x06 ∨ t = 0x07 ∨ t = 0x08 ∨ t = 0x10 ∨ t = 0x18 ∨ t = 0x20 then some 0
  else if t = 0x03 ∨ t = 0x05 ∨ t = 0x09 ∨ t = 0x0A ∨ t = 0x0B ∨ t = 0x11 ∨ t = 0x12 then some 1
  else none

/-- A type that travels on a connection. -/
def ptOnConn (t : Nat) : Bool := decide (1 ≤ t ∧ t ≤ 0x0B)

/-- A tree packet. -/
def ptTree (t : Nat) : Bool := decide (0x10 ≤ t ∧ t ≤ 0x12)

/-- The length of the end-to-end trailer that E2E names (01 R17). -/
def e2eLen (e : Nat) : Nat := if e = 1 then 4 else if e = 2 then 16 else 0

/-- A header that R19 and R23 of 01 let pass. -/
def headerOk (h : Octet) : Bool :=
  decide (h.get H.hmark = 0xA5) && decide (h.get H.e2e ≠ 3)
    && decide (h.get H.len + e2eLen (h.get H.e2e) ≤ 2048)
    && decide (ptClass (h.get H.ptype) = some (h.get H.mclass))

/-- The bytes of a packet as a buffering point holds it (01 R17). -/
def Packet.bytes (p : Packet) : List Byte := p.hdr.toByteList ++ p.payload ++ p.trailer

/-- The length that a packet's header states. -/
def hdrBytes (h : Octet) : Nat := 64 + h.get H.len + e2eLen (h.get H.e2e)

/-- The packet that the bytes of a frame spell, by its header (11 R361). -/
def packetOf (bs : List Byte) : Packet :=
  let h := Octet.ofByteList (bs.take 64)
  let n := h.get H.len
  { hdr := h, payload := (bs.drop 64).take n, trailer := (bs.drop (64 + n)).take (e2eLen (h.get H.e2e)) }

/-- The cost of a packet (04 R111). -/
def Packet.cost (p : Packet) : Nat := hdrBytes p.hdr

/-- The lines of device memory that a staged packet takes (14 R464). -/
def Packet.lines (p : Packet) : Nat := (p.bytes.length + 63) / 64

/-- The credit units of a packet, at most 33 (11 R375). -/
def Packet.units (p : Packet) : Nat := min 33 ((hdrBytes p.hdr + 63) / 64)

/-! ## CRC-32C (11 R363) -/

/-- One bit step of the reflected Castagnoli division. -/
def crcBit (c : BitVec 32) : BitVec 32 := if c.getLsbD 0 then (c >>> 1) ^^^ 0x82F63B78#32 else c >>> 1

/-- `n` bit steps. -/
def crcBits : Nat → BitVec 32 → BitVec 32
  | 0, c => c
  | n + 1, c => crcBits n (crcBit c)

/-- One byte step. -/
def crcByte (c : BitVec 32) (b : Byte) : BitVec 32 := crcBits 8 (c ^^^ b.setWidth 32)

/-- CRC-32C: initial value and final XOR all ones. -/
def crc32c (bs : List Byte) : BitVec 32 := bs.foldl crcByte 0xFFFFFFFF#32 ^^^ 0xFFFFFFFF#32

/-! ## End-to-end trailers (01 R20) -/

/-- The header as an end-to-end check covers it: the rewritable fields are zero. -/
def e2eHeader (h : Octet) : Octet :=
  let h := ((((h.set H.vc 0).set H.hops 0).set H.ferry 0).set H.nonmin 0).set H.igroup 0
  if ptTree (h.get H.ptype) then (h.set H.dst 0).set H.src 0 else h

/-- The end-to-end CRC-32C of a packet. -/
def e2eCrc (p : Packet) : List Byte := bytesOf 4 (crc32c ((e2eHeader p.hdr).toByteList ++ p.payload)).toNat

/-- The packet with its CRC-32C formed when E2E names one, and no trailer when it names none. -/
def Packet.withCrc (p : Packet) : Packet :=
  if p.get H.e2e = 1 then { p with trailer := e2eCrc p } else { p with trailer := [] }

/-- The packet's CRC-32C holds, or it carries none. -/
def Packet.crcOk (p : Packet) : Bool := if p.get H.e2e = 1 then p.trailer == e2eCrc p else true

/-- The kind of count a packet takes its SEQ from: 0 request stream, 1 reply stream, 2 control (07 R241). -/
def seqKind (t : Nat) : Nat := if t = PT.ack ∨ t = PT.nack then 2 else (ptClass t).getD 0

/-- The GCM nonce of 07 R241. -/
def gcmNonce (conn dir kind epoch seq : Nat) : BitVec 96 :=
  BitVec.ofNat 96 (conn % 262144 * 2 ^ 43 + dir % 2 * 2 ^ 42 + kind % 4 * 2 ^ 40 + epoch % 256 * 2 ^ 32 + seq % 2 ^ 32)

/-- The header with every reserved bit zero, as a source sends it (01 R18, R22). -/
def Octet.plain (h : Octet) : Octet :=
  ((((h.set ⟨2, 47, 46⟩ 0).set ⟨3, 63, 56⟩ 0).set ⟨4, 63, 48⟩ 0).setWord 6 0).setWord 7 0

/-- The packet's parts agree with its header (01 R17, R19). -/
def Packet.whole (p : Packet) : Bool :=
  p.payload.length == p.get H.len && p.trailer.length == e2eLen (p.get H.e2e)

/-- A header of a type between two endpoints; its class follows the type (01 R18). -/
def mkHeader (ptype src dst tenant : Nat) : Octet :=
  (((((Octet.zero.set H.hmark 0xA5).set H.ptype ptype).set H.mclass ((ptClass ptype).getD 0)).set H.src src).set
    H.dst dst).set H.tenant tenant

end Sys2Proof
end

