-- ==== Sys2Proof/Machine/Ops.lean ====
section
/-! DEFINITION. The named operations every meaning is written over: words and fields, per-unit records,
outputs, time, the ready pins, and the device FIFOs. -/

namespace Sys2Proof.Machine

/-- The outcome type of a step. -/
abbrev Out := Host.Outcome State Fault Refusal

/-! ## Words and fields -/

/-- The stored value of a word, if any. -/
def regFind : List (Reg × Word) → Reg → Option Word
  | [], _ => none
  | (k, v) :: t, r => if k = r then some v else regFind t r

/-- The stored words with one replaced or added. -/
def regPut : List (Reg × Word) → Reg → Word → List (Reg × Word)
  | [], r, v => [(r, v)]
  | (k, w) :: t, r, v => if k = r then (k, v) :: t else (k, w) :: regPut t r v

/-- The value of a word: as stored, or its reset value (00 R3). -/
def State.get (s : State) (r : Reg) : Word := (regFind s.regs r).getD r.reset

/-- The state with a word replaced. -/
def State.set (s : State) (r : Reg) (v : Word) : State := { s with regs := regPut s.regs r v }

/-- The value of a field. -/
def State.rd (s : State) (f : Fld) : Nat := bits (s.get f.reg) f.hi f.lo

/-- The state with a field replaced by the low bits of a number. -/
def State.wr (s : State) (f : Fld) (v : Nat) : State := s.set f.reg (setBits (s.get f.reg) f.hi f.lo v)

/-- Whether a field is not zero. -/
def State.on (s : State) (f : Fld) : Bool := s.rd f != 0

/-- A field counted up by `k`, saturating at its width. -/
def State.count (s : State) (f : Fld) (k : Nat := 1) : State := s.wr f (satAdd (f.hi + 1 - f.lo) (s.rd f) k)

/-- The state with every word that satisfies `p` back at its reset value. -/
def State.resetRegs (s : State) (p : Reg → Bool) : State := { s with regs := s.regs.filter fun c => !p c.1 }

/-- The bits of a word outside its fields read as zero and ignore writes (00 R4): the mask of the fields
that satisfy `p`. -/
def fieldMask (r : Reg) (p : FieldDesc → Bool) : Word :=
  r.fields.foldl (fun w f => if p f then setBits w f.hi f.lo (2 ^ (f.hi + 1 - f.lo) - 1) else w) 0

/-- The effect of writing `v` to a word under the access codes of 00 R5: RW fields take the bits, RWL
fields too unless locked, W1C bits clear, everything else keeps its value. W1S bits are actions of their
own rules. -/
def accWrite (r : Reg) (locked : Bool) (old v : Word) : Word :=
  let rw := fieldMask r fun f => f.acc = .rw || (f.acc = .rwl && !locked)
  let w1c := fieldMask r fun f => f.acc = .w1c
  ((old &&& ~~~rw) ||| (v &&& rw)) &&& ~~~(w1c &&& v)

/-- The word after a read clears its RC fields (00 R5). -/
def accReadClear (r : Reg) (old : Word) : Word := old &&& ~~~(fieldMask r fun f => f.acc = .rc)

/-! ## Per-unit records -/

def State.host (s : State) (n : Nat) : HostPort := s.hosts.at n {}
def State.setHost (s : State) (n : Nat) (f : HostPort → HostPort) : State := { s with hosts := s.hosts.upd n {} f }
def State.fn (s : State) (k : Nat) : FnCfg := s.fns.at k {}
def State.setFn (s : State) (k : Nat) (f : FnCfg → FnCfg) : State := { s with fns := s.fns.upd k {} f }
def State.pin (s : State) (k : Nat) : ReadyPin := s.pins.at k {}
def State.setPin (s : State) (k : Nat) (f : ReadyPin → ReadyPin) : State := { s with pins := s.pins.upd k {} f }
def State.ev (s : State) (k : Nat) : EvFifo := s.evs.at k {}
def State.setEv (s : State) (k : Nat) (f : EvFifo → EvFifo) : State := { s with evs := s.evs.upd k {} f }
def State.que (s : State) (q : Nat) : QueueSt := s.queues.at q {}
def State.setQue (s : State) (q : Nat) (f : QueueSt → QueueSt) : State := { s with queues := s.queues.upd q {} f }
def State.ctx (s : State) (c : Nat) : Ctx := s.ctxs.at c {}
def State.setCtx (s : State) (c : Nat) (f : Ctx → Ctx) : State := { s with ctxs := s.ctxs.upd c {} f }
def State.eng (s : State) (e : Nat) : Eng := s.engs.at e {}
def State.setEng (s : State) (e : Nat) (f : Eng → Eng) : State := { s with engs := s.engs.upd e {} f }

/-! ## Outputs and values of the model's own -/

/-- The Plovler is at DEVICE_HALT or TERMINAL (16 R520). -/
def State.halted (s : State) : Bool := s.on F.fltHalt_HALTED

/-- The state after driving an interface. -/
def State.emit (s : State) (o : Output) : State := { s with out := s.out ++ [o] }

/-- The state after a placement, completion, event or meter record: none is written after the halt point
(16 R520). -/
def State.dma (s : State) (o : Output) : State := if s.halted then s else s.emit o

/-- Host lines that a host port in CXL mode takes through CXL.cache for a brush read or an atomic (02 R30): 4,096 are held,
the oldest going first (DESIGN CHOICE, notes/assumptions/51.md). -/
def State.cxlTouch (s : State) (f iova n : Nat) : State :=
  if (s.host (f / 256)).cxl && !s.halted then
    s.setHost (f / 256) fun h =>
      let new := ((List.range ((iova % 64 + n + 63) / 64)).map fun i => (f, iova / 64 + i)).reverse
      { h with lines := (new ++ h.lines.filter fun l => !new.contains l).take 4096 }
  else s

/-- The state after a read of a master is answered. -/
def State.answer (s : State) (m : Mst) (v : Word) : State := s.emit (.answer m v)

/-- The next identity of the model's own. -/
def State.takeId (s : State) : State := { s with nextId := s.nextId + 1 }

/-- A free value has been drawn (notes/assumptions/12.md). -/
def State.drawn (s : State) : State := { s with free := s.free + 1 }

/-! ## Time -/

/-- The island of a context: 17 engines of eight contexts each (01 R10). -/
def ctxIsl (c : Nat) : Nat := c / 136

/-- Fabric time TIM_NOW (17 R548). -/
def State.tim (s : State) : Nat := s.rd F.timNow_NOW

/-- Nanoseconds since power-on reset. -/
def State.now (s : State) : Nat := s.clock.now

/-- By time `t` a pulse that began 1 µs before has ended, and a pin whose waiting fall has come due falls (02 R64, R67). -/
def pinFallDue (t : Nat) (p : ReadyPin) : ReadyPin :=
  let e := (p.pulsedAt.getD 0) + 1000
  let p := if p.pulsing && decide (e ≤ t) then { p with pulsing := false, riseAt := e } else p
  match p.fallDue with
  | some d => if d ≤ t then { p with level := false, fallAt := d, fallDue := none } else p
  | none => p

/-! ### Counts of passing time (17 R537, R538) -/

/-- STATE of a context (06 R187). -/
abbrev XS.idle : Nat := 0
abbrev XS.running : Nat := 1
abbrev XS.waiting : Nat := 2
abbrev XS.halted : Nat := 3

def State.ctxState (s : State) (c : Nat) : Nat := s.rd (F.ctxCfg_STATE c)

/-- The home island of a line (13 R430). -/
def lineHome (l : Nat) : Nat := (l % 16) ^^^ (l / 256 % 16) ^^^ (l / 65536 % 16) ^^^ (l / 16777216 % 16)

/-- A context is ready: running, no unit or memory stall holding it, and no ready context left that its yield waits for (05
R155). A context waits only for such as have not issued since, so that a chain of yields is no longer than an engine has
contexts: that is the fuel. -/
def State.readyIn (s : State) : Nat → Nat → Bool
  | 0, _ => false
  | k + 1, c =>
    s.ctxState c == XS.running
      && (match (s.ctx c).stall with
          | .none => true
          | .yielded l => !l.any fun x => s.readyIn k x
          | _ => false)
def State.ctxReady (s : State) (c : Nat) : Bool := s.readyIn 8 c

/-- Counter k of block b (0 to 15 an island, 16 the device) counts: EN is 1 and FREEZE is 0 (17 R538). -/
def State.cntCounts (s : State) (b k : Nat) : Bool := s.on (F.cntCtl_EN b k) && !s.on F.cntGlb_FREEZE

/-- `n` counts reach counter k; each wrap carries into a chained counter k + 1, or sets OVF (17 R539). The
fuel is the number of counters left above k. -/
def State.cntAdd (b : Nat) : Nat → Nat → Nat → State → State
  | fuel, k, n, s =>
    if s.cntCounts b k then
      let v := s.rd (F.cntVal_VAL b k) + n
      let s := s.wr (F.cntVal_VAL b k) v
      if v < 2 ^ 48 then s
      else
        match fuel with
        | 0 => s.wr (F.cntCtl_OVF b k) 1
        | f + 1 =>
          if s.on (F.cntCtl_CHAIN b (k + 1)) then State.cntAdd b f (k + 1) (v / 2 ^ 48) s
          else s.wr (F.cntCtl_OVF b k) 1
    else s

/-- The edges of a clock of `n` edges in `m` nanoseconds that fall within `d` nanoseconds from `t`. -/
def edgesIn (n m t d : Nat) : Nat := (t + d) * n / m - t * n / m

/-- The occupancy that a code names in block b (17 R537), with the edges of its clock in two nanoseconds: CLK_XBAR 3, CLK_CORE 6
(19 R589). A GDDR6 request waits where its channel retrains, one at each (notes/assumptions/56.md). -/
def State.occupancy (s : State) (b code : Nat) : Nat × Nat :=
  let sum (l : List Nat) : Nat := l.foldl (· + ·) 0
  if b < 16 then
    match code with
    | 0x40 => (sum (((s.route.held ++ s.route.arrived ++ s.route.parked).filter fun h => h.inPort.any (· / 8 == b)).map fun h => h.pkt.cost), 3)
    | 0x41 => (sum ((s.engs.filter fun e => e.1 / 17 == b).map fun e => e.2.queue.length), 6)
    | 0x42 => ((s.coh.dir.filter fun d => lineHome d.1 == b && d.2.txn.isSome).length, 6)
    | 0x43 => ((s.evs.at (1 + b) {}).fifo.items.length, 3)
    | _ => (0, 0)
  else
    match code with
    | 0xC1 => (s.gddr.retrain.length, 3)
    | 0xC0 => (sum (s.conns.map fun c => (c.2.rx0.seqs.filter fun x => x.2.st == RxState.staged).length), 3)
    | 0xC2 => (sum (s.hosts.map fun h => h.2.easel.items.length), 3)
    | _ => (0, 0)

/-- What counter k of block b counts while `d` nanoseconds pass: the edges at which an occupancy is above THRESH, or the issue slots
of engines that have no ready context. -/
def State.timeCount (s : State) (b k d : Nat) : Nat :=
  if !s.cntCounts b k || (k != 0 && s.on (F.cntCtl_CHAIN b k)) then 0
  else
    let code := s.rd (F.cntCtl_EVENT b k)
    if s.on (F.cntCtl_OCC b k) then
      let o := s.occupancy b code
      if s.rd (F.cntCtl_THRESH b k) < o.1 then edgesIn o.2 2 s.now d else 0
    else if b < 16 ∧ code = 2 then
      ((List.range 17).filter fun e => !(List.range 8).any fun c => s.ctxReady (8 * (17 * b + e) + c)).length
        * edgesIn 12 (4 + s.rd (F.pwrIsl_STEP b)) s.now d
    else 0

/-- The counters count what `d` passing nanoseconds make. -/
def State.timeCounts (s : State) (d : Nat) : State :=
  (List.range 17).foldl
    (fun t b => (List.range 8).foldl
      (fun t k => if s.timeCount b k d = 0 then t else State.cntAdd b (7 - k) k (s.timeCount b k d) t) t) s

/-- What TIM_NOW does while `d` nanoseconds of CLK_TIME pass (11 R392): the nanoseconds it holds, those it slews forward and back, and
the fraction of its slew; neither hold nor slew while FREEZE is 1. -/
def State.timMoves (s : State) (d : Nat) : Nat × Nat × Nat × Nat :=
  let c := s.clock
  let fz := s.on F.lnkGlbCfg_FREEZE
  let h := if fz then 0 else min c.hold d
  let f := c.frac + (d - h) * s.rd F.lnkGlbCfg_SLEW_MAX
  let still : Bool := fz || (c.slewUp == 0 && c.slewDown == 0)
  let k := if still then 0 else f / 1000000
  (h, min c.slewUp k, min c.slewDown (min k (d - h)), if still then 0 else f % 1000000)

/-- TIM_NOW after `d` nanoseconds of CLK_TIME. -/
def State.timAfter (s : State) (d : Nat) : Nat :=
  let (h, up, down, _) := s.timMoves d
  s.tim + (d - h) + up - down

/-- `d` nanoseconds of CLK_TIME pass: TIM_NOW holds, or counts with its slew; neither while FREEZE is 1 (11 R392). Counters of
occupancy and of idle issue slots count (17 R538). -/
def State.pass (s : State) (d : Nat) : State :=
  if d = 0 then s else
  let s := s.timeCounts d
  let c := s.clock
  let (h, up, down, frac) := s.timMoves d
  let s := s.wr F.timNow_NOW (s.timAfter d)
  { s with
    clock := { c with now := c.now + d, hold := c.hold - h, slewUp := c.slewUp - up, slewDown := c.slewDown - down, frac := frac }
    pins := s.pins.map fun p => (p.1, pinFallDue (c.now + d) p.2) }

/-- Time passes until `t` nanoseconds since power-on reset, when that lies ahead
(notes/assumptions/8.md). -/
def State.passTo (s : State) (t : Nat) : State := s.pass (t - s.now)

/-- The least number from `lo` up to `hi` with a property that `hi` has and that stays once it holds, by halves; the fuel counts
halvings. -/
def leastFrom (p : Nat → Bool) : Nat → Nat → Nat → Nat
  | 0, _, hi => hi
  | k + 1, lo, hi =>
    if hi ≤ lo then hi
    else if p ((lo + hi) / 2) then leastFrom p k lo ((lo + hi) / 2)
    else leastFrom p k ((lo + hi) / 2 + 1) hi

/-- The nanoseconds until TIM_NOW is first at least `t`: it never decreases, and what it holds and slews back is all that it can lag. -/
def State.timWait (s : State) (t : Nat) : Nat :=
  leastFrom (fun d => decide (t ≤ s.timAfter d)) 80 0 (t - s.tim + s.clock.hold + s.clock.slewDown)

/-- Time passes until TIM_NOW is at least `t` (notes/assumptions/8.md). -/
def State.passTim (s : State) (t : Nat) : State := if t ≤ s.tim then s else s.pass (s.timWait t)

/-! ## Ready pins (02 R60 to R67) -/

/-- A device warm reset holds every unit that it resets (18 R564). -/
def State.held (s : State) : Bool := decide (s.boot.phase = .warmHeld)

/-- Host port n is busy for boot or a reset (02 R60), or held busy in RETIRE (15 R505). -/
def State.hostBusyBoot (s : State) (n : Nat) : Bool :=
  let h := s.host n
  decide (s.boot.phase ≠ .running) || !h.booted || h.resetting || h.perst || h.flr.contains 0
    || s.boot.islands.contains (4 * n) || s.rd F.lcsState_STATE == 3

/-- A drain for a route-table change is in progress (02 R60). -/
def State.draining (s : State) : Bool := s.on F.rteCfg_DSTATE

/-- Host port n is busy (02 R60). -/
def State.hostBusy (s : State) (n : Nat) : Bool := s.hostBusyBoot n || s.draining || s.halted

/-- The pier is busy (02 R61). -/
def State.pierBusy (s : State) : Bool :=
  !s.boot.pierBooted || decide (s.boot.phase ≠ .running ∧ s.boot.phase ≠ .recovery)

/-- Whether the unit of pin k is busy: 0 to 3 the host ports, 4 the pier. -/
def State.pinBusy (s : State) (k : Nat) : Bool := if k < 4 then s.hostBusy k else s.pierBusy

/-- Whether the unit of pin k is busy for boot or a reset (02 R63, 18 R572). -/
def State.pinBoot (s : State) (k : Nat) : Bool := if k < 4 then s.hostBusyBoot k else s.pierBusy

/-- A busy cause takes a pin low, except during an attention pulse and the 1 µs after it (02 R67); a pin
without one rises once it has been low for 2 µs (R65) and its gate is enabled (15 R487). A cause that ends before the fall
it waits for takes the pin low no more: DESIGN CHOICE, R67 does not say (notes/assumptions/64.md). -/
def pinNext (busy gateOn : Bool) (now : Nat) (p : ReadyPin) : ReadyPin :=
  if busy then
    if !p.level then p
    else if p.pulsing then { p with fallDue := some (p.pulsedAt.getD 0 + 2000) }
    else if (p.pulsedAt.any fun t => now < t + 2000) then { p with fallDue := some (p.riseAt + 1000) }
    else { p with level := false, fallAt := now, fallDue := none }
  else
    let p := { p with fallDue := none }
    if !p.level && decide (p.fallAt + 2000 ≤ now) && gateOn then { p with level := true, riseAt := now } else p

/-- The ready pins follow their busy causes. -/
def State.pinSync (s : State) : State :=
  [0, 1, 2, 3, 4].foldl
    (fun t k => t.setPin k fun p =>
      let p := pinNext (s.pinBusy k) (s.on (F.gteCtl_EN k)) s.now p
      { p with ready := !s.pinBoot k && (p.ready || p.level) }) s

/-- The level a ready pin shows. -/
def ReadyPin.shown (p : ReadyPin) : Bool := p.level && !p.pulsing

/-! ## Device FIFOs (02 R45 to R59) -/

/-- The depth of a FIFO whose pointers have `k + 1` bits (02 R45). -/
def Fifo.depth {α : Type} (f : Fifo α) (k : Nat) : Nat := (f.wp + 2 ^ (k + 1) - f.rp) % 2 ^ (k + 1)

/-- A FIFO of 2^k entries is full: its pointers differ only in bit k (02 R45). -/
def Fifo.full {α : Type} (f : Fifo α) (k : Nat) : Bool := f.depth k == 2 ^ k

/-- The FIFO with an entry at its tail. -/
def Fifo.push {α : Type} (f : Fifo α) (k : Nat) (x : α) : Fifo α :=
  { f with wp := (f.wp + 1) % 2 ^ (k + 1), items := f.items ++ [x] }

/-- The FIFO without its head. -/
def Fifo.pop {α : Type} (f : Fifo α) (k : Nat) : Fifo α :=
  match f.items with
  | [] => f
  | _ :: t => { f with rp := (f.rp + 1) % 2 ^ (k + 1), items := t }

/-- The exponent of the capacity of the FIFO of index i (02 R48). -/
def fifoLog (i : Nat) : Nat := if i < 4 then 9 else if i = 4 then 10 else if i < 21 then 8 else 12

/-- The watermark flag follows the depth (02 R47); a set flag counts in SETS, and the pier's marks
EVTFLAG (R64). -/
def State.wmEval (s : State) (i depth : Nat) : State :=
  let s := s.wr (F.wm_DEPTH i) depth
  if s.rd (F.wm_HI i) ≤ depth then
    if s.on (F.wm_FLAG i) then s
    else
      let s := (s.wr (F.wm_FLAG i) 1).count (F.wm_SETS i)
      if i = 4 then s.wr F.pieAttn_EVTFLAG 1 else s
  else if depth ≤ s.rd (F.wm_LO i) then s.wr (F.wm_FLAG i) 0
  else s

/-- The current depth of the FIFO of index i. -/
def State.fifoDepth (s : State) (i : Nat) : Nat :=
  if i < 4 then (s.host i).easel.depth 9
  else if i < 21 then (s.ev (i - 4)).fifo.depth (fifoLog i)
  else s.samples.depth 12

/-- The level of FC_OUT[m] (02 R52, R53). -/
def State.fcOut (s : State) (m : Nat) : Bool :=
  let flag := s.on (F.fcOutSel_EN m) && decide (s.rd (F.fcOutSel_SRC m) < 22) && s.on (F.wm_FLAG (s.rd (F.fcOutSel_SRC m)))
  flag != s.on (F.fcOutSel_POL m)

/-- INTFC throttling holds back the FIFO's producers (02 R51). -/
def State.throttled (s : State) (i : Nat) : Bool := s.on (F.wm_FLAG i) && s.on (F.wm_INTFC i)

/-- An entry of an event FIFO before its sequence number (02 R56). -/
def evEntry (time cls master detail arg : Nat) : Quad :=
  ⟨BitVec.ofNat 64 time, BitVec.ofNat 64 (cls % 65536 * 2 ^ 48 + master % 65536 * 2 ^ 32 + detail % 2 ^ 32),
   BitVec.ofNat 64 arg, 0⟩

/-- An event FIFO takes an entry, stamped with its sequence number; 0 the pier, 1 + i island i. -/
def State.evPush (s : State) (k : Nat) (e : Quad) : State :=
  let s := s.setEv k fun v =>
    { v with fifo := v.fifo.push (fifoLog (4 + k)) { e with w3 := BitVec.ofNat 64 (v.eseq % 2 ^ 32 * 2 ^ 32) }
             eseq := (v.eseq + 1) % 2 ^ 32 }
  s.wmEval (4 + k) ((s.ev k).fifo.depth (fifoLog (4 + k)))

/-- A discarded event is counted (02 R59). -/
def State.evLost (s : State) (k : Nat) : State :=
  let s := s.setEv k fun v => { v with lost := satAdd 16 v.lost 1 }
  if k = 0 then s.count F.pieAttn_LOST else s

/-- The overflow entry of 02 R59, when entries were lost and a slot is free. -/
def State.evOverflow (s : State) (k : Nat) : State :=
  let v := s.ev k
  if v.lost = 0 || v.fifo.full (fifoLog (4 + k)) then s
  else (s.evPush k (evEntry s.tim 7 0 0 v.lost)).setEv k fun v => { v with lost := 0 }

/-- A unit posts an entry to an event FIFO (02 R51, R59): `low` marks an event of LOG severity, held back
while INTFC throttling lasts; a full FIFO loses the entry; the overflow entry precedes any other. -/
def State.evPost (s : State) (k cls master detail arg : Nat) (low : Bool := false) : State :=
  if low && s.throttled (4 + k) then s.evLost k
  else
    let s := s.evOverflow k
    if (s.ev k).fifo.full (fifoLog (4 + k)) then s.evLost k
    else s.evPush k (evEntry s.tim cls master detail arg)

/-- Software advances an event FIFO by one entry (02 R56, R58); when the advance ends INTFC throttling
with entries lost, the overflow entry is written (R51). -/
def State.evPop (s : State) (k : Nat) : State :=
  let was := s.throttled (4 + k)
  let s := s.setEv k fun v => { v with fifo := v.fifo.pop (fifoLog (4 + k)) }
  let s := s.wmEval (4 + k) ((s.ev k).fifo.depth (fifoLog (4 + k)))
  if was && !s.throttled (4 + k) then s.evOverflow k else s

/-- Word w of the head entry of an event FIFO, zero when it is empty (02 R56). -/
def State.evHead (s : State) (k w : Nat) : Word :=
  match (s.ev k).fifo.items with
  | [] => 0
  | e :: _ => match w with | 0 => e.w0 | 1 => e.w1 | 2 => e.w2 | _ => e.w3

/-- A producer of the sample FIFO: a full or throttled FIFO skips the record and counts it (02 R51,
17 R541). -/
def State.samplePush (s : State) (r : List Word) : State :=
  if s.samples.full 12 || s.throttled 21 then s.count F.cntSmpStat_SKIP
  else
    let s := { s with samples := s.samples.push 12 r }
    s.wmEval 21 (s.samples.depth 12)

/-- The age of a claim in CLK_XBAR cycles, saturating (01 R26). -/
def claimAge (now since : Nat) : Nat := min 65535 ((now - since) * 3 / 2)

end Sys2Proof.Machine
end

