-- ==== Sys2Proof/Machine/Rings.lean ====
section
/-! DEFINITION. Rings (03): index arithmetic, MSI-X, and the posting of event entries. -/

namespace Sys2Proof.Machine

/-- Indices of a ring of 2^k entries are k + 1 bits (03 R77). -/
def ringMod (k : Nat) : Nat := 2 ^ (k + 1)

/-- The depth (PI − CI) mod 2^(k+1) (03 R77). -/
def ringDepth (k pi ci : Nat) : Nat := (pi + ringMod k - ci % ringMod k) % ringMod k

/-- k of a queue. -/
def State.qLog (s : State) (q : Nat) : Nat := s.rd (F.qctx_LOG2SIZE q)

/-- The depth of a queue's ring. -/
def State.qDepth (s : State) (q : Nat) : Nat := ringDepth (s.qLog q) (s.rd (F.qctx_PI q)) (s.rd (F.qctx_CI q))

/-- The free slots of a completion ring: 2^k − depth − RSV (03 R96). -/
def State.qFree (s : State) (q : Nat) : Nat := 2 ^ s.qLog q - s.qDepth q - s.rd (F.qctx_RSV q)

/-- The function that a queue acts for: FUNC, which the Plovler ignores for queues 0 and 1 (03 R69): they stand at function
0 of host port 0 where a rule asks for a function (notes/assumptions/40.md). -/
def State.qFunc (s : State) (q : Nat) : Nat := if q < 2 then 0 else s.rd (F.qctx_FUNC q)

/-- STATE of a queue (03 R82). -/
def State.qState (s : State) (q : Nat) : Nat := s.rd (F.qctx_STATE q)

/-- Names of the queue states (03 R82). -/
abbrev QS.disabled : Nat := 0
abbrev QS.active : Nat := 1
abbrev QS.stalled : Nat := 2
abbrev QS.draining : Nat := 3
abbrev QS.error : Nat := 4

/-- A function or its port is in reset (03 R95). -/
def State.fnInReset (s : State) (func : Nat) : Bool :=
  let h := s.host (func / 256)
  h.flr.contains (func % 256) || h.resetting || h.perst

/-- A vector of a function is masked: MSI-X is off, or the function or the vector's entry is masked (03 R95). -/
def FnCfg.masked (c : FnCfg) (vector : Nat) : Bool := !c.msixOn || c.msixMask || (c.table.at vector {}).mask

/-- A vector is raised: driven, or left pending while it is masked, or recorded undelivered in HPT_ATTN when the
function is in reset or no bus master (03 R95). -/
def State.msix (s : State) (func vector : Nat) : State :=
  if s.fnInReset func || !(s.fn func).busMaster then
    let n := func / 256
    ((((s.wr (F.hptAttn_PEND n) 1).wr (F.hptAttn_VECTOR n) vector).wr (F.hptAttn_FUNC n) func).count
      (F.hptAttn_COUNT n))
  else if (s.fn func).masked vector then
    if (s.fn func).pend.contains vector then s else s.setFn func fun c => { c with pend := vector :: c.pend }
  else s.dma (.msix func vector)

/-- The pending vectors of a function that are masked no longer are driven (02 R35, 03 R95). -/
def State.msixFlush (s : State) (func : Nat) : State :=
  let c := s.fn func
  if s.fnInReset func || !c.busMaster then s
  else
    (c.pend.filter fun v => !c.masked v).foldr (fun v t => t.dma (.msix func v))
      (s.setFn func fun c => { c with pend := c.pend.filter fun v => c.masked v })

/-- The 32 bytes of four words. -/
def Quad.bytes (e : Quad) : List Byte :=
  bytesOf 8 e.w0.toNat ++ bytesOf 8 e.w1.toNat ++ bytesOf 8 e.w2.toNat ++ bytesOf 8 e.w3.toNat

/-- PHASE of the slot at index `pi` of a ring of 2^k entries (03 R93). -/
def phaseBit (k pi : Nat) : Nat := 1 - pi / 2 ^ k % 2

/-- The entry with its PHASE bit. -/
def Quad.withPhase (e : Quad) (p : Nat) : Quad := { e with w3 := setBits e.w3 63 63 p }

/-- The IOVA of the slot at index `i` (03 R76). -/
def State.slotAddr (s : State) (q i size : Nat) : Nat := s.rd (F.qctx_BASE q) + i % 2 ^ s.qLog q * size

/-- The producer index of a ring advances by one. -/
def State.advancePi (s : State) (q : Nat) : State :=
  let pi := (s.rd (F.qctx_PI q) + 1) % ringMod (s.qLog q)
  let s := if s.qDepth q = 0 then s.wr (F.qctx_HEADSINCE q) s.tim else s
  s.wr (F.qctx_PI q) pi

/-- An entry of 32 B is written to a host ring: one write, or words 0–2 and then word 3 under SPLITPH
(03 R94). Nothing is written after the halt point. -/
def State.ringPut (s : State) (q : Nat) (e : Quad) : State :=
  if s.halted then s else
  let pi := s.rd (F.qctx_PI q)
  let bs := (e.withPhase (phaseBit (s.qLog q) pi)).bytes
  let a := s.slotAddr q pi 32
  let fn := s.rd (F.qctx_FUNC q)
  let s :=
    if s.on (F.qctx_SPLITPH q) then
      (s.dma (.hostWrite fn a (bs.take 24))).dma (.hostWrite fn (a + 24) (bs.drop 24))
    else s.dma (.hostWrite fn a bs)
  s.advancePi q

/-- Words 0 to 3 of an event entry before PHASE (03 R100). -/
def eventEntry (time code queue : Nat) (arg : Word) : Quad :=
  ⟨BitVec.ofNat 64 time, BitVec.ofNat 64 (code % 65536 * 2 ^ 48 + queue % 1048576 * 2 ^ 28), arg, 0⟩

/-- An event goes to event ring `q`: written and signalled when the ring has a free slot, else counted in
EVLOST (03 R95, R101); a ring that is not ACTIVE takes nothing (R74, R103). -/
def State.postEntry (s : State) (q : Nat) (e : Quad) : State :=
  if s.halted then s
  else if s.qState q = QS.active ∧ s.rd (F.qctx_TYPE q) = 3 then
    if s.qDepth q = 2 ^ s.qLog q then s.count (F.qctx_EVLOST q)
    else
      let s := s.ringPut q e
      if s.rd (F.qctx_IRQ_MODE q) = 1 ∨ s.rd (F.qctx_IRQ_MODE q) = 2 then
        s.msix (s.rd (F.qctx_FUNC q)) (s.rd (F.qctx_VECTOR q))
      else s
  else s

/-- An event of 03 R100 is posted to event ring `q`. -/
def State.postEvent (s : State) (q code queue : Nat) (arg : Word) : State :=
  s.postEntry q (eventEntry s.tim code queue arg)

/-- The EVENTS_LOST event that precedes any other once a slot is free (03 R101). -/
def State.postLost (s : State) (q : Nat) : State :=
  let n := s.rd (F.qctx_EVLOST q)
  if n = 0 ∨ s.qDepth q = 2 ^ s.qLog q then s
  else (s.postEvent q 4 q (BitVec.ofNat 64 n)).wr (F.qctx_EVLOST q) 0

end Sys2Proof.Machine
end

