-- ==== Sys2Proof/Machine/Faults.lean ====
section
/-! DEFINITION. Raising a fault (16 R514 to R527), halting the device (R520, R521), and the audit log
(17 R551 to R558). -/

namespace Sys2Proof.Machine

/-- STATUS of a source follows ACTIVE and LATCHED (16 R514). -/
def State.fltStatus (s : State) (n : Nat) : State :=
  s.wr (F.fltSrc_STATUS n)
    (if s.on (F.fltSrc_ACTIVE n) then 1 else if s.on (F.fltSrc_LATCHED n) then 2 else 0)

/-- ARG of the fault's events: SEV, UNITK and UNIT (16 R523). -/
def faultArg (sev unitk unit : Nat) : Nat := sev * 2 ^ 61 + unitk * 2 ^ 58 + unit % 1048576

/-- The levels of the fault pair (16 R525): healthy is FAULT_P 1 with FAULT_N 0. -/
def State.faultP (s : State) : Bool := !s.on F.fltPin_ASSERTED
def State.faultN (s : State) : Bool := s.on F.fltPin_ASSERTED

/-- What a raise names (16 R515 to R517). -/
structure RaiseArg where
  addr : Nat := 0
  master : Nat := 0x7000
  atype : Nat := 0
  unit : Nat := 0
  deriving DecidableEq, Repr

/-- The first-error record of a domain takes a raise (16 R516). -/
def State.domCapture (s : State) (d n : Nat) (a : RaiseArg) : State :=
  let w2 := 2 ^ 63 + a.master % 65536 * 2 ^ 32 + a.atype % 16 * 2 ^ 28 + n % 2048 * 2 ^ 16
  let w3 := s.rd (F.fltSrc_SEV n) * 2 ^ 61 + srcUnitK n * 2 ^ 58 + a.unit % 1048576
  (((s.set (.fltDom d 0) (BitVec.ofNat 64 a.addr)).set (.fltDom d 1) (BitVec.ofNat 64 s.tim)).set
    (.fltDom d 2) (BitVec.ofNat 64 w2)).set (.fltDom d 3) (BitVec.ofNat 64 w3)

/-- The fault pair takes a hold at or above THRESH, and a TERMINAL raise holds it until power-on reset
(16 R526, R527). -/
def State.pairHold (s : State) (sev : Nat) : State :=
  let s := if s.rd F.fltPin_THRESH ≤ sev then s.wr F.fltPin_ASSERTED 1 else s
  if sev = 4 then (s.wr F.fltPin_ASSERTED 1).wr F.fltPin_TERMHOLD 1 else s

/-- A raise of the command that took a record outranks the one recorded (16 R518): SEV, then the lower source number. -/
def State.outranksRecord (s : State) (d n : Nat) : Bool :=
  s.faults.fresh.contains d
    && (decide (s.rd (F.fltDom_SEV d) < s.rd (F.fltSrc_SEV n))
      || (s.rd (F.fltDom_SEV d) == s.rd (F.fltSrc_SEV n) && decide (n < s.rd (F.fltDom_FIRST d))))

/-- The part of 16 R515 before the severity acts: count, latch, domain record, pier and island events,
FAULT event (R523), fault pair (R526). A reserved position never raises (R510). -/
def State.raiseRec (s : State) (n : Nat) (a : RaiseArg) : State :=
  match srcInfo n with
  | none => s
  | some i =>
    let sev := s.rd (F.fltSrc_SEV n)
    let arg := faultArg sev i.unitk.code a.unit
    let d := n / 24
    let s := ((s.count (F.fltSrc_COUNT n)).wr (F.fltSrc_LATCHED n) 1).fltStatus n
    let s :=
      if s.on (F.fltDom_VALID d) then
        let s := if s.outranksRecord d n then (s.domCapture d n a).wr (F.fltDom_LATER d) (s.rd (F.fltDom_LATER d)) else s
        let s := s.count (F.fltDom_LATER d)
        if s.rd F.fltCfg_EVT_MIN ≤ sev then s.evPost 0 1 a.master n arg (sev = 0) else s
      else
        let s := (s.domCapture d n a).wr F.pieAttn_FLTREC 1
        { s with faults := { s.faults with fresh := d :: s.faults.fresh } }.evPost 0 1 a.master n arg (sev = 0)
    let s := if 32 ≤ d then s.evPost (1 + (d - 32) % 16) 1 a.master n arg (sev = 0) else s
    let s :=
      if s.on F.fltCfg_EQEN && decide (s.rd F.fltCfg_EQ_MIN ≤ sev) then
        s.postEvent (s.rd F.fltCfg_EQ) 0x0401 (if i.unitk = .queue then a.unit else 0)
          (BitVec.ofNat 64 (arg + n % 2048 * 2 ^ 32))
      else s
    s.pairHold sev

/-! ## The audit store -/

/-- The record kinds of 17 R553. -/
abbrev RK.reg : Nat := 0x01
abbrev RK.win : Nat := 0x02
abbrev RK.lock : Nat := 0x03
abbrev RK.connKey : Nat := 0x04
abbrev RK.vkey : Nat := 0x05
abbrev RK.sketch : Nat := 0x06
abbrev RK.lifecycle : Nat := 0x07
abbrev RK.force : Nat := 0x08
abbrev RK.debugPass : Nat := 0x09
abbrev RK.lane : Nat := 0x0A
abbrev RK.lamp : Nat := 0x0B
abbrev RK.engine : Nat := 0x0C
abbrev RK.row : Nat := 0x0D
abbrev RK.migrate : Nat := 0x0E
abbrev RK.softRepair : Nat := 0x0F
abbrev RK.halt : Nat := 0x10
abbrev RK.gap : Nat := 0x11
abbrev RK.mode : Nat := 0x12

/-- An audit record before its TIME and SEQ (17 R551). -/
structure AudRec where
  kind : Nat
  priv : Nat := 3
  repair : Bool := false
  master : Nat := 0x7000
  addr : Nat := 0
  old : Word := 0
  new : Word := 0
  deriving DecidableEq, Repr

/-- The slots of the store (17 R551). -/
abbrev audSlots : Nat := 131072

/-- HELD: the records from the export mark to the write pointer (17 R555). -/
def State.audHeld (s : State) : Nat := (s.rd F.audPtr_WPTR + 262144 - s.rd F.audPtr_EXPMARK) % 262144

/-- SEQ of the next record. -/
def State.audSeq (s : State) : Nat := s.rd F.audSeq_SEQ

/-- Four words are committed at the write pointer, SEQ stamped in word 1 (17 R551, R561). -/
def State.audPut (s : State) (w0 w1 old new : Word) : State :=
  let p := s.rd F.audPtr_WPTR
  let i := p % audSlots
  let s := { s with audit := { s.audit with corrupt := s.audit.corrupt.filter (· != i) } }
  let s := (((s.set (.audRec i 0) w0).set (.audRec i 1) (setBits w1 63 48 s.audSeq)).set (.audRec i 2) old).set
    (.audRec i 3) new
  let s := (s.wr F.audPtr_WPTR ((p + 1) % 262144)).wr F.audSeq_SEQ (s.audSeq + 1)
  if i + 1 = audSlots then s.count F.audWear_PASSES else s

/-- SEQ of the newest record of `kind` that is no copy, `n` slots at most before pointer `p`, where `q` is SEQ at `p`: a halt
that it caused has records behind it (17 R557). -/
def State.audLast (s : State) (kind : Nat) : Nat → Nat → Nat → Nat
  | 0, _, q => q
  | n + 1, p, q =>
    let i := (p + 262143) % 262144 % audSlots
    let w0 := s.get (.audRec i 0)
    let q := q - (q + 65536 - bits (s.get (.audRec i 1)) 63 48) % 65536
    if bits w0 11 7 = kind ∧ bits w0 2 2 = 0 then q else s.audLast kind n ((p + 262143) % 262144) q

/-- SEQ of the record of `kind` just committed. -/
def State.audNewest (s : State) (kind : Nat) : Nat := s.audLast kind audSlots (s.rd F.audPtr_WPTR) s.audSeq

/-- Words 0 and 1 of a record (17 R551). -/
def AudRec.w0 (r : AudRec) (tim : Nat) : Word :=
  BitVec.ofNat 64 (tim / 1000 % 2 ^ 52 * 2 ^ 12 + r.kind % 32 * 2 ^ 7 + r.priv % 8 * 2 ^ 4 + r.repair.toNat * 8)
def AudRec.w1 (r : AudRec) : Word := BitVec.ofNat 64 (r.master % 65536 * 2 ^ 32 + r.addr % 2 ^ 32)

/-- One record is committed; the store has room. -/
def State.audCommit (s : State) (r : AudRec) : State := s.audPut (r.w0 s.tim) r.w1 r.old r.new

/-- The GAP record of a range of SEQ values (17 R553). -/
def gapRec (first last : Nat) : AudRec :=
  { kind := RK.gap, old := BitVec.ofNat 64 first, new := BitVec.ofNat 64 last }

/-- The owed GAP record is committed at the first room, before any other record (17 R556). -/
def State.audPayGap (s : State) : State :=
  match s.audit.owed with
  | some (a, b) =>
    if s.audHeld < audSlots then { s.audCommit (gapRec a b) with audit := { s.audit with owed := none } } else s
  | none => s

/-- Two REPAIR records of a kind name one unit (18 R576): an engine's unit is its island, a row's also its old row. -/
def sameUnit (kind addr : Nat) (old : Word) (addr' : Nat) (old' : Word) : Bool :=
  if kind = RK.engine then addr % 16 == addr' % 16 else addr == addr' && (decide (kind ≠ RK.row) || old == old')

/-- A record whose unit has a later REPAIR record up to `n` slots further is not copied (17 R558). -/
def State.audLater (s : State) (kind : Nat) (addr : Nat) (old : Word) : Nat → Nat → Bool
  | 0, _ => false
  | n + 1, p =>
    let i := p % audSlots
    let w0 := s.get (.audRec i 0)
    (decide (bits w0 11 7 = kind) && decide (bits w0 3 3 = 1)
        && sameUnit kind addr old (bits (s.get (.audRec i 1)) 31 0) (s.get (.audRec i 2)))
      || s.audLater kind addr old n (p + 1)

/-- The records of `n` slots from pointer `p` that the export mark passes and that still stand, in store
order (17 R558). -/
def State.audStanding (s : State) : Nat → Nat → List (Word × Word × Word × Word)
  | 0, _ => []
  | n + 1, p =>
    let i := p % audSlots
    let w0 := s.get (.audRec i 0)
    let w1 := s.get (.audRec i 1)
    let rest := s.audStanding n (p + 1)
    if bits w0 3 3 = 1 then
      let left := (s.rd F.audPtr_WPTR + 262144 - (p + 1) % 262144) % 262144
      if s.audLater (bits w0 11 7) (bits w1 31 0) (s.get (.audRec i 2)) left (p + 1) then rest
      else (setBits w0 2 2 1, w1, s.get (.audRec i 2), s.get (.audRec i 3)) :: rest
    else rest

/-- The export mark passes `n` records; those that stand are appended again with COPY (17 R558). -/
def State.audPass (s : State) (n : Nat) : State :=
  let m := s.rd F.audPtr_EXPMARK
  let copies := s.audStanding n m
  let s := s.wr F.audPtr_EXPMARK ((m + n) % 262144)
  copies.foldl (fun t c => t.audPut c.1 c.2.1 c.2.2.1 c.2.2.2) s

/-- LOSSY mode frees room (17 R557 steps 1 to 3): passes of 256 records until `need` slots are free. -/
def State.audFree (need : Nat) : Nat → State → State
  | 0, s => s
  | n + 1, s =>
    let s := (s.audPass 256).count F.audStat_LOST 256
    if s.audHeld + need ≤ audSlots then s else State.audFree need n s

/-- The full SEQ of the record at pointer `p`, walking back `n` records from one whose full SEQ is `q`:
records carry SEQ[15:0] (17 R551). -/
def State.audBack (s : State) : Nat → Nat → Nat → Nat
  | 0, _, q => q
  | n + 1, p, q =>
    let prev := (p + 262143) % 262144
    let a := bits (s.get (.audRec (prev % audSlots) 1)) 63 48
    s.audBack n prev (q - (q + 65536 - a) % 65536)

/-- The full SEQ of the oldest record held. -/
def State.audOldest (s : State) : Nat := s.audBack s.audHeld (s.rd F.audPtr_WPTR) s.audSeq

/-- LNK_STAT.LSTATE of a port changes: a link entry goes to its island's FIFO (02 R58). The MASTER of the entry is 0x7000:
DESIGN CHOICE, class 7 is the Plovler's own units and the spec numbers only the thermal unit (notes/assumptions/33.md). -/
def State.setLstate (s : State) (n v : Nat) : State :=
  if s.rd (F.lnkStat_LSTATE n) = v then s
  else
    (s.wr (F.lnkStat_LSTATE n) v).evPost (1 + n / 8) 4 0x7000 n (s.rd (F.prtStat_PSTATE n) * 2 ^ 61 + v * 2 ^ 58)

/-- PRT_STAT.PSTATE of a port changes: a link entry goes to its island's FIFO (02 R58), of MASTER 0x7000
(notes/assumptions/33.md). -/
def State.setPstate (s : State) (n v : Nat) : State :=
  if s.rd (F.prtStat_PSTATE n) = v then s
  else
    (s.wr (F.prtStat_PSTATE n) v).evPost (1 + n / 8) 4 0x7000 n (v * 2 ^ 61 + s.rd (F.lnkStat_LSTATE n) * 2 ^ 58)

/-- The Plovler stops at a halting raise, apart from its audit record (16 R520, R521): FLT_HALT, the
packets inside the device lost, the ready pins low. -/
def State.haltCore (s : State) (n sev : Nat) : State :=
  let s := ((s.wr F.fltHalt_HALTED 1).wr F.fltHalt_SOURCE n)
  let s := if sev = 4 then s.wr F.fltHalt_TERM 1 else s
  let s := (List.range 128).foldl
    (fun t n =>
      let t := if t.on (F.rtePort_UP n) then (t.wr (F.rtePort_UP n) 0).setLstate n 0 else t
      let t := (t.wr (F.lnkStat_RBUSE n) 0).wr (F.lnkStat_RMARK n) (t.rd (F.lnkStat_NEXT n))
      if t.on (F.prtStat_PSTATE n) then t.setPstate n 1 else t) s
  let s :=
    { s with
      ports := s.ports.each fun _ p =>
        { p with txq := [], replay := [], units := [], aligned := false, retrain := none, creditSeen := false, ctl := []
                 expired := false, replaying := none }
      route := { s.route with held := [], arrived := [], parked := [], flagged := [], landing := [] }
      ctxs := s.ctxs.each fun _ c => { c with brushes := [], outPkt := none } }
  s.pinSync

/-- Whether a raise at a severity halts or deepens the halt (16 R520, R521). -/
def State.haltsAt (s : State) (sev : Nat) : Bool :=
  (decide (sev = 3) && !s.halted) || (decide (sev = 4) && !s.on F.fltHalt_TERM)

/-- The HALT record of 16 R520. -/
def haltRec (n sev : Nat) : AudRec := { kind := RK.halt, addr := n, new := BitVec.ofNat 64 sev }

/-- A record found a LOSSY store full (17 R557): room is freed, one GAP record names the records passed, the last of which
stands before the export mark, and the record follows. -/
def State.audMakeRoom (s : State) (r : AudRec) : State :=
  let first := s.audOldest
  let s := State.audFree (if s.audit.owed.isSome then 3 else 2) 1024 s
  let last := s.audBack (s.audHeld + 1) (s.rd F.audPtr_WPTR) s.audSeq
  (s.audPayGap.audCommit (gapRec first last)).audCommit r

/-- AUD_GAP is raised once a LOSSY store has freed room; the record of a halt it causes may have to make room again, with
AUD_GAP once more. -/
def State.gapRaise (s : State) : State :=
  let sev := s.rd (F.fltSrc_SEV Src.AUD_GAP)
  let s := s.raiseRec Src.AUD_GAP {}
  if s.haltsAt sev then
    let s := s.haltCore Src.AUD_GAP sev
    if s.audHeld < audSlots then s.audCommit (haltRec Src.AUD_GAP sev)
    else (s.audMakeRoom (haltRec Src.AUD_GAP sev)).raiseRec Src.AUD_GAP {}
  else s

/-- A record found a LOSSY store full (17 R557): room is made for it, and AUD_GAP raised. -/
def State.audLossy (s : State) (r : AudRec) : State := (s.audMakeRoom r).gapRaise

/-- The store is in LOSSY mode. -/
def State.audLossyMode (s : State) : Bool := s.on F.audCfg_MODE

/-- A non-refusable record without REPAIR: committed, or missed on a full store (17 R556). -/
def State.audAppend (s : State) (r : AudRec) : State :=
  let s := s.audPayGap
  if s.audHeld < audSlots then s.audCommit r
  else if s.audLossyMode then s.audLossy r
  else
    let q := s.audSeq
    let owed := match s.audit.owed with | some (a, _) => some (a, q) | none => some (q, q)
    { ((s.count F.audStat_MISSED).wr F.audSeq_SEQ (q + 1)) with audit := { s.audit with owed := owed } }

/-- A non-refusable record with REPAIR: its action waits while the store is full (17 R556). The flag says
whether the record was committed. -/
def State.audRepair (s : State) (r : AudRec) : State × Bool :=
  let s := s.audPayGap
  if s.audHeld < audSlots then (s.audCommit { r with repair := true }, true)
  else if s.audLossyMode then (s.audLossy { r with repair := true }, true)
  else (s, false)

/-- An uncorrectable error, or `k`, of a memory of an engine (16 R533); those of the last 24 hours are kept. -/
def State.engError (s : State) (g : Nat) (k : Nat := 1) : State :=
  { s with faults := { s.faults with
      engErrs := List.replicate k (g, s.now) ++ s.faults.engErrs.filter fun x => decide (s.now ≤ x.2 + 86400000000000) } }

/-- Two uncorrectable errors of an engine within 24 hours, or what counts as much (16 R533). -/
def State.engFailing (s : State) (g : Nat) : Bool :=
  decide (2 ≤ (s.faults.engErrs.filter fun x => x.1 == g && decide (s.now ≤ x.2 + 86400000000000)).length)

/-- The retirement of an engine that waits for its contexts (16 R533). -/
def State.retiring (s : State) (g : Nat) : Option (Nat × List Nat × Bool) := s.faults.retiring.find? (·.1 == g)

/-- A port is contained already when its link is neither UP nor in recovery (16 R528). -/
def State.downAlready (s : State) (kind unit : Nat) : Bool :=
  kind == 1 && !(s.rd (F.lnkStat_LSTATE unit) == 2 || s.rd (F.lnkStat_LSTATE unit) == 3)

/-- A raise as 16 R515 states: recorded; at CONTAIN a unit is owed its containment, which the command that
raised carries out before it ends (`settle`), but for a port whose link is down already (R528); at a halting severity the device halts (R520, R521) with one
HALT record. -/
def State.raise (s : State) (n : Nat) (a : RaiseArg := {}) : State :=
  let sev := s.rd (F.fltSrc_SEV n)
  let s := s.raiseRec n a
  let s :=
    if sev = 2 ∧ srcUnitK n ≠ 0 ∧ s.downAlready (srcUnitK n) a.unit = false then
      { s with faults := { s.faults with due := s.faults.due ++ [(srcUnitK n, a.unit, n)] } }
    else s
  if (srcInfo n).isSome && s.haltsAt sev then (s.haltCore n sev).audAppend (haltRec n sev) else s

/-- A refusable change asks for its record (17 R554, R555): committed, or refused on a full STRICT store
with REFUSED counted and AUD_FULL raised. The flag says whether the change may take effect. A write of boot has no
record of its own (18 R575). -/
def State.audAsk (s : State) (r : AudRec) : State × Bool :=
  if s.boot.quiet then (s, true)
  else if s.audLossyMode then (s.audAppend r, true)
  else
    let s := s.audPayGap
    if s.audHeld + s.rd F.audCfg_RESERVE < audSlots then (s.audCommit r, true)
    else
      let s := (s.count F.audStat_REFUSED).raise Src.AUD_FULL
      ({ s with audit := { s.audit with deny := true } }, false)

/-- A read of a structure of domain 2 meets an uncorrectable error (16 R511). -/
def State.latent (s : State) (src unit : Nat) : Bool := s.faults.latent.contains (src, unit)

/-- Offset A where a structure of domain 2 lies (14 R473): the line of a connection context, which holds its key slots; of
the others, whose places within their region the spec does not give, the start of the region (notes/assumptions/71.md). -/
def latentAddr (src unit : Nat) : Nat :=
  if src = Src.CNX_KEY_UNCORR then 0x8000000 + 512 * unit
  else if src = Src.RTX_UNCORR then 0x35E000000
  else if src = Src.MTC_UNCORR then 0x14000000
  else 0x1A000000

/-- The error that a read has met is raised; the cells are written anew. -/
def State.latentRaise (s : State) (src unit : Nat) : State :=
  ({ s with faults := { s.faults with latent := s.faults.latent.erase (src, unit) } } : State).raise src
    { addr := latentAddr src unit, atype := 9, unit := if srcUnitK src = 0 then 0 else unit }

/-! ## LEVEL conditions -/

/-- The condition of a LEVEL source rises at a unit: ACTIVE is set and the source raises (16 R510, R514). A
condition that already holds there raises nothing. -/
def State.condRise (s : State) (n unit : Nat) (a : RaiseArg) : State :=
  if s.faults.conds.contains (n, unit) then s
  else
    let s := { s with faults := { s.faults with conds := (n, unit) :: s.faults.conds } }
    ((s.wr (F.fltSrc_ACTIVE n) 1).fltStatus n).raise n a

/-- The condition of a LEVEL source clears at a unit; ACTIVE follows the other units (16 R510, R514). -/
def State.condClear (s : State) (n unit : Nat) : State :=
  let l := s.faults.conds.filter (· != (n, unit))
  let s := { s with faults := { s.faults with conds := l } }
  if l.any (·.1 == n) then s else (s.wr (F.fltSrc_ACTIVE n) 0).fltStatus n

/-- FLT_SUMMARY (16 R524): bit d is set while domain d holds a record or a latched source. -/
def State.fltSummary (s : State) : Word :=
  BitVec.ofNat 64 <| (List.range 64).foldl
    (fun v d =>
      if s.on (F.fltDom_VALID d) || (List.range 24).any (fun p => s.on (F.fltSrc_LATCHED (24 * d + p)))
      then v + 2 ^ d else v) 0

end Sys2Proof.Machine
end

