-- ==== Sys2Proof/Machine/Counters.lean ====
section
/-! DEFINITION. Event counters (17 R536 to R539) and tenant meters (04 R133) as the other units feed
them. -/

namespace Sys2Proof.Machine

/-- A code counts occurrences in its block: 0x01–0x0F in island blocks, 0x80–0x88 in the device block; the
occupancy codes have none (17 R537, R538). -/
def cntCodeValid (b code : Nat) : Bool := if b < 16 then decide (1 ≤ code ∧ code ≤ 0x0F) else decide (0x80 ≤ code ∧ code ≤ 0x88)

/-- `n` occurrences of an event are added to every counter of the block that selects it (17 R538). -/
def State.tally (s : State) (b code : Nat) (n : Nat := 1) : State :=
  if n = 0 || !cntCodeValid b code then s else
  (List.range 8).foldl
    (fun t k =>
      if t.rd (F.cntCtl_EVENT b k) = code && !t.on (F.cntCtl_OCC b k)
          && (k == 0 || !t.on (F.cntCtl_CHAIN b k)) then State.cntAdd b (7 - k) k n t else t) s

/-- The meters of a tenant. -/
def State.meter (s : State) (t : Nat) : Meter := s.metering.meters.at t {}

/-- The tenants that appear in a snapshot (04 R135). -/
def State.metered (s : State) : List Nat := (List.range 4096).filter fun t => s.on (F.ten_MTR_EN t)

/-- Every boundary of INTERVAL that TIM_NOW has reached since the last look has its meters captured as they are, before any
event counts at or behind it (04 R135): an event counted at that edge belongs to the next snapshot. -/
def State.meterEdge (s : State) : State :=
  let i := s.rd F.mtrCfg_INTERVAL * 1000000000
  let last := s.metering.lastBoundary
  if s.on F.mtrCfg_EN && decide (last / i < s.tim / i) then
    let now := (List.range (s.tim / i - last / i)).map fun k =>
      { time := (last / i + 1 + k) * i, tenants := s.metered, meters := s.metering.meters }
    { s with metering := { s.metering with lastBoundary := s.tim, caught := s.metering.caught ++ now } }
  else s

/-- The nanoseconds of a bandwidth window (17 R546). -/
def State.bwWindow (s : State) : Nat := max 1 (s.rd F.cntBwCfg_WINDOW) * 1000

/-- `n` bandwidth windows end at TIM_NOW `t`, the first with the live counts (17 R547). -/
def State.bwClose (s : State) (t n : Nat) : State :=
  { s with clock := { s.clock with
      bwTx := [], bwRx := [], bwAt := t, bwDone := s.clock.bwDone ++ [(s.clock.bwTx, s.clock.bwRx, n)] } }

/-- The bandwidth windows that TIM_NOW has ended since the last look are closed, before any frame counts behind them. -/
def State.bwEdge (s : State) : State :=
  let n := s.tim / s.bwWindow - s.clock.bwAt / s.bwWindow
  if s.on F.cntBwCfg_EN && decide (0 < n) then s.bwClose s.tim n else s

/-- Bytes of data frames that port n sends and accepts (17 R546, R547). -/
def State.bwSent (s : State) (n k : Nat) : State :=
  let s := s.bwEdge
  { s with clock := { s.clock with bwTx := s.clock.bwTx.upd n 0 (· + k) } }
def State.bwGot (s : State) (n k : Nat) : State :=
  let s := s.bwEdge
  { s with clock := { s.clock with bwRx := s.clock.bwRx.upd n 0 (· + k) } }

/-- TIM_NOW steps forward by `d` (11 R392): one bandwidth window ends across any number of its ends (17 R547), and across one or more boundaries one snapshot is captured, stamped with the time
of its capture (04 R135). -/
def State.timStep (s : State) (d : Nat) : State :=
  let s := s.meterEdge.bwEdge
  let i := s.rd F.mtrCfg_INTERVAL * 1000000000
  let t := s.tim + d
  let s := if s.on F.cntBwCfg_EN && decide (s.tim / s.bwWindow < t / s.bwWindow) then s.bwClose t 1 else s
  let hit := s.on F.mtrCfg_EN && decide (s.tim / i < t / i)
  let s := s.wr F.timNow_NOW t
  if hit then
    { s with
      metering :=
        { s.metering with
          lastBoundary := t, caught := s.metering.caught ++ [{ time := t, tenants := s.metered, meters := s.metering.meters }] } }
  else s

/-- The state with a tenant's meters changed. -/
def State.setMeter (s : State) (t : Nat) (f : Meter → Meter) : State :=
  let s := s.meterEdge
  { s with metering := { s.metering with meters := s.metering.meters.upd t {} f } }

/-! ## The meter ring (04 R136 to R138) -/

/-- The 64 bytes of a meter record with PHASE in its last word. -/
def meterRec (ws : List Word) (rtype phase : Nat) : List Byte :=
  ((ws ++ [BitVec.ofNat 64 (rtype * 2 ^ 56 + phase * 2 ^ 55)]).flatMap fun w => bytesOf 8 w.toNat)

/-- A record of 64 B goes to the meter ring. -/
def State.meterPut (s : State) (ws : List Word) (rtype : Nat) : State :=
  let k := s.rd F.mtrCfg_LOG2SIZE
  let pi := s.rd F.mtrPi_PI
  let s := s.dma (.hostWrite (s.rd F.mtrCfg_FUNC) (s.rd F.mtrBase_BASE + pi % 2 ^ k * 64) (meterRec ws rtype (phaseBit k pi)))
  s.wr F.mtrPi_PI ((pi + 1) % ringMod k)

/-- The oldest captured snapshot is written whole, or skipped for want of slots (04 R137, R138). The first snapshot after
power-on reset has SNAPSEQ 0: DESIGN CHOICE (notes/assumptions/41.md). -/
def State.snapshot (s : State) : State :=
  match s.metering.caught with
  | [] => s
  | c :: rest =>
    let k := s.rd F.mtrCfg_LOG2SIZE
    let free := 2 ^ k - ringDepth k (s.rd F.mtrPi_PI) (s.rd F.mtrCi_CI)
    let seq := s.metering.snapSeq % 2 ^ 32
    let s := { s with metering := { s.metering with snapSeq := s.metering.snapSeq + 1, caught := rest } }
    if free < c.tenants.length + 1 then
      { s.count F.schStat_MTR_SKIP with metering := { s.metering with skipped := s.metering.skipped + 1 } }
    else
      let w (n : Nat) : Word := BitVec.ofNat 64 n
      let s := s.meterPut [w c.time, w (seq * 2 ^ 32 + c.tenants.length), w (s.metering.skipped % 2 ^ 32),
        w (s.rd F.mtrCfg_INTERVAL), 0, 0, 0] 1
      let s := c.tenants.foldl
        (fun s t =>
          let m := c.meters.at t {}
          s.meterPut [w m.bytesTx, w m.bytesRx, w m.pktTx, w m.pktRx, w m.engCyc, w (m.g6 / 1000), w (seq * 2 ^ 32 + t)] 2) s
      ({ s with metering := { s.metering with skipped := 0 } }).msix (s.rd F.mtrCfg_FUNC) (s.rd F.mtrCfg_VECTOR)

/-- Every captured snapshot is written, before the description of the ring changes. -/
def State.snapshots (s : State) : State :=
  let s := s.meterEdge
  s.metering.caught.foldl (fun t _ => t.snapshot) s

/-- The value of a fixed cycle counter (17 R536): the stored count and three cycles for each nanosecond
since it was stored, or fewer at a slower engine step (19 R590, R594). -/
def State.cycles (s : State) (b : Nat) : Word :=
  let ns := s.now - s.clock.cycSince.at b 0
  let step := if b < 16 then s.rd (F.pwrIsl_STEP b) else 0
  BitVec.ofNat 64 (s.rd (F.cntCyc_CYC b) + ns * 12 / (4 + step))

/-- The fixed counter is stored up to date, as before a change of the engine step. -/
def State.cycStore (s : State) (b : Nat) : State :=
  let v := s.cycles b
  let s := s.set (.cntCyc b) v
  { s with clock := { s.clock with cycSince := s.clock.cycSince.put b s.now } }

end Sys2Proof.Machine
end

