-- ==== Sys2Proof/Machine/Mem.lean ====
section
/-! DEFINITION. Device memory: placement of a line (14 R460, R461), reads and writes of GDDR6 lines
(14 R463 to R466), the harbour slices (13 R430, R431), and the lines of the L1s and directories. -/

namespace Sys2Proof.Machine

/-- Offsets below 14 GiB are backed (14 R460). -/
abbrev backedEnd : Nat := 0x380000000

/-- The `n` bytes from offset `a` are backed. -/
def backed (a n : Nat) : Bool := decide (a + n ≤ backedEnd)

/-- The key of a line's slice set: 4,096 × home + A[21:10]. -/
def sliceKey (l : Nat) : Nat := lineHome l * 4096 + l / 16 % 4096

/-- The logical channel of a line (14 R461). -/
def lineLch (l : Nat) : Nat := (l / 4 % 16) ^^^ (l / 64 % 16) ^^^ (l / 1024 % 16)

/-- The first burst of a line's group in its row set, and where burst `x` of the set lies (14 R461). -/
def lineBurst (l : Nat) : Nat := 9 * (l / 1024 % 64)
def burstRow (l x : Nat) : Nat := 9 * (l / 1024 / 64) + x / 64
def burstColumn (x : Nat) : Nat := x % 64

/-- The bank of a line (14 R461), and its group within its channel. -/
def lineBank (l : Nat) : Nat := l / 64 % 16
def lineGroup (l : Nat) : Nat := l / 64

/-- The 36 symbols of codeword `w` of a line (14 R462): every pin at two beat groups of one of its data bursts, and four pins
at the line's beat group of the check burst. -/
def wordSyms (l w : Nat) : List Sym :=
  ((List.range 16).flatMap fun p => (List.range 2).map fun k => ⟨2 * (l % 4) + w / 2, p, 2 * (w % 2) + k⟩)
    ++ (List.range 4).map fun k => ⟨8, 4 * w + k, l % 4⟩

/-- The symbols that an injection of `k` symbols on a pin inverts: symbols of codeword 0 on that pin (14 R477). -/
def pinSyms (l pin k : Nat) : List Sym := ((wordSyms l 0).filter fun x => x.pin == pin && x.burst != 8).take k

/-- The symbols of codeword `w` of a line that are in error. -/
def wordBad (l w : Nat) (bad : List Sym) : List Sym := (wordSyms l w).filter bad.contains

/-- The symbols that the code corrects, the only one in error of their codeword (14 R463). -/
def corrSyms (l : Nat) (bad : List Sym) : List Sym :=
  (List.range 4).flatMap fun w => if (wordBad l w bad).length = 1 then wordBad l w bad else []

/-- The codewords that the code cannot correct, each as its symbols in error (14 R463). -/
def uncWords (l : Nat) (bad : List Sym) : List (List Sym) :=
  ((List.range 4).map fun w => wordBad l w bad).filter fun x => decide (1 < x.length)

/-- The symbols of a line that are stored in error. -/
def State.lineBad (s : State) (l : Nat) : List Sym := s.gddr.injected.at l []

/-- The physical channel that serves a line (14 R459). -/
def State.lineCh (s : State) (l : Nat) : Nat := s.rd (F.gdmMap_PCH (lineLch l))

/-- The 64 zero bytes. -/
def zeroLine : List Byte := List.replicate 64 0

/-- The raise argument of a channel's source (16 R511, R517). -/
def chArg (p l : Nat) : RaiseArg := { addr := 64 * l, atype := 9, unit := p, master := 0x7000 }

/-- The key of a row of a physical channel. -/
def rowKey (p bank row : Nat) : Nat := (p * 16 + bank) * 32768 + row

/-- The key of the row that holds burst `x` of a line's group (14 R461): data bursts and check bursts may lie in two rows. -/
def State.burstKey (s : State) (l x : Nat) : Nat := rowKey (s.lineCh l) (lineBank l) (burstRow l (lineBurst l + x))

/-- The counts of a second are at a threshold (14 R469). -/
def State.secondOver (s : State) (k : ChSecond) : Bool :=
  decide (s.rd F.gdmCfg_EDCTH ≤ k.edc ∨ s.rd F.gdmCfg_SYMTH ≤ k.pins.length)

/-- The second of a physical channel is the one that `now` lies in; one that has ended at a threshold is remembered. -/
def State.secondNow (s : State) (p : Nat) : State :=
  let k := s.gddr.second.at p {}
  if s.now < k.since + 1000000000 then s
  else
    let k' : ChSecond := { since := k.since + (s.now - k.since) / 1000000000 * 1000000000, worn := k.worn || s.secondOver k }
    { s with gddr := { s.gddr with second := s.gddr.second.put p k' } }

/-- The counts of this second of a physical channel change (14 R469). -/
def State.second (s : State) (p : Nat) (f : ChSecond → ChSecond) : State :=
  let s := s.secondNow p
  { s with gddr := { s.gddr with second := s.gddr.second.upd p {} f } }

/-- The corrected symbols of a line: counted and raised, one by one (14 R463, R469). -/
def State.symCorr (s : State) (l : Nat) (bad : List Sym) (at' : Nat) : State :=
  let p := s.lineCh l
  bad.foldl
    (fun t x => ((t.second p fun k => { k with pins := k.pins ++ [x.pin] }).count (F.gdmChCnt_SYMCORR p)).raise
      (Src.GDM_SYM_CORR (p / 2)) { chArg p l with atype := at' }) s

/-- The corrected symbols of a line, each in the row of its own burst, count toward a remap in a scrub pass (14 R468). -/
def State.rowYield (s : State) (l : Nat) (bad : List Sym) : State :=
  bad.foldl (fun t x => { t with gddr := { t.gddr with rowCorr := t.gddr.rowCorr.upd (t.burstKey l x.burst) 0 fun k => min 256 (k + 1) } }) s

/-- The uncorrectable codewords of a line: counted and raised, and the rows of their symbols in error marked (14 R463, R468). -/
def State.symUncorr (s : State) (l : Nat) (bad : List (List Sym)) (at' : Nat) : State :=
  let p := s.lineCh l
  bad.foldl
    (fun t x =>
      let t := (t.count (F.gdmChCnt_UNCORR p)).raise (Src.GDM_UNCORR (p / 2)) { chArg p l with atype := at' }
      x.foldl (fun t y => { t with gddr := { t.gddr with rowCorr := t.gddr.rowCorr.put (t.burstKey l y.burst) 256 } }) t) s

/-! ## EDC and retraining (14 R466) -/

/-- States of a physical channel (14 R477). -/
abbrev CH.active : Nat := 0
abbrev CH.spare : Nat := 1
abbrev CH.mirror : Nat := 2
abbrev CH.retired : Nat := 3
abbrev CH.failed : Nat := 4
abbrev CH.training : Nat := 5

/-- The state a physical channel takes; one that retrains takes it when it has trained. -/
def State.setCh (s : State) (p st : Nat) : State :=
  if (s.gddr.retrain.find p).isSome ∧ st ≠ CH.failed then { s with gddr := { s.gddr with retrain := s.gddr.retrain.put p st } }
  else { s.wr (F.gdmChStat_CSTATE p) st with gddr := { s.gddr with retrain := s.gddr.retrain.del p } }

/-- A migration ends without a switch (14 R472); the spare takes a state. -/
def State.migEnd (s : State) (spareSt : Nat) : State :=
  match s.gddr.mig with
  | none => s
  | some g =>
    let s := (s.wr F.gdmMig_MSTATE 3).setCh g.new spareSt
    let s := s.setCh g.old (if s.gddr.contained.contains g.old then CH.failed else CH.active)
    { s with gddr := { s.gddr with mig := none } }

/-- A channel raises GDM_CH_FAIL (14 R466, R472): as the new channel of a migration it ends the migration. -/
def State.chFail (s : State) (p : Nat) : State :=
  match s.gddr.mig with
  | some g => if g.new = p then s.migEnd CH.failed else s
  | none => s

/-- A retrain of a channel's interface ends (14 R466): the write that exhausted its attempts is made once more, or the
channel fails. -/
def State.retrainEnd (s : State) (p : Nat) (ok : Bool) : State :=
  match s.gddr.retrain.find p with
  | none => s
  | some st =>
    let s := s.count (F.gdmChCnt_RETRAINS p)
    if ok then (({ s with gddr := { s.gddr with retrain := s.gddr.retrain.del p } } : State).setCh p st).tally 16 0x81
    else ((s.setCh p CH.failed).condRise (Src.GDM_CH_FAIL (p / 2)) p { atype := 14, addr := p, unit := p }).chFail p

/-- A transfer on a channel that retrains is held until the retrain has ended (14 R466); how it ends is a free value
(notes/assumptions/70.md). -/
def State.chHeld (s : State) (p : Nat) : State :=
  if (s.gddr.retrain.find p).isSome then s.drawn.retrainEnd p ((Config.freeWord s.free).getLsbD 0) else s

/-- A channel transfers nothing: it is contained, or its retraining has failed (14 R466). -/
def State.chDown (s : State) (p : Nat) : Bool := s.gddr.contained.contains p || s.rd (F.gdmChStat_CSTATE p) == CH.failed

/-- A channel's interface begins to retrain (14 R466). -/
def State.retrainStart (s : State) (p : Nat) : State :=
  if (s.gddr.retrain.find p).isSome then s
  else
    { s.wr (F.gdmChStat_CSTATE p) CH.training with
      gddr := { s.gddr with retrain := s.gddr.retrain.put p (s.rd (F.gdmChStat_CSTATE p)) } }

/-- EDC retries of a channel at offset `a`: each is counted and raised, with the access type of the transfer. -/
def State.edcRetries (s : State) (p n a at' : Nat) : State :=
  (List.range n).foldl
    (fun t _ => ((t.second p fun k => { k with edc := k.edc + 1 }).count (F.gdmChCnt_EDCRETRY p)).raise
      (Src.GDM_EDC_RETRY (p / 2)) { addr := a, atype := at', unit := p, master := 0x7000 })
    (s.tally 16 0x82 n)

/-- A transfer of a line on channel `p` whose EDC does not match `n` times: at most EDC_RETRY further attempts, and whether they
were exhausted. -/
def State.edcTry (s : State) (p l n at' : Nat) : State × Bool :=
  let r := s.rd F.gdmCfg_EDC_RETRY
  (s.edcRetries p (min n r) (64 * l) at', decide (r < n))

/-- A line is read over the wires: its attempts, and whether they were exhausted. -/
def State.edcRead (s : State) (l at' : Nat) : State × Bool :=
  let k := s.gddr.edc.at l (0, 0)
  ({ s with gddr := { s.gddr with edc := if k.2 = 0 then s.gddr.edc.del l else s.gddr.edc.put l (0, k.2) } } : State).edcTry
    (s.lineCh l) l k.1 at'

/-- A line is written over the wires: an exhausted write retrains the channel, and is made once more when that ends. -/
def State.edcWrite (s : State) (l at' : Nat) : State :=
  let k := s.gddr.edc.at l (0, 0)
  let s : State := { s with gddr := { s.gddr with edc := if k.1 = 0 then s.gddr.edc.del l else s.gddr.edc.put l (k.1, 0) } }
  match s.edcTry (s.lineCh l) l k.2 at' with
  | (s, false) => s
  | (s, true) => s.retrainStart (s.lineCh l)

/-! ## Reads and writes of lines -/

/-- A line is read from GDDR6 (14 R463, R465, R466): a contained channel, a poison word and exhausted attempts read as poison;
a codeword with one symbol in error is corrected and counted, one with more is uncorrectable. -/
def State.gddrRead (s : State) (l : Nat) : State × List Byte × Bool :=
  let s := (s.tally 16 0x80).chHeld (s.lineCh l)
  if s.chDown (s.lineCh l) then (s, zeroLine, true)
  else
    match s.edcRead l 9 with
    | (s, true) => (s, s.mem.readBytes (64 * l) 64, true)
    | (s, false) =>
      if (s.poison.find l).isSome then (s, s.mem.readBytes (64 * l) 64, true)
      else
        let unc := uncWords l (s.lineBad l)
        ((s.symCorr l (corrSyms l (s.lineBad l)) 9).symUncorr l unc 9, s.mem.readBytes (64 * l) 64, !unc.isEmpty)

/-- The symbols that a line write of channel p leaves in error: an armed injection corrupts it once (14 R477). -/
def State.writeErrs (s : State) (p l : Nat) : State × List Sym :=
  match s.gddr.armed.find p with
  | some k => ({ s.wr (F.gdmErrinj_ARM p) 0 with gddr := { s.gddr with armed := s.gddr.armed.del p } }, pinSyms l k.1 k.2)
  | none => (s, [])

/-- The state with the symbols in error of a line replaced. -/
def State.setBad (s : State) (l : Nat) (bad : List Sym) : State :=
  { s with gddr := { s.gddr with injected := if bad.isEmpty then s.gddr.injected.del l else s.gddr.injected.put l bad } }

/-- A line write goes to the channel that serves the line. -/
def State.lineStore (s : State) (l : Nat) (data : List Byte) (poison : Bool) : State :=
  let s := s.edcWrite l 9
  let s := { s with mem := s.mem.writeBytes (64 * l) (data.take 64)
                    poison := if poison then s.poison.put l () else s.poison.del l }
  let r := s.writeErrs (s.lineCh l) l
  r.1.setBad l r.2

/-- A line write goes to the new channel of a migration as well (14 R470); it waits while that retrains. -/
def State.lineMirror (s : State) (l : Nat) (data : List Byte) (poison : Bool) : State :=
  let s := match s.gddr.mig with
    | some g => if lineLch l = g.lch then s.chHeld g.new else s
    | none => s
  match s.gddr.mig with
  | none => s
  | some g =>
    if lineLch l = g.lch then
      let r := (s.tally 16 0x81).writeErrs g.new l
      { r.1 with mem := r.1.mem.writeBytes (64 * l) (data.take 64)
                 gddr := { r.1.gddr with mig := some { g with lines := g.lines.put l (r.2, poison) } } }
    else s

/-- A whole line is written to GDDR6 (14 R464, R466, R470): it waits while the channel retrains; a contained channel discards
it. -/
def State.gddrWrite (s : State) (l : Nat) (data : List Byte) (poison : Bool) : State :=
  let s := (s.tally 16 0x81).chHeld (s.lineCh l)
  let s := if s.chDown (s.lineCh l) then s else s.lineStore l data poison
  s.lineMirror l data poison

/-! ## The copier of a migration (14 R470) -/

/-- The groups of a logical channel (14 R477). -/
abbrev lchGroups : Nat := 3670016

/-- Group `j` of a logical channel (14 R461): the number whose low bits place it on the channel. -/
def groupOf (ch j : Nat) : Nat := j * 16 + (ch ^^^ (j % 16) ^^^ (j / 16 % 16))

/-- The lines of a group. -/
def groupLines (g : Nat) : List Nat := (List.range 4).map (4 * g + ·)

/-- The copier reads a line from the old channel and writes it to the new one (14 R470): corrected, or as poison. -/
def State.copyLine (s : State) (l : Nat) : State :=
  match s.gddr.mig with
  | none => s
  | some g =>
    if s.gddr.contained.contains g.old then { s with gddr := { s.gddr with mig := some { g with lines := g.lines.del l } } }
    else
      let (s, out) := s.edcRead l 7
      let unc := uncWords l (s.lineBad l)
      let was := out || (s.poison.find l).isSome
      let s := if was then s else (s.symCorr l (corrSyms l (s.lineBad l)) 7).symUncorr l unc 7
      { s with gddr := { s.gddr with mig := some { g with lines := g.lines.put l ([], was || !unc.isEmpty) } } }

/-- An injection armed on the new channel corrupts the first line that the copier writes there (14 R477). -/
def State.copyArmed (s : State) (l : Nat) : State :=
  match s.gddr.mig with
  | none => s
  | some g =>
    let r := s.writeErrs g.new l
    if r.2.isEmpty then r.1
    else { r.1 with gddr := { r.1.gddr with mig := some { g with lines := g.lines.put l (r.2, ((g.lines.at l ([], false)).2)) } } }

/-- The lines of groups from `a` below `b` that the two channels may hold otherwise than whole. -/
def State.copyLines (s : State) (g : Migration) (a b : Nat) : List Nat :=
  ((s.gddr.injected.map (·.1) ++ g.lines.map (·.1) ++ s.poison.map (·.1) ++ s.gddr.edc.map (·.1)).filter fun l =>
    lineLch l == g.lch && decide (a ≤ lineGroup l ∧ lineGroup l < b)).eraseDups

/-- The coded bytes of a group: 9 bursts of 32 B (14 R461, R472). -/
abbrev groupCoded : Nat := 288

/-- The copier's rate in bytes per nanosecond (14 R477): 0 acts as 1. -/
def State.migRate (s : State) : Nat := max 1 (s.rd F.gdmCfg_MIG_RATE)

/-- The copier has walked the groups that its rate allows up to now (14 R470; notes/assumptions/70.md); it stands while one
of its channels retrains (R466). -/
def State.copySync (s : State) : State :=
  match s.gddr.mig with
  | none => s
  | some g =>
    if s.now ≤ g.at' then s
    else if (s.gddr.retrain.find g.old).isSome || (s.gddr.retrain.find g.new).isSome then
      { s with gddr := { s.gddr with mig := some { g with at' := s.now } } }
    else
      let a := s.rd F.gdmMig_COPIED
      let n := g.part + (s.now - g.at') * s.migRate
      let b := min lchGroups (a + n / groupCoded)
      let s := { s with gddr := { s.gddr with mig := some { g with at' := s.now, part := n % groupCoded } } }
      if b ≤ a then s
      else
        let s := ((s.copyLines g a b).foldl (fun t l => t.copyLine l) s).copyArmed (4 * groupOf g.lch a)
        (s.tally 16 0x80 (4 * (b - a))).tally 16 0x81 (4 * (b - a)) |>.wr F.gdmMig_COPIED b

/-! ## The slices -/

/-- The slice set of a line, most recent way first. -/
def State.sliceSet (s : State) (l : Nat) : List SliceLine := s.coh.slice.at (sliceKey l) []

/-- The state with the slice set of a line replaced. -/
def State.setSlice (s : State) (l : Nat) (w : List SliceLine) : State :=
  { s with coh := { s.coh with slice := s.coh.slice.put (sliceKey l) w } }

/-- The least recently used line of a set that is not pinned (13 R431). -/
def sliceVictim : List SliceLine → Option SliceLine
  | [] => none
  | w :: t => match sliceVictim t with
    | some v => some v
    | none => if w.pinned then none else some w

/-- The raise argument of an internal check of a line's cells (16 R511). -/
def cellArg (l : Nat) : RaiseArg := { addr := 64 * l, atype := 9 }

/-- The harbour of a line raises (13 R455): HRB_ECC_CORR for a corrected error, HRB_POISON for a line that is poisoned. -/
def State.sliceCorr (s : State) (l : Nat) : State := s.raise (Src.HRB_ECC_CORR (lineHome l)) (cellArg l)
def State.slicePoison (s : State) (l : Nat) : State := s.raise (Src.HRB_POISON (lineHome l)) (cellArg l)

/-- The slice line after SECDED (13 R453): corrected in place, or poisoned. -/
def SliceLine.checked (w : SliceLine) : SliceLine := { w with ecc := 0, poison := w.poison || w.ecc == 2 }

/-- What SECDED of a slice line raises when it is read (13 R455). -/
def State.sliceCheck (s : State) (w : SliceLine) : State :=
  if w.ecc = 1 then s.sliceCorr w.line
  else if w.ecc = 2 ∧ w.poison = false then s.slicePoison w.line
  else s

/-- A line takes the most recent way of its set; a full set writes back and drops its victim. A line that comes in
poisoned and was not so before raises (13 R455). -/
def State.sliceInstall (s : State) (w : SliceLine) : State :=
  let s := if w.poison && !(s.sliceSet w.line).any fun x => x.line == w.line && x.poison then s.slicePoison w.line else s
  let set := (s.sliceSet w.line).filter (·.line ≠ w.line)
  if set.length < 16 then s.setSlice w.line (w :: set)
  else
    match sliceVictim set with
    | none => if w.dirty then s.gddrWrite w.line w.data w.poison else s
    | some v =>
      let s := s.sliceCheck v
      let s := if v.dirty then s.gddrWrite v.line v.data v.checked.poison else s
      s.setSlice w.line (w :: set.filter (·.line ≠ v.line))

/-- The lines of a context (14 R473, R475): a queue context of 128 B or a connection context of 512 B. -/
def ctxLines (c : Bool × Nat) : List Nat :=
  if c.1 then (List.range 2).map (2 * c.2 + ·) else (List.range 8).map (0x200000 + 8 * c.2 + ·)

/-- A line belongs to a pinned context (14 R475). -/
def State.linePinned (s : State) (l : Nat) : Bool := s.gddr.pins.any fun c => (ctxLines c).contains l

/-- The slice's copy of a line, filled from GDDR6 on a miss (13 R440); the line becomes most recent. -/
def State.sliceRead (s : State) (l : Nat) : State × SliceLine :=
  match (s.sliceSet l).find? (·.line == l) with
  | some w => ((s.sliceCheck w).setSlice l (w.checked :: (s.sliceSet l).filter (·.line ≠ l)), w.checked)
  | none =>
    let (s, data, poison) := (s.tally (lineHome l) 0x08).gddrRead l
    let w : SliceLine := { line := l, data := data, poison := poison, pinned := s.linePinned l }
    (s.sliceInstall w, w)

/-- Data is written to the slice as dirty. A line new to the slice takes the pin of its context (14 R475). -/
def State.sliceWrite (s : State) (l : Nat) (data : List Byte) (poison : Bool) : State :=
  let pin := match (s.sliceSet l).find? (·.line == l) with | some w => w.pinned | none => s.linePinned l
  s.sliceInstall { line := l, data := data, dirty := true, poison := poison, pinned := pin }

/-! ## Structures that the device keeps in its memory (14 R473, R475, 16 R511) -/

/-- The first lines of a queue context, a connection context and a canvas entry (14 R473). -/
def queueLine (q : Nat) : Nat := 2 * q
def connLine (n : Nat) : Nat := 0x200000 + 8 * n
def canvasLine (i : Nat) : Nat := 0x400000 + i

/-- The context that a line belongs to (14 R473): 2 × its number, and 1 more for a queue context. -/
def lineCtx (l : Nat) : Option Nat :=
  if l < 0x200000 then some (2 * (l / 2) + 1)
  else if l < 0x400000 then some (2 * ((l - 0x200000) / 8))
  else none

/-- The placement loop counts a harbour access to a line (14 R475). -/
def State.placeHit (s : State) (l : Nat) : State :=
  match lineCtx l with
  | some k =>
    if s.on F.gdmPlace_EN && !s.on F.gdmPlace_FREEZE then { s with gddr := { s.gddr with hits := s.gddr.hits.upd k 0 (· + 1) } }
    else s
  | none => s

/-- A line gives no data: the slice holds it poisoned or uncorrectable, or, where the slice does not hold it, its channel is
contained, it is poison, or a codeword is uncorrectable. -/
def State.lineLost (s : State) (l : Nat) : Bool :=
  match (s.sliceSet l).find? (·.line == l) with
  | some w => w.poison || w.ecc == 2
  | none => s.chDown (s.lineCh l) || (s.poison.find l).isSome || !(uncWords l (s.lineBad l)).isEmpty

/-- A read of a line meets something that is counted, raised or waited for. -/
def State.lineMarked (s : State) (l : Nat) : Bool :=
  match (s.sliceSet l).find? (·.line == l) with
  | some w => w.ecc != 0
  | none =>
    s.chDown (s.lineCh l) || (s.gddr.retrain.find (s.lineCh l)).isSome || (s.poison.find l).isSome
      || !(s.lineBad l).isEmpty || (s.gddr.edc.find l).isSome

/-- A structure of `n` lines from `l` is read through its slice (14 R463, R475): what the read of a marked line meets, happens. -/
def State.structSeen (s : State) (l n : Nat) : State :=
  (List.range n).foldl (fun t i => if t.lineMarked (l + i) then (t.sliceRead (l + i)).1 else t) (s.placeHit l)

/-- A device-memory structure of `n` lines from `l` cannot be read: its source (16 R511) is raised. -/
def State.structLost (s : State) (l n : Nat) : Bool := (List.range n).any fun i => s.lineLost (l + i)
def State.structRaise (s : State) (src l unit : Nat) : State := s.raise src { addr := 64 * l, atype := 9, unit := unit }

/-! ## L1 lines -/

/-- The L1 set of a line at engine e, most recent way first (13 R429). -/
def State.l1Set (s : State) (e l : Nat) : List L1Line := s.coh.l1.at (64 * e + l % 64) []

/-- The state with an L1 set replaced. -/
def State.setL1 (s : State) (e l : Nat) (w : List L1Line) : State :=
  { s with coh := { s.coh with l1 := s.coh.l1.put (64 * e + l % 64) w } }

/-- Engine e's copy of a line. -/
def State.l1Find (s : State) (e l : Nat) : Option L1Line := (s.l1Set e l).find? (·.line == l)

/-- Engine e loses its copy of a line. -/
def State.l1Drop (s : State) (e l : Nat) : State := s.setL1 e l ((s.l1Set e l).filter (·.line ≠ l))

/-- Engine e's copy changes and becomes most recent. -/
def State.l1Update (s : State) (e : Nat) (w : L1Line) : State :=
  s.setL1 e w.line (w :: (s.l1Set e w.line).filter (·.line ≠ w.line))

/-- The engines that hold a copy of a line. -/
def State.l1Holders (s : State) (l : Nat) : List Nat :=
  (List.range 272).filter fun e => (s.l1Find e l).isSome

/-- The directory entry of a line, and the state with it changed or freed. -/
def State.dir (s : State) (l : Nat) : Option DirEntry := s.coh.dir.find l
def State.setDir (s : State) (d : DirEntry) : State := { s with coh := { s.coh with dir := s.coh.dir.put d.line d } }
def State.freeDir (s : State) (l : Nat) : State := { s with coh := { s.coh with dir := s.coh.dir.del l } }

/-- The line with bytes replaced from an offset. -/
def splice (data : List Byte) (off : Nat) (bs : List Byte) : List Byte :=
  (data.take off ++ bs ++ data.drop (off + bs.length)).take 64

end Sys2Proof.Machine
end

