-- ==== Sys2Proof/Machine/Coherence.lean ====
section
/-! DEFINITION. Harbours and cache coherence (13): what a home does with each message, what an L1 does, and what a
requester does. A message in flight is the command that its arrival is; an arrival that no message announced is served
all the same (notes/assumptions/9.md). -/

namespace Sys2Proof.Machine

/-- Island and engine of a device-wide engine number. -/
def engIsl (e : Nat) : Nat := e / 17

/-- The engine of a requester's master identity: island [11:8], engine [7:3] (15 R479). -/
def mstEng (m : Mst) : Nat := m.toNat / 256 % 16 * 17 + m.toNat / 8 % 32

/-- The master identity of context 0 of an engine, which stands for its L1. -/
def engMst (e : Nat) : Mst := BitVec.ofNat 16 (0x1000 + e / 17 * 256 + e % 17 * 8)

/-- A line number as the command's operand. -/
def lineFin (l : Nat) : Fin 268435456 := Fin.ofNat 268435456 l

/-- A message enters the coherence network. -/
def State.cohSend (s : State) (m : CohMsg) : State := { s with coh := { s.coh with msgs := s.coh.msgs ++ [m] } }

/-- A message that arrives leaves the network. -/
def State.cohTake (s : State) (m : CohMsg) : State := { s with coh := { s.coh with msgs := s.coh.msgs.erase m } }

/-- The request command of a transaction kind. -/
def reqMsg (k : TxnKind) (r : CohReq) : CohMsg :=
  match k with
  | .gets => .gets r
  | .getm => .getm r
  | .rdu => .rdu r
  | .wru off bs => .wru r off bs
  | .atu w op y c => .atu r w op y c

/-- The engines that an invalidation of an entry's copies reaches (13 R435, R438): every engine of a far island that
IMASK or, where the owner is meant too, OWNER names, and the engines of the home island so named; but not those of `but`. -/
def DirEntry.targets (d : DirEntry) (own : Bool) (but : List Nat) : List Nat :=
  let h := lineHome d.line
  let own := own && decide (d.st = some .x ∨ d.st = some .o)
  let far := (List.range 16).filter fun i => i ≠ h && (d.imask.contains i || (own && engIsl d.owner == i))
  let near := (List.range 17).filter fun k => d.emask.contains k || (own && d.owner == 17 * h + k)
  ((far.flatMap fun i => (List.range 17).map (17 * i + ·)) ++ near.map (17 * h + ·)).filter fun e => !but.contains e

/-- The acknowledgements that invalidations to these engines bring (13 R438): one from each far island, one
from each engine of the home island. -/
def ackCount (l : Nat) (es : List Nat) : Nat :=
  let h := lineHome l
  ((List.range 16).filter fun i => i ≠ h && es.any fun e => engIsl e == i).length
    + (es.filter fun e => engIsl e == h).length

/-- Invalidations go out. -/
def State.sendInv (s : State) (l : Nat) (bin : Bool) (es : List Nat) : State :=
  es.foldl (fun t e => t.cohSend (if bin then .binv e l else .inv e l)) s

/-- The entry with an engine added as a sharer (13 R435). -/
def DirEntry.addSharer (d : DirEntry) (e : Nat) : DirEntry :=
  if engIsl e = lineHome d.line then
    { d with emask := if d.emask.contains (e % 17) then d.emask else d.emask ++ [e % 17] }
  else { d with imask := if d.imask.contains (engIsl e) then d.imask else d.imask ++ [engIsl e] }

/-- The transaction of a line closes, and its entry frees when no copy remains (13 R441). -/
def State.closeTxn (s : State) (d : DirEntry) : State :=
  if d.st.isNone then s.freeDir d.line else s.setDir { d with txn := none }

/-- The result of an uncached request reaches its agent. -/
def State.cohReply (s : State) (r : CohReq) (data : List Byte) (p : Bool) : State :=
  { s with coh := { s.coh with replies := s.coh.replies ++ [(r, data, p)] } }

/-- The value an atomic leaves (05 R153). -/
def atomResult (op : AtomOp) (old y cmp : Word) : Word :=
  match op with
  | .add => old + y
  | .swap => y
  | .cas => if old = cmp then y else old
  | .and => old &&& y
  | .or => old ||| y

/-- The word at 8 × `w` of a line. -/
def lineWord (data : List Byte) (w : Nat) : Word := wordOfBytes (data.drop (8 * w))

/-- What the home does once no copy of the line remains (13 R440): the write or atomic on the slice, and the
transaction closes. -/
def State.homeApply (s : State) (d : DirEntry) (t : Txn) : State :=
  let l := d.line
  let d := { d with st := none, imask := [], emask := [], txn := none }
  match t.kind with
  | .wru off bs =>
    let s :=
      if off = 0 ∧ bs.length = 64 then s.sliceWrite l bs false
      else let (s, w) := s.sliceRead l; s.sliceWrite l (splice w.data off bs) w.poison
    s.closeTxn d
  | .atu wd op y cmp =>
    let (s, w) := s.sliceRead l
    let old := lineWord w.data wd
    let s := s.sliceWrite l (splice w.data (8 * wd) (bytesOf 8 (atomResult op old y cmp).toNat)) w.poison
    (s.cohReply t.req (bytesOf 8 old.toNat) w.poison).closeTxn d
  | _ => s.closeTxn d

/-- The data of a GETS or GETM from the home (13 R440). -/
def State.homeData (s : State) (d : DirEntry) (t : Txn) : State :=
  let (s, w) := s.sliceRead d.line
  let e := (mstEng t.req.req)
  match t.grant with
  | .e => s.cohSend (.dataE e t.req.line w.data w.poison)
  | .m => s.cohSend (.dataM e t.req.line (some w.data) w.poison false)
  | _ => s.cohSend (.dataS e t.req.line w.data w.poison false)

/-- Every acknowledgement has arrived: the transaction goes on (13 R440). -/
def State.homeGo (s : State) (d : DirEntry) (t : Txn) : State :=
  match t.kind with
  | .getm =>
    match d.st with
    | some .o =>
      if d.owner = mstEng t.req.req then
        s.cohSend (.dataM d.owner t.req.line none false true)
      else s.cohSend (.fwdGetm d.owner t.req)
    | some .x => s.cohSend (.fwdGetm d.owner t.req)
    | _ => s.homeData d t
  | .gets => s.homeData d t
  | .rdu => s
  | _ => s.homeApply d t

/-- The home serves an admitted request by DSTATE, as the table of 13 R440 states. A full-line write invalidates the owner
with the sharers; a masked write or an atomic recalls the owner. -/
def State.homeServe (s : State) (d : DirEntry) (k : TxnKind) (r : CohReq) : State :=
  let l := d.line
  let e := mstEng r.req
  let start (t : Txn) : DirEntry := { d with txn := some t }
  let data (t : Txn) : State := (s.setDir (start t)).homeData (start t) t
  let fwd (t : Txn) (m : CohMsg) : State := (s.setDir (start t)).cohSend m
  let inval (t : Txn) (es : List Nat) : State :=
    let t := { t with acks := ackCount l es }
    let s := (s.setDir (start t)).sendInv l false es
    if t.acks = 0 then s.homeGo (start t) t else s
  let recalled : State :=
    let es := d.targets false [d.owner]
    (fwd { kind := k, req := r, acks := 1 + ackCount l es } (.recall d.owner r.line)).sendInv l false es
  let owned := decide (d.st = some .x ∨ d.st = some .o)
  match k with
  | .gets =>
    match d.st with
    | none => data { kind := k, req := r, grant := .e }
    | some .s => data { kind := k, req := r, grant := .s }
    | some _ => fwd { kind := k, req := r, grant := .s } (.fwdGets d.owner r)
  | .getm =>
    match d.st with
    | none => data { kind := k, req := r, grant := .m }
    | some .x => fwd { kind := k, req := r, grant := .m } (.fwdGetm d.owner r)
    | some .s => inval { kind := k, req := r, grant := .m } (d.targets false [e])
    | some .o => inval { kind := k, req := r, grant := .m } (d.targets false [e, d.owner])
  | .rdu =>
    if owned then fwd { kind := k, req := r } (.fwdRdu d.owner r)
    else let (s, w) := s.sliceRead l; (s.cohReply r w.data w.poison).closeTxn { d with txn := none }
  | .wru off bs =>
    if off = 0 ∧ bs.length = 64 then inval { kind := k, req := r } (d.targets true [])
    else if owned then recalled
    else inval { kind := k, req := r } (d.targets false [])
  | .atu .. => if owned then recalled else inval { kind := k, req := r } (d.targets false [])

/-! ## Admission, NACK, reservation, eviction -/

/-- The directory set of a line: 544 × home + set (13 R432). -/
def dirSetKey (l : Nat) : Nat := lineHome l * 544 + l / 16 % 544

/-- An entry stands in for a request that waits for its way: the way is still its victim's (13 R448). -/
def DirEntry.waits (d : DirEntry) : Bool := d.txn.any fun t => t.awaiting.isSome

/-- The entries that hold the ways of a line's directory set. -/
def State.dirSet (s : State) (l : Nat) : List DirEntry :=
  (s.coh.dir.map (·.2)).filter fun d => dirSetKey d.line == dirSetKey l && !d.waits

/-- Two requests are the same one: requester and line (13 R445). -/
def sameReq (a b : CohReq) : Bool := a.req == b.req && a.line == b.line

/-- The age of a request in CLK_CORE cycles, saturating (01 R26): a retry keeps it (13 R444). -/
def reqAge (r : CohReq) (now : Nat) : Nat := min 65535 (3 * (now - r.since))

/-- A request that reaches its home for the first time has age 0. -/
def sampledReq (r : CohReq) (now : Nat) : CohReq := if r.nacks = 0 then { r with since := now } else r

/-- A reservation stands against an older or equally old request (13 R446). -/
def resvTake (old : Option Resv) (r : CohReq) (now : Nat) : Resv :=
  match old with
  | some v => if sameReq v.req r || reqAge v.req now < reqAge r now then ⟨r, now⟩ else v
  | none => ⟨r, now⟩

/-- The home answers NACK (13 R441, R444 to R446): counted, the request aged at its eighth, the line reserved for an aged
one, and its set as well where that is full (R450). -/
def State.homeNack (s : State) (k : TxnKind) (r : CohReq) (setFull : Bool) : State :=
  let l := r.line.val
  let h := lineHome l
  let r' : CohReq := { r with nacks := if r.nacks.val < 15 then r.nacks + 1 else r.nacks }
  let s := (s.count (F.hrbStat_NACKS h)).tally h 0x07
  let s := if setFull then s.count (F.hrbStat_SETFULL h) else s
  let s :=
    if r.nacks.val = 7 then
      (s.count (F.hrbStat_AGED h)).raise (Src.HRB_AGED h) { master := r.req.toNat, addr := 64 * l, atype := 1 }
    else s
  let s :=
    if 8 ≤ r'.nacks.val then
      let c := { s.coh with lineResv := s.coh.lineResv.put l (resvTake (s.coh.lineResv.find l) r' s.now) }
      { s with coh :=
          if setFull then
            { c with setResv := c.setResv.put (dirSetKey l) (resvTake (c.setResv.find (dirSetKey l)) r' s.now) }
          else c }
    else s
  { s with coh := { s.coh with nacked := s.coh.nacked ++ [(k, r')] } }.cohSend (.nack r')

/-- A reservation for another requester bars a request (13 R446, R450). -/
def barred (v : Option Resv) (r : CohReq) : Bool := v.any fun v => !sameReq v.req r

/-- The rank of an entry as a victim (13 R448): S with the fewest mask bits, then X, then O, then the lowest
way. -/
def victimRank (d : DirEntry) : Nat :=
  match d.st with
  | some .s | none => (d.imask.length + d.emask.length) * 16 + d.way
  | some .x => 100000 + d.way
  | some .o => 200000 + d.way

/-- The entries of a line's set that may be evicted: not pinned, holding no reservation, and readable (13 R448). -/
def State.dirLoose (s : State) (l : Nat) : List DirEntry :=
  (s.dirSet l).filter fun d => d.txn.isNone && d.evict == 0 && (s.coh.lineResv.find d.line).isNone && d.ecc != 2

/-- The victim among the entries that may be evicted (13 R448). -/
def State.dirVictim (s : State) (l : Nat) : Option DirEntry :=
  (s.dirLoose l).foldl
    (fun b d => match b with | some v => if victimRank d < victimRank v then some d else b | none => some d) none

/-- The lowest way that no entry of the set uses. -/
def freeWay (ds : List DirEntry) : Nat := ((List.range 16).find? fun w => ds.all (·.way ≠ w)).getD 0

/-- A GETS or GETM needs a directory entry; an uncached request of a line that no L1 holds does not (13 R440). -/
def needsEntry : TxnKind → Bool
  | .gets | .getm => true
  | _ => false

/-- The request that a coherence message carries to its home. -/
def CohMsg.request : CohMsg → Option CohReq
  | .gets r | .getm r | .rdu r | .wru r _ _ | .atu r _ _ _ _ => some r
  | _ => none

/-- The island of a requester, its position at a harbour's arbiter (13 R443): a host function is at the island of its
port. -/
def mstIsl (m : Mst) : Nat :=
  let c := m.toNat / 4096
  if c = 0 then 4 * (m.toNat / 256 % 4) else if c = 1 ∨ c = 2 then m.toNat / 256 % 16 else if c = 3 then m.toNat % 16 else 0

/-- The requests for the line of `r` that are on their way to its home, in the order in which they were issued: they claim
the line at the same edge (notes/assumptions/63.md). -/
def State.cohClaims (s : State) (r : CohReq) : List CohReq :=
  (s.coh.msgs.filterMap CohMsg.request).filter fun x => x.line == r.line

/-- The others of them. -/
def State.cohRivals (s : State) (r : CohReq) : List CohReq := (s.cohClaims r).filter (· != r)

/-- How far a requester's position stands behind a harbour's pointer. -/
def State.cohPlace (s : State) (h : Nat) (r : CohReq) : Nat := (mstIsl r.req + 16 - s.coh.ptrs.at h 0) % 16

/-- The age of a request as its home samples it. -/
def State.cohAge (s : State) (x : CohReq) : Nat := reqAge (sampledReq x s.now) s.now

/-- Another request for the line wins over `r` (13 R443): it is older, or as old and first from the pointer, or as old, of
the same position and issued first (01 R27). -/
def State.cohOutbid (s : State) (r : CohReq) : Bool :=
  let h := lineHome r.line
  (s.cohRivals r).any fun x =>
    decide (s.cohAge r < s.cohAge x)
      || (s.cohAge x == s.cohAge r
          && (decide (s.cohPlace h x < s.cohPlace h r)
              || (mstIsl x.req == mstIsl r.req && ((s.cohClaims r).takeWhile (· != r)).contains x)))

/-- `r` is as old as the oldest claim, and so is one of another position: the pointer decides (01 R27). -/
def State.cohTie (s : State) (r : CohReq) : Bool :=
  (s.cohRivals r).all (fun x => decide (s.cohAge x ≤ s.cohAge r))
    && (s.cohRivals r).any fun x => s.cohAge x == s.cohAge r && mstIsl x.req != mstIsl r.req

/-- A line has an open transaction, or is being evicted (13 R441, R448). -/
def State.cohOpen (s : State) (l : Nat) : Bool := (s.dir l).any fun d => d.txn.isSome || d.evict != 0

/-- The home's arbiter decides between the claims of a line: neither an open transaction nor a reservation does (13 R441,
R443, R446). -/
def State.cohArbiter (s : State) (l : Nat) : Bool := (s.coh.lineResv.find l).isNone && !s.cohOpen l

/-- The home admits a request (13 R443, R446, R450): its reservations are cleared. -/
def State.cohAdmit (s : State) (r : CohReq) : State :=
  let l := r.line.val
  let s := if barred (s.coh.lineResv.find l) r then s else { s with coh := { s.coh with lineResv := s.coh.lineResv.del l } }
  let s := if barred (s.coh.setResv.find (dirSetKey l)) r then s
    else { s with coh := { s.coh with setResv := s.coh.setResv.del (dirSetKey l) } }
  (s.tally (lineHome l) 0x06).placeHit l

/-- SECDED of a directory entry when the home looks it up (13 R453, R455): a correctable error is corrected, an
uncorrectable one raises HRB_DIR_UNCORR and the entry cannot be read. -/
def State.dirCheck (s : State) (l : Nat) : State :=
  match s.dir l with
  | some d =>
    if d.ecc = 1 then (s.setDir { d with ecc := 0 }).sliceCorr l
    else if d.ecc = 2 then s.raise (Src.HRB_DIR_UNCORR (lineHome l)) (cellArg l)
    else s
  | none => s

/-- What the home does with the entry of a line that it looks up: nothing, where that cannot be read. -/
def State.dirRead (s : State) (l : Nat) (f : State → Option DirEntry → State) : State :=
  let s := s.dirCheck l
  match s.dir l with
  | some d => if d.ecc = 2 then s else f s (some d)
  | none => f s none

/-- A request takes a way of its set: a free one, or that of a victim whose eviction it begins (13 R448, R449). -/
def State.homeTake (s : State) (v : Option DirEntry) (k : TxnKind) (r : CohReq) : State :=
  let l := r.line.val
  let s := s.cohAdmit r
  match v with
  | none => s.homeServe { line := l, way := freeWay (s.dirSet l), st := none } k r
  | some v =>
    let es := v.targets true []
    let s := s.tally (lineHome l) 0x09
    let d : DirEntry := { line := l, way := v.way, st := none }
    if es = [] then (s.freeDir v.line).homeServe d k r
    else
      (((s.count (F.hrbStat_BACKINV (lineHome l))).setDir { v with evict := ackCount v.line es }).setDir
        { d with txn := some { kind := k, req := r, awaiting := some v.line } }).sendInv v.line true es

/-- The home decides a request: admitted and served, admitted behind an eviction (13 R448, R449), or
answered NACK (R441, R446, R450). One way of a reserved set, free or about to be, is kept for the reserved request. -/
def State.homeRequest (s : State) (k : TxnKind) (r : CohReq) : State :=
  let s := s.dirCheck r.line
  let r := sampledReq r s.now
  let l := r.line.val
  if barred (s.coh.lineResv.find l) r then s.homeNack k r false
  else
    match s.dir l with
    | some d =>
      if d.ecc = 2 then s
      else if d.txn.isSome || d.evict != 0 then s.homeNack k r false
      else (s.cohAdmit r).homeServe d k r
    | none =>
      if !needsEntry k then (s.cohAdmit r).homeServe { line := l, way := 0, st := none } k r
      else
        let s := (s.dirSet l).foldl (fun t d => t.dirCheck d.line) s
        let used := (s.dirSet l).length
        let kept := if barred (s.coh.setResv.find (dirSetKey l)) r then 1 else 0
        if used + kept < 16 then s.homeTake none k r
        else if (s.dirLoose l).length + 16 ≤ used + kept then s.homeNack k r true
        else
          match s.dirVictim l with
          | none => s.homeNack k r true
          | some v => s.homeTake (some v) k r

/-- A request reaches its home beside others for its line (13 R443): the one that loses is answered NACK, and the pointer of
the harbour passes the winner of a tie. A reservation, or an open transaction, overrides that. -/
def State.homeArrive (s : State) (m : CohMsg) (k : TxnKind) (r : CohReq) : State :=
  let l := r.line.val
  let h := lineHome l
  let t := s.cohTake m
  if s.cohArbiter l then
    let tied := s.cohTie r || s.coh.ties.contains l
    let ties := s.coh.ties.filter (· != l)
    if s.cohOutbid r then
      ({ t with coh := { t.coh with ties := if tied then l :: ties else ties } } : State).homeNack k (sampledReq r s.now) false
    else
      ({ t with coh := { t.coh with
          ties := ties
          ptrs := if tied then t.coh.ptrs.put h ((mstIsl r.req + 1) % 16) else t.coh.ptrs } } : State).homeRequest k r
  else t.homeRequest k r

/-- An eviction ends: the way passes to the request that awaits it (13 R448). -/
def State.evictDone (s : State) (l : Nat) : State :=
  let s := s.freeDir l
  match (s.coh.dir.map (·.2)).find? fun d => d.txn.any fun t => t.awaiting == some l with
  | some d =>
    match d.txn with
    | some t => s.homeServe { d with txn := none } t.kind t.req
    | none => s
  | none => s

/-- HRB_PROTOCOL: a message that 13 R440 does not allow. -/
def State.cohProtocol (s : State) (l : Nat) (m : Mst) : State :=
  s.raise (Src.HRB_PROTOCOL (lineHome l)) { master := m.toNat, addr := 64 * l, atype := 2 }

/-- A request that a RECALL serves: a masked write or an atomic (13 R440). -/
def TxnKind.recalls : TxnKind → Bool
  | .wru .. | .atu .. => true
  | _ => false

/-- The writeback that a transaction met has landed and its acknowledgements are in: the request is served again against
the new DSTATE (13 R442). -/
def State.homeAgain (s : State) (d : DirEntry) (t : Txn) : State :=
  if t.kind.recalls then s.homeGo d t else s.homeServe { d with txn := none } t.kind t.req

/-- A writeback that 13 R440 admits from its owner: PUTM and PUTE in X, PUTO in O, or in X behind the FWD_GETS that has made
the owner O. -/
def DirEntry.admitsPut (d : DirEntry) (kind : L1St) : Bool :=
  match d.st, kind with
  | some .x, .m | some .x, .e | some .o, .o => true
  | some .x, .o => d.txn.any fun t => match t.kind with | .gets => true | _ => false
  | _, _ => false

/-- A writeback reaches the home (13 R440, R442): applied when its sender is the owner, else its data is
discarded and HRB_PROTOCOL raised; WB_ACK answers either way. -/
def State.homePut (s : State) (e l : Nat) (kind : L1St) : State :=
  let buf := s.coh.wb.find? fun w => w.eng == e && w.line == l
  let ack (s : State) : State := s.cohSend (.wbAck e l)
  s.dirRead l fun s o =>
    match o with
    | some d =>
      if d.owner = e ∧ d.admitsPut kind = true then
        let s :=
          match kind, buf with
          | .m, some w | .o, some w => s.sliceWrite l w.data w.poison
          | _, _ => s
        let keep := kind = .o ∧ (d.imask ≠ [] ∨ d.emask ≠ [])
        let d := { d with st := if keep then some .s else none, owner := 0 }
        let s := ack s
        match d.txn with
        | some t =>
          let d := { d with txn := some { t with nackd := false } }
          if t.nackd ∧ t.acks = 0 then (s.setDir d).homeAgain d { t with nackd := false } else s.setDir d
        | none => if d.st.isNone ∧ d.evict = 0 then s.freeDir l else s.setDir d
      else ack (s.cohProtocol l (engMst e))
    | none => ack (s.cohProtocol l (engMst e))

/-- The directory entry once DONE closes its GETS or GETM (13 R440). -/
def DirEntry.afterDone (d : DirEntry) (t : Txn) (dirty : Bool) : DirEntry :=
  let e := mstEng t.req.req
  let base := { d with txn := none }
  match t.grant with
  | .e | .m | .o => { base with st := some .x, owner := e, imask := [], emask := [] }
  | .s =>
    match d.st with
    | some .x =>
      if dirty then ({ base with st := some .o } : DirEntry).addSharer e
      else (({ base with st := some .s, owner := 0 } : DirEntry).addSharer d.owner).addSharer e
    | some .o => base.addSharer e
    | _ => ({ base with st := some .s } : DirEntry).addSharer e

/-- DONE reaches the home and closes its GETS or GETM (13 R441); where no such transaction of its sender is open it is no
message of R440. -/
def State.homeDone (s : State) (r : CohReq) (dirty : Bool) : State :=
  let bad (s : State) : State := s.cohProtocol r.line r.req
  s.dirRead r.line fun s o =>
    match o with
    | some d =>
      match d.txn with
      | some t =>
        if needsEntry t.kind && t.awaiting.isNone && mstEng t.req.req == mstEng r.req then s.setDir (d.afterDone t dirty)
        else bad s
      | none => bad s
    | none => bad s

/-- INV_ACK reaches the home (13 R440): dirty data goes to the slice; the last acknowledgement lets the eviction or the
transaction go on. One that nothing awaits is no message of R440. -/
def State.homeAck (s : State) (isl l : Nat) (data : Option (List Byte)) (poison : Bool) : State :=
  let bad (s : State) : State := s.cohProtocol l (engMst (17 * isl))
  let s := match data with | some b => s.sliceWrite l b poison | none => s
  s.dirRead l fun s o =>
    match o with
    | some d =>
      if d.evict ≠ 0 then
        if d.evict = 1 then s.evictDone l else s.setDir { d with evict := d.evict - 1 }
      else
        match d.txn with
        | some t =>
          if t.acks = 0 then bad s
          else
            let t := { t with acks := t.acks - 1 }
            let d := { d with txn := some t }
            let s := s.setDir d
            if t.acks = 0 ∧ ¬t.nackd then s.homeGo d t else s
        | none => bad s
    | none => bad s

/-- NACK_WB reaches the home (13 R442): the transaction waits for the writeback; where that has landed already the request
is served again once its acknowledgements are in. -/
def State.homeNackWb (s : State) (e l : Nat) : State :=
  let bad (s : State) : State := s.cohProtocol l (engMst e)
  s.dirRead l fun s o =>
    match o with
    | some d =>
      match d.txn with
      | some t =>
        let t := if t.kind.recalls then { t with acks := t.acks - 1 } else t
        let d := { d with txn := some t }
        if (d.st = some .x ∨ d.st = some .o) ∧ d.owner = e then s.setDir { d with txn := some { t with nackd := true } }
        else if t.acks = 0 then (s.setDir d).homeAgain d t
        else s.setDir d
      | none => bad s
    | none => bad s

/-! ## What an L1 does -/

/-- The engine's L1 raises for an error in a line (13 R455): corrected, or a dirty line poisoned. -/
def State.l1Corr (s : State) (e l : Nat) : State := s.raise (Src.L1_ECC_CORR (engIsl e)) (cellArg l)
def State.l1Poison (s : State) (e l : Nat) : State := s.raise (Src.L1_POISON (engIsl e)) (cellArg l)

/-- An L1 evicts a line (13 R436): S silently, M, O and E through a writeback buffer; SECDED checks the line on its way. -/
def State.l1Evict (s : State) (e : Nat) (w : L1Line) : State :=
  let lost := w.ecc == 2 && decide (w.st = .m ∨ w.st = .o)
  let s := s.l1Drop e w.line
  let s := if w.ecc = 1 then s.l1Corr e w.line else if lost then (s.engError e).l1Poison e w.line else s
  let b (s : State) : State :=
    { s with coh := { s.coh with wb := s.coh.wb ++ [{ eng := e, line := w.line, st := w.st, data := w.data, poison := w.poison || lost }] } }
  match w.st with
  | .s => s
  | .m => (b s).cohSend (.putm e w.line)
  | .o => (b s).cohSend (.puto e w.line)
  | .e => (b s).cohSend (.pute e w.line)

/-- A line enters an L1; the least recently used of four ways leaves (13 R429). -/
def State.l1Install (s : State) (e : Nat) (w : L1Line) : State :=
  let set := (s.l1Set e w.line).filter (·.line ≠ w.line)
  let s := if set.length < 4 then s
    else match set.getLast? with | some v => s.l1Evict e v | none => s
  s.l1Update e w

/-- A request of this engine for the line is on its way, answered NACK, in its back-off or open at the home with its data
still to come: its L1 makes no second one (13 R440). -/
def State.l1Asking (s : State) (e l : Nat) : Bool :=
  let mine (r : CohReq) : Bool := r.line.val == l && mstEng r.req == e
  let own (k : TxnKind) (r : CohReq) : Bool := needsEntry k && mine r
  s.coh.msgs.any (fun m => match m with | .gets r | .getm r => mine r | _ => false)
    || s.coh.nacked.any (fun x => own x.1 x.2) || s.coh.backoffs.any (fun b => own b.kind b.req)
    || (((s.dir l).bind (·.txn)).any (fun t => own t.kind t.req)
        && !s.coh.msgs.any fun m => match m with | .done r _ => mine r | _ => false)

/-- Contexts of an engine that wait for a line go on. -/
def State.l1Wake (s : State) (e l : Nat) : State :=
  { s with ctxs := s.ctxs.map fun c =>
      if c.1 / 8 = e ∧ c.2.stall = .line l then (c.1, { c.2 with stall := .none }) else c }

/-- Data reaches a requester: the line is installed in the state granted, and DONE tells the home whether
the supplier's copy was dirty (13 R437). -/
def State.l1Data (s : State) (e l : Nat) (st : L1St) (data : List Byte) (poison dirty : Bool) : State :=
  let own : CohReq := { line := lineFin l, req := engMst e, since := s.now, nacks := 0 }
  let r : CohReq :=
    match (s.dir l).bind (·.txn) with
    | some t => if mstEng t.req.req = e then t.req else own
    | none => own
  ((s.l1Install e { line := l, st := st, data := data, poison := poison }).l1Wake e l).cohSend (.done r dirty)

/-- SECDED of an L1 line when an access meets it (13 R453, R455): a correctable error is corrected in place; an
uncorrectable one invalidates a clean line, which the next access fetches again, and poisons a dirty one. -/
def State.l1Check (s : State) (e l : Nat) : State :=
  match s.l1Find e l with
  | some w =>
    if w.ecc = 1 then (s.l1Update e { w with ecc := 0 }).l1Corr e l
    else if w.ecc = 2 then
      let s := s.engError e
      if w.st = .m ∨ w.st = .o then (s.l1Update e { w with ecc := 0, poison := true }).l1Poison e l
      else (s.l1Evict e w).l1Corr e l
    else s
  | none => s

/-- An engine's line is invalidated (13 R438, R449): an engine of the home island answers itself; a far island answers once
all its L1s have, with the data of the one that was asked for it and held it dirty. -/
def State.l1Inval (s : State) (e l : Nat) (wantData : Bool) : State :=
  let i := engIsl e
  let s := if wantData then s.l1Check e l else s
  let dirty := (s.l1Find e l).bind fun w => if wantData ∧ (w.st = .m ∨ w.st = .o) then some (w.data, w.poison) else none
  let s := s.l1Drop e l
  let answer (t : State) (d : Option (List Byte × Bool)) : State :=
    t.cohSend (.invAck i l (d.map (·.1)) ((d.map (·.2)).getD false))
  if i = lineHome l then answer s dirty
  else
    let left := s.coh.msgs.any fun m =>
      match m with
      | .inv x y | .binv x y => engIsl x == i && y == l
      | _ => false
    let back := match dirty with | some d => s.coh.back.put (16 * l + i) d | none => s.coh.back
    if left then { s with coh := { s.coh with back := back } }
    else answer { s with coh := { s.coh with back := back.del (16 * l + i) } } (back.find (16 * l + i))

/-- A writeback of the line by this engine is in flight (13 R442). -/
def State.wbInFlight (s : State) (e l : Nat) : Bool := s.coh.wb.any fun w => w.eng == e && w.line == l

/-- A forward or a RECALL meets an L1 (13 R440, R442): a copy serves it, a writeback in flight is answered NACK_WB. An L1
holds both only where its O line left while its own GETM was open. -/
def State.l1Serve (s : State) (e l : Nat) (f : State → L1Line → State) : State :=
  let s := s.l1Check e l
  match s.l1Find e l with
  | some w => f s w
  | none => if s.wbInFlight e l then s.cohSend (.nackWb e l) else s.cohProtocol l (engMst e)

/-- FWD_GETS (13 R440): the owner sends its copy and becomes O when dirty, S when clean. -/
def State.l1FwdGets (s : State) (owner : Nat) (r : CohReq) : State :=
  s.l1Serve owner r.line fun s w =>
    let dirty := decide (w.st = .m ∨ w.st = .o)
    (s.l1Update owner { w with st := if dirty then .o else .s }).cohSend (.dataS (mstEng r.req) r.line w.data w.poison dirty)

/-- FWD_GETM (13 R440): the owner sends its data and becomes I. -/
def State.l1FwdGetm (s : State) (owner : Nat) (r : CohReq) : State :=
  s.l1Serve owner r.line fun s w =>
    (s.l1Drop owner r.line).cohSend
      (.dataM (mstEng r.req) r.line (some w.data) w.poison (decide (w.st = .m ∨ w.st = .o)))

/-- FWD_RDU (13 R440): the owner sends a copy and keeps its state; the home's transaction closes. -/
def State.l1FwdRdu (s : State) (owner : Nat) (r : CohReq) : State :=
  s.l1Serve owner r.line fun s w =>
    let s := s.cohReply r w.data w.poison
    match s.dir r.line with
    | some d => s.setDir { d with txn := none }
    | none => s

/-- RECALL (13 R440): the owner returns its data to the home and invalidates; an L1 that holds no copy answers so. -/
def State.l1Recall (s : State) (owner l : Nat) : State :=
  let s := s.l1Check owner l
  match s.l1Find owner l with
  | some w =>
    (s.l1Drop owner l).cohSend
      (.invAck (engIsl owner) l (if w.st = .m ∨ w.st = .o then some w.data else none) w.poison)
  | none =>
    s.cohSend (if s.wbInFlight owner l then .nackWb owner l else .invAck (engIsl owner) l none false)

/-- DATA_M (13 R440): without data, the owner's own copy moves to M, or, where that copy has left since, the data that the
writeback buffer still holds (R436). A DATA_M without data that meets neither is no message of R440. -/
def State.l1DataM (s : State) (e l : Nat) (data : Option (List Byte)) (poison dirty : Bool) : State :=
  match data with
  | some b => s.l1Data e l .m b poison dirty
  | none =>
    let s := s.l1Check e l
    match s.l1Find e l with
    | some w => s.l1Data e l .m w.data w.poison dirty
    | none =>
      match s.coh.wb.find? fun w => w.eng == e && w.line == l with
      | some w => s.l1Data e l .m w.data w.poison dirty
      | none => s.cohProtocol l (engMst e)

/-- WB_ACK frees the writeback buffer (13 R436). -/
def State.l1WbAck (s : State) (e l : Nat) : State :=
  { s with coh := { s.coh with wb := s.coh.wb.filter fun w => !(w.eng == e && w.line == l) } }

/-! ## Requesters -/

/-- BO_MIN and BO_MAX of a home as they act (13 R456). -/
def State.boMin (s : State) (h : Nat) : Nat := max 8 (s.rd (F.hrbCfg_BO_MIN h))
def State.boMax (s : State) (h : Nat) : Nat := max (s.boMin h) (min 64 (s.rd (F.hrbCfg_BO_MAX h)))

/-- The back-off of a request after its NACK, in CLK_CORE cycles (13 R444, R445). -/
def State.backoff (s : State) (h n : Nat) : Nat :=
  if 8 ≤ n then s.boMin h else min (s.boMin h * 2 ^ (n - 1)) (s.boMax h)

/-- NACK reaches the requester, which waits its back-off (13 R444). -/
def State.reqNack (s : State) (r : CohReq) : State :=
  match s.coh.nacked.find? fun x => sameReq x.2 r with
  | some x =>
    let due := s.now + (s.backoff (lineHome r.line) r.nacks + 2) / 3
    { s with coh := { s.coh with nacked := s.coh.nacked.erase x, backoffs := s.coh.backoffs ++ [⟨x.1, r, due⟩] } }
  | none => s

/-- The reset of a requester cancels its requests, their NACKs on the way, and the reservations made for them (13 R446). -/
def State.cohCancel (s : State) (p : CohReq → Bool) : State :=
  let mine (v : Resv) : Bool := p v.req
  let gone (m : CohMsg) : Bool := match m with | .nack r => p r | m => m.request.any p
  { s with coh := { s.coh with
      msgs := s.coh.msgs.filter fun m => !gone m
      nacked := s.coh.nacked.filter fun x => !p x.2
      backoffs := s.coh.backoffs.filter fun b => !p b.req
      lineResv := s.coh.lineResv.filter fun v => !mine v.2
      setResv := s.coh.setResv.filter fun v => !mine v.2 } }

/-- HRB_OCC of a harbour (13 R456): entries in use, entries pinned, reservations held. -/
def State.hrbOcc (s : State) (i : Nat) : Word :=
  let ds := (s.coh.dir.map (·.2)).filter fun d => lineHome d.line == i && !d.waits
  let pinned := ds.filter fun d => d.txn.isSome || d.evict != 0
  let resv := (s.coh.lineResv.filter fun v => lineHome v.1 == i).length
    + (s.coh.setResv.filter fun v => v.1 / 544 == i).length
  BitVec.ofNat 64 (ds.length * 2 ^ 36 + pinned.length * 2 ^ 22 + resv * 2 ^ 8)

end Sys2Proof.Machine
end

