-- ==== Sys2Proof/Machine/Uncached.lean ====
section
/-! DEFINITION. Uncached accesses taken whole (13 R440, R451, notes/assumptions/63.md): a brush, a mixer, a unit or the
firmware reads, writes or operates on device memory, one request per line, by the messages of the protocol. -/

namespace Sys2Proof.Machine

/-- The line that a message is about. -/
def CohMsg.lineOf : CohMsg → Nat
  | .gets r | .getm r | .rdu r | .wru r _ _ | .atu r _ _ _ _ | .done r _ | .fwdGets _ r | .fwdGetm _ r | .fwdRdu _ r
  | .nack r => r.line
  | .putm _ l | .puto _ l | .pute _ l | .invAck _ l _ _ | .nackWb _ l | .dataS _ l _ _ _ | .dataE _ l _ _
  | .dataM _ l _ _ _ | .inv _ l | .binv _ l | .recall _ l | .wbAck _ l => l

/-- What a message does where it arrives. -/
def State.cohDeliver (s : State) (m : CohMsg) : State :=
  match m with
  | .gets r => s.homeArrive m .gets r
  | .getm r => s.homeArrive m .getm r
  | .rdu r => s.homeArrive m .rdu r
  | .wru r off bs => s.homeArrive m (.wru off bs) r
  | .atu r w op y c => s.homeArrive m (.atu w op y c) r
  | .putm e l => s.homePut e l .m
  | .puto e l => s.homePut e l .o
  | .pute e l => s.homePut e l .e
  | .done r d => s.homeDone r d
  | .invAck i l d p => s.homeAck i l d p
  | .nackWb e l => s.homeNackWb e l
  | .dataS e l b p d => s.l1Data e l .s b p d
  | .dataE e l b p => s.l1Data e l .e b p false
  | .dataM e l b p d => s.l1DataM e l b p d
  | .fwdGets o r => s.l1FwdGets o r
  | .fwdGetm o r => s.l1FwdGetm o r
  | .fwdRdu o r => s.l1FwdRdu o r
  | .inv e l => s.l1Inval e l false
  | .binv e l => s.l1Inval e l true
  | .recall o l => s.l1Recall o l
  | .nack r => s.reqNack r
  | .wbAck e l => s.l1WbAck e l

/-- A message carries a transaction of line `l` on: it is no request and no NACK, and it is about the line or about the
line whose eviction the transaction awaits (13 R448). -/
def State.cohCarries (s : State) (l : Nat) (m : CohMsg) : Bool :=
  let mine := m.lineOf == l || ((s.dir l).bind (·.txn)).any fun t => t.awaiting == some m.lineOf
  match m with
  | .nack _ => false
  | m => m.request.isNone && mine

/-- The messages that carry the transactions of a line on arrive one by one, in the order in which they were sent; the
fuel counts messages. -/
def State.cohFlush : Nat → State → Nat → State
  | 0, s, _ => s
  | n + 1, s, l =>
    match s.coh.msgs.find? (s.cohCarries l) with
    | some m => State.cohFlush n ((s.cohTake m).cohDeliver m) l
    | none => s

/-- The open transaction of a line goes on to its end. One that no message in flight can end, which no run leaves, is
dropped. -/
def State.cohFinish (s : State) (l : Nat) : State :=
  let s := State.cohFlush 4096 s l
  match s.dir l with
  | some d => if s.cohOpen l then s.setDir { d with txn := none, evict := 0 } else s
  | none => s

/-- The back-off that request `r` is in ends (13 R444): time passes until it is due, and it reaches the home again. -/
def State.cohRetried (s : State) (b : Backoff) : State :=
  let s := s.passTo b.due
  ({ s with coh := { s.coh with backoffs := s.coh.backoffs.erase b } } : State).homeRequest b.kind b.req

/-- The reservation of a line lapses 1,024 CLK_CORE cycles after it was made (13 R446). -/
def State.resvLapse (s : State) (l : Nat) : State :=
  match s.coh.lineResv.find l with
  | some v =>
    let s := s.passTo (v.made + 342)
    { s with coh := { s.coh with lineResv := s.coh.lineResv.del l } }
  | none => s

/-- The request for which a line is reserved is served (13 R446): its NACK reaches it, its back-off passes, and it reaches
the home. The reservation of one that is nowhere lapses. -/
def State.cohReserved (s : State) (l : Nat) : State :=
  match s.coh.lineResv.find l with
  | none => s
  | some v =>
    let s := match s.coh.msgs.find? fun m => match m with | .nack r => sameReq r v.req | _ => false with
      | some m => (s.cohTake m).cohDeliver m
      | none => s
    match s.coh.backoffs.find? fun b => sameReq b.req v.req with
    | some b => (s.cohRetried b).cohFinish l
    | none =>
      match s.coh.msgs.find? fun m => m.request.any fun r => sameReq r v.req with
      | some m => (s.cohDeliver m).cohFinish l
      | none => s.resvLapse l

/-- An uncached request is answered NACK while its line is busy or reserved for another (13 R441, R446), and is made again
after its back-off (R444), what it met having ended meanwhile; the fuel counts its NACKs. Behind the last a reservation that
still bars it has lapsed. -/
def State.cohAgain : Nat → State → TxnKind → CohReq → State
  | 0, s, k, r => ((s.resvLapse r.line).homeRequest k r).cohFinish r.line
  | n + 1, s, k, r =>
    if s.cohOpen r.line || barred (s.coh.lineResv.find r.line) r then
      let s := s.homeNack k r false
      let r' := ((s.coh.nacked.map (·.2)).find? fun x => sameReq x r).getD r
      let s := (s.cohTake (.nack r')).reqNack r'
      let s := (s.cohFinish r.line).cohReserved r.line
      let s := match s.coh.backoffs.find? fun b => sameReq b.req r with
        | some b =>
          let s := s.passTo b.due
          { s with coh := { s.coh with backoffs := s.coh.backoffs.erase b } }
        | none => s
      State.cohAgain n s k r'
    else (s.homeRequest k r).cohFinish r.line

/-- An uncached request of a unit of the device, from its first sampling to its end. -/
def State.cohAsk (s : State) (l : Nat) (k : TxnKind) : State :=
  State.cohAgain 4 s k { line := lineFin l, req := 0x7000, since := s.now, nacks := 0 }

/-- The answer that an uncached read or atomic has brought a unit, taken from the network. -/
def State.cohAnswer (s : State) : State × List Byte × Bool :=
  let mine (x : CohReq × List Byte × Bool) : Bool := x.1.req == 0x7000
  match s.coh.replies.find? mine with
  | some x => ({ s with coh := { s.coh with replies := s.coh.replies.filter fun x => !mine x } }, x.2.1, x.2.2)
  | none => (s, zeroLine, true)

/-- What an uncached read of a line returns, and the state after it (13 R440 RDU); the flag says that it failed: the
line is poisoned or unbacked (14 R460). -/
def State.cohRead (s : State) (l : Nat) : State × List Byte × Bool :=
  if !backed (64 * l) 64 then (s, zeroLine, true) else (s.cohAsk l .rdu).cohAnswer

/-- An uncached write of bytes at an offset of a line (13 R440 WRU): a full line overwrites and clears
poison, a part merges into the line's data and keeps it (R454). At an unbacked line it fails and changes nothing. -/
def State.cohWrite (s : State) (l off : Nat) (bs : List Byte) : State :=
  if !backed (64 * l) 64 then s else s.cohAsk l (.wru off bs)

/-- An uncached atomic on the aligned word at offset `a` (13 R451 ATU): its old value, and whether it failed. -/
def State.devAtom (s : State) (a : Nat) (op : AtomOp) (y cmp : Word) : State × Word × Bool :=
  if !backed a 8 then (s, 0, true)
  else
    let (s, bs, bad) := (s.cohAsk (a / 64) (.atu (a % 64 / 8) op y cmp)).cohAnswer
    (s, wordOfBytes (bs.take 8), bad)

/-- `n` uncached bytes from offset `a`, one request per line, with whether any line was poisoned; the fuel
counts lines. -/
def State.cohReadBytes : Nat → State → Nat → Nat → State × List Byte × Bool
  | 0, s, _, _ => (s, [], false)
  | fuel + 1, s, a, n =>
    if n = 0 then (s, [], false)
    else
      let k := min n (64 - a % 64)
      let (s, d, p) := s.cohRead (a / 64)
      let (s, r, q) := State.cohReadBytes fuel s (a + k) (n - k)
      (s, (d.drop (a % 64)).take k ++ r, p || q)

/-- `n` uncached bytes from offset `a`, with whether any line was poisoned. -/
def State.devRead (s : State) (a n : Nat) : State × List Byte × Bool := s.cohReadBytes (n / 64 + 2) a n

/-- Uncached bytes are written from offset `a`, one request per line; the fuel counts lines. -/
def State.cohWriteBytes : Nat → State → Nat → List Byte → State
  | 0, s, _, _ => s
  | n + 1, s, a, bs =>
    if bs = [] then s
    else
      let k := 64 - a % 64
      State.cohWriteBytes n (s.cohWrite (a / 64) (a % 64) (bs.take k)) (a + k) (bs.drop k)

/-- Uncached bytes are written from offset `a`. -/
def State.devWrite (s : State) (a : Nat) (bs : List Byte) : State := s.cohWriteBytes (bs.length / 64 + 2) a bs

end Sys2Proof.Machine
end

