-- ==== Sys2Proof/Machine/Gates.lean ====
section
/-! DEFINITION. Master identities, privilege and gates (15 R479 to R491), and the allocation of device
memory (14 R473, R474). -/

namespace Sys2Proof.Machine

/-- The master identity of a host function (15 R479). -/
def fnMst (func : Nat) : Mst := BitVec.ofNat 16 (func % 1024)

/-- The master identity of context c: island [11:8], engine [7:3], context [2:0]. -/
def ctxMst (c : Nat) : Mst := BitVec.ofNat 16 (0x1000 + c / 8 / 17 * 256 + c / 8 % 17 * 8 + c % 8)

/-- The class of a master. -/
def mstClass (m : Mst) : Nat := m.toNat / 4096

/-- The device-wide context of an engine-context or brush master. -/
def mstCtx (m : Mst) : Nat := (m.toNat / 256 % 16 * 17 + m.toNat / 8 % 32) * 8 + m.toNat % 8

/-- The function number port [9:8], function [7:0] of a host-function master. -/
def mstFunc (m : Mst) : Nat := m.toNat % 1024

/-- Function 0 of a port is its PF (02 R31). -/
def isPf (func : Nat) : Bool := func % 256 == 0

/-- The native privilege of a master (15 R479). -/
def State.nativePriv (s : State) (m : Mst) : Nat :=
  match mstClass m with
  | 0 => if isPf (mstFunc m) then 2 else 1
  | 1 | 2 => s.rd (F.ctxCfg_LEVEL (mstCtx m))
  | 3 | 4 | 7 => 3
  | 5 => 4
  | 6 => 2
  | _ => 0

/-- The gate of a master's class (15 R479); internal masters have none. -/
def mstGate (m : Mst) : Option Nat :=
  match mstClass m with
  | 0 => some (m.toNat / 256 % 4)
  | 1 | 2 => some (7 + m.toNat / 256 % 16)
  | 3 => some (7 + m.toNat % 16)
  | 4 => some 4
  | 5 => some 5
  | 6 => some 6
  | _ => none

/-- The privilege at which a master's accesses are performed (15 R480). -/
def State.priv (s : State) (m : Mst) : Nat :=
  match mstGate m with
  | some g => min (s.nativePriv m) (s.rd (F.gteCtl_GRANT g))
  | none => s.nativePriv m

/-- The tenant that an access at U or S carries (15 R484). -/
def State.mstTenant (s : State) (m : Mst) : Option Nat :=
  if 1 < s.priv m then none
  else
    match mstClass m with
    | 0 => if s.on (F.hptFnTen_EN (mstFunc m / 256) (mstFunc m % 256))
        then some (s.rd (F.hptFnTen_TENANT (mstFunc m / 256) (mstFunc m % 256))) else none
    | 1 | 2 => some (s.rd (F.ctxCfg_TENANT (mstCtx m)))
    | _ => none

/-- A gate entry matches a page (15 R484). -/
def State.gateMatch (s : State) (g e page : Nat) (t : Option Nat) : Bool :=
  s.on (F.gteEnt_VALID g e) && decide (s.rd (F.gteEnt_BASE g e) ≤ page)
    && decide (page ≤ s.rd (F.gteEnt_LIMIT g e))
    && (!s.on (F.gteEnt_TMEN g e) || t == some (s.rd (F.gteEnt_TENANT g e)))

/-- The entry that decides a page: the first locked match, else the first unlocked match. -/
def State.gateDecider (s : State) (g page : Nat) (t : Option Nat) : Option Nat :=
  match (List.range 64).find? fun e => s.on (F.gteEnt_LOCK g e) && s.gateMatch g e page t with
  | some e => some e
  | none => (List.range 64).find? fun e => !s.on (F.gteEnt_LOCK g e) && s.gateMatch g e page t

/-- PERM allows an access kind at a level (15 R483, R484). -/
def permits (perm lvl : Nat) (k : AccKind) : Bool :=
  let r := perm / 2 ^ (3 * lvl) % 2 == 1
  let w := perm / 2 ^ (3 * lvl + 1) % 2 == 1
  let x := perm / 2 ^ (3 * lvl + 2) % 2 == 1
  match k with
  | .read => r
  | .write => w
  | .atomic => r && w
  | .fetch => x

/-- The verdict of a gate on one page. -/
def State.gatePage (s : State) (g : Nat) (m : Mst) (page : Nat) (k : AccKind) : Bool :=
  match s.gateDecider g page (s.mstTenant m) with
  | some e => permits (s.rd (F.gteEnt_PERM g e)) (s.priv m) k
  | none => false

/-- The verdict of a master's gate on `n` bytes from a gate address: every page under SPLIT, the first
byte's page under LEAD (15 R491). A gate with EN 0 passes every access (R486). -/
def State.gateOk (s : State) (m : Mst) (a n : Nat) (k : AccKind) : Bool :=
  match mstGate m with
  | none => true
  | some g =>
    if !s.on (F.gteCtl_EN g) then true
    else
      let p := a / 4096
      let last := (a + max n 1 - 1) / 4096
      if s.on (F.gteCtl_STRADDLE g) then s.gatePage g m p k
      else (List.range (last + 1 - p)).all fun i => s.gatePage g m (p + i) k

/-- The access type code of a gated access (16 R517). -/
def atypeOf : AccKind → Nat
  | .read => 1
  | .write => 2
  | .atomic => 3
  | .fetch => 4

/-- A denied access is counted and raises GTE_DENIED (15 R488). -/
def State.gateDeny (s : State) (m : Mst) (a : Nat) (k : AccKind) : State :=
  match mstGate m with
  | none => s
  | some g => (s.count (F.gteStat_DENIED g)).raise Src.GTE_DENIED { addr := a, master := m.toNat, atype := atypeOf k }

/-- An access asks its gate: the flag says whether it passes. -/
def State.gate (s : State) (m : Mst) (a n : Nat) (k : AccKind) : State × Bool :=
  if s.gateOk m a n k then (s, true) else (s.gateDeny m a k, false)

/-- The gate address of a register of the Provider register view (15 R482). -/
def regGateAddr (r : Nat) : Nat := 0x800000000 + r

/-- Firmware or Debug privilege is granted to a master (15 R480). -/
def State.atF (s : State) (m : Mst) : Bool := decide (3 ≤ s.priv m)

/-- Provider privilege or above. -/
def State.atP (s : State) (m : Mst) : Bool := decide (2 ≤ s.priv m)

/-! ## Tenants and allocations -/

/-- A host function serves a tenant (20 R614). -/
def State.fnServes (s : State) (func t : Nat) : Bool :=
  s.on (F.hptFnTen_EN (func / 256) (func % 256)) && s.rd (F.hptFnTen_TENANT (func / 256) (func % 256)) == t

/-- The bytes of an allocation unit (14 R474). -/
abbrev allocUnit : Nat := 0x200000

/-- The `n` bytes from offset `a` lie in allocation entry `t`. -/
def State.inAlloc (s : State) (t a n : Nat) : Bool :=
  s.on (F.alloc_EN t) && decide (s.rd (F.alloc_BASE t) * allocUnit ≤ a)
    && decide (a + n ≤ (s.rd (F.alloc_BASE t) + s.rd (F.alloc_LEN t)) * allocUnit)

/-- The `n` bytes from offset `a` lie in the device-memory window of a function: its tenant's allocation, or
for a PF the Provider's (14 R474). -/
def State.inFnWindow (s : State) (func a n : Nat) : Bool :=
  if isPf func then s.inAlloc 4096 a n
  else s.on (F.hptFnTen_EN (func / 256) (func % 256)) && s.inAlloc (s.rd (F.hptFnTen_TENANT (func / 256) (func % 256))) a n

/-- A DEVMEM local range of a function: inside its window and passed by its gate (15 R482, 03 R104). -/
def State.devRange (s : State) (func a n : Nat) (k : AccKind) : State × Bool :=
  if s.inFnWindow func a n then s.gate (fnMst func) a n k else (s, false)

/-- An event ring is owned by a function of a tenant (07 R212). -/
def State.eqOfTenant (s : State) (eq t : Nat) : Bool :=
  s.rd (F.qctx_STATE eq) != 0 && s.rd (F.qctx_TYPE eq) == 3 && s.fnServes (s.rd (F.qctx_FUNC eq)) t

end Sys2Proof.Machine
end

