-- ==== Sys2Proof/Machine/Operands.lean ====
section
/-! DEFINITION. The operand forms that commands read: work entries (03 R83), receive-post entries (03 R88),
doorbell words (03 R79), easel control words (02 R37), collective descriptors (09 R287), brush descriptors
(05 R164). -/

namespace Sys2Proof.Machine

/-! ## Work entries (03 R83, R84) -/

abbrev W.opcode : OFld := ⟨0, 63, 56⟩
abbrev W.flags : OFld := ⟨0, 55, 48⟩
abbrev W.batchEnd : OFld := ⟨0, 55, 55⟩
abbrev W.flagged : OFld := ⟨0, 54, 54⟩
abbrev W.inline : OFld := ⟨0, 53, 53⟩
abbrev W.devmem : OFld := ⟨0, 52, 52⟩
abbrev W.solicit : OFld := ⟨0, 51, 51⟩
abbrev W.flagsRes : OFld := ⟨0, 50, 48⟩
abbrev W.opmod : OFld := ⟨0, 47, 40⟩
abbrev W.res0 : OFld := ⟨0, 39, 25⟩
abbrev W.len : OFld := ⟨0, 24, 0⟩
abbrev W.cookie : OFld := ⟨1, 63, 0⟩
abbrev W.laddr : OFld := ⟨2, 63, 0⟩
abbrev W.mctx : OFld := ⟨3, 63, 48⟩
abbrev W.res3a : OFld := ⟨3, 47, 46⟩
abbrev W.dstep : OFld := ⟨3, 45, 26⟩
abbrev W.res3b : OFld := ⟨3, 25, 18⟩
abbrev W.conn : OFld := ⟨3, 17, 0⟩
abbrev W.rkey : OFld := ⟨4, 63, 32⟩
abbrev W.res4 : OFld := ⟨4, 31, 0⟩
abbrev W.res5 : OFld := ⟨5, 63, 48⟩
abbrev W.roffset : OFld := ⟨5, 47, 0⟩
abbrev W.operand0 : OFld := ⟨6, 63, 0⟩
abbrev W.operand1 : OFld := ⟨7, 63, 0⟩

/-! ## Receive-post entries (03 R88), with the ring and take index of 08 R277 -/

abbrev RP.flagsHi : OFld := ⟨0, 55, 53⟩
abbrev RP.flagsLo : OFld := ⟨0, 50, 48⟩
abbrev RP.res0 : OFld := ⟨0, 47, 25⟩
abbrev RP.res3 : OFld := ⟨3, 63, 21⟩
abbrev RP.srcAny : OFld := ⟨3, 20, 20⟩
abbrev RP.src : OFld := ⟨3, 19, 0⟩
abbrev RP.tag : OFld := ⟨4, 63, 0⟩
abbrev RP.tagIgnore : OFld := ⟨5, 63, 0⟩
abbrev RP.rq : OFld := ⟨6, 19, 0⟩
abbrev RP.ridx : OFld := ⟨7, 20, 0⟩

/-! ## Doorbells and easel control words -/

/-- INDEX and QUEUE of a doorbell (03 R79). -/
def dbIndex (w : Word) : Nat := bits w 40 20
def dbQueue (w : Word) : Nat := bits w 19 0

/-- ILEN and QUEUE of an easel control word (02 R37). -/
def easelIlen (w : Word) : Nat := bits w 28 20
def easelQueue (w : Word) : Nat := bits w 19 0

/-! ## Collective descriptors (09 R287) -/

def collKind (d : Word) : Nat := bits d 63 60
def collSource (d : Word) : Bool := bits d 59 59 == 1
def collDtype (d : Word) : Nat := bits d 23 20
def collOp (d : Word) : Nat := bits d 19 16
def collTree (d : Word) : Nat := bits d 13 0

/-- The reserved bits of a collective descriptor are zero. -/
def collReservedOk (d : Word) : Bool := bits d 58 24 == 0 && bits d 15 14 == 0

/-- The byte size of an element of a DTYPE. -/
def dtypeSize (t : Nat) : Nat :=
  match t with
  | 0 | 1 => 4
  | 2 | 3 => 8
  | 4 | 5 => 2
  | 6 => 4
  | _ => 8

/-- A floating DTYPE. -/
def dtypeFloat (t : Nat) : Bool := decide (4 ≤ t)

/-! ## Brush descriptors (05 R164) -/

def brSrcSp (d : Word) : Nat := bits d 63 61
def brDstSp (d : Word) : Nat := bits d 60 58
def brFunc (d : Word) : Nat := bits d 57 48
def brEv (d : Word) : Bool := bits d 47 47 == 1
def brRes (d : Word) : Nat := bits d 46 25
def brLen (d : Word) : Nat := bits d 24 0

end Sys2Proof.Machine
end

