-- ==== Sys2Proof/Machine/QueueOps.lean ====
section
/-! DEFINITION. Operations on queues (03): malformed entries, taking, completions and segments, doorbells,
the states of a queue, and the events that engines are given. -/

namespace Sys2Proof.Machine

/-! ## Events for engines (06 R193) -/

/-- The steering table index of a kind and key. -/
def steerIndex (kind key : Nat) : Nat := kind % 4 * 1024 + (key % 1024 ^^^ key / 1024 % 1024)

/-- The engine that a steering kind and key name; MGMT arrivals go to engine 16 of island 0. -/
def State.steerEngine (s : State) (e : Event) : Nat :=
  if e.kind = 15 then 16
  else
    let i := steerIndex e.kind e.key
    17 * s.rd (F.steer_ISLAND i) + s.rd (F.steer_ENGINE i)

/-- A steered event arises and waits for its engine's queue (06 R196). -/
def State.postSteered (s : State) (e : Event) : State :=
  { s with sandbox := { s.sandbox with waiting := s.sandbox.waiting ++ [{ e with time := BitVec.ofNat 64 s.tim }] } }

/-- The sketch slot of a context's binding. -/
def State.ctxSketch (s : State) (c : Nat) : Sketch := s.sandbox.slots.at (s.rd (F.ctxCfg_SKETCH c)) {}

/-- The word index of a handler of a context's sketch, when present (06 R179). -/
def State.handlerOf (s : State) (c entry : Nat) : Option Nat :=
  match (s.ctxSketch c).handlers[entry]? with
  | some h => if h = 0xFFFF then none else some h
  | none => none

/-- A context may take an event of a class and entry for a tenant (06 R195): EN set, class in the mask, the
entry present, tenant matching. -/
def State.ctxTakes (s : State) (c cls entry tenant : Nat) : Bool :=
  s.on (F.ctxCfg_EN c) && decide (s.rd (F.csr_MASK c) / 2 ^ cls % 2 = 1) && (s.handlerOf c entry).isSome
    && (decide (s.rd (F.ctxCfg_LEVEL c) ≠ 0) || decide (s.rd (F.ctxCfg_TENANT c) = tenant))

/-- The engine that a steering kind and key name has a context that takes the events of a class, an entry and a tenant. -/
def State.served (s : State) (kind key cls entry tenant : Nat) : Bool :=
  let i := steerIndex kind key
  let e := 17 * s.rd (F.steer_ISLAND i) + s.rd (F.steer_ENGINE i)
  (List.range 8).any fun k => s.ctxTakes (8 * e + k) cls entry tenant

/-- A queue is sketch-served when its steered engine has a context that takes its doorbell events
(notes/assumptions/15.md). -/
def State.sketchServed (s : State) (q : Nat) : Bool := s.served 3 q 7 16 (s.rd (F.qctx_TENANT q))

/-- A doorbell event of the queue is already queued (06 R196). -/
def State.bellQueued (s : State) (q : Nat) : Bool :=
  let hit := fun (e : Event) => e.entry == 16 && e.key == q
  s.sandbox.waiting.any hit || s.engs.any fun g => g.2.queue.any hit

/-- A doorbell of a sketch-served queue posts its event. -/
def State.bellEvent (s : State) (q : Nat) : State :=
  if s.sketchServed q && !s.bellQueued q then
    s.postSteered { entry := 16, cls := 7, kind := 3, tenant := s.rd (F.qctx_TENANT q), key := q,
                    arg0 := BitVec.ofNat 64 q }
  else s

/-! ## Malformed entries (03 R105) -/

/-- The reserved fields of a work entry are zero. -/
def entryReservedOk (e : Octet) : Bool :=
  e.get W.flagsRes == 0 && e.get W.res0 == 0 && e.get W.res3a == 0 && e.get W.res3b == 0
    && e.get W.res4 == 0 && e.get W.res5 == 0
    && (e.get W.opcode != 7 || collReservedOk e.w7)

/-- LEN lies in the range of R85 for the opcode (09 R288, 10 R345). A KEY_NEXT or KEY_CUR entry has LEN 32 (07 R220); that another
LEN is malformed for OP_LENGTH is DEDUCED, as R220 gives no reason code (notes/assumptions/72.md). -/
def opLengthOk (e : Octet) : Bool :=
  let n := e.get W.len
  let md := e.get W.opmod
  match e.get W.opcode with
  | 0 => n == 0
  | 1 => if md = 0x80 ∨ md = 0x81 then n == 32 else true
  | 3 => n == 8
  | 4 => n == 0
  | 6 | 8 => decide (n ≤ if md = 1 then 2044 else 2048)
  | 7 =>
    let d := e.w7
    if collKind d = 2 then n == 0
    else if collKind d = 4 then decide (n ≤ 2016)
    else if collKind d ≤ 1 ∧ collDtype d ≤ 7 then n % dtypeSize (collDtype d) == 0
    else true
  | 0x88 => n == 64
  | _ => true

/-- INLINE and ILEN are used as R87 allows; `ilen` is none for an entry of the ring. -/
def inlineOk (e : Octet) (ilen : Option Nat) : Bool :=
  match ilen with
  | none => e.get W.inline == 0
  | some n => if e.get W.inline = 1 then e.get W.len == n else n == 0

/-- OPMOD is defined for the opcode, and the descriptor of a COLL is (07 R220, 08 R262, 09 R288, 10 R345). -/
def opmodOk (e : Octet) : Bool :=
  let md := e.get W.opmod
  match e.get W.opcode with
  | 1 => md == 0 || md == 0x80 || md == 0x81
  | 3 => decide (md ≤ 4)
  | 5 | 6 | 8 => decide (md ≤ 1)
  | 7 =>
    let d := e.w7
    md == 0 && decide (collKind d ≤ 4)
      && (decide (2 ≤ collKind d)
        || (decide (collDtype d ≤ 7 ∧ collOp d ≤ 5) && !(dtypeFloat (collDtype d) && decide (3 ≤ collOp d))))
  | _ => md == 0

/-- The opcode names a connection: PUT, GET, ATOMIC, FLUSH and SEND. DESIGN CHOICE: 03 R105 does not say for which opcodes
CONN counts, and NOP, DGRAM, COLL and MGMT carry the field too (notes/assumptions/36.md). -/
def opNamesConn (op : Nat) : Bool := op == 1 || op == 2 || op == 3 || op == 4 || op == 5

/-- The entry's connection is not FREE and serves the queue's tenant (03 R105). So a KEY_CUR entry, which 07 R220 lets act only
while its connection is FREE, acts only on one that became FREE after the entry was taken (notes/assumptions/37.md). -/
def State.entryConnOk (s : State) (q : Nat) (e : Octet) : Bool :=
  let n := e.get W.conn
  if opNamesConn (e.get W.opcode) then
    s.rd (F.conn_STATE n) != 0 && s.rd (F.conn_TENANT n) == s.rd (F.qctx_TENANT q)
  else true

/-- The privilege of the queue suffices for the opcode. -/
def State.entryPrivOk (s : State) (q : Nat) (e : Octet) : Bool :=
  let p := s.rd (F.qctx_PRIV q)
  if e.get W.opcode = 8 then decide (2 ≤ p)
  else if e.get W.opcode = 1 ∧ (e.get W.opmod = 0x80 ∨ e.get W.opmod = 0x81) then decide (1 ≤ p)
  else if e.get W.opcode = 0x88 then p == 3
  else true

/-- The first reason why a work entry is malformed, in code order (03 R105). -/
def State.malReason (s : State) (q : Nat) (e : Octet) (ilen : Option Nat) : Option Nat :=
  let op := e.get W.opcode
  if ¬(op ≤ 8 ∨ (op = 0x88 ∧ q = 0)) then some RS.opcode
  else if ¬entryReservedOk e then some RS.reserved
  else if 16777216 < e.get W.len then some RS.length
  else if ¬opLengthOk e then some RS.opLength
  else if ¬inlineOk e ilen then some RS.inline
  else if ¬s.entryConnOk q e then some RS.connection
  else if op = 3 ∧ (e.get W.laddr % 8 ≠ 0 ∨ e.get W.roffset % 8 ≠ 0) then some RS.alignment
  else if ¬s.entryPrivOk q e then some RS.privilege
  else if ¬opmodOk e then some RS.opmod
  else none

/-- The first reason why a receive-post entry is malformed. -/
def recvReason (e : Octet) : Option Nat :=
  if e.get W.opcode ≠ 0x40 then some RS.opcode
  else if ¬(e.get RP.flagsHi = 0 ∧ e.get RP.flagsLo = 0 ∧ e.get RP.res0 = 0 ∧ e.get RP.res3 = 0
      ∧ e.w6 = 0 ∧ e.w7 = 0) then some RS.reserved
  else if 16777216 < e.get W.len then some RS.length
  else none

/-! ## Segments and completions (03 R90 to R98) -/

/-- An entry closes its segment (03 R91). -/
def closesSegment (t : Taken) : Bool :=
  t.close || t.entry.get W.batchEnd == 1 || t.res.any fun r => r.status != ST.ok

/-- The oldest unwritten segment, of at most `n` entries, and whether it is closed (03 R91). -/
def segment : Nat → List Taken → List Taken × Bool
  | 0, _ => ([], true)
  | _ + 1, [] => ([], false)
  | n + 1, t :: ts =>
    if closesSegment t then ([t], true)
    else let r := segment n ts; (t :: r.1, r.2)

/-- The taken entries whose completions are not discarded (03 R75). -/
def QueueSt.live (v : QueueSt) : List Taken := v.taken.filter fun t => !t.stale

/-- How many entries the newest unwritten segment holds, and whether it is closed (03 R91). -/
def newestSegment (l : List Taken) : Nat × Bool :=
  l.foldl (fun c t => (if c.2 then 1 else c.1 + 1, closesSegment t)) (0, false)

/-- OPEN shows the newest unwritten segment (03 R82); one that has closed counts until the next entry is taken or its
completion is written (R97, the worked example behind R99). -/
def State.openSync (s : State) (q : Nat) : State := s.wr (F.qctx_OPEN q) (newestSegment (s.que q).live).1

/-- The open segment closes at the last taken entry: the next entry of the ring cannot be taken (03 R91, R96, R97). -/
def State.closeOpen (s : State) (q : Nat) : State :=
  s.setQue q fun v =>
    { v with taken := match v.taken.reverse with
        | [] => []
        | t :: r => ({ t with close := true } :: r).reverse }

/-- The Plovler has halted for a malformed entry of the firmware control ring, and the entries taken before it complete
normally (03 R107). -/
def State.fwctlHalt (s : State) : Bool := s.halted && s.rd F.fltHalt_SOURCE == Src.FWCTL_MALFORMED

/-- Entries of ring `q` still act: at a halt only those of R107. -/
def State.entriesAct (s : State) (q : Nat) : Bool := !s.halted || (q == 0 && s.fwctlHalt)

/-- A function's reset is in progress. -/
def State.inFlr (s : State) (func : Nat) : Bool := (s.host (func / 256)).flr.contains (func % 256)

/-- An entry is written to a completion ring; the ring of queue 1 lies in device memory (03 R69). -/
def State.cqPut (s : State) (cq : Nat) (e : Quad) : State :=
  if cq = 1 then
    let pi := s.rd (F.qctx_PI cq)
    let a := s.slotAddr cq pi 32
    (s.devWrite a (e.withPhase (phaseBit (s.qLog cq) pi)).bytes).advancePi cq
  else s.ringPut cq e

/-- A completion that covers `n` entries fills one slot of ring `cq` and releases their reservations (03 R96); it
is discarded while the ring's service has ended (R98). -/
def State.complete (s : State) (cq n : Nat) (e : Quad) (sol : Bool) : State :=
  let s := s.wr (F.qctx_RSV cq) (s.rd (F.qctx_RSV cq) - n)
  let fn := s.rd (F.qctx_FUNC cq)
  if (s.halted && !(cq == 1 && s.fwctlHalt)) || s.qState cq != QS.active || (cq != 1 && s.inFlr fn) then s
  else
    let s := (s.cqPut cq e).tally 16 0x85
    let m := s.rd (F.qctx_IRQ_MODE cq)
    if cq ≠ 1 ∧ (m = 1 ∨ (m = 2 ∧ sol = true)) then s.msix fn (s.rd (F.qctx_VECTOR cq)) else s

/-- The completion of a segment (03 R90): its closing entry, the entries covered, and how it ended. RESULT, BYTES and PEER are those
of the closing entry: DESIGN CHOICE, R90 does not say whose they are where it covers several (notes/assumptions/72.md). -/
def workCompletion (q n : Nat) (t : Taken) (r : Result) (sol : Bool) : Quad :=
  ⟨t.entry.w1,
   BitVec.ofNat 64 (r.status % 256 * 2 ^ 56 + (if r.status = ST.malformed then r.reason % 256 else 0) * 2 ^ 48
     + n % 128 * 2 ^ 41 + q % 1048576 * 2 ^ 21 + t.idx % 2097152),
   r.result,
   BitVec.ofNat 64 ((1 - t.entry.get W.batchEnd) * 2 ^ 62 + sol.toNat * 2 ^ 61 + r.peer % 1048576 * 2 ^ 32
     + r.bytes % 2 ^ 32)⟩

/-- A ring that takes no more of its own accord closes its open segment (notes/assumptions/16.md). -/
def State.ringEnds (s : State) (q : Nat) : Bool := s.qState q == QS.draining || s.qState q == QS.error

/-- The oldest closed segment whose entries have all completed is written (03 R91, R92). -/
def State.writeCompletion (s : State) (q : Nat) : State :=
  let live := (s.que q).live
  let (seg, closed) := segment 64 live
  match seg.getLast? with
  | none => s
  | some t =>
    match t.res with
    | none => s
    | some r =>
      if (closed || s.ringEnds q) && seg.all (fun x => x.res.isSome) then
        let sol := seg.any (fun x => x.entry.get W.solicit == 1) || r.status != ST.ok
        let s := s.setQue q fun v => { v with taken := v.taken.filter fun x => !seg.any fun y => y.id == x.id }
        (s.complete (s.rd (F.qctx_CQ q)) seg.length (workCompletion q seg.length t r sol) sol).openSync q
      else s

/-- A taken entry ends; the result of one taken before a Function Level Reset is discarded (03 R75). Its
unsent packets go. -/
def State.finishEntry (s : State) (q id : Nat) (r : Result) : State :=
  let s := s.setQue q fun v =>
    { v with
      taken := (v.taken.map fun t => if t.id = id ∧ t.res.isNone then { t with res := some r } else t).filter
        fun t => !(t.stale && t.res.isSome)
      next := v.next.filter (·.id ≠ id) }
  s.openSync q

/-- A taken entry of a queue. -/
def State.taken (s : State) (q id : Nat) : Option Taken := (s.que q).taken.find? (·.id == id)

/-- A taken entry that has not ended and whose operation has not begun. -/
def State.fresh (s : State) (q id : Nat) : Option Taken :=
  match s.taken q id with
  | some t => if t.started || t.res.isSome then none else some t
  | none => none

/-- The operation of a taken entry has begun. -/
def State.begin (s : State) (q id : Nat) : State :=
  s.setQue q fun v => { v with taken := v.taken.map fun t => if t.id = id then { t with started := true } else t }

/-- Every entry taken before this one has ended (03 R85, R223). -/
def State.earlierDone (s : State) (q id : Nat) : Bool :=
  ((s.que q).taken.takeWhile (·.id ≠ id)).all fun t => t.res.isSome

/-- Work is taken from the ring now (03 R96, 10 R351, 16 R520): the ring and its completion ring are
ACTIVE. -/
def State.serves (s : State) (q : Nat) : Bool :=
  s.qState q == QS.active && !s.halted && (decide (q < 2) || !s.draining)

/-- The bound completion ring is ACTIVE (03 R96). -/
def State.cqActive (s : State) (q : Nat) : Bool := s.qState (s.rd (F.qctx_CQ q)) == QS.active

/-- The bound completion ring has a free slot. -/
def State.cqRoom (s : State) (q : Nat) : Bool := decide (0 < s.qFree (s.rd (F.qctx_CQ q)))

/-- One slot is reserved on a completion ring (03 R96). -/
def State.reserve (s : State) (cq : Nat) : State := s.wr (F.qctx_RSV cq) (s.rd (F.qctx_RSV cq) + 1)

/-- A work ring that cannot reserve becomes STALLED and closes its open segment at the last taken entry (03
R97). -/
def State.stallRing (s : State) (q : Nat) : State :=
  let s := (s.wr (F.qctx_STATE q) QS.stalled).closeOpen q
  (s.postEvent (s.rd (F.qctx_EQ q)) 1 q (BitVec.ofNat 64 (s.rd (F.qctx_CQ q)))).openSync q

/-- The consumer index of a ring advances by one entry; HEADSINCE follows (04 R129). -/
def State.advanceCi (s : State) (q : Nat) : State :=
  (s.wr (F.qctx_CI q) ((s.rd (F.qctx_CI q) + 1) % ringMod (s.qLog q))).wr (F.qctx_HEADSINCE q) s.tim

/-- An entry joins the taken entries of a work ring; its identity is the state's next one. The 64th of the open segment
closes it (03 R91). -/
def State.pushTaken (s : State) (q : Nat) (t : Taken) : State :=
  let n := newestSegment (s.que q).live
  let t := { t with id := s.nextId, close := t.close || (!n.2 && n.1 == 63) }
  ((s.setQue q fun v => { v with taken := v.taken ++ [t] }).takeId).openSync q

/-- The entries of the firmware control ring whose datagram or management packet is in the device: the halt of R107 loses the packet,
and the entry ends as if it had left (notes/assumptions/72.md). -/
def State.leaving (s : State) : List Nat :=
  ((s.route.held ++ s.route.flagged).filterMap (·.owner) ++ s.route.landing.filterMap (·.item.owner)
    ++ s.ports.flatMap fun p => p.2.txq.filterMap (·.owner)).filterMap fun o => if o.1 = 0 then some o.2 else none

/-- A malformed entry was taken: it completes MALFORMED, or on the firmware control ring raises
FWCTL_MALFORMED and is not completed; the segment of the entries taken before it closes there (03 R91, R106, R107). -/
def State.takeMalformed (s : State) (q : Nat) (t : Taken) (why : Nat) : State :=
  if q = 0 then
    s.leaving.foldl (fun u id => u.finishEntry 0 id { status := ST.ok })
      (((s.closeOpen q).pushTaken q { t with started := true }).raise Src.FWCTL_MALFORMED)
  else
    let s := (s.count (F.qctx_MALCOUNT q)).wr (F.qctx_LASTREASON q) why
    s.pushTaken q { t with started := true, res := some { status := ST.malformed, reason := why } }

/-! ## Queue states -/

/-- A poisoned or failed completion of a read of host memory (16 R511): the access fails. -/
def State.pcieBad (s : State) (func iova : Nat) : State :=
  s.raise (Src.HPT_PCIE_UNCORR (func / 256)) { addr := iova, atype := 8 }

/-- A queue enters ERROR (03 R103): a RING_FAULT event with `arg` goes to its event ring. -/
def State.queueError (s : State) (q : Nat) (arg : Word) : State :=
  (s.wr (F.qctx_STATE q) QS.error).postEvent (s.rd (F.qctx_EQ q)) 3 q arg

/-- The draining of a queue ends: DISABLED and one QUEUE_DISABLED event (03 R74). -/
def State.queueDisabled (s : State) (q : Nat) : State :=
  (s.wr (F.qctx_STATE q) QS.disabled).postEvent (s.rd (F.qctx_EQ q)) 5 q 0

/-! ## Doorbells (03 R79, R80) -/

/-- Work rings that were stalled for a completion ring return to ACTIVE when it has a free slot (03 R97). -/
def State.unstall (s : State) (cq : Nat) : State :=
  if s.qFree cq = 0 then s
  else
    s.queues.foldl
      (fun t c => if t.qState c.1 = QS.stalled ∧ t.rd (F.qctx_CQ c.1) = cq then t.wr (F.qctx_STATE c.1) QS.active else t) s

/-- A doorbell of the owner is applied or discarded (03 R80). The flag says whether it was accepted. -/
def State.bell (s : State) (q index : Nat) : State × Bool :=
  let k := s.qLog q
  let i := index % ringMod k
  let pi := s.rd (F.qctx_PI q)
  let ci := s.rd (F.qctx_CI q)
  let old := ringDepth k pi ci
  if s.qState q = QS.draining ∨ s.qState q = QS.error then (s.count (F.qctx_DBDROP q), false)
  else if s.rd (F.qctx_TYPE q) < 2 then
    let new := ringDepth k i ci
    if old ≤ new ∧ new ≤ 2 ^ k then
      let s := if old = 0 ∧ 0 < new then s.wr (F.qctx_HEADSINCE q) s.tim else s
      (((s.wr (F.qctx_PI q) i).tally 16 0x83).bellEvent q, true)
    else (s.count (F.qctx_DBDROP q), false)
  else
    let new := ringDepth k pi i
    if new ≤ old then
      let s := if new < old then s.wr (F.qctx_HEADSINCE q) s.tim else s
      let s := (s.wr (F.qctx_CI q) i).tally 16 0x83
      ((if s.rd (F.qctx_TYPE q) = 3 then s.postLost q else s.unstall q), true)
    else (s.count (F.qctx_DBDROP q), false)

/-- Function `func` owns queue `q` (03 R69, R70). -/
def State.owns (s : State) (func q : Nat) : Bool :=
  decide (2 ≤ q) && decide (s.qState q ≠ QS.disabled) && s.rd (F.qctx_FUNC q) == func

/-- The fault source of host port `p` counts and raises for the master that rang (16 R515). -/
def State.dbRefused (s : State) (p master : Nat) : State :=
  (s.count (F.hptDbRefused_COUNT p)).raise (Src.HPT_DB_REFUSED p) { master := master }

/-- One doorbell of a host function (02 R34, 03 R80). -/
def State.doorbell (s : State) (func : Nat) (w : Word) : State :=
  let q := dbQueue w
  if s.owns func q then (s.bell q (dbIndex w)).1 else s.dbRefused (func / 256) func

/-! ## Receive completions (08 R275) -/

/-- The RECV completion of a bound receive; its slot was reserved at binding. That of one bound before a Function
Level Reset is discarded (03 R75). -/
def State.recvComplete (s : State) (b : Bound) (status bytes : Nat) : State :=
  if b.stale then s else
  let q := b.post.rq
  let sol := b.post.entry.get W.solicit == 1 || status != ST.ok
  let e : Quad :=
    ⟨b.post.entry.w1,
     BitVec.ofNat 64 (status % 256 * 2 ^ 56 + 2 ^ 41 + q % 1048576 * 2 ^ 21 + b.post.ridx % 2097152),
     b.tag,
     BitVec.ofNat 64 (2 ^ 62 + sol.toNat * 2 ^ 61 + b.src % 1048576 * 2 ^ 32 + bytes % 2 ^ 32)⟩
  let s := if status = ST.truncated then s.count (F.mtc_TRUNC b.post.mctx) else s
  s.complete (s.rd (F.qctx_CQ q)) 1 e sol

end Sys2Proof.Machine
end

