-- ==== Sys2Proof/Machine/RouteOps.lean ====
section
/-! DEFINITION. Operations of routing (10): candidates and costs (R328 to R331), the buffers a packet is held
in, credit checks (11 R375, R376), and winning an output (R340 to R342). -/

namespace Sys2Proof.Machine

def State.port (s : State) (n : Nat) : Port := s.ports.at n {}
def State.setPort (s : State) (n : Nat) (f : Port → Port) : State := { s with ports := s.ports.upd n {} f }

/-- CLK_XBAR cycles in nanoseconds, rounded up (19 R590: 1.5 GHz). -/
def xbarNs (k : Nat) : Nat := (2 * k + 2) / 3

/-! ## This device -/

/-- Group and member of this device (10 R319). -/
def State.myGroup (s : State) : Nat := s.rd F.rteCfg_DEVNUM / 64
def State.myMember (s : State) : Nat := s.rd F.rteCfg_DEVNUM % 64

/-- Group and member that an endpoint names (10 R329). -/
def epGroup (ep : Nat) : Nat := ep / 256 % 4096
def epMember (ep : Nat) : Nat := ep / 4 % 64

/-- The endpoint lies at this device. -/
def State.here (s : State) (ep : Nat) : Bool := epGroup ep == s.myGroup && epMember ep == s.myMember

/-- The endpoint of a host function's port at this device: the device number and the port (00 R3). -/
def State.endpoint (s : State) (port : Nat) : Nat := s.rd F.rteCfg_DEVNUM * 4 + port % 4

/-- Port roles (10 R321). -/
abbrev PR.unused : Nat := 0
abbrev PR.localPort : Nat := 1
abbrev PR.globalPort : Nat := 2
abbrev PR.service : Nat := 3

/-- The link of a port is up. -/
def State.portUp (s : State) (n : Nat) : Bool := s.on (F.rtePort_UP n)

/-- A live candidate of a role: its link is up (10 R328) and it is not quiesced (12 R427). -/
def State.live (s : State) (n role : Nat) : Bool :=
  s.rd (F.rtePort_ROLE n) == role && s.portUp n && !s.on (F.prtCfg_QUIESCE n)

/-- A ferry port that can carry packets, quiesced or not (10 R342, 12 R427). -/
def State.ferryUp (s : State) (n : Nat) : Bool :=
  (s.rd (F.rtePort_ROLE n) == PR.localPort || s.rd (F.rtePort_ROLE n) == PR.globalPort) && s.portUp n

/-! ## Occupancy and tide (10 R334) -/

/-- A VC is adaptive for a class (10 R338). -/
def adaptiveOf (cls vc : Nat) : Bool := decide (4 * cls ≤ vc ∧ vc < 4 * cls + 3)

/-- The ferry VC of a class. -/
def ferryVc (cls : Nat) : Nat := 4 * cls + 3

/-- Bytes queued for a port in some VCs: in its egress stage, in the landing buffers before it, and in the packets, but for
`but`, that wait for it (notes/assumptions/54.md). -/
def State.queued (s : State) (n : Nat) (vcs : Nat → Bool) (but : Option Nat := none) : Nat :=
  let add (k : Nat) (i : TxItem) : Nat := if vcs i.vc then k + i.pkt.cost else k
  let k := (s.port n).txq.foldl add 0
  let k := s.route.landing.foldl (fun k x => if x.port = n then add k x.item else k) k
  s.route.held.foldl
    (fun k h => if some h.id ≠ but ∧ h.wants.any (fun w => w.port == n && vcs w.vc) = true then k + h.pkt.cost else k) k

/-- The occupancy level of a port for a class. -/
def State.occLevel (s : State) (n cls : Nat) : Nat := min 15 (s.queued n (adaptiveOf cls) / 8192)

/-- The occupancy level of a port where no packet names the class: the higher of the two (notes/assumptions/54.md). -/
def State.portLevel (s : State) (n : Nat) : Nat := max (s.occLevel n 0) (s.occLevel n 1)

/-- The occupancy of a port is summed over time up to now (10 R336). -/
def State.occNote (s : State) (n : Nat) : State :=
  let l := s.portLevel n
  if l = (s.port n).occLvl then s
  else s.setPort n fun p => { p with occ := p.occ + p.occLvl * (s.now - p.occAt), occAt := s.now, occLvl := l }

/-- The occupancy of every port that packets wait for. -/
def State.occSync (s : State) : State :=
  (s.ports.map (·.1) ++ s.route.held.flatMap fun h => h.wants.map (·.port)).foldl State.occNote s

/-- The tide level of an ordinal as reported on a port: 15 before any report and when the report is stale. -/
def State.tideLevel (s : State) (n o : Nat) : Nat :=
  if s.rd (F.rtePort_ROLE n) = PR.localPort then
    match (s.port n).tide with
    | some (l, t) => if t + max 1 (s.rd F.rteCfg_TIDE_STALE) * 100 < s.now then 15 else l.getD o 15
    | none => 15
  else 15

/-! ## Candidates (10 R329, R331) -/

/-- A candidate output: its port, twice its cost, and the intermediate group it decides on. -/
structure Cand where
  port : Nat
  cost2 : Nat
  via : Option Nat := none
  deriving DecidableEq, Repr

/-- The live local ports of a member-table entry, in table order. -/
def State.memPorts (s : State) (b m : Nat) : List Nat :=
  let l := [s.rd (F.rteMem_LPORT0 b m), s.rd (F.rteMem_LPORT1 b m)].take (s.rd (F.rteMem_NLOC b m))
  l.filter fun n => s.live n PR.localPort

/-- The member-table entry of a member is valid and not fenced. -/
def State.memOk (s : State) (b m : Nat) : Bool := s.on (F.rteMem_VALID b m) && !s.on (F.rteMem_FENCE b m)

/-- The group-table entry of a group is valid and not fenced. -/
def State.grpOk (s : State) (b g : Nat) : Bool := s.on (F.rteGrp_VALID b g) && !s.on (F.rteGrp_FENCE b g)

/-- The minimal candidates toward a group other than this one, with multiplier `h` (10 R329). -/
def State.groupCands (s : State) (b g h cls : Nat) : List Cand :=
  let direct := ([s.rd (F.rteGrp_GPORT0 b g), s.rd (F.rteGrp_GPORT1 b g)].take (s.rd (F.rteGrp_NDIR b g))).filter
    fun n => s.live n PR.globalPort
  let vias := (List.range (min 4 (s.rd (F.rteGrp_NVIA b g)))).filterMap fun k =>
    let v := s.rd (F.rteGrp_VIA b g k)
    if s.memOk b (v / 64) then
      match s.memPorts b (v / 64) with
      | n :: _ => some ({ port := n, cost2 := 2 * ((s.occLevel n cls + s.tideLevel n (v % 64)) * (h + 1)) } : Cand)
      | [] => none
    else none
  (direct.map fun n => ({ port := n, cost2 := 2 * (s.occLevel n cls * h) } : Cand)) ++ vias

/-- The minimal candidates toward a member of this group. -/
def State.memberCands (s : State) (b m cls : Nat) : List Cand :=
  (s.memPorts b m).map fun n => { port := n, cost2 := 2 * s.occLevel n cls }

/-- The least twice-cost of some candidates. -/
def leastCost : List Cand → Option Nat
  | [] => none
  | c :: t => match leastCost t with
    | some k => some (min c.cost2 k)
    | none => some c.cost2

/-- The first candidate of least cost. -/
def leastCand (l : List Cand) : Option Cand :=
  match leastCost l with
  | some k => l.find? fun c => c.cost2 == k
  | none => none

/-- A non-minimal candidate through group `i` (10 R331). -/
def State.nonminCand (s : State) (b i dg cls : Nat) (minFirst : Option Nat) : List Cand :=
  if i = s.myGroup ∨ i = dg ∨ !s.grpOk b i then []
  else
    match leastCand (s.groupCands b i 1 cls) with
    | some c =>
      [{ port := c.port, via := some i
         cost2 := (c.cost2 / 2) * 5 + 2 * s.rd (F.rteLoop_BIAS (minFirst.getD c.port)) }]
    | none => []

/-- What R329 answers for a packet at this device. -/
inductive Verdict where
  | deliver
  | fenced
  | ferry (port : Nat)
  | wait (ferry : Nat)
  | out (c : Cand) (ferry : Nat)
  deriving DecidableEq, Repr

/-- The packet as R329 first rewrites it: the second phase of a non-minimal route starts in its intermediate
group. -/
def State.phase2 (s : State) (p : Packet) : Packet :=
  if p.get H.nonmin = 1 ∧ p.get H.igroup = s.myGroup then (p.set H.nonmin 0).set H.igroup 0 else p

/-- R329 over a packet after `phase2`. An entry that cannot be read acts as a fenced one (16 R511). The source draws two values of the routing LFSR at each evaluation. -/
def State.routeOf (s : State) (p : Packet) : State × Verdict :=
  let b := s.rd F.rteCfg_BANK
  let dst := p.get H.dst
  let dg := epGroup dst
  let cls := p.get H.mclass
  if s.here dst then (s, .deliver)
  else
    let tg := if p.get H.nonmin = 1 then p.get H.igroup else dg
    let inGroup := tg = s.myGroup
    let ok := if inGroup then s.memOk b (epMember dst) else s.grpOk b tg
    let fp := if inGroup then s.rd (F.rteMem_FPORT b (epMember dst)) else s.rd (F.rteGrp_FPORT b tg)
    let ent := if inGroup then epMember dst else 65536 + tg
    if s.latent Src.RTE_UNCORR ent then (s.latentRaise Src.RTE_UNCORR ent, .fenced)
    else if !ok then (s, .fenced)
    else if p.get H.ferry = 1 then (s, .ferry fp)
    else
      let c := if inGroup then s.memberCands b (epMember dst) cls
        else s.groupCands b tg (if tg = dg then 2 else 1) cls
      let (s, c) :=
        if p.get H.hops = 0 ∧ tg = dg ∧ dg ≠ s.myGroup then
          let l1 := Config.routeLfsr s.route.lfsr
          let l2 := Config.routeLfsr l1
          let g := s.rd F.rteCfg_GMAX + 1
          let first := (leastCand c).map (·.port)
          let a := BitVec.ofNat 16 (p.get H.ahash)
          ({ s with route := { s.route with lfsr := l2 } },
           c ++ s.nonminCand b ((a ^^^ l1).toNat % g) dg cls first ++ s.nonminCand b ((a ^^^ l2).toNat % g) dg cls first)
        else (s, c)
      match leastCost c with
      | none => (s, .wait fp)
      | some k =>
        let w := c.filter fun x => x.cost2 == k
        match w[(p.get H.ahash + p.get H.hops) % w.length]? with
        | some x => (s, .out x fp)
        | none => (s, .wait fp)

/-! ## Credit (11 R374 to R376) -/

/-- Units left on a counter of a port: (LIMIT − USED) mod 2^24. -/
def State.credit (s : State) (n j : Nat) : Nat :=
  serialSub 24 (s.rd (F.lnkCredit_LIMIT n j)) (s.rd (F.lnkCredit_USED n j))

/-- A packet of `u` units is charged to a counter. -/
def State.charge (s : State) (n j u : Nat) : State :=
  s.wr (F.lnkCredit_USED n j) (s.rd (F.lnkCredit_USED n j) + u)

/-- How a packet of `u` units may be sent on a VC: on the VC's credit, on the pool for an adaptive VC, or
not (11 R375). -/
def State.mayCharge (s : State) (n vc u : Nat) : Option Bool :=
  if u ≤ s.credit n vc then some false
  else if vc ≠ 3 ∧ vc ≠ 7 ∧ u ≤ s.credit n 8 then some true
  else none

/-- The adaptive VC of a class with the most credit on a port, the lowest of equals (10 R340). -/
def State.bestVc (s : State) (n cls : Nat) : Nat :=
  let v := 4 * cls
  let c0 := s.credit n v
  let c1 := s.credit n (v + 1)
  let c2 := s.credit n (v + 2)
  if c1 ≤ c0 ∧ c2 ≤ c0 then v else if c2 ≤ c1 then v + 1 else v + 2

/-- The input buffer space of a held packet is granted again (11 R376); a port that is not UP starts from the values of R374 when
its link comes up. -/
def State.giveBack (s : State) (h : Held) : State :=
  match h.inPort with
  | none => s
  | some n =>
    let j := if h.pool then 8 else h.vcIn
    if !s.portUp n then s else
    s.setPort n fun p => { p with grant := p.grant.upd j 0 fun g => (g + h.pkt.units) % 16777216, creditDirty := true }

/-! ## Room at the next buffering point (01 R13, 10 R339) -/

/-- The island whose switch a packet waits at: that of its port, or the one it was formed at (01 R12). -/
def Held.island (h : Held) : Option Nat := ((h.inPort.orElse fun _ => h.replayOf).map (· / 8)).orElse fun _ => h.isle

/-- The strait that a packet crosses to a port: the island it comes from. -/
def Held.crosses (h : Held) (n : Nat) : Option Nat := h.island.filter (· ≠ n / 8)

/-- The egress stage of a port has room in a VC: one packet, and those in landing buffers go before. -/
def State.stageFree (s : State) (n vc : Nat) : Bool :=
  !(s.port n).txq.any (·.vc == vc) && !s.route.landing.any fun x => x.port == n && x.item.vc == vc

/-- The landing buffer of the strait from island `i` to that of a port has room in a VC. -/
def State.landFree (s : State) (i n vc : Nat) : Bool :=
  !s.route.landing.any fun x => x.src == i && x.port / 8 == n / 8 && x.item.vc == vc

/-- The buffering point that follows the packet's own has room for it: the landing buffer of the strait it crosses, or the
egress stage. -/
def State.roomAt (s : State) (h : Held) (n vc : Nat) : Bool :=
  match h.crosses n with
  | some i => s.landFree i n vc
  | none => s.stageFree n vc

/-- How a held packet of `u` units may win VC `vc` of port `n` (10 R340): room in this device, and credit of the next. -/
def State.mayWin (s : State) (h : Held) (n vc u : Nat) : Option Bool :=
  if s.roomAt h n vc then s.mayCharge n vc u else none

/-- A packet in a landing buffer enters the egress stage when that has room; one that fails the strait's parity, or whose words
the buffer cannot correct, is discarded (16 R511, R530). -/
def State.landOne (s : State) (x : Landing) : State :=
  if x.item.parity || x.ecc == 2 then
    ({ s with route := { s.route with landing := s.route.landing.erase x } } : State).raise (Src.XBAR_PARITY x.src)
      { addr := x.port, atype := 14 }
  else if (s.port x.port).txq.any (·.vc == x.item.vc) then s
  else
    ({ s with route := { s.route with landing := s.route.landing.erase x } } : State).setPort x.port fun p =>
      { p with txq := p.txq ++ [x.item] }

/-- Every landed packet that can go on does, oldest first. -/
def State.landSync (s : State) : State := s.route.landing.foldl State.landOne s

/-! ## Entering and leaving the device's buffers -/

/-- A packet other than MGMT enters the device (10 R352). -/
def State.activity (s : State) (p : Packet) : State :=
  if p.get H.ptype = PT.mgmt then s else s.wr F.rteDrain_ACTIVITY (s.rd F.rteDrain_ACTIVITY + 1)

/-- A packet waits for an output; its identity is the state's next one. -/
def State.hold (s : State) (h : Held) : State :=
  ({ s with route := { s.route with held := s.route.held ++ [{ h with id := s.nextId, since := s.now }] } }).takeId

/-- The island whose switch a packet formed here enters (01 R12): that of the engine that stalls for it; of the host port of
its entry's function; of the mixer that serves its tree (09 R302); else of the host port that SRC names
(notes/assumptions/54.md). -/
def State.bornAt (s : State) (p : Packet) (owner : Option (Nat × Nat)) (sender : Option Nat) : Nat :=
  let eng := sender.bind fun id => s.ctxs.find? fun x => match x.2.stall with | .room _ k => k == id | _ => false
  match eng, owner with
  | some c, _ => ctxIsl c.1
  | none, some o => 4 * (s.qFunc o.1 / 256)
  | none, none =>
    if p.get H.ptype = PT.mixUp ∨ p.get H.ptype = PT.mixDown ∨ p.get H.ptype = PT.mcast then p.get H.tree % 16
    else 4 * (p.get H.src % 4)

/-- At a halt a packet formed is lost in the device (16 R520); one of an entry of the firmware control ring that was taken before a
malformed one ends its entry all the same (03 R107): DESIGN CHOICE (notes/assumptions/72.md). -/
def State.haltedOwner (s : State) (o : Option (Nat × Nat)) : State :=
  match o with
  | some (0, id) => if s.fwctlHalt then s.finishEntry 0 id { status := ST.ok } else s
  | _ => s

/-- The device injects a packet (10 R352): metered for its tenant (04 R133), then waiting for an output. -/
def State.inject (s : State) (p : Packet) (owner : Option (Nat × Nat) := none) (out : Option Nat := none)
    (sender : Option Nat := none) : State :=
  if s.halted then s.haltedOwner owner
  else
    let s := s.activity p
    let s := s.setMeter (p.get H.tenant) fun m => { m with bytesTx := m.bytesTx + p.get H.len, pktTx := m.pktTx + 1 }
    s.hold { id := 0, pkt := p, owner := owner, twin := out, sender := sender, isle := some (s.bornAt p owner sender) }

/-- The request-stream packets between the endpoints of a packet that neither CUM nor a SACK bit covers (10 R344). -/
def State.pairOpen (s : State) (p : Packet) : List (Nat × Nat) :=
  s.conns.flatMap fun (c : Nat × Conn) =>
    if s.rd (F.conn_LOCAL c.1) = p.get H.src ∧ s.rd (F.conn_PEER c.1) = p.get H.dst then
      (c.2.tx0.copies.filter fun x => !x.sacked).map fun x => (c.1, x.seq)
    else []

/-- A drain holds back the packet: request class and no management packet (10 R351). -/
def State.drainHolds (s : State) (p : Packet) : Bool :=
  s.draining && p.get H.mclass == 0 && p.get H.ptype != PT.mgmt

/-- A new packet leaves its connection, queue, engine or tree: injected, held behind `open'` when FLAG asks for it (10 R344),
or held until RESUME during a drain (R351). -/
def State.launch (s : State) (p : Packet) (owner : Option (Nat × Nat)) (open' : List (Nat × Nat))
    (sender : Option Nat := none) : State :=
  let late := if p.get H.flag = 1 then open' else []
  if late ≠ [] ∨ s.drainHolds p = true then
    let h : Held := { id := s.nextId, pkt := p, owner := owner, behind := late, since := s.now, sender := sender }
    ({ s with route := { s.route with flagged := s.route.flagged ++ [h] } }).takeId
  else s.inject p owner none sender

/-- Retransmissions are injected only while no drain is in progress (10 R351); other classes always. None is at a halt, but for what
the entries taken from the firmware control ring before a malformed one send (03 R107). -/
def State.mayInjectRequest (s : State) : Bool := !s.draining && (!s.halted || s.fwctlHalt)

/-- A packet accepted at this device as destination is metered (04 R133). -/
def State.meterRx (s : State) (p : Packet) : State :=
  s.setMeter (p.get H.tenant) fun m => { m with bytesRx := m.bytesRx + p.get H.len, pktRx := m.pktRx + 1 }

/-- The 16 B units of a data frame (11 R361). -/
def frameUnits (p : Packet) : Nat := (p.cost + 15) / 16 + 1

/-- The 16 B units in a port's replay buffer: its frames, and those of a failed link that still wait to be handled (11 R369,
R385). -/
def State.replayUnits (s : State) (n : Nat) : Nat :=
  let k := (s.port n).replay.foldl (fun k f => k + frameUnits f.pkt) 0
  (s.route.held.filter fun h => h.replayOf == some n).foldl (fun k h => k + frameUnits h.pkt) k

/-- RBUSE: the replay buffer use in 64 B units (11 R393). -/
def State.rbSync (s : State) (n : Nat) : State := s.wr (F.lnkStat_RBUSE n) ((s.replayUnits n + 3) / 4)

/-- In FAILOVER the rewind mark is the oldest frame of the failed port's replay buffer that is left (11 R369); FAILOVER ends once none
is left (11 R385). -/
def State.failoverEnd (s : State) (n : Nat) : State :=
  if s.rd (F.lnkStat_LSTATE n) = 4 then
    match s.route.held.find? fun h => h.replayOf == some n with
    | some h => s.wr (F.lnkStat_RMARK n) h.fseq
    | none =>
      (s.wr (F.lnkStat_RMARK n) (s.rd (F.lnkStat_NEXT n))).setLstate n
        (if 1 ≤ s.rd (F.prtStat_PSTATE n) ∧ s.rd (F.prtStat_PSTATE n) ≤ 3 then 1 else 0)
  else s

/-- A held packet leaves the buffers, its input space granted again. -/
def State.unhold (s : State) (h : Held) : State :=
  let s := { s with route := { s.route with held := s.route.held.filter (·.id ≠ h.id) } }
  let s := s.giveBack h
  match h.replayOf with
  | some n => (s.rbSync n).failoverEnd n
  | none => s

/-- The entry of a datagram or management packet ends when its packet is no longer held here (R345). -/
def State.ownerDone (s : State) (o : Option (Nat × Nat)) : State :=
  match o with
  | some (q, id) => s.finishEntry q id { status := ST.ok }
  | none => s

/-- A held packet is discarded and counted. -/
def State.dropHeld (s : State) (h : Held) (f : Fld) : State := ((s.unhold h).count f).ownerDone h.owner

/-- A packet for this device waits for its unit (10 R329 deliver). -/
def State.arrive (s : State) (h : Held) : State :=
  let s := { s with route := { s.route with held := s.route.held.filter (·.id ≠ h.id) } }
  ({ s with route := { s.route with arrived := s.route.arrived ++ [h] } } : State).ownerDone h.owner

/-- The packet of these contents that has been delivered to its unit: the oldest one listed. -/
def State.arrivedOf (s : State) (p : Packet) : Option Held := s.route.arrived.find? fun h => h.pkt == p

/-- A delivered packet of these contents is taken by its unit. -/
def State.unarrive (s : State) (p : Packet) : State :=
  match s.arrivedOf p with
  | some h => { s with route := { s.route with arrived := s.route.arrived.erase h, parked := s.route.parked ++ [h] } }
  | none => s

/-- The event of a packet still waits for its engine's queue (06 R196). -/
def State.eventWaits (s : State) (h : Held) : Bool := s.sandbox.waiting.any fun e => e.pkt.any fun p => p.hdr == h.pkt.hdr

/-- A packet that its unit has taken leaves its buffer once its event has entered a queue (06 R196). -/
def State.parkSync (s : State) : State :=
  let out := s.route.parked.filter fun h => !s.eventWaits h
  out.foldl (fun t h => t.giveBack h) { s with route := { s.route with parked := s.route.parked.filter s.eventWaits } }

/-! ## Winning an output (10 R340 to R342) -/

/-- The claimant position of a packet at an output or a strait (01 R27): its port, or one for each island where packets are
formed (notes/assumptions/54.md). -/
def Held.position (h : Held) : Nat :=
  match h.inPort.orElse fun _ => h.replayOf with
  | some n => n
  | none => 128 + h.isle.getD 0

/-- Claimant positions of an output or a strait. -/
abbrev outPositions : Nat := 144

/-- When a packet first claimed VC `vc` of port `n`: another claim is a new one (01 R26). -/
def Held.claimedAt (h : Held) (n vc now : Nat) : Nat :=
  match h.wants.find? fun w => w.port == n && w.vc == vc with
  | some w => w.since
  | none => now

/-- When a packet first claimed VC `vc` of the landing buffer of the strait to the island of port `n`: the claim stands while the
packet claims the VC of any port of that island. -/
def Held.landingAt (h : Held) (n vc now : Nat) : Nat :=
  (h.wants.filter fun w => w.port / 8 == n / 8 && w.vc == vc).foldl (fun t w => min t w.land) now

/-- The packet claims VC `vc` of port `n` and may send there: credit for all of it, and room in the strait it crosses. -/
def State.claims (s : State) (x : Held) (n vc : Nat) : Bool :=
  x.wants.any (fun w => w.port == n && w.vc == vc) && (s.mayCharge n vc x.pkt.units).isSome
    && (match x.crosses n with | some i => s.landFree i n vc | none => true)

/-- The other packets that claim VC `vc` of the landing buffer that a packet would enter. -/
def State.landRivals (s : State) (h : Held) (n vc : Nat) : List Held :=
  match h.crosses n with
  | none => []
  | some i => s.route.held.filter fun x =>
      x.id != h.id && x.wants.any fun w => w.port / 8 == n / 8 && w.vc == vc && x.crosses w.port == some i && s.claims x w.port vc

/-- The rotating pointers (01 R27) of an output VC and of a VC of a strait's landing buffer. -/
def outKey (n vc : Nat) : Nat := 8 * n + vc
def landKey (i n vc : Nat) : Nat := 1024 + 8 * (16 * i + n / 8) + vc

/-- `x` goes before `h`: by the ages of their claims, then from the pointer on, then by order at one position (01 R25, R27). -/
def outranks (ptr : Nat) (x h : Held) (ax ah : Nat) : Bool :=
  let dist (y : Held) := (y.position + outPositions - ptr) % outPositions
  decide (ah < ax) || (ax == ah && (decide (dist x < dist h) || (dist x == dist h && decide (x.id < h.id))))

/-- The ages of a packet's claims on an output VC and on the landing buffer before it. -/
def State.outAge (s : State) (h : Held) (n vc : Nat) : Nat := claimAge s.now (h.claimedAt n vc s.now)
def State.landAge (s : State) (h : Held) (n vc : Nat) : Nat := claimAge s.now (h.landingAt n vc s.now)

/-- Another packet's claim on the landing buffer that the packet would enter goes before its own. -/
def State.straitLost (s : State) (h : Held) (n vc : Nat) : Bool :=
  (s.landRivals h n vc).any fun x =>
    outranks (s.route.ptrs.at (landKey (h.island.getD 0) n vc) 0) x h (s.landAge x n vc) (s.landAge h n vc)

/-- The other packets that claim VC `vc` of port `n`: of those that would cross one strait, the one that wins its landing buffer. -/
def State.rivals (s : State) (h : Held) (n vc : Nat) : List Held :=
  s.route.held.filter fun x => x.id != h.id && s.claims x n vc && !s.straitLost x n vc

/-- Another packet's claim goes before the packet's own (10 R340, 01 R25): at the landing buffer of the strait, then at the
output. -/
def State.beaten (s : State) (h : Held) (n vc : Nat) : Bool :=
  s.straitLost h n vc
    || (s.rivals h n vc).any fun x => outranks (s.route.ptrs.at (outKey n vc) 0) x h (s.outAge x n vc) (s.outAge h n vc)

/-- A held packet notes its claims; one that it no longer makes is abandoned (01 R26). -/
def State.wantAt (s : State) (h : Held) (l : List (Nat × Nat)) : State :=
  { s with route := { s.route with held := s.route.held.map fun x =>
      if x.id = h.id then
        { x with wants := l.map fun w =>
            { port := w.1, vc := w.2, since := h.claimedAt w.1 w.2 s.now, land := h.landingAt w.1 w.2 s.now } }
      else x } }

/-- A packet that has won VC `vc` of port `n` moves on: over a strait to its landing buffer, or to the egress stage. HOPS
counts the link (01 R21), the congestion mark follows MARKTH (R335), the port's loop counts the decision (R336), credit is
charged. -/
def State.depart (s : State) (h : Held) (p : Packet) (n vc : Nat) (pool nonmin : Bool) : State :=
  let mark := h.mark || decide (s.rd (F.rteLoop_MARKTH n) * 2048 ≤ s.queued n (· == vc) (some h.id))
  let fresh := mark && !h.mark
  let p' := (p.set H.hops (p.get H.hops + 1)).set H.vc vc
  let i : TxItem := { pkt := p', mark := mark, pool := pool, vc := vc, before := h.pkt.hdr, owner := h.owner, stomp := h.stomp }
  let s := (s.charge n (if pool then 8 else vc) p.units).setPort n fun x =>
    { x with wins := x.wins + 1, marks := x.marks + fresh.toNat, nonmins := x.nonmins + nonmin.toNat }
  match h.crosses n with
  | some k => { s.tally k 0x0D with route := { s.route with landing := s.route.landing ++ [{ src := k, port := n, item := i }] } }
  | none => s.setPort n fun x => { x with txq := x.txq ++ [i] }

/-- A packet wins an output, or is discarded at the hop limit (01 R21). -/
def State.win (s : State) (h : Held) (p : Packet) (n vc : Nat) (pool nonmin : Bool) : State :=
  if p.get H.hops = 7 then (s.unhold h).raise (Src.PRT_HOP_LIMIT n) { addr := n, atype := 6, unit := n }
  else (s.unhold h).depart h p n vc pool nonmin

/-- A pointer moves to the position after the winner, where claims of the greatest age came from several positions (01 R27). -/
def State.ptrPast (s : State) (k : Nat) (h : Held) (tie : Bool) : State :=
  if tie then { s with route := { s.route with ptrs := s.route.ptrs.put k ((h.position + 1) % outPositions) } } else s

/-- The pointers of an output VC and of the strait before it move past their winner (01 R27). -/
def State.tiesPast (s : State) (h : Held) (n vc : Nat) : State :=
  let tieO := (s.rivals h n vc).any fun x => x.position != h.position && s.outAge x n vc == s.outAge h n vc
  let tieL := (s.landRivals h n vc).any fun x => x.position != h.position && s.landAge x n vc == s.landAge h n vc
  (s.ptrPast (outKey n vc) h tieO).ptrPast (landKey (h.island.getD 0) n vc) h tieL

/-- A claim is won: pointers move, and so does the packet (10 R340, 01 R25, R27). -/
def State.claim (s : State) (h : Held) (p : Packet) (n vc : Nat) (pool nonmin : Bool) : State :=
  (s.tiesPast h n vc).win h p n vc pool nonmin

/-- An output that a packet may take: port and VC, the packet as it would leave, and whether its route is non-minimal. -/
structure Bid where
  port : Nat
  vc : Nat
  pkt : Packet
  nonmin : Bool := false
  deriving DecidableEq, Repr

/-- A packet takes the first of its outputs that has room and credit for it and that no other claim goes before; else it waits
with its claims on all of them (10 R340, R341). -/
def State.bid (s : State) (h : Held) (l : List Bid) : State :=
  match l.find? fun b => (s.mayWin h b.port b.vc b.pkt.units).isSome && !s.beaten h b.port b.vc with
  | some b => s.claim h b.pkt b.port b.vc ((s.mayWin h b.port b.vc b.pkt.units).getD false) b.nonmin
  | none => s.wantAt h (l.map fun b => (b.port, b.vc))

/-- The ferry VC of a packet's class on a port, when that is up (R341, R342). -/
def State.ferryBid (s : State) (p : Packet) (n : Nat) : List Bid :=
  if s.ferryUp n then [{ port := n, vc := ferryVc (p.get H.mclass), pkt := p.set H.ferry 1 }] else []

/-- The port that a packet is bound to: that of an MGMT answer, or the twin of the port whose replay buffer it comes from; no
other packet goes onto a SERVICE port (R323). -/
def State.boundPort (s : State) (h : Held) : Option Nat :=
  h.twin.filter fun n => s.portUp n && (h.replayOf.isNone || s.ferryUp n)

/-- An earlier frame of the same failed port's replay buffer is still to be handled (11 R385). -/
def State.behindFrame (s : State) (h : Held) : Bool :=
  h.replayOf.isSome && s.route.held.any fun x => x.replayOf == h.replayOf && decide (x.id < h.id)

/-- The word of an input buffer that a packet stands in is read (16 R511): corrected, or the packet is discarded. -/
def State.bufferRead (s : State) (h : Held) : State :=
  match h.inPort with
  | none => s
  | some n =>
    if h.ecc = 1 then
      ({ s with route := { s.route with held := s.route.held.map fun x => if x.id = h.id then { x with ecc := 0 } else x } } : State).raise
        (Src.PRT_BUF_CORR n) { addr := n, atype := 5, unit := n }
    else if h.ecc = 2 then
      ((s.unhold h).ownerDone h.owner).raise (Src.PRT_BUF_UNCORR n) { addr := n, atype := 5, unit := n }
    else s

/-- A held packet asks for an output once (R330, R340): it is delivered, discarded, wins, or still waits. Frames of a failed
port's replay buffer do so in their order (11 R385); on the twin in the VC they had, on a SERVICE port in the adaptive VC with
most credit. -/
def State.seekOutput (s : State) (h : Held) : State :=
  if s.behindFrame h then s
  else
  match s.boundPort h with
  | some n =>
    s.bid h [{ port := n, vc := if h.replayOf.isSome then h.pkt.get H.vc else s.bestVc n (h.pkt.get H.mclass), pkt := h.pkt }]
  | none =>
    if h.replayOf.isNone && h.twin.any (fun n => s.rd (F.rtePort_ROLE n) == PR.service) then s.dropHeld h F.rteStat_NOROUTE
    else if !s.on F.rteCfg_DNV then s.wantAt h []
    else
      let p := s.phase2 h.pkt
      match s.routeOf p with
      | (s, .deliver) => s.arrive { h with pkt := p }
      | (s, .fenced) => s.dropHeld h F.rteStat_FENCED
      | (s, .ferry fp) => if s.ferryUp fp then s.bid h (s.ferryBid p fp) else s.dropHeld h F.rteStat_FERRY_DOWN
      | (s, .wait fp) =>
        if !h.ferry then s.wantAt h [] else if s.ferryUp fp then s.bid h (s.ferryBid p fp) else s.dropHeld h F.rteStat_NOROUTE
      | (s, .out c fp) =>
        let q := match c.via with | some g => (p.set H.nonmin 1).set H.igroup g | none => p
        s.bid h ({ port := c.port, vc := s.bestVc c.port (p.get H.mclass), pkt := q, nonmin := c.via.isSome }
          :: if h.ferry then s.ferryBid p fp else [])

/-! ## The warden's answers (10 R323, R348) -/

/-- MSTATUS values. -/
abbrev MS.ok : Nat := 0
abbrev MS.refused : Nat := 1
abbrev MS.busy : Nat := 2

/-- The SERVICE port that a command came by, and its answer leaves by (10 R323). -/
def State.mgmtPort (s : State) (r : MgmtReq) : Option Nat :=
  (r.port.map (·.val)).filter fun n => decide (r.via = 8) || s.rd (F.rtePort_ROLE n) == PR.service

/-- An answer can be sent at once: its output has room and credit for it (10 R349). -/
def State.leavesNow (s : State) (out : Option Nat) (p : Packet) : Bool :=
  let h : Held := { id := 0, pkt := p, isle := some (s.bornAt p none none) }
  match out with
  | some n => s.portUp n && (s.mayWin h n (s.bestVc n (p.get H.mclass)) p.units).isSome
  | none =>
    s.on F.rteCfg_DNV &&
      match (s.routeOf p).2 with
      | .deliver => true
      | .fenced => true
      | .out c _ => (s.mayWin h c.port (s.bestVc c.port (p.get H.mclass)) p.units).isSome
      | _ => false

/-- The packet that answers a command. The words that the spec leaves open are free. -/
def State.mgmtPacket (s : State) (r : MgmtReq) (mcmd mstatus : Nat) (data : List Byte) : Packet :=
  let w := Config.freeWord s.free
  let bs := bytesOf 8 ((mcmd + 0x80) % 256 * 2 ^ 56 + mstatus * 2 ^ 48 + r.mtag.toNat * 2 ^ 32 + bits w 63 32)
    ++ bytesOf 8 (Config.freeWord (s.free + 1)).toNat ++ data
  let h := mkHeader PT.mgmt (s.rd F.rteCfg_DEVNUM * 4) (r.src.toNat / 4 * 4) (bits w 11 0)
  let h := ((h.set H.e2e (bits w 12 12)).set H.ahash (Config.adaptiveHash s.free).toNat).set H.len bs.length
  ({ hdr := h, payload := bs, trailer := [] } : Packet).withCrc

/-- The warden answers a command: back out of the SERVICE port it came by, else toward SRC; an answer that cannot
leave at once is not sent (10 R348, R349). -/
def State.mgmtAnswer (s : State) (r : MgmtReq) (mcmd mstatus : Nat) (data : List Byte) : State :=
  let p := s.mgmtPacket r mcmd mstatus data
  let s := s.drawn.drawn
  if s.leavesNow (s.mgmtPort r) p then s.inject p none (s.mgmtPort r) else s

/-- The warden answers the FWCTL commands whose entries a completion covers (10 R348). -/
def State.fwctlAnswer (s : State) (ts : List Taken) : State :=
  ts.foldl
    (fun t x =>
      match t.route.fwctl.find x.idx, x.res with
      | some r, some y =>
        ({ t with route := { t.route with fwctl := t.route.fwctl.del x.idx } } : State).mgmtAnswer r 7 MS.ok [BitVec.ofNat 8 y.status]
      | _, _ => t) s

end Sys2Proof.Machine
end

