-- ==== Sys2Proof/Machine/LinkOps.lean ====
section
/-! DEFINITION. Operations of the link layer (11): frames and their trailers, acknowledgement and replay,
credits, control frames, link down and failover, fabric time; and the words of the lane layer's records (12
R411, R412). -/

namespace Sys2Proof.Machine

/-! ## Lane records (12 R411) -/

/-- The fibre on which the peer's physical lane `l` arrives: the PLANE of its alignment block places it (12 R407). -/
def State.fibreOf (s : State) (n l : Nat) : Option Nat :=
  (List.range 5).find? fun f => ((s.port n).aligns.find f).any fun a => a.plane == l

/-- RXHEALTH of the peer's five lanes as the record gives it: a lane that no fibre has shown is NONE. -/
def State.rxHealth (s : State) (n : Nat) : Nat :=
  (List.range 5).foldl (fun v l => v + ((s.fibreOf n l).map fun f => s.rd (F.lneStat_RXHEALTH n f)).getD 0 * 2 ^ (2 * l)) 0

/-- Words 2 to 5 of a port's own lane record. -/
def State.laneWords (s : State) (n : Nat) : LaneWords :=
  let p := s.port n
  { w2 := BitVec.ofNat 64 (s.rd (F.prtStat_WIDTH n) * 2 ^ 12 + s.rd (F.prtStat_TXMAP n))
    w3 := match p.pend with
      | some c => BitVec.ofNat 64 (2 ^ 63 + c.at' % 256 * 2 ^ 48 + c.width % 8 * 2 ^ 12 + c.map % 4096)
      | none => 0
    w4 := BitVec.ofNat 64 ((if s.rd (F.prtStat_PSTATE n) = 3 then 2 ^ 10 else 0) + s.rxHealth n)
    w5 := BitVec.ofNat 64 (p.req % 16 * 2 ^ 60 + p.rwidth % 8 * 2 ^ 57 + p.rseq % 256 * 2 ^ 48 + p.ackSeq % 256 * 2 ^ 40) }

/-- The lane record that a port sends on a physical lane. -/
def State.laneRecord (s : State) (n plane : Nat) : Octet :=
  let w := s.laneWords n
  let h := 0x4C52 * 2 ^ 48 + n % 128 * 2 ^ 41 + plane % 8 * 2 ^ 38 + (s.port n).fecMode % 2 * 2 ^ 37
    + s.rd F.rteCfg_DNV * 2 ^ 36 + s.rd F.rteCfg_DEVNUM * 2 ^ 18
  let o : Octet := ⟨BitVec.ofNat 64 h, s.get .glbUid, w.w2, w.w3, w.w4, w.w5, 0, 0⟩
  let c := crc32c (o.toByteList.take 56)
  o.setWord 7 (BitVec.ofNat 64 (c.toNat * 2 ^ 32))

/-! ## Trailers and control frames (11 R362, R363, R379) -/

/-- The CRC of a frame: every byte but the last four (R363). -/
def frameCrc (bs : List Byte) : BitVec 32 := crc32c (bs.take (bs.length - 4))

/-- The bytes of a frame with its CRC in the last four. -/
def withFrameCrc (bs : List Byte) : List Byte := bs.take (bs.length - 4) ++ bytesOf 4 (frameCrc bs).toNat

/-- What a received frame's CRC field holds: the CRC, its inverse (stomped), or neither (R364, R367). -/
inductive CrcVerdict where
  | good
  | stomped
  | bad
  deriving DecidableEq, Repr

/-- The verdict on a received frame. -/
def crcVerdict (bs : List Byte) : CrcVerdict :=
  let c := frameCrc bs
  let r := BitVec.ofNat 32 (ofBytes (bs.drop (bs.length - 4)))
  if bs.length < 20 then .bad else if r = c then .good else if r = ~~~c then .stomped else .bad

/-- GRANT of a counter. -/
def Port.granted (p : Port) (j : Nat) : Nat := p.grant.at j 0

/-- The padded bytes of a packet in its frame. -/
def padded (bs : List Byte) : List Byte := bs ++ List.replicate ((16 - bs.length % 16) % 16) 0

/-- A data frame as it leaves now: current FACK, NAK, CIDX and CREDIT (R362, R371); the copy of a bad frame is stomped, its
CRC inverted (R364). -/
def State.dataFrame (s : State) (n : Nat) (f : RFrame) : List Byte :=
  let p := s.port n
  let w := f.fseq % 65536 * 2 ^ 48 + s.rd (F.lnkStat_EXPECT n) * 2 ^ 32 + p.nakDue.toNat * 2 ^ 31
    + f.mark.toNat * 2 ^ 30 + f.pool.toNat * 2 ^ 29 + p.cidx % 16 * 2 ^ 24 + p.granted p.cidx % 16777216
  let bs := withFrameCrc (padded f.pkt.bytes ++ bytesOf 8 w ++ bytesOf 8 0)
  if f.stomp then bs.take (bs.length - 4) ++ bytesOf 4 (~~~frameCrc bs).toNat else bs

/-- The units of a frame await data slots (12 R403). -/
def State.putUnits (s : State) (n : Nat) (bs : List Byte) : State :=
  s.setPort n fun p => { p with units := p.units ++ frameBlocks bs }

/-- A data frame leaves: NAK is carried, CIDX advances (R377), its bytes are counted (17 R546). -/
def State.sendFrame (s : State) (n : Nat) (f : RFrame) : State :=
  let bs := s.dataFrame n f
  let s := ((s.emit (.frame n bs)).putUnits n bs).setPort n fun p => { p with nakDue := false, cidx := (p.cidx + 1) % 9 }
  s.bwSent n bs.length

/-- A control frame's word 0 (R379). -/
def State.controlWord (s : State) (n kind : Nat) : Word :=
  BitVec.ofNat 64 (0x5C * 2 ^ 56 + kind % 16 * 2 ^ 52 + (s.port n).nakDue.toNat * 2 ^ 51
    + s.rd (F.lnkStat_EXPECT n) * 2 ^ 32 + s.rd (F.lnkStat_NEXT n) * 2 ^ 16)

/-- Control frames can leave: not during a retrain, nor while halted (R382, R383). -/
def State.mayControl (s : State) (n : Nat) : Bool := !s.halted && (s.port n).retrain.isNone && (s.port n).aligned

/-- A control frame leaves with body words 1 to 6 and the low half of word 7 zero. -/
def State.sendControl (s : State) (n kind : Nat) (b1 b2 b3 b4 b5 b6 : Word) : State :=
  if !s.mayControl n then s
  else
    let o : Octet := ⟨s.controlWord n kind, b1, b2, b3, b4, b5, b6, 0⟩
    let c := crc32c (o.toByteList.take 60)
    let o := o.setWord 7 (BitVec.ofNat 64 (c.toNat * 2 ^ 32))
    ((s.emit (.control n o)).putUnits n o.toByteList).setPort n fun p => { p with nakDue := false }

/-- A CREDIT control frame with all nine counters (R377, R380). -/
def State.sendCredit (s : State) (n : Nat) : State :=
  if !s.mayControl n then s
  else
    let p := s.port n
    let w := fun k => BitVec.ofNat 64 (p.granted (2 * k) % 16777216 + (if 2 * k + 1 ≤ 8 then p.granted (2 * k + 1) % 16777216 else 0) * 2 ^ 32)
    let s := s.sendControl n 0 (w 0) (w 1) (w 2) (w 3) (w 4) 0
    s.setPort n fun p => { p with creditDirty := false, creditAt := s.now }

/-- A LANE control frame with words 2 to 5 of the record (12 R412). -/
def State.sendLane (s : State) (n : Nat) : State :=
  if !s.mayControl n then s
  else
    let w := s.laneWords n
    (s.sendControl n 3 w.w2 w.w3 w.w4 w.w5 0 0).setPort n fun p => { p with laneSent := some w }

/-- The control frames of a port that can be due, in the order in which they go (R382). -/
abbrev CD.lane : Nat := 0
abbrev CD.nak : Nat := 1
abbrev CD.time : Nat := 2
abbrev CD.tide : Nat := 3
abbrev CD.credit : Nat := 4

/-- A control frame is due: it leaves before its command ends, behind those that go before it (R382). -/
def State.ctlDue (s : State) (n k : Nat) : State := s.setPort n fun p => { p with ctl := if p.ctl.contains k then p.ctl else k :: p.ctl }

/-- The periodic control frames of a port whose time has come are due together, so that those due at one moment leave in the order of
R382 whichever command tells of it first. -/
def State.ctlPeriods (s : State) (n : Nat) : State :=
  let past (t d : Nat) : Bool := decide (t + d ≤ s.now)
  let p := s.port n
  let s := if s.on F.lnkGlbCfg_TEN && s.portUp n && past p.timeAt (max 1 (s.rd F.lnkGlbCfg_TPERIOD) * 1000) then
      (s.ctlDue n CD.time).setPort n fun p => { p with timeAt := s.now }
    else s
  let s := if p.aligned && past p.tideAt 500 then (s.ctlDue n CD.tide).setPort n fun p => { p with tideAt := s.now } else s
  if p.aligned && past p.creditAt (max 1 (s.rd F.lnkGlbCfg_CRPERIOD) * 10) then s.ctlDue n CD.credit else s

/-- The replay buffer has room for a frame: 8,192 units of 16 B (R369). -/
def State.replayRoom (s : State) (n : Nat) (p : Packet) : Bool := decide (s.replayUnits n + frameUnits p ≤ 8192)

/-- A data frame is ready: a packet has won the port and may be sent now. -/
def State.dataReady (s : State) (n : Nat) : Bool :=
  match (s.port n).txq with
  | [] => false
  | i :: _ => s.portUp n && (s.port n).retrain.isNone && !s.halted && s.replayRoom n i.pkt

/-- NAK is due (R368): in the next trailer, or at once in a CREDIT frame when no data frame is ready. -/
def State.sendNak (s : State) (n : Nat) : State :=
  let s := s.setPort n fun p => { p with nakPending := true, nakDue := true }
  if s.dataReady n then s else s.ctlDue n CD.nak

/-! ## Fabric time (R389 to R392) -/

/-- A grandmaster candidacy (R390). -/
structure Candidacy where
  prio : Nat
  dnv : Bool
  dev : Nat
  uid : Nat
  deriving DecidableEq, Repr

/-- `a` ranks better than `b` (R390). -/
def Candidacy.better (a b : Candidacy) : Bool :=
  if a.prio ≠ b.prio then decide (a.prio < b.prio)
  else if a.dnv ≠ b.dnv then a.dnv
  else if a.dnv ∧ a.dev ≠ b.dev then decide (a.dev < b.dev)
  else decide (a.uid < b.uid)

/-- This device's own candidacy. -/
def State.ownCandidacy (s : State) : Candidacy :=
  ⟨s.rd F.lnkGlbCfg_GMPRIO, s.on F.rteCfg_DNV, s.rd F.rteCfg_DEVNUM, s.rd F.glbUid_UID⟩

/-- The candidacy that a TIME frame announces. -/
def TimeNote.candidacy (t : TimeNote) : Candidacy := ⟨t.prio, t.dnv, t.dev, t.uid⟩

/-- TPERIOD in nanoseconds. -/
def State.tPeriod (s : State) : Nat := max 1 (s.rd F.lnkGlbCfg_TPERIOD) * 1000

/-- The announcement that a port holds and that still counts (R390). -/
def State.announcement (s : State) (n : Nat) : Option TimeNote :=
  match (s.port n).time with
  | some t => if s.portUp n && decide (s.tim ≤ t.atTim + 4 * s.tPeriod) then some t else none
  | none => none

/-- The better of two ports as parent: the better grandmaster, then the lower DIST, then the lower port. -/
def betterParent (a b : Nat × TimeNote) : Bool :=
  if a.2.candidacy.better b.2.candidacy then true
  else if b.2.candidacy.better a.2.candidacy then false
  else decide (a.2.dist < b.2.dist) || (a.2.dist == b.2.dist && decide (a.1 ≤ b.1))

/-- The port that qualifies as parent, with its announcement; one of this device's own candidacy is an echo of its follower and
qualifies none (DEDUCED, notes/assumptions/74.md). -/
def State.bestParent (s : State) : Option (Nat × TimeNote) :=
  (List.range 128).foldl
    (fun best n =>
      match s.announcement n with
      | some t =>
        if t.dist < 15 ∧ t.prio ≠ 255 ∧ t.candidacy ≠ s.ownCandidacy then
          match best with
          | some b => if betterParent b (n, t) then some b else some (n, t)
          | none => some (n, t)
        else best
      | none => best) none

/-- LNK_TIME_STAT shows this device as grandmaster, or free-running (R390, R394). -/
def State.ownTime (s : State) (free : Bool) : State :=
  s.set .lnkTimeStat (BitVec.ofNat 64
    (s.rd F.rteCfg_DEVNUM * 2 ^ 46 + s.rd F.lnkGlbCfg_GMPRIO * 2 ^ 38 + (if free then 2 ^ 25 else 2 ^ 26)))

/-- The election of R390: this device leads when it ranks better than every announcement that it holds; else it follows the
best parent, or runs free. An announcement of its own candidacy, which a follower echoes, is none that it must better: no two devices
have equal ones (DEDUCED, notes/assumptions/74.md). -/
def State.elect (s : State) : State :=
  let own := s.ownCandidacy
  if own.prio ≠ 255 ∧ ((List.range 128).filterMap s.announcement).all (fun t => own == t.candidacy || own.better t.candidacy) = true then s.ownTime false
  else
    match s.bestParent with
    | some (n, t) =>
      s.set .lnkTimeStat (BitVec.ofNat 64
        ((if t.dnv then t.dev else 0) * 2 ^ 46 + t.prio * 2 ^ 38 + (t.dist + 1) * 2 ^ 34 + n * 2 ^ 27))
    | none => s.ownTime true

/-- A measured offset is removed from TIM_NOW (R392): stepped, held, or slewed; FREEZE only measures. -/
def State.adjust (s : State) (freeze : Bool) (offset : Int) : State :=
  let th : Int := s.rd F.lnkGlbCfg_STEP_TH * 1000
  if freeze then s
  else if th < offset then
    { s.timStep offset.toNat with clock := { s.clock with slewUp := 0, slewDown := 0, hold := 0 } }
  else if offset < -th then
    { s with clock := { s.clock with hold := (-offset - th).toNat, slewUp := 0, slewDown := th.toNat } }
  else { s with clock := { s.clock with hold := 0, slewUp := offset.toNat, slewDown := (-offset).toNat } }

/-- A number of `n` bits as a signed integer. -/
def signedOf (n v : Nat) : Int := if v < 2 ^ (n - 1) then v else (v : Int) - 2 ^ n

/-- A TIME frame that arrives on a port (R390, R391). -/
def State.timeFrame (s : State) (n : Nat) (f : Octet) : State :=
  let t4 := s.tim
  let note : TimeNote :=
    { tx := f.w1.toNat, atTim := t4, prio := bits f.w4 63 56, dist := bits f.w4 55 52, dnv := bits f.w4 51 51 == 1
      dev := bits f.w4 17 0, uid := f.w5.toNat }
  let s := (s.setPort n fun p => { p with time := some note }).elect
  if !s.on F.lnkTimeStat_GM && !s.on F.lnkTimeStat_FREERUN && s.rd F.lnkTimeStat_PARENT == n && f.w2 != 0 then
    let t1 : Int := f.w2.toNat
    let t2 : Int := f.w3.toNat
    let t3 : Int := f.w1.toNat
    let offset := ((t2 - t1) - (t4 - t3)) / 2 - signedOf 16 (s.rd (F.lnkCfg_ASYM n))
    let delay := ((t4 - t1) - (t3 - t2)) / 2
    let s := s.set .lnkTimeOfs (BitVec.ofInt 64 (delay % 2 ^ 32 * 2 ^ 32 + offset % 2 ^ 32))
    s.adjust (s.on F.lnkGlbCfg_FREEZE) offset
  else s

/-- The TIME frame that a port sends (R389): with the grandmaster it follows, or this device. -/
def State.sendTime (s : State) (n : Nat) : State :=
  let echo := (s.port n).time
  let own := s.ownCandidacy
  let parent := if s.on F.lnkTimeStat_GM || s.on F.lnkTimeStat_FREERUN then none else s.announcement (s.rd F.lnkTimeStat_PARENT)
  let c := match parent with | some t => t.candidacy | none => own
  let dist := match parent with | some t => t.dist + 1 | none => 0
  s.sendControl n 2 (BitVec.ofNat 64 s.tim)
    (BitVec.ofNat 64 ((echo.map (·.tx)).getD 0)) (BitVec.ofNat 64 ((echo.map (·.atTim)).getD 0))
    (BitVec.ofNat 64 (c.prio % 256 * 2 ^ 56 + dist % 16 * 2 ^ 52 + c.dnv.toNat * 2 ^ 51 + c.dev % 2 ^ 18))
    (BitVec.ofNat 64 c.uid) 0

/-! ## Tide reports (10 R333) -/

/-- The level that a tide report gives for a global ordinal (notes/assumptions/27.md). -/
def State.ordLevel (s : State) (o : Nat) : Nat :=
  match (List.range 128).find? fun n => s.rd (F.rtePort_ROLE n) == PR.globalPort && s.rd (F.rtePort_ORD n) == o with
  | some n => s.portLevel n
  | none => 0

/-- Word k of a tide report: eight bytes, two ordinals each. -/
def State.tideWord (s : State) (k : Nat) : Word :=
  BitVec.ofNat 64 ((List.range 16).foldl (fun v i => v + s.ordLevel (16 * k + i) * 16 ^ i) 0)

/-- The tide report that a port sends. -/
def State.sendTide (s : State) (n : Nat) : State :=
  s.sendControl n 1 (s.tideWord 0) (s.tideWord 1) (s.tideWord 2) (s.tideWord 3) 0 0

/-! ## Link down and failover (R384, R385) -/

/-- A frame of the replay buffer is re-injected: on the twin, routed again, or discarded on the ferry. -/
def State.reinject (s : State) (n : Nat) (f : RFrame) : State :=
  let p := f.pkt.set H.hops (f.pkt.get H.hops - 1)
  let t := s.rd (F.rtePort_TWIN n)
  let h : Held := { id := 0, pkt := p, mark := f.mark, replayOf := some n, fseq := f.fseq, stomp := f.stomp }
  if s.on (F.rtePort_TWEN n) && s.ferryUp t then (s.hold { h with twin := some t }).count (F.lnkCnt2_REINJECT n)
  else if adaptiveOf (p.get H.mclass) (p.get H.vc) then (s.hold h).count (F.lnkCnt2_REINJECT n)
  else s.count F.rteStat_FERRY_DOWN

/-- A packet that waited in the egress stage of failed port `n` is routed again (R385), from the island of the port. -/
def State.requeue (s : State) (n : Nat) (i : TxItem) : State :=
  s.hold { id := 0, pkt := { i.pkt with hdr := i.before }, mark := i.mark, owner := i.owner, stomp := i.stomp, isle := some (n / 8) }

/-- A port declares its link down (R384): UP clears, LNK_DOWN raises, its replay buffer and egress stage are
handled under R385, and the training pattern starts. What the port knows of time stays (R389). -/
def State.linkDown (s : State) (n : Nat) : State :=
  let p := s.port n
  let s := (s.wr (F.rtePort_UP n) 0).count (F.lnkCnt_DOWNS n)
  let s := s.condRise (Src.LNK_DOWN n) n { addr := n, atype := 6, unit := n }
  let s := s.setPort n fun q =>
    { q with txq := [], replay := [], units := [], retrain := none, aligned := false, creditSeen := false,
             patternAt := some s.now, tide := none, nakPending := false, nakDue := false, count := 0, expired := false,
             replaying := none, ctl := [], laneSent := none, pend := none, mirror := none, mapWait := none, req := 0,
             widthNeed := none, retrainNeed := false, peerWords := {} }
  let s := (List.range 5).foldl (fun t l => t.wr (F.lneStat_MIRROR n l) 0) s
  let s := (s.setLstate n 4).setPstate n 0
  let s := p.replay.foldl (fun t f => t.reinject n f) s
  let land := s.route.landing.filter fun x => x.port == n
  let s := { s with route := { s.route with landing := s.route.landing.filter fun x => x.port != n } }
  let s := (p.txq ++ land.map (·.item)).foldl (fun t i => t.requeue n i) s
  (s.rbSync n).failoverEnd n

/-! ## Replay and retrain (R370 to R372, R383) -/

/-- The control frames that are due leave in their order (R382); a NAK that a trailer has carried needs none. -/
def State.ctlFlush (s : State) (n : Nat) : State :=
  let due := (s.port n).ctl
  let s := s.setPort n fun p => { p with ctl := [] }
  let s := if due.contains CD.lane then s.sendLane n else s
  let nak := due.contains CD.nak && (s.port n).nakDue
  let s := if nak then s.sendCredit n else s
  let s := if due.contains CD.time then s.sendTime n else s
  let s := if due.contains CD.tide then s.sendTide n else s
  if due.contains CD.credit && !nak then s.sendCredit n else s

/-- The port owes a LANE frame: its record words are not those it last sent (12 R412). -/
def State.laneOwed (s : State) (n : Nat) : Bool := s.mayControl n && (s.port n).laneSent != some (s.laneWords n)

/-- The control frames of every port that are due leave. -/
def State.ctlSync (s : State) : State :=
  (s.ports.map (·.1)).foldl
    (fun t n =>
      let t := if t.laneOwed n then t.ctlDue n CD.lane else t
      if (t.port n).ctl.isEmpty then t else t.ctlFlush n) s

/-- A fast retrain starts at this end (R383, 12 R416): as initiator with a new request, or as the accepting peer, whose training
starts at its next period boundary. What is due leaves before frames stop, and what has left takes its data slots in the periods before the training. -/
def State.startRetrain (s : State) (n : Nat) (initiator : Bool) : State :=
  if (s.port n).retrain.isSome then s
  else
    let s := s.setPort n fun p =>
      { p with
        rseq := if initiator then (p.rseq + 1) % 256 else p.rseq
        req := if initiator then 1 else p.req }
    let s := (s.ctlDue n CD.lane).ctlFlush n
    let s := s.setPort n fun p =>
      { p with retrain := some { rseq := p.rseq, began := s.now, initiator := initiator, accepted := !initiator } }
    let s := (s.setLstate n 3).setPstate n 4
    (s.count (F.lnkCnt_RETRAINS n)).raise (Src.LNK_RETRAIN n) { addr := n, atype := 6, unit := n }

/-- A frame of the replay buffer is read (16 R511): corrected, or sent stomped. -/
def State.replayCheck (s : State) (n : Nat) (f : RFrame) : State :=
  if f.ecc = 1 then s.raise (Src.PRT_BUF_CORR n) { addr := n, atype := 6, unit := n }
  else if f.ecc = 2 then s.raise (Src.PRT_BUF_UNCORR n) { addr := n, atype := 6, unit := n }
  else s

/-- Every frame from the rewind mark is sent again (R371); the replay is being sent until its last unit has taken a data slot. -/
def State.replayNow (s : State) (n : Nat) : State :=
  if (s.port n).replay.isEmpty then s
  else
    let s := s.setPort n fun p => { p with count := p.count + 1, timer := s.now, expired := false }
    let s := ((s.count (F.lnkCnt_REPLAYS n)).tally (n / 8) 0x0C).raise (Src.LNK_REPLAY n) { addr := n, atype := 6, unit := n }
    let s := (s.port n).replay.foldl (fun t f => (t.replayCheck n f).sendFrame n { f with stomp := f.stomp || f.ecc == 2 }) s
    let s := s.setPort n fun p => { p with replay := p.replay.map fun f => { f with ecc := if f.ecc = 1 then 0 else f.ecc } }
    s.setPort n fun p => { p with replaying := some (s.rd (F.lnkStat_RMARK n), p.units.length) }

/-- A replay is due (R371, R383, R384): it starts, or a fast retrain does, or the link goes down. -/
def State.replayDue (s : State) (n : Nat) : State :=
  let p := s.port n
  if p.replay.isEmpty || p.retrain.isSome then s
  else
    let near := p.retrainedAt.any fun t => decide (s.now ≤ t + 1000000)
    let s := if near then s.setPort n fun q => { q with more := q.more + 1 } else s
    if near && decide (max 1 (s.rd (F.lnkCfg_MREPLAY n)) ≤ (s.port n).more) then s.linkDown n
    else if p.count = max 1 (s.rd (F.lnkCfg_NREPLAY n)) then s.startRetrain n true
    else s.replayNow n

/-- When the replay timer expires (R371). -/
def State.replayTimer (s : State) (n : Nat) : Nat := (s.port n).timer + max 500 (s.rd (F.lnkCfg_RTIMEOUT n))

/-- A received FACK (R370): valid ones free frames, and with NAK request a replay, unless one from the same rewind mark is still
being sent (R371). An expiry of the replay timer at the same edge stands while frames are left (R372). -/
def State.applyAck (s : State) (n a : Nat) (nak : Bool) : State :=
  let r := s.rd (F.lnkStat_RMARK n)
  let d := serialSub 16 a r
  if serialSub 16 (s.rd (F.lnkStat_NEXT n)) r < d then
    (s.count (F.lnkCnt2_BADACK n)).raise (Src.LNK_BADACK n) { addr := n, atype := 5, unit := n }
  else
    let s :=
      if d = 0 then s
      else
        let due := s.replayTimer n
        let s := s.setPort n fun p =>
          let l := p.replay.filter fun f => !precedes 16 f.fseq a
          { p with replay := l, count := 0, timer := s.now, expired := (p.expired || decide (due ≤ s.now)) && !l.isEmpty }
        (s.wr (F.lnkStat_RMARK n) a).rbSync n
    if nak && !(s.port n).replaying.any (fun r => r.1 == s.rd (F.lnkStat_RMARK n)) then s.replayDue n else s

/-- A received credit counter (R376). -/
def State.applyCredit (s : State) (n j c : Nat) : State :=
  if 8 < j then s
  else
    let d := serialSub 24 c (s.rd (F.lnkCredit_LIMIT n j))
    if 1 ≤ d ∧ d < 8388608 then s.wr (F.lnkCredit_LIMIT n j) c else s

/-! ## Receiving data frames (R367, R378, 01 R19, R23) -/

/-- Units arrived on a counter. -/
def State.recvUnits (s : State) (n j u : Nat) : State :=
  s.setPort n fun p => { p with recvd := p.recvd.upd j 0 fun r => (r + u) % 16777216 }

/-- The units of a discarded packet are granted again (R376). -/
def State.grantBack (s : State) (n j u : Nat) : State :=
  s.setPort n fun p => { p with grant := p.grant.upd j 0 fun g => (g + u) % 16777216, creditDirty := true }

/-- A frame of `len` bytes before its trailer agrees with its header (01 R19, R23). -/
def frameOk (h : Octet) (len : Nat) : Bool := headerOk h && len == (hdrBytes h + 15) / 16 * 16

/-- A good packet enters the input buffer of a port: for this device, discarded by its role or its route, or
held until it wins an output (10 R320, R323, R329). -/
def State.takeIn (s : State) (h : Held) (n : Nat) : State :=
  let s := (s.activity h.pkt).tally (n / 8) 0x0A
  let s := s.hold h
  let h := { h with id := s.nextId - 1, since := s.now }
  let local' := s.on F.rteCfg_DNV && s.here (h.pkt.get H.dst)
  if !s.on F.rteCfg_DNV then s.dropHeld h F.rteStat_NOROUTE
  else if s.rd (F.rtePort_ROLE n) = PR.service ∧ ¬(h.pkt.get H.ptype = PT.mgmt ∧ local' = true) then
    s.dropHeld h F.rteStat_NOROUTE
  else
    match s.routeOf (s.phase2 h.pkt) with
    | (s, .deliver) => s.arrive { h with pkt := s.phase2 h.pkt }
    | (s, .fenced) => s.dropHeld h F.rteStat_FENCED
    | (s, .ferry fp) => if s.ferryUp fp then s else s.dropHeld h F.rteStat_FERRY_DOWN
    | (s, _) => s

/-- The packet of a frame that turns out bad may already be leaving for its next hop (R364, 01 R19): its copy has won an output
and is stomped there. -/
def State.cutThrough (s : State) (n : Nat) (bs : List Byte) (cut : Bool) : State :=
  let p := s.phase2 (packetOf (bs.take (bs.length - 16)))
  let w := wordOfBytes (bs.drop (bs.length - 16))
  let h : Held := { id := s.nextId, pkt := p, inPort := some n, mark := bits w 30 30 == 1, stomp := true }
  if !cut || !s.on F.rteCfg_DNV || s.rd (F.rtePort_ROLE n) == PR.service || p.get H.hmark != 0xA5 || p.get H.hops == 7 then s
  else
    let go (s : State) (p : Packet) (n vc : Nat) (nonmin : Bool) : State :=
      match s.mayWin h n vc p.units with
      | some pool => if s.beaten h n vc then s else ((s.tiesPast h n vc).activity p).depart h p n vc pool nonmin
      | none => s
    match s.routeOf p with
    | (s, .ferry fp) => if s.ferryUp fp then go s p fp (ferryVc (p.get H.mclass)) false else s
    | (s, .out c _) =>
      go s (match c.via with | some g => (p.set H.nonmin 1).set H.igroup g | none => p) c.port (s.bestVc c.port (p.get H.mclass))
        c.via.isSome
    | _ => s

/-- A data frame with a good or stomped CRC, in sequence (R367 d = 0, R364, R378). -/
def State.acceptFrame (s : State) (n : Nat) (bs : List Byte) (stomped : Bool) : State :=
  let s := s.wr (F.lnkStat_EXPECT n) (s.rd (F.lnkStat_EXPECT n) + 1)
  let s := s.setPort n fun p => { p with nakPending := false }
  let s := s.bwGot n bs.length
  let body := bs.take (bs.length - 16)
  let w := wordOfBytes (bs.drop (bs.length - 16))
  let p := packetOf body
  let pool := bits w 29 29 == 1
  let j := if pool then 8 else p.get H.vc
  let u := min 33 ((64 + p.payload.length + p.trailer.length + 63) / 64)
  let excess := decide (serialSub 24 ((s.port n).granted j) ((s.port n).recvd.at j 0) < u)
  if excess then
    (s.count (F.lnkCnt_OVERRUN n)).raise (Src.LNK_OVERRUN n) { addr := n, atype := 5, unit := n }
  else
    let s := s.recvUnits n j u
    if stomped then s.grantBack n j u
    else if !frameOk p.hdr body.length then
      (s.grantBack n j u).raise (Src.PRT_HDR_ERR n) { addr := n, atype := 5, unit := n }
    else s.takeIn { id := 0, pkt := p, inPort := some n, vcIn := p.get H.vc, pool := pool, mark := bits w 30 30 == 1 } n

/-- A frame that fails its CRC, or a gap in the sequence, asks for a replay once per gap (R367, R368). -/
def State.gap (s : State) (n : Nat) : State := if (s.port n).nakPending then s else s.sendNak n

end Sys2Proof.Machine
end

