-- ==== Sys2Proof/Machine/LaneOps.lean ====
section
/-! DEFINITION. Operations of the lane layer (12 R396 to R418): classes of lanes, maps and their changes,
requests between the ends of a link, bring-up; and control frames as they arrive (11 R379 to R381). -/

namespace Sys2Proof.Machine

/-- Lane classes (12 R408, R411). -/
abbrev LC.none : Nat := 0
abbrev LC.ok : Nat := 1
abbrev LC.degraded : Nat := 2
abbrev LC.failed : Nat := 3

/-- The least width of a port (12 R418). -/
def State.wMin (s : State) (n : Nat) : Nat := max 1 (s.rd (F.prtCfg_WMIN n))

/-- A usable class (12 R415). -/
def usableClass (c : Nat) : Bool := c == LC.ok || c == LC.degraded

/-- The lanes usable for transmitting, as the peer's receiver classes them. -/
def State.txUsable (s : State) (n : Nat) : List Nat :=
  (List.range 5).filter fun l => usableClass (s.rd (F.lneStat_PEERHEALTH n l))

/-- The lanes usable for receiving. -/
def State.rxUsable (s : State) (n : Nat) : List Nat :=
  (List.range 5).filter fun l => usableClass (s.rd (F.lneStat_RXHEALTH n l))

/-- Usable lanes in the worse direction. -/
def State.usable (s : State) (n : Nat) : Nat := min (s.txUsable n).length (s.rxUsable n).length

/-- The lane of logical lane i in a map (12 R411). -/
def mapLane (m i : Nat) : Nat := m / 2 ^ (3 * i) % 8

/-- The map of some physical lanes; unused logical lanes hold 7. -/
def mapOf (ls : List Nat) : Nat := (List.range 4).foldl (fun v i => v + ls.getD i 7 * 2 ^ (3 * i)) 0

/-- The mapped lanes of a port's transmitter. -/
def State.mapped (s : State) (n : Nat) : List Nat :=
  (List.range (s.rd (F.prtStat_WIDTH n))).map (mapLane (s.rd (F.prtStat_TXMAP n)))

/-- This end ranks lower than its peer (12 R417). -/
def State.leads (s : State) (n : Nat) : Bool :=
  let p := s.port n
  match p.peer with
  | none => false
  | some q =>
    let dev := s.rd F.rteCfg_DEVNUM
    let uid := s.rd F.glbUid_UID
    match p.peerDnv with
    | some d =>
      if s.on F.rteCfg_DNV ∧ dev ≠ d then decide (dev < d)
      else if uid ≠ q.uid then decide (uid < q.uid) else decide (n < q.port)
    | none => if uid ≠ q.uid then decide (uid < q.uid) else decide (n < q.port)

/-- A map change is announced (12 R413), four periods ahead; none while PEND is set. -/
def State.announceMap (s : State) (n map width : Nat) (swap : Bool) : State :=
  if (s.port n).pend.isSome then s
  else
    let c := (s.rd (F.prtStat_PCOUNT n) + 4) % 256
    s.setPort n fun p => { p with pend := some { at' := c, width := width, map := map, swap := swap } }

/-- The width change that a port announces on an accepted request (12 R415): the lesser of the requested width and its own
usable lanes, at most four, on the lowest usable lanes. While PEND is set it waits (R413). -/
def State.announceWidth (s : State) (n w : Nat) : State :=
  let ls := (s.txUsable n).take (min 4 w)
  if (s.port n).pend.isSome then s.setPort n fun p => { p with mapWait := some w }
  else if ls = [] ∨ (mapOf ls = s.rd (F.prtStat_TXMAP n) ∧ ls.length = s.rd (F.prtStat_WIDTH n)) then s
  else s.announceMap n (mapOf ls) ls.length false

/-- A width change is requested (12 R415); one request at a time. -/
def State.requestWidth (s : State) (n w : Nat) : State :=
  if (s.port n).req ≠ 0 then s
  else s.setPort n fun p => { p with rseq := (p.rseq + 1) % 256, req := 2, rwidth := w }

/-- The lane layer follows the usable lanes (12 R415): too few for WMIN make an aligned port unusable (11 R384), fewer than the
width ask for a change, in IDLE once the peer has shown its lanes (R410). -/
def State.widthCheck (s : State) (n : Nat) : State :=
  let u := s.usable n
  let short := decide (u < s.rd (F.prtStat_WIDTH n))
  if s.rd (F.prtStat_PSTATE n) = 3 then
    if u < s.wMin n then s.linkDown n else if short then s.requestWidth n u else s
  else if s.rd (F.prtStat_PSTATE n) = 2 ∧ s.wMin n ≤ u ∧ short = true then s.requestWidth n u
  else s

/-- The announced change is in force at the transmitter. -/
def State.mapApplied (s : State) (n : Nat) (c : MapChange) : Bool :=
  s.rd (F.prtStat_TXMAP n) == c.map && s.rd (F.prtStat_WIDTH n) == c.width

/-- The map change in force (12 R413): the width's fall raises LNE_WIDTH and the change is recorded in the audit log (16 R532);
after a swap the old lane copies the new one (R414). -/
def State.applyMap (s : State) (n : Nat) : State :=
  match (s.port n).pend with
  | none => s
  | some c =>
    if s.mapApplied n c then s
    else
      let oldM := s.rd (F.prtStat_TXMAP n)
      let oldW := s.rd (F.prtStat_WIDTH n)
      let s := ((s.wr (F.prtStat_PCOUNT n) c.at').wr (F.prtStat_TXMAP n) c.map).wr (F.prtStat_WIDTH n) c.width
      let s := (List.range 5).foldl
        (fun t l =>
          t.wr (F.lneStat_MIRROR n l)
            (c.swap && (List.range oldW).any (fun i => mapLane oldM i == l)
                && !(List.range c.width).any (fun i => mapLane c.map i == l)).toNat) s
      let s := s.audAppend { kind := RK.lane, addr := n, old := BitVec.ofNat 64 oldM, new := BitVec.ofNat 64 c.map }
      let s := if c.width < oldW then s.raise (Src.LNE_WIDTH n) { addr := n, atype := 14, unit := n } else s
      s.setPort n fun p => { p with mirror := if c.swap then some oldM else none }

/-- From the period after the announcement of a swap the spare copies the failing lane (12 R414). -/
def State.mirrorStart (s : State) (n : Nat) : State :=
  match (s.port n).pend with
  | some c =>
    if c.swap && !s.mapApplied n c then
      let old := s.mapped n
      (List.range 5).foldl
        (fun t l => if (List.range c.width).any (fun i => mapLane c.map i == l) && !old.contains l then t.wr (F.lneStat_MIRROR n l) 1 else t) s
    else s
  | none => s

/-- A failing mapped lane is swapped for an OK unmapped one (12 R414). -/
def State.spareSwap (s : State) (n : Nat) : State :=
  if !s.on (F.prtCfg_AUTOSPARE n) || (s.port n).pend.isSome then s
  else
    let w := s.rd (F.prtStat_WIDTH n)
    let m := s.rd (F.prtStat_TXMAP n)
    let bad := (List.range w).find? fun i =>
      let c := s.rd (F.lneStat_PEERHEALTH n (mapLane m i))
      c == LC.degraded || c == LC.failed
    let spare := (List.range 5).find? fun l =>
      s.rd (F.lneStat_PEERHEALTH n l) == LC.ok && !(s.mapped n).contains l
    match bad, spare with
    | some i, some l =>
      let ls := (List.range w).map fun j => if j = i then l else mapLane m j
      s.announceMap n (mapOf ls) w true
    | _, _ => s

/-- A width change or a retrain is going on in one of the directions, as far as this end knows. -/
def State.laneBusy (s : State) (n : Nat) : Bool :=
  let p := s.port n
  p.req != 0 || p.retrain.isSome || p.pend.isSome || bits p.peerWords.w3 63 63 == 1

/-- The follower asks again once the leader's change is complete in both directions, where its need remains (12 R415, R417). -/
def State.needAgain (s : State) (n : Nat) : State :=
  let p := s.port n
  if s.laneBusy n || s.halted then s
  else if p.retrainNeed then
    let s := s.setPort n fun q => { q with retrainNeed := false }
    if s.portUp n && s.rd (F.prtStat_PSTATE n) == 3 then s.startRetrain n true else s
  else
    match p.widthNeed with
    | none => s
    | some w =>
      let s := s.setPort n fun q => { q with widthNeed := none }
      let now := s.rd (F.prtStat_WIDTH n)
      if (w < now ∧ s.usable n < now) ∨ (now < w ∧ now < min 4 (s.usable n)) then s.requestWidth n (min 4 (s.usable n)) else s

/-- PEND clears after period PPERIOD + 1 (12 R413); a swap is then complete and raises LNE_SPARED (R414). A width change that
waited for it is announced. -/
def State.clearPend (s : State) (n : Nat) : State :=
  match (s.port n).pend with
  | none => s
  | some c =>
    let wait := (s.port n).mapWait
    let s := s.setPort n fun p => { p with pend := none, mirror := none, mapWait := none }
    let s := (List.range 5).foldl (fun t l => t.wr (F.lneStat_MIRROR n l) 0) s
    let s := if c.swap then s.raise (Src.LNE_SPARED n) { addr := n, atype := 14, unit := n } else s
    match wait with
    | some w => s.announceWidth n w
    | none => s.needAgain n

/-- A follower that had asked for a retrain puts it off, and frames go on (12 R417). -/
def State.retrainOff (s : State) (n : Nat) : State :=
  let s := s.setPort n fun q => { q with retrain := none, retrainNeed := true }
  (s.setPstate n 3).setLstate n 2

/-- What the peer asks and grants in word 5 of its record (12 R415 to R417): an acceptance of this end's request; and a request,
which the leader ignores while its own stands and the follower accepts, dropping its own. -/
def State.peerRequest (s : State) (n : Nat) (w5 : Word) : State :=
  let p := s.port n
  let req := bits w5 63 60
  let rseq := bits w5 55 48
  let accepted := decide (p.req ≠ 0 ∧ bits w5 47 40 = p.rseq)
  let s :=
    if accepted && p.req == 1 then
      s.setPort n fun q => { q with req := 0, retrain := q.retrain.map fun r => { r with accepted := true } }
    else if accepted && p.req == 2 then (s.setPort n fun q => { q with req := 0 }).announceWidth n p.rwidth
    else s
  let own := (s.port n).req
  if req = 0 ∨ rseq = p.ackSeq then s
  else if own ≠ 0 ∧ s.leads n = true then s
  else
    let s := s.setPort n fun q => { q with ackSeq := rseq, req := 0, widthNeed := if own = 2 then some q.rwidth else q.widthNeed }
    if req = 1 then (s.setPort n fun q => { q with retrain := none }).startRetrain n false
    else
      let s := if own = 1 then s.retrainOff n else s
      if req = 2 then s.announceWidth n (bits w5 59 57) else s

/-- Words 2 to 5 of the peer's record arrive (12 R412): before it is aligned the receiver takes the peer's map as it stands. -/
def State.peerWordsIn (s : State) (n : Nat) (w : LaneWords) : State :=
  let s := s.setPort n fun p => { p with peerWords := w }
  let s := (List.range 5).foldl
    (fun t l => t.wr (F.lneStat_PEERHEALTH n l) (w.w4.toNat / 2 ^ (2 * l) % 4)) s
  let ps := s.rd (F.prtStat_PSTATE n)
  let s := if ps = 2 ∨ ps = 3 ∨ ps = 4 then s.wr (F.prtStat_RXMAP n) (bits w.w2 11 0) else s
  ((s.peerRequest n w.w5).widthCheck n).needAgain n

/-- The identity that the port's lanes show: the one shown by most, then by the lowest lane (12 R408). -/
def State.peerOf (s : State) (n : Nat) : Option LanePeer :=
  let ps := (s.port n).peers.map (·.2)
  let votes := fun (q : LanePeer) => (ps.filter fun x => x.uid == q.uid && x.port == q.port).length
  ps.foldl
    (fun best q => match best with
      | some b => if votes b < votes q then some q else some b
      | none => some q) none

/-- A lane of another peer (12 R408). -/
def State.miswired (s : State) (n l : Nat) : Bool :=
  match s.peerOf n, (s.port n).peers.find l with
  | some a, some b => !(a.uid == b.uid && a.port == b.port)
  | _, _ => false

/-- A lane whose peer shows another FEC mode, in its alignment blocks or in its records (12 R400, R411). -/
def State.fecDiffers (s : State) (n l : Nat) : Bool :=
  let p := s.port n
  (p.peers.find l).any (fun q => q.fecm != p.fecMode) || (p.aligns.find l).any fun a => a.fecm != p.fecMode

/-- MISWIRED and the conditions of LNE_MISWIRED and LNE_FEC_MISMATCH follow the identities (12 R408, R428). -/
def State.identitySync (s : State) (n : Nat) : State :=
  let s := (List.range 5).foldl (fun t l => t.wr (F.lneStat_MISWIRED n l) (t.miswired n l).toNat) s
  let a : RaiseArg := { addr := n, atype := 14, unit := n }
  let s := if (List.range 5).any (s.miswired n) then s.condRise (Src.LNE_MISWIRED n) n a else s.condClear (Src.LNE_MISWIRED n) n
  let s := if (List.range 5).any (s.fecDiffers n) then s.condRise (Src.LNE_FEC_MISMATCH n) n a
    else s.condClear (Src.LNE_FEC_MISMATCH n) n
  let s := s.setPort n fun p => { p with peer := s.peerOf n }
  s.wr (F.prtStat_LEADER n) (s.leads n).toNat

/-- The class of a lane over a window (12 R408). -/
def State.laneClass (s : State) (n l : Nat) (o : LaneObs) : Nat :=
  if !s.on (F.lneStat_BLOCK n l) then LC.none
  else if (s.port n).lost.contains l || decide (s.rd (F.prtCfg_UNCTH n) < o.uncorr) || decide (5120 < o.skew)
      || s.miswired n l || s.fecDiffers n l then LC.failed
  else if s.rd (F.prtCfg_SYMTH n) * 256 < o.symCorr then LC.degraded
  else LC.ok

/-- When the period of PCOUNT 0 began on a lane, in hundredths of a nanosecond modulo the 256 periods of 2,631.44 ns (12 R402). -/
def laneOrigin (a : LaneAlign) : Nat := (a.at' * 100 + 256 * 263144 - a.pcount * 263144) % (256 * 263144)

/-- Two lanes can be deskewed by equal PCOUNT values: they lie at most 512 ns apart (12 R407). -/
def deskews (a b : LaneAlign) : Bool :=
  let d := (laneOrigin a + 256 * 263144 - laneOrigin b) % (256 * 263144)
  decide (min d (256 * 263144 - d) ≤ 51200)

/-- The receiver holds block lock and deskew on every lane of the peer's map (12 R409). -/
def State.lanesReady (s : State) (n : Nat) : Bool :=
  let w := bits (s.port n).peerWords.w2 14 12
  let m := bits (s.port n).peerWords.w2 11 0
  let fibres := (List.range w).map fun i => s.fibreOf n (mapLane m i)
  let aligns := fibres.filterMap fun f => f.bind fun f => (s.port n).aligns.find f
  decide (0 < w) && fibres.all (fun f => f.any fun f => s.on (F.lneStat_BLOCK n f) && decide (s.rd (F.lneStat_SKEW n f) ≤ 5120))
    && aligns.all fun a => aligns.all (deskews a)

/-- The transmitters of a port can start (12 R409, 19 R591): the island's lamp module is lit and its lane PLL has not
lost lock. -/
def State.mayTransmit (s : State) (n : Nat) : Bool :=
  (s.lamps.at (n / 8) {}).en && !s.faults.conds.contains (Src.CLK_LANE_PLL_UNLOCK, n / 8)

/-- What LNE_EQ shows once its loops stand at an observation (12 R404, R418): CTLE within its limits and the DFE taps while
adaptation runs, the phase and the eye always; EN 0 holds CTLE at CTLE_MIN and the taps at zero, FREEZE holds both. -/
def eqNew (w : Word) (ctle : BitVec 6) (dfe : BitVec 24) (cdrPhase eye : BitVec 8) : Word :=
  let w := setBits (setBits w 31 24 cdrPhase.toNat) 23 16 eye.toNat
  if bits w 63 63 = 0 then setBits (setBits w 61 56 (bits w 15 10)) 55 32 0
  else if bits w 62 62 = 1 then w
  else setBits (setBits w 61 56 (min (bits w 9 4) (max (bits w 15 10) ctle.toNat))) 55 32 dfe.toNat

/-- LNE_EQ once it is written: the loops stand where they stood, within its new limits and controls. -/
def eqHeld (w : Word) : Word :=
  eqNew w (BitVec.ofNat 6 (bits w 61 56)) (BitVec.ofNat 24 (bits w 55 32)) (BitVec.ofNat 8 (bits w 31 24)) (BitVec.ofNat 8 (bits w 23 16))

/-- The training pattern (11 R384, 12 R409), PRBS31 on all five lanes, has left a port's transmitters, if they can start, for so many
nanoseconds at 215 line bits each. -/
def State.patternOut (s : State) (n d : Nat) : State :=
  if s.mayTransmit n then (List.range 5).foldl (fun t l => t.emit (.prbs31 n l (d * 215))) s else s

/-- Bring-up starts (12 R409): TRAIN, with the FEC mode of PRT_CFG, the receivers acquiring anew; transmitters that cannot start
wait. -/
def State.bringUp (s : State) (n : Nat) : State :=
  if s.halted then s
  else if s.on (F.prtCfg_QUIESCE n) then (s.setPort n fun p => { p with patternAt := none }).setPstate n 5
  else if !s.mayTransmit n then (s.setPort n fun p => { p with patternAt := none }).setPstate n 0
  else
    let s := s.setPort n fun p =>
      { p with patternAt := none, phaseAt := s.now,
               fecMode := s.rd (F.prtCfg_FEC_MODE n), peers := [], aligns := [], units := [], lost := [], peer := none, peerDnv := none,
               peerWords := {} }
    let s := (List.range 5).foldl
      (fun t l => ((t.wr (F.lneStat_CDRLOCK n l) 0).wr (F.lneStat_ALOCK n l) 0).wr (F.lneStat_BLOCK n l) 0) s
    let s := s.setPstate n 1
    if s.rd (F.lnkStat_LSTATE n) = 4 then s else s.setLstate n 1

/-- What GRANT holds when a link comes up (11 R374, 10 R339). -/
def grantStart : KMap Nat := (List.range 9).map fun j => (j, if j = 8 then 1718 else if j = 3 ∨ j = 7 then 66 else 33)

/-- The lane layer is aligned (12 R410): NBR, the receive map, and the credit counters that its CREDIT frames show from now on
(11 R374, R388). -/
def State.aligned (s : State) (n : Nat) : State :=
  let s := s.setPstate n 3
  let s := s.wr (F.rtePort_NBR n) ((s.port n).peerDnv.getD 0)
  let s := s.wr (F.prtStat_RXMAP n) (bits (s.port n).peerWords.w2 11 0)
  let s := ((List.range 9).foldl (fun t j => t.set (.lnkCredit n j) 0) s).wr (F.lnkStat_EXPECT n) 0
  let s := s.setPort n fun p =>
    { p with
      aligned := true, creditSeen := false, recvd := [], nakPending := false, nakDue := false, cidx := 0, grant := grantStart }
  s.ctlDue n CD.credit

/-! ## Control frames as they arrive (11 R379 to R381) -/

/-- The CRC verdict of a control frame; a stomped one is good (R367). -/
def controlVerdict (f : Octet) : CrcVerdict := crcVerdict f.toByteList

/-- The counters of a CREDIT frame (R380). -/
def creditOf (f : Octet) (j : Nat) : Nat := bits (f.word (1 + j / 2)) (32 * (j % 2) + 23) (32 * (j % 2))

/-- A TIDE report (10 R333): the level of each ordinal. -/
def tideOf (f : Octet) : List Nat :=
  ((f.toByteList.drop 8).take 32).flatMap fun b => [b.toNat % 16, b.toNat / 16]

/-- The body of a control frame by its kind (R380). -/
def State.handleControl (s : State) (n : Nat) (f : Octet) : State :=
  match bits f.w0 55 52 with
  | 0 =>
    let s := (List.range 9).foldl (fun t j => t.applyCredit n j (creditOf f j)) s
    s.setPort n fun p => { p with creditSeen := true }
  | 1 => s.setPort n fun p => { p with tide := some (tideOf f, s.now) }
  | 2 => s.timeFrame n f
  | 3 => s.peerWordsIn n { w2 := f.w1, w3 := f.w2, w4 := f.w3, w5 := f.w4 }
  | _ => s

/-! ## Frames as they arrive (11 R360, R364, R367, R381) -/

/-- The port receives frames: its lane layer is aligned. A retrain stops this end's frames only (R383). -/
def State.receives (s : State) (n : Nat) : Bool := (s.port n).aligned && !s.halted

/-- A frame that fails its CRC (R367). -/
def State.badCrc (s : State) (n : Nat) : State :=
  ((s.count (F.lnkCnt_CRCERR n)).raise (Src.LNK_CRC n) { addr := n, atype := 5, unit := n }).gap n

/-- The frame carries a packet whose length agrees with its header. -/
def plainFrame (bs : List Byte) : Bool := frameOk (packetOf (bs.take (bs.length - 16))).hdr (bs.length - 16)

/-- A data frame with a good or stomped CRC (R367): its trailer, then its packet in sequence, a duplicate, or a gap. -/
def State.dataIn (s : State) (n : Nat) (bs : List Byte) (stomped cut : Bool) : State :=
  let w := wordOfBytes (bs.drop (bs.length - 16))
  let s := s.applyAck n (bits w 47 32) (bits w 31 31 == 1)
  let s := s.applyCredit n (bits w 27 24) (bits w 23 0)
  if s.receives n then
    let d := serialSub 16 (bits w 63 48) (s.rd (F.lnkStat_EXPECT n))
    if d = 0 then (s.cutThrough n bs (cut && (stomped || !plainFrame bs))).acceptFrame n bs stomped
    else if 32768 ≤ d then s.count (F.lnkCnt2_DUPFRAMES n)
    else s.gap n
  else s

/-- A control frame with a good or stomped CRC: FACK and NAK, a gap shown by FNEXT (R381), then its body. -/
def State.controlIn (s : State) (n : Nat) (f : Octet) : State :=
  let nak := bits f.w0 51 51 == 1
  let s := s.applyAck n (bits f.w0 47 32) nak
  let d := serialSub 16 (bits f.w0 31 16) (s.rd (F.lnkStat_EXPECT n))
  let s := if !nak && decide (1 ≤ d ∧ d < 32768) && (s.port n).aligned then s.gap n else s
  if s.receives n then s.handleControl n f else s

/-- A frame arrives (R360, R364, R367): byte 7 names its kind; a stomped CRC is counted whatever the frame is; another byte 7 is
a header error under a good CRC, as is 0x5C on a frame that is not 64 B. -/
def State.receiveFrame (s : State) (n : Nat) (bs : List Byte) (err cut : Bool) : State :=
  match if err then CrcVerdict.bad else crcVerdict bs with
  | .bad => (s.cutThrough n bs cut).badCrc n
  | v =>
    let s := if v = .stomped then s.count (F.lnkCnt_STOMPED n) else s
    let kind := (bs.getD 7 0).toNat
    if kind = 0xA5 then s.dataIn n bs (v == .stomped) cut
    else if kind = 0x5C ∧ bs.length = 64 then s.controlIn n (Octet.ofByteList bs)
    else if v = .good then s.raise (Src.PRT_HDR_ERR n) { addr := n, atype := 5, unit := n }
    else s

/-- A control frame arrives. -/
def State.receiveControl (s : State) (n : Nat) (f : Octet) : State :=
  if s.receives n then s.receiveFrame n f.toByteList false false else s

end Sys2Proof.Machine
end

