-- ==== Sys2Proof/Machine/Crypto.lean ====
section
/-! DEFINITION. The published algorithms that the spec names by their standards: AES and AES-256-GCM (07 R240, R241),
AES-CMAC (12 R421), SHA-384 and ECDSA P-384 (06 R180, 18 R574). PRESUMED: their arithmetic is that of the standards
(notes/assumptions/13.md). Blocks are lists of byte values in the order of the standards. -/

namespace Sys2Proof

/-! ## AES (FIPS 197) -/

/-- The S-box: its value at x is byte x of this number. -/
def aesSboxes : Nat :=
  (((((0x16bb54b00f2d99416842e6bf0d89a18cdf2855cee9871e9b948ed9691198f8e19e1dc186b95735610ef6034866b53e70) * 2 ^ 384
    + 0x8a8bbd4b1f74dde8c6b4a61c2e2578ba08ae7a65eaf4566ca94ed58d6d37c8e779e4959162acd3c25c2406490a3a32e0) * 2 ^ 384
    + 0xdb0b5ede14b8ee4688902a22dc4f816073195d643d7ea7c41744975fec130ccdd2f3ff1021dab6bcf5389d928f40a351) * 2 ^ 384
    + 0xa89f3c507f02f94585334d43fbaaefd0cf584c4a39becb6a5bb1fc20ed00d153842fe329b3d63b52a05a6e1b1a2c8309) * 2 ^ 384
    + 0x75b227ebe28012079a059618c323c7041531d871f1e5a534ccf73f362693fdb7c072a49cafa2d4adf04759fa7dc982ca) * 2 ^ 128
    + 0x76abd7fe2b670130c56f6bf27b777c63

def aesSub (x : Nat) : Nat := aesSboxes >>> (8 * x) % 256

/-- Byte-wise exclusive or. -/
def xorBytes (a b : List Nat) : List Nat := List.zipWith (· ^^^ ·) a b

/-- Multiplication by x in GF(2^8). -/
def aesTwice (x : Nat) : Nat := if x < 128 then 2 * x else (2 * x) ^^^ 0x11B

/-- The next `k` words of the key schedule of a key of `nk` words, from the words so far and the round constant. -/
def aesExpand (nk : Nat) : Nat → Nat → List (List Nat) → List (List Nat)
  | 0, _, ws => ws
  | k + 1, rc, ws =>
    let i := ws.length
    let t := ws.getD (i - 1) []
    let first := i % nk == 0
    let t := if first then xorBytes ((t.drop 1 ++ t.take 1).map aesSub) [rc, 0, 0, 0]
      else if nk == 8 && i % 8 == 4 then t.map aesSub else t
    aesExpand nk k (if first then aesTwice rc else rc) (ws ++ [xorBytes (ws.getD (i - nk) []) t])

/-- A list cut into cutEvery of `n`, at most `k` of them. -/
def cutEvery (n : Nat) : Nat → List Nat → List (List Nat)
  | 0, _ => []
  | k + 1, l => if l.isEmpty then [] else l.take n :: cutEvery n k (l.drop n)

/-- The round keys of a key of 16 or 32 bytes. -/
def aesKeys (key : List Nat) : List (List Nat) :=
  let nk := key.length / 4
  let ws := aesExpand nk (4 * (nk + 7) - nk) 1 (cutEvery 4 nk key)
  cutEvery 16 (nk + 7) ws.flatten

def aesShiftRows (b : List Nat) : List Nat :=
  (List.range 16).map fun i => b.getD (i % 4 + 4 * ((i / 4 + i % 4) % 4)) 0

def aesMixColumn (c : List Nat) : List Nat :=
  (List.range 4).map fun i =>
    let at' (k : Nat) := c.getD ((i + k) % 4) 0
    aesTwice (at' 0) ^^^ (aesTwice (at' 1) ^^^ at' 1) ^^^ at' 2 ^^^ at' 3

/-- The rounds after the first key: the last one mixes no columns. -/
def aesRounds : List (List Nat) → List Nat → List Nat
  | [], b => b
  | k :: ks, b =>
    let b := aesShiftRows (b.map aesSub)
    let b := if ks.isEmpty then b else (cutEvery 4 4 b).flatMap aesMixColumn
    aesRounds ks (xorBytes b k)

/-- One block under a key. -/
def aes (key block : List Nat) : List Nat :=
  match aesKeys key with
  | [] => block
  | k :: ks => aesRounds ks (xorBytes block k)

/-! ## GCM (SP 800-38D) -/

/-- A block as a number, its first byte the most significant. -/
def blockNat (b : List Nat) : Nat := b.foldl (fun v x => 256 * v + x) 0

/-- The `n` bytes of a number, the most significant first. -/
def natBlock (n v : Nat) : List Nat := (List.range n).map fun i => v / 256 ^ (n - 1 - i) % 256

/-- The product of GF(2^128): `k` bits of `x` still to take, the most significant first. -/
def gfMul (x : Nat) : Nat → Nat → Nat → Nat
  | 0, _, z => z
  | k + 1, v, z =>
    gfMul x k (if v % 2 = 1 then v / 2 ^^^ 0xE1000000000000000000000000000000 else v / 2)
      (if x / 2 ^ k % 2 = 1 then z ^^^ v else z)

/-- Zero bytes up to a whole number of blocks. -/
def padBlock (l : List Nat) : List Nat := l ++ List.replicate ((16 - l.length % 16) % 16) 0

/-- GHASH of whole blocks. -/
def ghash (h : Nat) (l : List Nat) : Nat :=
  (cutEvery 16 (l.length / 16) l).foldl (fun y b => gfMul (y ^^^ blockNat b) 128 h 0) 0

/-- The key stream of `k` blocks from a counter block on. -/
def gcmStream (key iv : List Nat) : Nat → Nat → List Nat
  | 0, _ => []
  | k + 1, c => aes key (iv ++ natBlock 4 c) ++ gcmStream key iv k (c + 1)

/-- The text under the key stream, which starts at counter 2. -/
def gcmText (key iv l : List Nat) : List Nat := xorBytes l (gcmStream key iv ((l.length + 15) / 16) 2)

/-- The 16 B tag over additional data and ciphertext. -/
def gcmTag (key iv aad ct : List Nat) : List Nat :=
  let h := blockNat (aes key (List.replicate 16 0))
  xorBytes (aes key (iv ++ [0, 0, 0, 1]))
    (natBlock 16 (ghash h (padBlock aad ++ padBlock ct ++ natBlock 8 (8 * aad.length) ++ natBlock 8 (8 * ct.length))))

def toNats (l : List Byte) : List Nat := l.map BitVec.toNat
def ofNats (l : List Nat) : List Byte := l.map (BitVec.ofNat 8)

/-- IV byte j is nonce[8j+7:8j] (07 R241). -/
def gcmIv (nonce : BitVec 96) : List Nat := toNats (bytesOf 12 nonce.toNat)

/-- AES-256-GCM sealing (07 R240): ciphertext and tag. -/
def gcmSeal (key : List Byte) (nonce : BitVec 96) (aad text : List Byte) : List Byte × List Byte :=
  let k := toNats key
  let iv := gcmIv nonce
  let ct := gcmText k iv (toNats text)
  (ofNats ct, ofNats (gcmTag k iv (toNats aad) ct))

/-- AES-256-GCM opening: the plaintext when the tag holds. -/
def gcmOpen (key : List Byte) (nonce : BitVec 96) (aad ct tag : List Byte) : Option (List Byte) :=
  let k := toNats key
  let iv := gcmIv nonce
  if gcmTag k iv (toNats aad) (toNats ct) = toNats tag then some (ofNats (gcmText k iv (toNats ct))) else none

/-! ## CMAC (SP 800-38B) -/

/-- The next subkey: doubling in GF(2^128). -/
def cmacTwice (l : Nat) : Nat := if l < 2 ^ 127 then 2 * l else (2 * l % 2 ^ 128) ^^^ 0x87

/-- AES-CMAC of a message of bytes under a key of 16 or 32 bytes. -/
def cmac (key msg : List Byte) : List Byte :=
  let k := toNats key
  let m := toNats msg
  let k1 := cmacTwice (blockNat (aes k (List.replicate 16 0)))
  let n := max 1 ((m.length + 15) / 16)
  let last := m.drop (16 * (n - 1))
  let last := if last.length = 16 then xorBytes last (natBlock 16 k1)
    else xorBytes (padBlock (last ++ [0x80])) (natBlock 16 (cmacTwice k1))
  let x := (cutEvery 16 (n - 1) (m.take (16 * (n - 1)))).foldl (fun c b => aes k (xorBytes c b)) (List.replicate 16 0)
  ofNats (aes k (xorBytes x last))

/-! ## SHA-384 (FIPS 180-4) -/

/-- The round constants: the i-th is word i of this number. -/
def shaKs : Nat :=
  (((((((((((((0x6c44198c4a4758175fcb6fab3ad6faec597f299cfc657e2a4cc5d4becb3e42b6431d67c49c100d4c3c9ebe0a15c9bebc) * 2 ^ 384
    + 0x32caab7b40c7249328db77f523047d841b710b35131c471b113f9804bef90dae0a637dc5a2c898a606f067aa72176fba) * 2 ^ 384
    + 0xf57d4f7fee6ed178eada7dd6cde0eb1ed186b8c721c0c207ca273eceea26619cc67178f2e372532bbef9a3f7b2c67915) * 2 ^ 384
    + 0xa4506cebde82bde990befffa23631e288cc702081a6439ec84c87814a1f0ab7278a5636f43172f60748f82ee5defb2fc) * 2 ^ 384
    + 0x682e6ff3d6b2b8a35b9cca4f7763e3734ed8aa4ae3418acb391c0cb3c5c95a6334b0bcb5e19b48a82748774cdf8eeb99) * 2 ^ 384
    + 0x1e376c085141ab5319a4c116b8d2d0c8106aa07032bbd1b8f40e35855771202ad69906245565a910d192e819d6ef5218) * 2 ^ 384
    + 0xc76c51a30654be30c24b8b70d0f89791a81a664bbc423001a2bfe8a14cf1036492722c851482353b81c2c92e47edaee6) * 2 ^ 384
    + 0x766a0abb3c77b2a8650a73548baf63de53380d139d95b3df4d2c6dfc5ac42aed2e1b21385c26c92627b70a8546d22ffc) * 2 ^ 384
    + 0x142929670a0e6e7006ca6351e003826fd5a79147930aa725c6e00bf33da88fc2bf597fc7beef0ee4b00327c898fb213f) * 2 ^ 384
    + 0xa831c66d2db43210983e5152ee66dfab76f988da831153b55cb0a9dcbd41fbd44a7484aa6ea6e4832de92c6f592b0275) * 2 ^ 384
    + 0x240ca1cc77ac9c650fc19dc68b8cd5b5efbe4786384f25e3e49b69c19ef14ad2c19bf174cf6926949bdc06a725c71235) * 2 ^ 384
    + 0x80deb1fe3b1696b172be5d74f27b896f550c7dc3d5ffb4e2243185be4ee4b28c12835b0145706fbed807aa98a3030242) * 2 ^ 384
    + 0xab1c5ed5da6d8118923f82a4af194f9b59f111f1b605d0193956c25bf348b538e9b5dba58189dbbcb5c0fbcfec4d3b2f) * 2 ^ 128
    + 0x7137449123ef65cd428a2f98d728ae22

/-- Rotation of a 64-bit word to the right. -/
def ror64 (x n : Nat) : Nat := x >>> n ||| (x <<< (64 - n)) % 2 ^ 64

/-- The message schedule: `k` further words, from the words so far, the latest first. -/
def shaSchedule : Nat → List Nat → List Nat
  | 0, w => w
  | k + 1, w =>
    let a := w.getD 14 0
    let b := w.getD 1 0
    let s0 := ror64 a 1 ^^^ ror64 a 8 ^^^ (a >>> 7)
    let s1 := ror64 b 19 ^^^ ror64 b 61 ^^^ (b >>> 6)
    shaSchedule k ((w.getD 15 0 + s0 + w.getD 6 0 + s1) % 2 ^ 64 :: w)

/-- The rounds over the remaining words of the schedule; the state is the words a to h. -/
def shaRounds : Nat → List Nat → List Nat → List Nat
  | _, [], v => v
  | i, w :: ws, v =>
    let a := v.getD 0 0
    let e := v.getD 4 0
    let t := v.getD 7 0 + (ror64 e 14 ^^^ ror64 e 18 ^^^ ror64 e 41) + ((e &&& v.getD 5 0) ^^^ ((2 ^ 64 - 1 - e) &&& v.getD 6 0))
      + shaKs >>> (64 * i) % 2 ^ 64 + w
    let u := (ror64 a 28 ^^^ ror64 a 34 ^^^ ror64 a 39)
      + ((a &&& v.getD 1 0) ^^^ (a &&& v.getD 2 0) ^^^ (v.getD 1 0 &&& v.getD 2 0))
    shaRounds (i + 1) ws
      [(t + u) % 2 ^ 64, a, v.getD 1 0, v.getD 2 0, (v.getD 3 0 + t) % 2 ^ 64, e, v.getD 5 0, v.getD 6 0]

/-- One block of 128 bytes. -/
def shaBlock (h : List Nat) (b : List Nat) : List Nat :=
  let w := (shaSchedule 64 ((cutEvery 8 16 b).map blockNat).reverse).reverse
  (h.zip (shaRounds 0 w h)).map fun x => (x.1 + x.2) % 2 ^ 64

/-- The initial hash value of SHA-384. -/
def shaInit : List Nat :=
  [0xcbbb9d5dc1059ed8, 0x629a292a367cd507,
   0x9159015a3070dd17, 0x152fecd8f70e5939,
   0x67332667ffc00b31, 0x8eb44a8768581511,
   0xdb0c2e0d64f98fa7, 0x47b5481dbefa4fa4]

/-- SHA-384 of a byte string. -/
def sha384 (msg : List Byte) : List Byte :=
  let m := toNats msg
  let n := m.length
  let l := m ++ 0x80 :: List.replicate ((239 - n % 128) % 128) 0 ++ natBlock 16 (8 * n)
  ofNats (((cutEvery 128 (l.length / 128) l).foldl shaBlock shaInit).take 6 |>.flatMap (natBlock 8))

/-! ## ECDSA over P-384 (FIPS 186-5) -/

/-- The field, the order of the base point, the coefficient b and the base point. -/
def p384P : Nat := 2 ^ 384 - 2 ^ 128 - 2 ^ 96 + 2 ^ 32 - 1
def p384N : Nat := 0xffffffffffffffffffffffffffffffffffffffffffffffffc7634d81f4372ddf581a0db248b0a77aecec196accc52973
def p384B : Nat := 0xb3312fa7e23ee7e4988e056be3f82d19181d9c6efe8141120314088f5013875ac656398d8a2ed19d2a85c8edd3ec2aef
def p384X : Nat := 0xaa87ca22be8b05378eb1c71ef320ad746e1d3b628ba79b9859f741e082542a385502f25dbf55296c3a545e3872760ab7
def p384Y : Nat := 0x3617de4a96262c6f5d9e98bf9292dc29f8f41dbd289a147ce9da3113b5f0b8c00a60b1ce1d7e819d7a431d7c90ea0e5f

/-- A power modulo `m`, over `k` bits of the exponent, the most significant first. -/
def powMod (m b e : Nat) : Nat → Nat → Nat
  | 0, r => r
  | k + 1, r => powMod m b e k (if e / 2 ^ k % 2 = 1 then r * r % m * b % m else r * r % m)

/-- The inverse modulo a prime. -/
def invMod (m a : Nat) : Nat := powMod m (a % m) (m - 2) 384 1

/-- Subtraction in the field. -/
def fsub (a b : Nat) : Nat := (a + p384P - b % p384P) % p384P

/-- A point in Jacobian coordinates; z is 0 at infinity. -/
structure CurvePt where
  x : Nat
  y : Nat
  z : Nat
  deriving DecidableEq, Repr

def CurvePt.twice (q : CurvePt) : CurvePt :=
  let y2 := q.y * q.y % p384P
  let s := 4 * q.x * y2 % p384P
  let z2 := q.z * q.z % p384P
  let m := 3 * fsub q.x z2 * (q.x + z2) % p384P
  let x := fsub (m * m) (2 * s)
  ⟨x, fsub (m * fsub s x) (8 * y2 * y2), 2 * q.y * q.z % p384P⟩

def CurvePt.add (q r : CurvePt) : CurvePt :=
  if q.z = 0 then r
  else if r.z = 0 then q
  else
    let z1 := q.z * q.z % p384P
    let z2 := r.z * r.z % p384P
    let u1 := q.x * z2 % p384P
    let s1 := q.y * r.z * z2 % p384P
    let h := fsub (r.x * z1) u1
    let d := fsub (r.y * q.z * z1) s1
    if h = 0 then (if d = 0 then q.twice else ⟨1, 1, 0⟩)
    else
      let h2 := h * h % p384P
      let h3 := h * h2 % p384P
      let v := u1 * h2 % p384P
      let x := fsub (fsub (d * d) h3) (2 * v)
      ⟨x, fsub (d * fsub v x) (s1 * h3), h * q.z * r.z % p384P⟩

/-- u G + v Q over `k` bits, the most significant first. -/
def CurvePt.mulAdd (g q : CurvePt) (u v : Nat) : Nat → CurvePt → CurvePt
  | 0, a => a
  | k + 1, a =>
    let a := a.twice
    let a := if u / 2 ^ k % 2 = 1 then a.add g else a
    CurvePt.mulAdd g q u v k (if v / 2 ^ k % 2 = 1 then a.add q else a)

/-- A signature verifies over a digest under a public key: X and Y, and r and s, of 48 B each, little-endian (06 R180,
R181). -/
def ecdsa384 (key dig sig : List Byte) : Bool :=
  let x := ofBytes (key.take 48)
  let y := ofBytes ((key.drop 48).take 48)
  let r := ofBytes (sig.take 48)
  let s := ofBytes ((sig.drop 48).take 48)
  let onCurve := decide (x < p384P ∧ y < p384P ∧ y * y % p384P = (fsub (x * x) 3 * x + p384B) % p384P)
  let w := invMod p384N s
  let u := blockNat (toNats dig) * w % p384N
  let v := r * w % p384N
  let a := CurvePt.mulAdd ⟨p384X, p384Y, 1⟩ ⟨x, y, 1⟩ u v 384 ⟨1, 1, 0⟩
  let zi := invMod p384P a.z
  onCurve && decide (0 < r ∧ r < p384N ∧ 0 < s ∧ s < p384N) && a.z != 0
    && a.x * (zi * zi % p384P) % p384P % p384N == r

end Sys2Proof
end

