-- ==== Sys2Proof/Machine/ConnOps.lean ====
section
/-! DEFINITION. Operations of connections (07): streams and their windows, sealing, control packets, sending and
retransmission, and canvases with the key check. -/

namespace Sys2Proof.Machine

/-- STATE of a connection (07 R211). -/
def State.connState (s : State) (n : Nat) : Nat := s.rd (F.conn_STATE n)

/-- Names of the connection states. -/
abbrev CS.free : Nat := 0
abbrev CS.active : Nat := 1
abbrev CS.rekeying : Nat := 2
abbrev CS.broken : Nat := 3

def State.cx (s : State) (n : Nat) : Conn := s.conns.at n {}
def State.setCx (s : State) (n : Nat) (f : Conn → Conn) : State := { s with conns := s.conns.upd n {} f }

/-- The sending and receiving side of a stream: request, or reply. -/
def Conn.tx (c : Conn) (reply : Bool) : Tx := if reply then c.tx1 else c.tx0
def Conn.rx (c : Conn) (reply : Bool) : Rx := if reply then c.rx1 else c.rx0

/-- The sending side changes; words 2, 3, 5, 6 and 10 of the context show it (07 R211). -/
def State.setTx (s : State) (n : Nat) (reply : Bool) (f : Tx → Tx) : State :=
  let s := s.setCx n fun c => if reply then { c with tx1 := f c.tx1 } else { c with tx0 := f c.tx0 }
  let a := (s.cx n).tx0
  let b := (s.cx n).tx1
  if reply then (s.wr (F.conn_RTXNEXT n) b.next).wr (F.conn_RTXCUM n) b.cum
  else
    ((((((((s.wr (F.conn_TXNEXT n) a.next).wr (F.conn_TXCUM n) a.cum).wr (F.conn_CWND n) a.cwnd).wr
      (F.conn_PEERCLAMP n) a.clamp).wr (F.conn_SRTT n) a.srtt).wr (F.conn_RTO n) a.rto).wr
      (F.conn_RETRIES n) a.retries).wr (F.conn_RTTVAR n) a.rttvar)

/-- Packets that a receiving side stages. -/
def Rx.staged (r : Rx) : Nat := (r.seqs.filter fun c => c.2.st == .staged).length

/-- The receiving side changes; words 4 and 6 of the context show it. -/
def State.setRx (s : State) (n : Nat) (reply : Bool) (f : Rx → Rx) : State :=
  let s := s.setCx n fun c => if reply then { c with rx1 := f c.rx1 } else { c with rx0 := f c.rx0 }
  if reply then s.wr (F.conn_RRXNEXT n) (s.cx n).rx1.mark
  else (s.wr (F.conn_RXNEXT n) (s.cx n).rx0.mark).wr (F.conn_TIDE n) (s.cx n).rx0.staged

/-- The connection is IN_ORDER. -/
def State.inOrder (s : State) (n : Nat) : Bool := !s.on (F.conn_MODE n)

/-! ## Constants of CNX_TIMING (07 R247), in nanoseconds -/

def State.rtoMax (s : State) : Nat := s.rd F.cnxTiming_RTO_MAX * 1000
def State.rtoInit (s : State) : Nat := s.rd F.cnxTiming_RTO_INIT * 1000
def State.rtoMin (s : State) : Nat := max 4 (s.rd F.cnxTiming_RTO_MIN) * 1000
def State.ackDelay (s : State) : Nat := s.rd F.cnxTiming_ACK_DELAY * 100
def State.ackEvery (s : State) : Nat := max 1 (s.rd F.cnxTiming_ACK_EVERY)
def State.nrBackoff (s : State) : Nat := s.rd F.cnxTiming_NR_BACKOFF * 1000

/-- RETRY_LIMIT of a connection. -/
def State.retryLimit (s : State) (n : Nat) : Nat :=
  if s.rd (F.conn_RETRY_LIMIT n) = 0 then 16 else s.rd (F.conn_RETRY_LIMIT n)

/-- The payload limit P of one packet (07 R221). -/
def State.connP (s : State) (n : Nat) : Nat := 2048 - e2eLen (s.rd (F.conn_E2E n))

/-! ## Sealing (07 R240, R241, 01 R20) -/

/-- The direction bit of packets that this end sends, and of those that its peer, whose LOCAL is this end's PEER, sends. -/
def State.connDir (s : State) (n : Nat) : Nat := if s.rd (F.conn_LOCAL n) < s.rd (F.conn_PEER n) then 0 else 1
def State.peerDir (s : State) (n : Nat) : Nat := if s.rd (F.conn_PEER n) < s.rd (F.conn_LOCAL n) then 0 else 1

/-- A packet sealed under a key: ciphertext and tag, a CRC, or no trailer, as its E2E names. -/
def sealWith (key : List Byte) (dir : Nat) (p : Packet) : Packet :=
  if p.get H.e2e = 2 then
    let nonce := gcmNonce (p.get H.conn) dir (seqKind (p.get H.ptype)) (p.get H.epoch) (p.get H.seq)
    let r := gcmSeal key nonce (e2eHeader p.hdr).toByteList p.payload
    { p with payload := r.1, trailer := r.2 }
  else p.withCrc

/-- The packet opened under a key when its end-to-end check holds; a GCM tag stays with the packet
(notes/assumptions/44.md). -/
def openWith (key : List Byte) (dir : Nat) (p : Packet) : Option Packet :=
  if p.get H.e2e = 2 then
    let nonce := gcmNonce (p.get H.conn) dir (seqKind (p.get H.ptype)) (p.get H.epoch) (p.get H.seq)
    (gcmOpen key nonce (e2eHeader p.hdr).toByteList p.payload p.trailer).map fun d =>
      { p with payload := d }
  else if p.crcOk then some { p with trailer := [] } else none

/-- A packet sealed as connection `n` sends it. -/
def State.seal (s : State) (n : Nat) (p : Packet) : Packet := sealWith ((s.cx n).cur.getD []) (s.connDir n) p

/-- The header of a packet of a connection: endpoints, tenant, connection number, epoch and E2E. -/
def State.connHeader (s : State) (n ptype : Nat) : Octet :=
  let h := mkHeader ptype (s.rd (F.conn_LOCAL n)) (s.rd (F.conn_PEER n)) (s.rd (F.conn_TENANT n))
  ((h.set H.conn (s.rd (F.conn_PEERCONN n))).set H.epoch (s.rd (F.conn_EPOCH n))).set H.e2e (s.rd (F.conn_E2E n))

/-! ## Counts that become due (07 R243) -/

/-- A count is due. -/
def dueAt : Nat := 0xFFF00000
/-- A count stops new sending. -/
def stopAt : Nat := 0xFFFFF000

/-- One of the counts of this end has reached a value. -/
def State.countReached (s : State) (n v : Nat) : Bool :=
  let c := s.cx n
  decide (v ≤ c.tx0.next) || decide (v ≤ c.tx1.next) || decide (v ≤ c.ctl)

/-- NEXTKEY, or 1 where E2E is not GCM (07 R243). -/
def State.nextKey (s : State) (n : Nat) : Bool := s.rd (F.conn_E2E n) != 2 || (s.cx n).nxt.isSome

/-- The REKEY_DUE event of an encrypted end without a NEXT key, once. -/
def State.dueCheck (s : State) (n : Nat) : State :=
  if s.rd (F.conn_E2E n) = 2 ∧ (s.cx n).nxt = none ∧ !(s.cx n).dueSent ∧ s.countReached n dueAt then
    (s.setCx n fun c => { c with dueSent := true }).postEvent (s.rd (F.conn_EQ n)) 0x0102 0 (BitVec.ofNat 64 n)
  else s

/-! ## Control packets (07 R222, R231, R232) -/

/-- A tenant's policer is exhausted (04 R125). -/
def State.policed (s : State) (t : Nat) : Bool :=
  (s.metering.policers.at t {}).en && decide (signedOf 25 (s.rd (F.ten_POL_TOKENS t)) ≤ 0)

/-- The window limit that the device returns for a tenant (07 R231). -/
def State.winLimit (s : State) (t : Nat) : Nat := if s.policed t then max 1 (min 2048 (s.rd (F.ten_WCLAMP t))) else 2048

/-- The header under which a packet of connection `n` leaves: the connection's own fields, the rest as built (07 R208,
R210, R221). -/
def State.connFields (s : State) (n : Nat) (h : Octet) : Octet :=
  let c := s.connHeader n (h.get H.ptype)
  let h := ((h.plain.set H.src (c.get H.src)).set H.dst (c.get H.dst)).set H.tenant (c.get H.tenant)
  ((h.set H.conn (c.get H.conn)).set H.epoch (c.get H.epoch)).set H.e2e (c.get H.e2e)

/-- Sealing a packet of connection `n` reads its key slot, which cannot be read (16 R511). -/
def State.keyLost (s : State) (n : Nat) : Bool := s.rd (F.conn_E2E n) == 2 && s.latent Src.CNX_KEY_UNCORR n

/-- A control packet of connection `n` takes the next control count, is sealed and leaves. No count is used twice in an
epoch: once the count has used all its values no control packet is sent before the switch (07 R241, R243). One whose
key slot cannot be read is not sent (notes/assumptions/71.md). -/
def State.ctlLeaves (s : State) (n : Nat) (p : Packet) (sender : Option Nat := none) : State :=
  if 2 ^ 32 ≤ (s.cx n).ctl then s
  else if s.keyLost n then s.latentRaise Src.CNX_KEY_UNCORR n
  else
    let h := ((s.connFields n p.hdr).set H.seq (s.cx n).ctl).set H.ahash (Config.adaptiveHash s.free).toNat
    let s := (s.drawn).inject (s.seal n { p with hdr := h }) none none sender
    (s.setCx n fun c => { c with ctl := c.ctl + 1 }).dueCheck n

/-- A control packet that connection `n` forms. -/
def State.sendCtl (s : State) (n ptype opmod offset tag : Nat) : State :=
  let h := (s.connHeader n ptype).set H.opmod opmod
  let h := ((h.set H.ckey (s.winLimit (s.rd (F.conn_TENANT n)))).set H.offset offset).set H.tag tag
  s.ctlLeaves n { hdr := h, payload := [], trailer := [] }

/-- The SACK bitmap of a receiving side (07 R231). A refused SEQ has no bit. -/
def Rx.sack (r : Rx) : Nat :=
  r.seqs.foldl
    (fun v c =>
      let i := serialSub 32 c.1 r.mark
      if 1 ≤ i ∧ i ≤ 64 then
        match c.2.st with
        | .refused _ => v
        | _ => v + 2 ^ (i - 1)
      else v) 0

/-- An ACK of a stream is sent now; `conf` confirms a refused SEQ. -/
def State.sendAck (s : State) (n : Nat) (reply : Bool) (rekey : Bool := false) (conf : Option Nat := none) : State :=
  let r := (s.cx n).rx reply
  let md := r.ce.toNat * 128 + reply.toNat * 64 + rekey.toNat * 32 + conf.isSome.toNat * 16
    + (s.countReached n dueAt).toNat * 8
  let s := s.sendCtl n PT.ack md (conf.getD 0 % 65536 * 2 ^ 32 + r.mark % 2 ^ 32) r.sack
  s.setRx n reply fun r => { r with fresh := 0, firstAt := none, ce := false }

/-- A NACK of a packet of a stream (07 R232). -/
def State.sendNack (s : State) (n reason seq : Nat) (reply : Bool := false) : State :=
  s.sendCtl n PT.nack reason (seq % 2 ^ 32) reply.toNat

/-- NACK reasons (07 R232). -/
abbrev NR.notReady : Nat := 0x01
abbrev NR.key : Nat := 0x03
abbrev NR.bounds : Nat := 0x04
abbrev NR.broken : Nat := 0xFE
abbrev NR.placeFailed : Nat := 0xFF

/-! ## Sending (07 R221, R235, R239) -/

/-- Bytes of the retransmission store that one stream kind uses. -/
def State.rtxUse (s : State) (reply : Bool) : Nat :=
  s.conns.foldl (fun k c => ((c.2.tx reply).copies).foldl (fun k x => k + x.pkt.cost) k) 0

/-- INUSE follows the copies held. -/
def State.rtxSync (s : State) : State := s.wr F.cnxRtxCfg_INUSE ((s.rtxUse false + s.rtxUse true + 1023) / 1024)

/-- The store has room for a copy: requests leave a quarter of it to replies (07 R235). -/
def State.rtxRoom (s : State) (reply : Bool) (n : Nat) : Bool :=
  let size := s.rd F.cnxRtxCfg_SIZE * 1048576
  if reply then decide (s.rtxUse false + s.rtxUse true + n ≤ size)
  else decide (s.rtxUse false + n ≤ size / 4 * 3 ∧ s.rtxUse false + s.rtxUse true + n ≤ size)

/-- The stream may send a new packet (07 R239, R243, R244). -/
def State.windowOpen (s : State) (n : Nat) (reply : Bool) : Bool :=
  let t := (s.cx n).tx reply
  s.connState n == CS.active && decide (serialSub 32 t.next t.cum < min t.cwnd t.clamp) && !s.countReached n stopAt

/-- The last reply of a transient canvas's read is noted (08 R272). -/
def State.transNote (s : State) (n : Nat) (p : Packet) (q : Nat) : State :=
  { s with mtch := { s.mtch with trans := s.mtch.trans.map fun t =>
      match t.reading with
      | some (k, len) =>
        if t.conn = n ∧ k = p.get H.tag % 2 ^ 32 ∧ len ≤ p.get H.offset + p.get H.len then { t with last := some q } else t
      | none => t } }

/-- A packet of a connection is still without CUM or SACK. -/
def State.unsacked (s : State) (c : Nat × Nat) : Bool :=
  (s.cx c.1).tx0.copies.any fun x => x.seq == c.2 && !x.sacked

/-- A flagged packet of the connection is held: later packets of the connection wait behind it (10 R344), but not behind one
that a drain alone still holds (R351). -/
def State.flaggedHeld (s : State) (n : Nat) : Bool :=
  s.route.flagged.any fun h => !(s.drainHolds h.pkt && !h.behind.any s.unsacked) && ptOnConn (h.pkt.get H.ptype) && h.pkt.get H.conn == s.rd (F.conn_PEERCONN n)
    && h.pkt.get H.dst == s.rd (F.conn_PEER n)

/-- The queue whose eager SEND is part sent on a connection: no other packet takes a SEQ between (08 R264). -/
def State.sendOpen (s : State) (n : Nat) : Option Nat :=
  (s.queues.find? fun (v : Nat × QueueSt) =>
    match v.2.next with
    | x :: _ => x.conn == some n && x.pkt.get H.ptype == PT.sendEager && x.pkt.get H.offset != 0
    | [] => false).map (·.1)

/-- A packet takes the next SEQ of its stream, is sealed, copied and injected; a request whose reply is awaited
is recorded (07 R221, R224, R235). One whose key slot cannot be read stays in its copy, which the retransmission timer sends
(notes/assumptions/71.md). -/
def State.txSend (s : State) (n : Nat) (w : TxWait) : State :=
  let reply := w.pkt.get H.mclass == 1
  let q := ((s.cx n).tx reply).next
  let p := ((w.pkt.set H.seq q).set H.epoch (s.rd (F.conn_EPOCH n))).set H.e2e (s.rd (F.conn_E2E n))
  let p := s.seal n (p.set H.ahash (Config.adaptiveHash s.free).toNat)
  let open' := s.pairOpen p
  let s := (s.drawn).setTx n reply fun t =>
    { t with next := t.next + 1, copies := t.copies ++ [{ seq := q, pkt := p, sentAt := s.now, sentTim := s.tim, owner := w.owner }] }
  let s := match w.req with
    | some o => s.setCx n fun c => { c with outst := c.outst ++ [{ o with seq := q }] }
    | none => s
  let s := if w.pkt.get H.ptype = PT.getResp then s.transNote n w.pkt q else s
  let s := if s.keyLost n then s.latentRaise Src.CNX_KEY_UNCORR n else s.launch p none open' w.sender
  s.rtxSync.dueCheck n

/-- The packet that waits first in each stream (07 R209). -/
def Conn.heads (c : Conn) : List TxWait :=
  [false, true].filterMap fun reply => c.wait.find? fun w => (w.pkt.get H.mclass == 1) == reply

/-- A waiting packet of connection `n` may leave: its stream's window and its share of the store have room (07 R209, R235, R239),
and nothing holds its class back (10 R344, R351, 08 R264). -/
def State.txMay (s : State) (n : Nat) (w : TxWait) : Bool :=
  let reply := w.pkt.get H.mclass == 1
  s.windowOpen n reply && (reply || (s.mayInjectRequest && (s.sendOpen n).isNone)) && s.rtxRoom reply w.pkt.cost && !s.flaggedHeld n

/-- Packets of the connection unit that wait leave, each stream's in order, while their stream permits; the fuel counts them. -/
def State.txDrain (n : Nat) : Nat → State → State
  | 0, s => s
  | k + 1, s =>
    match (s.cx n).heads.find? (s.txMay n) with
    | none => s
    | some w => State.txDrain n k ((s.setCx n fun c => { c with wait := c.wait.erase w }).txSend n w)

/-- The waiting packets of a connection are looked at. -/
def State.txWaiting (s : State) (n : Nat) : State := State.txDrain n ((s.cx n).wait.length) s

/-- A packet is handed to the connection unit (07 R221): it leaves, or waits behind those of its stream that wait. -/
def State.txHand (s : State) (n : Nat) (w : TxWait) : State :=
  (s.setCx n fun c => { c with wait := c.wait ++ [w] }).txWaiting n

/-- The packet waits for store room alone, in the window of its connection (07 R235). -/
def State.roomless (s : State) (n : Nat) (p : Packet) : Bool :=
  let reply := p.get H.mclass == 1
  s.windowOpen n reply && !s.rtxRoom reply p.cost

/-- Each wait for store room is counted once in RTX_FULL (07 R235): of the first packet that waits in a stream of a connection,
and of the next packet of a work queue. -/
def State.rtxWaits (s : State) : State :=
  let a := s.conns.flatMap fun c => (c.2.heads.filter fun w => !w.full && s.roomless c.1 w.pkt).map fun w => (c.1, w)
  let b := (s.queues.filter fun v => !v.2.full && v.2.next.head?.any fun x => x.conn.any fun n => s.roomless n x.pkt).map (·.1)
  let s := a.foldl
    (fun t x => (t.setCx x.1 fun c => { c with wait := c.wait.replace x.2 { x.2 with full := true } }).count F.cnxStat_RTX_FULL) s
  b.foldl (fun t q => (t.setQue q fun v => { v with full := true }).count F.cnxStat_RTX_FULL) s

/-- A copy is sent again unchanged (07 R235, 10 R351): counted in RETRANS. A flagged packet still
held has not been sent. A poisoned copy contains the connection (16 R511). -/
def State.resend (s : State) (n : Nat) (reply : Bool) (x : TxCopy) : State :=
  if s.latent Src.RTX_UNCORR n then s.latentRaise Src.RTX_UNCORR n else
  if (x.pkt.get H.mclass = 0 ∧ !s.mayInjectRequest) ∨ s.route.flagged.any (fun h => h.pkt == x.pkt) = true then s
  else
    let s := s.setTx n reply fun t =>
      { t with copies := t.copies.map fun y =>
          if y.seq = x.seq then { y with sentAt := s.now, once := false, nrDue := none, pause := 0 } else y }
    ((s.count (F.conn_RETRANS n)).tally 16 0x88).inject x.pkt

/-! ## How an operation ends at its sender (07 R223, R232) -/

/-- Packets of an entry are still unsent, waiting or unacknowledged on a connection. -/
def State.entryOpen (s : State) (n q id : Nat) : Bool :=
  (s.que q).next.any (·.id == id) || (s.cx n).wait.any (fun w => w.owner == some (q, id))
    || (s.cx n).tx0.copies.any (fun x => x.owner == some (q, id))

/-- A request of the entry whose reply is awaited. -/
def State.entryAwaits (s : State) (n q id : Nat) : Bool := (s.cx n).outst.any fun o => o.owner == some (q, id)

/-- A SEND whose transient canvas is in use. -/
def State.entryRndv (s : State) (q id : Nat) : Bool := s.mtch.trans.any fun t => t.owner == (q, id)

/-- The entry ends once nothing of it is open: OK, a SEND with LEN bytes (03 R90), or with the status of its lowest
refused SEQ, or of the source read that cut it short (07 R221). -/
def State.entryCheck (s : State) (n q id : Nat) : State :=
  if s.entryOpen n q id || s.entryRndv q id then s
  else
    match s.taken q id with
    | none => s
    | some t =>
      match t.refusal with
      | some r => s.finishEntry q id { status := r.2 }
      | none =>
        if s.entryAwaits n q id then s
        else if t.cut.isSome then s.finishEntry q id { status := t.cut.getD 0 }
        else s.finishEntry q id { status := ST.ok, bytes := if t.entry.get W.opcode = 5 then t.entry.get W.len else 0 }

/-- A packet that a connection has sent is still in this device (07 R249). -/
def State.inside (s : State) (p : Packet) : Bool :=
  let same (x : Packet) : Bool :=
    x.get H.dst == p.get H.dst && x.get H.conn == p.get H.conn && x.get H.ptype == p.get H.ptype && x.get H.seq == p.get H.seq
      && x.get H.epoch == p.get H.epoch
  s.route.flagged.any (fun h => same h.pkt) || s.route.held.any (fun h => same h.pkt)
    || s.route.landing.any (fun x => same x.item.pkt) || s.ports.any fun v => v.2.txq.any fun i => same i.pkt

/-- The entry of a LOOSE connection ends once its last packet has left this device (07 R223, R249, 08 R264): a PUT or an eager
SEND. -/
def State.looseEnd (s : State) (q : Nat) (t : Taken) : State :=
  let n := t.entry.get W.conn
  let op := t.entry.get W.opcode
  let open' := (s.que q).next.any (·.id == t.id)
    || (s.cx n).tx0.copies.any fun x => x.owner == some (q, t.id) && s.inside x.pkt
  if s.inOrder n || !t.started || open' || s.entryRndv q t.id || s.mtch.waits.contains (q, t.id) then s
  else
    match t.refusal, t.cut with
    | some r, _ => s.finishEntry q t.id { status := r.2 }
    | none, some st => s.finishEntry q t.id { status := st }
    | none, none => s.finishEntry q t.id { status := ST.ok, bytes := if op = 5 then t.entry.get W.len else 0 }

/-- An entry that ends when its packets leave, if its connection is LOOSE: a PUT or a SEND; not one that a sketch took, which the sketch
completes (07 R234). -/
def Taken.leaves (t : Taken) : Bool :=
  t.res.isNone && !t.popped && ((t.entry.get W.opcode == 1 && t.entry.get W.opmod == 0) || t.entry.get W.opcode == 5)

/-- The waiting packets of every connection are looked at: what one connection's acknowledgements free is room for another (07 R235).
In the order of their numbers: DESIGN CHOICE (notes/assumptions/72.md). -/
def State.waitSync (s : State) : State :=
  s.conns.foldl (fun t c => if c.2.wait.isEmpty then t else t.txWaiting c.1) s

/-- Every entry of a LOOSE connection whose packets have left ends. -/
def State.looseSync (s : State) : State :=
  s.queues.foldl
    (fun t v => if t.rd (F.qctx_TYPE v.1) = 0 then (v.2.taken.filter Taken.leaves).foldl (fun u x => u.looseEnd v.1 x) t else t) s

/-- The lowest refused SEQ of an entry is recorded with its status. -/
def State.refuseEntry (s : State) (q id seq status : Nat) : State :=
  s.setQue q fun v =>
    { v with taken := v.taken.map fun t =>
        if t.id = id then
          match t.refusal with
          | some r => if precedes 32 seq r.1 then { t with refusal := some (seq, status) } else t
          | none => { t with refusal := some (seq, status) }
        else t }

/-! ## Canvases (07 R216 to R219, R245) -/

/-- A canvas entry of the transient range (08 R270). -/
def State.transientRange (s : State) (i : Nat) : Bool :=
  decide (s.rd F.mtcCfg_RNDV_BASE ≤ i ∧ i < s.rd F.mtcCfg_RNDV_BASE + max 1 (s.rd F.mtcCfg_RNDV_COUNT))

/-- The length that the bounds check of R219 takes. -/
def rmaLength (p : Packet) : Nat :=
  if p.get H.ptype = PT.getReq then p.get H.tag % 33554432 else if p.get H.ptype = PT.atomReq then 8 else p.get H.len

/-- The key check of R219: 0 passed, or the status. A transient canvas serves one read, which
may come again under its SEQ (08 R272). -/
def State.canvasCheck (s : State) (p : Packet) : Nat :=
  let key := p.get H.ckey
  let i := key % 1048576
  let pt := p.get H.ptype
  let right := if pt = PT.put then s.on (F.cvs_RWRITE i) else if pt = PT.getReq then s.on (F.cvs_RREAD i)
    else s.on (F.cvs_RATOM i)
  let spent := s.mtch.trans.any fun t => t.canvas == i && t.reading.any fun r => r.1 != p.get H.seq
  if s.rd (F.cvs_STATE i) ≠ 1 ∨ s.rd (F.cvs_KEYTAG i) ≠ key / 1048576 ∨ s.rd (F.cvs_TENANT i) ≠ p.get H.tenant
      ∨ spent = true then NR.key
  else if right = false then NR.key
  else if s.rd (F.cvs_LENGTH i) < p.get H.offset + rmaLength p then NR.bounds
  else 0

/-- MTC_USE.RNDV counts the transient canvases that are not FREE (08 R280). -/
def State.rndvSync (s : State) : State := s.wr F.mtcUse_RNDV s.mtch.trans.length

/-- A revoked canvas without packets in flight becomes FREE (07 R245): CANVAS_REVOKED, or for a transient one the
SEND completes (08 R272). -/
def State.canvasEnd (s : State) (i : Nat) : State :=
  if s.rd (F.cvs_STATE i) = 2 ∧ s.rd (F.cvs_INFLIGHT i) = 0 then
    let s := s.wr (F.cvs_STATE i) 0
    match s.mtch.trans.find? fun t => t.canvas == i with
    | some t =>
      let s := { s with mtch := { s.mtch with trans := s.mtch.trans.filter fun x => x.canvas ≠ i } }
      let s := s.rndvSync
      if t.done then s.finishEntry t.owner.1 t.owner.2 { status := ST.ok, bytes := (t.reading.map (·.2)).getD 0 } else s
    | none =>
      s.postEvent (s.rd (F.cvs_EQ i)) 0x0101 0 (BitVec.ofNat 64 (s.rd (F.cvs_KEYTAG i) * 1048576 + i))
  else s

/-- A VALID canvas is revoked (07 R245). -/
def State.canvasRevoke (s : State) (i : Nat) : State :=
  if s.rd (F.cvs_STATE i) = 1 then (s.wr (F.cvs_STATE i) 2).canvasEnd i else s

/-- A packet that passed the key check is reported (07 R219). -/
def State.canvasReport (s : State) (i : Nat) : State :=
  (s.wr (F.cvs_INFLIGHT i) (s.rd (F.cvs_INFLIGHT i) - 1)).canvasEnd i

/-! ## Receiving (07 R228 to R231) -/

/-- The mark advances over resolved SEQs; the fuel counts them. -/
def Rx.advance (r : Rx) : Nat → Rx
  | 0 => r
  | k + 1 =>
    match r.seqs.find r.mark with
    | some x => if x.st = .resolved then Rx.advance { r with mark := r.mark + 1, seqs := r.seqs.del r.mark } k else r
    | none => r

/-- A SEQ is settled; the ACK of R231 is sent when ACK_EVERY have been. -/
def State.settleSeq (s : State) (n : Nat) (reply : Bool) (q : Nat) : State :=
  let r := (s.cx n).rx reply
  match r.seqs.find q with
  | none => s
  | some x =>
    let r := { r with seqs := r.seqs.put q { x with st := .resolved } }
    let r := Rx.advance r r.seqs.length
    let r := { r with fresh := r.fresh + 1, firstAt := some (r.firstAt.getD s.now) }
    let s := s.setRx n reply fun _ => r
    if s.ackEvery ≤ r.fresh then s.sendAck n reply else s

/-- A SEQ is resolved, its packet metered unless it was NACKed (04 R133). -/
def State.resolve (s : State) (n : Nat) (reply : Bool) (q : Nat) : State :=
  let s :=
    match ((s.cx n).rx reply).seqs.find q with
    | some { st := .refused _, .. } => s
    | some x => s.meterRx x.pkt
    | none => s
  s.settleSeq n reply q

/-- A SEQ is forgotten: the sender sends it again. -/
def State.unreceive (s : State) (n : Nat) (reply : Bool) (q : Nat) : State :=
  s.setRx n reply fun r => { r with seqs := r.seqs.del q }

/-- A final refusal is held and answered (07 R232). -/
def State.refuse (s : State) (n reason q : Nat) : State :=
  let s := s.setRx n false fun r =>
    match r.seqs.find q with
    | some x => { r with seqs := r.seqs.put q { x with st := .refused reason } }
    | none => r
  s.sendNack n reason q

end Sys2Proof.Machine
end

