-- ==== Sys2Proof/Machine/MatchOps.lean ====
section
/-! DEFINITION. Operations of matching (08): the winner rule, posting, unexpected messages, hand-off outcomes,
placement, and the ends of receives. -/

namespace Sys2Proof.Machine

/-- A posted receive matches a message (08 R250). -/
def matches' (e : Octet) (src : Nat) (tag : Word) : Bool :=
  (e.get RP.srcAny == 1 || e.get RP.src == src) && ((tag ^^^ e.w4) &&& ~~~e.w5) == 0

/-- A posted receive is wild (08 R250). -/
def isWild (e : Octet) : Bool := e.get RP.srcAny == 1 || e.w5 != 0

/-- STATE, limits and counts of a matching context (08 R251). -/
def State.mtcActive (s : State) (m : Nat) : Bool := s.rd (F.mtc_STATE m) == 1
def State.postMax (s : State) (m : Nat) : Nat :=
  if s.rd (F.mtc_POST_MAX m) = 0 then 1048576 else s.rd (F.mtc_POST_MAX m)
def State.unexpMax (s : State) (m : Nat) : Nat :=
  if s.rd (F.mtc_UNEXP_MAX m) = 0 then 262144 else s.rd (F.mtc_UNEXP_MAX m)

/-- The bin of a key (08 R257): bits [19:0] of the CRC-32C of its 16 bytes. -/
def binOf (m src : Nat) (tag : Word) : Nat :=
  (crc32c (bytesOf 8 (m * 2 ^ 32 + src) ++ bytesOf 8 tag.toNat)).toNat % 1048576

/-- The older of two posted receives of a context (08 R256). -/
def olderPost (a b : Post) : Post := if precedes 48 b.ord a.ord then b else a

/-- The receive that wins a message (08 R258): the first of its bin with its key or the first of the wild list that
matches, whichever is older. -/
def State.winner (s : State) (m src : Nat) (tag : Word) : Option Post :=
  let b := (s.mtch.bins.at (binOf m src tag) []).find? fun p => p.mctx == m && matches' p.entry src tag
  let w := (s.mtch.wild.at m []).find? fun p => matches' p.entry src tag
  match b, w with
  | some b, some w => some (if precedes 48 b.ord w.ord then b else w)
  | some b, none => some b
  | none, w => w

/-- The counts of a context and of the device follow the lists (08 R251, R280). -/
def State.mtcSync (s : State) (m : Nat) : State :=
  let ps := s.mtch.posts.filter (·.mctx == m)
  let us := s.mtch.unexp.filter fun u => u.mctx == m && !u.taken
  let s := (s.wr (F.mtc_POSTED m) ps.length).wr (F.mtc_WILD m) (ps.filter fun p => isWild p.entry).length
  let s := s.wr (F.mtc_UNEXP m) us.length
  (s.wr F.mtcUse_POSTED s.mtch.posts.length).wr F.mtcUse_UNEXP (s.mtch.unexp.filter fun u => !u.taken).length

/-- The unexpected message that a receive matches first (08 R255). -/
def State.firstUnexp (s : State) (m : Nat) (e : Octet) : Option Unexp :=
  s.mtch.unexp.find? fun u => u.mctx == m && !u.taken && matches' e (u.hdr.get H.src) u.hdr.w5

/-- The oldest live post of a context. -/
def State.oldestPost (s : State) (m : Nat) : Option Post :=
  (s.mtch.posts.filter (·.mctx == m)).foldl (fun o p => some (match o with | some x => olderPost x p | none => p)) none

/-- The next ordinal may not be given yet (08 R256). -/
def State.ordStalled (s : State) (m : Nat) : Bool :=
  match s.oldestPost m with
  | some p => serialSub 48 (s.rd (F.mtc_NEXTORD m)) p.ord == 2 ^ 47
  | none => false

/-- A field of the matching unit changes. -/
def State.setMtch (s : State) (f : Matching → Matching) : State := { s with mtch := f s.mtch }

/-- A list of a structure of the posted receives changes; an empty one goes. -/
def postsUpd (k : KMap (List Post)) (i : Nat) (f : List Post → List Post) : KMap (List Post) :=
  match f (k.at i []) with
  | [] => k.del i
  | l => k.put i l

/-- The structure that holds a receive, a bin or a wild list, changes (08 R255, R257). -/
def Matching.postsOf (m : Matching) (p : Post) (f : List Post → List Post) : Matching :=
  if isWild p.entry then { m with wild := postsUpd m.wild p.mctx f }
  else { m with bins := postsUpd m.bins (binOf p.mctx (p.entry.get RP.src) p.entry.w4) f }

/-- A receive leaves the posted ones; a stalled context may post again (08 R256). -/
def State.unpost (s : State) (p : Post) : State :=
  (s.setMtch fun m => m.postsOf p fun l => l.filter fun x => !(x.mctx == p.mctx && x.ord == p.ord)).mtcSync p.mctx

/-- A receive is bound to a message; its identity is the state's next one. A completion slot is reserved. -/
def State.bindRecv (s : State) (b : Bound) : State :=
  ((s.setMtch fun m => { m with bounds := m.bounds ++ [{ b with id := s.nextId }] }).takeId).reserve
    (s.rd (F.qctx_CQ b.post.rq))

/-- A bound receive. -/
def State.bound (s : State) (id : Nat) : Option Bound := s.mtch.bounds.find? (·.id == id)

/-- A bound receive changes. -/
def State.setBound (s : State) (id : Nat) (f : Bound → Bound) : State :=
  s.setMtch fun m => { m with bounds := m.bounds.map fun b => if b.id = id then f b else b }

/-- A bound receive completes and its binding ends (08 R274, R275); LOCAL_FAULT when its entry or its unexpected slot is poisoned (16
R511). -/
def State.boundEnd (s : State) (id status bytes : Nat) : State :=
  match s.bound id with
  | none => s
  | some b =>
    let bad := s.latent Src.MTC_UNCORR b.id
    let s := if bad then s.latentRaise Src.MTC_UNCORR b.id else s
    (s.setMtch fun m => { m with bounds := m.bounds.filter (·.id ≠ id) }).recvComplete b (if bad then ST.localFault else status) bytes

/-- LEN of a receive. -/
def Bound.len (b : Bound) : Nat := b.post.entry.get W.len

/-- A receive whose message is placed ends OK or TRUNCATED (08 R269, R275). -/
def State.boundDone (s : State) (id : Nat) : State :=
  match s.bound id with
  | none => s
  | some b =>
    if b.failed then s.boundEnd id ST.localFault b.placed
    else if b.len < b.total.getD 0 then s.boundEnd id ST.truncated b.placed
    else s.boundEnd id ST.ok b.placed

/-- The pool slot of an unexpected entry, as an engine address in coherent device space (08 R266). -/
def State.poolSlot (s : State) (u : Nat) : Nat := s.rd F.mtcPool_BASE + u * 8192

/-- OUTCOME, LAST, RQ, RIDX and UIDX of a send event (08 R273). -/
def sendArg0 (outcome : Nat) (last : Bool) (rq ridx uidx : Nat) : Word :=
  BitVec.ofNat 64 (outcome % 4 * 2 ^ 62 + last.toNat * 2 ^ 61 + rq % 2 ^ 20 * 2 ^ 39 + ridx % 2 ^ 21 * 2 ^ 18 + uidx % 2 ^ 18)

/-- POOL, DEVMEM, FUNC and PLACE of a send event. -/
def sendArg2 (pool devmem : Bool) (func place : Nat) : Word :=
  BitVec.ofNat 64 (pool.toNat * 2 ^ 63 + devmem.toNat * 2 ^ 62 + func % 1024 * 2 ^ 48 + place % 2 ^ 25)

/-- Bytes of a payload that fall within a buffer of `len` bytes (08 R269). -/
def placeLen (len off n : Nat) : Nat := min n (len - off)

/-- The event of a SEND packet into a bound receive. -/
def State.recvEvent (s : State) (n : Nat) (p : Packet) (b : Bound) (outcome : Nat) : Event :=
  let rts := p.get H.ptype == PT.sendRts
  let last := rts || 128 ≤ p.get H.opmod
  let laddr := b.post.entry.get W.laddr
  let place := if rts then min (p.get H.offset) b.len else placeLen b.len (p.get H.offset) (p.get H.len)
  { entry := if rts then 6 else 5, cls := 2, kind := 0, tenant := p.get H.tenant, key := n, pkt := some p, inbound := true
    arg0 := sendArg0 outcome last b.post.rq b.post.ridx 0
    arg1 := BitVec.ofNat 64 (if rts then laddr else laddr + p.get H.offset)
    arg2 := sendArg2 false (b.post.entry.get W.devmem == 1) (s.qFunc b.post.rq) place }

/-- The unexpected message of an entry and identity, while it is held. -/
def State.unexpOf (s : State) (u id : Nat) : Option Unexp := s.mtch.unexp.find? fun x => x.u == u && x.id == id

/-- The event of a SEND packet that is stored as unexpected; a receive that a post has bound to its message is named. -/
def State.unexpEvent (s : State) (n : Nat) (p : Packet) (u id : Nat) (outcome : Nat) : Event :=
  let rts := p.get H.ptype == PT.sendRts
  let last := rts || 128 ≤ p.get H.opmod
  let b := (((s.unexpOf u id).bind (·.bound)).bind s.bound).map (·.post)
  { entry := if rts then 6 else 5, cls := 2, kind := 0, tenant := p.get H.tenant, key := n, pkt := some p, inbound := true
    arg0 := sendArg0 outcome last ((b.map (·.rq)).getD 0) ((b.map (·.ridx)).getD 0) u
    arg1 := BitVec.ofNat 64 (if rts then 0 else s.poolSlot u + p.get H.offset)
    arg2 := sendArg2 (!rts) false ((b.map fun p => s.qFunc p.rq).getD 0) (if rts then 0 else p.get H.len) }

/-- The LATE event of a receive bound to an unexpected message (08 R268). -/
def State.lateEvent (s : State) (u : Unexp) (b : Bound) : State :=
  let len := if u.rts then u.hdr.get H.offset else u.stored
  s.postSteered
    { entry := if u.rts then 6 else 5, cls := 2, kind := 0, tenant := u.hdr.get H.tenant, key := u.conn.getD 0
      pkt := some { hdr := u.hdr, payload := [], trailer := [] }, late := some b.id
      arg0 := sendArg0 2 true b.post.rq b.post.ridx u.u
      arg1 := b.post.entry.w2
      arg2 := sendArg2 false (b.post.entry.get W.devmem == 1) (s.qFunc b.post.rq) (min len b.len) }

/-- A receive is bound to an unexpected message, which leaves the list (08 R268); LATE counts it. -/
def State.bindLate (s : State) (u : Unexp) (p : Post) : State :=
  let b : Bound :=
    { id := 0, post := p, tag := u.hdr.w5, src := u.hdr.get H.src, conn := u.conn, late := some u.u, rts := u.rts
      key := u.hdr.get H.ckey
      total := if u.rts then some (u.hdr.get H.offset) else if u.complete then some u.stored else none }
  let id := s.nextId
  let s := ((s.bindRecv b).count (F.mtc_LATE u.mctx)).tally 16 0x86
  let s := (s.setMtch fun m =>
    { m with unexp := m.unexp.map fun x => if x.u = u.u then { x with taken := true, bound := some id } else x }).mtcSync u.mctx
  if u.rts || u.complete then s.lateEvent u { b with id := id } else s

/-- A receive-post ring's matching context and the device have a free posted-receive entry (03 R89). -/
def State.postFree (s : State) (m : Nat) : Bool :=
  decide (s.rd (F.mtc_POSTED m) < s.postMax m) && decide (s.mtch.posts.length < 1048576)

/-- The ring's context may take posts of the ring (08 R254). -/
def State.ringBound (s : State) (q : Nat) : Bool :=
  let m := s.rd (F.qctx_MCTX q)
  s.mtcActive m && s.rd (F.mtc_TENANT m) == s.rd (F.qctx_TENANT q)

/-- A ring without its context is counted once (08 R254). -/
def State.unboundOnce (s : State) (q : Nat) : State :=
  if s.mtch.unbound.contains q then s
  else (s.count F.mtcStat_UNBOUND).setMtch fun x => { x with unbound := q :: x.unbound }

/-- A post may be taken now (08 R254, R256). -/
def State.postRoom (s : State) (rq m : Nat) (e : Octet) : Bool :=
  s.postFree m && !s.ordStalled m && ((s.firstUnexp m e).isNone || (s.cqActive rq && s.cqRoom rq))

/-- A receive is posted (08 R255): the ordinal is given, then it is bound to an unexpected message or waits. -/
def State.postRecv (s : State) (rq ridx m : Nat) (e : Octet) : State :=
  let p : Post := { ord := s.rd (F.mtc_NEXTORD m), rq := rq, ridx := ridx, mctx := m, entry := e }
  let s := s.wr (F.mtc_NEXTORD m) (p.ord + 1)
  let s := match s.firstUnexp m e with
    | some u => s.bindLate u p
    | none => (s.setMtch fun x => x.postsOf p fun l => l ++ [p]).mtcSync m
  if s.ordStalled m && !s.mtch.stalled.contains m then
    (s.setMtch fun x => { x with stalled := m :: x.stalled }).postEvent (s.rd (F.mtc_EQ m)) 0x0202 0 (BitVec.ofNat 64 m)
  else s

/-- A context that posts again may stall anew. -/
def State.stallClear (s : State) (m : Nat) : State :=
  if s.ordStalled m then s else s.setMtch fun x => { x with stalled := x.stalled.filter (· ≠ m) }

/-- The lowest unused unexpected entry. -/
def State.freeUnexp (s : State) : Nat :=
  ((List.range (s.mtch.unexp.length + 1)).find? fun u => !s.mtch.unexp.any (·.u == u)).getD 0

/-- An unexpected entry is allocated for the first packet of a message (08 R266). -/
def State.addUnexp (s : State) (m : Nat) (p : Packet) (conn : Option Nat) : State × Nat × Nat :=
  let u := s.freeUnexp
  let x : Unexp := { u := u, id := s.nextId, mctx := m, hdr := p.hdr, conn := conn, rts := p.get H.ptype == PT.sendRts }
  ((s.setMtch fun y => { y with unexp := y.unexp ++ [x] }).takeId.mtcSync m, u, s.nextId)

/-- An unexpected entry changes. -/
def State.setUnexp (s : State) (u : Nat) (f : Unexp → Unexp) : State :=
  s.setMtch fun m => { m with unexp := m.unexp.map fun x => if x.u = u then f x else x }

/-- An unexpected entry is released. -/
def State.dropUnexp (s : State) (u : Nat) : State :=
  match s.mtch.unexp.find? (·.u == u) with
  | none => s
  | some x => (s.setMtch fun m => { m with unexp := m.unexp.filter (·.u ≠ u) }).mtcSync x.mctx

/-- The device and the context have room for an unexpected message (08 R260). -/
def State.unexpRoom (s : State) (m : Nat) : Bool :=
  decide (s.rd (F.mtc_UNEXP m) < s.unexpMax m) && decide (s.mtch.unexp.length < 262144)

/-- A refusal NOT_READY of a message is counted (08 R251, R280). -/
def State.countNr (s : State) (m : Nat) : State := (s.count (F.mtc_NR m)).count F.mtcStat_NR

/-- UNEXP_FULL, once per episode (08 R260). -/
def State.unexpFull (s : State) (m : Nat) : State :=
  if s.mtch.full.contains m then s
  else (s.setMtch fun x => { x with full := m :: x.full }).postEvent (s.rd (F.mtc_EQ m)) 0x0201 0 (BitVec.ofNat 64 m)

/-- What R260 decides for the first packet of a message. -/
inductive MatchVerdict where
  | refuse (reason : Nat)
  | matched (id : Nat)
  | unexpected (u id : Nat)
  deriving DecidableEq, Repr

/-- R260 over the first packet of a message; `conn` is none for a datagram (10 R345). -/
def State.matchFirst (s : State) (p : Packet) (conn : Option Nat) : State × MatchVerdict :=
  let m := p.get H.mctx
  if ¬(s.mtcActive m = true ∧ s.rd (F.mtc_TENANT m) = p.get H.tenant) then (s, .refuse NR.key)
  else
    match s.winner m (p.get H.src) p.hdr.w5 with
    | some w =>
      if s.qFree (s.rd (F.qctx_CQ w.rq)) = 0 then (s.countNr m, .refuse NR.notReady)
      else
        let rts := p.get H.ptype == PT.sendRts
        let b : Bound :=
          { id := 0, post := w, tag := p.hdr.w5, src := p.get H.src, conn := conn, rts := rts, key := p.get H.ckey
            total := if rts then some (p.get H.offset) else none }
        let id := s.nextId
        let s := ((s.unpost w).bindRecv b).stallClear m
        ((s.count (F.mtc_MATCHES m)).tally 16 0x86, .matched id)
    | none =>
      if s.unexpRoom m then
        let s := s.setMtch fun x => { x with full := x.full.filter (· ≠ m) }
        let (s, u, id) := s.addUnexp m p conn
        (s, .unexpected u id)
      else ((s.countNr m).unexpFull m, .refuse NR.notReady)

/-- A packet of a message into a bound receive is placed (08 R269, R274). -/
def State.placedRecv (s : State) (id : Nat) (p : Packet) : State :=
  match s.bound id with
  | none => s
  | some b =>
    if p.get H.ptype = PT.sendRts then s
    else
      let k := placeLen b.len (p.get H.offset) (p.get H.len)
      let last := decide (128 ≤ p.get H.opmod)
      let s := s.setBound id fun b =>
        { b with placed := b.placed + k, total := if last then some (p.get H.offset + p.get H.len) else b.total }
      if last then s.boundDone id else s

/-- A packet of an unexpected message is stored (08 R266, R268): after LAST a bound receive gets its LATE event, and
the slot of a message whose context was freed is released (R253). A message that is held no more takes nothing. -/
def State.placedUnexp (s : State) (u id : Nat) (p : Packet) : State :=
  if (s.unexpOf u id).isNone then s else
  let last := p.get H.ptype == PT.sendRts || decide (128 ≤ p.get H.opmod)
  let k := if p.get H.ptype = PT.sendRts then 0 else p.get H.len
  let s := s.setUnexp u fun x => { x with stored := x.stored + k, complete := x.complete || last }
  match s.mtch.unexp.find? (·.u == u) with
  | some x =>
    match x.bound.bind s.bound with
    | some b =>
      if last && !x.rts then
        (s.setBound b.id fun b => { b with total := some x.stored }).lateEvent x b
      else s
    | none => if x.taken && last then s.dropUnexp u else s
  | none => s

/-- The report of a LATE event (08 R274): an eager message is placed or has failed; a rendezvous waits for its
read. The pool slot is released. -/
def State.lateReport (s : State) (id : Nat) (ok : Bool) : State :=
  match s.bound id with
  | none => s
  | some b =>
    let s := match b.late with | some u => (s.dropUnexp u).setBound id fun b => { b with late := none } | none => s
    if !ok then s.boundEnd id ST.localFault b.placed
    else if b.rts then s
    else (s.setBound id fun b => { b with placed := min b.len (b.total.getD 0) }).boundDone id

/-- A read into a bound receive has ended (08 R271). -/
def State.readEnd (s : State) (id status bytes : Nat) : State :=
  match s.bound id with
  | none => s
  | some b =>
    if status ≠ ST.ok then s.boundEnd id status bytes
    else (s.setBound id fun b => { b with placed := bytes }).boundDone b.id

/-- The matching unit's part of a connection that enters BROKEN (08 R276, R272): messages still arriving go, receives bound to
messages not yet placed end BROKEN, transient canvases are revoked. -/
def State.matchBroken (s : State) (n : Nat) : State :=
  let us := s.mtch.unexp.filter fun u => u.conn == some n && !u.complete
  let s := us.foldl
    (fun t u =>
      let t := match u.bound with | some id => t.boundEnd id ST.broken 0 | none => t
      t.dropUnexp u.u) s
  let s := (s.mtch.bounds.filter fun b => b.conn == some n).foldl
    (fun t b => (b.late.elim t t.dropUnexp).boundEnd b.id ST.broken b.placed) s
  (s.mtch.trans.filter (·.conn == n)).foldl (fun t x => t.canvasRevoke x.canvas) s

/-- The transient canvas of a SEND (08 R270): the lowest FREE entry of the range becomes VALID. -/
def State.transientTake (s : State) (q id n : Nat) (e : Octet) : Option State :=
  let base := s.rd F.mtcCfg_RNDV_BASE
  match (List.range (max 1 (s.rd F.mtcCfg_RNDV_COUNT))).find? fun k => s.rd (F.cvs_STATE (base + k)) == 0 with
  | none => none
  | some k =>
    let i := base + k
    let tag := (s.rd (F.cvs_KEYTAG i) + 1) % 4096
    let s := (((s.set (.cvs i 0) 0).wr (F.cvs_STATE i) 1).wr (F.cvs_RREAD i) 1).wr (F.cvs_KEYTAG i) tag
    let s := (s.wr (F.cvs_TENANT i) (s.rd (F.conn_TENANT n))).wr (F.cvs_FUNC i) (s.qFunc q)
    let s := (s.wr (F.cvs_DEVMEM i) (e.get W.devmem)).set (.cvs i 1) e.w2
    let s := s.wr (F.cvs_LENGTH i) (max 1 (e.get W.len))
    let s := s.setMtch fun m => { m with trans := m.trans ++ [{ canvas := i, conn := n, owner := (q, id), len := e.get W.len }] }
    some s.rndvSync

end Sys2Proof.Machine
end

