-- ==== Sys2Proof/Machine/ConnFlow.lean ====
section
/-! DEFINITION. What connections do (07): BROKEN, hand-off to the engines, reports, arrivals, acknowledgements at
the sender, timeouts and the epoch switch. -/

namespace Sys2Proof.Machine

/-! ## BROKEN (07 R215, R238, R214) -/

/-- Every taken entry that names connection `n` and has not ended ends BROKEN; the entry of `hit` ends
TIMEOUT. -/
def State.endEntries (s : State) (n : Nat) (hit : Option (Nat × Nat)) : State :=
  s.queues.foldl
    (fun t c =>
      if t.rd (F.qctx_TYPE c.1) = 0 then
        c.2.taken.foldl
          (fun t x =>
            if x.res.isNone && opNamesConn (x.entry.get W.opcode) && x.entry.get W.conn == n
                && !(x.entry.get W.opcode == 1 && 128 ≤ x.entry.get W.opmod) then
              t.finishEntry c.1 x.id { status := if hit = some (c.1, x.id) then ST.timeout else ST.broken }
            else t) t
      else t) s

/-- A class 0 to 2 packet of a connection. -/
def Event.onConn (e : Event) : Bool := decide (e.cls ≤ 2) && e.inbound

/-- The steered event queue of an engine changes; ENG_STAT shows its depth. -/
def State.setSteerQ (s : State) (g : Nat) (f : List Event → List Event) : State :=
  let s := s.setEng g fun x => { x with queue := f x.queue }
  s.wr (F.engStat_STEERQ g) (s.eng g).queue.length

/-- An event of a packet that passed the key check of its canvas (07 R219). -/
def Event.onCanvas (e : Event) : Bool := decide (e.entry = 0 ∨ e.entry = 1 ∨ e.entry = 3) && bits e.arg2 7 0 == 0

/-- The packets of a connection whose events wait for an engine or for a context are not placed (07 R238): the events go, and
their canvases are no longer in use. -/
def State.eventsDrop (s : State) (n : Nat) : State :=
  let hit (e : Event) : Bool :=
    (e.onConn && e.kind == 0 && e.key == n) || e.late.any fun id => (s.bound id).any fun b => b.conn == some n
  let es := (s.sandbox.waiting ++ s.engs.flatMap (·.2.queue)).filter hit
  let s := { s with sandbox := { s.sandbox with waiting := s.sandbox.waiting.filter fun e => !hit e } }
  let s := (s.engs.filter fun g => g.2.queue.any hit).foldl (fun t g => t.setSteerQ g.1 fun l => l.filter fun e => !hit e) s
  es.foldl (fun t e => if e.onConn && e.onCanvas then e.pkt.elim t fun p => t.canvasReport (p.get H.ckey % 1048576) else t) s

/-- The effects of R238 on pending operations: staged packets, copies and requests go, entries and receives
end. -/
def State.connDrop (s : State) (n : Nat) (hit : Option (Nat × Nat)) : State :=
  let c := s.cx n
  let s := c.outst.foldl (fun t o => match o.recv with | some id => t.readEnd id ST.broken o.placed | none => t) s
  let s := s.setCx n fun c =>
    { c with outst := [], wait := [], flushes := [], bind := none, binds := [], rekeySent := none, rekeyAsk := false
             tx0 := { c.tx0 with copies := [] }, tx1 := { c.tx1 with copies := [] } }
  let s := (s.setRx n false fun r => { r with seqs := [], firstAt := none }).setRx n true fun r => { r with seqs := [], firstAt := none }
  let s := { s with queues := s.queues.each fun _ v => { v with next := v.next.filter fun p => p.conn ≠ some n } }
  (((s.eventsDrop n).endEntries n hit).matchBroken n).rtxSync

/-- A notice of entry 9 or 10 (07 R234): one of each may be queued. -/
def State.notice (s : State) (n entry : Nat) : State :=
  let had := if entry = 9 then (s.cx n).note9 else (s.cx n).note10.isSome
  let s := if entry = 9 then s.setCx n fun c => { c with note9 := true } else s
  if had then s
  else s.postSteered { entry := entry, cls := 3, kind := 0, tenant := s.rd (F.conn_TENANT n), key := n }

/-- The refusal notice: the lowest refused SEQ with its reason and entry status, or BROKEN (07 R234). -/
def State.notice10 (s : State) (n reason seq status : Nat) : State :=
  let t := s.notice n 10
  let x := match (s.cx n).note10 with
    | some (r, q, st) =>
      let low := if precedes 32 q seq then q else seq
      if r = NR.broken ∨ (reason ≠ NR.broken ∧ precedes 32 seq q = false) then (r, low, st) else (reason, low, status)
    | none => (reason, seq, status)
  t.setCx n fun c => { c with note10 := some x }

/-- A connection enters BROKEN (07 R215, R238). -/
def State.connBroken (s : State) (n cause : Nat) (hit : Option (Nat × Nat) := none) : State :=
  if s.connState n = CS.active ∨ s.connState n = CS.rekeying then
    let low := ((s.cx n).tx0.copies.head?.map (·.seq)).getD (s.cx n).tx0.cum
    let s := (s.wr (F.conn_STATE n) CS.broken).wr (F.conn_BCAUSE n) cause
    let s := (s.sendNack n NR.broken 0).setCx n fun c => { c with nackAt := some s.now }
    let s := s.connDrop n hit
    let s := s.postEvent (s.rd (F.conn_EQ n)) 0x0103 0 (BitVec.ofNat 64 (cause % 256 * 2 ^ 32 + n))
    s.notice10 n NR.broken low ST.broken
  else s

/-! ## Hand-off (07 R219, R228, R229, R234, 08 R259, R260) -/

/-- The request that a reply answers (07 R224). -/
def State.awaited (s : State) (n seq ptype : Nat) : Option Outst :=
  (s.cx n).outst.find? fun o => o.seq == seq && o.ptype == ptype

/-- ARG2 of a reply event (07 R234). -/
def replyArg2 (o : Outst) (n : Nat) : Word :=
  BitVec.ofNat 64 (o.func % 1024 * 2 ^ 48 + o.devmem.toNat * 2 ^ 47 + n % 2 ^ 25)

/-- A reply is handed to the engines inside the range recorded for its request, or discarded and resolved (07
R224, R229). -/
def State.handReply (s : State) (n : Nat) (p : Packet) : State :=
  let q := p.get H.tag % 2 ^ 32
  let pt := p.get H.ptype
  let bad := (s.count (F.conn_DISCARDS n)).settleSeq n true (p.get H.seq)
  let ev : Event := { entry := 2, cls := 1, kind := 0, tenant := p.get H.tenant, key := n, pkt := some p, inbound := true
                      arg0 := BitVec.ofNat 64 q }
  if pt = PT.getResp then
    match s.awaited n q PT.getReq with
    | some o =>
      if p.get H.offset + p.get H.len ≤ o.len then
        s.postSteered { ev with arg1 := BitVec.ofNat 64 (o.laddr + p.get H.offset), arg2 := replyArg2 o (p.get H.len) }
      else bad
    | none => bad
  else if pt = PT.atomResp then
    match s.awaited n q PT.atomReq with
    | some o => s.postSteered { ev with entry := 4, arg1 := BitVec.ofNat 64 o.laddr, arg2 := replyArg2 o 8 }
    | none => bad
  else
    match s.awaited n q PT.flushReq with
    | some _ => s.postSteered { ev with entry := 8 }
    | none => bad

/-- A FLUSH_REQ whose earlier SEQs are all resolved is dispatched (07 R234). -/
def State.flushReady (s : State) (n : Nat) (p : Packet) : Bool :=
  let r := (s.cx n).rx0
  !precedes 32 r.mark (p.get H.seq)

/-- The event of a FLUSH_REQ. -/
def State.handFlush (s : State) (n : Nat) (p : Packet) : State :=
  if s.flushReady n p then
    s.postSteered { entry := 7, cls := 0, kind := 0, tenant := p.get H.tenant, key := n, pkt := some p, inbound := true
                    arg0 := BitVec.ofNat 64 (p.get H.seq) }
  else s.setCx n fun c => { c with flushes := c.flushes ++ [p] }

/-- A SEND packet at hand-off: a continuation, or the first packet of a message under R260. A later packet of a message whose
first was refused has no binding and is refused KEY as that was (DEDUCED, notes/assumptions/52.md). -/
def State.handSend (s : State) (n : Nat) (p : Packet) : State :=
  let q := p.get H.seq
  let last := p.get H.ptype == PT.sendRts || decide (128 ≤ p.get H.opmod)
  let first := p.get H.ptype == PT.sendRts || p.get H.offset == 0
  let go (s : State) (b : MsgBind) : State :=
    let s := s.setCx n fun c => { c with binds := c.binds.put q b, bind := if last then none else some b }
    match b with
    | .recv id =>
      match s.bound id with
      | some x => s.postSteered (s.recvEvent n p x (if first then 0 else 3))
      | none => s.refuse n NR.placeFailed q
    | .unexp u id => s.postSteered (s.unexpEvent n p u id (if first then 1 else 3))
  match ((s.cx n).binds.find q).or (if first then none else (s.cx n).bind) with
  | some b => go s b
  | none =>
    if !first then s.refuse n NR.key q
    else match s.matchFirst p (some n) with
    | (s, .refuse r) =>
      if r = NR.notReady then (s.unreceive n false q).sendNack n r q
      else (s.setCx n fun c => { c with bind := none }).refuse n r q
    | (s, .matched id) => go s (.recv id)
    | (s, .unexpected u id) => go s (.unexp u id)

/-- A request that names a canvas at hand-off (07 R219, 06 R199). -/
def State.handRma (s : State) (n : Nat) (p : Packet) (entry : Nat) : State :=
  let i := p.get H.ckey % 1048576
  let s := s.structSeen (canvasLine i) 1
  let lost := s.structLost (canvasLine i) 1
  let s := if lost then s.structRaise Src.CVS_UNCORR (canvasLine i) 0 else s
  let c := if lost then NR.key else s.canvasCheck p
  let s := if c = 0 then s.wr (F.cvs_INFLIGHT i) (s.rd (F.cvs_INFLIGHT i) + 1) else s
  let s := if c = 0 ∧ p.get H.ptype = PT.getReq then
      s.setMtch fun m => { m with trans := m.trans.map fun t =>
        if t.canvas = i then { t with reading := some (p.get H.seq, p.get H.tag % 33554432) } else t }
    else s
  s.postSteered
    { entry := entry, cls := 0, kind := 0, tenant := p.get H.tenant, key := n, pkt := some p, inbound := true
      arg1 := BitVec.ofNat 64 (s.rd (F.cvs_BASE i) + p.get H.offset)
      arg2 := BitVec.ofNat 64 (s.rd (F.cvs_FUNC i) * 2 ^ 48 + c) }

/-- The connection unit hands a packet to the engines. -/
def State.handOver (s : State) (n : Nat) (p : Packet) : State :=
  let pt := p.get H.ptype
  if pt = PT.put then s.handRma n p 0
  else if pt = PT.getReq then s.handRma n p 1
  else if pt = PT.atomReq then s.handRma n p 3
  else if pt = PT.flushReq then s.handFlush n p
  else if pt = PT.sendEager ∨ pt = PT.sendRts then s.handSend n p
  else s.handReply n p

/-- The packets staged in the tidepool, as (first line, lines). -/
def State.tideHeld (s : State) : List (Nat × Nat) :=
  s.conns.flatMap fun c => (c.2.rx0.seqs.filter fun x => x.2.st == RxState.staged).map fun x => (x.2.line, x.2.pkt.lines)

/-- The first line of 4 GiB at 0x2_0000_0000 where a packet of `n` lines fits beside those staged (14 R473): which one the spec
does not say; the lowest of the pool's start and the ends of staged packets (DESIGN CHOICE, notes/assumptions/70.md). -/
def State.tidePlace (s : State) (n : Nat) : Option Nat :=
  let held := s.tideHeld
  let free (l : Nat) : Bool :=
    decide (l + n ≤ 0xC000000) && held.all fun h => decide (l + n ≤ h.1 ∨ h.1 + h.2 ≤ l)
  (0x8000000 :: held.map fun h => h.1 + h.2).foldl
    (fun k l => if free l && k.all fun m => decide (l < m) then some l else k) none

/-- A packet is staged: whole lines, written to GDDR6 (14 R464). -/
def State.tideWrite (s : State) (l : Nat) (p : Packet) : State :=
  let bs := p.bytes ++ List.replicate 63 0
  (List.range p.lines).foldl (fun t i => t.gddrWrite (l + i) ((bs.drop (64 * i)).take 64) false) s

/-- A staged packet is read back, with whether a line of it is poison. -/
def State.tideRead (s : State) (x : RxSeq) : State × Packet × Bool :=
  let r := (List.range x.pkt.lines).foldl
    (fun (t : State × List Byte × Bool) i => let q := t.1.gddrRead (x.line + i); (q.1, t.2.1 ++ q.2.1, t.2.2 || q.2.2))
    (s, [], false)
  (r.1, packetOf (r.2.1.take x.pkt.bytes.length), r.2.2)

/-- The staged packet with SEQ = RXNEXT is read from the tidepool and handed over (07 R228); a poisoned one is discarded with its
bitmap bit cleared (16 R511). -/
def State.handNext (s : State) (n : Nat) : State :=
  let r := (s.cx n).rx0
  match r.seqs.find r.mark with
  | some x =>
    if x.st = RxState.staged then
      match s.tideRead x with
      | (s, _, true) => (s.unreceive n false r.mark).raise Src.TIDE_UNCORR { addr := 64 * x.line, atype := 9 }
      | (s, p, false) =>
        (s.setRx n false fun r => { r with seqs := r.seqs.put r.mark { x with pkt := p, st := RxState.inService } }).handOver n p
    else s
  | none => s

/-- FLUSH_REQs whose earlier SEQs have all been resolved are dispatched (07 R234). -/
def State.flushGo (s : State) (n : Nat) : State :=
  let due := (s.cx n).flushes.filter (s.flushReady n)
  let s := s.setCx n fun c => { c with flushes := c.flushes.filter fun p => !due.contains p }
  due.foldl (fun t p => t.handFlush n p) s

/-! ## Reports (06 R200, 07 R219, R228, R229) -/

/-- How an activation reports its inbound packet. -/
inductive Report where
  | consumed
  | refused (reason : Nat)
  | notPlaced
  deriving DecidableEq, Repr

/-- A reply is consumed: bytes placed, and the operation ends when it has all (07 R223, 08 R271). -/
def State.replyDone (s : State) (n : Nat) (p : Packet) (ok : Bool) : State :=
  let q := p.get H.tag % 2 ^ 32
  match (s.cx n).outst.find? (·.seq == q) with
  | none => s
  | some o =>
    let o := { o with placed := o.placed + if o.ptype = PT.getReq then p.get H.len else 0 }
    let whole := decide (o.ptype ≠ PT.getReq) || decide (min o.want o.len ≤ o.placed)
    let drop (s : State) := s.setCx n fun c => { c with outst := c.outst.filter (·.seq ≠ q) }
    if !ok then
      let s := drop s
      let s := match o.owner with
        | some w => s.finishEntry w.1 w.2 { status := ST.localFault, bytes := o.placed - p.get H.len }
        | none => s
      match o.recv with | some id => s.readEnd id ST.localFault o.placed | none => s
    else if whole then
      let s := drop s
      let v := wordOfBytes p.payload
      let s := match o.owner with
        | some w => s.finishEntry w.1 w.2
            { status := ST.ok, result := if o.ptype = PT.atomReq then v else 0
              bytes := if o.ptype = PT.getReq then o.placed else 0 }
        | none => s
      match o.recv with | some id => s.readEnd id ST.ok o.placed | none => s
    else s.setCx n fun c => { c with outst := c.outst.map fun x => if x.seq = q then o else x }

/-- A SEND packet is consumed: the matching unit takes it as placed (08 R274). -/
def State.sendPlaced (s : State) (n : Nat) (p : Packet) : State :=
  let b := (s.cx n).binds.find (p.get H.seq)
  let s := s.setCx n fun c => { c with binds := c.binds.del (p.get H.seq) }
  match b with
  | some (.recv id) => s.placedRecv id p
  | some (.unexp u id) => s.placedUnexp u id p
  | none => s

/-- A placement failure of a SEND completes its receive LOCAL_FAULT (08 R274). -/
def State.sendFailed (s : State) (n : Nat) (p : Packet) : State :=
  match (s.cx n).binds.find (p.get H.seq) with
  | some (.recv id) => match s.bound id with | some b => s.boundEnd id ST.localFault b.placed | none => s
  | some (.unexp u id) =>
    match ((s.unexpOf u id).bind (·.bound)).bind s.bound with
    | some b => s.boundEnd b.id ST.localFault b.placed
    | none => s
  | none => s

/-- The operation of an ATOM_REQ (07 R220). -/
def atomOpOf (opmod : Nat) : AtomOp :=
  match opmod with
  | 0 => .add
  | 1 => .swap
  | 2 => .cas
  | 3 => .and
  | _ => .or

/-- An atomic on a word of host memory, and the old value that the host answers, which is free here: fetch-add, swap and
compare-swap in one operation, and and or by the compare-swap of the loop that succeeds (07 R225, notes/assumptions/68.md). -/
def State.hostAtom (s : State) (f a : Nat) (op : AtomOp) (x y : Word) : State × Word :=
  let old := Config.freeWord s.free
  let s := s.drawn.cxlTouch f a 8
  let cxl := (s.host (f / 256)).cxl
  match op with
  | .add => (s.dma (.hostAtomic f a 0 x 0 cxl), old)
  | .swap => (s.dma (.hostAtomic f a 1 x 0 cxl), old)
  | .cas => (s.dma (.hostAtomic f a 2 x y cxl), old)
  | .and => (s.dma (.hostAtomic f a 2 old (old &&& x) cxl), old)
  | .or => (s.dma (.hostAtomic f a 2 old (old ||| x) cxl), old)

/-- The ATOM_RESP with the old value of an atomic (07 R222). -/
def State.atomResp (s : State) (n : Nat) (p : Packet) (old : Word) : State :=
  let h := ((s.connHeader n PT.atomResp).set H.tag (p.get H.seq)).set H.len 8
  s.txHand n { pkt := { hdr := h, payload := bytesOf 8 old.toNat, trailer := [] } }

/-- The atomic of a consumed ATOM_REQ that passed its key check, on host memory or at the harbour, and its answer; the flag is
false where device memory fails it (07 R225, notes/assumptions/68.md). OPERAND0 is the operand, or what compare-swap compares. -/
def State.atomGo (s : State) (e : Event) (p : Packet) : State × Bool :=
  if e.entry = 3 ∧ bits e.arg2 7 0 = 0 then
    let op := atomOpOf (p.get H.opmod)
    let x := wordOfBytes p.payload
    let y := wordOfBytes (p.payload.drop 8)
    if s.on (F.cvs_DEVMEM (p.get H.ckey % 1048576)) then
      match s.devAtom e.arg1.toNat op (if op = .cas then y else x) x with
      | (s, _, true) => (s, false)
      | (s, old, false) => (s.atomResp e.key p old, true)
    else
      match s.hostAtom (bits e.arg2 57 48) e.arg1.toNat op x y with
      | (s, old) => (s.atomResp e.key p old, true)
  else (s, true)

/-- The report of a connection packet. -/
def State.connReport (s : State) (e : Event) (p : Packet) (r : Report) : State :=
  let n := e.key
  let reply := p.get H.mclass == 1
  let q := p.get H.seq
  let s := if e.onCanvas then s.canvasReport (p.get H.ckey % 1048576) else s
  let held := match ((s.cx n).rx reply).seqs.find q with | some x => x.st == .inService && x.pkt == p | none => false
  if !held || !(s.connState n == CS.active || s.connState n == CS.rekeying) then s
  else if reply then
    match r with
    | .notPlaced => s.unreceive n true q
    | .consumed => (s.replyDone n p true).resolve n true q
    | .refused _ => (s.replyDone n p false).resolve n true q
  else
    match r with
    | .consumed =>
      match (if e.cls = 2 then s.sendPlaced n p else s).atomGo e p with
      | (s, true) => (s.resolve n false q).handNext n
      | (s, false) => (s.sendNack n NR.placeFailed q).connBroken n 2
    | .notPlaced => s.unreceive n false q
    | .refused k =>
      if k = NR.notReady then (s.unreceive n false q).sendNack n k q
      else if k = NR.key ∨ k = NR.bounds then s.refuse n k q
      else if k = NR.broken then (s.unreceive n false q).sendNack n k q
      else
        let s := if e.cls = 2 then s.sendFailed n p else s
        (s.sendNack n NR.placeFailed q).connBroken n 2

/-! ## The epoch switch (07 R244) -/

/-- Both sending streams are fully acknowledged. -/
def State.allAcked (s : State) (n : Nat) : Bool :=
  let c := s.cx n
  c.tx0.next == c.tx0.cum && c.tx1.next == c.tx1.cum

/-- The stream state that an activation or a switch starts from (07 R212). -/
def State.freshTx (s : State) (n : Nat) : Tx :=
  let w := s.rd (F.conn_CWND_INIT n)
  { cwnd := if w = 0 then 16 else w, clamp := 2048, rto := s.rtoInit }

/-- This end leads a rekeying (07 R244). -/
def State.leadsKey (s : State) (n : Nat) : Bool := decide (s.rd (F.conn_LOCAL n) < s.rd (F.conn_PEER n))

/-- NEXT moves to CUR where the connection is encrypted (07 R243), EPOCH advances, every sequence and count is zero, ACTIVE, REKEY_DONE. -/
def State.epochSwitch (s : State) (n : Nat) : State :=
  let e := (s.rd (F.conn_EPOCH n) + 1) % 256
  let gcm := s.rd (F.conn_E2E n) == 2
  let s := s.setCx n fun c =>
    { c with cur := if gcm && c.nxt.isSome then c.nxt else c.cur, nxt := if gcm then none else c.nxt, ctl := 0, dueSent := false, peerDue := false
             rekeySent := none, rekeyAsk := false }
  let s := ((s.wr (F.conn_EPOCH n) e).wr (F.conn_STATE n) CS.active).wr (F.conn_NEXTKEY n) (s.cx n).nxt.isSome.toNat
  let s := s.wr (F.conn_CURKEY n) (s.cx n).cur.isSome.toNat
  let z (t : Tx) : Tx := { t with next := 0, cum := 0, copies := [], retries := 0 }
  let s := (s.setTx n false z).setTx n true z
  let s := (s.setRx n false fun _ => {}).setRx n true fun _ => {}
  let s := s.postEvent (s.rd (F.conn_EQ n)) 0x0104 0 (BitVec.ofNat 64 (e * 2 ^ 32 + n))
  s.rtxSync.txWaiting n

/-- The rekeying goes on at this end: a leader whose streams are acknowledged sends its REKEY ACK, a follower
switches and answers. -/
def State.rekeyGoOn (s : State) (n : Nat) : State :=
  if s.connState n = CS.rekeying ∧ s.allAcked n = true then
    if s.leadsKey n then
      if (s.cx n).rekeySent.isSome then s
      else (s.sendAck n false true).setCx n fun c => { c with rekeySent := some s.now }
    else if (s.cx n).rekeyAsk then (s.epochSwitch n).sendAck n false true
    else s
  else s

/-- Rekeying starts at the leader (07 R244): NEXTKEY is 1 and a count is due here or at the follower, or software
asked. -/
def State.rekeyStart (s : State) (n : Nat) (go : Bool) : State :=
  if s.connState n = CS.active ∧ s.leadsKey n = true ∧ s.nextKey n = true
      ∧ (go || s.countReached n dueAt || (s.cx n).peerDue) = true then
    (s.wr (F.conn_STATE n) CS.rekeying).rekeyGoOn n
  else s

/-- Every connection whose counts have become due starts its rekeying at the leader (07 R244). -/
def State.keySync (s : State) : State := s.conns.foldl (fun t c => t.rekeyStart c.1 false) s

/-! ## Acknowledgements at the sender (07 R233, R236, R239) -/

/-- A round-trip sample (07 R236). -/
def State.sample (s : State) (t : Tx) (r : Nat) : Tx :=
  let t := if t.sampled then
      let d := if t.srtt ≤ r then r - t.srtt else t.srtt - r
      { t with rttvar := (3 * t.rttvar + d) / 4, srtt := (7 * t.srtt + r) / 8 }
    else { t with srtt := r, rttvar := r / 2, sampled := true }
  { t with rto := min s.rtoMax (max s.rtoMin (t.srtt + 4 * t.rttvar)) }

/-- The window after a marked ACK (07 R239): halved at most once per round trip. -/
def winCut (t : Tx) (ce : Bool) (now : Nat) : Tx :=
  if ce && decide (t.lastCut + t.srtt ≤ now) then { t with cwnd := max (t.cwnd / 2) 1, lastCut := now, acked := 0 } else t

/-- The window after an ACK (07 R239). -/
def winAfter (t : Tx) (advanced : Nat) (ce : Bool) (now : Nat) : Tx :=
  let a := t.acked + advanced
  winCut (if t.cwnd ≤ a then { t with acked := a - t.cwnd, cwnd := min (t.cwnd + 1) 2048 } else { t with acked := a }) ce now

/-- Transient canvases whose read has been wholly acknowledged are revoked (08 R272). -/
def State.transAcked (s : State) (n : Nat) : State :=
  let cum := (s.cx n).tx1.cum
  (s.mtch.trans.filter fun t => t.conn == n && t.last.any fun q => precedes 32 q cum).foldl
    (fun st t =>
      (st.setMtch fun m => { m with trans := m.trans.map fun x => if x.canvas = t.canvas then { x with done := true } else x }).canvasRevoke
        t.canvas) s

/-- An ACK that is neither stale nor beyond NEXT: copies below CUM are freed, SACK bits recorded, the round trip
sampled, entries ended (07 R233, R236). -/
def State.ackApply (s : State) (n : Nat) (reply : Bool) (cum sack : Nat) (ce : Bool) : State :=
  let t := (s.cx n).tx reply
  let adv := serialSub 32 cum t.cum
  let freed := t.copies.filter fun x => precedes 32 x.seq cum
  let t1 : Tx :=
    { t with
      cum := cum
      retries := if 0 < adv then 0 else t.retries
      copies := (t.copies.filter fun x => !precedes 32 x.seq cum).map fun x =>
        let i := serialSub 32 x.seq cum
        { x with sacked := decide (1 ≤ i ∧ i ≤ 64) && decide (sack / 2 ^ (i - 1) % 2 = 1) } }
  let t1 := match freed.getLast? with
    | some x => if 0 < adv && x.once then s.sample t1 (s.tim - x.sentTim) else t1
    | none => t1
  let s := (s.setTx n reply fun _ => winAfter t1 adv ce s.now).rtxSync
  let owners := (freed.filterMap (·.owner)).eraseDups
  let s := owners.foldl (fun st o => st.entryCheck n o.1 o.2) s
  let s := if reply then s.transAcked n else s
  let s := if 0 < adv then s.notice n 9 else s
  ((s.txWaiting n).rekeyGoOn n).rekeyStart n false

/-- An ACK of the current epoch whose CUM lies beyond NEXT: discarded (07 R233), and so not accepted (04 R133). -/
def State.ackBeyond (s : State) (n : Nat) (p : Packet) : Bool :=
  let t := (s.cx n).tx (p.get H.opmod / 64 % 2 == 1)
  let cum := p.get H.offset % 2 ^ 32
  p.get H.epoch == s.rd (F.conn_EPOCH n) && !precedes 32 cum t.cum && precedes 32 t.next cum

/-- An ACK arrives (07 R227, R231, R233, R244): a stale one updates PEERCLAMP and CE handling only, one beyond NEXT is
discarded. -/
def State.ackIn (s : State) (n : Nat) (p : Packet) : State :=
  let md := p.get H.opmod
  let ce := decide (128 ≤ md)
  let reply := md / 64 % 2 == 1
  let cum := p.get H.offset % 2 ^ 32
  let rconf := p.get H.offset / 2 ^ 32 % 65536
  let t := (s.cx n).tx reply
  let newEpoch := p.get H.epoch ≠ s.rd (F.conn_EPOCH n)
  if newEpoch then
    -- step 4: the leader accepts the follower's REKEY ACK of the next epoch and switches
    if md / 32 % 2 = 1 ∧ s.leadsKey n = true ∧ (s.cx n).rekeySent.isSome then s.epochSwitch n else s
  else if precedes 32 cum t.cum then
    s.setTx n reply fun t => winCut { t with clamp := p.get H.ckey % 4096 } ce s.now
  else if precedes 32 t.next cum then s.count F.cnxStat_BADACK
  else
    let s := s.setTx n reply fun t => { t with clamp := p.get H.ckey % 4096 }
    let s := if md / 8 % 2 = 1 then s.setCx n fun c => { c with peerDue := true } else s
    let s := if md / 16 % 2 = 1 then
        match (s.cx n).rx0.seqs.find? fun c => c.1 % 65536 == rconf && (match c.2.st with | .refused _ => true | _ => false) with
        | some c => (s.resolve n false c.1).handNext n
        | none => s
      else s
    let s := s.ackApply n reply cum (p.get H.tag) ce
    -- step 3: a follower with a NEXT key takes part
    if md / 32 % 2 = 1 ∧ s.leadsKey n = false ∧ s.nextKey n = true ∧ s.connState n = CS.active then
      ((s.wr (F.conn_STATE n) CS.rekeying).setCx n fun c => { c with rekeyAsk := true }).rekeyGoOn n
    else s.rekeyStart n false

/-- The SEND_RTS of an entry is refused (08 R260): no read of its transient canvas will come, so the canvas is revoked. -/
def State.rtsRefused (s : State) (o : Nat × Nat) (p : Packet) : State :=
  if p.get H.ptype = PT.sendRts then
    (s.mtch.trans.filter (·.owner == o)).foldl (fun t x => t.canvasRevoke x.canvas) s
  else s

/-- A NACK arrives (07 R232). -/
def State.nackIn (s : State) (n : Nat) (p : Packet) : State :=
  let reason := p.get H.opmod
  let q := p.get H.offset % 2 ^ 32
  let reply := p.get H.tag % 2 == 1
  let s := s.setTx n reply fun t => { t with clamp := p.get H.ckey % 4096 }
  if reason = NR.notReady then
    s.setTx n reply fun t =>
      { t with copies := t.copies.map fun x =>
          if x.seq = q then { x with nrDue := some (s.now + min 64000 (s.nrBackoff * 2 ^ x.nrStep)), nrStep := x.nrStep + 1 } else x }
  else if reason = NR.key ∨ reason = NR.bounds then
    match (s.cx n).tx0.copies.find? (·.seq == q) with
    | none => s.sendAck n false false (some q)
    | some x =>
      let s := s.setTx n false fun t =>
        { t with copies := t.copies.map fun y => if y.seq = q then { y with refused := some reason } else y }
      let gone := (s.cx n).outst.find? fun o => o.seq == q
      let s := match gone with
        | some o =>
          let s := s.setCx n fun c => { c with outst := c.outst.filter (·.seq ≠ q) }
          match o.recv with | some id => s.readEnd id reason 0 | none => s
        | none => s
      let s := match x.owner with | some o => (s.refuseEntry o.1 o.2 q reason).rtsRefused o x.pkt | none => s
      (s.sendAck n false false (some q)).notice10 n reason q reason
  else (s.notice10 n reason q ST.broken).connBroken n 3

/-! ## Arrivals (07 R227 to R231) -/

/-- A good packet of a stream is delivered, staged, or discarded for want of tidepool room. -/
def State.deliver (s : State) (n : Nat) (p : Packet) (mark : Bool) : State :=
  let reply := p.get H.mclass == 1
  let q := p.get H.seq
  let r := (s.cx n).rx reply
  let enter (s : State) (st : RxState) (l : Nat) : State :=
    s.setRx n reply fun r => { r with seqs := r.seqs.put q { pkt := p, st := st, line := l } }
  let s :=
    if !reply && s.inOrder n && decide (q ≠ r.mark) then
      let full := decide (2048 ≤ r.staged)
        || decide (4294967296 < s.conns.foldl
          (fun k c => c.2.rx0.seqs.foldl (fun k x => if x.2.st = RxState.staged then k + x.2.pkt.cost else k) k) p.cost)
      match if full then none else s.tidePlace p.lines with
      | none => (s.count (F.conn_DISCARDS n)).count F.cnxStat_TIDE_FULL
      | some l => ((enter (s.tideWrite l p) .staged l).tally 16 0x87).sendAck n reply
    else (enter s .inService 0).handOver n p
  if mark && ((s.cx n).rx reply).ce then s.sendAck n reply else s

/-- The key and direction that open a packet of an epoch. -/
def State.openPkt (s : State) (n : Nat) (p : Packet) : Option Packet :=
  let c := s.cx n
  let key := if p.get H.epoch = s.rd (F.conn_EPOCH n) then c.cur else if c.nxt.isSome then c.nxt else c.cur
  openWith (key.getD []) (s.peerDir n) p

/-- The arrival of a connection packet (07 R227); a context or a key slot that cannot be read contains the
connection (16 R511). -/
def State.connArrive (s : State) (n : Nat) (p : Packet) (mark : Bool) : State :=
  let s := s.structSeen (connLine n) 8
  if s.structLost (connLine n) 8 then s.structRaise Src.CNX_UNCORR (connLine n) n
  else if p.get H.e2e = 2 ∧ s.latent Src.CNX_KEY_UNCORR n = true then s.latentRaise Src.CNX_KEY_UNCORR n
  else
  let st := s.connState n
  let e := s.rd (F.conn_EPOCH n)
  if st = CS.broken then
    if (s.cx n).nackAt.all fun t => t + 100000 ≤ s.now then
      (s.sendNack n NR.broken (p.get H.seq) (p.get H.mclass == 1 && !(p.get H.ptype == PT.ack || p.get H.ptype == PT.nack))).setCx
        n fun c => { c with nackAt := some s.now }
    else s
  else if st = CS.free then s
  else if p.get H.epoch ≠ e ∧ ¬(st = CS.rekeying ∧ p.get H.epoch = (e + 1) % 256) then s.count (F.conn_DISCARDS n)
  else
    match s.openPkt n p with
    | none => s.count (F.conn_AUTHFAIL n)
    | some p =>
      if p.get H.ptype = PT.ack then (if s.ackBeyond n p then s else s.meterRx p).ackIn n p
      else if p.get H.ptype = PT.nack then (s.meterRx p).nackIn n p
      else
        let reply := p.get H.mclass == 1
        let q := p.get H.seq
        let r := (s.cx n).rx reply
        let s := if mark then s.setRx n reply fun r => { r with ce := true } else s
        let dup (s : State) : State := (s.count (F.conn_DUPS n)).sendAck n reply
        match r.seqs.find q with
        | some x =>
          match x.st with
          | .refused k => if mark then (s.sendNack n k q).sendAck n reply else s.sendNack n k q
          | _ => dup s
        | none =>
          if precedes 32 q r.mark then dup s
          else if 2048 < serialSub 32 q r.mark then
            let s := s.count (F.conn_DISCARDS n)
            if mark then s.sendAck n reply else s
          else s.deliver n p mark

/-! ## Timers (07 R231, R232, R236, R244) -/

/-- When the retransmission timer of a stream is due. -/
def State.rtoDue (s : State) (n : Nat) (reply : Bool) : Option Nat :=
  let t := (s.cx n).tx reply
  match t.copies with
  | x :: _ => some (x.sentAt + x.pause + t.rto)
  | [] => if !reply then (s.cx n).rekeySent.map (· + t.rto) else none

/-- The retransmission timer of a stream expires (07 R236, R238, R244). -/
def State.rtoFire (s : State) (n : Nat) (reply : Bool) : State :=
  let t := (s.cx n).tx reply
  let hit := t.copies.head?.bind (·.owner)
  let s := s.setTx n reply fun t => { t with retries := t.retries + 1, rto := min s.rtoMax (2 * t.rto) }
  if s.retryLimit n ≤ t.retries + 1 then s.connBroken n 1 hit
  else
    match t.copies with
    | [] => (s.sendAck n false true).setCx n fun c => { c with rekeySent := some s.now }
    | _ => (t.copies.filter fun x => !x.sacked).foldl (fun st x => st.resend n reply x) s

end Sys2Proof.Machine
end

