-- ==== Sys2Proof/Machine/SemOps.lean ====
section
/-! DEFINITION. Operations of semaphores (15 R492 to R502): claims, grants, releases and abandonment. -/

namespace Sys2Proof.Machine

/-- Statuses of a semaphore operation (05 R154). -/
abbrev SS.acquired : Nat := 0
abbrev SS.released : Nat := 0
abbrev SS.busy : Nat := 1
abbrev SS.acquiredAbandoned : Nat := 2
abbrev SS.notOwner : Nat := 3
abbrev SS.owned : Nat := 4
abbrev SS.badarg : Nat := 5

/-- The word that a read of a view returns (15 R492). -/
def State.semWord (s : State) (n status : Nat) : Word := setBits (s.get (.sem n)) 7 0 status

/-- The semaphore is held. -/
def State.semHeld (s : State) (n : Nat) : Bool := s.on (F.sem_HELD n)

/-- A master owns the semaphore. -/
def State.semOwns (s : State) (n : Nat) (m : Mst) : Bool := s.semHeld n && s.rd (F.sem_OWNER n) == m.toNat

/-- Stalled claims of a semaphore. -/
def State.semClaims (s : State) (n : Nat) : List Claim := s.guard.claims.at n []

/-- The stalled claims of a semaphore change; WAITING counts the places that reads hold (15 R498). -/
def State.setClaims (s : State) (n : Nat) (l : List Claim) : State :=
  let s := { s with guard := { s.guard with claims := s.guard.claims.put n l } }
  s.wr F.semStat_WAITING
    (s.guard.claims.foldl (fun k c => k + (c.2.filter fun x => !x.lock).length) 0)

/-- A master obtains the semaphore: ABANDONED clears (15 R493). The number is the status. -/
def State.semTake (s : State) (n : Nat) (m : Mst) : State × Nat :=
  let st := if s.on (F.sem_ABANDONED n) then SS.acquiredAbandoned else SS.acquired
  (((s.wr (F.sem_OWNER n) m.toNat).wr (F.sem_HELD n) 1).wr (F.sem_ABANDONED n) 0, st)

/-- The semaphore becomes free. -/
def State.semFree (s : State) (n : Nat) : State := (s.wr (F.sem_HELD n) 0).wr (F.sem_OWNER n) 0

/-- A release by a master: it frees the semaphore of its owner, any other is counted and raises SEM_BAD_RELEASE
(15 R496). The number is the status. -/
def State.semRelease (s : State) (n : Nat) (m : Mst) : State × Nat :=
  if s.semOwns n m then (s.semFree n, SS.released)
  else
    ((s.count F.semStat_BADREL).raise Src.SEM_BAD_RELEASE { addr := 0x800050000 + 8 * n, master := m.toNat, atype := 2 },
     SS.notOwner)

/-- The claim that wins (01 R25, 15 R497): the greatest age, then the first identity at or after the pointer. -/
def claimWinner (now ptr : Nat) : List Claim → Option Claim
  | [] => none
  | c :: t =>
    match claimWinner now ptr t with
    | none => some c
    | some d =>
      let a := claimAge now c.since
      let b := claimAge now d.since
      let dist (x : Claim) := (x.m.toNat + 65536 - ptr) % 65536
      if b < a then some c else if a < b then some d else if dist c ≤ dist d then some c else some d

/-- More than one position presents a claim of the greatest age: the pointer decides and moves (01 R27). -/
def claimTie (now : Nat) (l : List Claim) (w : Claim) : Bool :=
  l.any fun c => c.m != w.m && claimAge now c.since == claimAge now w.since

/-- The pointer of a semaphore after claim `w` of `l` has won: it moves past the winner when ages tie (01 R27, 15 R497). -/
def State.semPoint (s : State) (n : Nat) (l : List Claim) (w : Claim) : State :=
  let ptr := if claimTie s.now l w then (w.m.toNat + 1) % 65536 else s.guard.ptrs.at n 0
  { s with guard := { s.guard with ptrs := s.guard.ptrs.put n ptr } }

/-- A stalled read has waited longer than 2 µs (15 R493). -/
def Claim.late (c : Claim) (now : Nat) : Bool := !c.lock && decide (c.since + 2000 < now)

/-- A claim that does not stall (15 R494, R495): OWNED, acquired when free and no stalled claim outranks it at that edge, or
BUSY. -/
def State.semTry (s : State) (n : Nat) (m : Mst) : State × Nat :=
  if s.semOwns n m then (s, SS.owned)
  else if s.semHeld n then (s, SS.busy)
  else
    let c : Claim := { m := m, since := s.now, lock := false }
    let l := (s.semClaims n).filter (fun x => !x.late s.now)
    if l = [] then s.semTake n m
    else if claimWinner s.now (s.guard.ptrs.at n 0) (c :: l) = some c then (s.semPoint n (c :: l) c).semTake n m
    else (s, SS.busy)

/-- A reset master's semaphores are freed with ABANDONED set and its stalled claims withdrawn (15 R500), as are its
stalled reads of GTE_FENCE. -/
def State.semAbandon (s : State) (p : Mst → Bool) : State :=
  let s := { s with guard := { s.guard with fences := s.guard.fences.filter fun f => !p f.m } }
  let s := (List.range 4096).foldl
    (fun t n =>
      if t.semHeld n && p (BitVec.ofNat 16 (t.rd (F.sem_OWNER n))) then
        ((t.semFree n).wr (F.sem_ABANDONED n) 1).count F.semStat_ABANDONS
      else t) s
  s.guard.claims.foldl (fun t c => if c.2.any (fun x => p x.m) then t.setClaims c.1 (c.2.filter fun x => !p x.m) else t) s

end Sys2Proof.Machine
end

