-- ==== Sys2Proof/Machine/EngOps.lean ====
section
/-! DEFINITION. Operations of engine contexts (05, 06): targeted events, reports, the end of an activation, traps,
halts, resets, dispatch, and the addresses of an engine. -/

namespace Sys2Proof.Machine

/-! ## Names -/

/-- The engine of a context. -/
def ctxEng (c : Nat) : Nat := c / 8


/-- The warden context: context 0 of engine 16 of island 0 (06 R205). -/
def wardenCtx : Nat := 128

/-- The privilege level of a context: 0 User, 2 Provider, 3 Firmware. -/
def State.ctxLevel (s : State) (c : Nat) : Nat := s.rd (F.ctxCfg_LEVEL c)

/-- A User context. -/
def State.isUser (s : State) (c : Nat) : Bool := s.ctxLevel c == 0

/-- A write of a general register; g0 discards it (05 R141). -/
def State.setG (s : State) (c : Nat) (d : Nat) (v : Word) : State := if d = 0 then s else s.set (.g c d) v

/-- A read of a general register; g0 reads as zero. -/
def State.getG (s : State) (c : Nat) (a : Nat) : Word := if a = 0 then 0 else s.get (.g c a)

/-- The pc of a context. -/
def State.pcOf (s : State) (c : Nat) : Nat := s.rd (F.pc_PC c)

/-! ## Targeted events (06 R195, R199) -/

/-- A targeted event joins the context's pending set; a 33rd is discarded and counted. -/
def State.postTargeted (s : State) (c : Nat) (e : Event) : State :=
  if 32 ≤ (s.ctx c).targeted.length then
    (s.count (F.engStat_EVLOST (ctxEng c))).setCtx c fun x => { x with lostEv := x.lostEv + 1 }
  else s.setCtx c fun x => { x with targeted := x.targeted ++ [{ e with time := BitVec.ofNat 64 s.tim }] }

/-- The EVENTS_LOST event once the pending set has room. -/
def State.eventsLost (s : State) (c : Nat) : State :=
  let n := (s.ctx c).lostEv
  if n = 0 ∨ 32 ≤ (s.ctx c).targeted.length then s
  else
    (s.setCtx c fun x => { x with lostEv := 0 }).postTargeted c
      { entry := 20, cls := 11, arg0 := 3, arg1 := BitVec.ofNat 64 n }

/-! ## Reports and the end of an activation (05 R171, 06 R200) -/

/-- The activation reports the packet, or the LATE event, that it was given; once. -/
def State.ctxReport (s : State) (c : Nat) (r : Report) : State :=
  let x := s.ctx c
  match x.inb with
  | none => s
  | some e =>
    if x.handled then s
    else
      let s := s.setCtx c fun x => { x with handled := true }
      match e.late with
      | some id => s.lateReport id (r == .consumed)
      | none =>
        match e.pkt with
        | some p => if e.onConn then s.connReport e p r else s
        | none => s

/-- An inbound packet that was neither forwarded nor dropped is discarded and counted (05 R171). -/
def State.packetEnd (s : State) (c : Nat) : State :=
  let x := s.ctx c
  match x.inb with
  | some e =>
    if x.handled then s
    else
      let s := if e.inbound then s.count (F.handlerDrop_COUNT (ctxIsl c)) else s
      s.ctxReport c .notPlaced
  | none => s

/-- The activation ends (05 R155, R158, R171, 06 R189). -/
def State.activationEnd (s : State) (c : Nat) : State :=
  let s := s.packetEnd c
  let s := s.setCtx c fun x =>
    { x with act := none, inb := none, keys := [], waitMask := none, stall := .none, outPkt := none, handled := false
             tenant := none }
  (s.wr (F.csr_TRAPPED c) 0).wr (F.ctxCfg_STATE c) XS.idle

/-! ## Halts and traps (05 R156 to R158, 06 R202, R207) -/

/-- The raise argument of a context's source: an internal check of that unit (16 R517). -/
def ctxArg (c : Nat) : RaiseArg := { addr := c, master := (ctxMst c).toNat, atype := 14, unit := c }

/-- WARDEN_LOST when the context is the warden's (06 R207). -/
def State.wardenLost (s : State) (c : Nat) : State :=
  if c = wardenCtx then s.raise Src.WARDEN_LOST (ctxArg c) else s

/-- A context halts and a source is raised. -/
def State.ctxHalt (s : State) (c src : Nat) : State :=
  (((s.wr (F.ctxCfg_STATE c) XS.halted).setCtx c fun x => { x with stall := .none, waitMask := none, passed := none }).raise src
    (ctxArg c)).wardenLost c

/-- The tagged instruction that issues last traps (17 R544); BUDGET traps before an instruction issues. -/
def State.tagTrap (s : State) (c code : Nat) : State :=
  if (s.ctx c).tagging ∧ code ≠ TC.budget then
    s.setCtx c fun x => { x with tags := x.tags.dropLast ++ (x.tags.getLast?.map fun t => { t with trap := code }).toList }
  else s

/-- A trap (05 R158): the error handler is entered with EPC and CAUSE saved, or the context halts on a trap inside
it or without one. -/
def State.trap (s : State) (c code : Nat) (value : Nat) : State :=
  let s := s.tagTrap c code
  if s.on (F.csr_TRAPPED c) then s.ctxHalt c (Src.CTX_DOUBLE_TRAP (ctxIsl c))
  else
    match s.handlerOf c 20 with
    | none => s.ctxHalt c (Src.CTX_DOUBLE_TRAP (ctxIsl c))
    | some h =>
      let s := s.wr (F.csr_EPC c) (s.pcOf c)
      let s := (s.wr (F.csr_VALUE c) (value % 2 ^ 48)).wr (F.csr_CODE c) code
      ((s.wr (F.csr_TRAPPED c) 1).wr (F.csr_REMAINING c) 256).wr (F.pc_PC c) (4 * h)

/-- A context reset (05 R140, 06 R190): every register and CSR at its reset value, IDLE, EN 0, pending events and
timers discarded, semaphores abandoned; brushes in flight finish silently. A request of its L1 that another context of the
engine waits for goes on (13 R446). -/
def State.ctxReset (s : State) (c : Nat) : State :=
  let s := s.packetEnd c
  let s := s.resetRegs fun r => match r with
    | .g k _ => k == c
    | .h k _ => k == c
    | .pc k => k == c
    | .csr k _ => k == c
    | _ => false
  let s := s.setCtx c fun x => { tags := x.tags, brushes := x.brushes.map fun b => { b with quiet := true } }
  let s := (s.wr (F.ctxCfg_EN c) 0).wr (F.ctxCfg_STATE c) XS.idle
  let mine (m : Mst) : Bool := m == ctxMst c || m == ctxMst c + 0x1000
  let shared (r : CohReq) : Bool := s.ctxs.any fun x => x.1 / 8 == ctxEng c && x.1 != c && x.2.stall == .line r.line
  ((s.semAbandon mine).cohCancel fun r => mine r.req && !shared r).wardenLost c

/-! ## Dispatch (05 R142, R155, R159, 06 R195, R198) -/

/-- The event descriptor word h8. -/
def Event.h8 (e : Event) : Word :=
  let ten := if e.kind = 15 ∧ e.entry ≠ 15 then 0 else e.tenant
  BitVec.ofNat 64 (e.entry % 256 * 2 ^ 56 + e.cls % 16 * 2 ^ 52 + e.kind % 16 * 2 ^ 48 + ten % 4096 * 2 ^ 36
    + e.polmark.toNat * 2 ^ 20 + e.key % 2 ^ 20)

/-- The event as it stands at dispatch: a doorbell reports the index now (06 R196), a notice the state now (07
R234). -/
def State.atDispatch (s : State) (e : Event) : State × Event :=
  if e.entry = 16 then (s, { e with arg1 := BitVec.ofNat 64 (s.rd (F.qctx_PI e.key)) })
  else if e.entry = 9 then
    (s.setCx e.key fun c => { c with note9 := false },
     { e with arg0 := BitVec.ofNat 64 e.key
              arg1 := BitVec.ofNat 64 (s.rd (F.conn_RTXCUM e.key) * 2 ^ 32 + s.rd (F.conn_TXCUM e.key)) })
  else if e.entry = 10 then
    match (s.cx e.key).note10 with
    | some (r, q, st) =>
      (s.setCx e.key fun c => { c with note10 := none },
       { e with arg0 := BitVec.ofNat 64 (r % 256 * 2 ^ 32 + e.key), arg1 := BitVec.ofNat 64 (q % 2 ^ 32), arg2 := BitVec.ofNat 64 st })
    | none => (s, e)
  else (s, e)

/-- The window is loaded: h8 to h15 always, h0 to h7 for a packet event (05 R142, 06 R198). -/
def State.loadWindow (s : State) (c : Nat) (e : Event) : State :=
  let s := (((s.set (.h c 8) e.h8).set (.h c 9) e.time).set (.h c 10) e.arg0).set (.h c 11) e.arg1
  let s := (((s.set (.h c 12) e.arg2).set (.h c 13) 0).set (.h c 14) 0).set (.h c 15) 0
  match e.pkt with
  | some p => (List.range 8).foldl (fun t i => t.set (.h c i) (p.hdr.word i)) s
  | none => s

/-- The context takes an event: what it must report and the key it holds. -/
def Ctx.take (x : Ctx) (e : Event) : Ctx :=
  let new := e.inbound || e.late.isSome
  { x with
    act := some e, inb := if new then some e else x.inb, handled := if new then false else x.handled
    keys := if e.kind < 4 then (e.kind, e.key) :: x.keys else x.keys, waitMask := none
    tenant := if e.kind < 4 ∨ e.entry = 15 then some e.tenant else x.tenant }

/-- A packet that a WAITING context has not handled when it resumes for another one is discarded as at done (05 R171): DESIGN CHOICE
(notes/assumptions/73.md). A context takes an event: an IDLE one starts an activation at the handler, a WAITING one resumes with the
class number in its wait's destination. REMAINING is set to the LIMIT of that moment, also one written since the activation
began: DESIGN CHOICE, 05 R161 speaks of the next activation, R155 and R159 of LIMIT (notes/assumptions/65.md). -/
def State.giveEvent (s : State) (c : Nat) (e : Event) : State :=
  let (s, e) := s.atDispatch e
  let s := if e.kind < 4 then s.tally (ctxIsl c) 0x0F else s
  match (s.ctx c).waitMask with
  | some (_, d) =>
    let s := if e.inbound || e.late.isSome then s.packetEnd c else s
    let s := (s.loadWindow c e).setCtx c fun x => x.take e
    let s := s.wr (F.csr_REMAINING c) (s.rd (F.csr_LIMIT c))
    (s.setG c d (BitVec.ofNat 64 e.cls)).wr (F.ctxCfg_STATE c) XS.running
  | none =>
    let s := (s.loadWindow c e).setCtx c fun x => { x.take e with issued := 0, stall := .none }
    let s := s.wr (F.csr_REMAINING c) (s.rd (F.csr_LIMIT c))
    let s := s.wr (F.pc_PC c) (4 * (s.handlerOf c e.entry).getD 0)
    (s.tally (ctxIsl c) 0x03).wr (F.ctxCfg_STATE c) XS.running

/-- The context is IDLE and free to take an event of a class and entry for a tenant. -/
def State.ctxFree (s : State) (c : Nat) (e : Event) : Bool :=
  s.ctxState c == XS.idle && s.ctxTakes c e.cls e.entry e.tenant

/-- The context waits for the class. -/
def State.ctxWaits (s : State) (c cls : Nat) : Bool :=
  s.ctxState c == XS.waiting && (match (s.ctx c).waitMask with | some (m, _) => m / 2 ^ cls % 2 == 1 | none => false)

/-- The context takes a targeted event now (06 R195 step 1). -/
def State.ctxTargets (s : State) (c : Nat) (e : Event) : Bool :=
  s.ctxWaits c e.cls
    || (s.ctxState c == XS.idle && s.on (F.ctxCfg_EN c) && s.rd (F.csr_MASK c) / 2 ^ e.cls % 2 == 1
        && (s.handlerOf c e.entry).isSome)

/-! ## The ends of stalls (05 R165, R169, 10 R351) -/

/-- A packet that a context hands over still waits for room. -/
def State.carries (s : State) (id : Nat) : Bool :=
  (s.route.held ++ s.route.flagged).any (fun h => h.sender == some id)
    || s.conns.any fun c => c.2.wait.any fun w => w.sender == some id

/-- What a context stalls for has come. -/
def State.stallOver (s : State) (x : Ctx) : Bool :=
  match x.stall with
  | .brushes => decide (x.brushes.length < 16)
  | .drained => !s.draining
  | .room _ id => !s.carries id
  | _ => false

/-- A context whose stall is over goes on: it issues again, or its pkt.send or pkt.fwd returns OK. -/
def State.stallEnd (s : State) (c : Nat) : State :=
  match (s.ctx c).stall with
  | .room d _ =>
    ((s.setCtx c fun x => { x with stall := .none }).setG c d (unitWord 0 US.ok)).wr (F.pc_PC c) (s.pcOf c + 4)
  | _ => s.setCtx c fun x => { x with stall := .none }

/-- Every context whose stall is over goes on. -/
def State.stallSync (s : State) : State :=
  s.ctxs.foldl (fun t c => if s.stallOver c.2 then t.stallEnd c.1 else t) s

/-! ## Addresses (05 R148, R149, 06 R203, R204) -/

/-- Where an engine address leads; a denial by the gate names the gate address. -/
inductive EngAddr where
  | pal (key : Nat)
  | dev (off : Nat)
  | bad
  | denied (gate : Option Nat)
  deriving DecidableEq, Repr

/-- The palette address of a User context is relative to its region (06 R203). -/
def State.palAddr (s : State) (c a n : Nat) : EngAddr :=
  let e := ctxEng c
  if s.isUser c then
    if a + n ≤ s.rd (F.ctxCfg_PAL_UNITS c) * 256 then .pal (65536 * e + s.rd (F.ctxCfg_PAL_BASE c) * 256 + a) else .denied none
  else if a + n ≤ 65536 then .pal (65536 * e + a)
  else .bad

/-- An address of the engine address map, for an access of `n` bytes. An access that has been checked and waited for its line
keeps its verdict (15 R490). -/
def State.engAddr (s : State) (c a n : Nat) (k : AccKind) : EngAddr :=
  if a < 65536 then s.palAddr c a n
  else if 0x1000000000000 ≤ a ∧ a ≤ 0x10003FFFFFFFF then
    let off := a - 0x1000000000000
    let passed := (s.ctx c).passed.isSome
    if !backed off n then .bad
    else if !passed && s.isUser c && !s.inAlloc (s.rd (F.ctxCfg_TENANT c)) off n then .denied none
    else if passed || s.gateOk (ctxMst c) off n k then .dev off
    else .denied (some off)
  else .bad

/-- The bytes of a palette range. -/
def State.palRead (s : State) (key n : Nat) : List Byte := s.pal.readBytes key n

/-- A palette range is written; its words are whole again. -/
def State.palWrite (s : State) (key : Nat) (bs : List Byte) : State :=
  { s with pal := s.pal.writeBytes key bs
           palPoison := (List.range ((bs.length + key % 8 + 7) / 8)).foldl (fun m i => m.del (key / 8 + i)) s.palPoison
           palEcc := (List.range ((bs.length + key % 8 + 7) / 8)).foldl (fun m i => m.del (key / 8 + i)) s.palEcc }

/-- A palette range has a word with one bit in error. -/
def State.palFlawed (s : State) (key n : Nat) : Bool :=
  (List.range ((n + key % 8 + 7) / 8)).any fun i => (s.palEcc.find (key / 8 + i)).isSome

/-- Words of a palette range with one bit in error are corrected as they are read (16 R511). -/
def State.palCheck (s : State) (key n : Nat) : State :=
  ((List.range ((n + key % 8 + 7) / 8)).map (key / 8 + ·)).foldl
    (fun t w =>
      if (t.palEcc.find w).isSome then
        ({ t with palEcc := t.palEcc.del w } : State).raise (Src.PAL_ECC_CORR (w / 8192 / 17)) { addr := w, atype := 14 }
      else t) s

/-- A word of a palette range is uncorrectable. -/
def State.palBad (s : State) (key n : Nat) : Bool :=
  (List.range ((n + key % 8 + 7) / 8)).any fun i => (s.palPoison.find (key / 8 + i)).isSome

/-- Uncorrectable words of a palette range are found by `who`, a context or none: each other context whose region holds one is
told PALETTE_UNCORR, with the address as it names it (06 R199, DEDUCED, notes/assumptions/49.md), and the engine has met an
error (16 R533). -/
def State.palFound (s : State) (key n : Nat) (who : Option Nat) : State :=
  let e := key / 65536
  let words := ((List.range ((n + key % 8 + 7) / 8)).map (key / 8 + ·)).filter fun w => (s.palPoison.find w).isSome
  ((List.range 8).map (8 * e + ·)).foldl
    (fun t c =>
      let lo := 65536 * e + s.rd (F.ctxCfg_PAL_BASE c) * 256
      match words.find? fun w => decide (lo ≤ 8 * w ∧ 8 * w < lo + s.rd (F.ctxCfg_PAL_UNITS c) * 256) with
      | some w =>
        if who = some c then t
        else t.postTargeted c
          { entry := 20, cls := 11, arg0 := 2, arg1 := BitVec.ofNat 64 (8 * w - (if s.isUser c then lo else 65536 * e)) }
      | none => t) (s.engError e)

/-- Words of a descriptor in the palette. -/
def State.palWord (s : State) (key i : Nat) : Word := wordOfBytes (s.palRead (key + 8 * i) 8)

end Sys2Proof.Machine
end

