-- ==== Sys2Proof/Machine/Code.lean ====
section
/-! DEFINITION. The instruction words of an engine (05 R143 to R147, R152 to R156, R160, R162 to R175): the formats, the
word of each instruction, and the instruction that a word spells. -/

namespace Sys2Proof.Machine

/-! ## Formats (05 R144) -/

def encA (op d a b fn : Nat) : Nat := op * 2 ^ 26 + d % 32 * 2 ^ 21 + a % 32 * 2 ^ 16 + b % 32 * 2 ^ 11 + fn % 2048
def encI (op d a imm : Nat) : Nat := op * 2 ^ 26 + d % 32 * 2 ^ 21 + a % 32 * 2 ^ 16 + imm % 65536
def encB (op a b off : Nat) : Nat := op * 2 ^ 26 + a % 32 * 2 ^ 21 + b % 32 * 2 ^ 16 + off % 65536
def encJ (op d off : Nat) : Nat := op * 2 ^ 26 + d % 32 * 2 ^ 21 + off % 2097152
def encX (d a b unit uop : Nat) : Nat := 0x30 * 2 ^ 26 + d % 32 * 2 ^ 21 + a % 32 * 2 ^ 16 + b % 32 * 2 ^ 11 + unit % 32 * 64 + uop % 64

/-- POS and LEN − 1 of a bit-field instruction in its immediate (05 R145). -/
def bfxImm (pos len1 : BitVec 6) : Nat := pos.toNat * 64 + len1.toNat

/-! ## The word of an instruction -/

/-- The word that an engine fetches for an instruction; none for a command that is no instruction. -/
def insnWord : Instr → Option Nat
  | .add _ d a b => some (encA 0x01 d a b 0x000)
  | .sub _ d a b => some (encA 0x01 d a b 0x001)
  | .and _ d a b => some (encA 0x01 d a b 0x002)
  | .or _ d a b => some (encA 0x01 d a b 0x003)
  | .xor _ d a b => some (encA 0x01 d a b 0x004)
  | .sll _ d a b => some (encA 0x01 d a b 0x005)
  | .srl _ d a b => some (encA 0x01 d a b 0x006)
  | .sra _ d a b => some (encA 0x01 d a b 0x007)
  | .slt _ d a b => some (encA 0x01 d a b 0x008)
  | .sltu _ d a b => some (encA 0x01 d a b 0x009)
  | .seq _ d a b => some (encA 0x01 d a b 0x00A)
  | .sne _ d a b => some (encA 0x01 d a b 0x00B)
  | .mul _ d a b => some (encA 0x01 d a b 0x010)
  | .mulh _ d a b => some (encA 0x01 d a b 0x011)
  | .mulhu _ d a b => some (encA 0x01 d a b 0x012)
  | .min _ d a b => some (encA 0x01 d a b 0x014)
  | .max _ d a b => some (encA 0x01 d a b 0x015)
  | .minu _ d a b => some (encA 0x01 d a b 0x016)
  | .maxu _ d a b => some (encA 0x01 d a b 0x017)
  | .clz _ d a => some (encA 0x01 d a 0 0x020)
  | .ctz _ d a => some (encA 0x01 d a 0 0x021)
  | .popc _ d a => some (encA 0x01 d a 0 0x022)
  | .addi _ d a imm => some (encI 0x02 d a imm.toNat)
  | .andi _ d a imm => some (encI 0x03 d a imm.toNat)
  | .ori _ d a imm => some (encI 0x04 d a imm.toNat)
  | .xori _ d a imm => some (encI 0x05 d a imm.toNat)
  | .slli _ d a sh => some (encI 0x06 d a sh.toNat)
  | .srli _ d a sh => some (encI 0x07 d a sh.toNat)
  | .srai _ d a sh => some (encI 0x08 d a sh.toNat)
  | .slti _ d a imm => some (encI 0x09 d a imm.toNat)
  | .sltiu _ d a imm => some (encI 0x0A d a imm.toNat)
  | .lsi _ d a imm => some (encI 0x0B d a imm.toNat)
  | .bfxU _ d a pos len1 => some (encI 0x0C d a (bfxImm pos len1))
  | .bfxS _ d a pos len1 => some (encI 0x0D d a (bfxImm pos len1))
  | .bfi _ d a pos len1 => some (encI 0x0E d a (bfxImm pos len1))
  | .ldB _ d a imm => some (encI 0x10 d a imm.toNat)
  | .ldBu _ d a imm => some (encI 0x11 d a imm.toNat)
  | .ldH _ d a imm => some (encI 0x12 d a imm.toNat)
  | .ldHu _ d a imm => some (encI 0x13 d a imm.toNat)
  | .ldW _ d a imm => some (encI 0x14 d a imm.toNat)
  | .ldWu _ d a imm => some (encI 0x15 d a imm.toNat)
  | .ldD _ d a imm => some (encI 0x16 d a imm.toNat)
  | .stB _ d a imm => some (encI 0x18 d a imm.toNat)
  | .stH _ d a imm => some (encI 0x19 d a imm.toNat)
  | .stW _ d a imm => some (encI 0x1A d a imm.toNat)
  | .stD _ d a imm => some (encI 0x1B d a imm.toNat)
  | .hld _ d i => some (encI 0x1C d 0 i.val)
  | .hst _ a i => some (encI 0x1D 0 a i.val)
  | .beq _ a b off => some (encB 0x20 a b off.toNat)
  | .bne _ a b off => some (encB 0x21 a b off.toNat)
  | .blt _ a b off => some (encB 0x22 a b off.toNat)
  | .bge _ a b off => some (encB 0x23 a b off.toNat)
  | .bltu _ a b off => some (encB 0x24 a b off.toNat)
  | .bgeu _ a b off => some (encB 0x25 a b off.toNat)
  | .jal _ d off => some (encJ 0x26 d off.toNat)
  | .jalr _ d a imm => some (encI 0x27 d a imm.toNat)
  | .fenceR _ => some (encA 0x28 0 0 0 1)
  | .fenceW _ => some (encA 0x28 0 0 0 2)
  | .fenceAll _ => some (encA 0x28 0 0 0 3)
  | .amoAdd _ d a b => some (encA 0x29 d a b 0)
  | .amoSwap _ d a b => some (encA 0x29 d a b 1)
  | .amoCas _ d a b => some (encA 0x29 d a b 2)
  | .amoAnd _ d a b => some (encA 0x29 d a b 3)
  | .amoOr _ d a b => some (encA 0x29 d a b 4)
  | .lockAcq _ d a => some (encA 0x2A d a 0 0)
  | .lockTry _ d a => some (encA 0x2A d a 0 1)
  | .lockRel _ d a => some (encA 0x2A d a 0 2)
  | .wait _ d a => some (encA 0x2B d a 0 0)
  | .yield _ => some (encA 0x2B 0 0 0 1)
  | .done _ => some (encA 0x2B 0 0 0 2)
  | .trap _ imm => some (encI 0x2C 0 0 imm.toNat)
  | .halt _ => some (encA 0x2D 0 0 0 0)
  | .csrRd _ d n => some (encI 0x2E d 0 n.toNat)
  | .csrWr _ a n => some (encI 0x2F 0 a n.toNat)
  | .brushCopy _ d a b => some (encX d a b 0 0)
  | .brushFill _ d a b => some (encX d a b 0 1)
  | .brushDrain _ d a b => some (encX d a b 0 2)
  | .qPop _ d a b _ => some (encX d a b 1 0)
  | .qPush _ d a b => some (encX d a b 1 1)
  | .qComplete _ d a b => some (encX d a b 1 2)
  | .qBell _ d a => some (encX d a 0 1 3)
  | .pktBuild _ d a b => some (encX d a b 2 0)
  | .pktSend _ d a b => some (encX d a b 2 1)
  | .pktFwd _ d a b => some (encX d a b 2 2)
  | .pktDrop _ d a b => some (encX d a b 2 3)
  | .matchPost _ d a b => some (encX d a b 3 0)
  | .matchProbe _ d a b => some (encX d a b 3 1)
  | .matchTake _ d a b => some (encX d a b 3 2)
  | .mixOpen _ d a b => some (encX d a b 4 0)
  | .mixFeed _ d a b => some (encX d a b 4 1)
  | .mixClose _ d a b => some (encX d a b 4 2)
  | .tmArm _ d a b => some (encX d a b 5 0)
  | .tmStop _ d a b => some (encX d a b 5 1)
  | .cntRd _ d a b => some (encX d a b 6 0)
  | _ => none

/-! ## The instruction that a word spells (05 R143) -/

/-- The register that the five bits from `lo` name. -/
def regAt (w : BitVec 32) (lo : Nat) : GReg := Fin.ofNat 32 (w.toNat / 2 ^ lo)

/-- The ALU group (05 R146). -/
def decodeAlu (c : CtxNum) (d a b : GReg) (fn : Nat) : Option Instr :=
  if fn = 0x00 then some (.add c d a b) else if fn = 0x01 then some (.sub c d a b)
  else if fn = 0x02 then some (.and c d a b) else if fn = 0x03 then some (.or c d a b)
  else if fn = 0x04 then some (.xor c d a b) else if fn = 0x05 then some (.sll c d a b)
  else if fn = 0x06 then some (.srl c d a b) else if fn = 0x07 then some (.sra c d a b)
  else if fn = 0x08 then some (.slt c d a b) else if fn = 0x09 then some (.sltu c d a b)
  else if fn = 0x0A then some (.seq c d a b) else if fn = 0x0B then some (.sne c d a b)
  else if fn = 0x10 then some (.mul c d a b) else if fn = 0x11 then some (.mulh c d a b)
  else if fn = 0x12 then some (.mulhu c d a b) else if fn = 0x14 then some (.min c d a b)
  else if fn = 0x15 then some (.max c d a b) else if fn = 0x16 then some (.minu c d a b)
  else if fn = 0x17 then some (.maxu c d a b)
  else if b.val = 0 ∧ fn = 0x20 then some (.clz c d a) else if b.val = 0 ∧ fn = 0x21 then some (.ctz c d a)
  else if b.val = 0 ∧ fn = 0x22 then some (.popc c d a)
  else none

/-- Immediates, loads and stores (05 R145). -/
def decodeImm (c : CtxNum) (d a : GReg) (op : Nat) (imm : BitVec 16) : Option Instr :=
  let sh : BitVec 6 := imm.setWidth 6
  let pos : BitVec 6 := imm.extractLsb' 6 6
  if op = 0x02 then some (.addi c d a imm) else if op = 0x03 then some (.andi c d a imm)
  else if op = 0x04 then some (.ori c d a imm) else if op = 0x05 then some (.xori c d a imm)
  else if op = 0x06 then (if imm.toNat < 64 then some (.slli c d a sh) else none)
  else if op = 0x07 then (if imm.toNat < 64 then some (.srli c d a sh) else none)
  else if op = 0x08 then (if imm.toNat < 64 then some (.srai c d a sh) else none)
  else if op = 0x09 then some (.slti c d a imm) else if op = 0x0A then some (.sltiu c d a imm)
  else if op = 0x0B then some (.lsi c d a imm)
  else if op = 0x0C then (if imm.toNat < 4096 then some (.bfxU c d a pos sh) else none)
  else if op = 0x0D then (if imm.toNat < 4096 then some (.bfxS c d a pos sh) else none)
  else if op = 0x0E then (if imm.toNat < 4096 then some (.bfi c d a pos sh) else none)
  else if op = 0x10 then some (.ldB c d a imm) else if op = 0x11 then some (.ldBu c d a imm)
  else if op = 0x12 then some (.ldH c d a imm) else if op = 0x13 then some (.ldHu c d a imm)
  else if op = 0x14 then some (.ldW c d a imm) else if op = 0x15 then some (.ldWu c d a imm)
  else if op = 0x16 then some (.ldD c d a imm)
  else if op = 0x18 then some (.stB c d a imm) else if op = 0x19 then some (.stH c d a imm)
  else if op = 0x1A then some (.stW c d a imm) else if op = 0x1B then some (.stD c d a imm)
  else if op = 0x1C then (if a.val = 0 ∧ imm.toNat < 16 then some (.hld c d (Fin.ofNat 16 imm.toNat)) else none)
  else if op = 0x1D then (if d.val = 0 ∧ imm.toNat < 8 then some (.hst c a (Fin.ofNat 8 imm.toNat)) else none)
  else if op = 0x27 then some (.jalr c d a imm)
  else if op = 0x2C then (if d.val = 0 ∧ a.val = 0 then some (.trap c imm) else none)
  else if op = 0x2E then (if a.val = 0 ∧ imm.toNat < 256 then some (.csrRd c d (imm.setWidth 8)) else none)
  else if op = 0x2F then (if d.val = 0 ∧ imm.toNat < 256 then some (.csrWr c a (imm.setWidth 8)) else none)
  else none

/-- Branches; a branch names its operands in the places of d and a (05 R144). -/
def decodeBranch (c : CtxNum) (a b : GReg) (op : Nat) (off : BitVec 16) : Option Instr :=
  if op = 0x20 then some (.beq c a b off) else if op = 0x21 then some (.bne c a b off)
  else if op = 0x22 then some (.blt c a b off) else if op = 0x23 then some (.bge c a b off)
  else if op = 0x24 then some (.bltu c a b off) else if op = 0x25 then some (.bgeu c a b off)
  else none

/-- The fence, atomic, lock and event groups and halt (05 R152 to R156). -/
def decodeGroup (c : CtxNum) (d a b : GReg) (op fn : Nat) : Option Instr :=
  let bare := d.val = 0 ∧ a.val = 0 ∧ b.val = 0
  if op = 0x28 then
    if bare ∧ fn = 1 then some (.fenceR c) else if bare ∧ fn = 2 then some (.fenceW c)
    else if bare ∧ fn = 3 then some (.fenceAll c) else none
  else if op = 0x29 then
    if fn = 0 then some (.amoAdd c d a b) else if fn = 1 then some (.amoSwap c d a b)
    else if fn = 2 then some (.amoCas c d a b) else if fn = 3 then some (.amoAnd c d a b)
    else if fn = 4 then some (.amoOr c d a b) else none
  else if op = 0x2A then
    if b.val ≠ 0 then none
    else if fn = 0 then some (.lockAcq c d a) else if fn = 1 then some (.lockTry c d a)
    else if fn = 2 then some (.lockRel c d a) else none
  else if op = 0x2B then
    if b.val = 0 ∧ fn = 0 then some (.wait c d a) else if bare ∧ fn = 1 then some (.yield c)
    else if bare ∧ fn = 2 then some (.done c) else none
  else if op = 0x2D then (if bare ∧ fn = 0 then some (.halt c) else none)
  else none

/-- Unit operations (05 R162 to R175). -/
def decodeUnit (c : CtxNum) (src : Fetched) (d a b : GReg) (unit uop : Nat) : Option Instr :=
  if unit = 0 then
    if uop = 0 then some (.brushCopy c d a b) else if uop = 1 then some (.brushFill c d a b)
    else if uop = 2 then some (.brushDrain c d a b) else none
  else if unit = 1 then
    if uop = 0 then some (.qPop c d a b src) else if uop = 1 then some (.qPush c d a b)
    else if uop = 2 then some (.qComplete c d a b)
    else if uop = 3 ∧ b.val = 0 then some (.qBell c d a) else none
  else if unit = 2 then
    if uop = 0 then some (.pktBuild c d a b) else if uop = 1 then some (.pktSend c d a b)
    else if uop = 2 then some (.pktFwd c d a b) else if uop = 3 then some (.pktDrop c d a b) else none
  else if unit = 3 then
    if uop = 0 then some (.matchPost c d a b) else if uop = 1 then some (.matchProbe c d a b)
    else if uop = 2 then some (.matchTake c d a b) else none
  else if unit = 4 then
    if uop = 0 then some (.mixOpen c d a b) else if uop = 1 then some (.mixFeed c d a b)
    else if uop = 2 then some (.mixClose c d a b) else none
  else if unit = 5 then
    if uop = 0 then some (.tmArm c d a b) else if uop = 1 then some (.tmStop c d a b) else none
  else if unit = 6 ∧ uop = 0 then some (.cntRd c d a b)
  else none

/-- The instruction of context `c` that a word spells, `src` being what a q.pop reads of its ring; none for an undefined
word (05 R143 to R175). -/
def decodeInsn (c : CtxNum) (src : Fetched) (w : BitVec 32) : Option Instr :=
  let op := w.toNat / 2 ^ 26
  let d := regAt w 21
  let a := regAt w 16
  let b := regAt w 11
  let fn := w.toNat % 2048
  let imm : BitVec 16 := w.setWidth 16
  if op = 0x01 then decodeAlu c d a b fn
  else if 0x20 ≤ op ∧ op ≤ 0x25 then decodeBranch c d a op imm
  else if op = 0x26 then some (.jal c d (w.setWidth 21))
  else if 0x28 ≤ op ∧ op ≤ 0x2B ∨ op = 0x2D then decodeGroup c d a b op fn
  else if op = 0x30 then decodeUnit c src d a b (w.toNat / 64 % 32) (w.toNat % 64)
  else decodeImm c d a op imm

end Sys2Proof.Machine
end

