-- ==== Sys2Proof/Machine/Floats.lean ====
section
/-! DEFINITION. Elements of collectives (09 R305 to R309): floating formats, conversion to the exact accumulator,
merging, the one rounding, minimum and maximum, and the raw and accumulator forms on the wire. -/

namespace Sys2Proof.Machine

/-- A floating format: exponent and fraction bits, p, L, emax and the scale of its accumulator (09 R305, R307). -/
structure FFmt where
  eb : Nat
  fb : Nat
  low : Nat
  emax : Nat
  scale : Nat
  deriving DecidableEq, Repr

/-- The format of a floating DTYPE. -/
def ffmt (t : Nat) : FFmt :=
  match t with
  | 4 => ⟨5, 10, 125, 15, 149⟩
  | 5 => ⟨8, 7, 16, 127, 149⟩
  | 6 => ⟨8, 23, 0, 127, 149⟩
  | _ => ⟨11, 52, 0, 1023, 1074⟩

/-- Sign, exponent and fraction of a raw element. -/
def FFmt.sign (f : FFmt) (v : Nat) : Bool := v / 2 ^ (f.eb + f.fb) % 2 == 1
def FFmt.exp (f : FFmt) (v : Nat) : Nat := v / 2 ^ f.fb % 2 ^ f.eb
def FFmt.frac (f : FFmt) (v : Nat) : Nat := v % 2 ^ f.fb
def FFmt.isNan (f : FFmt) (v : Nat) : Bool := f.exp v == 2 ^ f.eb - 1 && f.frac v != 0
def FFmt.isInf (f : FFmt) (v : Nat) : Bool := f.exp v == 2 ^ f.eb - 1 && f.frac v == 0

/-- The canonical NaN and the infinities (09 R308). -/
def FFmt.nan (f : FFmt) : Nat := (2 ^ f.eb - 1) * 2 ^ f.fb + 2 ^ (f.fb - 1)
def FFmt.inf (f : FFmt) (neg : Bool) : Nat := neg.toNat * 2 ^ (f.eb + f.fb) + (2 ^ f.eb - 1) * 2 ^ f.fb

/-- The exact accumulator of a raw element, with its status bits (09 R305, R306). -/
def FFmt.toAcc (f : FFmt) (v : Nat) : Int × Nat :=
  if f.isNan v then (0, 1 + 8)
  else if f.isInf v then (0, (if f.sign v then 4 else 2) + 8)
  else
    let e := f.exp v
    let sig := if e = 0 then f.frac v else 2 ^ f.fb + f.frac v
    let m : Int := (sig * 2 ^ (max e 1 - 1 + f.low) : Nat)
    let negZero := f.sign v && e == 0 && f.frac v == 0
    (if f.sign v then -m else m, if negZero then 0 else 8)

/-- The number of the highest set bit. -/
def msb (n : Nat) : Nat := Nat.log2 n

/-- `m` ÷ 2^k rounded to nearest, ties to even. -/
def roundShift (m k : Nat) : Nat :=
  let r := m / 2 ^ k
  let rest := m % 2 ^ k
  let half := 2 ^ k / 2
  if k = 0 then m else if half < rest ∨ (rest = half ∧ r % 2 = 1) then r + 1 else r

/-- The one rounding at the root (09 R307). -/
def FFmt.round (f : FFmt) (a : Int) (st : Nat) : Nat :=
  let nan := st % 2 == 1
  let pos := st / 2 % 2 == 1
  let neg := st / 4 % 2 == 1
  if nan || (pos && neg) then f.nan
  else if pos then f.inf false
  else if neg then f.inf true
  else if a = 0 then (if st / 8 % 2 = 1 then 0 else 2 ^ (f.eb + f.fb))
  else
    let m := a.natAbs
    let low := max (msb m + 1 - (f.fb + 1)) f.low
    let r := roundShift m low
    let neg := decide (a < 0)
    if 2 ^ (f.emax + 1 + f.scale) ≤ r * 2 ^ low then f.inf neg
    else
      let u := r * 2 ^ (low - f.low)
      let body := if u < 2 ^ f.fb then u else (msb u - f.fb + 1) * 2 ^ f.fb + (u / 2 ^ (msb u - f.fb) - 2 ^ f.fb)
      neg.toNat * 2 ^ (f.eb + f.fb) + body

/-- The order of floats that are not NaN: −0 before +0 (09 R309). -/
def FFmt.key (f : FFmt) (v : Nat) : Int :=
  let m : Int := (v % 2 ^ (f.eb + f.fb) : Nat)
  if f.sign v then -m - 1 else m

/-- A raw element of `n` bytes as a signed number. -/
def signedElem (n v : Nat) : Int := if v < 2 ^ (8 * n - 1) then v else (v : Int) - 2 ^ (8 * n)

/-- An operator other than a floating sum on raw elements (09 R309). -/
def rawOp (c : Coll) (size x y : Nat) : Nat :=
  let flt := decide (4 ≤ c.dtype)
  let f := ffmt c.dtype
  let pick (lt : Bool) : Nat := if c.op = 1 then (if lt then x else y) else (if lt then y else x)
  match c.op with
  | 0 => (x + y) % 2 ^ (8 * size)
  | 1 | 2 =>
    if flt then (if f.isNan x || f.isNan y then f.nan else pick (decide (f.key x ≤ f.key y)))
    else if c.dtype % 2 = 0 then pick (decide (signedElem size x ≤ signedElem size y))
    else pick (decide (x ≤ y))
  | 3 => x &&& y
  | 4 => x ||| y
  | _ => x ^^^ y

/-- The operation is a floating sum. -/
def Coll.fsum (c : Coll) : Bool := decide (4 ≤ c.dtype ∧ c.op = 0)

/-- An element as accumulator. -/
def Elem.toAcc (c : Coll) : Elem → Int × Nat
  | .raw v => (ffmt c.dtype).toAcc v
  | .acc a st => (a, st)

/-- The merge of two elements: exact (09 R305, R306, R309). -/
def Elem.merge (c : Coll) (size : Nat) (x y : Elem) : Elem :=
  if c.fsum then
    let p := x.toAcc c
    let q := y.toAcc c
    .acc (p.1 + q.1) ((p.2 ||| q.2) % 16)
  else
    match x, y with
    | .raw a, .raw b => .raw (rawOp c size a b)
    | _, _ => x

/-- The result element at the root. -/
def Elem.result (c : Coll) (e : Elem) : Nat :=
  match e with
  | .raw v => if c.fsum then let p := (ffmt c.dtype).toAcc v; (ffmt c.dtype).round p.1 p.2
    else if 4 ≤ c.dtype ∧ (ffmt c.dtype).isNan v = true then (ffmt c.dtype).nan else v
  | .acc a st => (ffmt c.dtype).round a st

/-- Bytes of an accumulator: 40, or 272 for fp64 (09 R306). -/
def accBytes (t : Nat) : Nat := if t = 7 then 272 else 40

/-- The wire form of an element: raw, or accumulator and status word with its residue (09 R304, R306). -/
def Elem.bytes (t size : Nat) : Elem → List Byte
  | .raw v => bytesOf size v
  | .acc a st =>
    let w := accBytes t
    bytesOf w (a % (2 ^ (8 * w) : Nat)).toNat ++ bytesOf 8 (st % 16 + (a % 3).toNat * 16)

/-- An accumulator element from its wire form, and whether its residue agrees. -/
def accOfBytes (t : Nat) (bs : List Byte) : Elem × Bool :=
  let w := accBytes t
  let v := ofBytes (bs.take w)
  let a : Int := if v < 2 ^ (8 * w - 1) then v else (v : Int) - (2 ^ (8 * w) : Nat)
  let st := ofBytes ((bs.drop w).take 8)
  (.acc a (st % 16), (a % 3).toNat == st / 16 % 4)

/-- `n` elements of a payload; the flag says that every residue agrees. -/
def elemsOf (acc : Bool) (t size : Nat) : Nat → List Byte → List Elem × Bool
  | 0, _ => ([], true)
  | n + 1, bs =>
    if acc then
      let w := accBytes t + 8
      let e := accOfBytes t (bs.take w)
      let r := elemsOf acc t size n (bs.drop w)
      (e.1 :: r.1, e.2 && r.2)
    else
      let r := elemsOf acc t size n (bs.drop size)
      (.raw (ofBytes (bs.take size)) :: r.1, r.2)

end Sys2Proof.Machine
end

