-- ==== Sys2Proof/Machine/TreeOps.lean ====
section
/-! DEFINITION. Operations of tree nodes and mixers (09): chunks, staging slots, merging, the climb and the
descent, FINALs and prunes, ends of instances, poison and BROKEN. -/

namespace Sys2Proof.Machine

def State.tr (s : State) (t : Nat) : TreeSt := s.trees.at t {}
def State.setTr (s : State) (t : Nat) (f : TreeSt → TreeSt) : State := { s with trees := s.trees.upd t {} f }

/-! ## Shape of a tree and of an operation -/

/-- Child i of a tree, and how many there are. -/
def State.childEp (s : State) (t i : Nat) : Nat := s.rd (F.tree_CHILD t i)
def State.nChild (s : State) (t : Nat) : Nat := min 16 (s.rd (F.tree_NCHILD t))
def State.nLocal (s : State) (t : Nat) : Nat := s.rd (F.tree_NLOCAL t)
def State.isRoot (s : State) (t : Nat) : Bool := s.on (F.tree_ROOT t)
def State.treeActive (s : State) (t : Nat) : Bool := s.rd (F.tree_STATE t) == 1

/-- The size of an element. -/
def Coll.size (c : Coll) : Nat :=
  match c.dtype with
  | 0 | 1 | 6 => 4
  | 2 | 3 | 7 => 8
  | _ => 2

/-- DTYPE and OP are ignored for BARRIER, BROADCAST and MULTICAST (09 R288). -/
def Coll.plain (c : Coll) : Coll := if 2 ≤ c.kind then { c with dtype := 0, op := 0 } else c

/-- The operation of a context, whose DTYPE and OP are its own, under the KIND of its instance (09 R288, R291). -/
def Coll.asKind (c : Coll) (k : Nat) : Coll := ({ c with kind := k } : Coll).plain

/-- REDUCE or ALLREDUCE: its up-phase carries elements. -/
def Coll.data (c : Coll) : Bool := decide (c.kind ≤ 1)

/-- Elements per chunk (09 R292). -/
def Coll.perChunk (c : Coll) : Nat := if c.fsum then (if c.dtype = 7 then 7 else 42) else 2016 / c.size

/-- Chunks of the up-phase of an operation of `len` bytes. -/
def Coll.chunks (c : Coll) (len : Nat) : Nat :=
  if c.data then max 1 ((len / c.size + c.perChunk - 1) / c.perChunk) else 1

/-- Elements of chunk `j` of the operation. -/
def Coll.elemsIn (c : Coll) (len j : Nat) : Nat :=
  if c.data then min c.perChunk (len / c.size - j * c.perChunk) else 0

/-- Bytes of result that one down packet carries, and how many down packets there are (09 R297, R298). -/
def Coll.downBytes (c : Coll) : Nat := if c.kind = 1 then c.perChunk * c.size else 2016
def Coll.downs (c : Coll) (len : Nat) : Nat :=
  if c.kind = 0 then 0 else if c.kind = 1 then c.chunks len
  else if c.kind = 3 then max 1 ((len + 2015) / 2016) else 1

/-- The CKEY of tree packets (09 R296). -/
def collKey (inst : Nat) (c : Coll) : Nat :=
  inst % 65536 * 65536 + c.kind % 16 * 4096 + c.dtype % 16 * 256 + c.op % 16 * 16

/-! ## Tree packets (09 R296) -/

/-- A tree packet from this device to a device endpoint; the fields that 09 R296 does not list are zero, but for FLAG, which
an entry may ask for (03 R84). -/
def State.treePacket (s : State) (t ptype dst inst : Nat) (c : Coll) (opmod seq off tag : Nat) (payload : List Byte)
    (flag : Bool := false) : Packet :=
  let h := mkHeader ptype (s.rd F.rteCfg_DEVNUM * 4) dst (s.rd (F.tree_TENANT t))
  let h := ((h.set H.tree t).set H.epoch (s.rd (F.tree_EPOCH t))).set H.e2e (s.rd (F.tree_CRC t))
  let h := ((h.set H.len payload.length).set H.seq seq).set H.opmod opmod
  let h := (((h.set H.ckey (collKey inst c)).set H.offset off).set H.tag tag).set H.flag flag.toNat
  ({ hdr := h, payload := payload, trailer := [] } : Packet).withCrc

/-- A tree packet leaves its node: injected, with FLAG behind the earlier packets of its pair (10 R344), or after a drain
(R351). -/
def State.treeSend (s : State) (t ptype dst inst : Nat) (c : Coll) (opmod seq off tag : Nat) (payload : List Byte)
    (flag : Bool := false) : State :=
  let p := s.treePacket t ptype dst inst c opmod seq off tag payload flag
  s.launch p none (s.pairOpen p)

/-! ## Fenced children (09 R311) -/

/-- No port leads toward an endpoint, or its route is fenced. -/
def State.fencedTo (s : State) (ep : Nat) : Bool :=
  let b := s.rd F.rteCfg_BANK
  let g := epGroup ep
  if g = s.myGroup then
    let m := epMember ep
    !s.memOk b m || ((s.memPorts b m).isEmpty && !s.ferryUp (s.rd (F.rteMem_FPORT b m)))
  else !s.grpOk b g || ((s.groupCands b g 1 0).isEmpty && !s.ferryUp (s.rd (F.rteGrp_FPORT b g)))

/-- An instance or multicast at a node. -/
def State.inst (s : State) (t k : Nat) (mc : Bool) : Option Inst := (s.tr t).insts.find? fun i => i.inst == k && i.mc == mc

/-- An instance changes. -/
def State.setInst (s : State) (t k : Nat) (mc : Bool) (f : Inst → Inst) : State :=
  s.setTr t fun x => { x with insts := x.insts.map fun i => if i.inst = k ∧ i.mc = mc then f i else i }

/-- An instance is opened when its first input or packet is seen; `loose` leaves its KIND open (09 R291). -/
def State.openInst (s : State) (t k : Nat) (mc : Bool) (c : Coll) (len : Nat) (loose : Bool := false) : State :=
  if (s.inst t k mc).isSome then s
  else s.setTr t fun x => { x with insts := x.insts ++ [{ inst := k, mc := mc, coll := c, len := len, loose := loose }] }

/-- A context's contribution under the KIND of its instance: without an up-phase of elements it has one READY chunk (09 R291,
R292). -/
def Contrib.asKind (z : Contrib) (k : Nat) : Contrib :=
  match z.who with
  | .ctx _ _ => { z with coll := z.coll.asKind k, fed := if 2 ≤ k then min z.fed 1 else z.fed }
  | .entry _ _ => z

/-- A staging slot under the KIND of its instance: a READY chunk has no elements. -/
def Slot.asKind (z : Slot) (k : Nat) : Slot :=
  { z with coll := z.coll.asKind k, off := if 2 ≤ k then 0 else z.off, elems := if 2 ≤ k then [] else z.elems }

/-- An instance whose KIND is open, as only contexts have contributed, takes the one of an input that has one: so do the slots that
they have begun, of which an instance without elements keeps the first. The contexts' contributions follow the KIND of their
instance, also of one that a child's chunk has opened (09 R291). -/
def State.kindSet (s : State) (t k : Nat) (c : Coll) (loose : Bool) : State :=
  let given := match s.inst t k false with | some x => if x.loose then none else some x.coll.kind | none => none
  let kind := given.getD c.kind
  if loose then s
  else
    s.setTr t fun y => { y with
      insts := y.insts.map fun i => if i.inst = k ∧ i.mc = false ∧ i.loose = true then { i with coll := i.coll.asKind kind, loose := false } else i
      contribs := y.contribs.map fun z => if z.inst = k then z.asKind kind else z
      slots := if given.isSome then y.slots else
        KMap.each (y.slots.filter fun z => !(z.2.inst == k && decide (2 ≤ kind) && z.2.off != 0)) fun _ z =>
          if z.inst = k then z.asKind kind else z }

/-- Children newly found fenced are pruned from an instance: counted and reported (09 R311). -/
def State.prune (s : State) (t k : Nat) (mc : Bool) : State :=
  (List.range (s.nChild t)).foldl
    (fun st i =>
      match st.inst t k mc with
      | some x =>
        if !x.pruned.contains i && st.fencedTo (st.childEp t i) then
          let st := (st.setInst t k mc fun x => { x with pruned := i :: x.pruned }).count (F.tree_PRUNED t)
          st.postEvent (st.rd (F.tree_EQ t)) 0x0302 0 (BitVec.ofNat 64 (st.childEp t i * 2 ^ 20 + t))
        else st
      | none => st) s

/-- The children of an instance that are not pruned. -/
def State.liveChildren (s : State) (t k : Nat) (mc : Bool) : List Nat :=
  match s.inst t k mc with
  | some x => (List.range (s.nChild t)).filter fun i => !x.pruned.contains i
  | none => []

/-- A down packet goes to every child not pruned (09 R299). -/
def State.sendDown (s : State) (t ptype k : Nat) (mc : Bool) (c : Coll) (opmod seq off tag : Nat) (payload : List Byte)
    (flag : Bool := false) : State :=
  let s := s.prune t k mc
  (s.liveChildren t k mc).foldl (fun st i => st.treeSend t ptype (st.childEp t i) k c opmod seq off tag payload flag) s

/-- A descending packet as a node sends it on to a child: only DST and SRC, and the fields that the egress stage rewrites,
change (01 R20); those start afresh at the node (DEDUCED, notes/assumptions/48.md). -/
def State.replica (s : State) (p : Packet) (dst : Nat) : Packet :=
  let h := (p.hdr.set H.src (s.rd F.rteCfg_DEVNUM * 4)).set H.dst dst
  { p with hdr := ((((h.set H.vc 0).set H.hops 0).set H.ferry 0).set H.nonmin 0).set H.igroup 0 }

/-- A descending packet is replicated to every child that its instance has not pruned (09 R299). -/
def State.relay (s : State) (p : Packet) (sender : Option Nat := none) : State :=
  let t := p.get H.tree
  let k := p.get H.ckey / 65536
  let mc := p.get H.ckey / 4096 % 16 == 4
  let pruned := ((s.inst t k mc).map (·.pruned)).getD ((List.range (s.nChild t)).filter fun i => s.fencedTo (s.childEp t i))
  ((List.range (s.nChild t)).filter fun i => !pruned.contains i).foldl
    (fun st i =>
      let x := (st.replica p (st.childEp t i)).withCrc
      st.launch x none (st.pairOpen x) sender) s

/-- The sketch of a context takes a tree's events of an entry: forwarding is then its pkt.fwd (09 R299,
notes/assumptions/17.md). -/
def State.treeServed (s : State) (t entry : Nat) : Bool :=
  s.served 1 t 4 entry (s.rd (F.tree_TENANT t))

/-- A descending packet goes on below the node: fenced children are pruned, and the library forwards it where no sketch does
(09 R299, R311). -/
def State.passDown (s : State) (t entry : Nat) (p : Packet) : State :=
  let s := s.prune t (p.get H.ckey / 65536) (p.get H.ckey / 4096 % 16 == 4)
  if s.treeServed t entry then s else s.relay p

/-! ## Ends of members (09 R291, R297) -/

/-- A member of an instance ends: its entry completes, or its context gets a mixer event. -/
def State.memberEnd (s : State) (m : Member) (status : Nat) (result : Nat) : State :=
  match m with
  | .entry q id => s.finishEntry q id { status := status, result := BitVec.ofNat 64 result }
  | .ctx c h => s.postTargeted c { entry := 19, cls := 10, arg0 := BitVec.ofNat 64 (h % 65536 * 2 ^ 48 + status % 256 * 2 ^ 40) }

/-- Every contribution of an instance ends that has not. -/
def State.instEnd (s : State) (t k status result : Nat) : State :=
  let cs := (s.tr t).contribs.filter fun c => c.inst == k && !c.ended
  let s := cs.foldl
    (fun st c => st.memberEnd c.who status result) s
  s.setTr t fun x => { x with contribs := x.contribs.map fun c => if c.inst = k then { c with ended := true } else c }

/-- Result bytes are placed at an offset of a contribution's result (09 R299). -/
def State.placeResult (s : State) (c : Contrib) (off : Nat) (bs : List Byte) : State :=
  match c.who with
  | .ctx _ _ => s
  | .entry _ _ =>
    if bs = [] then s
    else if c.devmem then s.devWrite (c.result + off) bs
    else s.dma (.hostWrite c.func (c.result + off) bs)

/-- Result bytes are placed for every open contribution of an instance but a source. -/
def State.placeAll (s : State) (t k off : Nat) (bs : List Byte) : State :=
  ((s.tr t).contribs.filter fun c => c.inst == k && !c.ended && !(c.coll.kind == 3 && c.source)).foldl
    (fun st c => st.placeResult c off bs) s

/-- Local progress or a tree packet of the epoch (09 R312). -/
def State.treeTouch (s : State) (t : Nat) : State := s.setTr t fun x => { x with progress := s.now }

/-! ## Staging slots (09 R293, R302, R304, R306) -/

/-- The address of a slot, as an offset of device memory. -/
def State.slotAt (s : State) (t n : Nat) : Nat := s.rd F.mixStage_BASE % 2 ^ 48 + (8 * t + n % 8) * 2048

/-- The slot of chunk `n`, when that chunk holds it. -/
def State.slotOf (s : State) (t n : Nat) : Option Slot :=
  match (s.tr t).slots.find (n % 8) with
  | some x => if x.chunk = n % 2 ^ 32 then some x else none
  | none => none

/-- The part of a slot behind the elements: the spec gives its contents and no layout (notes/assumptions/12.md). -/
def freeTail (n : Nat) : List Byte := (List.range 32).map fun i => Config.freeByte (32 * n + i)

/-- The mixer's access to slot `n` of a tree asks its island's gate (15 R482): a denial poisons the chunk (R488). -/
def State.slotGate (s : State) (t n : Nat) (k : AccKind) : State × Bool :=
  s.gate (BitVec.ofNat 16 (0x3000 + t % 16)) (s.slotAt t n) 2048 k

/-- The mixer writes a slot as an uncached agent (09 R302). -/
def State.slotWrite (s : State) (t : Nat) (x : Slot) : State :=
  let (s, ok) := s.slotGate t x.chunk .write
  let s := s.setTr t fun y => { y with slots := y.slots.put (x.chunk % 8) { x with poison := x.poison || !ok } }
  if !ok then s
  else
    let a := s.slotAt t x.chunk
    let bs := x.elems.flatMap fun e => e.bytes x.coll.dtype x.coll.size
    let s := if bs = [] then s else s.devWrite a bs
    (s.devWrite (a + 2016) (freeTail s.free)).drawn

/-- An instance is poisoned (09 R313). -/
def State.instPoison (s : State) (t k : Nat) : State := s.setInst t k false fun x => { x with poisoned := true }

/-- A residue disagrees (09 R304). -/
def State.residueError (s : State) (t : Nat) : State :=
  (s.count F.mixStat_RESIDUE).raise (Src.MIX_RESIDUE (t % 16)) { addr := t, atype := 14, master := 0x3000 + t % 16, unit := t }

/-- The mixer reads a slot: its elements are what its bytes hold now (09 R302); the flag says that the chunk is lost, denied,
uncorrectable or with a residue that disagrees (R304, R313). -/
def State.slotRead (s : State) (t : Nat) (x : Slot) : State × Slot × Bool :=
  if x.elems.isEmpty then (s, x, false)
  else
    match s.slotGate t x.chunk .read with
    | (s, false) => (s, x, true)
    | (s, true) =>
      let (s, bs, p) := s.devRead (s.slotAt t x.chunk) 2048
      let acc := x.elems.any fun e => match e with | .acc _ _ => true | .raw _ => false
      let r := elemsOf acc x.coll.dtype x.coll.size x.elems.length bs
      (if r.2 then s else s.residueError t, { x with elems := r.1 }, p || !r.2)

/-- An input joins the slot of its chunk: the first takes the slot, a later one merges (09 R293, R304, R313); inputs of two
instances disagree (R289, notes/assumptions/69.md). -/
def State.slotInput (s : State) (t n k : Nat) (c : Coll) (len off input : Nat) (es : List Elem) (good poison : Bool)
    (loose : Bool := false) : State :=
  let s := (s.openInst t k false c len loose).kindSet t k c loose
  let c := if loose then { c with kind := ((s.inst t k false).map (·.coll.kind)).getD c.kind } else c
  let differs := match s.inst t k false with | some x => x.coll != c || x.len != len | none => false
  let s := s.tally (t % 16) 0x0E es.length
  let s := if good then s else s.residueError t
  let bad := poison || !good || differs
  let (s, x) :=
    match s.slotOf t n with
    | none => (s, ({ chunk := n, inst := k, coll := c, len := len, off := off, inputs := [input], elems := es, poison := bad } : Slot))
    | some x =>
      let (s, x, p) := s.slotRead t x
      (s, { x with
        inputs := input :: x.inputs, poison := x.poison || bad || p || x.inst != k
        elems := (x.elems.zip es).map fun (y : Elem × Elem) => Elem.merge c c.size y.1 y.2 })
  let s := s.slotWrite t x
  if (s.slotOf t n).any (·.poison) then (s.instPoison t k).instPoison t x.inst else s

/-- A chunk is complete at a node (09 R297). -/
def State.chunkWhole (s : State) (t : Nat) (x : Slot) : Bool := x.inputs.length == s.nLocal t + s.nChild t

/-- A slot is freed: its children are granted one more chunk (09 R294). -/
def State.slotFree (s : State) (t : Nat) (x : Slot) : State :=
  let s := s.setTr t fun y => { y with slots := y.slots.del (x.chunk % 8), freed := (x.chunk + 1) % 2 ^ 32 }
  (List.range (s.nChild t)).foldl
    (fun st i => st.treeSend t PT.mixDown (st.childEp t i) x.inst x.coll 0 ((x.chunk + 1 + 8) % 2 ^ 32) 0 0 []) s

/-! ## The climb (09 R289, R292, R297) -/

/-- The bytes of chunk `j` of a contribution, when they have been supplied. -/
def Contrib.chunk (c : Contrib) (j : Nat) : Option (List Byte) :=
  if c.coll.data then
    let size := c.coll.elemsIn c.len j * c.coll.size
    let a := j * c.coll.perChunk * c.coll.size
    if a + size ≤ c.data.length then some ((c.data.drop a).take size) else none
  else some []

/-- The number of chunk `j` of an instance: chunk numbers run on from the base of INST, modulo 2^32 (09 R293); none while the
length of INST is not known. -/
def State.chunkNum (s : State) (t k j : Nat) : Option Nat :=
  let x := s.tr t
  let inst := s.rd (F.tree_INST t)
  if k = inst then some ((x.base + j) % 2 ^ 32)
  else (s.inst t inst false).map fun i => (x.base + i.coll.chunks i.len + j) % 2 ^ 32

/-- A staging slot can take chunk `n` (09 R293). -/
def State.slotTakes (s : State) (t n : Nat) : Bool := decide (serialSub 32 n (s.tr t).freed < 8)

/-- A context's contribution to an instance without a work entry: its KIND is open (09 R291). -/
def State.kindOpen (s : State) (t : Nat) (c : Contrib) : Bool :=
  let entry (z : Contrib) : Bool := match z.who with | .entry _ _ => true | .ctx _ _ => false
  !entry c && !(s.tr t).contribs.any fun z => z.inst == c.inst && entry z

/-- Chunks that a contribution supplies: as many as its instance has at this node, also where its own LEN disagrees (09 R289,
notes/assumptions/69.md). -/
def State.instChunks (s : State) (t : Nat) (c : Contrib) : Nat :=
  match s.inst t c.inst false with
  | some x => x.coll.chunks x.len
  | none => c.coll.chunks c.len

/-- The bytes of chunk `j` of a contribution; none are left beyond its own LEN. -/
def Contrib.supply (c : Contrib) (j : Nat) : Option (List Byte) := if c.coll.chunks c.len ≤ j then some [] else c.chunk j

/-- One contribution feeds its next chunk when a slot can take it. -/
def State.feedOne (s : State) (t : Nat) (c : Contrib) : State :=
  match s.chunkNum t c.inst c.fed, c.supply c.fed with
  | some n, some bs =>
    if c.fed < s.instChunks t c ∧ s.slotTakes t n = true then
      let cnt := c.coll.elemsIn c.len c.fed
      let es := (elemsOf false c.coll.dtype c.coll.size cnt bs).1
      let s := s.setTr t fun y =>
        { y with contribs := y.contribs.map fun z => if z.who = c.who ∧ z.inst = c.inst then { z with fed := z.fed + 1 } else z }
      s.slotInput t n c.inst c.coll c.len (c.fed * c.coll.perChunk) (16 + c.idx) es true false (s.kindOpen t c)
    else s
  | _, _ => s

/-- Every contribution feeds what it can. -/
def State.feedAll (s : State) (t : Nat) : State := (s.tr t).contribs.foldl (fun st c => st.feedOne t c) s

/-- The status of an instance that has ended well: PARTIAL when deliveries were pruned (09 R311). -/
def Inst.status (x : Inst) : Nat := if x.pruned.length + x.count = 0 then ST.ok else ST.somePruned

/-- STATUS goes down and the entries of a poisoned instance end (09 R313), once: the root forms it, a node passes on the packet
that it came in. -/
def State.tellPoison (s : State) (t k : Nat) (p : Option Packet := none) : State :=
  match s.inst t k false with
  | none => s
  | some x =>
    if x.told then s
    else
      let s := match p with
        | some p => s.passDown t 12 p
        | none => s.sendDown t PT.mixDown k false x.coll 64 0 0 ST.poisoned []
      (s.setInst t k false fun x => { x with told := true }).instEnd t k ST.poisoned 0

/-- A work entry that contributes to the instance asks for FLAG on the operation's first packet (03 R84): the first that its
node sends for the instance (DEDUCED, notes/assumptions/62.md). -/
def State.instFlagged (s : State) (t k : Nat) : Bool := (s.tr t).contribs.any fun (c : Contrib) => c.inst == k && c.flag

/-- The oldest chunk leaves when it is complete: upward once granted, or at the root rounded and sent down (09
R293, R294, R297, R298, R306). Its slot is read then; an uncorrectable one poisons the instance (R313). -/
def State.chunkGo (s : State) (t : Nat) : Option State :=
  let y := s.tr t
  match s.slotOf t y.freed with
  | none => none
  | some x =>
    if !s.chunkWhole t x then none
    else if !s.isRoot t && !precedes 32 x.chunk y.grant then none
    else
      let (s, x, lost) := s.slotRead t x
      let s := if lost then s.instPoison t x.inst else s
      let poisoned := x.poison || (match s.inst t x.inst false with | some i => i.poisoned | none => false)
      let up (s : State) := s.setInst t x.inst false fun i => { i with ups := i.ups + 1 }
      let flag := s.instFlagged t x.inst
      if !s.isRoot t then
        let acc := x.elems.any fun e => match e with | .acc _ _ => true | .raw _ => false
        let form := if !x.coll.data then 2 else if acc then 1 else 0
        let bs := x.elems.flatMap fun e => e.bytes x.coll.dtype x.coll.size
        let s := s.treeSend t PT.mixUp (s.rd (F.tree_PARENT t)) x.inst x.coll (form * 64 + poisoned.toNat * 32) x.chunk
          x.off x.len bs (flag && x.off == 0)
        let s := s.wr (F.tree_CHUNK t) (x.chunk + 1)
        some (up (s.slotFree t x))
      else
        let s := s.wr (F.tree_CHUNK t) (x.chunk + 1)
        if poisoned then some (up ((s.tellPoison t x.inst).slotFree t x))
        else
          let bs := x.elems.flatMap fun e => bytesOf x.coll.size (e.result x.coll)
          let off := x.off * x.coll.size
          let seen (s : State) (o : Nat) := s.setInst t x.inst false fun i => { i with offs := o :: i.offs }
          let s :=
            match x.coll.kind with
            | 0 => s.placeAll t x.inst off bs
            | 1 => (seen (s.sendDown t PT.mcast x.inst false x.coll 0 0 off 0 bs (flag && off == 0)) off).placeAll t x.inst off bs
            | 2 => seen (s.sendDown t PT.mcast x.inst false x.coll 0 0 0 0 [] flag) 0
            | _ =>
              match (s.tr t).contribs.find? fun (c : Contrib) => c.inst == x.inst && c.source with
              | none => s
              | some c =>
                (List.range (x.coll.downs x.len)).foldl
                  (fun st j =>
                    let o := j * 2016
                    let d := (c.data.drop o).take (min 2016 (x.len - o))
                    (seen (st.sendDown t PT.mcast x.inst false x.coll 0 0 o 0 d (flag && o == 0)) o).placeAll t x.inst o d) s
          some (up (s.slotFree t x))

/-! ## The end of an instance (09 R297, R300, R311) -/

/-- Every child not pruned has sent its FINAL. -/
def State.finalsIn (s : State) (t k : Nat) (mc : Bool) : Bool :=
  match s.inst t k mc with
  | some x => (s.liveChildren t k mc).all fun i => x.finals.contains i
  | none => false

/-- All chunks of an instance have left. -/
def Inst.upsDone (x : Inst) : Bool := x.mc || decide (x.coll.chunks x.len ≤ x.ups)

/-- An instance or multicast goes on: entries end, a FINAL goes up, and the record closes (09 R297, R300), that of an instance
once INST has passed it (R289). -/
def State.instStep (s : State) (t k : Nat) (mc : Bool) : State :=
  let s := match s.inst t k mc with
    | some x => if x.coll.kind ≠ 0 ∧ x.coll.downs x.len ≤ x.offs.length then s.prune t k mc else s
    | none => s
  match s.inst t k mc with
  | none => s
  | some x =>
    let root := s.isRoot t
    let downs := decide (x.coll.downs x.len ≤ x.offs.length)
    let finals := s.finalsIn t k mc
    let entryDone := x.upsDone && downs && (if root && x.coll.kind != 0 then finals else true)
    let s :=
      if x.told then s.instEnd t k ST.poisoned 0
      else if !entryDone then s
      else if root then
        match x.owner with
        | some m => s.memberEnd m x.status (x.pruned.length + x.count)
        | none => s.instEnd t k x.status (x.pruned.length + x.count)
      else if mc then s
      else s.instEnd t k ST.ok 0
    let needFinal := !root && x.coll.kind != 0 && !x.told
    let s :=
      if needFinal && downs && finals && !x.sent then
        (s.treeSend t PT.mixUp (s.rd (F.tree_PARENT t)) k x.coll 192 0 0 (x.pruned.length + x.count) []).setInst t k mc
          fun x => { x with sent := true }
      else s
    let entries := x.told || entryDone
    let closed := x.upsDone && entries && (!needFinal || (downs && finals))
    let s :=
      if !mc && x.upsDone && entries && s.rd (F.tree_INST t) == k then
        let s := s.wr (F.tree_INST t) ((k + 1) % 65536)
        s.setTr t fun y =>
          { y with
            taken := y.taken - s.nLocal t, base := (y.base + x.coll.chunks x.len) % 2 ^ 32
            contribs := y.contribs.filter fun c => !(c.inst == k && c.ended) }
      else s
    if closed && (mc || precedes 16 k (s.rd (F.tree_INST t))) then s.setTr t fun y => { y with insts := y.insts.filter fun i => !(i.inst == k && i.mc == mc) } else s

/-- Instances that were done before INST reached them end in turn; the fuel counts them. -/
def State.instNext (t : Nat) : Nat → State → State
  | 0, s => s
  | n + 1, s =>
    let k := s.rd (F.tree_INST t)
    let u := s.instStep t k false
    if u.rd (F.tree_INST t) = k then u else State.instNext t n u

/-- An instance or multicast goes on, and so do those that waited for it to complete (09 R289). -/
def State.instGo (s : State) (t k : Nat) (mc : Bool) : State :=
  let u := s.instStep t k mc
  if u.rd (F.tree_INST t) = s.rd (F.tree_INST t) then u else State.instNext t (u.tr t).insts.length u

/-- Every open instance and multicast is looked at. -/
def State.instsGo (s : State) (t : Nat) : State :=
  (s.tr t).insts.foldl (fun st x => st.instGo t x.inst x.mc) s

/-- A node does all it can: contributions feed, complete chunks leave, instances end. The fuel bounds the
chunks. -/
def State.treePump (t : Nat) : Nat → State → State
  | 0, s => s
  | n + 1, s =>
    let s := s.feedAll t
    match s.chunkGo t with
    | some s' => State.treePump t n (s'.instsGo t)
    | none => s.instsGo t

/-- How many chunks a pump can move at most: the slots and what the contributions still hold. -/
def State.pumpFuel (s : State) (t : Nat) : Nat :=
  (s.tr t).contribs.foldl (fun k c => k + c.coll.chunks c.len) 16

/-- A node goes on after an input. -/
def State.treeGo (s : State) (t : Nat) : State := State.treePump t (s.pumpFuel t) (s.treeTouch t)

/-- An instance that has down traffic and awaits FINALs: it prunes fenced children (09 R311). -/
def Inst.descends (x : Inst) : Bool := x.mc || (x.coll.kind != 0 && !x.offs.isEmpty)

/-- Every instance in its down-phase at a tree looks at its children again: one may have been fenced (09 R311). -/
def State.treeRoutes (s : State) (t : Nat) : State :=
  if s.treeActive t && !s.halted then
    let xs := ((s.tr t).insts.filter Inst.descends).map fun x => (x.inst, x.mc)
    let s' := xs.foldl (fun u x => u.prune t x.1 x.2) s
    if (s'.tr t).insts == (s.tr t).insts then s else xs.foldl (fun u x => u.instGo t x.1 x.2) s'
  else s

/-- Every open tree looks at its children again (09 R311). -/
def State.treeSync (s : State) : State := s.trees.foldl (fun u c => if c.2.insts.isEmpty then u else u.treeRoutes c.1) s

/-! ## BROKEN (09 R312, R314) -/

/-- A node enters BROKEN with a cause: its open entries end, its neighbours and software are told. -/
def State.treeBreak (s : State) (t cause : Nat) : State :=
  if s.treeActive t then
    let s := (s.wr (F.tree_STATE t) 2).wr (F.tree_BCAUSE t) cause
    let y := s.tr t
    let bad (k : Nat) := y.insts.any fun i => i.inst == k && !i.mc && i.poisoned
    let s := (y.contribs.filter fun c => !c.ended).foldl
      (fun st c => st.memberEnd c.who (if bad c.inst then ST.poisoned else ST.treeBroken) 0) s
    let s := y.insts.foldl (fun st i => match i.owner with | some m => st.memberEnd m ST.treeBroken 0 | none => st) s
    let inst := s.rd (F.tree_INST t)
    let c := ((y.insts.head?.map (·.coll))).getD { kind := 0 }
    let s := (List.range (s.nChild t)).foldl
      (fun st i => st.treeSend t PT.mixDown (st.childEp t i) inst c 64 0 0 cause []) s
    let s := if s.isRoot t then s else s.treeSend t PT.mixUp (s.rd (F.tree_PARENT t)) inst c 16 0 0 0 []
    let s := s.setTr t fun _ => {}
    s.postEvent (s.rd (F.tree_EQ t)) 0x0301 0 (BitVec.ofNat 64 (cause % 256 * 2 ^ 16 + t))
  else s

end Sys2Proof.Machine
end

