-- ==== Sys2Proof/Machine/SchedOps.lean ====
section
/-! DEFINITION. Which queues the scheduler considers, and how its lists follow (04 R110 to R114, R118). -/

namespace Sys2Proof.Machine

/-! ## Token buckets (04 R118 to R125) -/

/-- TOKENS as a signed number. -/
def tokensOf (v : Nat) : Int := signedOf 25 v

/-- A refilled count: min(TOKENS + ADD, BURST), as 25 bits. -/
def refill (tokens add burst : Nat) : Nat :=
  (((min (tokensOf tokens + add) (burst : Int)) + 2 ^ 25) % 2 ^ 25).toNat

/-- A count charged with a cost. -/
def chargeTokens (tokens cost : Nat) : Nat := ((tokensOf tokens - cost + 2 ^ 25) % 2 ^ 25).toNat

/-- A shaper is enabled: EN of its live word 0. -/
def State.shpOn (s : State) (i : Nat) : Bool := bits (s.get (.shp i 4)) 63 63 == 1

/-- A shaper admits a packet: it is disabled or holds tokens (04 R112). -/
def State.shpAdmits (s : State) (i : Nat) : Bool := !s.shpOn i || decide (0 < tokensOf (s.rd (F.shp_TOKENS i)))

/-- A shaper is charged. -/
def State.shpCharge (s : State) (i cost : Nat) : State :=
  if s.shpOn i then s.wr (F.shp_TOKENS i) (chargeTokens (s.rd (F.shp_TOKENS i)) cost) else s

/-! ## Contributions that wait (09 R289) -/

/-- COLL entries taken for a tree whose operation has not begun. -/
def State.collPending (s : State) (t : Nat) : Nat :=
  s.queues.foldl
    (fun k v => k + (v.2.taken.filter fun x => !x.started && x.res.isNone && x.entry.get W.opcode == 7
      && collKind x.entry.w7 != 4 && collTree x.entry.w7 == t).length) 0

/-- A contribution to the instance after the next is not taken (09 R289). -/
def State.collHeld (s : State) (q : Nat) (e : Octet) (ilen : Option Nat := none) : Bool :=
  let t := collTree e.w7
  e.get W.opcode == 7 && (s.malReason q e ilen).isNone && collKind e.w7 != 4 && s.treeActive t
    && s.rd (F.tree_TENANT t) == s.rd (F.qctx_TENANT q) && decide (2 * s.nLocal t ≤ (s.tr t).taken + s.collPending t)

/-! ## Nodes of the scheduler (04 R110 to R114) -/

/-- The key of a tenant on a host port. -/
def nodeKey (port tenant : Nat) : Nat := 4096 * port + tenant

/-- The tenant node of a queue. Queues 0 and 1 belong to no function (03 R69) and count at host port 0
(notes/assumptions/40.md). -/
def State.queueNode (s : State) (q : Nat) : Nat :=
  nodeKey (s.qFunc q / 256) (s.rd (F.qctx_TENANT q))

/-- An opcode sends packets through the scheduler (04 R110): PUT to MGMT but for COLL. -/
def opSends (op : Nat) : Bool := decide (1 ≤ op ∧ op ≤ 6) || op == 8

/-- A connection lets a work ring send its next packet (04 R112, 07 R235, R239, 08 R264, 10 R344). -/
def State.connAdmits (s : State) (q n cost : Nat) : Bool :=
  s.windowOpen n false && s.rtxRoom false cost && !(s.cx n).wait.any (fun w => w.pkt.get H.mclass == 0)
    && !s.flaggedHeld n && (s.sendOpen n).all (· == q)

/-- The next entry of a work ring can be taken (04 R112, 03 R96). -/
def State.takeable (s : State) (q : Nat) : Bool :=
  s.rd (F.qctx_TYPE q) == 0 && s.serves q && s.qDepth q != 0 && s.cqActive q && s.cqRoom q && !s.sketchServed q
    && !(s.que q).ahead.any (s.collHeld q)

/-- A work ring has no packet at hand but may send one: the first of its taken entries that has not begun sends packets
and its connection admits one, or its next entry can be taken (04 R112, notes/assumptions/40.md); none while an entry waits for a
transient canvas, behind which none begins (08 R270). -/
def State.queueAwaits (s : State) (q : Nat) : Bool :=
  !((s.que q).taken.any fun t => t.res.isNone && s.mtch.waits.contains (q, t.id)) && match (s.que q).taken.find? fun t => !t.started && t.res.isNone with
  | some t =>
    opSends (t.entry.get W.opcode)
      && (!opNamesConn (t.entry.get W.opcode) || s.connAdmits q (t.entry.get W.conn) 64)
  | none => s.takeable q

/-- A work queue is ready (04 R112): its next packet may leave now, or its next entry is still to begin. -/
def State.queueReady (s : State) (q : Nat) : Bool :=
  match (s.que q).next with
  | [] => s.mayInjectRequest && s.entriesAct q && s.queueAwaits q
  | x :: _ =>
    (s.mayInjectRequest || x.pkt.get H.ptype == PT.mgmt) && s.entriesAct q
      && (match x.conn with | some n => s.connAdmits q n x.pkt.cost | none => true)

/-- The shaper of a queue, or of a tenant, admits a packet. -/
def State.queueShaped (s : State) (q : Nat) : Bool := !s.on (F.qctx_SHP_EN q) || s.shpAdmits (s.rd (F.qctx_SHAPER q))
def State.tenantShaped (s : State) (t : Nat) : Bool := !s.on (F.ten_SHP_EN t) || s.shpAdmits (s.rd (F.ten_SHAPER t))

/-- The ready queues, and the eligible ones: a queue is held back by its own shaper only. -/
def State.readyQueues (s : State) : List Nat := (s.queues.map (·.1)).filter s.queueReady
def State.eligibleQueues (s : State) : List Nat := s.readyQueues.filter s.queueShaped

/-- A list in rotation order follows the eligible nodes: those that left go, those that joined come last (04 R114). -/
def rejoin (old now : List Nat) : List Nat := old.filter now.contains ++ now.filter fun x => !old.contains x

/-- The lists of the three levels follow eligibility at the end of every command; a node that is no longer ready loses
its deficit and its turn (04 R114). A node that returns after a shaper stop keeps DEFICIT and goes on with the turn it was
in, so that a stop adds no quantum and DEFICIT fits its 17 bits (04 R117): DESIGN CHOICE, the spec does not say whether its
turn goes on (notes/assumptions/24.md). -/
def State.schedSync (s : State) : State :=
  let ready := s.readyQueues
  let elig := s.eligibleQueues
  let nodes := ((elig.map s.queueNode).eraseDups).filter fun k => s.tenantShaped (k % 4096)
  let ports := (nodes.map (· / 4096)).eraseDups
  let readyNodes := (ready.map s.queueNode).eraseDups
  let readyPorts := (readyNodes.map (· / 4096)).eraseDups
  let keys := ((s.sched.l1.map (·.1)) ++ elig.map s.queueNode).eraseDups
  let pkeys := ((s.sched.l2.map (·.1)) ++ ports).eraseDups
  let c := s.sched
  let out (ready : Bool) (d : DrrNode) : DrrNode :=
    { deficit := if ready then d.deficit else 0, fresh := !ready || d.fresh }
  { s with
    sched :=
      { l1 := keys.foldl (fun m k => m.put k (rejoin (c.l1.at k []) (elig.filter fun q => s.queueNode q == k))) c.l1
        l2 := pkeys.foldl (fun m p => m.put p (rejoin (c.l2.at p []) (nodes.filter fun k => k / 4096 == p))) c.l2
        l3 := rejoin c.l3 ports
        tenants := c.tenants.each fun k d => out (readyNodes.contains k) d
        ports := c.ports.each fun p d => out (readyPorts.contains p) d }
    queues := s.queues.each fun q v => { v with node := out (ready.contains q) v.node } }

end Sys2Proof.Machine
end

