-- ==== Sys2Proof/Machine/Contain.lean ====
section
/-! DEFINITION. Containment (16 R519, R523, R528): what a raise of CONTAIN severity does to its unit, carried out
before the command that raised it ends. -/

namespace Sys2Proof.Machine

/-- UNIT_CONTAINED to the fault event ring (16 R523), with the SEV of its raise, which is CONTAIN. -/
def State.postContained (s : State) (kind unit src : Nat) : State :=
  if s.on F.fltCfg_EQEN then
    s.postEvent (s.rd F.fltCfg_EQ) 0x0402 (if kind = 2 then unit else 0)
      (BitVec.ofNat 64 (faultArg 2 kind unit + src % 2048 * 2 ^ 32))
  else s

/-- A context is contained: HALTED, semaphores abandoned, events and timers discarded, its packet reported not
placed, its keys released. That of the warden raises WARDEN_LOST (06 R207). -/
def State.containCtx (s : State) (c : Nat) : State :=
  let s := s.ctxReport c .notPlaced
  let s := s.setCtx c fun x =>
    { x with targeted := [], timers := [], keys := [], stall := .none, waitMask := none, passed := none, contained := true }
  ((s.wr (F.ctxCfg_STATE c) XS.halted).semAbandon fun m => m == ctxMst c || m == ctxMst c + 0x1000).wardenLost c

/-- A channel is contained (14 R466): the copier of a migration away from it copies poison from now on (R470). -/
def State.containChannel (s : State) (p : Nat) : State :=
  let s := s.copySync
  let g := { s.gddr with contained := p :: s.gddr.contained }
  { s with gddr := { g with mig := g.mig.map fun x => if x.old = p then { x with lost := some (s.rd F.gdmMig_COPIED) } else x } }

/-- The unit is already contained, so that containing it has no further effect. LNK_DOWN is owed a containment only by a link
that was up at its raise, which may be the one that took it down. -/
def State.isContained (s : State) (kind unit src : Nat) : Bool :=
  match kind with
  | 1 => decide (src ≠ Src.LNK_DOWN unit) && s.downAlready 1 unit
  | 2 => s.qState unit == QS.error || s.qState unit == QS.disabled
  | 3 => !(s.connState unit == CS.active || s.connState unit == CS.rekeying)
  | 4 => (s.ctx unit).contained
  | 5 => !s.treeActive unit
  | 6 => s.gddr.contained.contains unit
  | _ => true

/-- A port is contained: its link is declared down, and the raise of LNK_DOWN that this brings owes nothing more. -/
def State.containPort (s : State) (n : Nat) : State :=
  let s := if s.downAlready 1 n then s else s.linkDown n
  { s with faults := { s.faults with due := s.faults.due.filter (· != (1, n, Src.LNK_DOWN n)) } }

/-- The containment of one unit (16 R528). -/
def State.contain (s : State) (kind unit src : Nat) : State :=
  if s.isContained kind unit src then s
  else
    let s :=
      match kind with
      | 1 => s.containPort unit
      | 2 => s.queueError unit (BitVec.allOnes 64)
      | 3 => s.connBroken unit 4
      | 4 => s.containCtx unit
      | 5 => s.treeBreak unit 0x0B
      | 6 => s.containChannel unit
      | _ => s
    s.postContained kind unit src

/-- Containments owed are carried out, oldest first (16 R519), also at a halt. -/
def State.settleN : Nat → State → State
  | 0, s => s
  | n + 1, s =>
    match s.faults.due with
    | [] => s
    | (k, u, src) :: t =>
      State.settleN n (({ s with faults := { s.faults with due := t } } : State).contain k u src)

/-- Every containment that a command owes. -/
def State.settle (s : State) : State := State.settleN 300 s

/-- What follows from the state that a command leaves: children that have become fenced are pruned (09 R311), packets whose events are queued leave their buffers (06 R196), packets that have landed enter their egress
stages (01 R13), control frames that are due leave (11 R382, 12 R412), entries of LOOSE connections whose packets have left end (07 R249), stalls that are over end, rekeyings that are due start (07 R244), waits for
store room are counted (07 R235), the scheduler's lists follow (04 R114), and so do the ready pins. -/
def State.sync (s : State) : State :=
  if s.halted then (if s.fwctlHalt then s.waitSync.looseSync.rtxWaits else s).pinSync else s.copySync.waitSync.treeSync.parkSync.landSync.ctlSync.looseSync.occSync.stallSync.keySync.rtxWaits.schedSync.pinSync

/-- How a command ends: the containments it owes are carried out, and what follows from the state it leaves happens, with the
containments that this owes (16 R519). -/
def State.ended (s : State) : State :=
  let s := s.settle.sync
  let s := if s.faults.due = [] then s else s.settle.sync
  { s with faults := { s.faults with fresh := [] } }

/-- A command ends. -/
def fin (s : State) : Out := .next s.ended

end Sys2Proof.Machine
end

