-- ==== Sys2Proof/Machine/Engines.lean ====
section
/-! DEFINITION. The core instructions of an engine context (05 R143 to R161): issue, arithmetic, loads and stores,
atomics, locks, control flow, events, traps and control registers. -/

namespace Sys2Proof.Machine

/-! ## Issue (05 R139, R155, R157, R159) -/

/-- The context may issue. -/
def State.ctxRuns (s : State) (c : Nat) : Bool := !s.halted && s.ctxReady c

/-- The tenant that an engine cycle of the context is metered for (04 R133): of a context that is not at User level the
tenant of its event, and none while it runs for a targeted event, which has no tenant (notes/assumptions/66.md). -/
def State.ctxTenant (s : State) (c : Nat) : Option Nat :=
  if s.isUser c then some (s.rd (F.ctxCfg_TENANT c)) else (s.ctx c).tenant

/-- An engine cycle is metered (04 R133). -/
def State.meterCycle (s : State) (c : Nat) : State :=
  match s.ctxTenant c with
  | some t => s.setMeter t fun m => { m with engCyc := m.engCyc + 1 }
  | none => s

/-- The tagging LFSR steps (17 R543): polynomial x^32 + x^22 + x^2 + x + 1. -/
def tagStep (r : BitVec 32) : BitVec 32 :=
  if Config.tagGalois then (r <<< 1) ^^^ (if r.getLsbD 31 then 0x400007 else 0)
  else (r <<< 1) ||| BitVec.ofNat 32 ((r.getLsbD 31 ^^ r.getLsbD 21 ^^ r.getLsbD 1 ^^ r.getLsbD 0).toNat)

/-- The pc lies in the code space of the running sketch. -/
def State.pcOk (s : State) (c : Nat) : Bool :=
  (s.ctxSketch c).valid && decide (s.pcOf c % 4 = 0 ∧ s.pcOf c + 4 ≤ (s.ctxSketch c).codeLen)

/-! ### Fetch (05 R157, 06 R177, R186, 14 R473) -/

/-- The sketch store (14 R473). -/
abbrev sketchStore : Nat := 0x22000000

/-- Where byte `pc` of the code of a slot lies: byte 128 of the image is pc 0 (06 R177). -/
def codeAddr (slot pc : Nat) : Nat := sketchStore + 65536 * slot + 128 + pc

/-- Where the word at the pc of a context lies. -/
def State.codeAt (s : State) (c : Nat) : Nat := codeAddr (s.rd (F.ctxCfg_SKETCH c)) (s.pcOf c)

/-- The sketch cache of a context's engine holds the block of its pc. -/
def State.codeBlock (s : State) (c : Nat) : Option (Nat × List Byte) :=
  (s.eng (ctxEng c)).code.find? (·.1 == s.codeAt c / 256)

/-- The word that the engine fetches for a context; none outside the code space, or where the store gave none. -/
def State.codeWord (s : State) (c : Nat) : Option Nat :=
  if s.pcOk c then (s.codeBlock c).map fun b => ofBytes ((b.2.drop (s.codeAt c % 256)).take 4) else none

/-- The level bit of a context in CNT_ISMP (17 R542). -/
def State.tagLevel (s : State) (c : Nat) : Bool :=
  match s.ctxLevel c with
  | 0 => s.on (F.cntIsmp_LVL_U (ctxIsl c))
  | 2 => s.on (F.cntIsmp_LVL_P (ctxIsl c))
  | 3 => s.on (F.cntIsmp_LVL_F (ctxIsl c))
  | _ => false

/-- The address of the access that an instruction word makes (17 R544): of its data, or of its palette descriptor, 0 for a unit
operation that has none; none without an access. -/
def State.accessAddr (s : State) (c w : Nat) : Option Word :=
  let a := s.getG c (regAt (BitVec.ofNat 32 w) 16)
  let b := s.getG c (regAt (BitVec.ofNat 32 w) 11)
  let op := w / 2 ^ 26
  if 0x10 ≤ op ∧ op ≤ 0x1B then some (a + (BitVec.ofNat 16 w).signExtend 64)
  else if op = 0x29 then some a
  else if op = 0x30 then
    match w / 64 % 32, w % 64 with
    | 0, 0 | 0, 1 | 3, _ => some a
    | 1, 0 | 1, 1 | 1, 2 | 4, 1 => some b
    | 2, 0 => some (if a = BitVec.allOnes 64 then 0 else a)
    | _, _ => some 0
  else none

/-- The tagging counter of the context's engine counts an instruction (17 R543): at zero the instruction is tagged
and the counter reloads. A counter not yet loaded loads first (notes/assumptions/6.md). -/
def State.tagCount (s : State) (c : Nat) : State :=
  if s.on (F.cntIsmp_EN (ctxIsl c)) then
    let e := s.eng (ctxEng c)
    if 1 < e.down then s.setEng (ctxEng c) fun x => { x with down := x.down - 1 }
    else
      let p := s.rd (F.cntIsmp_PLOG2 (ctxIsl c))
      let s :=
        if e.down = 1 ∧ s.tagLevel c = true then
          let w := s.codeWord c
          let t : Tag :=
            { time := s.tim, pc := s.pcOf c, tenant := if s.isUser c then s.rd (F.ctxCfg_TENANT c) else 0, level := s.ctxLevel c
              insn := w, addr := w.bind (s.accessAddr c) }
          s.setCtx c fun x => { x with tags := x.tags ++ [t], tagging := true }
        else s
      s.setEng (ctxEng c) fun x => { x with down := 2 ^ (p - 1) + x.lfsr.toNat % 2 ^ p, lfsr := tagStep x.lfsr }
  else s

/-- An instruction issues: REMAINING falls, the issue pointer moves past its context (05 R139), the counters count,
contexts that yielded to this one note it. -/
def State.issued (s : State) (c : Nat) : State :=
  let s := s.setEng (ctxEng c) fun x => { x with issue := (c + 1) % 8 }
  let s := s.wr (F.csr_REMAINING c) (s.rd (F.csr_REMAINING c) - 1)
  let s := s.setCtx c fun x =>
    { x with issued := x.issued + 1, passed := none, tagging := false, stall := match x.stall with | .yielded _ => .none | y => y }
  let s :=
    { s with ctxs := s.ctxs.map fun (k : Nat × Ctx) =>
        if k.1 / 8 = c / 8 then
          (k.1, match k.2.stall with
            | .yielded l => { k.2 with stall := .yielded (l.filter (· ≠ c)) }
            | _ => k.2)
        else k }
  let s := { s with power := { s.power with issued := s.power.issued.upd (ctxIsl c) 0 (· + 1) } }
  ((s.tagCount c).meterCycle c).tally (ctxIsl c) 0x01

/-- A block of the sketch cache that cannot be read leaves it (16 R533). -/
def State.codeCheck (s : State) (c : Nat) : State :=
  let k := s.codeAt c / 256
  if (s.eng (ctxEng c)).codeEcc.contains k then
    (s.setEng (ctxEng c) fun x => { x with code := x.code.filter (·.1 != k), codeEcc := x.codeEcc.filter (· != k) }).engError (ctxEng c)
  else s

/-- A fetch that misses the sketch cache fills one block of 256 B from the sketch store, checked as execute by the island's gate
(15 R482); 128 blocks are held, the oldest going first (notes/assumptions/43.md). A block that is denied or has an
uncorrectable word is not held. -/
def State.codeFill (s : State) (c : Nat) : State :=
  if !s.pcOk c || (s.codeBlock c).isSome then s
  else
    let k := s.codeAt c / 256
    let (s, ok) := s.gate (ctxMst c) (256 * k) 256 .fetch
    if !ok then s else
    let (s, bs, lost) := s.devRead (256 * k) 256
    if lost then s.structRaise Src.SKETCH_UNCORR (4 * k) 0 else s.setEng (ctxEng c) fun x => { x with code := ((k, bs) :: x.code).take 128 }

/-- The instruction word `w` of context `c` issues: not in a context that may not issue, nor where another word stands at
its pc (notes/assumptions/9.md, 21.md). A parity error of its registers contains the context (16 R511); with no budget left it traps
BUDGET; without a word FETCH; else it runs, `f` taking the state before its issue and after. -/
def State.insnAt (s0 : State) (w : Option Nat) (c : Nat) (f : State → State → Out) : Out :=
  if !s0.ctxRuns c then .next s0
  else
    let s := (s0.codeCheck c).codeFill c
    let v := s.codeWord c
    if v.isSome && v != w then .next s0
    else if (s.ctx c).parity then
      fin (((s.setCtx c fun x => { x with parity := false }).engError (ctxEng c) 2).raise (Src.ENG_RF_PARITY (ctxIsl c)) (ctxArg c))
    else if s.rd (F.csr_REMAINING c) = 0 then
      fin ((if s.on (F.csr_TRAPPED c) then s else s.tally (ctxIsl c) 0x04).trap c TC.budget (s.rd (F.csr_LIMIT c)))
    else if v.isSome then f s (s.issued c)
    else fin ((s.issued c).trap c TC.fetch (s.pcOf c))

/-- Instruction `i` of context `c`. -/
def State.insn (s : State) (i : Instr) (c : Nat) (f : State → Out) : Out := s.insnAt (insnWord i) c fun _ t => f t

/-- The pc moves to the next instruction. -/
def State.adv (s : State) (c : Nat) : State := s.wr (F.pc_PC c) (s.pcOf c + 4)

/-- A result is written and the pc moves on. -/
def State.res (s : State) (c : Nat) (d : GReg) (v : Word) : State := (s.setG c d v).adv c

/-- The value of a register operand. -/
def State.gv (s : State) (c : CtxNum) (a : GReg) : Word := s.getG c a

/-! ## Arithmetic (05 R145 to R147) -/

/-- A truth value as a word. -/
def bit1 (b : Bool) : Word := if b then 1 else 0

/-- Sign extension of a 16-bit immediate. -/
def sext16 (i : BitVec 16) : Word := i.signExtend 64

/-- Leading zeros, trailing zeros and set bits of a word. -/
def clzOf (x : Word) : Nat := if x = 0 then 64 else 63 - Nat.log2 x.toNat
def ctzOf (x : Word) : Nat := ((List.range 64).find? fun i => x.getLsbD i).getD 64
def popcOf (x : Word) : Nat := ((List.range 64).filter fun i => x.getLsbD i).length

/-- The upper half of a product, signed and unsigned. -/
def mulhOf (x y : Word) : Word := BitVec.ofInt 64 (x.toInt * y.toInt / 2 ^ 64)
def mulhuOf (x y : Word) : Word := BitVec.ofNat 64 (x.toNat * y.toNat / 2 ^ 64)

/-- An instruction with two register operands and a result. -/
def State.alu2 (s : State) (i : Instr) (c : CtxNum) (d a b : GReg) (f : Word → Word → Word) : Out :=
  s.insn i c fun s => .next (s.res c d (f (s.gv c a) (s.gv c b)))

/-- An instruction with one register operand and a result. -/
def State.alu1 (s : State) (i : Instr) (c : CtxNum) (d a : GReg) (f : Word → Word) : Out :=
  s.insn i c fun s => .next (s.res c d (f (s.gv c a)))

/-- A bit-field instruction: pos + len above 64 is ILLEGAL (05 R147). -/
def State.bfx (s : State) (i : Instr) (c : CtxNum) (d a : GReg) (pos len1 : BitVec 6) (f : Word → Word → Nat → Nat → Word) : Out :=
  s.insn i c fun s =>
    if 64 < pos.toNat + len1.toNat + 1 then fin (s.trap c TC.illegal ((insnWord i).getD 0))
    else .next (s.res c d (f (s.gv c a) (s.gv c d) pos.toNat (len1.toNat + 1)))

/-- The field [pos+len−1:pos] of a word, sign-extended. -/
def sfield (x : Word) (pos len : Nat) : Word :=
  BitVec.ofInt 64 (signedOf len (x.toNat / 2 ^ pos % 2 ^ len))

/-- 05 R146 add. -/
def execAdd (c : CtxNum) (d a b : GReg) (s : State) : Out := s.alu2 (.add c d a b) c d a b fun x y => x + y

/-- 05 R146 sub. -/
def execSub (c : CtxNum) (d a b : GReg) (s : State) : Out := s.alu2 (.sub c d a b) c d a b fun x y => x - y

/-- 05 R146 and. -/
def execAnd (c : CtxNum) (d a b : GReg) (s : State) : Out := s.alu2 (.and c d a b) c d a b fun x y => x &&& y

/-- 05 R146 or. -/
def execOr (c : CtxNum) (d a b : GReg) (s : State) : Out := s.alu2 (.or c d a b) c d a b fun x y => x ||| y

/-- 05 R146 xor. -/
def execXor (c : CtxNum) (d a b : GReg) (s : State) : Out := s.alu2 (.xor c d a b) c d a b fun x y => x ^^^ y

/-- 05 R146 sll. -/
def execSll (c : CtxNum) (d a b : GReg) (s : State) : Out := s.alu2 (.sll c d a b) c d a b fun x y => x <<< (y.toNat % 64)

/-- 05 R146 srl. -/
def execSrl (c : CtxNum) (d a b : GReg) (s : State) : Out := s.alu2 (.srl c d a b) c d a b fun x y => x >>> (y.toNat % 64)

/-- 05 R146 sra. -/
def execSra (c : CtxNum) (d a b : GReg) (s : State) : Out := s.alu2 (.sra c d a b) c d a b fun x y => x.sshiftRight (y.toNat % 64)

/-- 05 R146 slt. -/
def execSlt (c : CtxNum) (d a b : GReg) (s : State) : Out := s.alu2 (.slt c d a b) c d a b fun x y => bit1 (x.slt y)

/-- 05 R146 sltu. -/
def execSltu (c : CtxNum) (d a b : GReg) (s : State) : Out := s.alu2 (.sltu c d a b) c d a b fun x y => bit1 (x.ult y)

/-- 05 R146 seq. -/
def execSeq (c : CtxNum) (d a b : GReg) (s : State) : Out := s.alu2 (.seq c d a b) c d a b fun x y => bit1 (x == y)

/-- 05 R146 sne. -/
def execSne (c : CtxNum) (d a b : GReg) (s : State) : Out := s.alu2 (.sne c d a b) c d a b fun x y => bit1 (x != y)

/-- 05 R146 mul. -/
def execMul (c : CtxNum) (d a b : GReg) (s : State) : Out := s.alu2 (.mul c d a b) c d a b fun x y => x * y

/-- 05 R146 mulh. -/
def execMulh (c : CtxNum) (d a b : GReg) (s : State) : Out := s.alu2 (.mulh c d a b) c d a b fun x y => mulhOf x y

/-- 05 R146 mulhu. -/
def execMulhu (c : CtxNum) (d a b : GReg) (s : State) : Out := s.alu2 (.mulhu c d a b) c d a b fun x y => mulhuOf x y

/-- 05 R146 min. -/
def execMin (c : CtxNum) (d a b : GReg) (s : State) : Out := s.alu2 (.min c d a b) c d a b fun x y => if x.slt y then x else y

/-- 05 R146 max. -/
def execMax (c : CtxNum) (d a b : GReg) (s : State) : Out := s.alu2 (.max c d a b) c d a b fun x y => if x.slt y then y else x

/-- 05 R146 minu. -/
def execMinu (c : CtxNum) (d a b : GReg) (s : State) : Out := s.alu2 (.minu c d a b) c d a b fun x y => if x.ult y then x else y

/-- 05 R146 maxu. -/
def execMaxu (c : CtxNum) (d a b : GReg) (s : State) : Out := s.alu2 (.maxu c d a b) c d a b fun x y => if x.ult y then y else x

/-- 05 R146 clz. -/
def execClz (c : CtxNum) (d a : GReg) (s : State) : Out := s.alu1 (.clz c d a) c d a fun x => BitVec.ofNat 64 (clzOf x)

/-- 05 R146 ctz. -/
def execCtz (c : CtxNum) (d a : GReg) (s : State) : Out := s.alu1 (.ctz c d a) c d a fun x => BitVec.ofNat 64 (ctzOf x)

/-- 05 R146 popc. -/
def execPopc (c : CtxNum) (d a : GReg) (s : State) : Out := s.alu1 (.popc c d a) c d a fun x => BitVec.ofNat 64 (popcOf x)

/-- 05 R145 addi. -/
def execAddi (c : CtxNum) (d a : GReg) (imm : BitVec 16) (s : State) : Out := s.alu1 (.addi c d a imm) c d a fun x => x + sext16 imm

/-- 05 R145 andi. -/
def execAndi (c : CtxNum) (d a : GReg) (imm : BitVec 16) (s : State) : Out := s.alu1 (.andi c d a imm) c d a fun x => x &&& sext16 imm

/-- 05 R145 ori. -/
def execOri (c : CtxNum) (d a : GReg) (imm : BitVec 16) (s : State) : Out := s.alu1 (.ori c d a imm) c d a fun x => x ||| sext16 imm

/-- 05 R145 xori. -/
def execXori (c : CtxNum) (d a : GReg) (imm : BitVec 16) (s : State) : Out := s.alu1 (.xori c d a imm) c d a fun x => x ^^^ sext16 imm

/-- 05 R145 slti. -/
def execSlti (c : CtxNum) (d a : GReg) (imm : BitVec 16) (s : State) : Out := s.alu1 (.slti c d a imm) c d a fun x => bit1 (x.slt (sext16 imm))

/-- 05 R145 sltiu. -/
def execSltiu (c : CtxNum) (d a : GReg) (imm : BitVec 16) (s : State) : Out := s.alu1 (.sltiu c d a imm) c d a fun x => bit1 (x.ult (sext16 imm))

/-- 05 R145 lsi. -/
def execLsi (c : CtxNum) (d a : GReg) (imm : BitVec 16) (s : State) : Out := s.alu1 (.lsi c d a imm) c d a fun x => (x <<< 16) ||| imm.setWidth 64

/-- 05 R145 slli. -/
def execSlli (c : CtxNum) (d a : GReg) (sh : BitVec 6) (s : State) : Out := s.alu1 (.slli c d a sh) c d a fun x => x <<< sh.toNat

/-- 05 R145 srli. -/
def execSrli (c : CtxNum) (d a : GReg) (sh : BitVec 6) (s : State) : Out := s.alu1 (.srli c d a sh) c d a fun x => x >>> sh.toNat

/-- 05 R145 srai. -/
def execSrai (c : CtxNum) (d a : GReg) (sh : BitVec 6) (s : State) : Out := s.alu1 (.srai c d a sh) c d a fun x => x.sshiftRight sh.toNat

/-- 05 R145, R147 bfxU. -/
def execBfxU (c : CtxNum) (d a : GReg) (pos len1 : BitVec 6) (s : State) : Out :=
  s.bfx (.bfxU c d a pos len1) c d a pos len1 fun x _ p l => BitVec.ofNat 64 (x.toNat / 2 ^ p % 2 ^ l)

/-- 05 R145, R147 bfxS. -/
def execBfxS (c : CtxNum) (d a : GReg) (pos len1 : BitVec 6) (s : State) : Out :=
  s.bfx (.bfxS c d a pos len1) c d a pos len1 fun x _ p l => sfield x p l

/-- 05 R145, R147 bfi. -/
def execBfi (c : CtxNum) (d a : GReg) (pos len1 : BitVec 6) (s : State) : Out :=
  s.bfx (.bfi c d a pos len1) c d a pos len1 fun x old p l => setBits old (p + l - 1) p (x.toNat % 2 ^ l)

/-! ## Loads and stores (05 R148, R149, 13 R437) -/

/-- The access traps ADDRESS, or ACCESS with the gate's denial counted. -/
def State.addrTrap (s : State) (c a : Nat) (k : AccKind) (d : EngAddr) : Out :=
  match d with
  | .bad => fin (s.trap c TC.address a)
  | .denied (some off) => fin ((s.gateDeny (ctxMst c) off k).trap c TC.access a)
  | _ => fin (s.trap c TC.access a)

/-- An L1 miss: the request goes to the home once for the engine, and the context waits for the line. The
instruction issues again then, so its issue is undone (`s0` is the state before it); its gate has passed it (15 R490). -/
def State.missStall (s0 : State) (c l : Nat) (own : Bool) : State :=
  let e := ctxEng c
  let s0 := s0.setCtx c fun x => { x with passed := some (x.passed.getD s0.nextId) }
  if s0.wbInFlight e l then s0
  else
    let s := (s0.setCtx c fun x => { x with stall := .line l }).tally (ctxIsl c) 0x05
    if s0.l1Asking e l then s
    else
      let r : CohReq := { line := lineFin l, req := ctxMst c, since := s.now, nacks := 0 }
      s.cohSend (if own then .getm r else .gets r)

/-- An engine's copy of a line holds an error (13 R453), which an access that meets it corrects or poisons (`l1Check`). -/
def State.l1Flawed (s : State) (e l : Nat) : Bool := (s.l1Find e l).any fun w => w.ecc != 0

/-- An instruction ends; one that met an error has its fault's consequences carried out. -/
def endAfter (flawed : Bool) (t : State) : Out := if flawed then fin t else .next t

/-- A load of `n` bytes; `f` extends what it read. An address that is misaligned and outside the spaces, or denied, traps
MISALIGNED: DESIGN CHOICE, 05 R149 gives no order (notes/assumptions/65.md). -/
def State.load (s : State) (i : Instr) (n : Nat) (f : Nat → Word) (c : CtxNum) (d a : GReg) (imm : BitVec 16) : Out :=
  s.insnAt (insnWord i) c fun s0 s =>
    let ad := (s.gv c a + sext16 imm).toNat
    if ad % n ≠ 0 then fin (s.trap c TC.misaligned ad)
    else
      match s0.engAddr c ad n .read with
      | .pal key =>
        if s.palBad key n then fin (((s.palFound key n (some c)).raise (Src.PAL_UNCORR (ctxIsl c)) (ctxArg c)).trap c TC.memory ad)
        else if s.palFlawed key n then fin ((s.palCheck key n).res c d (f (ofBytes (s.palRead key n))))
        else .next (s.res c d (f (ofBytes (s.palRead key n))))
      | .dev off =>
        let flawed := s.l1Flawed (ctxEng c) (off / 64)
        let s := s.l1Check (ctxEng c) (off / 64)
        match s.l1Find (ctxEng c) (off / 64) with
        | some w =>
          if w.poison then fin (s.trap c TC.memory ad)
          else endAfter flawed ((s.l1Update (ctxEng c) w).res c d (f (ofBytes ((w.data.drop (off % 64)).take n))))
        | none => endAfter flawed ((s0.l1Check (ctxEng c) (off / 64)).missStall c (off / 64) false)
      | x => s.addrTrap c ad .read x

/-- The engine's copy of a line that it may write: in M or E (13 R433). -/
def State.l1Owned (s : State) (e l : Nat) : Option L1Line :=
  (s.l1Find e l).bind fun w => if w.st = .m ∨ w.st = .e then some w else none

/-- A store of the low `n` bytes of g[d]; the traps in the order of a load. -/
def State.store (s : State) (i : Instr) (n : Nat) (c : CtxNum) (d a : GReg) (imm : BitVec 16) : Out :=
  s.insnAt (insnWord i) c fun s0 s =>
    let ad := (s.gv c a + sext16 imm).toNat
    let bs := bytesOf n (s.gv c d).toNat
    if ad % n ≠ 0 then fin (s.trap c TC.misaligned ad)
    else
      match s0.engAddr c ad n .write with
      | .pal key => .next ((s.palWrite key bs).adv c)
      | .dev off =>
        let flawed := s.l1Flawed (ctxEng c) (off / 64)
        let s := s.l1Check (ctxEng c) (off / 64)
        match s.l1Owned (ctxEng c) (off / 64) with
        | some w =>
          endAfter flawed ((s.l1Update (ctxEng c) { w with st := .m, data := splice w.data (off % 64) bs }).adv c)
        | none => endAfter flawed ((s0.l1Check (ctxEng c) (off / 64)).missStall c (off / 64) true)
      | x => s.addrTrap c ad .write x

/-- Sign and zero extension of what a load read. -/
def sextN (n : Nat) (v : Nat) : Word := BitVec.ofInt 64 (signedOf (8 * n) v)
def zextN (v : Nat) : Word := BitVec.ofNat 64 v

/-- 05 R145 ldB. -/
def execLdB (c : CtxNum) (d a : GReg) (imm : BitVec 16) (s : State) : Out := s.load (.ldB c d a imm) 1 (sextN 1) c d a imm

/-- 05 R145 ldBu. -/
def execLdBu (c : CtxNum) (d a : GReg) (imm : BitVec 16) (s : State) : Out := s.load (.ldBu c d a imm) 1 zextN c d a imm

/-- 05 R145 ldH. -/
def execLdH (c : CtxNum) (d a : GReg) (imm : BitVec 16) (s : State) : Out := s.load (.ldH c d a imm) 2 (sextN 2) c d a imm

/-- 05 R145 ldHu. -/
def execLdHu (c : CtxNum) (d a : GReg) (imm : BitVec 16) (s : State) : Out := s.load (.ldHu c d a imm) 2 zextN c d a imm

/-- 05 R145 ldW. -/
def execLdW (c : CtxNum) (d a : GReg) (imm : BitVec 16) (s : State) : Out := s.load (.ldW c d a imm) 4 (sextN 4) c d a imm

/-- 05 R145 ldWu. -/
def execLdWu (c : CtxNum) (d a : GReg) (imm : BitVec 16) (s : State) : Out := s.load (.ldWu c d a imm) 4 zextN c d a imm

/-- 05 R145 ldD. -/
def execLdD (c : CtxNum) (d a : GReg) (imm : BitVec 16) (s : State) : Out := s.load (.ldD c d a imm) 8 zextN c d a imm

/-- 05 R145 stB. -/
def execStB (c : CtxNum) (d a : GReg) (imm : BitVec 16) (s : State) : Out := s.store (.stB c d a imm) 1 c d a imm

/-- 05 R145 stH. -/
def execStH (c : CtxNum) (d a : GReg) (imm : BitVec 16) (s : State) : Out := s.store (.stH c d a imm) 2 c d a imm

/-- 05 R145 stW. -/
def execStW (c : CtxNum) (d a : GReg) (imm : BitVec 16) (s : State) : Out := s.store (.stW c d a imm) 4 c d a imm

/-- 05 R145 stD. -/
def execStD (c : CtxNum) (d a : GReg) (imm : BitVec 16) (s : State) : Out := s.store (.stD c d a imm) 8 c d a imm

/-- 05 R145 hld. -/
def execHld (c : CtxNum) (d : GReg) (i : Fin 16) (s : State) : Out :=
  s.insn (.hld c d i) c fun s => .next (s.res c d (s.get (.h c i)))

/-- 05 R145 hst: h0 to h7 only, by the operand's range. -/
def execHst (c : CtxNum) (a : GReg) (i : Fin 8) (s : State) : Out :=
  s.insn (.hst c a i) c fun s => .next ((s.set (.h c i) (s.gv c a)).adv c)

/-! ## Control flow (05 R145) -/

/-- The pc plus a signed number of words. -/
def State.jump (s : State) (c : Nat) (off : Int) : State :=
  s.wr (F.pc_PC c) (((s.pcOf c : Int) + 4 * off) % 2 ^ 32).toNat

/-- A conditional branch. -/
def State.branch (s : State) (i : Instr) (c : CtxNum) (a b : GReg) (off : BitVec 16) (p : Word → Word → Bool) : Out :=
  s.insn i c fun s => .next (if p (s.gv c a) (s.gv c b) then s.jump c off.toInt else s.adv c)

/-- 05 R145 beq. -/
def execBeq (c : CtxNum) (a b : GReg) (off : BitVec 16) (s : State) : Out := s.branch (.beq c a b off) c a b off fun x y => x == y

/-- 05 R145 bne. -/
def execBne (c : CtxNum) (a b : GReg) (off : BitVec 16) (s : State) : Out := s.branch (.bne c a b off) c a b off fun x y => x != y

/-- 05 R145 blt. -/
def execBlt (c : CtxNum) (a b : GReg) (off : BitVec 16) (s : State) : Out := s.branch (.blt c a b off) c a b off fun x y => x.slt y

/-- 05 R145 bge. -/
def execBge (c : CtxNum) (a b : GReg) (off : BitVec 16) (s : State) : Out := s.branch (.bge c a b off) c a b off fun x y => !x.slt y

/-- 05 R145 bltu. -/
def execBltu (c : CtxNum) (a b : GReg) (off : BitVec 16) (s : State) : Out := s.branch (.bltu c a b off) c a b off fun x y => x.ult y

/-- 05 R145 bgeu. -/
def execBgeu (c : CtxNum) (a b : GReg) (off : BitVec 16) (s : State) : Out := s.branch (.bgeu c a b off) c a b off fun x y => !x.ult y

/-- 05 R145 jal. -/
def execJal (c : CtxNum) (d : GReg) (off : BitVec 21) (s : State) : Out :=
  s.insn (.jal c d off) c fun s => .next ((s.setG c d (BitVec.ofNat 64 (s.pcOf c + 4))).jump c off.toInt)

/-- 05 R145 jalr: the target is formed before g[d] is written. -/
def execJalr (c : CtxNum) (d a : GReg) (imm : BitVec 16) (s : State) : Out :=
  s.insn (.jalr c d a imm) c fun s =>
    let t := (s.gv c a + sext16 imm) &&& ~~~3
    .next ((s.setG c d (BitVec.ofNat 64 (s.pcOf c + 4))).wr (F.pc_PC c) t.toNat)

/-! ## Fences, atomics and locks (05 R152 to R154) -/

/-- 05 R152 fenceR: every earlier access of a context has taken effect when its next instruction issues. -/
def execFenceR (c : CtxNum) (s : State) : Out := s.insn (.fenceR c) c fun s => .next (s.adv c)

/-- 05 R152 fenceW: every earlier access of a context has taken effect when its next instruction issues. -/
def execFenceW (c : CtxNum) (s : State) : Out := s.insn (.fenceW c) c fun s => .next (s.adv c)

/-- 05 R152 fenceAll: every earlier access of a context has taken effect when its next instruction issues. -/
def execFenceAll (c : CtxNum) (s : State) : Out := s.insn (.fenceAll c) c fun s => .next (s.adv c)

/-- An atomic on a coherent address (05 R153), done on the engine's own copy once it owns the line. MISALIGNED is looked at
first, also of a palette address: DESIGN CHOICE (notes/assumptions/65.md). -/
def State.amo (s : State) (i : Instr) (op : AtomOp) (c : CtxNum) (d a b : GReg) : Out :=
  s.insnAt (insnWord i) c fun s0 s =>
    let ad := (s.gv c a).toNat
    if ad % 8 ≠ 0 then fin (s.trap c TC.misaligned ad)
    else if ad < 65536 then fin (s.trap c TC.address ad)
    else
      match s0.engAddr c ad 8 .atomic with
      | .dev off =>
        let flawed := s.l1Flawed (ctxEng c) (off / 64)
        let s := s.l1Check (ctxEng c) (off / 64)
        match s.l1Owned (ctxEng c) (off / 64) with
        | some w =>
          if w.poison then fin (s.trap c TC.memory ad)
          else
            let old := wordOfBytes (w.data.drop (off % 64))
            let new := atomResult op old (s.gv c b) (s.gv c d)
            endAfter flawed ((s.l1Update (ctxEng c) { w with st := .m, data := splice w.data (off % 64) (bytesOf 8 new.toNat) }).res c d old)
        | none => endAfter flawed ((s0.l1Check (ctxEng c) (off / 64)).missStall c (off / 64) true)
      | x => s.addrTrap c ad .atomic x

/-- 05 R153 amoAdd. -/
def execAmoAdd (c : CtxNum) (d a b : GReg) (s : State) : Out := s.amo (.amoAdd c d a b) .add c d a b

/-- 05 R153 amoSwap. -/
def execAmoSwap (c : CtxNum) (d a b : GReg) (s : State) : Out := s.amo (.amoSwap c d a b) .swap c d a b

/-- 05 R153 amoCas. -/
def execAmoCas (c : CtxNum) (d a b : GReg) (s : State) : Out := s.amo (.amoCas c d a b) .cas c d a b

/-- 05 R153 amoAnd. -/
def execAmoAnd (c : CtxNum) (d a b : GReg) (s : State) : Out := s.amo (.amoAnd c d a b) .and c d a b

/-- 05 R153 amoOr. -/
def execAmoOr (c : CtxNum) (d a b : GReg) (s : State) : Out := s.amo (.amoOr c d a b) .or c d a b

/-- A lock instruction (05 R154, 15 R499): a number above 4,095 is BADARG, a gate denial traps ACCESS. -/
def State.lockOp (s : State) (i : Instr) (c : CtxNum) (d a : GReg) (view : Nat) (k : AccKind) (f : State → Nat → Out) : Out :=
  s.insn i c fun s =>
    let x := (s.gv c a).toNat
    if 4096 ≤ x then .next (s.res c d (BitVec.ofNat 64 SS.badarg))
    else
      match s.gate (ctxMst c) (regGateAddr (view + 8 * x)) 8 k with
      | (s, true) => f s x
      | (s, false) => fin (s.trap c TC.access (regGateAddr (view + 8 * x)))

/-- 05 R154 lock.acq: OWNED or acquired at once, else the context stalls with its claim. -/
def execLockAcq (c : CtxNum) (d a : GReg) (s : State) : Out :=
  s.lockOp (.lockAcq c d a) c d a 0x40000 .read fun s n =>
    match s.semTry n (ctxMst c) with
    | (s, st) =>
      if st = SS.busy then
        .next ((s.setClaims n (s.semClaims n ++ [{ m := ctxMst c, since := s.now, lock := true }])).setCtx c
          fun x => { x with stall := .lock n d })
      else .next (s.res c d (BitVec.ofNat 64 st))

/-- 05 R154 lock.try. -/
def execLockTry (c : CtxNum) (d a : GReg) (s : State) : Out :=
  s.lockOp (.lockTry c d a) c d a 0x48000 .read fun s n =>
    match s.semTry n (ctxMst c) with
    | (s, st) => .next (s.res c d (BitVec.ofNat 64 st))

/-- 05 R154 lock.rel. -/
def execLockRel (c : CtxNum) (d a : GReg) (s : State) : Out :=
  s.lockOp (.lockRel c d a) c d a 0x50000 .write fun s n =>
    match s.semRelease n (ctxMst c) with
    | (s, st) => fin (s.res c d (BitVec.ofNat 64 st))

/-! ## Events, traps and halt (05 R155 to R158) -/

/-- 05 R155 wait: the context suspends with its mask; a zero mask traps ILLEGAL. -/
def execWait (c : CtxNum) (d a : GReg) (s : State) : Out :=
  s.insn (.wait c d a) c fun s =>
    let m := (s.gv c a).toNat % 65536
    if m = 0 then fin (s.trap c TC.illegal ((insnWord (.wait c d a)).getD 0))
    else .next (((s.adv c).wr (F.ctxCfg_STATE c) XS.waiting).setCtx c fun x => { x with waitMask := some (m, d) })

/-- 05 R155 yield: the other ready contexts of the engine issue once first. -/
def execYield (c : CtxNum) (s : State) : Out :=
  s.insn (.yield c) c fun s =>
    let l := ((List.range 8).map (8 * ctxEng c + ·)).filter fun k => k ≠ c.val && s.ctxReady k
    .next ((s.adv c).setCtx c fun x => { x with stall := if l.isEmpty then .none else .yielded l })

/-- 05 R155 done. -/
def execDone (c : CtxNum) (s : State) : Out := s.insn (.done c) c fun s => fin (s.activationEnd c)

/-- 05 R145 trap. -/
def execTrap (c : CtxNum) (imm : BitVec 16) (s : State) : Out :=
  s.insn (.trap c imm) c fun s => fin (s.trap c TC.trap imm.toNat)

/-- 05 R156 halt: Firmware only. -/
def execHalt (c : CtxNum) (s : State) : Out :=
  s.insn (.halt c) c fun s =>
    if s.ctxLevel c = 3 then fin (s.ctxHalt c (Src.CTX_HALTED (ctxIsl c)))
    else fin (s.trap c TC.privilege ((insnWord (.halt c)).getD 0))

/-! ## Control and status registers (05 R160, R161) -/

/-- What csr.rd reads. -/
def State.csrRead (s : State) (c n : Nat) : Word :=
  if n = 0 then setBits (s.get (.csr c 0)) 43 32 (if s.isUser c then s.rd (F.ctxCfg_TENANT c) else 0)
  else if n = 5 then BitVec.ofNat 64 (s.ctxLevel c)
  else s.get (.csr c n)

/-- 05 R160 csr.rd. -/
def execCsrRd (c : CtxNum) (d : GReg) (n : BitVec 8) (s : State) : Out :=
  s.insn (.csrRd c d n) c fun s =>
    if 5 < n.toNat then fin (s.trap c TC.illegal ((insnWord (.csrRd c d n)).getD 0))
    else .next (s.res c d (s.csrRead c n.toNat))

/-- The effect of csr.wr at sufficient privilege. -/
def State.csrWrite (s : State) (c n : Nat) (v : Word) : State :=
  match n with
  | 0 => if bits v 0 0 = 1 then s.wr (F.csr_TRAPPED c) 0 else s
  | 2 => s.wr (F.csr_EPC c) (bits v 31 0)
  | 3 => s.wr (F.csr_MASK c) (bits v 15 0)
  | 4 => if bits v 47 32 = 0 then s else s.wr (F.csr_LIMIT c) (bits v 47 32)
  | _ => s

/-- 05 R160 csr.wr: ctx.evmask from any privilege, 0, 2 and 4 from Provider, ctx.cause and ctx.priv from none. -/
def execCsrWr (c : CtxNum) (a : GReg) (n : BitVec 8) (s : State) : Out :=
  s.insn (.csrWr c a n) c fun s =>
    let k := n.toNat
    if 5 < k then fin (s.trap c TC.illegal ((insnWord (.csrWr c a n)).getD 0))
    else if k = 1 ∨ k = 5 ∨ (k ≠ 3 ∧ s.ctxLevel c < 2) then fin (s.trap c TC.privilege ((insnWord (.csrWr c a n)).getD 0))
    else .next ((s.csrWrite c k (s.gv c a)).adv c)

/-! ## Undefined words (05 R143) -/

/-- 05 R143: an undefined word traps ILLEGAL; a defined one is its own command (notes/assumptions/9.md). -/
def execIllegalInstruction (c : CtxNum) (w : BitVec 32) (s : State) : Out :=
  if (decodeInsn c (.failed []) w).isSome then .next s
  else s.insnAt (some w.toNat) c fun _ s => fin (s.trap c TC.illegal w.toNat)

end Sys2Proof.Machine
end

