-- ==== Sys2Proof/Machine/RegAccess.lean ====
section
/-! DEFINITION. The front of every register access (02 R63, 15 R481, R482, R488, 20 R604, R605) and the writes of
configuration class with their audit records (17 R552 to R555). -/

namespace Sys2Proof.Machine

/-- A host port holds posted writes or withholds its credits (02 R41, R51). -/
def State.withheld (s : State) (p : Nat) : Bool :=
  let h := s.host p
  !h.held.isEmpty || h.easel.full 9 || decide (128 ≤ h.asm.length) || s.throttled p

/-- A read of a host function waits behind held posted writes (02 R41); at a halt those writes are discarded (R63). -/
def State.waitsBehind (s : State) (m : Mst) : Bool :=
  mstClass m == 0 && !s.halted && !(s.host (mstFunc m / 256)).held.isEmpty

/-- A posted write of a host function waits for credits (02 R41, R51): only one that its function answers and that is
not discarded at a halt (R63). -/
def State.writeWaits (s : State) (m : Mst) : Bool :=
  mstClass m == 0 && !s.halted && s.withheld (mstFunc m / 256)

/-- A request joins those that wait at a host port. -/
def State.holdWrite (s : State) (p : Nat) (w : HeldWrite) : State :=
  s.setHost p fun h => { h with held := h.held ++ [w] }

/-- An access of a host function to a register waits at its port (02 R41): a write of 8 B, or a read. -/
def State.holdReg (s : State) (m : Mst) (addr : Nat) (v : Option Word) : State :=
  s.holdWrite (mstFunc m / 256)
    { f := mstFunc m % 256, bar := 0, off := addr, bytes := (v.map fun x => bytesOf 8 x.toNat).getD [], read := v.isNone }

/-- A function is there (02 R29): a PF, or a VF that the SR-IOV capability of its PF enables, numbered from 1 (PRESUMED of PCI
Express, notes/assumptions/23.md). -/
def State.fnThere (s : State) (func : Nat) : Bool :=
  let c := (s.fn (func / 256 * 256)).ctl
  isPf func || ((c.at 82 0).getLsbD 0 && decide (func % 256 ≤ (c.at 84 0).toNat))

/-- A function answers memory requests (02 R63): its port is not busy for boot or reset, it is there, and it is not in reset. -/
def State.fnAnswers (s : State) (func : Nat) : Bool :=
  !s.hostBusyBoot (func / 256) && s.fnThere func && !s.inFlr func

/-- The registers that a host may read at a halt (02 R63), as ranges of addresses: those named FLT_ and GLB_ (20 R608). -/
def haltRanges : List (Nat × Nat) :=
  [(0, 0x10), (0x1000, 0x1020), (0x2000, 0x2028), (0x7000, 0x7008), (0x20000, 0x22FF8), (0x24000, 0x247F8), (0x25000, 0x25020)]

/-- Registers that a host may read at a halt (02 R63): FLT_ and GLB_. -/
def haltReadable (addr : Nat) : Bool := haltRanges.any fun r => decide (r.1 ≤ addr ∧ addr ≤ r.2)

/-- A master reaches the register space now (02 R54, R55, R61, R63, 03 R72, 10 R348, 16 R520): the pier through its tunnel. -/
def State.reaches (s : State) (m : Mst) (addr : Nat) (k : AccKind) : Bool :=
  match mstClass m with
  | 0 => isPf (mstFunc m) && s.fnAnswers (mstFunc m) && (!s.halted || (k == .read && haltReadable addr))
  | 4 => s.pier.tunnel && !s.pierBusy
  | 5 => s.rd F.lcsState_STATE != 3
  | 6 => !s.halted
  | _ => false

/-- A record of a master's change is asked for. -/
def State.askRec (s : State) (m : Mst) (kind addr : Nat) (old new : Word) : State × Bool :=
  s.audAsk { kind := kind, priv := s.priv m, master := m.toNat, addr := addr, old := old, new := new }

/-- The pages that a gate checks for `n` bytes from an address (15 R491). -/
def State.gatePages (s : State) (g a n : Nat) : List Nat :=
  if s.on (F.gteCtl_STRADDLE g) then [a / 4096]
  else (List.range ((a + max n 1 - 1) / 4096 + 1 - a / 4096)).map (a / 4096 + ·)

/-- A debug access asks its gate (15 R506, R507): in MANUFACTURE and DEVELOP it passes the pages that locked entries
decide, under a record. -/
def State.debugGate (s : State) (a n : Nat) (k : AccKind) : State × Bool :=
  let m : Mst := 0x5000
  let pages := s.gatePages 5 a n
  let locked (p : Nat) : Bool := (s.gateDecider 5 p none).any fun e => s.on (F.gteEnt_LOCK 5 e)
  if !s.on (F.gteCtl_EN 5) || decide (2 ≤ s.rd F.lcsState_STATE) || !pages.any locked then s.gate m a n k
  else if pages.all fun p => locked p || s.gatePage 5 m p k then
    match s.askRec m RK.debugPass (a / 8) 0 (BitVec.ofNat 64 (atypeOf k)) with
    | (s, true) =>
      ((s.count (F.gteStat_DBGPASS 5)).raise Src.GTE_DEBUG_PASS { addr := a, master := m.toNat, atype := atypeOf k }, true)
    | (s, false) => (s.gateDeny m a k, false)
  else (s.gateDeny m a k, false)

/-- An access asks its port and its gate: the flag says whether it is performed (15 R482, R488). -/
def State.openReg (s : State) (m : Mst) (addr : Nat) (k : AccKind) : State × Bool :=
  if s.reaches m addr k then
    if mstClass m = 5 then s.debugGate (regGateAddr addr) 8 k else s.gate m (regGateAddr addr) 8 k
  else (s, false)

/-- The answer to a read that is not performed: all ones, or the error flag of a debug access (15 R488). -/
def State.answerOnes (s : State) (m : Mst) : State :=
  if mstClass m = 5 then s.emit .jtagError else s.answer m (BitVec.allOnes 64)

/-- A write that is not performed has no answer, but for the error flag of a debug access (15 R488). -/
def State.writeLost (s : State) (m : Mst) : State := if mstClass m = 5 then s.emit .jtagError else s

/-- A register write by a master: it waits for its port's credits; else gated, then acted on; a denied or discarded
write changes nothing else. -/
def regWriteRow (m : Mst) (addr : Nat) (v : Word) (f : State → Word → State) (s : State) : Out :=
  if s.writeWaits m then fin (s.holdReg m addr (some v))
  else
    match s.openReg m addr .write with
    | (s, true) => fin (f s v)
    | (s, false) => fin (s.writeLost m)

/-- A register read by a master: it waits behind held writes; else gated, then acted on; a denied read answers all
ones. -/
def regReadRow (m : Mst) (addr : Nat) (f : State → State) (s : State) : Out :=
  if s.waitsBehind m then fin (s.holdReg m addr none)
  else
    match s.openReg m addr .read with
    | (s, true) => fin (f s)
    | (s, false) => fin (s.answerOnes m)

/-! ## Selects (03 R72) -/

/-- The value of a master's select. -/
def State.selOf (s : State) (m : Mst) (k : SelName) : Nat := (s.get (.sel m.toNat k)).toNat

/-- A reset of masters returns their selects to zero. -/
def State.clearSels (s : State) (p : Nat → Bool) : State :=
  s.resetRegs fun r => match r with | .sel m _ => p m | _ => false

/-! ## Configuration-class writes (17 R552, R554, R555) -/

/-- The RW and RWL bits of a word. -/
def cfgMask (r : Reg) : Word := fieldMask r fun f => f.acc = .rw || f.acc = .rwl

/-- A word takes a new value under a record of `kind` when a configuration field changes; the flag is false when
the audit log refused. -/
def State.cfgPut (s : State) (m : Mst) (kind addr : Nat) (r : Reg) (new : Word) (force : Bool := false) : State × Bool :=
  let old := s.get r
  if !force && (old ^^^ new) &&& cfgMask r == 0 then (s.set r new, true)
  else
    match s.askRec m kind addr old new with
    | (s, true) => (s.set r new, true)
    | (s, false) => (s, false)

/-- A write to a word of configuration class (REG record). -/
def State.cfgWrite (s : State) (m : Mst) (addr : Nat) (r : Reg) (v : Word) (locked : Bool := false) : State × Bool :=
  s.cfgPut m RK.reg addr r (accWrite r locked (s.get r) v)

/-- ADDR of a WIN record (17 R553). -/
def winAddr (win word sel : Nat) : Nat := win * 2 ^ 28 + word * 2 ^ 24 + sel % 2 ^ 20

/-- A write to a word of a configuration-class window (WIN record). -/
def State.winWrite (s : State) (m : Mst) (win word sel : Nat) (r : Reg) (v : Word) : State × Bool :=
  s.cfgPut m RK.win (winAddr win word sel) r (accWrite r false (s.get r) v)

/-- A write to a word that is not of configuration class. -/
def State.plainWrite (s : State) (r : Reg) (v : Word) (locked : Bool := false) : State :=
  s.set r (accWrite r locked (s.get r) v)

/-- A write of a field keeps the stored value where the new one is not accepted. -/
def keepField (old new : Word) (hi lo : Nat) (ok : Nat → Bool) : Word :=
  if ok (bits new hi lo) then new else setBits new hi lo (bits old hi lo)

end Sys2Proof.Machine
end

