-- ==== Sys2Proof/Machine/HostRows.lean ====
section
/-! DEFINITION. The commands of the host ports, the device FIFOs and the ready pins (02). -/

namespace Sys2Proof.Machine

/-! ## Doorbell pages and the easel (02 R33 to R44) -/

/-- The size of BAR2 or BAR4 of a function (02 R33). -/
def barSize (bar func : Nat) : Nat :=
  if bar = 2 then (if isPf func then 0x100000 else 0x10000) else if isPf func then 0x8000 else 0x1000

/-- The whole aligned slots of a posted write rung in ascending order (02 R34); the fuel counts bytes. -/
def State.ringSlots (func off : Nat) : Nat → List Byte → State → State
  | 0, _, s => s
  | k + 1, bs, s =>
    if bs = [] then s
    else if off % 8 = 0 ∧ 8 ≤ bs.length then
      State.ringSlots func (off + 8) k (bs.drop 8)
        (if off + 8 ≤ barSize 2 func then s.doorbell func (wordOfBytes bs) else s)
    else State.ringSlots func (off + 1) k (bs.drop 1) s

/-- A posted write to a doorbell page acts (02 R34). -/
def State.doorbellWrite (s : State) (func off : Nat) (bs : List Byte) : State := State.ringSlots func off bs.length bs s

/-- A byte of an easel slot address that an assembly takes (02 R36, R38). -/
def easelByte (off : Nat) : Bool := decide (off % 512 < 8) || decide (64 ≤ off % 512 ∧ off % 512 < 384)

/-- One byte reaches the assembly of its slot address, allocated when there is none. -/
def asmPut (now f : Nat) (l : List Assembly) (off : Nat) (b : Byte) : List Assembly :=
  if !easelByte off then l
  else if l.any fun a => a.f == f && a.slot == off / 512 then
    l.map fun a => if a.f = f ∧ a.slot = off / 512 then { a with got := a.got.put (off % 512) b } else a
  else l ++ [{ f := f, slot := off / 512, got := [(off % 512, b)], start := now }]

/-- The bytes of a write reach their assemblies in ascending order. -/
def asmWrite (now f : Nat) : List Assembly → Nat → List Byte → List Assembly
  | l, _, [] => l
  | l, off, b :: bs => asmWrite now f (asmPut now f l off b) (off + 1) bs

/-- `n` bytes of an assembly from an offset; bytes that have not arrived read as zero. -/
def Assembly.bytes (a : Assembly) (off n : Nat) : List Byte := (List.range n).map fun i => a.got.at (off + i) 0

/-- The control word of an assembly. -/
def Assembly.ctl (a : Assembly) : Word := wordOfBytes (a.bytes 0 8)

/-- Every byte that an assembly awaits has arrived (02 R38). -/
def Assembly.complete (a : Assembly) : Bool :=
  let has (off n : Nat) : Bool := (List.range n).all fun i => (a.got.find (off + i)).isSome
  has 0 8 && has 64 64 && has 128 ((min (easelIlen a.ctl) 256 + 7) / 8 * 8)

/-- The entry of a complete assembly; the producer index of its queue now orders it behind the ring (02 R44). -/
def State.easelEntry (s : State) (p : Nat) (a : Assembly) : EaselEntry :=
  let q := easelQueue a.ctl
  { f := a.f, after := if s.owns (256 * p + a.f) q then s.rd (F.qctx_PI q) else 0, ctl := a.ctl
    entry := Octet.ofByteList (a.bytes 64 64), payload := a.bytes 128 (min (easelIlen a.ctl) 256) }

/-- The assemblies of a port that were still incomplete 10 µs after their first write are discarded (02 R40). -/
def State.easelExpire (s : State) (p : Nat) : State :=
  let gone := (s.host p).asm.filter fun a => decide (a.start + 10000 ≤ s.now)
  gone.foldl (fun t a => (t.count (F.hptEaselStat_ABORTED p)).raise (Src.HPT_EASEL_ABORTED p) { master := 256 * p + a.f })
    (s.setHost p fun h => { h with asm := h.asm.filter fun a => !gone.contains a })

/-- A posted easel write applied whole, when every slot address has a buffer and every completed assembly a FIFO
slot (02 R38, R39). Several assemblies that one write completes enter the FIFO in the order in which their buffers were
allocated: DESIGN CHOICE, the spec gives no order (notes/assumptions/32.md). -/
def State.easelApply (s : State) (p f off : Nat) (bs : List Byte) : Option State :=
  let s := s.easelExpire p
  let h := s.host p
  let l := asmWrite s.now f h.asm off (bs.take (barSize 4 (256 * p + f) - off))
  let full := l.filter (·.complete)
  if l.length ≤ 128 ∧ h.easel.depth 9 + full.length ≤ 512 then
    let es := full.map (s.easelEntry p)
    let s := s.setHost p fun h =>
      { h with asm := l.filter fun a => !a.complete, easel := es.foldl (fun q e => q.push 9 e) h.easel }
    some (s.wmEval p ((s.host p).easel.depth 9))
  else none

/-- 02 R34: a posted write to a doorbell page; behind withheld credits it waits (R41). -/
def execDoorbellPageWrite (p : Fin 4) (f : Fin 256) (off : Nat) (bytes : List Byte) (s : State) : Out :=
  let func := 256 * p.val + f.val
  if !s.fnAnswers func || s.halted then fin s
  else if s.withheld p then fin (s.holdWrite p { f := f, bar := 2, off := off, bytes := bytes })
  else fin (s.doorbellWrite func off bytes)

/-- 02 R38: a posted write to an easel window is applied whole, or waits at the head of the port's posted requests. DESIGN CHOICE: one
that meets both conditions of R38 while no write waits is applied at once, also while the easel FIFO is full or no assembly buffer is
free; R38 and R41 leave open which of them holds (notes/assumptions/32.md). -/
def execEaselWrite (p : Fin 4) (f : Fin 256) (off : Nat) (bytes : List Byte) (s : State) : Out :=
  let func := 256 * p.val + f.val
  if !s.fnAnswers func || s.halted then fin s
  else if !(s.host p).held.isEmpty || s.throttled p then fin (s.holdWrite p { f := f, off := off, bytes := bytes })
  else
    match s.easelApply p f off bytes with
    | some t => fin t
    | none => fin (s.holdWrite p { f := f, off := off, bytes := bytes })

/-- 02 R40: an assembly still incomplete 10 µs after its first write is discarded. -/
def execEaselAssemblyTimeout (p : Fin 4) (f : Fin 256) (slot : Fin 64) (s : State) : Out :=
  match (s.host p).asm.find? fun a => a.f == f.val && a.slot == slot.val with
  | none => .next s
  | some a =>
    let s := (s.passTo (a.start + 10000)).setHost p fun h => { h with asm := h.asm.erase a }
    fin ((s.count (F.hptEaselStat_ABORTED p)).raise (Src.HPT_EASEL_ABORTED p) { master := 256 * p.val + f.val })

/-- A work entry is taken onto a queue: a slot is reserved, and a malformed entry completes or raises (03 R96, R106,
R107). `ilen` is none for an entry of the ring. -/
def State.takeOnto (s : State) (q : Nat) (t : Taken) (ilen : Option Nat) : State :=
  let s := s.reserve (s.rd (F.qctx_CQ q))
  match s.malReason q t.entry ilen with
  | some why => s.takeMalformed q t why
  | none => s.pushTaken q t

/-- Ring entries whose doorbell arrived before the assembly was complete are still untaken (02 R44). -/
def State.easelBehind (s : State) (q after : Nat) : Bool :=
  let d := ringDepth (s.qLog q) after (s.rd (F.qctx_CI q))
  decide (0 < d ∧ d ≤ s.qDepth q)

/-- 02 R42 to R44: the entry at the head of an easel FIFO is taken, dropped, or refused; it waits behind earlier
entries of its ring (notes/assumptions/18.md). -/
def execEaselTake (p : Fin 4) (s : State) : Out :=
  match (s.host p).easel.items with
  | [] => .next s
  | e :: _ =>
    let func := 256 * p.val + e.f
    let q := easelQueue e.ctl
    let ilen := easelIlen e.ctl
    let pop (s : State) : State :=
      let s := s.setHost p fun h => { h with easel := h.easel.pop 9 }
      s.wmEval p ((s.host p).easel.depth 9)
    let state := s.qState q
    if s.halted || s.draining then .next s
    else if !s.owns func q || decide (256 < ilen) || decide (s.rd (F.qctx_TYPE q) ≠ 0) then
      fin (((pop s).count (F.hptEaselStat_REFUSED p)).raise (Src.HPT_EASEL_REFUSED p) { master := func })
    else if !s.cqActive q || !s.cqRoom q || state == QS.draining || state == QS.error then
      fin ((pop s).postEvent (s.rd (F.qctx_EQ q)) 2 q e.entry.w1)
    else if s.easelBehind q e.after || state == QS.stalled || s.collHeld q e.entry (some ilen) then .next s
    else
      let idx := (s.rd (F.qctx_CI q) + ringMod (s.qLog q) - 1) % ringMod (s.qLog q)
      let s := (pop s).tally 16 0x84
      fin (s.takeOnto q { id := 0, idx := idx, entry := e.entry, pay := e.payload, easel := true } (some ilen))

/-! ## Watermarks and event FIFOs (02 R45 to R59) -/

/-- The register address of a watermark register (02 R48, 20 R608 to R610, 17 R540). -/
def wmAddr (i : Nat) : Nat :=
  if i < 4 then 0x100000 + 0x40000 * i else if i = 4 then 0x828 else if i < 21 then 0x400000 + 0x80000 * (i - 5) else 0xB120

/-- The capacity of the FIFO of index i (02 R48). -/
def fifoCap (i : Nat) : Nat := 2 ^ fifoLog i

/-- A write of a watermark register: HI and LO are taken together, or refused and counted (02 R50). The registers of
the device global block are of configuration class (17 R552). -/
def State.wmWrite (s : State) (m : Mst) (i : Nat) (v : Word) : State :=
  let bad := decide (bits v 44 32 ≤ bits v 28 16) || decide (fifoCap i < bits v 44 32)
  let old := s.get (.wm i)
  let v := if bad then setBits (setBits v 44 32 (bits old 44 32)) 28 16 (bits old 28 16) else v
  let s := if bad then s.count F.glbWmReject_COUNT else s
  let s := if i = 4 ∨ i = 21 then (s.cfgWrite m (wmAddr i) (.wm i) v).1 else s.plainWrite (.wm i) v
  s.wmEval i (s.fifoDepth i)

/-- When INTFC throttling of an event FIFO ends, the overflow entry is written (02 R51). -/
def State.wmThrottleEnd (s t : State) (i : Nat) : State :=
  if 4 ≤ i ∧ i < 21 ∧ s.throttled i = true ∧ t.throttled i = false then t.evOverflow (i - 4) else t

/-- 02 R50: a watermark register is written. -/
def execWatermarkWrite (m : Mst) (i : Fin 22) (v : Word) (s : State) : Out :=
  regWriteRow m (wmAddr i) v (fun s v => s.wmThrottleEnd (s.wmWrite m i v) i) s

/-- 02 R56: PIE_EVT_POP advances the pier event FIFO. -/
def execPieEvtPop (m : Mst) (v : Word) (s : State) : Out :=
  regWriteRow m 0x820 v (fun s v => if bits v 0 0 = 1 then s.evPop 0 else s) s

/-- ISL_EVT_POP acts only at F or D (02 R58). -/
def State.islPop (s : State) (m : Mst) (i : Nat) (v : Word) : State :=
  if bits v 0 0 = 1 ∧ s.atF m = true then s.evPop (1 + i) else s

/-- 02 R58: ISL_EVT_POP advances an island event FIFO. -/
def execIslEvtPop (m : Mst) (i : Fin 16) (v : Word) (s : State) : Out :=
  regWriteRow m (0x400028 + 0x80000 * i.val) v (fun s v => s.islPop m i v) s

/-- 02 R59: the overflow entry is written when a slot is free and no throttling holds events back. -/
def execOverflowEntryWrite (k : Fin 17) (s : State) : Out :=
  if s.throttled (4 + k.val) then .next s else fin (s.evOverflow k)

/-! ## Ready pins (02 R60 to R67) -/

/-- A cause of an attention pulse is pending on a pin (02 R64). -/
def State.attnPending (s : State) (k : Nat) : Bool :=
  if k < 4 then s.on (F.hptAttn_PEND k) else s.on F.pieAttn_EVTFLAG || s.on F.pieAttn_FLTREC

/-- 02 R66: a pending cause starts a pulse on a pin that has been high for 1 µs, 100 µs after the last pulse began. -/
def execAttentionPulse (pin : Fin 5) (s : State) : Out :=
  let p := s.pin pin
  if s.attnPending pin && p.level && !p.pulsing && p.fallDue.isNone && !s.pinBusy pin then
    let s := s.passTo (max (p.riseAt + 1000) ((p.pulsedAt.map (· + 100000)).getD 0))
    fin (s.setPin pin fun p => { p with pulsing := true, pulsedAt := some s.now })
  else .next s

/-- 02 R64, R67: a pulse ends 1 µs after it began; a busy cause waits until the pin has been high for 1 µs. -/
def execAttentionPulseEnd (pin : Fin 5) (s : State) : Out :=
  let p := s.pin pin
  if p.pulsing then
    let s := s.passTo ((p.pulsedAt.getD 0) + 1000)
    fin (s.setPin pin fun p => { p with pulsing := false, riseAt := s.now })
  else .next s

/-- 02 R65: a pin whose busy cause has ended rises once it has been low for 2 µs. -/
def execBusyPeriodMinEnd (pin : Fin 5) (s : State) : Out :=
  let p := s.pin pin
  if p.level || s.pinBusy pin then .next s else fin (s.passTo (p.fallAt + 2000))

/-- A read returns a word and clears its RC fields (00 R5). -/
def State.readClear (s : State) (m : Mst) (r : Reg) : State := (s.answer m (s.get r)).set r (accReadClear r (s.get r))

/-- 02 R66: a read of PIE_ATTN returns and clears the pending causes. -/
def execPieAttnRead (m : Mst) (s : State) : Out := regReadRow m 0x830 (fun s => s.readClear m .pieAttn) s

/-- 02 R66: a read of HPT_ATTN returns and clears the pending causes. -/
def execHptAttnRead (m : Mst) (n : Fin 4) (s : State) : Out :=
  regReadRow m (0x100018 + 0x40000 * n.val) (fun s => s.readClear m (.hptAttn n)) s

end Sys2Proof.Machine
end

