-- ==== Sys2Proof/Machine/Units.lean ====
section
/-! DEFINITION. The unit operations of an engine context (05 R162 to R175): brush, q, pkt, match, mix, tm and
cnt; and the commands of their ends. -/

namespace Sys2Proof.Machine

/-- The result of a unit operation; DENIED raises ENG_DENIED (05 R162, R163). -/
def State.ures (s : State) (c : Nat) (d : GReg) (value status : Nat) : Out :=
  let s := if status = US.denied then s.raise (Src.ENG_DENIED (ctxIsl c)) (ctxArg c) else s
  fin (s.res c d (unitWord value status))

/-- A palette range of `n` bytes that a register names, of which `r` are read (05 R162, R148, R149, 06 R203): 8 B
alignment, the palette, the User region; a word that is read traps MEMORY when it is uncorrectable. -/
def State.desc (s : State) (c : Nat) (d : GReg) (x n r : Nat) (f : Nat → Out) : Out :=
  if x % 8 ≠ 0 then fin (s.trap c TC.misaligned x)
  else if 65536 ≤ x then (if s.isUser c then s.ures c d 0 US.denied else fin (s.trap c TC.address x))
  else
    match s.palAddr c x n with
    | .pal key =>
      if s.palBad key r then
        fin (((s.palFound key r (some c)).raise (Src.PAL_UNCORR (ctxIsl c)) (ctxArg c)).trap c TC.memory x)
      else f key
    | .denied _ => s.ures c d 0 US.denied
    | _ => fin (s.trap c TC.address x)

/-! ## brush (05 R164 to R166) -/

/-- The brush master of a context (15 R479). -/
def brushMst (c : Nat) : Mst := ctxMst c + 0x1000

/-- An end of a brush: 0 allowed, or a status byte. Space 4 without a built packet and space 3 without a packet still to be
handled are BADARG: DESIGN CHOICE, 05 R164 and R165 name neither (notes/assumptions/65.md). -/
def State.brushEndOk (s : State) (c sp a len func : Nat) (k : AccKind) : State × Nat :=
  match sp with
  | 0 =>
    match s.palAddr c a len with
    | .pal _ => (s, US.ok)
    | .denied _ => (s, US.denied)
    | _ => (s, US.badarg)
  | 1 =>
    if a < 0x1000000000000 ∨ 0x1000400000000 < a + len then (s, US.badarg)
    else if s.isUser c && !s.inAlloc (s.rd (F.ctxCfg_TENANT c)) (a - 0x1000000000000) len then (s, US.denied)
    else match s.gate (brushMst c) (a - 0x1000000000000) len k with
      | (s, true) => (s, US.ok)
      | (s, false) => (s, US.denied)
  | 2 => if s.isUser c && (isPf func || !s.fnServes func (s.rd (F.ctxCfg_TENANT c))) then (s, US.denied) else (s, US.ok)
  | 3 =>
    if a + len ≤ 2048 && k == .read && (match (s.ctx c).inb with | some e => e.pkt.isSome && !(s.ctx c).handled | none => false)
    then (s, US.ok) else (s, US.badarg)
  | _ => if a + len ≤ 2048 && k == .write && sp == 4 && (s.ctx c).outPkt.isSome then (s, US.ok) else (s, US.badarg)

/-- A brush is accepted, refused, or stalls as a 17th (05 R165): it issues again once one has finished, so its issue is undone
(`s0` is the state before it). Reserved bits of the descriptor that are not zero are BADARG: DESIGN CHOICE, R164 only calls them
reserved (notes/assumptions/73.md). -/
def State.brushStart (s0 s : State) (c : CtxNum) (d : GReg) (key : Nat) (fill : Option Word) : Out :=
  let src := (s.palWord key 0).toNat
  let dst := (s.palWord key 1).toNat
  let w := s.palWord key 2
  let len := brLen w
  let fmt := brRes w == 0 && decide (len ≤ 16777216) && decide (brDstSp w ≠ 3)
    && (match fill with | some _ => len % 8 == 0 | none => decide (brSrcSp w ≤ 3))
  if !fmt then s.ures c d 0 US.badarg
  else
    let (s, a) := match fill with
      | some _ => (s, US.ok)
      | none => s.brushEndOk c (brSrcSp w) src len (brFunc w) .read
    let (s, b) := if a = US.ok then s.brushEndOk c (brDstSp w) dst len (brFunc w) .write else (s, a)
    if b ≠ US.ok then s.ures c d 0 b
    else if 16 ≤ (s.ctx c).brushes.length then .next (s0.setCtx c fun x => { x with stall := .brushes })
    else
      let br : Brush := { id := s.nextId, fill := fill, src := src, dst := dst, desc := w, tag := s.palWord key 3 }
      ((s.setCtx c fun x => { x with brushes := x.brushes ++ [br] }).takeId).ures c d 0 US.ok

/-- 05 R165 brush.copy. -/
def execBrushCopy (c : CtxNum) (d a b : GReg) (s : State) : Out :=
  let _ := b
  s.insnAt (insnWord (.brushCopy c d a b)) c fun s0 s =>
    s.desc c d (s.gv c a).toNat 32 32 fun key => s0.brushStart s c d key none

/-- 05 R165 brush.fill. -/
def execBrushFill (c : CtxNum) (d a b : GReg) (s : State) : Out :=
  s.insnAt (insnWord (.brushFill c d a b)) c fun s0 s =>
    s.desc c d (s.gv c a).toNat 32 32 fun key => s0.brushStart s c d key (some (s.gv c b))

/-- The value of brush.drain: the failures since the last one. -/
def State.drained (s : State) (c : Nat) (d : Nat) : State :=
  let n := (s.ctx c).failed
  let s := s.setCtx c fun x => { x with failed := 0, stall := .none }
  (s.setG c d (unitWord n US.ok)).adv c

/-- 05 R165 brush.drain. -/
def execBrushDrain (c : CtxNum) (d a b : GReg) (s : State) : Out :=
  let _ := (a, b)
  s.insn (.brushDrain c d a b) c fun s =>
    if (s.ctx c).brushes.all (·.quiet) then .next (s.drained c d)
    else .next (s.setCtx c fun x => { x with stall := .drain d })

/-- The bytes that a brush reads, with whether a word or line was uncorrectable. From space 3 it copies what the packet
holds, fewer than LEN past its end: DESIGN CHOICE (notes/assumptions/65.md). -/
def State.brushSource (s : State) (c : Nat) (b : Brush) (host : List Byte) : State × List Byte × Bool :=
  let len := brLen b.desc
  match b.fill with
  | some p => (s, (List.replicate (len / 8) (bytesOf 8 p.toNat)).flatten, false)
  | none =>
    match brSrcSp b.desc with
    | 0 =>
      match s.palAddr c b.src len with
      | .pal key =>
        (if s.palBad key len then s.palFound key len (some c) else s.palCheck key len, s.palRead key len, s.palBad key len)
      | _ => (s, [], true)
    | 1 => s.devRead (b.src - 0x1000000000000) len
    | 2 => (s.cxlTouch (brFunc b.desc) b.src len, host.take len, false)
    | _ => (s, (((((s.ctx c).inb.bind (·.pkt)).map (·.payload)).getD []).drop b.src).take len, false)

/-- The bytes that a brush writes. A byte of space 4 between the end of the payload and the offset is 0 until a brush writes
it: DESIGN CHOICE; none beyond LEN of the built header leaves (notes/assumptions/65.md). -/
def State.brushDest (s : State) (c : Nat) (b : Brush) (bs : List Byte) : State :=
  if bs = [] then s
  else
    match brDstSp b.desc with
    | 0 =>
      match s.palAddr c b.dst bs.length with
      | .pal key => s.palWrite key bs
      | _ => s
    | 1 => s.devWrite (b.dst - 0x1000000000000) bs
    | 2 => s.dma (.hostWrite (brFunc b.desc) b.dst bs)
    | _ => s.setCtx c fun x =>
        { x with outPkt := x.outPkt.map fun p =>
            { p with payload := p.payload.take b.dst ++ List.replicate (b.dst - p.payload.length) 0 ++ bs
                ++ p.payload.drop (b.dst + bs.length) } }

/-- The bytes that a device end of a brush reaches before unbacked offsets (14 R460). -/
def brushReach (sp a len : Nat) : Nat := if sp = 1 then min len (backedEnd - (a - 0x1000000000000)) else len

/-- How a brush ends: one that makes an access to an unbacked offset fails there, with what its host source gave (05 R165,
14 R460). -/
def Brush.ending (b : Brush) (e : BrushEnd) : BrushEnd :=
  let len := brLen b.desc
  let reach := min (if b.fill.isSome then len else brushReach (brSrcSp b.desc) b.src len) (brushReach (brDstSp b.desc) b.dst len)
  match e with
  | .done host => if reach < len then .failed reach host else .done host
  | .failed n host => .failed (min n reach) host

/-- A host read of a brush fails (03 R103): only the end that the host gives shows it, and only before an unbacked offset ends the
brush. -/
def State.brushHost (s : State) (b : Brush) (e : BrushEnd) : State :=
  match e with
  | .done _ => s
  | .failed n _ =>
    if b.fill.isNone && brSrcSp b.desc == 2 && decide (n < brushReach (brDstSp b.desc) b.dst (brLen b.desc)) then
      s.pcieBad (brFunc b.desc) (b.src + n)
    else s

/-- 05 R165: a brush ends: whole, or after `written` bytes; its event, its failure, and a waiting brush.drain. One with a source word
or line that cannot be read has written nothing: DESIGN CHOICE, R165 says only that it writes no further bytes
(notes/assumptions/73.md). -/
def execBrushFinish (c : CtxNum) (id : Nat) (e : BrushEnd) (s : State) : Out :=
  match (s.ctx c).brushes.find? (·.id == id) with
  | none => .next s
  | some b =>
    let s := s.setCtx c fun x => { x with brushes := x.brushes.filter (·.id ≠ id) }
    let s := s.brushHost b e
    let e := b.ending e
    let (s, bs, bad) := match e with
      | .done host => s.brushSource c b host
      | .failed n host =>
        let (s, bs, lost) := s.brushSource c b host
        (s, if lost then [] else bs.take n, true)
    let whole := match e with | .done _ => true | .failed .. => false
    let out := if bad && whole then [] else bs
    let s := s.brushDest c b out
    let s :=
      if b.quiet then s
      else
        let s := if bad then s.setCtx c fun x => { x with failed := x.failed + 1 } else s
        if brEv b.desc then
          s.postTargeted c { entry := 18, cls := 9, arg0 := b.tag, arg1 := bit1 bad, arg2 := BitVec.ofNat 64 out.length }
        else if bad then
          s.postTargeted c { entry := 20, cls := 11, arg0 := 1, arg1 := b.tag, arg2 := BitVec.ofNat 64 out.length }
        else s
    match (s.ctx c).stall with
    | .drain d => fin (if (s.ctx c).brushes.all (·.quiet) then s.drained c d else s)
    | _ => fin s

/-! ## q (05 R167, R168) -/

/-- A queue operation names a queue of the context's rights: its tenant's for a User context (06 R204). -/
def State.qRight (s : State) (c q : Nat) : Bool := !s.isUser c || s.rd (F.qctx_TENANT q) == s.rd (F.ctxCfg_TENANT c)

/-- The entry at the consumer index of a ring, as read from host memory or, for queue 0, device memory. -/
def State.ringEntry (s : State) (q : Nat) (src : Fetched) : State × Option Octet :=
  if q = 0 then
    let (s, bs, bad) := s.devRead (s.slotAddr 0 (s.rd (F.qctx_CI 0)) 64) 64
    (s, if bad then none else some (Octet.ofByteList bs))
  else match src with
    | .data bs => (s, some (Octet.ofByteList bs))
    | .failed _ => (s, none)

/-- A ring read fails (03 R103). Queues 0 and 1 belong to no function, so that no host port's source tells of them: DESIGN CHOICE
(notes/assumptions/72.md). -/
def State.ringFault (s : State) (q iova : Nat) : State :=
  let s := s.queueError q (BitVec.ofNat 64 iova)
  if q < 2 then s
  else s.raise (Src.HPT_RING_FAULT (s.qFunc q / 256)) { addr := iova, master := 0x7000, atype := 8, unit := q }

/-- A malformed receive-post entry is taken and completes MALFORMED on a slot it reserves (03 R106). -/
def State.recvMalformed (s : State) (q idx : Nat) (e : Octet) (why : Nat) : State :=
  let s := ((s.count (F.qctx_MALCOUNT q)).wr (F.qctx_LASTREASON q) why).reserve (s.rd (F.qctx_CQ q))
  let t : Taken := { id := 0, idx := idx, entry := e }
  s.complete (s.rd (F.qctx_CQ q)) 1 (workCompletion q 1 t { status := ST.malformed, reason := why } true) true

/-- The next entry of a ring is taken by a sketch: the entry at index `idx` joins the taken ones; that of a receive-post ring
holds no completion slot (03 R89). -/
def State.popTaken (s : State) (q idx : Nat) (e : Octet) (slot : Bool) : State :=
  let t : Taken := { id := s.nextId, idx := idx, entry := e, started := true, slot := slot, popped := true }
  if slot then s.pushTaken q t else (s.setQue q fun v => { v with taken := v.taken ++ [t] }).takeId

/-- 05 R167 q.pop. DESIGN CHOICE: NORESV while the work ring is STALLED or its completion ring is not ACTIVE, FULL while the
matching context of a receive-post ring has no free entry, EMPTY while the ring is not served for another cause; the rule
names the empty ring and the full completion ring only (notes/assumptions/45.md). After a malformed entry and after a failed
ring read, which give the sketch no entry, EMPTY: DESIGN CHOICE (notes/assumptions/65.md). -/
def execQPop (c : CtxNum) (d a b : GReg) (src : Fetched) (s : State) : Out :=
  s.insn (.qPop c d a b src) c fun s =>
    let x := (s.gv c a).toNat
    let q := x % 1048576
    if x ≠ q ∨ 2 ≤ s.rd (F.qctx_TYPE q) then s.ures c d 0 US.badarg
    else if !s.qRight c q then s.ures c d 0 US.denied
    else s.desc c d (s.gv c b).toNat 64 0 fun key =>
      let idx := s.rd (F.qctx_CI q)
      let work := s.rd (F.qctx_TYPE q) == 0
      if s.qDepth q == 0 then s.ures c d 0 US.empty
      else if work && s.qState q == QS.stalled then s.ures c d 0 US.noresv
      else if !s.serves q then s.ures c d 0 US.empty
      else if work && !s.cqActive q then (s.closeOpen q).ures c d 0 US.noresv
      else if work && !s.cqRoom q then (s.stallRing q).ures c d 0 US.noresv
      else if !work && !s.postFree (s.rd (F.qctx_MCTX q)) then s.ures c d 0 US.full
      else
        match s.ringEntry q src with
        | (s, none) => (s.ringFault q (s.slotAddr q idx 64)).ures c d 0 US.empty
        | (s, some e) =>
          if work then
            let s := (s.reserve (s.rd (F.qctx_CQ q))).advanceCi q
            match s.malReason q e none with
            | some why => (s.takeMalformed q { id := 0, idx := idx, entry := e } why).ures c d 0 US.empty
            | none => ((s.popTaken q idx e true).palWrite key e.toByteList).ures c d idx US.ok
          else
            match recvReason e with
            | some why =>
              if s.cqRoom q && s.cqActive q then ((s.advanceCi q).recvMalformed q idx e why).ures c d 0 US.empty
              else s.ures c d 0 US.noresv
            | none => (((s.advanceCi q).popTaken q idx e false).palWrite key e.toByteList).ures c d idx US.ok

/-- 05 R167 q.push. To an event ring that is not ACTIVE the entry is discarded and the answer is OK; BADARG goes before DENIED:
DESIGN CHOICE (notes/assumptions/65.md). -/
def execQPush (c : CtxNum) (d a b : GReg) (s : State) : Out :=
  s.insn (.qPush c d a b) c fun s =>
    let x := (s.gv c a).toNat
    let q := x % 1048576
    if x ≠ q ∨ s.rd (F.qctx_TYPE q) ≠ 3 then s.ures c d 0 US.badarg
    else if !s.qRight c q then s.ures c d 0 US.denied
    else s.desc c d (s.gv c b).toNat 32 32 fun key =>
      let full := s.qState q == QS.active && s.qDepth q == 2 ^ s.qLog q
      let e : Quad := ⟨s.palWord key 0, s.palWord key 1, s.palWord key 2, setBits (s.palWord key 3) 63 63 0⟩
      (s.postEntry q e).ures c d 0 (if full then US.full else US.ok)

/-- A completion of a sketch with STATUS MALFORMED counts in MALCOUNT, and LASTREASON is its reason (03 R82). -/
def State.malCount (s : State) (q : Nat) (t : Taken) (r : Result) : State :=
  if r.status = ST.malformed ∧ t.stale = false then (s.count (F.qctx_MALCOUNT q)).wr (F.qctx_LASTREASON q) r.reason else s

/-- 05 R168 q.complete; an entry of a receive-post ring that holds no slot takes one now, and returns NORESV where there is
none (notes/assumptions/45.md). -/
def execQComplete (c : CtxNum) (d a b : GReg) (s : State) : Out :=
  s.insn (.qComplete c d a b) c fun s =>
    let x := (s.gv c a).toNat
    let q := x % 1048576
    if x ≠ q then s.ures c d 0 US.badarg
    else if !s.qRight c q then s.ures c d 0 US.denied
    else s.desc c d (s.gv c b).toNat 24 24 fun key =>
      let w0 := s.palWord key 0
      let w2 := s.palWord key 2
      let ok := bits w0 47 21 == 0 && bits w2 63 52 == 0
      match (s.que q).taken.find? fun t => t.idx == bits w0 20 0 && t.res.isNone with
      | some t =>
        if !ok then s.ures c d 0 US.badarg
        else
          let r : Result := { status := bits w0 63 56, reason := bits w0 55 48, result := s.palWord key 1
                              peer := bits w2 51 32, bytes := bits w2 31 0 }
          if s.rd (F.qctx_TYPE q) = 1 then
            if !t.slot && !t.stale && s.cqActive q && !s.cqRoom q then s.ures c d 0 US.noresv
            else
              let s := s.setQue q fun v => { v with taken := v.taken.filter (·.id ≠ t.id) }
              let s := if t.slot || t.stale then s else s.reserve (s.rd (F.qctx_CQ q))
              let sol := t.entry.get W.solicit == 1 || r.status != ST.ok
              if t.stale then s.ures c d 0 US.ok
              else ((s.malCount q t r).complete (s.rd (F.qctx_CQ q)) 1 (workCompletion q 1 t r sol) sol).ures c d 0 US.ok
          else ((s.malCount q t r).finishEntry q t.id r).ures c d 0 US.ok
      | none => s.ures c d 0 US.badarg

/-- 05 R167 q.bell: queues 0 and 1 at Firmware privilege only (03 R69). A doorbell to a DISABLED queue is discarded and counted
under 02 R34 at the host port of the context's islands and answered OK: DESIGN CHOICE (notes/assumptions/28.md). -/
def execQBell (c : CtxNum) (d a : GReg) (s : State) : Out :=
  s.insn (.qBell c d a) c fun s =>
    let w := s.gv c a
    let q := dbQueue w
    if bits w 63 41 ≠ 0 then s.ures c d 0 US.badarg
    else if q < 2 ∧ s.priv (ctxMst c) < 3 then s.ures c d 0 US.denied
    else if !s.qRight c q then s.ures c d 0 US.denied
    else if s.qState q = QS.disabled then (s.dbRefused (ctxIsl c / 4) (ctxMst c).toNat).ures c d 0 US.ok
    else (s.bell q (dbIndex w)).1.ures c d 0 US.ok

/-! ## pkt (05 R169 to R171) -/

/-- The header window h0 to h7. -/
def State.window (s : State) (c : Nat) : Octet :=
  ⟨s.get (.h c 0), s.get (.h c 1), s.get (.h c 2), s.get (.h c 3), s.get (.h c 4), s.get (.h c 5), s.get (.h c 6),
   s.get (.h c 7)⟩

/-- 05 R169 pkt.build: without a payload address the payload holds no stated bytes until a brush writes it. -/
def execPktBuild (c : CtxNum) (d a b : GReg) (s : State) : Out :=
  let _ := b
  s.insn (.pktBuild c d a b) c fun s =>
    let x := s.gv c a
    let h := s.window c
    let n := h.get H.len
    if 2048 < n then s.ures c d 0 US.badarg
    else if x = BitVec.allOnes 64 then
      let p : Packet := { hdr := h, payload := (List.range n).map fun i => Config.freeByte (s.free + i), trailer := [] }
      ((s.setCtx c fun y => { y with outPkt := some p }).drawn).ures c d 0 US.ok
    else s.desc c d x.toNat n n fun key =>
      (s.setCtx c fun y => { y with outPkt := some { hdr := h, payload := s.palRead key n, trailer := [] } }).ures c d 0 US.ok

/-- The packet of a User context carries its tenant and endpoint (05 R170). -/
def State.userStamp (s : State) (c : Nat) (p : Packet) : Packet :=
  if s.isUser c then
    (p.set H.tenant (s.rd (F.ctxCfg_TENANT c))).set H.src (s.endpoint (ctxIsl c / 4))
  else p

/-- A packet of a User context names only what its sandbox allows (05 R170, 06 R204). -/
def State.sandboxOk (s : State) (c : Nat) (p : Packet) : Bool :=
  if s.isUser c then
    let t := s.rd (F.ctxCfg_TENANT c)
    let n := p.get H.conn
    let pt := p.get H.ptype
    decide (pt ≠ PT.mgmt)
      && (!ptOnConn pt || (s.connState n != CS.free && s.rd (F.conn_TENANT n) == t && s.rd (F.conn_PEER n) == p.get H.dst))
      && (!ptTree pt || s.rd (F.tree_TENANT (p.get H.tree)) == t)
      && (!(s.here (p.get H.dst) && (pt == PT.put || pt == PT.getReq || pt == PT.atomReq))
          || s.rd (F.cvs_TENANT (p.get H.ckey % 1048576)) == t)
  else true

/-- The oldest entry that a sketch has taken and not completed, whose GET or ATOMIC asks for what a packet asks for and has not
been sent before. -/
def State.sketchEntry (s : State) (n op : Nat) (p : Packet) : Option (Nat × Taken) :=
  (s.queues.flatMap fun v => v.2.taken.map fun t => (v.1, t)).foldl
    (fun o x =>
      let e := x.2.entry
      let fits := x.2.res.isNone && x.2.started && !x.2.asked && e.get W.opcode == op && e.get W.conn == n
        && e.get W.rkey == p.get H.ckey && e.get W.roffset == p.get H.offset && s.sketchServed x.1
      if !fits then o
      else match o with
        | some y => if y.2.id < x.2.id then o else some x
        | none => some x) none

/-- What a connection packet records when it is sent by a sketch (07 R224, 08 R271): a rendezvous read the buffer of the
receive bound under its key, another GET or ATOMIC the range of the entry that the sketch serves (DEDUCED,
notes/assumptions/46.md). -/
def State.sketchReq (s : State) (n : Nat) (p : Packet) : Option Outst :=
  let pt := p.get H.ptype
  let want := p.get H.tag % 33554432
  let entry (op len : Nat) : Option Outst :=
    match s.sketchEntry n op p with
    | some (q, t) =>
      some { seq := 0, ptype := pt, laddr := t.entry.get W.laddr, len := t.entry.get W.len, want := len
             func := s.qFunc q, devmem := t.entry.get W.devmem == 1 }
    | none => some { seq := 0, ptype := pt, want := len }
  if pt = PT.getReq then
    match s.mtch.bounds.find? fun b => b.rts && b.conn == some n && b.key == p.get H.ckey with
    | some b => some { seq := 0, ptype := pt, laddr := (b.post.entry.w2).toNat, len := b.len, want := want
                       func := s.qFunc b.post.rq, devmem := b.post.entry.get W.devmem == 1, recv := some b.id }
    | none => entry 2 want
  else if pt = PT.atomReq then entry 3 8
  else if pt = PT.flushReq then some { seq := 0, ptype := pt }
  else none

/-- The entry whose request a packet of a sketch is has been sent (07 R224). -/
def State.sketchAsked (s : State) (n : Nat) (p : Packet) : State :=
  let rts := s.mtch.bounds.any fun b => b.rts && b.conn == some n && b.key == p.get H.ckey
  let e := if p.get H.ptype = PT.getReq ∧ rts = false then s.sketchEntry n 2 p else if p.get H.ptype = PT.atomReq then s.sketchEntry n 3 p else none
  match e with
  | some (q, t) => s.setQue q fun v => { v with taken := v.taken.map fun x => if x.id = t.id then { x with asked := true } else x }
  | none => s

/-- A packet leaves from an engine: a connection packet through the connection unit (07 R221), which gives it the fields of
the connection that CONN names at this device (notes/assumptions/46.md); any other sealed by its CRC, with its reserved
bits zero (01 R22) and a management packet to a device (01 R24). -/
def State.engineSend (s : State) (p : Packet) (id : Nat) : State :=
  let pt := p.get H.ptype
  let n := p.get H.conn
  if pt = PT.ack ∨ pt = PT.nack then s.ctlLeaves n p (some id)
  else if ptOnConn pt then
    (s.sketchAsked n p).txHand n { pkt := { p with hdr := s.connFields n p.hdr }, req := s.sketchReq n p, sender := some id }
  else
    let h := p.hdr.plain
    let h := if pt = PT.mgmt then h.set H.dst (h.get H.dst / 4 * 4) else h
    s.launch ({ p with hdr := h } : Packet).withCrc none (s.pairOpen p) (some id)

/-- pkt.send and pkt.fwd stall until the island switch has reserved room for the whole packet, number `s.nextId` (05 R169, 01
R13); they return OK then. -/
def State.roomStall (s : State) (c : Nat) (d : GReg) : State := (s.setCtx c fun x => { x with stall := .room d s.nextId }).takeId

/-- 05 R169, R170 pkt.send: the header as built, with as many bytes of the buffer as its LEN says. BADARG also for E2E 0b10
without a connection, a connection neither ACTIVE nor REKEYING and a payload above its limit: DESIGN CHOICE
(notes/assumptions/65.md). -/
def execPktSend (c : CtxNum) (d a b : GReg) (s : State) : Out :=
  let _ := (a, b)
  s.insnAt (insnWord (.pktSend c d a b)) c fun s0 s =>
    match (s.ctx c).outPkt with
    | none => s.ures c d 0 US.badarg
    | some p =>
      let p := s.userStamp c p
      let p := { p with payload := p.payload.take (p.get H.len) }
      let pt := p.get H.ptype
      let n := p.get H.conn
      let live := s.connState n == CS.active || s.connState n == CS.rekeying
      let bad := if ptOnConn pt then !live || decide (s.connP n < p.payload.length) else p.get H.e2e == 2
      if !s.sandboxOk c p then s.ures c d 0 US.denied
      else if !headerOk p.hdr || bad then s.ures c d 0 US.badarg
      else if s.drainHolds p then .next (s0.setCtx c fun x => { x with stall := .drained })
      else fin (((s.setCtx c fun x => { x with outPkt := none }).roomStall c d).engineSend p s.nextId)

/-- 05 R169 pkt.fwd: the inbound packet goes on with the header of the window; a tree packet that descends goes to every
child that is not pruned (09 R299). A packet with E2E 0b10 carries the trailer it arrived with: DESIGN CHOICE, the rule names
the header and the payload only (notes/assumptions/44.md). -/
def execPktFwd (c : CtxNum) (d a b : GReg) (s : State) : Out :=
  let _ := (a, b)
  s.insnAt (insnWord (.pktFwd c d a b)) c fun s0 s =>
    if s.isUser c then s.ures c d 0 US.denied
    else
      match (s.ctx c).inb.bind fun e => if e.late.isSome then none else e.pkt with
      | none => s.ures c d 0 US.badarg
      | some q =>
        let p : Packet := { q with hdr := s.window c }
        let p := if p.get H.e2e = 2 then p else p.withCrc
        let pt := p.get H.ptype
        if (s.ctx c).handled || !headerOk p.hdr || !p.whole then s.ures c d 0 US.badarg
        else if s.drainHolds p then .next (s0.setCtx c fun x => { x with stall := .drained })
        else
          let t := (s.setCtx c fun x => { x with handled := true }).roomStall c d
          fin (if pt = PT.mixDown ∨ pt = PT.mcast then t.relay p (some s.nextId) else t.launch p none (t.pairOpen p) (some s.nextId))

/-- 05 R169 pkt.drop: counted by reason, and reported (06 R200, 08 R274). -/
def execPktDrop (c : CtxNum) (d a b : GReg) (s : State) : Out :=
  let _ := b
  s.insn (.pktDrop c d a b) c fun s =>
    let r := (s.gv c a).toNat % 256
    if (s.ctx c).inb.isNone || (s.ctx c).handled then s.ures c d 0 US.badarg
    else
      let s := s.count (F.dropCnt_COUNT (ctxIsl c) r)
      (s.ctxReport c (if r = 0 then .consumed else .refused r)).ures c d 0 US.ok

/-! ## match (05 R172, 08 R277, R278) -/

/-- A matching context that the sketch may name: its tenant's for a User sketch (06 R204, 08 R251). -/
def State.mctxRight (s : State) (c m : Nat) : Bool := !s.isUser c || s.rd (F.mtc_TENANT m) == s.rd (F.ctxCfg_TENANT c)

/-- The outcome record of match.post (08 R278). -/
def outcomeRec (u : Unexp) : List Byte :=
  let len := if u.rts then u.hdr.get H.offset else u.stored
  bytesOf 8 (u.rts.toNat * 2 ^ 62 + (u.complete || u.rts).toNat * 2 ^ 61 + u.u % 2 ^ 18) ++ bytesOf 8 u.hdr.w5.toNat
    ++ bytesOf 8 (u.hdr.get H.src) ++ bytesOf 8 (len % 2 ^ 25)

/-- A receive that a sketch posts under the index of an entry it has popped is no longer one it has to complete. -/
def State.popPosted (s : State) (q idx : Nat) : State :=
  match (s.que q).taken.find? fun t => t.idx == idx && !t.slot && t.res.isNone with
  | some t => s.setQue q fun v => { v with taken := v.taken.filter (·.id ≠ t.id) }
  | none => s

/-- The entry of match.post is one of 03 R88, apart from words 6 and 7, which name its ring and index (08 R278). -/
def postEntryOk (e : Octet) : Bool :=
  (recvReason ((e.setWord 6 0).setWord 7 0)).isNone && bits e.w6 63 20 == 0 && bits e.w7 63 21 == 0

/-- 05 R172, 08 R278 match.post. A ring that 08 R254 does not let post into the context is counted in UNBOUND once and answered
BADARG (notes/assumptions/47.md). -/
def execMatchPost (c : CtxNum) (d a b : GReg) (s : State) : Out :=
  s.insn (.matchPost c d a b) c fun s =>
    let m := (s.gv c b).toNat % 65536
    s.desc c d (s.gv c a).toNat 96 64 fun key =>
      let e := Octet.ofByteList (s.palRead key 64)
      let rq := e.get RP.rq
      if !s.mctxRight c m || !s.qRight c rq then s.ures c d 0 US.denied
      else if !postEntryOk e || !s.mtcActive m then s.ures c d 0 US.badarg
      else if s.rd (F.qctx_TYPE rq) ≠ 1 ∨ s.qState rq = QS.disabled then s.ures c d 0 US.badarg
      else if !s.ringBound rq || s.rd (F.qctx_MCTX rq) != m then (s.unboundOnce rq).ures c d 0 US.badarg
      else
        match s.firstUnexp m e with
        | some u =>
          if s.ordStalled m || !s.postFree m || !s.cqActive rq || !s.cqRoom rq then s.ures c d 0 US.full
          else
            (((s.popPosted rq (e.get RP.ridx)).postRecv rq (e.get RP.ridx) m e).palWrite (key + 64) (outcomeRec u)).ures c d 0 US.hit
        | none =>
          if s.ordStalled m || !s.postFree m then s.ures c d 0 US.full
          else ((s.popPosted rq (e.get RP.ridx)).postRecv rq (e.get RP.ridx) m e).ures c d 0 US.ok

/-- The winner for a key record in the palette. -/
def State.keyWinner (s : State) (key : Nat) : Option Post :=
  s.winner (bits (s.palWord key 0) 47 32) (bits (s.palWord key 0) 19 0) (s.palWord key 1)

/-- 05 R172 match.probe. -/
def execMatchProbe (c : CtxNum) (d a b : GReg) (s : State) : Out :=
  let _ := b
  s.insn (.matchProbe c d a b) c fun s => s.desc c d (s.gv c a).toNat 32 32 fun key =>
    if !s.mctxRight c (bits (s.palWord key 0) 47 32) then s.ures c d 0 US.denied
    else match s.keyWinner key with
      | some p => s.ures c d p.ord US.hit
      | none => s.ures c d 0 US.nomatch

/-- 05 R172 match.take. -/
def execMatchTake (c : CtxNum) (d a b : GReg) (s : State) : Out :=
  s.insn (.matchTake c d a b) c fun s => s.desc c d (s.gv c a).toNat 32 32 fun key => s.desc c d (s.gv c b).toNat 64 0 fun dst =>
    let m := bits (s.palWord key 0) 47 32
    if !s.mctxRight c m then s.ures c d 0 US.denied
    else match s.keyWinner key with
      | none => s.ures c d 0 US.nomatch
      | some p =>
        if !s.cqRoom p.rq then s.ures c d p.ord US.full
        else
          let s := ((s.unpost p).reserve (s.rd (F.qctx_CQ p.rq))).stallClear m
          let s := s.pushTaken p.rq { id := 0, idx := p.ridx, entry := p.entry, started := true }
          let e := (p.entry.set RP.rq p.rq).set RP.ridx p.ridx
          (s.palWrite dst e.toByteList).ures c d p.ord US.hit

/-! ## mix (05 R173, 09 R291) -/

/-- The KIND of an instance as the entries that joined it, or else the inputs of children, have it; REDUCE while none has (09 R291). -/
def State.instKind (s : State) (t inst : Nat) : Nat :=
  match (s.tr t).contribs.find? fun (z : Contrib) => z.inst == inst && (match z.who with | .entry _ _ => true | _ => false) with
  | some z => z.coll.kind
  | none => match s.inst t inst false with | some x => if x.loose then 0 else x.coll.kind | none => 0

/-- 05 R173 mix.open. FULL also while a contribution that a ring gave earlier has not begun, so that contributions count in the
order of taking (09 R289; DESIGN CHOICE, notes/assumptions/53.md). -/
def execMixOpen (c : CtxNum) (d a b : GReg) (s : State) : Out :=
  s.insn (.mixOpen c d a b) c fun s =>
    let x := (s.gv c a).toNat
    let t := x % 16384
    let y := s.tr t
    let coll0 : Coll := { kind := 0, dtype := x / 2 ^ 20 % 16, op := x / 2 ^ 16 % 16 }
    let len := (s.gv c b).toNat * coll0.size
    let bad := x / 2 ^ 24 ≠ 0 ∨ x / 2 ^ 14 % 4 ≠ 0 ∨ 7 < coll0.dtype ∨ 5 < coll0.op ∨ (4 ≤ coll0.dtype ∧ 3 ≤ coll0.op)
      ∨ 16777216 < len
    if bad then s.ures c d 0 US.badarg
    else if s.isUser c && s.rd (F.tree_TENANT t) != s.rd (F.ctxCfg_TENANT c) then s.ures c d 0 US.denied
    else if !s.treeActive t then s.ures c d 0 US.badarg
    else if s.nLocal t = 0 ∨ 2 * s.nLocal t ≤ y.taken ∨ s.collPending t ≠ 0 then s.ures c d 0 US.full
    else
      let inst := (s.rd (F.tree_INST t) + y.taken / s.nLocal t) % 65536
      let h := s.nextId % 65536
      let z : Contrib := { who := .ctx c h, inst := inst, idx := y.taken % s.nLocal t, coll := coll0.asKind (s.instKind t inst)
                           len := len, closed := false }
      let s := (s.setTr t fun y => { y with taken := y.taken + 1, contribs := y.contribs ++ [z] }).takeId
      (s.treeGo t).ures c d h US.ok

/-- The tree and contribution of a handle. -/
def State.mixHandle (s : State) (c h : Nat) : Option (Nat × Contrib) :=
  s.trees.findSome? fun t => (t.2.contribs.find? fun z => z.who == .ctx c h).map fun z => (t.1, z)

/-- 05 R173 mix.feed: the next chunk, while the staging slots can take it. -/
def execMixFeed (c : CtxNum) (d a b : GReg) (s : State) : Out :=
  s.insn (.mixFeed c d a b) c fun s =>
    match s.mixHandle c (s.gv c a).toNat with
    | none => s.ures c d 0 US.badarg
    | some (t, z) =>
      let done := z.coll.perChunk * z.coll.size
      let j := (z.data.length + done - 1) / done
      let n := z.coll.elemsIn z.len j * z.coll.size
      if z.closed ∨ z.coll.chunks z.len ≤ j then s.ures c d 0 US.badarg
      else if !((s.chunkNum t z.inst j).any fun n => s.slotTakes t n) then s.ures c d 0 US.full
      else s.desc c d (s.gv c b).toNat n n fun key =>
        let bs := s.palRead key n
        let s := s.setTr t fun y =>
          { y with contribs := y.contribs.map fun x => if x.who = z.who then { x with data := x.data ++ bs } else x }
        (s.treeGo t).ures c d 0 US.ok

/-- 05 R173 mix.close. -/
def execMixClose (c : CtxNum) (d a b : GReg) (s : State) : Out :=
  let _ := b
  s.insn (.mixClose c d a b) c fun s =>
    match s.mixHandle c (s.gv c a).toNat with
    | none => s.ures c d 0 US.badarg
    | some (t, z) =>
      if z.closed ∨ (z.coll.data ∧ z.data.length < z.len) then s.ures c d 0 US.badarg
      else
        let s := s.setTr t fun y =>
          { y with contribs := y.contribs.map fun x => if x.who = z.who then { x with closed := true } else x }
        (s.treeGo t).ures c d 0 US.ok

/-! ## tm and cnt (05 R174, R175) -/

/-- 05 R174 tm.arm. -/
def execTmArm (c : CtxNum) (d a b : GReg) (s : State) : Out :=
  s.insn (.tmArm c d a b) c fun s =>
    let k := (s.gv c a).toNat % 8
    let due := s.tim + (s.gv c b).toNat % 2 ^ 40
    (s.setCtx c fun x => { x with timers := x.timers.put k due }).ures c d 0 US.ok

/-- 05 R174 tm.stop. -/
def execTmStop (c : CtxNum) (d a b : GReg) (s : State) : Out :=
  let _ := b
  s.insn (.tmStop c d a b) c fun s =>
    (s.setCtx c fun x => { x with timers := x.timers.del ((s.gv c a).toNat % 8) }).ures c d 0 US.ok

/-- The counter that a selector names (05 R175). -/
def State.cntSel (s : State) (c k : Nat) : Word :=
  if k = 0 then BitVec.ofNat 64 s.tim
  else if k = 0x20 then BitVec.ofNat 64 (s.ctx c).issued
  else if s.isUser c then 0
  else if k = 1 then s.cycles (ctxIsl c)
  else if 8 ≤ k ∧ k ≤ 15 then BitVec.ofNat 64 (s.rd (F.cntVal_VAL (ctxIsl c) (k - 8)))
  else if k = 0x10 then s.cycles 16
  else if 0x18 ≤ k ∧ k ≤ 0x1F then BitVec.ofNat 64 (s.rd (F.cntVal_VAL 16 (k - 0x18)))
  else 0

/-- 05 R175 cnt.rd: no status byte. -/
def execCntRd (c : CtxNum) (d a b : GReg) (s : State) : Out :=
  let _ := b
  s.insn (.cntRd c d a b) c fun s => .next (s.res c d (s.cntSel c ((s.gv c a).toNat % 256)))

/-- 05 R174: an armed timer fires at the first instant at which TIM_NOW has reached its time. -/
def execTimerFire (c : CtxNum) (t : Fin 8) (s : State) : Out :=
  match (s.ctx c).timers.find t with
  | none => .next s
  | some due =>
    let s := s.passTim due
    let s := s.setCtx c fun x => { x with timers := x.timers.del t }
    fin (s.postTargeted c { entry := 17, cls := 8, arg0 := BitVec.ofNat 64 t, arg1 := BitVec.ofNat 64 due })

end Sys2Proof.Machine
end

