-- ==== Sys2Proof/Machine/QueueRows.lean ====
section
/-! DEFINITION. The commands of queues and rings (03): the queue-context window, taking, completions, ring faults,
and Function Level Reset. -/

namespace Sys2Proof.Machine

/-! ## Activation and disabling (03 R73, R74) -/

/-- The bytes of a ring's entry by its type (03 R68). -/
def ringEntryBytes (type : Nat) : Nat := if type < 2 then 64 else 32

/-- BASE is aligned to the ring, or to 4 KiB when the ring is smaller (03 R76). -/
def State.baseAligned (s : State) (q : Nat) : Bool :=
  s.rd (F.qctx_BASE q) % max 4096 (2 ^ s.qLog q * ringEntryBytes (s.rd (F.qctx_TYPE q))) == 0

/-- A ring names an ACTIVE ring of a type with its FUNC; queues 0 and 1 belong to no function (03 R69). -/
def State.namesRing (s : State) (q r type : Nat) : Bool :=
  decide (2 ≤ r) && s.qState r == QS.active && s.rd (F.qctx_TYPE r) == type
    && s.rd (F.qctx_FUNC r) == s.rd (F.qctx_FUNC q)

/-- An activation of queue `q` is accepted (03 R73). -/
def State.queueOk (s : State) (q : Nat) : Bool :=
  let t := s.rd (F.qctx_TYPE q)
  let eq := s.rd (F.qctx_EQ q)
  decide (t ≤ 3) && decide (6 ≤ s.qLog q ∧ s.qLog q ≤ 20) && s.baseAligned q
    && (decide (q < 2)
      || ((decide (2 ≤ t) || s.namesRing q (s.rd (F.qctx_CQ q)) 2) && ((decide (t = 3) && eq == q) || s.namesRing q eq 3)))

/-- The sampling fields start anew (04 R130). HEADSINCE is not among them: a reset of a queue's sampling keeps it, and
an activation zeroes it, DESIGN CHOICE (notes/assumptions/38.md). -/
def State.samplingStart (s : State) (q : Nat) : State :=
  (((((s.set (.qctx q 8) (BitVec.ofNat 64 (2 ^ 21 - 1))).set (.qctx q 9) 0).set (.qctx q 10)
    (BitVec.ofNat 64 (2 ^ 32 - 1))).set (.qctx q 11) 0).set (.qctx q 13) 0).set (.qctx q 14) 0

/-- A queue becomes ACTIVE on its first pass (03 R73). What was taken before a Function Level Reset goes on, its packets
with it (R75). -/
def State.queueStart (s : State) (q : Nat) : State :=
  let s := ((s.set (.qctx q 2) 0).set (.qctx q 4) 0).set (.qctx q 5) 0
  let s := s.set (.qctx q 12) 0
  let s := (s.samplingStart q).setQue q fun v => { v with node := {}, ahead := none, smpReset := false }
  s.wr (F.qctx_STATE q) QS.active

/-- Posted receives of a ring that are not yet matched complete FLUSHED (03 R74); the fuel counts them. While the
completion ring is ACTIVE and full, the rest wait and hold the ring in DRAINING: DESIGN CHOICE, the spec reserves no slot
for them (notes/assumptions/35.md). -/
def State.flushPosts (q : Nat) : Nat → State → State
  | 0, s => s
  | k + 1, s =>
    match (s.mtch.posts.filter (·.rq == q)).foldl (fun o p => some (match o with | some x => olderPost x p | none => p)) none with
    | none => s
    | some p =>
      if s.cqActive q && !s.cqRoom q then s
      else
        let s := ((s.unpost p).stallClear p.mctx).reserve (s.rd (F.qctx_CQ q))
        State.flushPosts q k (s.recvComplete { id := 0, post := p, tag := 0, src := 0, conn := none } ST.flushed 0)

/-- Something taken from the ring has not completed. -/
def State.queueBusy (s : State) (q : Nat) : Bool :=
  !(s.que q).live.isEmpty || s.mtch.posts.any (·.rq == q) || s.mtch.bounds.any fun b => b.post.rq == q && !b.stale

/-- A completion is written; on the firmware control ring the warden answers the FWCTL commands it covers (10 R348). -/
def State.writeAnswered (s : State) (q : Nat) : State :=
  let t := s.writeCompletion q
  if q = 0 then t.fwctlAnswer ((s.que 0).taken.filter fun x => !(t.que 0).taken.any fun y => y.id == x.id) else t

/-- The draining of a queue goes on: posts are flushed, closed segments written, and it ends once nothing taken is
left (03 R74). -/
def State.drainGo (s : State) (q : Nat) : State :=
  if s.qState q = QS.draining then
    let s := State.flushPosts q (s.mtch.posts.length) s
    let s := s.writeAnswered q
    if s.queueBusy q then s else s.queueDisabled q
  else s

/-- STATE = DISABLED is written to a queue (03 R74). -/
def State.queueStop (s : State) (q : Nat) : State :=
  let st := s.qState q
  if st = QS.active ∨ st = QS.stalled ∨ st = QS.error then (s.wr (F.qctx_STATE q) QS.draining).drainGo q else s

/-- A write of a word of the selected queue context (03 R71, R73, R74). -/
def State.qcwPut (s : State) (m : Mst) (w : Nat) (v : Word) : State :=
  let q := s.selOf m .qcw
  let st := s.qState q
  if w ≠ 0 then (if st = QS.disabled then s.plainWrite (.qctx q w) v else s)
  else if st = QS.disabled then
    let s := s.plainWrite (.qctx q 0) (setBits v 59 57 0)
    if bits v 59 57 = 1 then
      if s.queueOk q then s.queueStart q else s.count F.qcwStat_REFUSED
    else s
  else if bits v 59 57 = 0 then s.queueStop q
  else s

/-- 03 R71: QCW_DATA is written. -/
def execQcwWrite (m : Mst) (w : Fin 16) (v : Word) (s : State) : Out :=
  regWriteRow m (0x1000080 + 8 * w.val) v (fun s v => s.qcwPut m w v) s

/-- 03 R73: STATE = ACTIVE is written to the selected queue. -/
def execQueueActivate (m : Mst) (v : Word) (s : State) : Out :=
  regWriteRow m 0x1000080 (setBits v 59 57 QS.active) (fun s v => s.qcwPut m 0 v) s

/-- 03 R74: STATE = DISABLED is written to the selected queue. -/
def execQueueDisable (m : Mst) (v : Word) (s : State) : Out :=
  regWriteRow m 0x1000080 (setBits v 59 57 QS.disabled) (fun s v => s.qcwPut m 0 v) s

/-- 03 R74: the last taken entry of a draining queue has completed. -/
def execQueueDrainEnd (q : QNum) (s : State) : Out := fin (s.drainGo q)

/-! ## Function Level Reset (03 R75, 02 R40) -/

/-- A queue of a function in reset: DISABLED; what it has taken goes on and its completions are discarded. -/
def State.flrQueue (s : State) (q : Nat) : State :=
  (s.wr (F.qctx_STATE q) QS.disabled).setQue q fun v =>
    { v with taken := (v.taken.filter fun t => t.res.isNone).map fun t => { t with stale := true } }

/-- A Function Level Reset begins. Posted receives that nothing has matched are withdrawn without a completion: DESIGN CHOICE, R75 lets
entries already taken keep running and gives withdrawal for no reset (notes/assumptions/72.md). It returns the function's PCI Express layer to its reset and keeps TSP_QSEL (DESIGN
CHOICE: 03 R72, R75 and 18 R562 do not name that register, notes/assumptions/34.md). -/
def State.flrBegin (s : State) (func : Nat) : State :=
  let p := func / 256
  let mine (q : Nat) : Bool := decide (2 ≤ q) && s.rd (F.qctx_FUNC q) == func
  let qs := ((s.regs.filterMap fun c => match c.1 with | .qctx q 0 => some q | _ => none).filter mine).filter
    fun q => decide (s.qState q ≠ QS.disabled)
  let s := qs.foldl (fun t q => t.flrQueue q) s
  let gone := s.mtch.posts.filter fun x => mine x.rq
  let s := gone.foldl (fun t x => (t.unpost x).stallClear x.mctx) s
  let s := s.setMtch fun x => { x with bounds := x.bounds.map fun b => if mine b.post.rq then { b with stale := true } else b }
  let s := { s with fns := s.fns.del func }
  let s := s.setHost p fun h =>
    let kept := h.easel.items.filter fun e => 256 * p + e.f != func
    { h with
      flr := if h.flr.contains (func % 256) then h.flr else (func % 256) :: h.flr
      asm := h.asm.filter fun a => 256 * p + a.f != func
      easel := { h.easel with items := kept, rp := (h.easel.wp + 1024 - kept.length) % 1024 } }
  let s := s.wmEval p ((s.host p).easel.depth 9)
  let s := s.clearSels fun k => k == func
  (s.semAbandon fun m => m == fnMst func).cohCancel fun r => r.req == fnMst func

/-- 03 R75: a Function Level Reset of a function. -/
def execFunctionLevelReset (p : Fin 4) (f : Fin 256) (s : State) : Out :=
  if s.inFlr (256 * p.val + f.val) || s.hostBusyBoot p then .next s else fin (s.flrBegin (256 * p.val + f.val))

/-- 03 R75: the Function Level Reset ends and the function accepts requests again; with function 0 a host port reset
started by GLB_RST ends (18 R568). -/
def execFlrEnd (p : Fin 4) (f : Fin 256) (s : State) : Out :=
  if s.inFlr (256 * p.val + f.val) then
    fin (s.setHost p fun h =>
      { h with flr := h.flr.filter (· ≠ f.val), resetting := h.resetting && decide (f.val ≠ 0) })
  else .next s

/-! ## Taking and completing (03 R91, R96, R97, R103) -/

/-- 03 R96, R97: the next entry of a work ring is taken, or the ring stalls, or its open segment closes behind a
completion ring that is not ACTIVE (R91). A queue context that cannot be read contains the queue (16 R511). -/
def execTakeWorkEntry (q : QNum) (e : Octet) (s : State) : Out :=
  if s.rd (F.qctx_TYPE q) ≠ 0 ∨ s.serves q = false ∨ s.qDepth q = 0 ∨ s.sketchServed q = true then .next s
  else
  let s := s.structSeen (queueLine q) 2
  if s.structLost (queueLine q) 2 then fin (s.structRaise Src.QCW_UNCORR (queueLine q) q)
  else if !s.cqActive q then fin (s.closeOpen q)
  else if !s.cqRoom q then fin (s.stallRing q)
  else
    let idx := s.rd (F.qctx_CI q)
    match s.ringEntry q (.data e.toByteList) with
    | (s, none) => fin (s.ringFault q (s.slotAddr q idx 64))
    | (s, some e) =>
      if s.collHeld q e then fin (s.setQue q fun v => { v with ahead := some e })
      else fin (((s.advanceCi q).setQue q fun v => { v with ahead := none }).takeOnto q { id := 0, idx := idx, entry := e } none)

/-- 03 R103: an access of ring entries failed at an IOVA. -/
def execRingAccessFault (q : QNum) (iova : Word) (s : State) : Out :=
  let st := s.qState q
  if q.val < 2 ∨ s.halted = true ∨ st = QS.disabled ∨ st = QS.error then .next s else fin (s.ringFault q iova.toNat)

/-- 03 R91, R92: the completion of the oldest closed segment is written. -/
def execWriteCompletion (q : QNum) (s : State) : Out := fin (s.writeAnswered q)

/-- 03 R85: a NOP completes once every earlier entry of its ring has completed. -/
def execNop (q : QNum) (id : Nat) (s : State) : Out :=
  match s.fresh q id with
  | some t =>
    if t.entry.get W.opcode = 0 ∧ s.earlierDone q id = true then fin (s.finishEntry q id { status := ST.ok }) else .next s
  | none => .next s

end Sys2Proof.Machine
end

