-- ==== Sys2Proof/Machine/SchedRows.lean ====
section
/-! DEFINITION. The commands of scheduling, shaping, policing, sampling and metering (04). -/

namespace Sys2Proof.Machine

/-- An enabled shaper refills at its instant: staged values take force first (04 R119, R121, R122). -/
def State.shpRefill (s : State) (i : Nat) : State :=
  let due := s.rd (F.shp_NEXT i)
  let s := if s.on (F.shp_PENDING i) then
      ((s.set (.shp i 4) (s.get (.shp i 0))).set (.shp i 5) (s.get (.shp i 1))).wr (F.shp_PENDING i) 0
    else s
  if s.shpOn i then
    let l0 := s.get (.shp i 4)
    let s := s.wr (F.shp_TOKENS i) (refill (s.rd (F.shp_TOKENS i)) (bits l0 23 0) (bits (s.get (.shp i 5)) 23 0))
    s.wr (F.shp_NEXT i) (due + bits l0 51 32)
  else s.wr (F.shp_NEXT i) 0

/-- 04 R119, R121, R122: an enabled shaper refills. -/
def execShaperRefill (i : Fin 65536) (s : State) : Out :=
  if s.shpOn i then fin ((s.passTim (s.rd (F.shp_NEXT i))).shpRefill i) else .next s

/-- The refills whose instant has come are done before a write is accepted, so that the write applies at the following
one (04 R121); the fuel counts refills. -/
def State.shpCatchUp (i : Nat) : Nat → State → State
  | 0, s => s
  | k + 1, s => if s.shpOn i && decide (s.rd (F.shp_NEXT i) ≤ s.tim) then State.shpCatchUp i k (s.shpRefill i) else s

/-- How many refills of a period can have come due since an instant. -/
def refillsDue (next now period : Nat) : Nat := (now - next) / max period 1 + 1

/-- A period of R123 is accepted. -/
def periodOk (en : Bool) (p : Nat) : Bool := !en || decide (100 ≤ p ∧ p ≤ 1000000)

/-- A write of word 0 or 1 of the selected shaper (04 R121 to R123). -/
def State.shpWrite (s : State) (m : Mst) (w : Nat) (v : Word) : State :=
  let i := s.selOf m .shp
  if 2 ≤ w then s
  else if w = 0 ∧ periodOk (bits v 63 63 == 1) (bits v 51 32) = false then s.count F.schStat_REJECT
  else
    let s := State.shpCatchUp i (refillsDue (s.rd (F.shp_NEXT i)) s.tim 100) s
    match s.winWrite m 1 w i (.shp i w) v with
    | (s, false) => s
    | (s, true) =>
      if s.shpOn i then s.wr (F.shp_PENDING i) 1
      else
        let s := (s.set (.shp i 4) (s.get (.shp i 0))).set (.shp i 5) (s.get (.shp i 1))
        if s.shpOn i then
          (s.wr (F.shp_TOKENS i) (s.rd (F.shp_BURST i))).wr (F.shp_NEXT i) (s.tim + s.rd (F.shp_PERIOD i))
        else s

/-- 04 R118, R121: SCH_SHP_DATA is written. -/
def execShaperWrite (m : Mst) (w : Fin 2) (v : Word) (s : State) : Out :=
  regWriteRow m (0x6080 + 8 * w.val) v (fun s v => s.shpWrite m w v) s

/-- A tenant's policer changes. -/
def State.setPolicer (s : State) (t : Nat) (f : Policer → Policer) : State :=
  { s with metering := { s.metering with policers := s.metering.policers.upd t {} f } }

/-- A tenant's policer in force. -/
def State.policer (s : State) (t : Nat) : Policer := s.metering.policers.at t {}

/-- The staged policer of a tenant takes force. -/
def State.policerLoad (s : State) (t : Nat) : State :=
  s.setPolicer t fun p =>
    { p with en := s.on (F.ten_POL_EN t), period := s.rd (F.ten_PERIOD t), add := s.rd (F.ten_ADD t)
             burst := s.rd (F.ten_BURST t), pending := false }

/-- An enabled policer refills as a shaper does (04 R124). -/
def State.polRefill (s : State) (t : Nat) : State :=
  let due := (s.policer t).next
  let s := if (s.policer t).pending then s.policerLoad t else s
  let p := s.policer t
  if p.en then
    let s := s.wr (F.ten_POL_TOKENS t) (refill (s.rd (F.ten_POL_TOKENS t)) p.add p.burst)
    s.setPolicer t fun p => { p with next := due + p.period }
  else s.setPolicer t fun p => { p with next := 0 }

/-- 04 R124: an enabled policer refills. -/
def execPolicerRefill (t : Fin 4096) (s : State) : Out :=
  if (s.policer t).en then fin ((s.passTim (s.policer t).next).polRefill t) else .next s

/-- The refills of a policer whose instant has come are done before a write is accepted (04 R121, R124). -/
def State.polCatchUp (t : Nat) : Nat → State → State
  | 0, s => s
  | k + 1, s => if (s.policer t).en && decide ((s.policer t).next ≤ s.tim) then State.polCatchUp t k (s.polRefill t) else s

/-- The policer is charged with a request-class packet for this device (04 R124). -/
def State.policerCharge (s : State) (t cost : Nat) : State :=
  if (s.policer t).en then s.wr (F.ten_POL_TOKENS t) (chargeTokens (s.rd (F.ten_POL_TOKENS t)) cost) else s

/-- A write of a word of the selected tenant (04 R126): the policer's fields are staged, the others act at once; DG_ACT too in a
write whose PERIOD is refused (DESIGN CHOICE, R123 does not say, notes/assumptions/72.md). -/
def State.tenWrite (s : State) (m : Mst) (w : Nat) (v : Word) : State :=
  let t := s.selOf m .ten
  if 3 ≤ w then s
  else
    let s := if w = 0 then s.meterEdge else s
    let s := State.polCatchUp t (refillsDue (s.policer t).next s.tim 100) s
    let bad := decide (w = 1) && !periodOk (bits v 63 63 == 1) (bits v 51 32)
    let s := if bad then s.count F.schStat_REJECT else s
    let old := s.get (.ten t w)
    let v := if bad then setBits (setBits (setBits v 63 63 (bits old 63 63)) 51 32 (bits old 51 32)) 23 0 (bits old 23 0) else v
    match s.winWrite m 2 w t (.ten t w) v with
    | (s, false) => s
    | (s, true) =>
      if w = 0 ∨ bad = true then s
      else if (s.policer t).en then s.setPolicer t fun p => { p with pending := true }
      else
        let s := s.policerLoad t
        if (s.policer t).en then
          (s.wr (F.ten_POL_TOKENS t) (s.policer t).burst).setPolicer t fun p => { p with next := s.tim + p.period }
        else s

/-- 04 R126: SCH_TEN_DATA is written. -/
def execTenantWindowWrite (m : Mst) (w : Fin 5) (v : Word) (s : State) : Out :=
  regWriteRow m (0x6140 + 8 * w.val) v (fun s v => s.tenWrite m w v) s

/-- A quantum in bytes (04 R115). -/
def quantum (q : Nat) : Nat := (q + 1) * 64

/-- The cost of a queue's next packet. -/
def State.nextCost (s : State) (q : Nat) : Nat := (((s.que q).next.head?).map (·.pkt.cost)).getD 0

/-- A list moved on by one. -/
def rotate1 (l : List Nat) : List Nat := match l with | [] => [] | a :: t => t ++ [a]

/-- 04 R113 at a tenant: the queue that sends; none while the queue whose turn it is has still to take or begin its entry
(notes/assumptions/40.md). The fuel counts turns. -/
def State.pickQueue (k : Nat) : Nat → State → State × Option Nat
  | 0, s => (s, none)
  | n + 1, s =>
    match s.sched.l1.at k [] with
    | [] => (s, none)
    | q :: _ =>
      let s := if (s.que q).node.fresh then
          s.setQue q fun v => { v with node := { deficit := v.node.deficit + quantum (s.rd (F.qctx_QUANTUM q)), fresh := false } }
        else s
      if (s.que q).next.isEmpty then (s, none)
      else if s.nextCost q ≤ (s.que q).node.deficit then (s, some q)
      else
        let s := s.setQue q fun v => { v with node := { v.node with fresh := true } }
        State.pickQueue k n { s with sched := { s.sched with l1 := s.sched.l1.upd k [] rotate1 } }

/-- Turns that suffice for any list: 33 of each node, as the smallest quantum is 64 B and the largest cost 2,112 B. -/
def turns (l : List Nat) : Nat := 34 * (l.length + 1)

/-- A tenant node, or a host port node, of the scheduler. -/
def State.tnode (s : State) (k : Nat) : DrrNode := s.sched.tenants.at k {}
def State.pnode (s : State) (p : Nat) : DrrNode := s.sched.ports.at p {}
def State.setTnode (s : State) (k : Nat) (f : DrrNode → DrrNode) : State :=
  { s with sched := { s.sched with tenants := s.sched.tenants.upd k {} f } }
def State.setPnode (s : State) (p : Nat) (f : DrrNode → DrrNode) : State :=
  { s with sched := { s.sched with ports := s.sched.ports.upd p {} f } }

/-- 04 R113 at a host port. -/
def State.pickTenant (p : Nat) : Nat → State → State × Option Nat
  | 0, s => (s, none)
  | n + 1, s =>
    match s.sched.l2.at p [] with
    | [] => (s, none)
    | k :: _ =>
      let s := if (s.tnode k).fresh then
          s.setTnode k fun d => { deficit := d.deficit + quantum (s.rd (F.ten_QUANTUM (k % 4096))), fresh := false }
        else s
      match State.pickQueue k (turns (s.sched.l1.at k [])) s with
      | (s, none) => (s, none)
      | (s, some q) =>
        if s.nextCost q ≤ (s.tnode k).deficit then (s, some q)
        else
          let s := s.setTnode k fun d => { d with fresh := true }
          State.pickTenant p n { s with sched := { s.sched with l2 := s.sched.l2.upd p [] rotate1 } }

/-- 04 R113 at the device. -/
def State.pickPort : Nat → State → State × Option Nat
  | 0, s => (s, none)
  | n + 1, s =>
    match s.sched.l3 with
    | [] => (s, none)
    | p :: _ =>
      let s := if (s.pnode p).fresh then
          s.setPnode p fun d => { deficit := d.deficit + quantum (s.rd (F.schHpCfg_QUANTUM p)), fresh := false }
        else s
      match State.pickTenant p (turns (s.sched.l2.at p [])) s with
      | (s, none) => (s, none)
      | (s, some q) =>
        if s.nextCost q ≤ (s.pnode p).deficit then (s, some q)
        else
          let s := s.setPnode p fun d => { d with fresh := true }
          State.pickPort n { s with sched := { s.sched with l3 := rotate1 s.sched.l3 } }

/-- The cost of a sent packet is charged at all three levels and to every shaper bound to its queue or tenant (04
R113, R120). -/
def State.schedCharge (s : State) (q cost : Nat) : State :=
  let t := s.rd (F.qctx_TENANT q)
  let k := s.queueNode q
  let s := s.setQue q fun v => { v with node := { v.node with deficit := v.node.deficit - cost } }
  let s := (s.setTnode k fun d => { d with deficit := d.deficit - cost }).setPnode (k / 4096) fun d =>
    { d with deficit := d.deficit - cost }
  let a := if s.on (F.qctx_SHP_EN q) then [s.rd (F.qctx_SHAPER q)] else []
  let b := if s.on (F.ten_SHP_EN t) then [s.rd (F.ten_SHAPER t)] else []
  (a ++ b).eraseDups.foldl (fun s i => s.shpCharge i cost) s

/-- The request that a scheduled packet records (07 R224). -/
def State.reqOf (s : State) (q : Nat) (x : TxPkt) : Option Outst :=
  match s.taken q x.id with
  | none => none
  | some t =>
    let pt := x.pkt.get H.ptype
    let o : Outst := { seq := 0, ptype := pt, owner := some (q, x.id), laddr := t.entry.get W.laddr, len := t.entry.get W.len, want := t.entry.get W.len
                       func := s.qFunc q, devmem := t.entry.get W.devmem == 1 }
    if pt = PT.getReq ∨ pt = PT.atomReq ∨ pt = PT.flushReq then some o else none

/-- The next packet of a queue leaves (04 R110, 07 R221, 10 R343, R345). -/
def State.sendNext (s : State) (q : Nat) : State :=
  match (s.que q).next with
  | [] => s
  | x :: t =>
    let s := s.setQue q fun v => { v with next := t, full := false }
    match x.conn with
    | some n =>
      let o := s.reqOf q x
      s.txSend n { pkt := x.pkt, owner := some (q, x.id), req := o }
    | none =>
      let p := ({ x.pkt with hdr := x.pkt.hdr.set H.ahash (Config.adaptiveHash s.free).toNat } : Packet).withCrc
      s.drawn.launch p (some (q, x.id)) (s.pairOpen p)

/-- 04 R113: the next request-class packet is chosen, charged and sent. -/
def execSchedulePacket (s : State) : Out :=
  let s := s.schedSync
  match State.pickPort (turns s.sched.l3) s with
  | (s, none) => fin s
  | (s, some q) => fin ((s.schedCharge q (s.nextCost q)).sendNext q)

/-! ## Sampling (04 R127 to R132) -/

/-- One step of an EWMA: a + ((x << 8) − a) >> w. -/
def ewma (a x w : Nat) : Nat := ((a : Int) + ((x : Int) * 256 - a) / 2 ^ w).toNat

/-- A sampler visit to a queue (04 R128, R130, R132). -/
def State.visitQueue (s : State) (q : Nat) : State :=
  let s := if (s.que q).smpReset then (s.samplingStart q).setQue q fun v => { v with smpReset := false } else s
  let depth := s.qDepth q
  let delay := if 0 < depth then min (s.tim - s.rd (F.qctx_HEADSINCE q)) (2 ^ 32 - 1) else 0
  let w := s.rd F.smpCfg_SHIFT
  let s := (s.wr (F.qctx_DEPTH_MIN q) (min (s.rd (F.qctx_DEPTH_MIN q)) depth)).wr (F.qctx_DEPTH_MAX q)
    (max (s.rd (F.qctx_DEPTH_MAX q)) depth)
  let s := (s.wr (F.qctx_DELAY_MIN q) (min (s.rd (F.qctx_DELAY_MIN q)) delay)).wr (F.qctx_DELAY_MAX q)
    (max (s.rd (F.qctx_DELAY_MAX q)) delay)
  let s := (s.wr (F.qctx_DEPTH_EWMA q) (ewma (s.rd (F.qctx_DEPTH_EWMA q)) depth w)).wr (F.qctx_DELAY_EWMA q)
    (ewma (s.rd (F.qctx_DELAY_EWMA q)) delay w)
  let s := (s.count (F.qctx_SAMPLES q)).wr (F.qctx_LASTSAMPLE q) s.tim
  if s.on (F.qctx_RAW q) then
    s.samplePush [BitVec.ofNat 64 s.tim, BitVec.ofNat 64 (s.rd (F.qctx_TENANT q) * 2 ^ 36 + q), BitVec.ofNat 64 depth,
      BitVec.ofNat 64 delay, 0, 0, 0, BitVec.ofNat 64 (2 * 2 ^ 56)]
  else s

/-- The queues of the sampler's rotation, in number order. -/
def State.sampled (s : State) : List Nat :=
  let qs := (s.regs.filterMap fun c => match c.1 with | .qctx q 6 => some q | _ => none).filter fun q =>
    s.on (F.qctx_SMP_EN q) && (s.qState q == QS.active || s.qState q == QS.stalled)
  qs.mergeSort (fun a b => decide (a ≤ b))

/-- 04 R127, R128, R131: one period of the sampler. It begins PERIOD after the one before, or when that one's batch has
finished, which SCH_STAT.OVERRUN counts. How long a batch takes is a free value, as R131 gives averages only. A queue is
visited once in a period, also where the rotation is shorter than the batch (DESIGN CHOICE, notes/assumptions/25.md). -/
def execSamplerPeriod (s : State) : Out :=
  if s.on F.smpCfg_EN && !s.halted then
    let s := if s.metering.smpNext < s.metering.smpEnd then s.count F.schStat_OVERRUN else s
    let s := s.passTo (max s.metering.smpNext s.metering.smpEnd)
    let qs := s.sampled
    let from' := s.metering.rot
    let turn := (qs.filter fun q => decide (from' ≤ q)) ++ qs.filter fun q => decide (q < from')
    let batch := turn.take (s.rd F.smpCfg_BATCH + 1)
    let s := batch.foldl (fun t q => t.visitQueue q) s
    fin ({ s with metering := { s.metering with
      rot := match batch.getLast? with | some q => q + 1 | none => from'
      smpNext := s.now + 1000 * s.rd F.smpCfg_PERIOD
      smpEnd := s.now + (Config.freeWord s.free).toNat } }).drawn
  else .next s

/-- 04 R130: a queue number is written to SCH_SMP_RST. -/
def execSamplerResetQueue (m : Mst) (v : Word) (s : State) : Out :=
  regWriteRow m 0x6210 v (fun s v => s.setQue (bits v 19 0) fun x => { x with smpReset := true }) s

/-! ## Meters (04 R133 to R138) -/

/-- 04 R135: a boundary of INTERVAL is reached, or has been stepped across: the next snapshot is written. -/
def execMeterSnapshot (s : State) : Out :=
  if s.on F.mtrCfg_EN && !s.halted then
    let s := s.meterEdge
    let i := s.rd F.mtrCfg_INTERVAL * 1000000000
    fin (if s.metering.caught.isEmpty then (s.passTim ((s.tim / i + 1) * i)).meterEdge.snapshot else s.snapshot)
  else .next s

/-- The charged bytes of a tenant (04 R134): its allocation, its slots of the unexpected pool and its packets in the
tidepool. -/
def State.chargedBytes (s : State) (t : Nat) : Nat :=
  let alloc := if s.on (F.alloc_EN t) then s.rd (F.alloc_LEN t) * allocUnit else 0
  let pool := (s.mtch.unexp.filter fun u => s.rd (F.mtc_TENANT u.mctx) == t).length * 8192
  let tide := s.conns.foldl
    (fun k c => if s.rd (F.conn_TENANT c.1) = t then
        c.2.rx0.seqs.foldl (fun k x => if x.2.st = RxState.staged then k + x.2.pkt.cost else k) k else k) 0
  alloc + pool + tide

/-- 04 R133: the charged bytes of every tenant are sampled, 1 ms after the sample before. -/
def execMeterGddr6Sample (s : State) : Out :=
  let s := s.passTo (s.metering.g6At + 1000000)
  let s := (List.range 4096).foldl
    (fun t i => let k := s.chargedBytes i
      if k = 0 then t else t.setMeter i fun m => { m with g6 := m.g6 + k }) s
  fin { s with metering := { s.metering with g6At := s.now } }

end Sys2Proof.Machine
end

