-- ==== Sys2Proof/Machine/EventRows.lean ====
section
/-! DEFINITION. The commands of engine events, the warden mailbox and context binding (06). -/

namespace Sys2Proof.Machine

/-! ## Steered events (06 R193 to R197) -/

/-- The steering entry of an event. -/
def Event.slot (e : Event) : Nat := steerIndex e.kind e.key

/-- Two events have one steering key. -/
def Event.sameKey (a b : Event) : Bool := decide (a.kind < 4) && a.kind == b.kind && a.key == b.key

/-- An event of a packet with MCLASS 1. -/
def Event.isReply (e : Event) : Bool := e.pkt.any fun p => p.get H.mclass == 1

/-- The steered event queue has room for an event: 256 entries, 64 of them for replies (06 R195). -/
def State.steerRoom (s : State) (g : Nat) (e : Event) : Bool :=
  let q := (s.eng g).queue
  decide (q.length < 256) && (e.isReply || decide ((q.filter fun x => !x.isReply).length < 192))

/-- A waiting event enters its engine's queue. -/
def State.steerIn (s : State) (g : Nat) (e : Event) : State :=
  let s := { s with sandbox := { s.sandbox with waiting := s.sandbox.waiting.erase e } }
  s.setSteerQ g fun q => q ++ [{ e with gen := if e.kind < 4 then s.sandbox.moved.at e.slot 0 else 0 }]

/-- 06 R193, R196: the oldest waiting event for engine `e` that its queue has room for enters the queue. -/
def execSteeredEventArrival (e : EngNum) (s : State) : Out :=
  match s.sandbox.waiting.find? fun x => s.steerEngine x == e.val && s.steerRoom e x with
  | some x => fin (s.steerIn e x)
  | none => .next s

/-- The event arrived after its steering entry moved here, and another engine still holds an earlier event of the
entry (06 R194). -/
def State.entryHeld (s : State) (g : Nat) (e : Event) : Bool :=
  decide (e.kind < 4)
    && (s.engs.any (fun x => x.1 != g && x.2.queue.any fun y => decide (y.kind < 4 ∧ y.gen < e.gen) && y.slot == e.slot)
      || s.ctxs.any fun x => x.1 / 8 != g && x.2.keys.any fun k => steerIndex k.1 k.2 == e.slot)

/-- The context of engine `g` that holds an event's key. -/
def State.keyHolder (s : State) (g : Nat) (e : Event) : Option Nat :=
  ((List.range 8).map (8 * g + ·)).find? fun c => (s.ctx c).keys.contains (e.kind, e.key)

/-- The IDLE contexts of engine `g` that are eligible for an event, from the dispatch pointer on. -/
def State.idleTakers (s : State) (g : Nat) (e : Event) : List Nat :=
  ((List.range 8).map fun k => 8 * g + ((s.eng g).ptr + k) % 8).filter fun c => s.ctxFree c e

/-- The context that takes a steered event now, and whether the pointer decided (06 R195 steps 2 to 4, 01 R27). -/
def State.taker (s : State) (g : Nat) (e : Event) : Option (Nat × Bool) :=
  match s.keyHolder g e with
  | some c => if s.ctxTakes c e.cls e.entry e.tenant && s.ctxWaits c e.cls then some (c, false) else none
  | none =>
    match s.idleTakers g e with
    | [] => none
    | c :: t => some (c, !t.isEmpty)

/-- No context of engine `g` can ever take the event (06 R197); events of an engine that is retired wait (16 R533). -/
def State.unservable (s : State) (g : Nat) (e : Event) : Bool :=
  (s.retiring g).isNone && !(List.range 8).any fun k => s.ctxTakes (8 * g + k) e.cls e.entry e.tenant

/-- The event does not wait for an earlier one of its key or of its entry. -/
def State.headOfKey (s : State) (g : Nat) (e : Event) : Bool :=
  !((s.eng g).queue.takeWhile (· != e)).any (e.sameKey) && !s.entryHeld g e

/-- A steered event is discarded and counted: a connection packet is not placed, a notice is no longer queued. -/
def State.discardEvent (s : State) (g : Nat) (e : Event) : State :=
  let s := s.count (F.engStat_EVLOST g)
  match e.late with
  | some id => s.lateReport id false
  | none =>
    if e.entry = 9 then s.setCx e.key fun c => { c with note9 := false }
    else if e.entry = 10 then s.setCx e.key fun c => { c with note10 := none }
    else match e.pkt with
      | some p => if e.onConn then s.connReport e p .notPlaced else s
      | none => s

/-- One steered event of engine `g` is dispatched, or discarded; none when no event can be. -/
def State.steerOne (s : State) (g : Nat) : Option State :=
  match (s.eng g).queue.find? fun e => s.headOfKey g e && (s.unservable g e || (s.taker g e).isSome) with
  | none => none
  | some e =>
    let t := s.setSteerQ g fun q => q.erase e
    if s.unservable g e then some (t.discardEvent g e)
    else
      match s.taker g e with
      | none => none
      | some (c, moved) =>
        let t := if moved then t.setEng g fun x => { x with ptr := (c + 1) % 8 } else t
        some (t.giveEvent c e)

/-- Steered events are dispatched while a context can take one; the fuel counts them. -/
def State.steerAll (g : Nat) : Nat → State → State
  | 0, s => s
  | k + 1, s => match s.steerOne g with | some t => State.steerAll g k t | none => s

/-- The oldest targeted event that its context takes now is given to it (06 R195 step 1). -/
def State.targetOne (s : State) (c : Nat) : State :=
  match (s.ctx c).targeted.find? fun e => s.ctxTargets c e with
  | none => s
  | some e => ((s.setCtx c fun x => { x with targeted := x.targeted.erase e }).giveEvent c e).eventsLost c

/-- 06 R195 to R199: one edge of the dispatch of engine `e`: targeted events, then steered ones. -/
def execEventDispatch (e : EngNum) (s : State) : Out :=
  if s.halted then .next s
  else fin (State.steerAll e ((s.eng e).queue.length) ((List.range 8).foldl (fun t k => t.targetOne (8 * e.val + k)) s))

/-- A write of the selected steering entry (06 R194). -/
def State.steerWrite (s : State) (m : Mst) (v : Word) : State :=
  let i := s.selOf m .steer
  let old := s.get (.steer i)
  match s.winWrite m 3 0 i (.steer i) v with
  | (s, false) => s
  | (s, true) =>
    if s.get (.steer i) = old then s
    else { s with sandbox := { s.sandbox with moved := s.sandbox.moved.upd i 0 (· + 1) } }

/-- 06 R194: GLB_STEER_DATA is written. -/
def execSteeringWrite (m : Mst) (v : Word) (s : State) : Out := regWriteRow m 0x7008 v (fun s v => s.steerWrite m v) s

/-! ## Context configuration (06 R187 to R190) -/

/-- The address of ENG_CTX_CFG of a context. -/
def ctxCfgAddr (c : Nat) : Nat := 0x400000 + 0x80000 * ctxIsl c + 0x20000 + 0x1000 * (ctxEng c % 17) + 8 * (c % 8)

/-- The physical engine that carries a logical one (16 R534). -/
def State.physEng (s : State) (g : Nat) : Nat :=
  let i := g / 17
  let l := g % 17
  if s.on (F.islEngMap_SUB i) then
    let b := s.rd (F.islEngMap_SUBL i)
    if l = b then 16 else if l = 16 then b else l
  else l

/-- The engine is switched off, or replaced (16 R533, R534). -/
def State.engOff (s : State) (g : Nat) : Bool := s.rd (F.islEngMap_OFF (g / 17)) / 2 ^ s.physEng g % 2 == 1

/-- A write that sets EN is refused (06 R188). Engine 16 of islands 1 to 15 stands idle (01 R11; DEDUCED,
notes/assumptions/50.md). -/
def State.enRefused (s : State) (c : Nat) (cfg : Word) : Bool :=
  let k := s.sandbox.slots.at (bits cfg 43 32) {}
  let lvl := bits cfg 59 58
  let warden := ctxEng c == 16
  (ctxEng c % 17 == 16 && !warden) || !k.valid || lvl != k.level || (lvl == 3) != warden
    || (lvl == 0 && (bits cfg 55 44 != k.tenant || decide (bits cfg 23 16 < k.palNeed)
        || decide (240 < bits cfg 31 24 + bits cfg 23 16) || decide (4096 < k.budget)))
    || s.engOff (ctxEng c)

/-- EN sets (06 R189): the event mask and the budget limit are loaded. -/
def State.enSets (s : State) (c : Nat) : State :=
  let b := (s.ctxSketch c).budget
  (s.wr (F.csr_MASK c) (s.rd (F.ctxCfg_MASK c))).wr (F.csr_LIMIT c) (if b = 0 then 4096 else b)

/-- A reset of a unit of island `i` is absorbed by a wider one in progress (18 R563). -/
def State.absorbed (s : State) (i : Nat) : Bool := s.held || s.boot.islands.contains i

/-- A write of ENG_CTX_CFG (06 R188 to R190, R205); one of RST within a wider reset is absorbed. -/
def State.ctxCfgPut (s : State) (m : Mst) (c : Nat) (v : Word) : State :=
  if (ctxEng c = 16 ∧ s.atF m = false) ∨ (bits v 62 62 = 1 ∧ s.absorbed (ctxIsl c) = true) then s
  else
    let old := s.get (.ctxCfg c)
    let base := if s.on (F.ctxCfg_EN c) || s.ctxState c != XS.idle then old else accWrite (.ctxCfg c) false old v
    let rst := bits v 62 62 == 1
    let sets := !rst && bits v 63 63 == 1 && !s.on (F.ctxCfg_EN c)
    let refused := sets && s.enRefused c base
    let s := if refused then s.count (F.engStat_REFUSED (ctxEng c)) else s
    let en := if rst then bits old 63 63 else if refused then 0 else bits v 63 63
    match s.cfgPut m RK.reg (ctxCfgAddr c) (.ctxCfg c) (setBits base 63 63 en) with
    | (s, false) => s
    | (s, true) => if rst then s.ctxReset c else if sets && !refused then s.enSets c else s

/-- 06 R187, R188: ENG_CTX_CFG is written. -/
def execCtxCfgWrite (m : Mst) (c : CtxNum) (v : Word) (s : State) : Out :=
  regWriteRow m (ctxCfgAddr c) v (fun s v => s.ctxCfgPut m c v) s

/-- 06 R188, R189: a write that sets EN. -/
def execCtxEnable (m : Mst) (c : CtxNum) (v : Word) (s : State) : Out :=
  regWriteRow m (ctxCfgAddr c) (setBits (setBits v 63 63 1) 62 62 0) (fun s v => s.ctxCfgPut m c v) s

/-- 06 R189: a write that clears EN. -/
def execCtxDisable (m : Mst) (c : CtxNum) (v : Word) (s : State) : Out :=
  regWriteRow m (ctxCfgAddr c) (setBits (setBits v 63 63 0) 62 62 0) (fun s v => s.ctxCfgPut m c v) s

/-- 06 R190: a write of 1 to RST. -/
def execCtxReset (m : Mst) (c : CtxNum) (v : Word) (s : State) : Out :=
  regWriteRow m (ctxCfgAddr c) (setBits v 62 62 1) (fun s v => s.ctxCfgPut m c v) s

/-! ## The warden mailbox (06 R181 to R186) -/

/-- Results of a mailbox command (06 R185). -/
abbrev MB.ok : Nat := 0
abbrev MB.badCmd : Nat := 1
abbrev MB.access : Nat := 2
abbrev MB.badImage : Nat := 3
abbrev MB.key : Nat := 4
abbrev MB.signature : Nat := 5
abbrev MB.rollback : Nat := 6
abbrev MB.slotBusy : Nat := 7
abbrev MB.locked : Nat := 8
abbrev MB.auditFull : Nat := 9

/-- A write of CMD (06 R185): accepted while BUSY is 0, else discarded and counted. A load makes its slot invalid
(R186). -/
def State.mailboxCmd (s : State) (m : Mst) (v : Word) : State :=
  if s.on F.wmbxStat_BUSY then s.count F.wmbxStat_COLLIDE
  else
    let cmd := bits v 7 0
    let args := (List.range 4).map fun i => s.get (.wmbxArg i)
    let s := (((s.wr F.wmbxCmd_CMD cmd).wr F.wmbxStat_BUSY 1).wr F.wmbxStat_OWNER m.toNat)
    let k := (s.get (.wmbxArg 2)).toNat
    let slots := if cmd = 1 ∧ 1 ≤ k ∧ k ≤ 4095 then
        s.sandbox.slots.upd k {} fun x => { x with valid := false, loading := true }
      else s.sandbox.slots
    { s with sandbox := { s.sandbox with running := some (cmd, args), slots := slots } }

/-- 06 R184, R185: the SKETCH_LOAD command is written. -/
def execSketchLoad (m : Mst) (v : Word) (s : State) : Out :=
  regWriteRow m 0x430800 (setBits v 7 0 1) (fun s v => s.mailboxCmd m v) s

/-- 06 R184: the SKETCH_FREE command is written. -/
def execSketchFree (m : Mst) (v : Word) (s : State) : Out :=
  regWriteRow m 0x430800 (setBits v 7 0 2) (fun s v => s.mailboxCmd m v) s

/-- 06 R184: the KEY_INSTALL command is written. -/
def execKeyInstall (m : Mst) (v : Word) (s : State) : Out :=
  regWriteRow m 0x430800 (setBits v 7 0 3) (fun s v => s.mailboxCmd m v) s

/-- 06 R184: the KEY_LOCK command is written. -/
def execKeyLock (m : Mst) (v : Word) (s : State) : Out :=
  regWriteRow m 0x430800 (setBits v 7 0 4) (fun s v => s.mailboxCmd m v) s

/-- A context is bound to the slot (06 R187). -/
def State.slotBound (s : State) (k : Nat) : Bool :=
  (List.range 2176).any fun c => s.rd (F.ctxCfg_SKETCH c) == k && (s.on (F.ctxCfg_EN c) || s.ctxState c != XS.idle)

/-- The verification key of a slot (06 R181): slot 0 holds the Jarwamor key, which boot loads. -/
def State.vkey (s : State) (k : Nat) : Option VKey := s.sandbox.keys.find k

/-- Word i of an image or record. -/
def imgWord (bs : List Byte) (i : Nat) : Word := wordOfBytes (bs.drop (8 * i))

/-- The handler entries of a sketch header (06 R178). -/
def imgHandlers (bs : List Byte) : List Nat := (List.range 24).map fun j => ofBytes ((bs.drop (32 + 2 * j)).take 2)

/-- The image is not one (06 R177 to R179, R185 code 3). -/
def badImage (bs : List Byte) (len : Nat) : Bool :=
  let w0 := imgWord bs 0
  let n := bits (imgWord bs 1) 31 0
  bits w0 63 32 != 0x534B4831 || bits w0 31 16 != 1 || bits w0 1 0 == 1
    || n % 4 != 0 || decide (n < 4 ∨ 61440 < n)
    || (imgHandlers bs).any (fun h => h != 0xFFFF && decide (n / 4 ≤ h)) || len != 224 + n

/-- The sketch that an image gives its slot. -/
def sketchOf (bs : List Byte) : Sketch :=
  { valid := true, level := bits (imgWord bs 0) 1 0, tenant := bits (imgWord bs 1) 43 32, svn := bits (imgWord bs 2) 63 32
    budget := bits (imgWord bs 2) 31 16, palNeed := bits (imgWord bs 2) 7 0, codeLen := bits (imgWord bs 1) 31 0
    handlers := imgHandlers bs }

/-- Conditions 4 to 6 of R185 on an image. -/
def State.imageVerdict (s : State) (bs : List Byte) : Nat :=
  let w0 := imgWord bs 0
  let n := bits (imgWord bs 1) 31 0
  let slot := bits w0 15 8
  let lvl := bits w0 1 0
  if 15 < slot then MB.key
  else
    match s.vkey slot with
    | none => MB.key
    | some k =>
      if k.maxLevel < lvl ∨ (lvl = 3 ∧ slot ≠ 0)
          ∨ (k.tbind = true ∧ (lvl ≠ 0 ∨ bits (imgWord bs 1) 43 32 ≠ k.tenant)) then MB.key
      else if !ecdsa384 k.key (sha384 (bs.take (128 + n))) ((bs.drop (128 + n)).take 96) then MB.signature
      else if bits (imgWord bs 2) 63 32 < k.minSvn then MB.rollback
      else MB.ok

/-- The caller's allocation holds a range (06 R184): the mailbox is reached by Provider masters, whose entry is
4,096. -/
def State.mailRange (s : State) (a n : Nat) : Bool := s.inAlloc 4096 a n

/-- A sketch slot changes. -/
def State.setSlot (s : State) (k : Nat) (x : Sketch) : State :=
  { s with sandbox := { s.sandbox with slots := s.sandbox.slots.put k x } }

/-- An image is written to its slot of the sketch store, and the blocks of the slot leave every sketch cache (06 R186,
14 R473). -/
def State.sketchPlace (s : State) (k : Nat) (bs : List Byte) : State :=
  let s := s.devWrite (sketchStore + 65536 * k) bs
  let keep (b : Nat) : Bool := b / 256 != sketchStore / 65536 + k
  { s with engs := s.engs.each fun _ e => { e with code := e.code.filter fun b => keep b.1, codeEcc := e.codeEcc.filter keep } }

/-- SKETCH_LOAD: the state after it and its RESULT. -/
def State.mailLoad (s : State) (m : Mst) (a len k : Nat) : State × Nat :=
  if ¬(1 ≤ k ∧ k ≤ 4095) then (s, MB.badCmd)
  else
    let old := s.sandbox.slots.at k {}
    let gone (s : State) : State := s.setSlot k { old with valid := false, loading := false }
    if !s.mailRange a len then (gone s, MB.access)
    else
      let (s, bs, lost) := s.devRead a len
      if lost || badImage bs len then (gone s, MB.badImage)
      else
        let v := s.imageVerdict bs
        if v ≠ 0 then (gone s, v)
        else if s.slotBound k then (gone s, MB.slotBusy)
        else
          let x := sketchOf bs
          match s.askRec m RK.sketch k (BitVec.ofNat 64 old.svn) (BitVec.ofNat 64 x.svn) with
          | (s, false) => (gone s, MB.auditFull)
          | (s, true) => ((s.sketchPlace k bs).setSlot k x, MB.ok)

/-- SKETCH_FREE: the state after it and its RESULT. -/
def State.mailFree (s : State) (m : Mst) (k : Nat) : State × Nat :=
  if ¬(1 ≤ k ∧ k ≤ 4095) then (s, MB.badCmd)
  else if s.slotBound k then (s, MB.slotBusy)
  else
    match s.askRec m RK.sketch k (BitVec.ofNat 64 (s.sandbox.slots.at k {}).svn) 0 with
    | (s, false) => (s, MB.auditFull)
    | (s, true) => (s.setSlot k {}, MB.ok)

/-- The verification key that a record spells (06 R181). -/
def vkeyOf (bs : List Byte) : VKey :=
  let w := imgWord bs 0
  { minSvn := bits w 63 32, tbind := bits w 31 31 == 1, tenant := bits w 23 12, maxLevel := bits w 1 0
    key := (bs.drop 8).take 96 }

/-- KEY_INSTALL: the state after it and its RESULT. -/
def State.mailInstall (s : State) (m : Mst) (a k : Nat) : State × Nat :=
  if ¬(1 ≤ k ∧ k ≤ 15) then (s, MB.badCmd)
  else if !s.mailRange a 128 then (s, MB.access)
  else if s.sandbox.locked.contains k then (s, MB.locked)
  else
    let (s, bs, lost) := s.devRead a 128
    let x := vkeyOf bs
    if lost then (s, MB.access) else
    match s.askRec m RK.vkey k (BitVec.ofNat 64 x.minSvn) 0 with
    | (s, false) => (s, MB.auditFull)
    | (s, true) => ({ s with sandbox := { s.sandbox with keys := s.sandbox.keys.put k x } }, MB.ok)

/-- KEY_LOCK: the state after it and its RESULT. -/
def State.mailLock (s : State) (m : Mst) (k : Nat) : State × Nat :=
  if ¬(1 ≤ k ∧ k ≤ 15) then (s, MB.badCmd)
  else if s.sandbox.locked.contains k then (s, MB.locked)
  else
    match s.askRec m RK.vkey k (BitVec.ofNat 64 (((s.sandbox.keys.find k).map (·.minSvn)).getD 0)) 1 with
    | (s, false) => (s, MB.auditFull)
    | (s, true) => ({ s with sandbox := { s.sandbox with locked := k :: s.sandbox.locked } }, MB.ok)

/-- 06 R185: the command that runs ends with its RESULT. -/
def execMailboxCommandDone (s : State) : Out :=
  match s.sandbox.running with
  | none => .next s
  | some (cmd, args) =>
    if s.halted then .next s
    else
      let m : Mst := BitVec.ofNat 16 (s.rd F.wmbxStat_OWNER)
      let a (i : Nat) : Nat := ((args[i]?).getD 0).toNat
      let r : State × Nat :=
        match cmd with
        | 1 => s.mailLoad m (a 0) (a 1) (a 2)
        | 2 => s.mailFree m (a 0)
        | 3 => s.mailInstall m (a 0) (a 1)
        | 4 => s.mailLock m (a 0)
        | _ => (s, MB.badCmd)
      let s := { r.1 with sandbox := { r.1.sandbox with running := none } }
      fin ((s.wr F.wmbxStat_RESULT r.2).wr F.wmbxStat_BUSY 0)

end Sys2Proof.Machine
end

