-- ==== Sys2Proof/Machine/ConnRows.lean ====
section
/-! DEFINITION. The commands of connections and canvases (07): the operations of work entries, the context and
canvas windows, arrivals, timers, and keys. -/

namespace Sys2Proof.Machine

/-! ## Work entries that execute (03 R86, R87, R104) -/

/-- An operation begins once every earlier taken entry of its ring has begun and none of them waits for a transient
canvas (notes/assumptions/19.md). -/
def State.turnOf (s : State) (q id : Nat) : Bool :=
  ((s.que q).taken.takeWhile (·.id ≠ id)).all fun t =>
    t.res.isSome || (t.started && !s.mtch.waits.contains (q, t.id))

/-- A taken entry of an opcode begins; an entry that may not begin now is left alone (notes/assumptions/9.md). Entries
of the firmware control ring taken before a malformed one go on at its halt (03 R107). -/
def State.entryRow (s : State) (q id op : Nat) (f : State → Taken → Out) : Out :=
  match s.fresh q id with
  | some t => if t.entry.get W.opcode = op ∧ s.entriesAct q = true ∧ s.turnOf q id = true then f s t else .next s
  | none => .next s

/-- What a read of an entry's local range gives: its bytes, a status with the bytes read before it failed, or nothing
yet. -/
inductive Source where
  | ready (bs : List Byte)
  | bad (status : Nat) (got : List Byte)
  | absent
  deriving DecidableEq, Repr

/-- Bytes of device memory from offset `a` up to the first uncorrectable line, and whether there is one; the fuel counts
lines. -/
def State.devPrefix : Nat → State → Nat → Nat → State × List Byte × Bool
  | 0, s, _, _ => (s, [], false)
  | fuel + 1, s, a, n =>
    if n = 0 then (s, [], false)
    else
      let k := min n (64 - a % 64)
      match s.devRead a k with
      | (s, _, true) => (s, [], true)
      | (s, bs, false) =>
        match State.devPrefix fuel s (a + k) (n - k) with
        | (s, more, p) => (s, bs ++ more, p)

/-- `n` bytes of an entry's local range: inline, device memory, or host memory as `src` answers (03 R84, R104). -/
def State.source (s : State) (q : Nat) (t : Taken) (n : Nat) (src : Fetched) : State × Source :=
  let a := t.entry.get W.laddr
  if t.entry.get W.inline = 1 then (s, .ready (t.pay.take n))
  else if n = 0 then (s, .ready [])
  else if t.entry.get W.devmem = 1 then
    match s.devRange (s.qFunc q) a n .read with
    | (s, false) => (s, .bad ST.access [])
    | (s, true) =>
      let (s, bs, poison) := s.devPrefix (n / 64 + 2) a n
      (s, if poison then .bad ST.localFault bs else .ready bs)
  else match src with
    | .failed got => (s.pcieBad (s.qFunc q) (a + got.length), .bad ST.localFault (got.take (n - 1)))
    | .data bs => if bs.length < n then (s, .absent) else (s, .ready (bs.take n))

/-- The local range that a result is to be written to may be written (03 R104). -/
def State.sink (s : State) (q : Nat) (t : Taken) (n : Nat) : State × Bool :=
  if t.entry.get W.devmem = 1 ∧ n ≠ 0 then s.devRange (s.qFunc q) (t.entry.get W.laddr) n .write else (s, true)

/-- The packets of an operation join those of the queue that wait to be scheduled; the first carries FLAG when the
entry asks for it (03 R84). -/
def State.queuePkts (s : State) (q : Nat) (t : Taken) (conn : Option Nat) (ps : List Packet) : State :=
  let mk (i : Nat) (p : Packet) : TxPkt :=
    { id := t.id, conn := conn, last := decide (i + 1 = ps.length)
      pkt := if i = 0 then p.set H.flag (t.entry.get W.flagged) else p }
  let xs := ps.mapIdx mk
  (s.begin q t.id).setQue q fun v => { v with next := v.next ++ xs }

/-- The pieces of at most P bytes of a range, with their offsets: one empty piece when there are no bytes (07 R221). -/
def pieces (P : Nat) (bs : List Byte) : List (Nat × List Byte) :=
  (List.range (max 1 ((bs.length + P - 1) / P))).map fun k => (k * P, (bs.drop (k * P)).take P)

/-- A source read fails behind `got` (07 R221): the packets that `got` fills leave, and the entry ends with the status of the
failure once they are done; with none it ends now. -/
def State.cutShort (s : State) (q : Nat) (t : Taken) (n status : Nat) (ps : List Packet) : Out :=
  if ps = [] then fin (s.finishEntry q t.id { status := status })
  else
    let s := s.queuePkts q t (some n) ps
    fin (s.setQue q fun v => { v with taken := v.taken.map fun x => if x.id = t.id then { x with cut := some status } else x })

/-- The pieces that some bytes fill whole. -/
def wholePieces (P : Nat) (bs : List Byte) : List (Nat × List Byte) :=
  (List.range (bs.length / P)).map fun k => (k * P, (bs.drop (k * P)).take P)

/-- The connection of an entry carries operations. -/
def State.connLive (s : State) (n : Nat) : Bool := s.connState n == CS.active || s.connState n == CS.rekeying

/-- A connection operation of a taken entry, the KEY entries apart: it ends BROKEN on a connection that is not in service (07 R238). -/
def State.connEntry (s : State) (q id op : Nat) (f : State → Taken → Nat → Out) : Out :=
  s.entryRow q id op fun s t =>
    let n := t.entry.get W.conn
    if op = 1 ∧ t.entry.get W.opmod ≠ 0 then .next s
    else if s.connLive n then f s t n else fin (s.finishEntry q id { status := ST.broken })

/-- The request header of an entry: connection header, key and canvas offset (07 R222). -/
def State.rmaHeader (s : State) (n pt : Nat) (e : Octet) (off : Nat) : Octet :=
  ((s.connHeader n pt).set H.ckey (e.get W.rkey)).set H.offset (e.get W.roffset + off)

/-- A PUT packet: a piece of the operation at its offset. -/
def State.putPkt (s : State) (n : Nat) (e : Octet) (x : Nat × List Byte) : Packet :=
  { hdr := (s.rmaHeader n PT.put e x.1).set H.len x.2.length, payload := x.2, trailer := [] }

/-- 07 R220 to R223: a PUT. -/
def execPut (q : QNum) (id : Nat) (src : Fetched) (s : State) : Out :=
  s.connEntry q id 1 fun s t n =>
    match s.source q t (t.entry.get W.len) src with
    | (_, .absent) => .next s
    | (s, .bad st got) => s.cutShort q t n st ((wholePieces (s.connP n) got).map fun x => s.putPkt n t.entry x)
    | (s, .ready bs) => fin (s.queuePkts q t (some n) ((pieces (s.connP n) bs).map fun x => s.putPkt n t.entry x))

/-- A request of one packet without local data to read: its result range is asked first. -/
def State.oneRequest (s : State) (q : Nat) (t : Taken) (n pt len : Nat) (f : Octet → Octet) (pay : List Byte) : Out :=
  match s.sink q t len with
  | (s, false) => fin (s.finishEntry q t.id { status := ST.access })
  | (s, true) => fin (s.queuePkts q t (some n) [{ hdr := (f (s.connHeader n pt)).set H.len pay.length, payload := pay, trailer := [] }])

/-- 07 R222, R223: a GET. -/
def execGet (q : QNum) (id : Nat) (s : State) : Out :=
  s.connEntry q id 2 fun s t n =>
    let len := t.entry.get W.len
    s.oneRequest q t n PT.getReq len (fun _ => (s.rmaHeader n PT.getReq t.entry 0).set H.tag len) []

/-- 07 R222, R223, R225: an ATOMIC. -/
def execAtomic (q : QNum) (id : Nat) (s : State) : Out :=
  s.connEntry q id 3 fun s t n =>
    s.oneRequest q t n PT.atomReq 8 (fun _ => (s.rmaHeader n PT.atomReq t.entry 0).set H.opmod (t.entry.get W.opmod))
      (bytesOf 8 t.entry.w6.toNat ++ bytesOf 8 t.entry.w7.toNat)

/-- 07 R222, R223: a FLUSH. -/
def execFlush (q : QNum) (id : Nat) (s : State) : Out :=
  s.connEntry q id 4 fun s t n => s.oneRequest q t n PT.flushReq 0 (fun h => h) []

/-! ## Keys (07 R220, R242 to R244) -/

/-- A key is stored in a slot of a connection: 0 CUR, 1 NEXT. -/
def State.keyStore (s : State) (n slot : Nat) (key : List Byte) : State :=
  if slot = 0 then (s.setCx n fun c => { c with cur := some key }).wr (F.conn_CURKEY n) 1
  else ((s.setCx n fun c => { c with nxt := some key }).wr (F.conn_NEXTKEY n) 1).rekeyStart n false

/-- A key install asks for its record (07 R242, 17 R553). -/
def State.keyAsk (s : State) (n slot priv : Nat) (m : Mst) : State × Bool :=
  s.audAsk { kind := RK.connKey, priv := priv, master := m.toNat, addr := slot * 2 ^ 24 + n }

/-- A slot may be written: CUR only while the connection is FREE (07 R220, R242). -/
def State.keySlotOk (s : State) (n slot : Nat) : Bool := slot == 1 || s.connState n == CS.free

/-- A KEY entry: the 32 bytes at LADDR go to a slot; the entry ends OK, or ACCESS (07 R220). -/
def State.keyEntry (s : State) (q id slot : Nat) (src : Fetched) : Out :=
  s.entryRow q id 1 fun s t =>
    let n := t.entry.get W.conn
    if t.entry.get W.opmod ≠ 0x81 - slot then .next s
    else
      match s.source q t 32 src with
      | (_, .absent) => .next s
      | (s, .bad st _) => fin (s.finishEntry q id { status := st })
      | (s, .ready bs) =>
        if !s.keySlotOk n slot then fin (s.finishEntry q id { status := ST.access })
        else
          match s.keyAsk n slot (s.rd (F.qctx_PRIV q)) (fnMst (s.qFunc q)) with
          | (s, false) => fin (s.finishEntry q id { status := ST.access })
          | (s, true) => fin ((s.keyStore n slot bs).finishEntry q id { status := ST.ok })

/-- 07 R220: KEY_NEXT. -/
def execKeyNext (q : QNum) (id : Nat) (src : Fetched) (s : State) : Out := s.keyEntry q id 1 src

/-- 07 R220: KEY_CUR. -/
def execKeyCur (q : QNum) (id : Nat) (src : Fetched) (s : State) : Out := s.keyEntry q id 0 src

/-- CNX_KEYCMD is written (07 R242): SLOT is stored, INSTALL acts and then GO. -/
def State.keyCmd (s : State) (m : Mst) (v : Word) : State :=
  let n := s.selOf m .cnx
  let slot := bits v 0 0
  let s := s.plainWrite .cnxKeyCmd v
  let s :=
    if bits v 1 1 = 1 then
      if !s.keySlotOk n slot then s.wr F.cnxKeyCmd_RESULT 1
      else
        match s.keyAsk n slot (s.priv m) m with
        | (s, false) => s.wr F.cnxKeyCmd_RESULT 2
        | (s, true) =>
          let key := (List.range 4).flatMap fun w => bytesOf 8 (s.get (.cnxKey w)).toNat
          (s.wr F.cnxKeyCmd_RESULT 0).keyStore n slot key
    else s
  if bits v 2 2 = 1 then s.rekeyStart n true else s

/-- 07 R242: INSTALL is written. -/
def execCnxKeyInstall (m : Mst) (v : Word) (s : State) : Out :=
  regWriteRow m 0x1010220 (setBits v 1 1 1) (fun s v => s.keyCmd m v) s

/-- 07 R242, R244: GO is written. -/
def execRekeyGo (m : Mst) (v : Word) (s : State) : Out :=
  regWriteRow m 0x1010220 (setBits v 2 2 1) (fun s v => s.keyCmd m v) s

/-! ## The connection window (07 R210 to R214) -/

/-- The endpoint names this device. -/
def State.isHere (s : State) (ep : Nat) : Bool := s.on F.rteCfg_DNV && ep / 4 == s.rd F.rteCfg_DEVNUM

/-- An activation is accepted (07 R212). -/
def State.connOk (s : State) (n : Nat) : Bool :=
  s.isHere (s.rd (F.conn_LOCAL n)) && s.eqOfTenant (s.rd (F.conn_EQ n)) (s.rd (F.conn_TENANT n))
    && s.rd (F.conn_E2E n) != 3 && !(s.rd (F.conn_E2E n) == 2 && !s.on (F.conn_CURKEY n))

/-- A connection becomes ACTIVE with fresh streams (07 R212). -/
def State.connStart (s : State) (n : Nat) : State :=
  let t := s.freshTx n
  let s := s.setCx n fun c => { cur := c.cur, nxt := c.nxt, note9 := c.note9, note10 := c.note10 }
  let s := (s.setTx n false fun _ => t).setTx n true fun _ => t
  let s := (s.setRx n false fun _ => {}).setRx n true fun _ => {}
  s.wr (F.conn_STATE n) CS.active

/-- STATE = FREE is written to a connection in another state (07 R214). -/
def State.connEnd (s : State) (n : Nat) : State :=
  let s := (s.wr (F.conn_BCAUSE n) 5).connDrop n none
  let s := s.setCx n fun c => { note9 := c.note9, note10 := c.note10 }
  (((s.wr (F.conn_CURKEY n) 0).wr (F.conn_NEXTKEY n) 0).wr (F.conn_TIDE n) 0).wr (F.conn_STATE n) CS.free

/-- A word of the selected connection context is written (07 R210, R212, R214). -/
def State.connWrite (s : State) (m : Mst) (w : Nat) (v : Word) : State :=
  let n := s.selOf m .cnx
  let st := s.connState n
  if st = CS.free then
    if w = 0 then
      let s := s.plainWrite (.conn n 0) (setBits v 63 61 0)
      if bits v 63 61 = 1 then (if s.connOk n then s.connStart n else s.count F.cnxStat_REFUSED) else s
    else s.plainWrite (.conn n w) v
  else if w = 0 ∧ bits v 63 61 = 0 then s.connEnd n
  else s

/-- 07 R212: STATE = ACTIVE is written to the selected connection. -/
def execConnActivate (m : Mst) (v : Word) (s : State) : Out :=
  regWriteRow m 0x1010080 (setBits v 63 61 CS.active) (fun s v => s.connWrite m 0 v) s

/-- 07 R214: STATE = FREE is written to the selected connection. -/
def execConnFree (m : Mst) (v : Word) (s : State) : Out :=
  regWriteRow m 0x1010080 (setBits v 63 61 CS.free) (fun s v => s.connWrite m 0 v) s

/-! ## The canvas window (07 R216 to R218, R245) -/

/-- A write of VALID is accepted (07 R218). -/
def State.canvasOk (s : State) (i : Nat) : Bool :=
  let len := s.rd (F.cvs_LENGTH i)
  let base := s.rd (F.cvs_BASE i)
  let func := s.rd (F.cvs_FUNC i)
  let eq := s.rd (F.cvs_EQ i)
  decide (len ≠ 0) && decide (base + len ≤ 2 ^ 64) && s.fnServes func (s.rd (F.cvs_TENANT i))
    && s.owns func eq && s.rd (F.qctx_TYPE eq) == 3
    && (!s.on (F.cvs_DEVMEM i) || s.inAlloc (s.rd (F.cvs_TENANT i)) base len)

/-- A word of the selected canvas entry is written (07 R216, R218, R245, R246, 08 R270). -/
def State.cvsWrite (s : State) (m : Mst) (w : Nat) (v : Word) : State :=
  let i := s.selOf m .cvs
  let st := s.rd (F.cvs_STATE i)
  if s.transientRange i then s
  else if st = 0 then
    if w = 0 then
      let s := s.plainWrite (.cvs i 0) (setBits v 63 62 0)
      if bits v 63 62 = 1 then (if s.canvasOk i then s.wr (F.cvs_STATE i) 1 else s.count F.cnxStat_REFUSED) else s
    else s.plainWrite (.cvs i w) v
  else if w = 0 ∧ bits v 63 62 = 0 then s.canvasRevoke i
  else s

/-- 07 R218: STATE = VALID is written to the selected canvas. -/
def execCanvasValidate (m : Mst) (v : Word) (s : State) : Out :=
  regWriteRow m 0x1020080 (setBits v 63 62 1) (fun s v => s.cvsWrite m 0 v) s

/-- 07 R245: STATE = FREE is written to the selected canvas. -/
def execCanvasRevoke (m : Mst) (v : Word) (s : State) : Out :=
  regWriteRow m 0x1020080 (setBits v 63 62 0) (fun s v => s.cvsWrite m 0 v) s

/-! ## Arrivals and timers (07 R227 to R236) -/

/-- A packet has arrived at this device as its destination: a request is policed (04 R124). -/
def State.accepted (s : State) (p : Packet) : State :=
  let s := s.unarrive p
  if p.get H.mclass = 0 then s.policerCharge (p.get H.tenant) p.cost else s

/-- 07 R227: a connection packet arrives, with the congestion mark that it has (10 R335): the one kept with the
delivered packet; `mark` counts for a packet that no earlier command delivered (notes/assumptions/9.md). -/
def execConnPacketArrival (p : Packet) (mark : Bool) (s : State) : Out :=
  if ptOnConn (p.get H.ptype) = false ∨ s.halted = true then .next s
  else fin ((s.accepted p).connArrive (p.get H.conn) p (((s.arrivedOf p).map (·.mark)).getD mark))

/-- 07 R231: ACK_DELAY has passed since the first unacknowledged resolution. -/
def execAckDelayExpiry (n : Fin 262144) (reply : Bool) (s : State) : Out :=
  match ((s.cx n).rx reply).firstAt with
  | some t => if s.connLive n && !s.halted then fin ((s.passTo (t + s.ackDelay)).sendAck n reply) else .next s
  | none => .next s

/-- 07 R236: the retransmission timer of a stream expires; also at the halt of 03 R107, whose entries end so at the latest. -/
def execRtoExpiry (n : Fin 262144) (reply : Bool) (s : State) : Out :=
  match s.rtoDue n reply with
  | some t => if s.connLive n && s.entriesAct 0 && !s.draining then fin ((s.passTo t).rtoFire n reply) else .next s
  | none => .next s

/-- 07 R232: the back-off of a packet refused NOT_READY ends. -/
def execNrBackoffExpiry (n : Fin 262144) (seq : BitVec 32) (s : State) : Out :=
  match (s.cx n).tx0.copies.find? (fun x => x.seq == seq.toNat) with
  | some x =>
    match x.nrDue with
    | some t => if s.connLive n && s.entriesAct 0 then fin ((s.passTo t).resend n false x) else .next s
    | none => .next s
  | none => .next s

/-- 07 R234: FLUSH_REQs kept in the context are dispatched once every earlier SEQ is resolved. -/
def execFlushReqDispatch (n : Fin 262144) (s : State) : Out := if s.halted then .next s else fin (s.flushGo n)

end Sys2Proof.Machine
end

