-- ==== Sys2Proof/Machine/MatchRows.lean ====
section
/-! DEFINITION. The commands of message matching (08): SEND and RECV entries, the matching-context window, and the
wait for a transient canvas. -/

namespace Sys2Proof.Machine

/-! ## Sending (08 R262 to R265, R270) -/

/-- EAGER_MAX; above 8,192 it acts as 8,192 (08 R280). -/
def State.eagerMax (s : State) : Nat := min 8192 (s.rd F.mtcCfg_EAGER_MAX)

/-- The eager limit of a connection (08 R263). -/
def State.eagerLimit (s : State) (n : Nat) : Nat := if s.inOrder n then s.eagerMax else min s.eagerMax (s.connP n)

/-- A SEND header: connection header, matching context and tag (08 R264). -/
def State.sendHeader (s : State) (n pt : Nat) (e : Octet) : Octet :=
  ((s.connHeader n pt).set H.mctx (e.get W.mctx)).set H.tag (e.get W.operand0)

/-- A SEND_EAGER packet: a piece of a message of `len` bytes, LAST on the last (08 R264). -/
def State.eagerPkt (s : State) (n : Nat) (e : Octet) (len : Nat) (x : Nat × List Byte) : Packet :=
  let last := x.1 + x.2.length == len
  { hdr := (((s.sendHeader n PT.sendEager e).set H.offset x.1).set H.len x.2.length).set H.opmod (if last then 128 else 0)
    payload := x.2, trailer := [] }

/-- The SEND_EAGER packets of a message. -/
def State.eagerPkts (s : State) (n : Nat) (e : Octet) (bs : List Byte) : List Packet :=
  (pieces (s.connP n) bs).map fun x => s.eagerPkt n e bs.length x

/-- The SEND_RTS of a SEND whose transient canvas is entry `i`. -/
def State.rtsPkt (s : State) (n : Nat) (e : Octet) (i : Nat) : Packet :=
  { hdr := ((s.sendHeader n PT.sendRts e).set H.ckey (s.rd (F.cvs_KEYTAG i) * 1048576 + i)).set H.offset (e.get W.len)
    payload := [], trailer := [] }

/-- The canvas that serves a SEND. -/
def State.transOf (s : State) (q id : Nat) : Nat := (((s.mtch.trans.find? fun t => t.owner == (q, id))).map (·.canvas)).getD 0

/-- A rendezvous SEND takes a transient canvas and its SEND_RTS waits to be scheduled; none when no canvas is FREE
(08 R270). -/
def State.rndvGo (s : State) (q n : Nat) (t : Taken) : Option State :=
  (s.transientTake q t.id n t.entry).map fun s => s.queuePkts q t (some n) [s.rtsPkt n t.entry (s.transOf q t.id)]

/-- 08 R262 to R265, R270: a SEND. -/
def execSend (q : QNum) (id : Nat) (src : Fetched) (s : State) : Out :=
  s.connEntry q id 5 fun s t n =>
    let len := t.entry.get W.len
    if t.entry.get W.opmod = 0 ∧ len ≤ s.eagerLimit n then
      match s.source q t len src with
      | (_, .absent) => .next s
      | (s, .bad st got) => s.cutShort q t n st ((wholePieces (s.connP n) got).map fun x => s.eagerPkt n t.entry len x)
      | (s, .ready bs) => fin (s.queuePkts q t (some n) (s.eagerPkts n t.entry bs))
    else
      match (if t.entry.get W.devmem = 1 ∧ len ≠ 0 then s.devRange (s.qFunc q) (t.entry.get W.laddr) len .read else (s, true)) with
      | (s, false) => fin (s.finishEntry q id { status := ST.access })
      | (s, true) =>
        match s.rndvGo q n t with
        | some s => fin s
        | none =>
          let s := (s.begin q id).count F.mtcStat_RNDV_WAIT
          fin (s.setMtch fun x => { x with waits := x.waits ++ [(q.val, id)] })

/-- 08 R270: a waiting rendezvous SEND takes a transient canvas that has become FREE. -/
def execRndvCanvasTake (q : QNum) (id : Nat) (s : State) : Out :=
  if (q.val, id) ∈ s.mtch.waits ∧ s.entriesAct q = true then
    let drop (s : State) : State := s.setMtch fun x => { x with waits := x.waits.filter (· ≠ (q.val, id)) }
    match s.taken q id with
    | none => fin (drop s)
    | some t =>
      if t.res.isSome then fin (drop s)
      else
        match s.rndvGo q (t.entry.get W.conn) t with
        | some s => fin (drop s)
        | none => .next s
  else .next s

/-! ## Posting (08 R254 to R256) -/

/-- 08 R254, R255: the next entry of a receive-post ring is taken and posted; a ring without its context is counted
once. A malformed entry is taken once its completion ring is ACTIVE with a free slot: DESIGN CHOICE, 03 R89 reserves none
on taking and R106 names none (notes/assumptions/39.md). -/
def execRecv (q : QNum) (e : Octet) (s : State) : Out :=
  if s.rd (F.qctx_TYPE q) ≠ 1 ∨ s.serves q = false ∨ s.qDepth q = 0 ∨ s.sketchServed q = true then .next s
  else if !s.ringBound q then
    fin (s.unboundOnce q)
  else
    let s := s.setMtch fun x => { x with unbound := x.unbound.filter (· ≠ q.val) }
    let m := s.rd (F.qctx_MCTX q)
    let idx := s.rd (F.qctx_CI q)
    match recvReason e with
    | some why => if s.postFree m && s.cqActive q && s.cqRoom q then fin ((s.advanceCi q).recvMalformed q idx e why) else fin s
    | none => if s.postRoom q m e then fin ((s.advanceCi q).postRecv q idx m e) else fin s

/-! ## The matching-context window (08 R251 to R253) -/

/-- The read of length 0 that ends the SEND of a discarded rendezvous message (08 R253). -/
def State.zeroRead (s : State) (u : Unexp) : State :=
  match u.conn with
  | none => s
  | some n =>
    if !s.connLive n then s
    else
      let p : Packet := { hdr := (s.connHeader n PT.getReq).set H.ckey (u.hdr.get H.ckey), payload := [], trailer := [] }
      s.txHand n { pkt := p, req := some { seq := 0, ptype := PT.getReq } }

/-- An unexpected message of a freed context is discarded; the slot of one still arriving goes with its LAST packet. -/
def State.discardUnexp (s : State) (u : Unexp) : State :=
  if u.rts then (s.dropUnexp u.u).zeroRead u
  else if u.complete then s.dropUnexp u.u
  else (s.setUnexp u.u fun x => { x with taken := true }).mtcSync u.mctx

/-- STATE = FREE is written to an ACTIVE context (08 R252, R253). -/
def State.mtcFree (s : State) (m : Nat) : State :=
  if s.rd (F.mtc_POSTED m) ≠ 0 then s.count F.mtcStat_REFUSED
  else
    let us := s.mtch.unexp.filter fun u => u.mctx == m && !u.taken
    (us.foldl (fun t u => t.discardUnexp u) s).wr (F.mtc_STATE m) 0

/-- STATE = ACTIVE is written to a FREE context whose fields are stored (08 R252). -/
def State.mtcStart (s : State) (m : Nat) : State :=
  if s.eqOfTenant (s.rd (F.mtc_EQ m)) (s.rd (F.mtc_TENANT m)) then
    let s := ((((s.set (.mtc m 2) 0).set (.mtc m 3) 0).set (.mtc m 4) 0).set (.mtc m 5) 0).wr (F.mtc_STATE m) 1
    s.setMtch fun x => { x with full := x.full.filter (· ≠ m), stalled := x.stalled.filter (· ≠ m) }
  else s.count F.mtcStat_REFUSED

/-- A word of the selected matching context is written (08 R251, R252). -/
def State.mtcWrite (s : State) (m : Mst) (w : Nat) (v : Word) : State :=
  let k := s.selOf m .mtc
  if w ≠ 0 then s.plainWrite (.mtc k w) v
  else
    let st := bits v 63 62
    if s.mtcActive k then (if st = 0 then s.mtcFree k else s)
    else
      let s := s.plainWrite (.mtc k 0) (setBits v 63 62 0)
      if st = 1 then s.mtcStart k else s

/-- 08 R252: STATE = ACTIVE is written to the selected context. -/
def execMctxActivate (m : Mst) (v : Word) (s : State) : Out :=
  regWriteRow m 0x1030080 (setBits v 63 62 1) (fun s v => s.mtcWrite m 0 v) s

/-- 08 R253: STATE = FREE is written to the selected context. -/
def execMctxFree (m : Mst) (v : Word) (s : State) : Out :=
  regWriteRow m 0x1030080 (setBits v 63 62 0) (fun s v => s.mtcWrite m 0 v) s

end Sys2Proof.Machine
end

