-- ==== Sys2Proof/Machine/TreeRows.lean ====
section
/-! DEFINITION. The commands of trees and collectives (09): COLL and TREE_WRITE entries, the tree window, arrivals of
tree packets, and the tree timeout. -/

namespace Sys2Proof.Machine

/-! ## One-packet messages of the library (09 R301, 10 R346) -/

/-- A packet is delivered to a matching context as a one-packet message from `src`: placed in the winning receive, or
stored as unexpected. The flag is false where R260 would refuse it. -/
def State.deliverOne (s : State) (p : Packet) : State × Bool :=
  let m := p.get H.mctx
  let bs := p.payload
  if ¬(s.mtcActive m = true ∧ s.rd (F.mtc_TENANT m) = p.get H.tenant) then (s, false)
  else
    match s.winner m (p.get H.src) p.hdr.w5 with
    | some w =>
      if !s.cqRoom w.rq then (s, false)
      else
        let id := s.nextId
        let k := placeLen (w.entry.get W.len) 0 bs.length
        let b : Bound :=
          { id := 0, post := w, tag := p.hdr.w5, src := p.get H.src, conn := none, total := some bs.length, placed := k }
        let s := (((s.unpost w).bindRecv b).stallClear m).count (F.mtc_MATCHES m)
        let s := s.tally 16 0x86
        let put := bs.take k
        let s :=
          if put = [] then s
          else if w.entry.get W.devmem = 1 then s.devWrite (w.entry.get W.laddr) put
          else s.dma (.hostWrite (s.qFunc w.rq) (w.entry.get W.laddr) put)
        (s.boundDone id, true)
    | none =>
      if s.unexpRoom m then
        let s := s.setMtch fun x => { x with full := x.full.filter (· ≠ m) }
        let (s, u, _) := s.addUnexp m p none
        let s := if bs = [] then s else s.devWrite (s.poolSlot u % 2 ^ 48) bs
        (s.setUnexp u fun x => { x with stored := bs.length, complete := true }, true)
      else (s, false)

/-! ## Multicasts (09 R290, R299, R301) -/

/-- A multicast is delivered on this device when MCDELIV asks for it. -/
def State.mcDeliver (s : State) (t : Nat) (tag : Word) (bs : List Byte) : State :=
  if s.on (F.tree_MCDELIV t) then
    let h := (mkHeader PT.mcast (s.rd (F.tree_ROOTEP t)) (s.rd F.rteCfg_DEVNUM * 4) (s.rd (F.tree_TENANT t))).set H.mctx (s.rd (F.tree_MCTX t))
    match s.deliverOne { hdr := (h.set H.len bs.length).setWord 5 tag, payload := bs, trailer := [] } with
    | (s, true) => s
    | (s, false) => s.count F.mixStat_MC_DROP
  else s

/-- A multicast leaves the root: numbered by MSEQ, sent down, delivered here, and its entry awaits the FINALs. -/
def State.multicast (s : State) (t : Nat) (who : Member) (c : Coll) (tag : Word) (bs : List Byte) (flag : Bool := false) : State :=
  let k := s.rd (F.tree_MSEQ t)
  let s := (s.wr (F.tree_MSEQ t) (k + 1)).openInst t k true c bs.length
  let s := s.setInst t k true fun x => { x with owner := some who, offs := [0] }
  let s := (s.treeTouch t).sendDown t PT.mcast k true c 0 0 0 tag.toNat bs flag
  (s.mcDeliver t tag bs).instGo t k true

/-! ## COLL entries (09 R287 to R291) -/

/-- The oldest COLL entry taken for the tree that has not begun. -/
def State.collTurn (s : State) (t id : Nat) : Bool :=
  !s.queues.any fun v => v.2.taken.any fun x =>
    decide (x.id < id) && !x.started && x.res.isNone && x.entry.get W.opcode == 7 && collTree x.entry.w7 == t

/-- The range that a COLL result goes to may be written (03 R104). -/
def State.collSink (s : State) (q t : Nat) (e : Octet) (c : Coll) (src : Bool) : State × Bool :=
  let placed := c.kind == 1 || (c.kind == 3 && !src) || (c.kind == 0 && s.isRoot t)
  if placed && e.get W.devmem == 1 && e.get W.len != 0 then
    s.devRange (s.qFunc q) e.w6.toNat (e.get W.len) .write
  else (s, true)

/-- A contribution of an entry joins its instance (09 R289), whose contexts take its KIND (R291). -/
def State.contribute (s : State) (t : Nat) (z : Contrib) (poison : Bool) : State :=
  let y := s.tr t
  let k := (s.rd (F.tree_INST t) + y.taken / s.nLocal t) % 65536
  let z := { z with inst := k, idx := y.taken % s.nLocal t }
  let twice := z.source && y.contribs.any fun x => x.inst == k && x.source
  let s := s.setTr t fun y => { y with taken := y.taken + 1, contribs := y.contribs ++ [z] }
  let s := s.kindSet t k z.coll false
  let bad := poison || (z.coll.kind == 3 && z.source && (!s.isRoot t || twice))
  let s := if bad then (s.openInst t k false z.coll z.len).instPoison t k else s
  s.treeGo t

/-- 09 R287 to R290: a COLL entry. -/
def execColl (q : QNum) (id : Nat) (src : Fetched) (s : State) : Out :=
  s.entryRow q id 7 fun s x =>
    let d := x.entry.w7
    let t := collTree d
    let c : Coll := ({ kind := collKind d, dtype := collDtype d, op := collOp d } : Coll).plain
    let source := c.kind == 3 && collSource d
    let len := x.entry.get W.len
    let reads := c.data || source || c.kind == 4
    if !s.treeActive t then fin (s.finishEntry q id { status := ST.treeBroken })
    else if s.rd (F.tree_TENANT t) ≠ s.rd (F.qctx_TENANT q) then fin (s.finishEntry q id { status := ST.access })
    else if c.kind = 4 then
      if s.isRoot t then
        match s.source q x len src with
        | (_, .absent) => .next s
        | (s, .bad st _) => fin (s.finishEntry q id { status := st })
        | (s, .ready bs) => fin ((s.begin q id).multicast t (.entry q id) c x.entry.w6 bs (x.entry.get W.flagged == 1))
      else fin (s.drawn.finishEntry q id { status := (Config.freeByte s.free).toNat })
    else if s.nLocal t = 0 ∨ 2 * s.nLocal t ≤ (s.tr t).taken ∨ s.collTurn t id = false then .next s
    else
      match s.collSink q t x.entry c source with
      | (s, false) => fin (s.finishEntry q id { status := ST.access })
      | (s, true) =>
        let z : Contrib :=
          { who := .entry q id, inst := 0, idx := 0, coll := c, source := source, len := len, result := x.entry.w6.toNat
            func := s.qFunc q, devmem := x.entry.get W.devmem == 1, flag := x.entry.get W.flagged == 1 }
        if !reads then fin ((s.begin q id).contribute t z false)
        else
          match s.source q x len src with
          | (_, .absent) => .next s
          | (s, .bad st _) =>
            if st = ST.access then fin (s.finishEntry q id { status := st })
            else
              let bs := (List.range len).map fun i => Config.freeByte (s.free + i)
              fin ((s.drawn.begin q id).contribute t { z with data := bs } true)
          | (s, .ready bs) => fin ((s.begin q id).contribute t { z with data := bs } false)

/-! ## The tree window (09 R283 to R285) -/

/-- An activation is accepted (09 R284). -/
def State.treeOk (s : State) (t : Nat) : Bool :=
  let nc := s.rd (F.tree_NCHILD t)
  let nl := s.nLocal t
  let par := s.rd (F.tree_PARENT t)
  decide (nc ≤ 16 ∧ nl ≤ 64 ∧ nl + nc ≠ 0)
    && (s.isRoot t || (par % 4 == 0 && !s.isHere par))
    && (List.range nc).all (fun i => s.childEp t i % 4 == 0)
    && s.eqOfTenant (s.rd (F.tree_EQ t)) (s.rd (F.tree_TENANT t))

/-- A tree entry that has become ACTIVE starts afresh. -/
def State.treeStart (s : State) (t : Nat) : State :=
  (((s.set (.tree t 8) 0).set (.tree t 9) 0).setTr t fun _ => {}).treeTouch t

/-- A tree entry that has become FREE ends its open local entries TREE_BROKEN, those of a poisoned
instance POISONED (R314), and releases its slots (09 R284). -/
def State.treeEnd (s : State) (t : Nat) : State :=
  let y := s.tr t
  let bad (k : Nat) := y.insts.any fun i => i.inst == k && !i.mc && i.poisoned
  let s := (y.contribs.filter fun c => !c.ended).foldl
    (fun st c => st.memberEnd c.who (if bad c.inst then ST.poisoned else ST.treeBroken) 0) s
  let s := y.insts.foldl (fun st i => match i.owner with | some m => st.memberEnd m ST.treeBroken 0 | none => st) s
  s.setTr t fun _ => {}

/-- A word of the selected tree entry is written (09 R283, R284, 17 R553). -/
def State.treeWrite (s : State) (m : Mst) (w : Nat) (v : Word) : State :=
  let t := s.selOf m .tree
  let r := Reg.tree t w
  let rec' (s : State) (new : Word) := s.cfgPut m RK.win (winAddr 5 w t) r new
  let st := bits v 63 62
  if s.rd (F.tree_STATE t) ≠ 0 then
    if w = 0 ∧ st = 0 then
      match rec' s (setBits (s.get r) 63 62 0) with
      | (s, true) => s.treeEnd t
      | (s, false) => s
    else s
  else if w = 0 then
    let new := accWrite r false (s.get r) v
    let ok := st == 1 && (s.set r new).treeOk t
    let s := if st = 1 ∧ ok = false then s.count F.mixStat_REFUSED else s
    match rec' s (setBits new 63 62 ok.toNat) with
    | (s, true) => if ok then s.treeStart t else s
    | (s, false) => s
  else (rec' s (accWrite r false (s.get r) v)).1

/-- 09 R284: STATE = ACTIVE is written to the selected tree. -/
def execTreeActivate (m : Mst) (v : Word) (s : State) : Out :=
  regWriteRow m 0x1050080 (setBits v 63 62 1) (fun s v => s.treeWrite m 0 v) s

/-- 09 R284: STATE = FREE is written to the selected tree. -/
def execTreeFree (m : Mst) (v : Word) (s : State) : Out :=
  regWriteRow m 0x1050080 (setBits v 63 62 0) (fun s v => s.treeWrite m 0 v) s

/-- Words 0 to 7 of a tree entry as one write of the warden (09 R285). The flag says that R284 refused it or left
fields unchanged. -/
def State.treeWords (s : State) (t : Nat) (ws : List Word) : State × Bool :=
  let word (i : Nat) : Word := (ws[i]?).getD 0
  let st := bits (word 0) 63 62
  let ask (s : State) (old new : Word) : State × Bool := s.askRec (ctxMst wardenCtx) RK.win (winAddr 5 0 t) old new
  let cur (i : Nat) : Word := s.get (.tree t i)
  let acc (i : Nat) : Word := accWrite (.tree t i) false (cur i) (word i)
  let fieldsSame := (List.range 8).all fun i =>
    if i = 0 then setBits (acc 0) 63 62 0 == setBits (cur 0) 63 62 0 else acc i == cur i
  if s.rd (F.tree_STATE t) ≠ 0 then
    if st = 0 then
      match ask s (cur 0) (setBits (cur 0) 63 62 0) with
      | (s, true) => ((s.wr (F.tree_STATE t) 0).treeEnd t, !fieldsSame)
      | (s, false) => (s, true)
    else (s, !(fieldsSame && st == s.rd (F.tree_STATE t)))
  else
    let put (s : State) : State := (List.range 8).foldl (fun u i => u.set (.tree t i) (acc i)) s
    let ok := st == 1 && (put s).treeOk t
    let refused := st == 1 && !ok
    let s := if refused then s.count F.mixStat_REFUSED else s
    let new0 := setBits (acc 0) 63 62 ok.toNat
    if fieldsSame && !ok then (s, refused)
    else
      match ask s (cur 0) new0 with
      | (s, false) => (s, true)
      | (s, true) =>
        let s := (put s).set (.tree t 0) new0
        (if ok then s.treeStart t else s, refused)

/-- 09 R285: TREE_WRITE on the firmware control ring; its words lie in device memory. -/
def execTreeWrite (id : Nat) (src : Fetched) (s : State) : Out :=
  let _ := src
  s.entryRow 0 id 0x88 fun s x =>
    match s.devRead (x.entry.get W.laddr) 64 with
    | (s, _, true) => fin (s.finishEntry 0 id { status := ST.localFault })
    | (s, bs, false) =>
      match s.treeWords (bits x.entry.w6 13 0) (Octet.ofByteList bs).toList with
      | (s, bad) => fin (s.finishEntry 0 id { status := if bad then ST.access else ST.ok })

/-! ## Arrivals (09 R286, R294 to R300, R312, R313) -/

/-- The node accepts a tree packet: ACTIVE, with its epoch and tenant (09 R286). -/
def State.treeTakes (s : State) (t : Nat) (p : Packet) : Bool :=
  s.treeActive t && p.get H.epoch == s.rd (F.tree_EPOCH t) && p.get H.tenant == s.rd (F.tree_TENANT t)

/-- The child that a packet comes from. -/
def State.childOf (s : State) (t : Nat) (p : Packet) : Option Nat :=
  (List.range (s.nChild t)).find? fun i => s.childEp t i == p.get H.src

/-- A packet comes from the parent. -/
def State.fromParent (s : State) (t : Nat) (p : Packet) : Bool := !s.isRoot t && p.get H.src == s.rd (F.tree_PARENT t)

/-- INST or MSEQ, and the operation, of a tree packet's CKEY. -/
def keyInst (p : Packet) : Nat := p.get H.ckey / 65536
def keyColl (p : Packet) : Coll :=
  ({ kind := p.get H.ckey / 4096 % 16, dtype := p.get H.ckey / 256 % 16, op := p.get H.ckey / 16 % 16 } : Coll).plain

/-- The event of a tree packet (06 R192, 09 R316). -/
def State.treeEvent (s : State) (entry t : Nat) (p : Packet) (a0 a1 a2 : Nat) : State :=
  s.postSteered
    { entry := entry, cls := 4, kind := 1, tenant := p.get H.tenant, key := t, pkt := some p, inbound := true
      arg0 := BitVec.ofNat 64 a0, arg1 := BitVec.ofNat 64 a1, arg2 := BitVec.ofNat 64 a2 }

/-- A tree packet arrives with its end-to-end check: discarded when that fails or the node does not accept it. A tree entry that
cannot be read contains its tree (16 R511). -/
def State.treeArrive (s : State) (p : Packet) (f : State → Nat → Out) : Out :=
  let t := p.get H.tree
  let s := s.accepted p
  if !p.crcOk then fin s
  else if s.latent Src.TREE_UNCORR t then fin (s.latentRaise Src.TREE_UNCORR t)
  else if !s.treeTakes t p then fin (s.count F.mixStat_BADTREE)
  else f s t

/-- The event of a MIX_UP from child `i`, once the mixer has taken it (06 R192, 09 R316). -/
def State.mixUpEvent (s : State) (t i : Nat) (p : Packet) (whole : Bool) (slot : Nat) : State :=
  s.treeEvent 11 t p
    (keyInst p * 2 ^ 48 + (keyColl p).kind * 2 ^ 44 + p.get H.opmod / 64 % 4 * 2 ^ 42 + i * 2 ^ 37 + whole.toNat * 2 ^ 36
      + p.get H.opmod / 32 % 2 * 2 ^ 35 + p.get H.seq)
    slot (p.get H.tag % 2 ^ 32)

/-- A FINAL arrives from child `i` (09 R295, R300). -/
def State.finalIn (s : State) (t i : Nat) (p : Packet) : State :=
  let k := keyInst p
  let mc := (keyColl p).kind == 4
  match s.inst t k mc with
  | none => s.count (F.tree_DUPS t)
  | some x =>
    if x.finals.contains i then s.count (F.tree_DUPS t)
    else
      let s := s.setInst t k mc fun x => { x with finals := i :: x.finals, count := x.count + p.get H.tag % 2 ^ 32 }
      ((s.mixUpEvent t i p false 0).meterRx p).treeGo t

/-- A chunk arrives from child `i` (09 R293 to R295): merged before its event is dispatched (R316). -/
def State.chunkIn (s : State) (t i : Nat) (p : Packet) : State :=
  let n := p.get H.seq
  let y := s.tr t
  let form := p.get H.opmod / 64
  let c := keyColl p
  let len := p.get H.tag % 2 ^ 25
  let off := p.get H.offset
  let held := (s.slotOf t n).any fun x => x.inputs.contains i
  if precedes 32 n y.freed || held then s.count (F.tree_DUPS t)
  else if 8 ≤ serialSub 32 n y.freed then s.count F.mixStat_BADTREE
  else
    let cnt := if form = 2 then 0 else c.elemsIn len (off / max 1 c.perChunk)
    let (es, good) := elemsOf (form == 1) c.dtype c.size cnt p.payload
    let poison := p.get H.opmod / 32 % 2 == 1
    let s := s.slotInput t n (keyInst p) c len off i es good poison
    let whole := (s.slotOf t n).any (s.chunkWhole t)
    let s := s.mixUpEvent t i p whole (s.rd F.mixStage_BASE + (8 * t + n % 8) * 2048)
    (s.meterRx p).treeGo t

/-- 09 R286, R294, R295: a MIX_UP arrives. -/
def execMixUpArrival (p : Packet) (s : State) : Out :=
  if p.get H.ptype ≠ PT.mixUp ∨ s.halted = true then .next s
  else s.treeArrive p fun s t =>
    match s.childOf t p with
    | none => fin (s.count F.mixStat_BADTREE)
    | some i =>
      let s := s.treeTouch t
      if p.get H.opmod / 16 % 2 = 1 then fin (((s.mixUpEvent t i p false 0).meterRx p).treeBreak t 0x0B)
      else if p.get H.opmod / 64 = 3 then fin (s.finalIn t i p)
      else fin (s.chunkIn t i p)

/-- A STATUS comes down: 0x0B breaks the node, 0x0C ends the instance POISONED here and below (09 R312, R313); the entries of an
instance that has closed have ended, and the STATUS goes on. -/
def State.statusIn (s : State) (t : Nat) (p : Packet) : State :=
  let st := p.get H.tag % 256
  if st = ST.treeBroken then s.treeBreak t 0x0B
  else if st = ST.poisoned then
    let k := keyInst p
    if (s.inst t k false).isNone && precedes 16 k (s.rd (F.tree_INST t)) then s.passDown t 12 p
    else
      let s := s.openInst t k false (keyColl p) 0
      ((s.instPoison t k).tellPoison t k (some p)).treeGo t
  else s

/-- 09 R294, R299, R312, R313: a MIX_DOWN arrives. -/
def execMixDownArrival (p : Packet) (s : State) : Out :=
  if p.get H.ptype ≠ PT.mixDown ∨ s.halted = true then .next s
  else s.treeArrive p fun s t =>
    if !s.fromParent t p then fin (s.count F.mixStat_BADTREE)
    else
      let kind := p.get H.opmod / 64
      let seq := p.get H.seq
      let s := ((s.meterRx p).treeTouch t).treeEvent 12 t p
        (keyInst p * 2 ^ 48 + kind % 4 * 2 ^ 46 + (if kind = 0 then seq else 0)) 0 (if kind = 0 then 0 else p.get H.tag % 256)
      if kind = 0 then
        fin ((s.setTr t fun y => { y with grant := if precedes 32 y.grant seq then seq else y.grant }).treeGo t)
      else fin (s.statusIn t p)

/-- A multicast comes down: delivered, replicated, and its FINAL awaited once (09 R299 to R301). -/
def State.mcastDown (s : State) (t : Nat) (p : Packet) : State :=
  let k := keyInst p
  let c := keyColl p
  let tag := p.hdr.w5
  let seen := (s.tr t).mcs.contains k
  let s := if seen then s else
    ((s.meterRx p).openInst t k true c p.payload.length).setTr t fun y => { y with mcs := (k :: y.mcs).take 64 }
  let s := s.passDown t 13 p
  let s := s.setInst t k true fun x => { x with offs := if x.offs.contains 0 then x.offs else 0 :: x.offs }
  (s.mcDeliver t tag p.payload).instGo t k true

/-- Result bytes come down: placed at every local entry and replicated (09 R299); a duplicate is counted. -/
def State.resultDown (s : State) (t : Nat) (p : Packet) : State :=
  let k := keyInst p
  let off := p.get H.offset
  match s.inst t k false with
  | none => s.count (F.tree_DUPS t)
  | some x =>
    if x.offs.contains off then s.count (F.tree_DUPS t)
    else
      let s := s.passDown t 13 p
      let s := s.setInst t k false fun x => { x with offs := off :: x.offs }
      ((if x.told then s else s.placeAll t k off p.payload).meterRx p).treeGo t

/-- 09 R299 to R301: an MCAST arrives. -/
def execMcastArrival (p : Packet) (s : State) : Out :=
  if p.get H.ptype ≠ PT.mcast ∨ s.halted = true then .next s
  else s.treeArrive p fun s t =>
    if !s.fromParent t p then fin (s.count F.mixStat_BADTREE)
    else
      let c := keyColl p
      let s := (s.treeTouch t).treeEvent 13 t p (keyInst p * 2 ^ 48 + c.kind * 2 ^ 44 + p.get H.len) (p.get H.offset) p.hdr.w5.toNat
      if c.kind = 4 then fin (s.mcastDown t p) else fin (s.resultDown t p)

/-- A node has an instance or a multicast open (09 R312). -/
def State.treeOpen (s : State) (t : Nat) : Bool :=
  !(s.tr t).insts.isEmpty || !(s.tr t).slots.isEmpty || (s.tr t).contribs.any fun c => !c.ended

/-- TIMEOUT of a tree, in nanoseconds. -/
def State.treeLimit (s : State) (t : Nat) : Nat :=
  (if s.rd (F.tree_TIMEOUT t) = 0 then 50 else s.rd (F.tree_TIMEOUT t)) * 1000

/-- 09 R312: TIMEOUT has passed at an open node without a packet of its epoch or local progress. -/
def execTreeTimeout (t : Fin 16384) (s : State) : Out :=
  if s.treeActive t && s.treeOpen t && s.entriesAct 0 && !s.draining then
    fin ((s.passTo ((s.tr t).progress + s.treeLimit t)).treeBreak t 0x0B)
  else .next s

end Sys2Proof.Machine
end

