-- ==== Sys2Proof/Machine/RouteRows.lean ====
section
/-! DEFINITION. The commands of fabric routing (10): datagrams and management packets, the route tables, winning an
output, the loops of a port, flagged packets, and the drain. -/

namespace Sys2Proof.Machine

/-! ## Datagrams and management packets at their source (10 R345, R347, 01 R24) -/

/-- The one packet of a DGRAM or MGMT entry. -/
def State.plainPacket (s : State) (q pt dst : Nat) (e : Octet) (bs : List Byte) : Packet :=
  let h := mkHeader pt (s.endpoint (s.qFunc q / 256)) dst (s.rd (F.qctx_TENANT q))
  let h := ((h.set H.mctx (e.get W.mctx)).setWord 5 e.w6).set H.e2e (e.get W.opmod)
  { hdr := h.set H.len bs.length, payload := bs, trailer := [] }

/-- A DGRAM or MGMT entry reads its bytes and its packet waits to be scheduled. -/
def State.plainEntry (s : State) (q id op pt : Nat) (dst : Octet → Nat) (src : Fetched) : Out :=
  s.entryRow q id op fun s t =>
    match s.source q t (t.entry.get W.len) src with
    | (_, .absent) => .next s
    | (s, .bad st _) => fin (s.finishEntry q id { status := st })
    | (s, .ready bs) => fin (s.queuePkts q t none [s.plainPacket q pt (dst t.entry) t.entry bs])

/-- 10 R345: a DGRAM. -/
def execDgram (q : QNum) (id : Nat) (src : Fetched) (s : State) : Out :=
  s.plainEntry q id 6 PT.dgram (fun e => e.get W.dstep) src

/-- 10 R347, 01 R24: an MGMT entry; the packet addresses a device. -/
def execMgmt (q : QNum) (id : Nat) (src : Fetched) (s : State) : Out :=
  s.plainEntry q id 8 PT.mgmt (fun e => e.get W.dstep / 4 * 4) src

/-! ## Route tables (10 R324 to R327) -/

/-- A word of the selected route-table entry is written: the active bank takes only changes of FENCE. -/
def State.rteWrite (s : State) (m : Mst) (w : Nat) (v : Word) : State :=
  let sel := s.selOf m .rte
  let b := bits (BitVec.ofNat 64 sel) 17 17
  let mem := bits (BitVec.ofNat 64 sel) 16 16 == 1
  let i := sel % 4096
  let r : Reg := if mem then .rteMem b i w else .rteGrp b i w
  if mem && decide (64 ≤ i) then s
  else
    let old := s.get r
    let new := accWrite r false old v
    if b = s.rd F.rteCfg_BANK then
      let fence := if w = 0 then (1#64 <<< 62) else 0
      if (old ^^^ new) &&& ~~~fence ≠ 0 then s.count F.rteStat_REFUSED
      else if old = new then s
      else
        (s.winWrite m 4 w sel r v).1
    else (s.winWrite m 4 w sel r v).1

/-- 10 R324, R327: RTE_DATA is written. -/
def execRouteTableWrite (m : Mst) (w : Fin 2) (v : Word) (s : State) : Out :=
  regWriteRow m (0x1040080 + 8 * w.val) v (fun s v => s.rteWrite m w v) s

/-! ## Winning an output (10 R330, R340 to R342) -/

/-- A packet that waits for an output. -/
def State.heldOf (s : State) (id : Nat) : Option Held := s.route.held.find? (·.id == id)

/-- 10 R330, R340: a held packet is read from its buffer (16 R511) and asks for an output. -/
def execWinOutput (id : Nat) (s : State) : Out :=
  match s.heldOf id with
  | some h =>
    if s.halted then .next s
    else
      let s := s.bufferRead h
      match s.heldOf id with
      | some h => fin (s.seekOutput h)
      | none => fin s
  | none => .next s

/-- The held packet has waited FERRY_WAIT cycles: it gains the ferry, or is discarded where nothing is left (10 R332,
R341). -/
def State.gainFerry (s : State) (h : Held) : State :=
  let h' := { h with ferry := true }
  let s := { s with route := { s.route with held := s.route.held.map fun x => if x.id = h.id then h' else x } }
  if !s.on F.rteCfg_DNV || (s.boundPort h).isSome then s
  else
    match (s.routeOf (s.phase2 h.pkt)).2 with
    | .wait fp => if s.ferryUp fp then s else s.dropHeld h' F.rteStat_NOROUTE
    | _ => s

/-- 10 R341: FERRY_WAIT cycles have passed for a packet that may still take an adaptive VC. -/
def execFerryWaitExpiry (id : Nat) (s : State) : Out :=
  match s.heldOf id with
  | some h =>
    if s.halted || h.ferry || h.pkt.get H.ferry == 1 then .next s
    else fin ((s.passTo (h.since + xbarNs (s.rd F.rteCfg_FERRY_WAIT))).gainFerry h)
  | none => .next s

/-! ## Tide reports and the threshold loop (10 R333 to R337) -/

/-- 10 R333: a port sends its tide report. -/
def execTideReportSend (n : PortNum) (s : State) : Out :=
  if (s.port n).aligned && !s.halted then
    fin ((s.passTo ((s.port n).tideAt + 500)).ctlPeriods n)
  else .next s

/-- A share of a window in parts of 256, saturating. -/
def per256 (k wins : Nat) : Nat := if wins = 0 then 0 else min 255 (k * 256 / wins)

/-- A window of a port's loop begins. -/
def State.windowStart (s : State) (n : Nat) : State :=
  s.setPort n fun p => { p with wins := 0, marks := 0, nonmins := 0, occ := 0, occAt := s.now, winAt := s.now }

/-- The loop of a port measures a window and takes one step (10 R337). -/
def State.loopWindow (s : State) (n : Nat) : State :=
  let p := s.port n
  let mr := per256 p.marks p.wins
  let qm := min 15 ((p.occ + p.occLvl * (s.now - p.occAt)) / max 1 (s.now - p.winAt))
  let s := s.windowStart n
  let s := ((s.wr (F.rteLoop_MARKRATE n) mr).wr (F.rteLoop_QMEAN n) qm).wr (F.rteLoop_NMRATE n) (per256 p.nonmins p.wins)
  if s.on (F.rteLoop_FREEZE n) then s
  else
    let b := s.rd (F.rteLoop_BIAS n)
    let t := s.rd (F.rteLoop_MARKTH n)
    let s :=
      if 10 ≤ qm ∧ s.rd (F.rteLoop_BIAS_MIN n) < b then s.wr (F.rteLoop_BIAS n) (b - 1)
      else if qm ≤ 3 ∧ b < s.rd (F.rteLoop_BIAS_MAX n) then s.wr (F.rteLoop_BIAS n) (b + 1)
      else s
    if 4 < mr ∧ qm < 8 ∧ t < s.rd (F.rteLoop_MTH_MAX n) then s.wr (F.rteLoop_MARKTH n) (t + 1)
    else if mr < 1 ∧ s.rd (F.rteLoop_MTH_MIN n) < t then s.wr (F.rteLoop_MARKTH n) (t - 1)
    else s

/-- 10 R337: the 10 µs window of an enabled loop ends. -/
def execRteLoopWindow (n : PortNum) (s : State) : Out :=
  if s.on (F.rteLoop_EN n) && !s.halted then fin ((s.passTo ((s.port n).winAt + 10000)).loopWindow n) else .next s

/-- A value as a write of it and of its limits leaves it: outside the limits it keeps the old one, moved to the
nearest limit (10 R337). -/
def limited (lo hi old v : Nat) : Nat := if lo ≤ v ∧ v ≤ hi then v else min hi (max lo old)

/-- RTE_LOOP after a write. -/
def loopNew (old v : Word) : Word :=
  let b := limited (bits v 57 54) (bits v 53 50) (bits old 61 58) (bits v 61 58)
  let t := limited (bits v 43 38) (bits v 37 32) (bits old 49 44) (bits v 49 44)
  setBits (setBits v 61 58 b) 49 44 t

/-- The address of a word in the block of port n (20 R606). -/
def portAddr (n off : Nat) : Nat := 0x400000 + 0x80000 * (n / 8) + 0x10000 + 0x1000 * (n % 8) + off

/-- RTE_LOOP is written; an enabled loop begins a window (notes/assumptions/54.md). -/
def State.rteLoopPut (s : State) (m : Mst) (n : Nat) (v : Word) : State :=
  let s := if bits v 63 63 = 1 ∧ s.on (F.rteLoop_EN n) = false then s.windowStart n else s
  (s.cfgWrite m (portAddr n 0x108) (.rteLoop n) (loopNew (s.get (.rteLoop n)) v)).1

/-- 10 R336, R337: RTE_LOOP is written. -/
def execRteLoopWrite (m : Mst) (n : PortNum) (v : Word) (s : State) : Out :=
  regWriteRow m (portAddr n 0x108) v (fun s v => s.rteLoopPut m n v) s

/-! ## Flagged packets (10 R344) -/

/-- A held flagged packet leaves; its copy counts as sent now. -/
def State.releaseFlagged (s : State) (h : Held) : State :=
  let s := { s with route := { s.route with flagged := s.route.flagged.filter (·.id ≠ h.id) } }
  let cp (x : TxCopy) : TxCopy := if x.pkt == h.pkt then { x with sentAt := s.now, sentTim := s.tim } else x
  let tx (t : Tx) : Tx := { t with copies := t.copies.map cp }
  let s := { s with conns := s.conns.each fun _ c => { c with tx0 := tx c.tx0, tx1 := tx c.tx1 } }
  s.inject h.pkt h.owner none h.sender

/-- 10 R344: a held flagged packet is released once every earlier packet it waits for is covered, in a drain one of the reply class
only (R351). -/
def execFlaggedRelease (id : Nat) (s : State) : Out :=
  match s.route.flagged.find? (·.id == id) with
  | some h => if h.behind.any s.unsacked || s.drainHolds h.pkt || s.halted then .next s else fin (s.releaseFlagged h)
  | none => .next s

/-! ## Arrivals (10 R346, R347) -/

/-- The arrival event of a datagram, and its delivery by the library where no context's sketch takes it (10 R346,
notes/assumptions/17.md); one that is discarded is not metered (04 R133). -/
def State.dgramIn (s : State) (p : Packet) (mark : Bool) : State :=
  let s := s.policerCharge (p.get H.tenant) p.cost
  let s := s.postSteered
    { entry := 14, cls := 5, kind := 2, tenant := p.get H.tenant, key := p.get H.src, polmark := mark, pkt := some p,
      inbound := true }
  if s.served 2 (p.get H.src) 5 14 (p.get H.tenant) then s.meterRx p
  else
    match s.deliverOne p with
    | (s, true) => s.meterRx p
    | (s, false) => s.count F.rteStat_DG_DROP

/-- 10 R346: a datagram arrives at its destination. -/
def execDgramArrival (p : Packet) (s : State) : Out :=
  if p.get H.ptype ≠ PT.dgram ∨ s.halted = true then .next s
  else
    let s := s.unarrive p
    let t := p.get H.tenant
    if !p.crcOk then fin s
    else if s.policed t && s.rd (F.ten_DG_ACT t) != 0 then
      if s.rd (F.ten_DG_ACT t) = 1 then fin ((s.count (F.ten_POL_MARKED t)).dgramIn p true)
      else fin (s.count (F.ten_POL_DROPPED t))
    else fin (s.dgramIn p false)

/-- The entry of RTE_MGMT_SRC that names an endpoint, or 8 for a SERVICE port. -/
def State.mgmtVia (s : State) (src : Nat) (port : Option (Fin 128)) : Option (Fin 9) :=
  match (List.finRange 8).find? fun (i : Fin 8) => s.on (F.rteMgmtSrc_EN i) && s.rd (F.rteMgmtSrc_ENDPOINT i) == src with
  | some i => some (Fin.castSucc i)
  | none => if port.any fun n => s.rd (F.rtePort_ROLE n) == PR.service then some 8 else none

/-- The port that a packet for this device came over. -/
def State.arrivedBy (s : State) (p : Packet) (said : Option PortNum) : Option PortNum :=
  match s.arrivedOf p with
  | some h => h.inPort.map (Fin.ofNat 128)
  | none => said

/-- 10 R347: a management packet arrives, by the port that it came over if by any: the one kept with the
delivered packet; `inPort` counts for a packet that no earlier command delivered (notes/assumptions/9.md). -/
def execMgmtArrival (p : Packet) (inPort : Option PortNum) (s : State) : Out :=
  if p.get H.ptype ≠ PT.mgmt ∨ s.halted = true then .next s
  else
    let inPort := s.arrivedBy p inPort
    let s := (s.unarrive p).policerCharge (p.get H.tenant) p.cost
    if !p.crcOk then fin s
    else
      match s.mgmtVia (p.get H.src) inPort with
      | none => fin (s.count F.rteStat_MGMT_REFUSED)
      | some i =>
        let r : MgmtReq :=
          { via := i, port := inPort, src := BitVec.ofNat 20 (p.get H.src), mtag := BitVec.ofNat 16 (bits (wordOfBytes p.payload) 47 32) }
        let s := (s.meterRx p).postSteered
          { entry := 15, cls := 6, kind := 15, tenant := p.get H.tenant, key := 0, pkt := some p, inbound := true }
        fin { s with route := { s.route with mgmt := s.route.mgmt ++ [{ req := r, body := p.payload }] } }

/-! ## Commands of the warden (10 R348) -/

/-- MCMD of a command (10 R348). -/
def mcmdOf (bs : List Byte) : Nat := bits (wordOfBytes bs) 63 56

/-- The payload of a command without arguments (10 R348). -/
def saysPlain (c : Nat) (bs : List Byte) : Bool := mcmdOf bs == c

/-- The payload of READ_REG or WRITE_REG of a register (10 R348). -/
def saysReg (c : Nat) (a : BitVec 25) (bs : List Byte) : Bool := mcmdOf bs == c && bits (wordOfBytes (bs.drop 8)) 24 0 == a.toNat

/-- The payload of WRITE_REG of a value to a register (10 R348). -/
def saysWrite (a : BitVec 25) (v : Word) (bs : List Byte) : Bool := saysReg 2 a bs && wordOfBytes (bs.drop 16) == v

/-- The payload of FWCTL with an entry and its data (10 R348). -/
def saysEntry (e : Octet) (data bs : List Byte) : Bool := mcmdOf bs == 7 && bs.drop 16 == e.toByteList ++ data

/-- The accepted command of a requester whose payload is as it is told, oldest first. -/
def State.asked (s : State) (r : MgmtReq) (spells : List Byte → Bool) : Option MgmtAsk :=
  s.route.mgmt.find? fun a => a.req == r && spells a.body

/-- The waiting commands without one. -/
def State.unasked (s : State) (a : MgmtAsk) : State := { s with route := { s.route with mgmt := s.route.mgmt.erase a } }

/-- The warden carries out a command that it has accepted, as its payload says, and discards one whose answer, with `n` bytes of
data, cannot be sent at once (10 R349); another does not exist (notes/assumptions/9.md). -/
def State.mgmtRow (s : State) (r : MgmtReq) (spells : List Byte → Bool) (n : Nat) (f : State → State) : Out :=
  match s.asked r spells with
  | none => .next s
  | some a =>
    if s.halted then .next s
    else
      let s := s.unasked a
      if s.leavesNow (s.mgmtPort r) (s.mgmtPacket r 0 0 (List.replicate n 0)) then fin (f s) else .next s

/-- The master of a command (15 R479). -/
def mgmtMst (r : MgmtReq) : Mst := BitVec.ofNat 16 (0x6000 + r.via.val)

/-! ## Draining (10 R350 to R353) -/

/-- EMPTY (10 R352): no packet but MGMT waits for an output, for its unit, or in a steered event queue. -/
def State.deviceEmpty (s : State) : Bool :=
  let plain (p : Packet) : Bool := p.get H.ptype != PT.mgmt
  let ev (e : Event) : Bool := e.pkt.any plain
  !(s.route.held.any (fun h => plain h.pkt) || s.route.arrived.any (fun h => plain h.pkt)
    || s.route.parked.any (fun h => plain h.pkt) || s.route.landing.any (fun x => plain x.item.pkt)
    || s.ports.any (fun p => p.2.txq.any fun i => plain i.pkt)
    || s.sandbox.waiting.any ev || s.engs.any fun g => g.2.queue.any ev)

/-- RTE_DRAIN as it reads. -/
def State.drainWord (s : State) : Word := setBits (s.get .rteDrain) 60 60 s.deviceEmpty.toNat

/-- START (10 R351). -/
def State.drainStart (s : State) : State :=
  if s.rd F.rteCfg_DSTATE = 0 then
    let s := (s.wr F.rteCfg_DSTATE 1).wr F.rteDrain_ACTIVITY 0
    { s with route := { s.route with drainAt := s.now } }
  else s

/-- SWITCH (10 R353). -/
def State.drainSwitch (s : State) : State :=
  if s.rd F.rteCfg_DSTATE = 1 then (s.wr F.rteCfg_BANK (1 - s.rd F.rteCfg_BANK)).wr F.rteCfg_DSTATE 2 else s

/-- The time from a start until now that lies within the drain. -/
def State.drainedSince (s : State) (t : Nat) : Nat := s.now - max s.route.drainAt t

/-- The retransmission timers and tree timeouts go on from where the drain stopped them (10 R351). -/
def State.timersGo (s : State) : State :=
  let cp (x : TxCopy) : TxCopy := { x with pause := x.pause + s.drainedSince x.sentAt }
  let tx (t : Tx) : Tx := { t with copies := t.copies.map cp }
  { s with
    conns := s.conns.each fun _ c =>
      { c with tx0 := tx c.tx0, tx1 := tx c.tx1, rekeySent := c.rekeySent.map fun t => t + s.drainedSince t }
    trees := s.trees.each fun _ t => { t with progress := t.progress + s.drainedSince t.progress } }

/-- RESUME (10 R353): injection and timers start again, with the packets that the drain alone held back. -/
def State.drainResume (s : State) : State :=
  if s.draining then
    let s := s.timersGo.wr F.rteCfg_DSTATE 0
    let s := (s.route.flagged.filter (·.behind.isEmpty)).foldl State.releaseFlagged s
    s.conns.foldl (fun t c => t.txWaiting c.1) s
  else s

/-- A drain step, as an MGMT command that is answered, or as a write to RTE_DRAIN. -/
def State.drainStep (s : State) (o : Origin) (mcmd bit : Nat) (f : State → State) : Out :=
  match o with
  | .mgmt r => s.mgmtRow r (saysPlain mcmd) 0 fun s => (f s).mgmtAnswer r mcmd MS.ok []
  | .reg m => regWriteRow m 0x8308 (setBits 0 bit bit 1) (fun s _ => f s) s

/-- 10 R348, R351: DRAIN, or START. -/
def execDrain (o : Origin) (s : State) : Out := s.drainStep o 3 63 State.drainStart

/-- 10 R348, R353: SWITCH. -/
def execSwitch (o : Origin) (s : State) : Out := s.drainStep o 4 62 State.drainSwitch

/-- 10 R348, R353: RESUME. -/
def execResume (o : Origin) (s : State) : Out := s.drainStep o 5 61 State.drainResume

/-- RTE_DRAIN is written: START, SWITCH and RESUME act in that order. -/
def State.drainWrite (s : State) (v : Word) : State :=
  let s := if bits v 63 63 = 1 then s.drainStart else s
  let s := if bits v 62 62 = 1 then s.drainSwitch else s
  if bits v 61 61 = 1 then s.drainResume else s

/-- 10 R348: STATUS. -/
def execStatus (r : MgmtReq) (s : State) : Out :=
  s.mgmtRow r (saysPlain 6) 8 fun s => s.mgmtAnswer r 6 MS.ok (bytesOf 8 s.drainWord.toNat)

/-- The warden places an entry, and its data, for the firmware control ring (10 R349, 03 R69). -/
def State.fwctlPlace (s : State) (r : MgmtReq) (e : Octet) (data : List Byte) : State :=
  let pi := s.rd (F.qctx_PI 0)
  let s := if data = [] then s else s.devWrite (e.get W.laddr % 2 ^ 48) data
  let s := s.devWrite (s.slotAddr 0 pi 64) e.toByteList
  let s := { s with route := { s.route with fwctl := s.route.fwctl.put pi r } }
  (s.bell 0 (pi + 1)).1

/-- 10 R348, R349: FWCTL: a malformed entry is refused with its REASON; a ring without room is busy; else the answer
follows the entry's completion. -/
def execFwctl (r : MgmtReq) (e : Octet) (data : List Byte) (s : State) : Out :=
  s.mgmtRow r (saysEntry e data) 1 fun s =>
    match s.malReason 0 e none with
    | some why => s.mgmtAnswer r 7 MS.refused [BitVec.ofNat 8 why]
    | none =>
      if s.qState 0 ≠ QS.active ∨ s.qDepth 0 = 2 ^ s.qLog 0 then s.mgmtAnswer r 7 MS.busy []
      else s.fwctlPlace r e data

end Sys2Proof.Machine
end

