-- ==== Sys2Proof/Machine/LinkRows.lean ====
section
/-! DEFINITION. The commands of the link layer (11): data frames, replay, control frames, fabric time, retrain, link
down and link up. -/

namespace Sys2Proof.Machine

/-! ## Data frames (11 R360 to R373) -/

/-- The bytes of a received frame: what its data slots spell, where they are given (12 R403). -/
def seenFrame (x : FrameSeen) (bytes : List Byte) : Option (List Byte) := if x.slots.isEmpty then some bytes else slotFrame x.slots

/-- 11 R367, 12 R403: a data frame arrives. Slots that spell no frame are no frame. -/
def execReceiveDataFrame (n : PortNum) (bytes : List Byte) (seen : FrameSeen) (s : State) : Out :=
  match seenFrame seen bytes with
  | some bs => if s.receives n then fin (s.receiveFrame n bs seen.err seen.cut) else .next s
  | none => .next s

/-- A packet leaves as a new data frame with the next FSEQ (11 R366, R369, R371), stomped when it has failed the parity of its
island's switch (16 R511, R530). -/
def State.frameOut (s : State) (n : Nat) (i : TxItem) (rest : List TxItem) : State :=
  let q := s.rd (F.lnkStat_NEXT n)
  let f : RFrame := { fseq := q, pkt := i.pkt, mark := i.mark, pool := i.pool, stomp := i.stomp || i.parity }
  let s := if i.parity then s.raise (Src.XBAR_PARITY (n / 8)) { addr := n, atype := 14 } else s
  let s := (s.setPort n fun p => { p with txq := rest }).sendFrame n f
  let s := s.wr (F.lnkStat_NEXT n) (q + 1)
  let s := s.setPort n fun p =>
    { p with replay := p.replay ++ [f], timer := if p.replay.isEmpty then s.now else p.timer, expired := p.expired && !p.replay.isEmpty }
  ((s.rbSync n).tally (n / 8) 0x0B).ownerDone i.owner

/-- 11 R369: the oldest packet that has won this port is sent. -/
def execSendDataFrame (n : PortNum) (s : State) : Out :=
  match (s.port n).txq with
  | [] => .next s
  | i :: t =>
    if s.portUp n && (s.port n).retrain.isNone && !s.halted && s.replayRoom n i.pkt then fin (s.frameOut n i t) else .next s

/-- 11 R371, R372: the replay timer expires; one that expired at the edge of a FACK stands. -/
def execReplayTimerExpiry (n : PortNum) (s : State) : Out :=
  let p := s.port n
  if p.replay.isEmpty || p.retrain.isSome || s.halted || !s.portUp n then .next s
  else fin ((if p.expired then s else s.passTo (s.replayTimer n)).replayDue n)

/-! ## Control frames (11 R376 to R382) -/

/-- 11 R377: a CREDIT frame is due: by its period, or because a counter changed and no data frame is ready. -/
def execCreditFramePeriod (n : PortNum) (s : State) : Out :=
  let p := s.port n
  if !p.aligned || p.retrain.isSome || s.halted then .next s
  else if p.creditDirty && !s.dataReady n then fin ((s.ctlDue n CD.credit).ctlPeriods n)
  else fin ((s.passTo (p.creditAt + max 1 (s.rd F.lnkGlbCfg_CRPERIOD) * 10)).ctlPeriods n)

/-- A control frame of a kind arrives; a good frame of another kind is that kind's command (notes/assumptions/9.md). -/
def State.controlRow (s : State) (n : Nat) (ok : Nat → Bool) (f : Octet) : Out :=
  if controlVerdict f ≠ .bad ∧ bits f.w0 63 56 = 0x5C ∧ ok (bits f.w0 55 52) = false then .next s
  else fin (s.receiveControl n f)

/-- 11 R380: a CREDIT frame arrives, or a frame of a reserved kind, of which only word 0 is used. -/
def execCreditFrame (n : PortNum) (f : Octet) (s : State) : Out := s.controlRow n (fun k => k == 0 || decide (4 ≤ k)) f

/-- 10 R334, 11 R380: a TIDE frame arrives. -/
def execTideFrame (n : PortNum) (f : Octet) (s : State) : Out := s.controlRow n (· == 1) f

/-- 11 R390, R391: a TIME frame arrives. -/
def execTimeFrame (n : PortNum) (f : Octet) (s : State) : Out := s.controlRow n (· == 2) f

/-- 12 R412: a LANE frame arrives. -/
def execLaneFrame (n : PortNum) (f : Octet) (s : State) : Out := s.controlRow n (· == 3) f

/-! ## Fabric time (11 R389, R390) -/

/-- 11 R389: an UP port sends its TIME frame. -/
def execTimeFramePeriod (n : PortNum) (s : State) : Out :=
  if s.on F.lnkGlbCfg_TEN && s.portUp n && (s.port n).retrain.isNone && !s.halted then
    fin ((s.passTo ((s.port n).timeAt + s.tPeriod)).ctlPeriods n)
  else .next s

/-- The parent's announcement has lapsed: another port qualifies, or the device free-runs (11 R390). -/
def State.parentLost (s : State) (n : Nat) : State :=
  match s.bestParent with
  | some _ => s.elect
  | none => (s.ownTime true).raise (Src.LNK_TIME_LOST n) { addr := n, atype := 6, unit := n }

/-- 11 R390: the parent's announcement lapses. -/
def execGmAnnounceLapse (s : State) : Out :=
  let n := s.rd F.lnkTimeStat_PARENT
  if s.on F.lnkTimeStat_GM || s.on F.lnkTimeStat_FREERUN || s.rd F.lnkTimeStat_DIST == 0 || s.halted then .next s
  else
    match s.announcement n with
    | some t => fin ((s.passTim (t.atTim + 4 * s.tPeriod + 1)).parentLost n)
    | none => fin (s.parentLost n)

/-! ## Retrain, link down and link up (11 R383 to R388, 12 R416, R417) -/

/-- A fast retrain has succeeded: the count is zero, the port replays, and a need that it put off is asked again. -/
def State.retrainOk (s : State) (n : Nat) : State :=
  let s := s.setPort n fun p =>
    { p with retrain := none, count := 0, more := 0, retrainedAt := some s.now, req := if p.req = 1 then 0 else p.req }
  (((s.setPstate n 3).setLstate n 2).replayNow n).needAgain n

/-- The end of the periods that a fast retrain has from the start of its training (12 R416): RT_LIMIT of 2,631.44 ns. -/
def State.retrainLimit (s : State) (n : Nat) (r : Retrain) : Nat :=
  r.trainAt + max 1 (s.rd (F.prtCfg_RT_LIMIT n)) * 263144 / 100

/-- 12 R416, 11 R383, R384: a fast retrain ends: it succeeds when the receiver holds block lock and deskew on every lane of the
peer's map, after the two periods of PRBS31 and within RT_LIMIT periods; at that limit it fails. Where `ok` says that lanes
are held that are not, nothing has ended yet; where they are held it succeeds whatever `ok` says. -/
def execFastRetrainEnd (n : PortNum) (ok : Bool) (s : State) : Out :=
  match (s.port n).retrain with
  | some r =>
    if !r.training || s.halted then .next s
    else if decide (s.now ≤ s.retrainLimit n r) && s.lanesReady n && r.prbs == 2 then fin (s.retrainOk n)
    else if ok && decide (s.now ≤ s.retrainLimit n r) then .next s
    else fin ((s.passTo (s.retrainLimit n r)).linkDown n)
  | none => .next s

/-- 12 R416: four periods without an acceptance: the initiator trains from its next period boundary. -/
def execRetrainAcceptTimeout (n : PortNum) (s : State) : Out :=
  match (s.port n).retrain with
  | some r =>
    if r.training || r.accepted || !r.initiator || s.halted then .next s
    else
      let s := s.passTo (r.began + 10526)
      fin (s.setPort n fun p => { p with retrain := some { r with accepted := true } })
  | none => .next s

/-- The training pattern of a link down ends, sent since `t`: bring-up starts (11 R384). -/
def State.patternEnd (s : State) (n t : Nat) : State := (s.patternOut n (s.now - t)).bringUp n

/-- 11 R384: the training pattern of a link down has been sent for 10 µs: bring-up starts. -/
def execLinkDownPatternEnd (n : PortNum) (s : State) : Out :=
  match (s.port n).patternAt with
  | some t => if s.halted then .next s else fin ((s.passTo (t + 10000)).patternEnd n t)
  | none => .next s

/-- What R388 asks for before a link comes up. -/
def State.mayComeUp (s : State) (n : Nat) : Bool :=
  let p := s.port n
  p.aligned && p.creditSeen && p.replay.isEmpty && !s.portUp n && !s.halted
    && !s.route.held.any (fun h => h.replayOf == some n || h.inPort == some n)
    && !(s.route.arrived ++ s.route.parked).any fun h => h.inPort == some n

/-- A link comes up (11 R388): the sequence starts at zero, and the counters take the values of R374. -/
def State.comeUp (s : State) (n : Nat) : State :=
  let s := ((s.wr (F.lnkStat_NEXT n) 0).wr (F.lnkStat_RMARK n) 0).wr (F.lnkStat_EXPECT n) 0
  let s := (List.range 9).foldl (fun t j => t.wr (F.lnkCredit_USED n j) 0) s
  let s := s.setPort n fun p =>
    { p with count := 0, more := 0, retrainedAt := none, nakPending := false, nakDue := false, recvd := [], grant := grantStart
             expired := false, replaying := none }
  ((s.wr (F.rtePort_UP n) 1).setLstate n 2).condClear (Src.LNK_DOWN n) n

/-- 11 R388: a link comes up. -/
def execLinkUp (n : PortNum) (s : State) : Out := if s.mayComeUp n then fin (s.comeUp n) else .next s

end Sys2Proof.Machine
end

