-- ==== Sys2Proof/Machine/LaneRows.lean ====
section
/-! DEFINITION. The commands of the lane layer and of the lamp modules (12). -/

namespace Sys2Proof.Machine

/-! ## Locks and classes (12 R405 to R408) -/

/-- Receivers hunt from step 6 of boot on (R409, 18 R570). -/
def State.hunting (s : State) : Bool := s.boot.phase == .running && !s.halted

/-- A lane has lost block lock, and alignment lock with it (R406); the loss counts for its window but from the start of a
retrain's training to its end, when PRBS31 takes the blocks away (DESIGN CHOICE, notes/assumptions/67.md). -/
def State.lockLost (s : State) (n l : Nat) : State :=
  let s :=
    if s.on (F.lneStat_BLOCK n l) then
      (s.count (F.lneCnt_LOCKLOSS n l)).setPort n fun p => { p with lost := if p.retrain.any (·.training) then p.lost else l :: p.lost }
    else s
  (s.wr (F.lneStat_BLOCK n l) 0).wr (F.lneStat_ALOCK n l) 0

/-- A lane takes alignment lock by an alignment block, whose PLANE places it (R407). -/
def State.lockGained (s : State) (n l : Nat) (p : BitVec 128) : State :=
  let a := { alignOf p with at' := s.now }
  let s := ((s.wr (F.lneStat_CDRLOCK n l) 1).wr (F.lneStat_ALOCK n l) 1).wr (F.lneStat_PEERLANE n l) a.plane
  (s.setPort n fun q => { q with aligns := q.aligns.put l a }).identitySync n

/-- 12 R405: a receiving lane finds AMARK in two payloads one period apart and gains alignment lock. -/
def execAlignmentLockGain (on : PhysLane) (seen : Vector (BitVec 128) 2) (s : State) : Out :=
  if s.held then .next s
  else
    if s.hunting && seen.toList.all amarkFound then fin (s.lockGained on.port on.lane seen[1]) else .next s

/-- 12 R405: a receiving lane misses AMARK where it expects it in four consecutive periods, and loses alignment lock, under
which it holds block lock. -/
def execAlignmentLockLoss (on : PhysLane) (seen : Vector (BitVec 128) 4) (s : State) : Out :=
  if s.on (F.lneStat_ALOCK on.port on.lane) && !seen.toList.any amarkFound then fin (s.lockLost on.port on.lane) else .next s

/-- The 64 headers that a lane checks (R406): those of the codewords it decodes, where they are given. -/
def State.headersOn (s : State) (on : PhysLane) (headers : Vector (BitVec 2) 64) : List (BitVec 2) :=
  if on.words.isEmpty then headers.toList else (rsHeaders (s.port on.port).fecMode on.words).take 64

/-- The class of a lane that has just gained block lock, until its window ends (notes/assumptions/67.md). -/
def State.lockedClass (s : State) (n l : Nat) : Nat := if s.miswired n l || s.fecDiffers n l then LC.failed else LC.ok

/-- 12 R406: a lane under alignment lock gains block lock after 64 valid headers; it is no longer NONE. -/
def execBlockLockGain (on : PhysLane) (headers : Vector (BitVec 2) 64) (s : State) : Out :=
  if s.held then .next s
  else
    let n := on.port
    let l := on.lane
    let hs := s.headersOn on headers
    if s.hunting && s.on (F.lneStat_ALOCK n l) && !s.on (F.lneStat_BLOCK n l) && decide (hs.length = 64) && hs.all headerValid then
      let s := s.wr (F.lneStat_BLOCK n l) 1
      fin (if s.rd (F.lneStat_RXHEALTH n l) = LC.none then s.wr (F.lneStat_RXHEALTH n l) (s.lockedClass n l) else s)
    else .next s

/-- 12 R406: a lane loses block lock on 16 invalid headers within 64. -/
def execBlockLockLoss (on : PhysLane) (headers : Vector (BitVec 2) 64) (s : State) : Out :=
  if s.held then .next s
  else
    if s.on (F.lneStat_BLOCK on.port on.lane)
        && decide (16 ≤ ((s.headersOn on headers).filter fun h => !headerValid h).length) then
      fin (s.lockLost on.port on.lane)
    else .next s

/-- Corrected symbols and uncorrectable codewords of a window: those of the codewords given beside the counts (R406, R408). -/
def State.obsCounts (s : State) (n : Nat) (o : LaneObs) : LaneObs :=
  let c := rsCounts (s.port n).fecMode o.words
  { o with symCorr := o.symCorr + c.1, uncorr := o.uncorr + c.2 }

/-- One lane's window: counts, skew and class (R408), and where its loops stand (R404). -/
def State.laneWindow (s : State) (n l : Nat) (o : LaneObs) : State :=
  let o := s.obsCounts n o
  let c := s.laneClass n l o
  let s := (s.count (F.lneCnt_SYMCORR n l) o.symCorr).count (F.lneCnt_UNCORR n l) o.uncorr
  let s := s.set (.lneEq n l) (eqNew (s.get (.lneEq n l)) o.ctle o.dfe o.cdrPhase o.eye)
  (s.wr (F.lneStat_SKEW n l) (min 65535 o.skew)).wr (F.lneStat_RXHEALTH n l) c

/-- The windows of a port's lanes, and what follows from their classes (R408, R412, R415, R428). -/
def State.laneWindows (s : State) (n : Nat) (obs : List LaneObs) : State :=
  let s := (List.range 5).foldl (fun t l => match obs[l]? with | some o => t.laneWindow n l o | none => t) s
  let s := s.setPort n fun p => { p with lost := [] }
  let bad := (List.range 5).any fun l => s.rd (F.lneStat_RXHEALTH n l) == LC.degraded
  let s := if bad then s.condRise (Src.LNE_DEGRADED n) n { addr := n, atype := 14, unit := n }
    else s.condClear (Src.LNE_DEGRADED n) n
  s.widthCheck n

/-- 12 R408: a 1 ms window ends. -/
def execLaneClassWindow (n : PortNum) (obs : List LaneObs) (s : State) : Out :=
  if s.held then .next s else fin (s.laneWindows n obs)

/-! ## Bring-up and lane records (12 R399, R409 to R413) -/

/-- 12 R409: TRAIN_MIN has passed, PRBS31 on all lanes: alignment periods under the first map. -/
def execTrainPhaseEnd (n : PortNum) (s : State) : Out :=
  if s.held then .next s
  else
    if s.rd (F.prtStat_PSTATE n) = 1 ∧ s.halted = false then
      let s := s.passTo ((s.port n).phaseAt + max 1 (s.rd (F.prtCfg_TRAIN_MIN n)) * 100000)
      let s := s.patternOut n (s.now - (s.port n).phaseAt)
      let s := (s.wr (F.prtStat_TXMAP n) 0x688).wr (F.prtStat_WIDTH n) 4
      fin (s.setPstate n 2)
    else .next s

/-- 12 R409, R410: the receiver holds every lane of the peer's map. -/
def execPortAligned (n : PortNum) (s : State) : Out :=
  if s.rd (F.prtStat_PSTATE n) = 2 ∧ s.lanesReady n = true ∧ s.halted = false then fin (s.aligned n) else .next s

/-- The CRC and the marker of a lane record hold (12 R411). -/
def recordOk (r : Octet) : Bool :=
  bits r.w0 63 48 == 0x4C52 && BitVec.ofNat 32 (bits r.w7 63 32) == crc32c (r.toByteList.take 56)

/-- A good lane record arrives on a lane (12 R407, R408, R410 to R412). -/
def State.recordIn (s : State) (n l : Nat) (r : Octet) : State :=
  let plane := bits r.w0 40 38
  let dnv := bits r.w0 36 36 == 1
  let dev := bits r.w0 35 18
  let q : LanePeer := { plane := plane, port := bits r.w0 47 41, uid := r.w1.toNat, fecm := bits r.w0 37 37 }
  let s := s.wr (F.lneStat_PEERLANE n l) plane
  let s := s.setPort n fun p => { p with peers := p.peers.put l q, peerDnv := if dnv then some dev else none }
  let s := if dnv && (s.rd (F.prtStat_PSTATE n) == 3 || s.rd (F.prtStat_PSTATE n) == 4) then s.wr (F.rtePort_NBR n) dev else s
  (s.identitySync n).peerWordsIn n { w2 := r.w2, w3 := r.w3, w4 := r.w4, w5 := r.w5 }

/-- The lane record of four received blocks, by the 58 scrambled bits received before them (12 R399, R401). -/
def recordOf (prev : BitVec 58) (bs : List Block) : Option Octet := (recordBytes prev bs).map Octet.ofByteList

/-- 12 R401, R412: a lane record arrives under block lock. -/
def execLaneRecordReceive (on : PhysLane) (prev : BitVec 58) (blocks : List Block) (s : State) : Out :=
  if s.held then .next s
  else
    match recordOf prev blocks with
    | some r => if s.on (F.lneStat_BLOCK on.port on.lane) && recordOk r && !s.halted then fin (s.recordIn on.port on.lane r) else .next s
    | none => .next s

/-- The peer's announced map comes into use at this receiver (12 R413). -/
def State.applyPeerMap (s : State) (n : Nat) : State :=
  let w := (s.port n).peerWords.w3
  if bits w 63 63 = 1 then s.wr (F.prtStat_RXMAP n) (bits w 11 0) else s

/-- The port's own announced map has not come into use yet. -/
def State.mapPending (s : State) (n : Nat) : Bool :=
  match (s.port n).pend with
  | some c => !s.mapApplied n c
  | none => false

/-- 12 R413: an announced map comes into use: the port's own, or else the peer's. -/
def execMapChangeApply (n : PortNum) (s : State) : Out :=
  if s.halted then .next s else if s.mapPending n then fin (s.applyMap n) else fin (s.applyPeerMap n)

/-- 12 R414: a failing mapped lane is swapped for the spare. -/
def execLaneSpareSwap (n : PortNum) (s : State) : Out :=
  if (s.rd (F.prtStat_PSTATE n) = 2 ∨ s.rd (F.prtStat_PSTATE n) = 3) ∧ s.halted = false then fin (s.spareSwap n) else .next s

/-- The lane records of a period leave on all five lanes. -/
def State.sendRecords (s : State) (n : Nat) : State :=
  (List.range 5).foldl (fun t l => t.emit (.laneRecord n (t.laneRecord n l))) s

/-- The logical lane whose blocks a physical lane carries: its own in the map, or the one it copies while MIRROR shows so (12
R414); none on a spare, which carries IDLE. -/
def State.laneCarries (s : State) (n l : Nat) : Option Nat :=
  let find (m : Nat) := (List.range (s.rd (F.prtStat_WIDTH n))).find? fun i => mapLane m i == l
  match find (s.rd (F.prtStat_TXMAP n)) with
  | some i => some i
  | none =>
    if s.on (F.lneStat_MIRROR n l) then
      match (s.port n).mirror, (s.port n).pend with
      | some old, _ => find old
      | none, some c => find c.map
      | none, none => none
    else none

/-- The symbols of a period leave on a physical lane (R397 to R403), with the units given to the port's lanes. -/
def State.sendLine (s : State) (n l : Nat) (units : List Block) : State :=
  let mine := match s.laneCarries n l with | some i => laneUnits (s.rd (F.prtStat_WIDTH n)) i units | none => []
  let fec := (s.port n).fecMode
  let b := periodBits ((s.port n).scr.at l 0) l fec (s.rd (F.prtStat_PCOUNT n)) mine (s.laneRecord n l).toByteList
  (s.emit (.line n l (pamList (lineBits fec b.1)))).setPort n fun p => { p with scr := p.scr.put l b.2 }

/-- A period leaves on all five lanes: the units that wait take its data slots (notes/assumptions/55.md); a replay whose units have
all gone is no longer being sent (11 R371). -/
def State.sendPeriod (s : State) (n : Nat) : State :=
  let k := slotsPerPeriod * s.rd (F.prtStat_WIDTH n)
  let units := (s.port n).units.take k
  let s := s.setPort n fun p =>
    { p with units := p.units.drop k, replaying := p.replaying.bind fun r => if r.2 ≤ units.length then none else some (r.1, r.2 - units.length) }
  (List.range 5).foldl (fun t l => t.sendLine n l units) s

/-- The line bits of a period on a lane (R402). -/
abbrev periodLineBits : Nat := 565760

/-- A period of PRBS31 leaves on all five lanes (12 R416). -/
def State.sendPrbs (s : State) (n : Nat) : State := (List.range 5).foldl (fun t l => t.emit (.prbs31 n l periodLineBits)) s

/-- A fast retrain at a period boundary (12 R416): once accepted it trains, for two periods of PRBS31; whether this period is one
of them. -/
def State.retrainPeriod (s : State) (n : Nat) : State × Bool :=
  match (s.port n).retrain with
  | some r =>
    if r.training then
      if r.prbs < 2 then (s.setPort n fun p => { p with retrain := some { r with prbs := r.prbs + 1 } }, true) else (s, false)
    else if r.accepted then
      (s.setPort n fun p => { p with retrain := some { r with training := true, trainAt := s.now, prbs := 1 } }, true)
    else (s, false)
  | none => (s, false)

/-- An alignment period starts (12 R399, R412 to R414, R416): the count advances, the spare of an announced swap starts to copy,
an announced map comes into use at PPERIOD, and PEND clears after PPERIOD + 1; a LANE frame is due. In the two training
periods of a retrain PRBS31 stands for it. -/
def State.periodStart (s : State) (n : Nat) : State :=
  let c := (s.rd (F.prtStat_PCOUNT n) + 1) % 256
  let s := s.wr (F.prtStat_PCOUNT n) c
  let s := match (s.port n).pend with
    | some k =>
      if c = k.at' then s.applyMap n else if c = (k.at' + 2) % 256 then s.clearPend n else s.mirrorStart n
    | none => s
  let (s, train) := s.retrainPeriod n
  if train then s.sendPrbs n else (((s.ctlDue n CD.lane).ctlFlush n).sendRecords n).sendPeriod n

/-- 12 R399: a transmitter starts an alignment period, in every phase from IDLE on. -/
def execAlignmentPeriodStart (n : PortNum) (s : State) : Out :=
  let p := s.rd (F.prtStat_PSTATE n)
  if (p = 2 ∨ p = 3 ∨ p = 4) ∧ s.halted = false then fin (s.periodStart n) else .next s

/-! ## Port control (12 R415, R416, R418, R427) -/

/-- The width that both directions' usable lanes allow, at most four. -/
def State.widest (s : State) (n : Nat) : Nat := min 4 (s.usable n)

/-- The lane state of a port goes (18 R562): what its lanes and its peer have shown, its maps and its requests. PRT_CFG, LNE_EQ and
counters stay. -/
def State.laneReset (s : State) (n : Nat) : State :=
  let s := s.resetRegs fun r => match r with
    | .prtStat k => k == n
    | .lneStat k _ => k == n
    | _ => false
  (s.setPort n fun p =>
    { p with
      peers := [], aligns := [], scr := [], peer := none, peerDnv := none, lost := [], rseq := 0, ackSeq := 0, rwidth := 0
      retrainedAt := none, more := 0 }).identitySync n

/-- A port is reset (18 R562): its link is declared down (11 R384), its lane state goes, and the pointers of its outputs return to
position 0 (01 R27). -/
def State.portReset (s : State) (n : Nat) : State :=
  let s := (s.linkDown n).laneReset n
  { s with route := { s.route with ptrs := s.route.ptrs.filter fun k => k.1 / 8 != n } }

/-- A W1S configuration action is recorded (17 R552, R553): the bits written stand in NEW. -/
def State.askAction (s : State) (m : Mst) (addr : Nat) (r : Reg) (v : Word) : State × Bool :=
  s.askRec m RK.reg addr (s.get r) (s.get r ||| (v &&& fieldMask r fun f => f.acc = .w1s))

/-- The bits of LNE_CTL that may act (12 R415, R416, R418): RETRAIN of a link that is up, WIDEN where a wider width can be asked for,
RESTART. -/
def State.lneActs (s : State) (n : Nat) (v : Word) : Word :=
  let up := s.rd (F.prtStat_PSTATE n) == 3
  let w := if bits v 2 2 = 1 ∧ s.portUp n = true ∧ up = true then setBits 0 2 2 1 else 0
  let w := if w = 0 ∧ bits v 1 1 = 1 ∧ up = true ∧ (s.port n).req = 0 ∧ s.rd (F.prtStat_WIDTH n) < s.widest n then setBits w 1 1 1 else w
  setBits w 0 0 (bits v 0 0)

/-- LNE_CTL is written (12 R418): a bit that may not act is no accepted write (17 R552). -/
def State.lneCtl (s : State) (m : Mst) (n : Nat) (v : Word) : State :=
  let v := s.lneActs n v
  if v = 0 then s
  else
    match s.askAction m (portAddr n 0x10) (.lneCtl n) v with
    | (s, false) => s
    | (s, true) =>
      let s := if bits v 2 2 = 1 then s.startRetrain n true else s
      let s := if bits v 1 1 = 1 then s.requestWidth n (s.widest n) else s
      if bits v 0 0 = 1 then s.linkDown n else s

/-- 12 R416: RETRAIN is written. -/
def execLneRetrain (m : Mst) (n : PortNum) (v : Word) (s : State) : Out :=
  regWriteRow m (portAddr n 0x10) (setBits v 2 2 1) (fun s v => s.lneCtl m n v) s

/-- 12 R415: WIDEN is written. -/
def execLneWiden (m : Mst) (n : PortNum) (v : Word) (s : State) : Out :=
  regWriteRow m (portAddr n 0x10) (setBits v 1 1 1) (fun s v => s.lneCtl m n v) s

/-- 12 R418: RESTART is written. -/
def execLneRestart (m : Mst) (n : PortNum) (v : Word) (s : State) : Out :=
  regWriteRow m (portAddr n 0x10) (setBits v 0 0 1) (fun s v => s.lneCtl m n v) s

/-- PRT_CFG is written (12 R418, R427): bring-up starts when QUIESCE clears. -/
def State.prtCfgPut (s : State) (m : Mst) (n : Nat) (v : Word) : State :=
  let q := s.on (F.prtCfg_QUIESCE n)
  let v := keepField (s.get (.prtCfg n)) v 59 57 fun w => decide (w ≤ 4)
  match s.cfgWrite m (portAddr n 0) (.prtCfg n) v with
  | (s, false) => s
  | (s, true) =>
    if q && !s.on (F.prtCfg_QUIESCE n) && s.rd (F.prtStat_PSTATE n) == 5 && (s.port n).patternAt.isNone then s.bringUp n else s

/-- 12 R427: PRT_CFG is written with a change of QUIESCE. -/
def execQuiesceWrite (m : Mst) (n : PortNum) (v : Word) (s : State) : Out :=
  regWriteRow m (portAddr n 0) v (fun s v => s.prtCfgPut m n v) s

/-- A packet with FERRY set awaits a port that is the FPORT of its target entry (12 R427, 10 R342). -/
def State.ferryAwaits (s : State) (n : Nat) : Bool :=
  s.route.held.any fun h =>
    match s.boundPort h with
    | some k => k == n
    | none =>
      h.wants.any (·.port == n) ||
        match (s.routeOf (s.phase2 h.pkt)).2 with
        | .ferry k => k == n
        | _ => false

/-- 12 R427: every frame of a quiesced port is acknowledged and no packet awaits it: the port stays down. -/
def execQuiesceDone (n : PortNum) (s : State) : Out :=
  if s.on (F.prtCfg_QUIESCE n) && s.rd (F.lnkStat_RMARK n) == s.rd (F.lnkStat_NEXT n) && (s.port n).txq.isEmpty
      && !s.route.landing.any (·.port == n) && !s.ferryAwaits n
      && s.rd (F.prtStat_PSTATE n) != 5 && !s.halted then fin ((s.linkDown n).setPstate n 5)
  else .next s

/-! ## Lamp modules (12 R419 to R426) -/

def State.lamp (s : State) (i : Nat) : Lamp := s.lamps.at i {}
def State.setLamp (s : State) (i : Nat) (f : Lamp → Lamp) : State := { s with lamps := s.lamps.upd i {} f }

/-- The address of a word in the lamp block of island i (20 R606). -/
def lampAddr (i off : Nat) : Nat := 0x400000 + 0x80000 * i + 0x60000 + off

/-- Module states (12 R426). -/
abbrev MD.absent : Nat := 0
abbrev MD.identifying : Nat := 1
abbrev MD.unauth : Nat := 2
abbrev MD.ready : Nat := 3
abbrev MD.lit : Nat := 4
abbrev MD.worn : Nat := 5
abbrev MD.fault : Nat := 6

/-- Emitter states (12 R426). -/
abbrev ES.spare : Nat := 0
abbrev ES.active : Nat := 1
abbrev ES.retired : Nat := 2
abbrev ES.failed : Nat := 3

/-- Causes of a lamp event (12 R425). -/
abbrev LE.spared : Nat := 1
abbrev LE.worn : Nat := 2
abbrev LE.failed : Nat := 3
abbrev LE.unauth : Nat := 4
abbrev LE.removed : Nat := 5
abbrev LE.ready : Nat := 6

/-- BIAS_RATED of a module's identity as last read (12 R420); a warm reset does not change it (18 R566). -/
def State.biasRated (s : State) (i : Nat) : Nat := (s.lamp i).rated

/-- SPARES, INSERVICE and OUT follow the emitters (12 R426). -/
def State.lampSync (s : State) (i : Nat) : State :=
  let st (e : Nat) : Nat := s.rd (F.lmpEmit_ESTATE i e)
  let s := s.wr (F.lmpStat_SPARES i) ((List.range 12).filter fun e => st e == ES.spare).length
  let s := s.wr (F.lmpStat_INSERVICE i) ((List.range 12).foldl (fun v e => if st e = ES.active then v + 2 ^ e else v) 0)
  s.wr (F.lmpStat_OUT i) ((List.range 12).foldl (fun v e => if ES.retired ≤ st e then v + 2 ^ e else v) 0)

/-- A lamp event goes to the pier's and the island's FIFO (12 R425, 02 R56, R58). -/
def State.lampEvent (s : State) (i cause e : Nat) : State :=
  let arg := cause * 2 ^ 56 + e % 16
  (s.evPost 0 2 0x7000 i arg).evPost (1 + i) 2 0x7000 i arg

/-- The audit record of an emitter switch or of a module first lit (17 R553). -/
def State.lampRecord (s : State) (i cause e : Nat) : State :=
  s.audAppend
    { kind := RK.lamp, addr := i + e * 16, old := BitVec.ofNat 64 cause, new := BitVec.ofNat 64 (s.rd (F.lmpEmit_HOURS i e)) }

/-- The raise argument of a lamp source. -/
def lampArg (i : Nat) : RaiseArg := { addr := i, atype := 14 }

/-- The bias set point of an emitter is written to the module (12 R420). -/
def State.biasOut (s : State) (i e : Nat) : State := s.emit (.lamp i (0x220 + 2 * e) (bytesOf 2 (s.rd (F.lmpEmit_BIAS i e))))

/-- The head of an emitter's life record is written to the module (12 R420): HOURS, BIAS_INIT, BIAS_PEAK and ESTATE. -/
def State.lifeOut (s : State) (i e : Nat) : State :=
  s.emit (.lamp i (0x80 + 32 * e)
    (bytesOf 4 (s.rd (F.lmpEmit_HOURS i e)) ++ bytesOf 2 (s.rd (F.lmpEmit_BIAS_INIT i e)) ++ bytesOf 2 ((s.lamp i).peak.at e 0)
      ++ bytesOf 1 (s.rd (F.lmpEmit_ESTATE i e))))

/-- A bias that the spec leaves open, never above BIAS_RATED (12 R423, R424; notes/assumptions/12.md). -/
def State.freeBias (s : State) (i : Nat) : Nat := (Config.freeWord s.free).toNat % (s.biasRated i + 1)

/-- An emitter is lit at a position for the working bias, and its life record says so (12 R420). -/
def State.emitterOn (s : State) (i e p : Nat) : State :=
  let b := s.freeBias i
  let new := s.rd (F.lmpEmit_BIAS_INIT i e) == 0
  let s := ((s.drawn.wr (F.lmpEmit_ESTATE i e) ES.active).wr (F.lmpEmit_POS i e) p).wr (F.lmpEmit_BIAS i e) b
  let s := if new then s.wr (F.lmpEmit_BIAS_INIT i e) b else s
  ((s.setLamp i fun x => { x with peak := x.peak.upd e 0 (max b) }).biasOut i e).lifeOut i e

/-- The emitters of a module that is lit (12 R419): those in service keep their places, or on the first lighting
emitters 0 to 9 take them. -/
def State.lampPlaces (s : State) (i : Nat) : State :=
  let st (e : Nat) : Nat := s.rd (F.lmpEmit_ESTATE i e)
  let act := if (s.lamp i).firstLit then (List.range 12).filter fun e => st e == ES.active else List.range 10
  let own := act.filter (· < 10)
  let empty := (List.range 10).filter fun p => !own.contains p
  let others := (act.filter (10 ≤ ·)).zip empty
  let s := own.foldl (fun t e => t.emitterOn i e e) s
  others.foldl (fun t x => t.emitterOn i x.1 x.2) s

/-- The ports of an island that wait for their transmitters start bring-up (12 R409, 19 R591). -/
def State.islandUp (s : State) (i : Nat) : State :=
  (List.range 8).foldl
    (fun t k =>
      let n := 8 * i + k
      if t.rd (F.prtStat_PSTATE n) = 0 ∧ (t.port n).patternAt.isNone = true then t.bringUp n else t) s

/-- LMP_EN is driven high (12 R422): emitters on; the transmitters of the island's ports start (R409). -/
def State.lampLight (s : State) (i : Nat) : State :=
  if (s.lamp i).en then (s.wr (F.lmpStat_MSTATE i) MD.lit).islandUp i
  else
    let first := !(s.lamp i).firstLit
    let s := ((s.lampPlaces i).wr (F.lmpStat_MSTATE i) MD.lit).lampSync i
    let s := s.setLamp i fun x => { x with en := true, firstLit := true, lastTick := s.now, eol := [], dark := [] }
    let s := if first then (s.lampRecord i LE.ready 0).lampEvent i LE.ready 0 else s
    s.islandUp i

/-- LMP_EN is driven low. -/
def State.lampOff (s : State) (i : Nat) : State := s.setLamp i fun x => { x with en := false }

/-- The module may be lit (12 R422). -/
def State.lampMay (s : State) (i : Nat) : Bool :=
  let st := s.rd (F.lmpStat_MSTATE i)
  st == MD.ready || (st == MD.unauth && s.on (F.lmpCfg_ALLOW_UNAUTH i))

/-- The module is lit by itself (12 R422). -/
def State.lampAuto (s : State) (i : Nat) : Bool := s.lampMay i && s.on (F.lmpCfg_AUTOEN i)

/-- Emitter `e` as the life store gives it (12 R420). -/
def State.lifeIn (s : State) (i : Nat) (bs : List Byte) (e : Nat) : State :=
  let r := bs.drop (0x80 + 32 * e)
  let s := (s.wr (F.lmpEmit_HOURS i e) (ofBytes (r.take 4))).wr (F.lmpEmit_BIAS_INIT i e) (ofBytes ((r.drop 4).take 2))
  let s := s.setLamp i fun x => { x with peak := x.peak.put e (ofBytes ((r.drop 6).take 2)) }
  s.wr (F.lmpEmit_ESTATE i e) (ofBytes ((r.drop 8).take 1))

/-- BIAS_EOL follows EOL_PCT and BIAS_RATED (12 R424). -/
def State.eolSync (s : State) (i : Nat) : State :=
  (List.range 12).foldl
    (fun t e => t.wr (F.lmpEmit_BIAS_EOL i e) ((s.rd (F.lmpCfg_EOL_PCT i) * s.biasRated i + 99) / 100)) s

/-- A module that cannot be read is in FAULT (12 R422). -/
def State.lampFault (s : State) (i : Nat) : State :=
  ((s.wr (F.lmpStat_MSTATE i) MD.fault).lampOff i).raise (Src.LAMP_IDERR i) (lampArg i)

/-- The identity and life stores have been read: the module is challenged (12 R421, R422). -/
def State.lampIdentity (s : State) (i : Nat) (bs : List Byte) : State :=
  let s := ((s.set (.lmpId i 0) (wordOfBytes bs)).set (.lmpId i 1) (wordOfBytes (bs.drop 8))).set (.lmpId i 2) (wordOfBytes (bs.drop 16))
  if bits (s.get (.lmpId i 0)) 63 48 ≠ 0x4C4D ∨ bits (s.get (.lmpId i 0)) 47 40 ≠ 1 then s.lampFault i
  else
    let s := s.setLamp i fun x => { x with rated := bits (s.get (.lmpId i 2)) 23 12 }
    let s := (((List.range 12).foldl (fun t e => t.lifeIn i bs e) s).lampSync i).eolSync i
    let used := (List.range 12).any fun e => s.rd (F.lmpEmit_ESTATE i e) != ES.spare
    let ch := (List.range 16).map fun k => Config.freeByte (16 * s.free + k)
    let s := s.drawn.setLamp i fun x => { x with challenge := ch, askedAt := some s.now, firstLit := used, auth := false }
    s.emit (.lamp i 0x200 ch)

/-- 12 R422: LMP_PRES_N has been low for 100 ms, or REAUTH asks: the module is identified. -/
def execLampIdentify (i : Fin 16) (id : Option (List Byte)) (s : State) : Out :=
  if s.held then .next s
  else
    let s := (s.wr (F.lmpStat_PRESENT i) 1).wr (F.lmpStat_MSTATE i) MD.identifying
    match id with
    | none => fin (s.lampFault i)
    | some bs => if bs.length < 24 then fin (s.lampFault i) else fin (s.lampIdentity i bs)

/-- The response that a genuine module gives (12 R421). -/
def State.lampExpects (s : State) (i : Nat) : List Byte :=
  let serial := bytesOf 8 (s.get (.lmpId i 1)).toNat
  let type := bytesOf 1 (bits (s.get (.lmpId i 0)) 39 32)
  let k := (ofNats (aes (toNats Config.lampRoot.toList) (toNats (serial ++ type ++ List.replicate 7 0)))).take 16
  (cmac k (s.lamp i).challenge).take 8

/-- Authentication ends (12 R422). -/
def State.lampAuth (s : State) (i : Nat) (good : Bool) : State :=
  let s := s.setLamp i fun x => { x with askedAt := none, auth := good }
  let s := s.wr (F.lmpStat_MSTATE i) (if good then MD.ready else MD.unauth)
  let s := if good then s else (s.raise (Src.LAMP_UNAUTH i) (lampArg i)).lampEvent i LE.unauth 0
  if s.lampMay i && (s.on (F.lmpCfg_AUTOEN i) || (s.lamp i).en) then s.lampLight i
  else if s.lampMay i then s else s.lampOff i

/-- 12 R421: the response is read 10 ms after the challenge. -/
def execLampAuthResponse (i : Fin 16) (resp : Option (List Byte)) (s : State) : Out :=
  if s.held then .next s
  else
    match (s.lamp i).askedAt with
    | none => .next s
    | some t =>
      let s := s.passTo (t + 10000000)
      match resp with
      | none => fin ((s.setLamp i fun x => { x with askedAt := none }).lampFault i)
      | some r => fin (s.lampAuth i (r.take 8 == s.lampExpects i))

/-- A module is taken out (12 R422): nothing of it remains in the registers. -/
def State.lampGone (s : State) (i : Nat) : State :=
  let s := s.resetRegs fun r => match r with
    | .lmpStat k => k == i
    | .lmpId k _ => k == i
    | .lmpEmit k _ => k == i
    | _ => false
  s.condClear (Src.LAMP_WORN i) i

/-- 12 R422: LMP_PRES_N goes high; a module that a warm reset left lit (18 R566) is removed as well, before it is identified
again. -/
def execLampRemoved (i : Fin 16) (s : State) : Out :=
  if !s.on (F.lmpStat_PRESENT i) && !(s.lamp i).en then .next s
  else
    let lit := (s.lamp i).en
    let s := (s.lampGone i).setLamp i fun _ => {}
    fin (if lit then (s.raise (Src.LAMP_REMOVED i) (lampArg i)).lampEvent i LE.removed 0 else s)

/-- The emitter at a position. -/
def State.emitterAt (s : State) (i p : Nat) : Option Nat :=
  (List.range 12).find? fun e => s.rd (F.lmpEmit_ESTATE i e) == ES.active && s.rd (F.lmpEmit_POS i e) == p

/-- One position's step of the bias loop (12 R423): toward PSET when the power lies more than 0.25 dB off, by at most 0.1 mA, never
above BIAS_RATED; consecutive iterations at
end of life and dark at BIAS_RATED are counted (R424). -/
def State.biasStep (s : State) (i p : Nat) (r : LampReading) : State :=
  match s.emitterAt i p with
  | none => s
  | some e =>
    let b := s.rd (F.lmpEmit_BIAS i e)
    let pset := signedOf 12 (s.rd (F.lmpCfg_PSET i))
    let b' := if r.power < pset - 25 then min (s.biasRated i) (b + 1) else if pset + 25 < r.power then b - 1 else b
    let s := if b' = b then s else (s.wr (F.lmpEmit_BIAS i e) b').biasOut i e
    s.setLamp i fun x =>
      { x with
        peak := x.peak.upd e 0 (max b')
        eol := x.eol.put e (if s.rd (F.lmpEmit_BIAS_EOL i e) ≤ b' then x.eol.at e 0 + 1 else 0)
        dark := x.dark.put e (if r.power < pset - 300 ∧ b' = s.biasRated i then x.dark.at e 0 + 1 else 0) }

/-- An emitter qualifies for replacement: failed, or at end of life (12 R424). -/
def State.emitterFailed (s : State) (i e : Nat) : Bool := decide (10 ≤ (s.lamp i).dark.at e 0)
def State.emitterEol (s : State) (i e : Nat) : Bool := decide (1000 ≤ (s.lamp i).eol.at e 0)

/-- The qualifying emitters, higher bias first and then the lower position. -/
def State.qualified (s : State) (i : Nat) : List Nat :=
  let es := (List.range 10).filterMap fun p => (s.emitterAt i p).filter fun e => s.emitterFailed i e || s.emitterEol i e
  es.mergeSort fun a b => decide (s.rd (F.lmpEmit_BIAS i b) ≤ s.rd (F.lmpEmit_BIAS i a))

/-- An emitter is replaced by the lowest spare, or the module is worn (12 R424, R425). -/
def State.emitterSwitch (s : State) (i e : Nat) : State :=
  let bad := s.emitterFailed i e
  let s := if bad && (s.lamp i).dark.at e 0 == 10 then s.raise (Src.LAMP_EMITTER_FAIL i) (lampArg i) else s
  match (List.range 12).find? fun x => s.rd (F.lmpEmit_ESTATE i x) == ES.spare with
  | some x =>
    let p := s.rd (F.lmpEmit_POS i e)
    let s := s.emitterOn i x p
    let s := ((s.wr (F.lmpEmit_ESTATE i e) (if bad then ES.failed else ES.retired)).wr (F.lmpEmit_POS i e) 15).wr (F.lmpEmit_BIAS i e) 0
    let s := ((s.biasOut i e).lifeOut i e).setLamp i fun y => { y with eol := y.eol.del e, dark := y.dark.del e }
    let cause := if bad then LE.failed else LE.spared
    let s := (s.lampSync i).raise (Src.LAMP_SPARED i) (lampArg i)
    (s.lampRecord i cause e).lampEvent i cause e
  | none =>
    if s.rd (F.lmpStat_MSTATE i) = MD.worn then s
    else
      ((s.wr (F.lmpStat_MSTATE i) MD.worn).condRise (Src.LAMP_WORN i) i (lampArg i)).lampEvent i LE.worn e

/-- 12 R423, R424: an iteration of the bias loop, 1 ms after the last. -/
def execBiasLoopIteration (i : Fin 16) (r : List LampReading) (s : State) : Out :=
  if s.held then .next s
  else
    if (s.lamp i).en && s.on (F.lmpCfg_LOOP_EN i) && !s.on (F.lmpCfg_FREEZE i) then
      let s := s.passTo ((s.lamp i).loopAt + 1000000)
      let s := s.setLamp i fun x => { x with loopAt := s.now }
      let s := (List.range 10).foldl (fun t p => match r[p]? with | some x => t.biasStep i p x | none => t) s
      fin ((s.qualified i).foldl (fun t e => t.emitterSwitch i e) s)
    else .next s

/-- One lit emitter's hour (12 R420, R425): its life record, and the bias at each 5,000 h mark. -/
def State.emitterHour (s : State) (i e : Nat) : State :=
  let s := (s.wr (F.lmpEmit_HOURS i e) (s.rd (F.lmpEmit_HOURS i e) + 1)).lifeOut i e
  let h := s.rd (F.lmpEmit_HOURS i e)
  if h % 5000 = 0 ∧ 5000 ≤ h ∧ h ≤ 55000 then
    s.emit (.lamp i (0x80 + 32 * e + 10 + 2 * (h / 5000 - 1)) (bytesOf 2 (s.rd (F.lmpEmit_BIAS i e))))
  else s

/-- 12 R425: an hour of a lit module ends. -/
def execLampHourTick (i : Fin 16) (s : State) : Out :=
  if (s.lamp i).en then
    let s := s.passTo ((s.lamp i).lastTick + 3600000000000)
    let s := s.setLamp i fun x => { x with lastTick := s.now }
    fin (((List.range 12).filter fun e => s.rd (F.lmpEmit_ESTATE i e) == ES.active).foldl (fun t e => t.emitterHour i e) s)
  else .next s

/-- The bits of LMP_CTL that may act (12 R422, R426): ENABLE of a module that may be lit, DISABLE of one that is lit or is now,
REAUTH of one that is present. -/
def State.lmpActs (s : State) (i : Nat) (v : Word) : Word :=
  let w := if bits v 2 2 = 1 ∧ s.lampMay i = true then setBits 0 2 2 1 else 0
  let w := if bits v 1 1 = 1 ∧ ((s.lamp i).en = true ∨ w ≠ 0) then setBits w 1 1 1 else w
  if bits v 0 0 = 1 ∧ s.on (F.lmpStat_PRESENT i) = true then setBits w 0 0 1 else w

/-- LMP_CTL is written (12 R426): a bit that may not act is no accepted write (17 R552). -/
def State.lmpCtl (s : State) (m : Mst) (i : Nat) (v : Word) : State :=
  let v := s.lmpActs i v
  if v = 0 then s
  else
    match s.askAction m (lampAddr i 0x10) (.lmpCtl i) v with
    | (s, false) => s
    | (s, true) =>
      let s := if bits v 2 2 = 1 then s.lampLight i else s
      let s := if bits v 1 1 = 1 then (s.lampOff i).wr (F.lmpStat_MSTATE i) (if (s.lamp i).auth then MD.ready else MD.unauth) else s
      if bits v 0 0 = 1 then s.wr (F.lmpStat_MSTATE i) MD.identifying else s

/-- 12 R426: ENABLE is written. -/
def execLampEnable (m : Mst) (i : Fin 16) (v : Word) (s : State) : Out :=
  regWriteRow m (lampAddr i 0x10) (setBits v 2 2 1) (fun s v => s.lmpCtl m i v) s

/-- 12 R426: DISABLE is written. -/
def execLampDisable (m : Mst) (i : Fin 16) (v : Word) (s : State) : Out :=
  regWriteRow m (lampAddr i 0x10) (setBits v 1 1 1) (fun s v => s.lmpCtl m i v) s

/-- 12 R426: REAUTH is written. -/
def execLampReauth (m : Mst) (i : Fin 16) (v : Word) (s : State) : Out :=
  regWriteRow m (lampAddr i 0x10) (setBits v 0 0 1) (fun s v => s.lmpCtl m i v) s

end Sys2Proof.Machine
end

