-- ==== Sys2Proof/Machine/GddrRows.lean ====
section
/-! DEFINITION. The commands of the GDDR6 controllers (14): patrol scrub, row remaps, retraining, wear, migration,
injection, allocation and the placement loop. -/

namespace Sys2Proof.Machine

/-- A line is read and what must be is written back, in a scrub visit or for a row's copy (14 R467, R468): what is correctable is
corrected, what is not becomes poison. A scrub visit counts corrected symbols by row; exhausted attempts write nothing back. -/
def State.heal (s : State) (l : Nat) (scrub : Bool) : State :=
  let s := (s.tally 16 0x80).chHeld (s.lineCh l)
  if s.chDown (s.lineCh l) then s
  else
    match s.edcRead l 7 with
    | (s, true) => s
    | (s, false) =>
      let bad := s.lineBad l
      if (s.poison.find l).isSome || bad.isEmpty then s
      else
        let unc := uncWords l bad
        let s := (s.symCorr l (corrSyms l bad) 7).symUncorr l unc 7
        let s := if scrub then s.rowYield l (corrSyms l bad) else s
        let s := ((s.tally 16 0x81).edcWrite l 7).setBad l []
        if unc.isEmpty then s else { s with poison := s.poison.put l () }

/-- The scrub pass of a logical channel has visited all its groups. -/
def State.scrubDone (s : State) (ch : Nat) : Bool := s.gddr.scrub.at ch 0 == lchGroups

/-- The scrub period in nanoseconds (14 R467). -/
def State.scrubPeriod (s : State) : Nat := s.rd F.gdmCfg_SCRUB_H * 3600000000000

/-- A pass over every group ends (14 R467): it is counted, and the rows' counts start again, but for a row that has qualified
for a remap (R468) and waits for it. -/
def State.scrubPass (s : State) : State :=
  if (List.range 16).all s.scrubDone then
    { (s.count F.gdmStat_SCRUBPASS) with
      gddr := { s.gddr with scrub := [], scrubAt := s.gddr.scrubAt + s.scrubPeriod
                            rowCorr := (s.gddr.rowCorr.filter fun k => decide (s.rd F.gdmCfg_ROWTH ≤ k.2)).map fun k => (k.1, 256) } }
  else s

/-- The state with what a visit meets at a line: symbols gone wrong, and mismatches of EDC. -/
def State.meet (s : State) (g : Nat) (o : ScrubObs) : State :=
  let s := o.flips.foldl
    (fun t x =>
      let l := 4 * g + x.1.val
      match (wordSyms l x.2.1.val)[x.2.2.val]? with
      | some y => t.setBad l (y :: (t.lineBad l).filter (· ≠ y))
      | none => t) s
  o.edc.foldl (fun t x => { t with gddr := { t.gddr with edc := t.gddr.edc.put (4 * g + x.1.val) x.2 } }) s

/-- One visit of the patrol scrub. -/
def State.scrub (s : State) (ch : Nat) (o : ScrubObs) : State :=
  let g := groupOf ch (s.gddr.scrub.at ch 0)
  let s := { s with gddr := { s.gddr with scrub := s.gddr.scrub.upd ch 0 (· + 1) } }
  let s :=
    if s.gddr.contained.contains (s.lineCh (4 * g)) then s
    else (List.range 4).foldl (fun t i => t.heal (4 * g + i) true) (s.meet g o)
  s.scrubPass

/-- 14 R467: the patrol scrub visits the next group of a logical channel, in a pass that begins a period after the one before it;
a channel that migrates waits (R471), so does one that retrains, and one whose pass is done waits for the others. -/
def execScrubVisit (ch : Fin 16) (o : ScrubObs) (s : State) : Out :=
  if s.held then .next s
  else
    if s.halted || s.scrubDone ch || (s.gddr.mig.any fun x => x.lch == ch.val)
        || (s.gddr.retrain.find (s.rd (F.gdmMap_PCH ch))).isSome then .next s
    else fin ((s.passTo s.gddr.scrubAt).scrub ch o)

/-! ## Row remaps (14 R468) -/

/-- The row that serves a row of a bank. -/
def State.rowAt (s : State) (p bank row : Nat) : Option Nat :=
  (s.gddr.remaps.find? fun r => r.ch == p && r.bank == bank && r.row == row).map (·.spare)

/-- The next free spare row of a bank. -/
def State.freeSpare (s : State) (p bank : Nat) : Nat :=
  s.gddr.remaps.foldl (fun k r => if r.ch = p ∧ r.bank = bank then max k (r.spare + 1) else k) 32256

/-- A remap is in force. -/
def State.remapIn (s : State) (r : Remap) : State :=
  let l := s.gddr.remaps.filter fun x => !(x.ch == r.ch && x.bank == r.bank && x.row == r.row)
  let s := { s with gddr := { s.gddr with remaps := l ++ [r] } }
  (s.wr (F.gdmChStat_RMAP r.ch) ((l.filter (·.ch == r.ch)).length + 1)).wr F.gdmStat_REMAPS (l.length + 1)

/-- The row qualifies for a remap (14 R468). -/
def State.rowWorn (s : State) (p bank row : Nat) : Bool :=
  match s.gddr.rowCorr.find (rowKey p bank row) with
  | some k => decide (s.rd F.gdmCfg_ROWTH ≤ k)
  | none => false

/-- The lines with symbols in error in a row. -/
def State.injectedIn (s : State) (p bank row : Nat) : List Nat :=
  (s.gddr.injected.filter fun c => c.2.any fun x => s.burstKey c.1 x.burst == rowKey p bank row).map (·.1)

/-- The offset A of the first group with a burst in a row of a bank of a physical channel, and of the first group of a logical
channel: what ADDR of a raise about them names (16 R517, notes/assumptions/75.md). -/
def lchOffset (lch j : Nat) : Nat := 256 * groupOf lch j
def State.rowOffset (s : State) (p bank row : Nat) : Nat :=
  lchOffset (s.rd (F.gdmChStat_LCH p)) ((row / 9 * 64 + row % 9 * 64 / 9) * 16 + bank)

/-- 14 R468: firmware remaps a failing row; its record carries REPAIR, so the remap waits while the store is full
(17 R556). -/
def execRowRemap (p : Fin 18) (bank : Fin 16) (row : Fin 32768) (s : State) : Out :=
  if s.halted || !s.rowWorn p bank row || decide (32256 ≤ row.val) || decide (32768 ≤ s.freeSpare p bank) then .next s
  else
    let sp := s.freeSpare p bank
    let r : AudRec :=
      { kind := RK.row, master := 0x1080, addr := bank.val * 32 + p.val, old := BitVec.ofNat 64 row.val
        new := BitVec.ofNat 64 sp }
    match s.audRepair r with
    | (s, false) => fin s
    | (s, true) =>
      let s := (s.injectedIn p bank row).foldl (fun t l => t.heal l false) s
      let s := s.remapIn { ch := p, bank := bank, row := row, spare := sp }
      let s := { s with gddr := { s.gddr with rowCorr := s.gddr.rowCorr.del (rowKey p bank row) } }
      fin (s.raise (Src.GDM_ROW_SPARED (p / 2)) { atype := 7, unit := p, addr := s.rowOffset p bank row })

/-! ## Migration (14 R470 to R472) -/

/-- 14 R466: a retrain of a channel's interface ends. -/
def execChannelRetrainEnd (p : Fin 18) (ok : Bool) (s : State) : Out :=
  if s.halted || s.gddr.contained.contains p.val || (s.gddr.retrain.find p.val).isNone then .next s else fin (s.retrainEnd p ok)

/-- GDM_MIG is written (14 R470, R472): GO starts a migration or is refused, ABORT ends one. -/
def State.migWrite (s : State) (m : Mst) (v : Word) : State :=
  let go := bits v 63 63 == 1
  let lch := bits v 59 55
  let new := bits v 54 50
  if go && (s.gddr.mig.isSome || decide (16 ≤ lch ∨ 18 ≤ new) || s.rd (F.gdmChStat_CSTATE new) != CH.spare) then
    s.count F.gdmStat_REFUSED
  else
    let abort := bits v 62 62 == 1 && (go || s.gddr.mig.isSome)
    let old := s.get .gdmMig
    let base := accWrite .gdmMig false old v
    let shown := base ||| (if go then 0x8000000000000000 else 0) ||| (if abort then 0x4000000000000000 else 0)
    let r := if go || abort then s.askRec m RK.reg 0x2F0008 old shown else s.cfgPut m RK.reg 0x2F0008 .gdmMig base
    match r with
    | (s, false) => s
    | (s, true) =>
      let s := s.set .gdmMig base
      let s :=
        if go then
          let o := s.rd (F.gdmMap_PCH lch)
          let s := (((s.wr F.gdmMig_MSTATE 1).wr F.gdmMig_COPIED 0).setCh o CH.mirror).setCh new CH.mirror
          let lost := if s.gddr.contained.contains o then some 0 else none
          { s with gddr := { s.gddr with mig := some { lch := lch, old := o, new := new, at' := s.now, lost := lost } } }
        else s
      if abort then s.migEnd CH.spare else s

/-- 14 R470: GO is written to GDM_MIG. -/
def execMigrationGo (m : Mst) (v : Word) (s : State) : Out :=
  regWriteRow m 0x2F0008 (setBits v 63 63 1) (fun s v => s.migWrite m v) s

/-- 14 R472: ABORT is written to GDM_MIG. -/
def execMigrationAbort (m : Mst) (v : Word) (s : State) : Out :=
  regWriteRow m 0x2F0008 (setBits v 62 62 1) (fun s v => s.migWrite m v) s

/-- 14 R469: the shipped firmware migrates the logical channel of a worn channel to a spare one, when one remains. -/
def State.migrateWorn (s : State) (p : Nat) : State :=
  match (List.range 18).find? fun k => s.rd (F.gdmChStat_CSTATE k) == CH.spare with
  | none => s
  | some k =>
    let lch := s.rd (F.gdmChStat_LCH p)
    if lch < 16 ∧ s.gddr.mig = none then
      s.migWrite 0x1080 (setBits (setBits (setBits 0 63 63 1) 59 55 lch) 54 50 k)
    else s

/-- A physical channel carries a line: it serves it, or it is the new channel of the migration of the line's logical channel. -/
def State.chCarries (s : State) (p l : Nat) : Bool := s.lineCh l == p || s.gddr.mig.any fun g => g.new == p && g.lch == lineLch l

/-- The second of a physical channel with what its transfers for other agents, or for the copier, met, which no command of the
table shows: for each of `edc`, a line and how often the EDC of its read and of its write did not match; and the corrected
symbols of `sym`. -/
def State.secondMet (s : State) (p : Nat) (edc : List (Nat × Nat × Nat)) (sym : List (Nat × Sym)) : State :=
  let s := (edc.filter fun x => s.chCarries p x.1).foldl
    (fun t x => match (t.edcTry p x.1 x.2.1 9).1.edcTry p x.1 x.2.2 9 with
      | (t, true) => t.retrainStart p
      | (t, false) => t) s
  (sym.filter fun x => s.lineCh x.1 == p).foldl (fun t x => t.symCorr x.1 [x.2] 9) s

/-- PINMAX and PINSHARE show the pin with most corrected symbols of the second (14 R477); of equal ones the `pin` given when it is
one of them, and its share in whole percent, rounded as `up` says (notes/assumptions/70.md). -/
def State.showPins (s : State) (p pin : Nat) (up : Bool) : State :=
  let pins := (s.gddr.second.at p {}).pins
  let most := (List.range 32).foldl (fun m k => max m (pins.count k)) 0
  let k := if pins.count pin = most then pin else ((List.range 32).find? fun k => pins.count k == most).getD 0
  let share := if pins.isEmpty then 0 else (100 * most + if up then pins.length - 1 else 0) / pins.length
  (s.wr (F.gdmChStat_PINMAX p) k).wr (F.gdmChStat_PINSHARE p) share

/-- A second of a physical channel that has not been raised was at a threshold (14 R469). -/
def State.chWorn (s : State) (p : Nat) : Bool :=
  let k := s.gddr.second.at p {}
  k.worn || s.secondOver k

/-- 14 R469: a second of a physical channel ends; at a threshold it is worn, and its logical channel migrates. -/
def execChannelWearWindow (p : Fin 18) (edc : List (Nat × Nat × Nat)) (sym : List (Nat × Sym)) (pin : Fin 16) (up : Bool)
    (s : State) : Out :=
  if s.held then .next s
  else
    if s.halted then .next s
    else
      let s := (s.secondNow p).secondMet p edc sym
      let s := (s.passTo ((s.gddr.second.at p {}).since + 1000000000)).showPins p pin up
      let worn := s.chWorn p
      let s := s.second p fun _ => { since := s.now }
      fin (if worn then (s.raise (Src.GDM_CH_WEAR (p / 2)) { atype := 14, addr := p, unit := p }).migrateWorn p else s)

/-- The backed lines of a logical channel from group `k` (14 R461). -/
def lchLines (ch k : Nat) : List Nat := ((List.range lchGroups).drop k).flatMap fun j => groupLines (groupOf ch j)

/-- When the copier ends at its rate. -/
def State.copyEnd (s : State) (g : Migration) : Nat :=
  g.at' + ((lchGroups - s.rd F.gdmMig_COPIED) * groupCoded - g.part + s.migRate - 1) / s.migRate

/-- A logical channel moves to a physical channel. -/
def State.mapTo (s : State) (lch old new : Nat) : State :=
  let s := ((s.wr (F.gdmMap_PCH lch) new).setCh old CH.retired).setCh new CH.active
  (s.wr (F.gdmChStat_LCH old) 31).wr (F.gdmChStat_LCH new) lch

/-- The lines of the logical channel stand as the new channel holds them: what was copied once the old channel was contained was
copied as poison (14 R470, 16 R528). -/
def State.takeNew (s : State) (g : Migration) : State :=
  let lost := match g.lost with | some k => lchLines g.lch k | none => []
  let s := { s with
    gddr := { s.gddr with injected := s.gddr.injected.filter fun c => lineLch c.1 != g.lch }
    poison := lost.foldl (fun k l => k.put l ()) (s.poison.filter fun c => lineLch c.1 != g.lch) }
  g.lines.foldl
    (fun t c =>
      let t := if c.2.1.isEmpty then t else t.setBad c.1 c.2.1
      { t with poison := if c.2.2 then t.poison.put c.1 () else t.poison.del c.1 }) s

/-- 14 R470: the last group is copied and the map switches; the record carries REPAIR, so the switch waits while the
store is full (17 R556). -/
def execMigrationSwitch (s : State) : Out :=
  match s.gddr.mig with
  | none => .next s
  | some g0 =>
    if s.halted || (s.gddr.retrain.find g0.old).isSome || (s.gddr.retrain.find g0.new).isSome then .next s
    else
      let s := (s.passTo (s.copyEnd g0)).copySync
      let g := s.gddr.mig.getD g0
      match s.audRepair { kind := RK.migrate, addr := g.lch, old := BitVec.ofNat 64 g.old, new := BitVec.ofNat 64 g.new } with
      | (s, false) => fin s
      | (s, true) =>
        let s := ((s.takeNew g).wr F.gdmMig_MSTATE 2).mapTo g.lch g.old g.new
        let s := { s with gddr := { s.gddr with mig := none } }
        let s := s.condClear (Src.GDM_CH_FAIL (g.old / 2)) g.old
        let s := s.evPost 0 3 0x7000 (s.audNewest RK.migrate % 2 ^ 32) (Config.freeWord s.free).toNat
        fin (s.drawn.raise (Src.GDM_MIGRATED (g.new / 2)) { atype := 7, unit := g.new, addr := lchOffset g.lch 0 })

/-! ## Injection and allocation -/

/-- The address of a register of a physical channel (14 R477). -/
def chAddr (p off : Nat) : Nat := 0x200000 + 0x10000 * (p / 2) + 0x100 * (p % 2) + off

/-- GDM_ERRINJ is written (14 R477): ARM corrupts the next line write of the channel. -/
def State.errinjWrite (s : State) (m : Mst) (p : Nat) (v : Word) : State :=
  let arm := bits v 63 63 == 1
  let old := s.get (.gdmErrinj p)
  let base := accWrite (.gdmErrinj p) false old v
  let new := if arm then setBits base 63 63 1 else base
  match s.cfgPut m RK.reg (chAddr p 0x10) (.gdmErrinj p) new arm with
  | (s, false) => s
  | (s, true) =>
    if arm then
      { s with gddr := { s.gddr with armed := s.gddr.armed.put p (bits new 62 58, if bits new 57 56 = 2 then 2 else 1) } }
    else s

/-- 14 R477: ARM is written to GDM_ERRINJ. -/
def execErrinjArm (m : Mst) (p : Fin 18) (v : Word) (s : State) : Out :=
  regWriteRow m (chAddr p 0x10) (setBits v 63 63 1) (fun s v => s.errinjWrite m p v) s

/-- The window extents in 2 MiB units (14 R473). -/
def allocExtents : List (Nat × Nat) := [(0x190, 0x800), (0xC00, 0x1000), (0x1800, 0x1AF0)]

/-- Enabling an entry is refused (14 R474): empty, outside one extent, or over another enabled entry. -/
def State.allocRefused (s : State) (i base len : Nat) : Bool :=
  len == 0 || !(allocExtents.any fun x => decide (x.1 ≤ base ∧ base + len ≤ x.2))
    || (List.range 4097).any fun k =>
      k != i && s.on (F.alloc_EN k) && decide (s.rd (F.alloc_BASE k) < base + len ∧ base < s.rd (F.alloc_BASE k) + s.rd (F.alloc_LEN k))

/-- The selected allocation entry is written (14 R474): a write that sets EN and is refused leaves its other fields (03 R73). -/
def State.allocWrite (s : State) (m : Mst) (v : Word) : State :=
  let i := s.selOf m .alloc
  if 4096 < i then s
  else
    let old := s.get (.alloc i)
    let en := s.on (F.alloc_EN i)
    let new := if en then setBits old 63 63 (bits v 63 63) else accWrite (.alloc i) false old v
    let bad := !en && bits v 63 63 == 1 && s.allocRefused i (bits v 13 0) (bits v 45 32)
    let s := (s.cfgPut m RK.win (winAddr 6 0 i) (.alloc i) (if bad then setBits new 63 63 0 else new)).1
    if bad then s.count F.gdmStat_REFUSED else s

/-- 14 R474: GDM_ALLOC_DATA is written. -/
def execAllocEntryWrite (m : Mst) (v : Word) (s : State) : Out :=
  regWriteRow m 0x2F0048 v (fun s v => s.allocWrite m v) s

/-! ## The placement loop (14 R475) -/

/-- The slices show the pins in force. -/
def State.repin (s : State) : State :=
  let s := s.wr F.gdmPlace_PINNED s.gddr.pins.length
  { s with coh := { s.coh with slice := s.coh.slice.each fun _ ws => ws.map fun w => { w with pinned := s.linePinned w.line } } }

/-- The ways of a line's slice set that pins take. -/
def State.pinnedWays (s : State) (l : Nat) : Nat :=
  ((s.gddr.pins.flatMap ctxLines).filter fun x => sliceKey x == sliceKey l).length

/-- A context may be pinned: its kind has room, and so has each slice set of its lines. -/
def State.pinRoom (s : State) (c : Bool × Nat) : Bool :=
  decide ((s.gddr.pins.filter fun x => x.1 == c.1).length < if c.1 then 65536 else 16384)
    && (ctxLines c).all fun l =>
      decide (s.pinnedWays l + ((ctxLines c).filter fun x => sliceKey x == sliceKey l).length ≤ min 8 (s.rd F.gdmPlace_PIN_WAYS))

/-- A context with enough accesses is pinned, or skipped at a limit. -/
def State.pinOne (s : State) (c : Bool × Nat) : State :=
  if s.gddr.pins.contains c then s
  else if s.pinRoom c then { s with gddr := { s.gddr with pins := s.gddr.pins ++ [c] } }
  else s.count F.gdmStat_PINSKIP

/-- The window of the placement loop in nanoseconds (14 R477): 0 acts as 1 µs. -/
def State.placeWindow (s : State) : Nat := max 1 (s.rd F.gdmPlace_WINDOW) * 1000

/-- The harbour accesses to a context in the window: those that the model's commands made, and those of `obs`. -/
def State.placeCount (s : State) (obs : List (Bool × Nat × Nat)) (c : Bool × Nat) : Nat :=
  ((obs.find? fun o => o.1 == c.1 && o.2.1 == c.2).map (·.2.2)).getD 0 + s.gddr.hits.at (2 * c.2 + if c.1 then 1 else 0) 0

/-- 14 R475: a window of the placement loop ends: cold contexts are unpinned, then hot ones pinned. Harbour accesses to contexts
that no command of the table shows are the operand's. -/
def execPlacementWindow (obs : List (Bool × Nat × Nat)) (s : State) : Out :=
  if s.held then .next s
  else
    if s.halted || !s.on F.gdmPlace_EN || s.on F.gdmPlace_FREEZE then .next s
    else
      let seen : List (Bool × Nat) := (obs.map (fun (o : Bool × Nat × Nat) => (o.1, o.2.1))
        ++ s.gddr.hits.map fun (h : Nat × Nat) => (h.1 % 2 == 1, h.1 / 2)).eraseDups
      let hot := seen.filter fun c => decide (s.rd F.gdmPlace_HOT_TH ≤ s.placeCount obs c)
        && decide (c.2 < if c.1 then 1048576 else 262144)
      let pins := s.gddr.pins.filter fun c => decide (s.rd F.gdmPlace_COLD_TH ≤ s.placeCount obs c)
      let s := s.passTo (s.gddr.placeAt + s.placeWindow)
      let s := { s with gddr := { s.gddr with placeAt := s.now, pins := pins, hits := [] } }
      fin (hot.foldl State.pinOne s).repin

/-- GDM_PLACE is written (14 R475, R477): clearing EN unpins every context. -/
def State.placeWrite (s : State) (m : Mst) (v : Word) : State :=
  match s.cfgWrite m 0x2F0020 .gdmPlace v with
  | (s, false) => s
  | (s, true) => if s.on F.gdmPlace_EN then s else { s with gddr := { s.gddr with pins := [], hits := [] } }.repin

end Sys2Proof.Machine
end

