-- ==== Sys2Proof/Machine/GuardRows.lean ====
section
/-! DEFINITION. The commands of gates, semaphores and the lifecycle (15). -/

namespace Sys2Proof.Machine

/-! ## Gates (15 R489, R490) -/

/-- The address of a word of a gate entry (15 R483). -/
def gateEntAddr (g e w : Nat) : Nat := 0xC000 + 0x400 * g + 16 * e + 8 * w

/-- A change of a gate that the audit log refuses is counted (15 R489). -/
def State.gatePut (s : State) (m : Mst) (g addr : Nat) (r : Reg) (new : Word) (lock : Bool) : State :=
  match s.cfgPut m (if lock then RK.lock else RK.reg) addr r new lock with
  | (s, true) => s
  | (s, false) => s.count (F.gteStat_AUDITREF g)

/-- A word of a gate entry is written (15 R489): a locked entry stays as it is. -/
def State.gateEntryPut (s : State) (m : Mst) (g e w : Nat) (v : Word) : State :=
  if s.on (F.gteEnt_LOCK g e) then s
  else
    let new := accWrite (.gteEnt g e w) false (s.get (.gteEnt g e w)) v
    s.gatePut m g (gateEntAddr g e w) (.gteEnt g e w) new (w == 0 && bits v 62 62 == 1)

/-- 15 R489: a word of a gate entry is written. -/
def execGateEntryWrite (m : Mst) (g : Fin 23) (e : Fin 64) (w : Fin 2) (v : Word) (s : State) : Out :=
  regWriteRow m (gateEntAddr g e w) v (fun s v => s.gateEntryPut m g e w v) s

/-- GTE_CTL is written (15 R486, R489): under CLOCK its fields stay as they are. -/
def State.gateCtlPut (s : State) (m : Mst) (g : Nat) (v : Word) : State :=
  if s.on (F.gteCtl_CLOCK g) then s
  else
    let old := s.get (.gteCtl g)
    let new := keepField old (accWrite (.gteCtl g) false old v) 60 58 fun k => decide (k ≤ 4)
    s.gatePut m g (0xA000 + 8 * g) (.gteCtl g) (setBits new 62 62 (bits v 62 62)) (bits v 62 62 == 1)

/-- 15 R489: GTE_CTL is written. -/
def execGateCtlWrite (m : Mst) (g : Fin 23) (v : Word) (s : State) : Out :=
  regWriteRow m (0xA000 + 8 * g.val) v (fun s v => s.gateCtlPut m g v) s

/-- An entry taken before `mark` still uses device memory of a function of port `p` that its gate checked. -/
def State.entryInFlight (s : State) (p mark : Nat) : Bool :=
  s.queues.any fun q =>
    s.rd (F.qctx_FUNC q.1) / 256 == p
      && q.2.taken.any fun t => decide (t.id < mark) && t.started && t.res.isNone && t.entry.get W.devmem == 1

/-- A context of an island has a gated access in progress: a brush begun before `mark`, or a memory access checked before it that
waits for its line. -/
def State.ctxInFlight (s : State) (i mark : Nat) : Bool :=
  s.ctxs.any fun c =>
    ctxIsl c.1 == i && (c.2.brushes.any (fun b => decide (b.id < mark)) || c.2.passed.any fun k => decide (k ≤ mark))

/-- An access checked at gate `g` at or before `since` has not finished (15 R490). -/
def State.gateBusy (s : State) (g since mark : Nat) : Bool :=
  (decide (g < 4) && s.entryInFlight g mark) || (decide (7 ≤ g) && s.ctxInFlight (g - 7) mark)
    || s.guard.claims.any (fun c => c.2.any fun x => mstGate x.m == some g && decide (x.since ≤ since))
    || s.guard.fences.any fun f => mstGate f.m == some g && decide (f.mark < mark)

/-- A read is answered: to its master, or to the MGMT command that asked for it (10 R348). -/
def State.reply (s : State) (m : Mst) (req : Option MgmtReq) (v : Word) : State :=
  match req with
  | none => s.answer m v
  | some r => s.mgmtAnswer r 1 MS.ok (bytesOf 8 v.toNat)

/-- GTE_FENCE is read (15 R490): DONE at once, or the read stalls; what is checked behind it bears a later mark. -/
def State.fenceRead (s : State) (m : Mst) (g : Nat) (req : Option MgmtReq := none) : State :=
  if s.gateBusy g s.now s.nextId then
    { s with nextId := s.nextId + 1, guard := { s.guard with fences := s.guard.fences ++ [⟨m, g, s.now, s.nextId, req⟩] } }
  else s.reply m req 0x8000000000000000

/-- 15 R490: GTE_FENCE is read. -/
def execGateFenceRead (m : Mst) (g : Fin 23) (s : State) : Out :=
  regReadRow m (0xA200 + 8 * g.val) (fun s => s.fenceRead m g) s

/-- 15 R490: a stalled read of GTE_FENCE returns: DONE 1 when the accesses before it have finished by then, DONE 0 at
2 µs. -/
def execGateFenceTimeout (m : Mst) (g : Fin 23) (s : State) : Out :=
  match s.guard.fences.find? fun f => f.m == m && f.gate == g.val with
  | none => .next s
  | some f =>
    let s := { s with guard := { s.guard with fences := s.guard.fences.erase f } }
    if s.gateBusy g f.since f.mark || decide (f.since + 2000 < s.now) then fin ((s.passTo (f.since + 2000)).reply m f.req 0)
    else fin (s.reply m f.req 0x8000000000000000)

/-! ## Semaphores (15 R493 to R498) -/

/-- The other stalled reads of a master that has come to own the semaphore return OWNED at once (15 R495). -/
def State.ownedReads (s : State) (n : Nat) (m : Mst) : State :=
  let mine (c : Claim) : Bool := c.m == m && !c.lock
  let l := s.semClaims n
  if s.semOwns n m && l.any mine then
    (l.filter mine).foldl (fun t c => t.reply c.m c.req (t.semWord n SS.owned)) (s.setClaims n (l.filter fun c => !mine c))
  else s

/-- SEM_ACQ is read (15 R493, R495, R498). -/
def State.semAcq (s : State) (m : Mst) (n : Nat) (req : Option MgmtReq := none) : State :=
  if 1024 ≤ s.rd F.semStat_WAITING then (s.count F.semStat_WAITFULL).reply m req (s.semWord n SS.busy)
  else if s.semOwns n m then s.reply m req (s.semWord n SS.owned)
  else if s.semHeld n || !(s.semClaims n).isEmpty then
    s.setClaims n (s.semClaims n ++ [{ m := m, since := s.now, lock := false, req := req }])
  else match s.semTake n m with | (s, st) => s.reply m req (s.semWord n st)

/-- 15 R493: SEM_ACQ is read. -/
def execSemAcqRead (m : Mst) (n : Fin 4096) (s : State) : Out :=
  regReadRow m (0x40000 + 8 * n.val) (fun s => s.semAcq m n) s

/-- SEM_TRY is read (15 R494). -/
def State.semTryWord (s : State) (m : Mst) (n : Nat) (req : Option MgmtReq := none) : State :=
  match s.semTry n m with | (s, st) => (s.reply m req (s.semWord n st)).ownedReads n m

/-- 15 R494: SEM_TRY is read. -/
def execSemTryRead (m : Mst) (n : Fin 4096) (s : State) : Out :=
  regReadRow m (0x48000 + 8 * n.val) (fun s => s.semTryWord m n) s

/-- SEM_REL is written (15 R496). -/
def State.semRelPut (s : State) (m : Mst) (n : Nat) (v : Word) : State :=
  if bits v 0 0 = 1 then (s.semRelease n m).1 else s

/-- 15 R496: SEM_REL is written. -/
def execSemRelWrite (m : Mst) (n : Fin 4096) (v : Word) (s : State) : Out :=
  regWriteRow m (0x50000 + 8 * n.val) v (fun s v => s.semRelPut m n v) s

/-- A claim is granted: a stalled read answers, a stalled lock.acq completes. -/
def State.claimGo (s : State) (n : Nat) (c : Claim) : State :=
  match s.semTake n c.m with
  | (s, st) =>
    if c.lock then
      let x := mstCtx c.m
      match (s.ctx x).stall with
      | .lock _ d => (((s.setG x d (BitVec.ofNat 64 st)).adv x).setCtx x fun y => { y with stall := .none })
      | _ => s
    else (s.reply c.m c.req (s.semWord n st)).ownedReads n c.m

/-- The stalled reads of a semaphore that 2 µs have passed return BUSY, and their claims are withdrawn (15 R493). -/
def State.semLate (s : State) (n : Nat) : State :=
  let late := (s.semClaims n).filter (·.late s.now)
  if late = [] then s
  else
    late.foldl (fun t c => t.reply c.m c.req (t.semWord n SS.busy))
      (s.setClaims n ((s.semClaims n).filter fun c => !c.late s.now))

/-- 15 R497: the claims on a free semaphore are decided; the pointer moves when ages tie (01 R27). -/
def execSemaphoreClaimGrant (n : Fin 4096) (s : State) : Out :=
  if s.semHeld n then .next s
  else
    let s := s.semLate n
    let l := s.semClaims n
    let ptr := s.guard.ptrs.at n 0
    match claimWinner s.now ptr l with
    | none => fin s
    | some c => fin (((s.semPoint n l c).setClaims n (l.erase c)).claimGo n c)

/-- 15 R493: 2 µs pass before a stalled read obtains the semaphore. -/
def execSemAcqTimeout (m : Mst) (n : Fin 4096) (s : State) : Out :=
  if !s.semHeld n then .next s
  else
    match (s.semClaims n).find? fun c => c.m == m && !c.lock with
    | none => .next s
    | some c =>
      let s := (s.passTo (c.since + 2000)).setClaims n ((s.semClaims n).erase c)
      fin (s.reply m c.req (s.semWord n SS.busy))

/-! ## Lifecycle (15 R504) -/

/-- LCS_ADVANCE is written (15 R504). -/
def State.lcsPut (s : State) (m : Mst) (v : Word) : State :=
  let t := bits v 1 0
  let was := if s.on F.lcsState_PENDING then s.rd F.lcsState_NEXT else s.rd F.lcsState_STATE
  if s.atF m = false ∨ bits v 63 48 ≠ 0x4C43 ∨ t ≤ s.rd F.lcsState_STATE ∨ t ≤ was then s
  else
    match s.askRec m RK.lifecycle 0 (BitVec.ofNat 64 was) (BitVec.ofNat 64 t) with
    | (s, false) => s
    | (s, true) =>
      let s := s.evPost 0 6 m.toNat (s.audNewest RK.lifecycle % 2 ^ 32) (was * 4 + t)
      let s := ((s.wr F.lcsState_PENDING 1).wr F.lcsState_NEXT t).set .lcsAdvance (accWrite .lcsAdvance false 0 v)
      { s with fuses := { s.fuses with pending := some t } }

/-- 15 R504: LCS_ADVANCE is written. -/
def execLcsAdvance (m : Mst) (v : Word) (s : State) : Out := regWriteRow m 0x9808 v (fun s v => s.lcsPut m v) s

end Sys2Proof.Machine
end

