-- ==== Sys2Proof/Machine/FaultRows.lean ====
section
/-! DEFINITION. The commands of the fault registers and of sparing (16). -/

namespace Sys2Proof.Machine

/-! ## Fault registers (16 R512 to R526) -/

/-- The address of FLT_SRC (16 R512). -/
def fltSrcAddr (n : Nat) : Nat := 0x20000 + 8 * n

/-- A write of SEV that is accepted and changes it (16 R513). -/
def State.sevAccepted (s : State) (n v : Nat) : Bool :=
  !s.on F.fltCfg_SLOCK && !s.on (F.fltSrc_FIXED n)
    && decide (s.rd (F.fltSrc_MINSEV n) ≤ v ∧ v ≤ 4 ∧ v ≠ s.rd (F.fltSrc_SEV n))

/-- A write of FORCE that acts (16 R518): at P, or at F for a source that halts. -/
def State.forceActs (s : State) (m : Mst) (n : Nat) : Bool :=
  s.atP m && (decide (s.rd (F.fltSrc_SEV n) < 3) || s.atF m)

/-- A forced raise, under the severity before the write (16 R518). -/
def State.forceRaise (s : State) (m : Mst) (n : Nat) : State :=
  let u := s.rd F.fltForceArg_UNIT
  let s := s.raise n { master := m.toNat, atype := 15, unit := u }
  if 192 ≤ n ∧ n < 408 ∧ n % 24 = 6 then s.chFail u else s

/-- LATCHED and CLRCNT of a write of FLT_SRC (16 R512, R514). -/
def State.fltSrcClear (s : State) (n : Nat) (v : Word) : State :=
  let s := if bits v 55 55 = 1 ∧ s.on (F.fltSrc_ACTIVE n) = false then (s.wr (F.fltSrc_LATCHED n) 0).fltStatus n else s
  if bits v 47 47 = 1 then s.wr (F.fltSrc_COUNT n) 0 else s

/-- FLT_SRC is written (16 R512 to R514, R518): LATCHED and CLRCNT clear, FORCE and a change of SEV take one
record, the FORCE record when the force acts (17 R553); a write whose record is refused does nothing (17 R555). -/
def State.fltSrcPut (s : State) (m : Mst) (n : Nat) (v : Word) : State :=
  if (srcInfo n).isNone then s
  else
    let sev := bits v 63 61
    let change := s.sevAccepted n sev
    let old := s.get (.fltSrc n)
    if bits v 56 56 == 1 && s.forceActs m n then
      match s.askRec m RK.force n 0 (s.get .fltForceArg) with
      | (s, false) => s
      | (s, true) =>
        let s := (s.fltSrcClear n v).forceRaise m n
        if change then s.wr (F.fltSrc_SEV n) sev else s
    else if change then
      match s.askRec m RK.reg (fltSrcAddr n) old (setBits old 63 61 sev) with
      | (s, false) => s
      | (s, true) => (s.fltSrcClear n v).wr (F.fltSrc_SEV n) sev
    else s.fltSrcClear n v

/-- 16 R518: FORCE is written. -/
def execFaultForce (m : Mst) (n : Fin 1536) (v : Word) (s : State) : Out :=
  regWriteRow m (fltSrcAddr n) (setBits v 56 56 1) (fun s v => s.fltSrcPut m n v) s

/-- 16 R513: FLT_SRC is written with a severity. -/
def execFltSrcSevWrite (m : Mst) (n : Fin 1536) (v : Word) (s : State) : Out :=
  regWriteRow m (fltSrcAddr n) v (fun s v => s.fltSrcPut m n v) s

/-- 16 R512: CLRCNT is written. -/
def execFaultClrcnt (m : Mst) (n : Fin 1536) (v : Word) (s : State) : Out :=
  regWriteRow m (fltSrcAddr n) (setBits v 47 47 1) (fun s v => s.fltSrcPut m n v) s

/-- Word 2 of a domain record is written (16 R516): VALID clears every field. -/
def State.fltDomPut (s : State) (d : Nat) (v : Word) : State :=
  if bits v 63 63 = 1 then (List.range 4).foldl (fun t w => t.set (.fltDom d w) 0) s else s

/-- 16 R516: a domain record is cleared. -/
def execFaultRecordClear (m : Mst) (d : Fin 64) (v : Word) (s : State) : Out :=
  regWriteRow m (0x24010 + 32 * d.val) v (fun s v => s.fltDomPut d v) s

/-- FLT_PIN_THRESH is written (16 R524, R526): THRESH under its record; RELEASE ends the hold except at a halt. -/
def State.fltPinPut (s : State) (m : Mst) (v : Word) : State :=
  let old := s.get .fltPin
  let new := keepField old (accWrite .fltPin (s.on F.fltCfg_SLOCK) old v) 2 0 fun k => decide (k ≤ 4)
  match s.cfgPut m RK.reg 0x25000 .fltPin new with
  | (s, false) => s
  | (s, true) => if bits v 61 61 = 1 ∧ s.halted = false then s.wr F.fltPin_ASSERTED 0 else s

/-- 16 R526: RELEASE is written. -/
def execFaultRelease (m : Mst) (v : Word) (s : State) : Out :=
  regWriteRow m 0x25000 (setBits v 61 61 1) (fun s v => s.fltPinPut m v) s

/-- FLT_CFG is written (16 R524): one LOCK record when SLOCK sets. -/
def State.fltCfgPut (s : State) (m : Mst) (v : Word) : State :=
  let locks := bits v 63 63 == 1 && !s.on F.fltCfg_SLOCK
  let new := accWrite .fltCfg false (s.get .fltCfg) v
  (s.cfgPut m (if locks then RK.lock else RK.reg) 0x25008 .fltCfg (if locks then setBits new 63 63 1 else new) locks).1

/-! ## Sparing (16 R533 to R535) -/

/-- The contexts of an engine. -/
def engCtxs (g : Nat) : List Nat := (List.range 8).map (8 * g + ·)

/-- Two logical engines exchange their physical engines: register files follow the hardware. -/
def swapCtxReg (a b : Nat) (r : Reg) : Reg :=
  let f (c : Nat) : Nat := if c / 8 = a then 8 * b + c % 8 else if c / 8 = b then 8 * a + c % 8 else c
  match r with
  | .g c i => .g (f c) i
  | .h c i => .h (f c) i
  | .pc c => .pc (f c)
  | .csr c 0 => .csr c 0
  | .csr c w => .csr (f c) w
  | .engStat e => .engStat (if e = a then b else if e = b then a else e)
  | r => r

/-- The palette of engine `a` is copied to engine `b`. -/
def State.copyPalette (s : State) (a b : Nat) : State :=
  let keep : Memory := s.pal.filter fun c => c.1 / 65536 != b
  let bs := s.pal.filter fun c => c.1 / 65536 == a
  let bad := s.palPoison.filter fun c => c.1 / 8192 == a
  { s with
    pal := bs.foldl (fun k c => k.write (b * 65536 + c.1 % 65536) c.2) keep
    palPoison := bad.foldl (fun k c => k.put (b * 8192 + c.1 % 8192) ())
      (s.palPoison.filter fun (c : Nat × Unit) => c.1 / 8192 != b) }

/-- The spare takes over a logical engine (16 R533 steps 2 to 4): instance 16 then shows the retired engine, with EN
0, and the contexts `ens` have EN again. The sketch cache of the spare is empty. -/
def State.engSubstitute (s : State) (i l : Nat) (ens : List Nat) : State :=
  let g := 17 * i + l
  let sp := 17 * i + 16
  let s := s.copyPalette g sp
  let s := { s with regs := s.regs.map fun (c : Reg × Word) => (swapCtxReg g sp c.1, c.2) }
  let s := (((s.setEng g fun x => { x with code := [], codeEcc := [] }).setSteerQ g id).setSteerQ sp id)
  let s := (List.range 8).foldl
    (fun t k => t.set (.ctxCfg (8 * sp + k)) (setBits (t.get (.ctxCfg (8 * g + k))) 63 60 0)) s
  let s := ((s.wr (F.islEngMap_SUB i) 1).wr (F.islEngMap_SUBL i) l).wr (F.islEngMap_OFF i) (s.rd (F.islEngMap_OFF i) ||| 2 ^ l)
  ens.foldl (fun t c => (t.wr (F.ctxCfg_EN c) 1).enSets c) s

/-- The engines of an island that run and that steering can name. -/
def State.steerable (s : State) (i : Nat) : List Nat := (List.range 16).filter fun l => !s.engOff (17 * i + l)

/-- Steering entries of an engine that is switched off go to the others of its island in rotation (16 R533). -/
def State.resteer (s : State) (i l : Nat) : State :=
  let ts := s.steerable i
  if ts = [] then s
  else
    let es := (List.range 4096).filter fun k => s.rd (F.steer_ISLAND k) == i && s.rd (F.steer_ENGINE k) == l
    (es.zipIdx).foldl
      (fun (t : State) (x : Nat × Nat) =>
        let t := t.wr (F.steer_ENGINE x.1) (ts.getD (x.2 % ts.length) 0)
        { t with sandbox := { t.sandbox with moved := t.sandbox.moved.upd x.1 0 (· + 1) } }) s

/-- An engine without a spare is switched off. -/
def State.engSwitchOff (s : State) (i l : Nat) : State :=
  let g := 17 * i + l
  let s := s.wr (F.islEngMap_OFF i) (s.rd (F.islEngMap_OFF i) ||| 2 ^ s.physEng g)
  let s := (engCtxs g).foldl (fun t c => t.wr (F.ctxCfg_EN c) 0) s
  s.resteer i l

/-- The map that a retirement leaves (16 R533, R534). -/
def State.retiredMap (s : State) (i l : Nat) (spare : Bool) : Word :=
  let w := s.get (.islEngMap i)
  if spare then setBits (setBits (setBits w 63 63 1) 62 58 l) 57 41 (bits w 57 41 ||| 2 ^ l)
  else setBits w 57 41 (bits w 57 41 ||| 2 ^ s.physEng (17 * i + l))

/-- The spare of an island can take over logical engine `l`: none in island 0, nor once it stands for another, is off, or is
promised to another (16 R532). -/
def State.spareFree (s : State) (i l : Nat) : Bool :=
  decide (i ≠ 0 ∧ l ≠ 16) && !s.on (F.islEngMap_SUB i) && !s.engOff (17 * i + 16)
    && !s.faults.retiring.any fun x => x.1 / 17 == i && x.2.2

/-- Steps 2 to 4 of a retirement, once every context is IDLE (16 R533); an engine without a spare is switched off then too
(notes/assumptions/75.md). -/
def State.retireGo (s : State) (i l : Nat) (ens : List Nat) (spare : Bool) : State :=
  let g := 17 * i + l
  if (engCtxs g).all (fun c => s.ctxState c == XS.idle) then
    let s := { s with faults := { s.faults with retiring := s.faults.retiring.filter (·.1 != g)
                                                engErrs := s.faults.engErrs.filter (·.1 != g) } }
    let s := if spare then s.engSubstitute i l ens else s.engSwitchOff i l
    s.raise (Src.ENG_RETIRED i) { addr := l, master := 0x1080, atype := 14 }
  else s

/-- 16 R533: the warden retires a logical engine that fails: its record, which carries REPAIR, comes first, so that the
retirement waits while the store is full (17 R556); EN of its contexts clears, and the rest follows once each is IDLE, at once or
in a later command. Engine 16 of island 0 is the warden's. -/
def execEngineRetire (i : Fin 16) (l : Fin 17) (s : State) : Out :=
  let g := 17 * i.val + l.val
  if s.halted || s.engOff g then .next s
  else
    match s.retiring g with
    | some (_, ens, spare) => fin (s.retireGo i l ens spare)
    | none =>
      if !s.engFailing g then .next s
      else if i.val = 0 ∧ l.val = 16 then fin (s.raise Src.WARDEN_LOST { addr := 16, master := 0x1080, atype := 14 })
      else
        let spare := s.spareFree i l
        let r : AudRec :=
          { kind := RK.engine, master := 0x1080, addr := l.val * 16 + i.val, old := s.get (.islEngMap i)
            new := s.retiredMap i l spare }
        match s.audRepair r with
        | (s, false) => fin s
        | (s, true) =>
          let ens := (engCtxs g).filter fun c => s.on (F.ctxCfg_EN c)
          let s := { s with faults := { s.faults with retiring := (g, ens, spare) :: s.faults.retiring } }
          fin ((ens.foldl (fun t c => t.wr (F.ctxCfg_EN c) 0) s).retireGo i l ens spare)

/-- The spares of an SRAM macro or of a strait (16 R532). -/
def spareCount (n : Nat) : Nat := if (Config.repairPlace n).isNone then 16 else 2

/-- 16 R535: firmware appends a soft-repair record; it applies at the next boot (18 R576). With no spare left there is none to
append; an engine whose memory needs it is to be retired (R532, R533). -/
def execSoftRepairRecord (addr : BitVec 16) (desc : Word) (s : State) : Out :=
  let n := addr.toNat
  if s.halted then .next s
  else if s.boot.spent.at n 0 < spareCount n then
    let r : AudRec := { kind := RK.softRepair, master := 0x1080, addr := n, new := desc }
    match s.audRepair r with
    | (s, false) => fin s
    | (s, true) => fin { s with boot := { s.boot with spent := s.boot.spent.upd n 0 (· + 1) } }
  else
    match Config.repairPlace n with
    | some (some g) => .next (s.engError g 2)
    | _ => .next s

end Sys2Proof.Machine
end

