-- ==== Sys2Proof/Machine/CountRows.lean ====
section
/-! DEFINITION. The commands of counters, sampling, time and the audit log (17). -/

namespace Sys2Proof.Machine

/-! ## Counters (17 R536 to R539) -/

/-- 17 R539: a counter at its last value counts once more and wraps. -/
def execCounterWrap (b : Fin 17) (k : Fin 8) (s : State) : Out :=
  if s.rd (F.cntVal_VAL b k) = 2 ^ 48 - 1 ∧ s.cntCounts b k = true then .next (State.cntAdd b (7 - k.val) k 1 s)
  else .next s

/-- CNT_GLB of the device block is written (17 R536). -/
def State.cntGlbPut (s : State) (v : Word) : State :=
  let s := s.plainWrite .cntGlb v
  if bits v 62 62 = 1 then
    (List.range 17).foldl (fun t b => (List.range 8).foldl (fun t k => t.set (.cntVal b k) 0) t) s
  else s

/-- 17 R536: CLEAR is written: every programmable counter is zero. -/
def execCounterClear (m : Mst) (v : Word) (s : State) : Out :=
  regWriteRow m 0xB090 (setBits v 62 62 1) (fun s v => s.cntGlbPut v) s

/-! ## Samples (17 R540 to R545) -/

/-- 17 R541: the oldest record of the sample FIFO is copied to the sample ring. -/
def execSampleRingCopy (s : State) : Out :=
  match s.samples.items with
  | [] => .next s
  | r :: _ =>
    let k := s.rd F.cntSmpCfg_LOG2SIZE
    let pi := s.rd F.cntSmpPi_PI
    if s.halted || !s.on F.cntSmpCfg_EN || ringDepth k pi (s.rd F.cntSmpCi_CI) == 2 ^ k then .next s
    else
      let s := { s with samples := s.samples.pop 12 }
      let s := s.wmEval 21 (s.samples.depth 12)
      let s := s.dma (.hostWrite (s.rd F.cntSmpCfg_FUNC) (s.rd F.cntSmpBase_BASE + pi % 2 ^ k * 64)
        (r.flatMap fun w => bytesOf 8 w.toNat))
      let next := (pi + 1) % ringMod k
      let s := s.wr F.cntSmpPi_PI next
      fin (if next % 64 = 0 then s.msix (s.rd F.cntSmpCfg_FUNC) (s.rd F.cntSmpCfg_VECTOR) else s)

/-- STALL (17 R545): the cause that held the instruction the longest, the lower code of equal ones; `held` are the cycles of causes
0x01 to 0x09, and with none 0x00. -/
def stallCause (held : List Nat) : Nat :=
  let xs := (held.take 9).zipIdx
  (xs.foldl (fun (k : Nat × Nat) x => if k.2 < x.1 then (x.2 + 1, x.1) else k) (0, 0)).1

/-- The eight words of an instruction sample (17 R544). -/
def tagRecord (c : Nat) (t : Tag) (insn : BitVec 32) (stages : List Byte) (held : List Nat) (memlat : BitVec 16) : List Word :=
  [BitVec.ofNat 64 t.time,
   BitVec.ofNat 64 (t.pc % 2 ^ 32 * 2 ^ 32 + c % 4096 * 2 ^ 20 + t.tenant % 4096 * 2 ^ 8 + t.level % 4 * 64),
   wordOfBytes stages,
   BitVec.ofNat 64 (insn.toNat * 2 ^ 32 + stallCause held * 2 ^ 24 + t.trap % 256 * 2 ^ 16 + if t.addr.isSome then memlat.toNat else 0),
   t.addr.getD 0, 0, 0, BitVec.ofNat 64 (3 * 2 ^ 56)]

/-- The facts told of a tagged instruction are those of the oldest one whose record is due: its word, its trap and its address. -/
def Tag.spells (t : Tag) (insn : BitVec 32) (trapCode : Byte) (addr : Word) : Bool :=
  t.insn.all (· == insn.toNat) && t.trap == trapCode.toNat && t.addr.getD 0 == addr

/-- 17 R543, R544: a tagged instruction leaves write-back or traps: its record goes to the sample FIFO. Its cycles are told; told of
another instruction, the command does nothing. -/
def execInstructionTag (c : CtxNum) (insn : BitVec 32) (stages : List Byte) (held : List Nat) (trapCode : Byte)
    (memlat : BitVec 16) (addr : Word) (s : State) : Out :=
  match (s.ctx c).tags with
  | [] => .next s
  | t :: rest =>
    if t.spells insn trapCode addr then
      let s := s.setCtx c fun x => { x with tags := rest, tagging := x.tagging && !rest.isEmpty }
      fin (if s.halted then s else s.samplePush (tagRecord c t insn stages held memlat))
    else .next s

/-! ## Bandwidth windows (17 R546, R547) -/

/-- The oldest bandwidth window that has ended becomes visible on all ports. -/
def State.bwShow (s : State) : State :=
  match s.clock.bwDone with
  | [] => s
  | (tx, rx, n) :: rest =>
    let s := { s with clock := { s.clock with bwDone := if n ≤ 1 then rest else ([], [], n - 1) :: rest } }
    (List.range 128).foldl
      (fun t n => (((t.wr (F.cntBwTx_BYTES n) (tx.at n 0)).wr (F.cntBwRx_BYTES n) (rx.at n 0)).wr
        (F.cntBwSeq_WSEQ n) (t.rd (F.cntBwSeq_WSEQ n) + 1))) s

/-- Time passes until TIM_NOW reaches the next multiple of `p`, unless it has stepped across one since `last`. -/
def State.passMultiple (s : State) (last p : Nat) : State :=
  if last / p < s.tim / p then s else s.passTim ((s.tim / p + 1) * p)

/-- 17 R547: a bandwidth window ends on all ports. -/
def execBwWindowEnd (s : State) : Out :=
  if s.held then .next s
  else
    if s.on F.cntBwCfg_EN then
      let s := s.bwEdge
      let s := if s.clock.bwDone.isEmpty then (s.passTim ((s.tim / s.bwWindow + 1) * s.bwWindow)).bwEdge else s
      fin s.bwShow
    else .next s

/-! ## Time (17 R548 to R550) -/

/-- 17 R549: TIM_NOW reaches a multiple of a second: PPS_OUT rises unless it is high. -/
def execPpsOutRise (s : State) : Out :=
  if s.on F.timCfg_OUT_EN then
    let s := s.passMultiple s.clock.ppsAt 1000000000
    let s := { s with clock := { s.clock with ppsAt := s.tim } }
    if s.clock.ppsOut then fin s
    else fin { s with clock := { s.clock with ppsOut := true, ppsFall := s.now + s.rd F.timCfg_OUT_W * 1000000 } }
  else .next s

/-- 17 R549: PPS_OUT falls after OUT_W ms. -/
def execPpsOutFall (s : State) : Out :=
  if s.clock.ppsOut then
    let s := s.passTo s.clock.ppsFall
    fin { s with clock := { s.clock with ppsOut := false } }
  else .next s

/-- The offset from STAMP to the nearest multiple of a second; half way the spec names none, and it is free. -/
def ppsOffset (stamp : Nat) (up : Bool) : Int :=
  let r := stamp % 1000000000
  if r < 500000000 ∨ (r = 500000000 ∧ up = false) then -(r : Int) else 1000000000 - (r : Int)

/-- 17 R550: a rising edge of PPS_IN. -/
def execPpsInEdge (s : State) : Out :=
  if s.on F.timCfg_IN_EN then
    let stamp := s.tim
    let s := s.wr F.timPpsStamp_STAMP stamp
    let s := ({ s with clock := { s.clock with ppsIn := some s.now } }).condClear Src.PPS_LOST 0
    if s.on F.timCfg_DISC && s.on F.lnkTimeStat_GM then
      let up := (Config.freeWord s.free).toNat % 2 == 1
      let s := if stamp % 1000000000 = 500000000 then s.drawn else s
      fin (s.adjust (s.on F.lnkGlbCfg_FREEZE) (ppsOffset stamp up))
    else fin s
  else .next s

/-- 17 R550: no rising edge of PPS_IN for 1.5 s. -/
def execPpsInTimeout (s : State) : Out :=
  match s.clock.ppsIn with
  | some t =>
    if s.on F.timCfg_IN_EN && !s.faults.conds.contains (Src.PPS_LOST, 0) then
      fin ((s.passTo (t + 1500000000)).condRise Src.PPS_LOST 0 { atype := 14 })
    else .next s
  | none => .next s

/-- TIM_CFG is written (17 R548 to R550). -/
def State.timCfgPut (s : State) (m : Mst) (v : Word) : State :=
  let old := s.get .timCfg
  let was := s.on F.timCfg_IN_EN
  let new := keepField old (accWrite .timCfg false old v) 8 0 fun k => decide (1 ≤ k ∧ k ≤ 500)
  match s.cfgPut m RK.reg 0x3008 .timCfg new with
  | (s, false) => s
  | (s, true) =>
    let s :=
      if s.on F.timCfg_OUT_EN then if bits old 61 61 = 1 then s else { s with clock := { s.clock with ppsAt := s.tim } }
      else { s with clock := { s.clock with ppsOut := false } }
    if s.on F.timCfg_IN_EN then
      if was then s else { s with clock := { s.clock with ppsIn := some s.now } }
    else ({ s with clock := { s.clock with ppsIn := none } }).condClear Src.PPS_LOST 0

/-! ## The audit log (17 R556, R560) -/

/-- 17 R556: the owed GAP record is committed when the store has room. -/
def execGapRecordCommit (s : State) : Out := fin s.audPayGap

/-- AUD_EXPORT is written (17 R560). -/
def State.audExportPut (s : State) (m : Mst) (v : Word) : State :=
  let n := bits v 17 0
  if (mstClass m = 4 ∨ s.atF m = true) ∧ n ≤ s.audHeld ∧ n ≤ audSlots then s.audPass n
  else s.count F.audStat_REFUSED

/-- 17 R560: AUD_EXPORT is written. -/
def execAuditExport (m : Mst) (v : Word) (s : State) : Out := regWriteRow m 0x30018 v (fun s v => s.audExportPut m v) s

/-- AUD_CFG is written (17 R553, R559): a MODE record, or one LOCK record when ALOCK sets. -/
def State.audCfgPut (s : State) (m : Mst) (v : Word) : State :=
  let lock := s.on F.audCfg_ALOCK
  let locks := bits v 62 62 == 1 && !lock
  let old := s.get .audCfg
  let new := keepField old (accWrite .audCfg lock old v) 10 0 fun k => decide (256 ≤ k ∧ k ≤ 2047)
  let new := if locks then setBits new 62 62 1 else new
  if locks then (s.cfgPut m RK.lock 0x30000 .audCfg new true).1 else (s.cfgPut m RK.mode 0 .audCfg new).1

end Sys2Proof.Machine
end

