-- ==== Sys2Proof/Machine/PowerRows.lean ====
section
/-! DEFINITION. The commands of rails, clocks, the voltage and frequency loops and the junction sensors (19). -/

namespace Sys2Proof.Machine

/-! ## Rails and clocks (19 R586, R591) -/

/-- 19 R586: a rail has left its range for 10 µs. -/
def execRailFault (r : Fin 16) (s : State) : Out :=
  if r.val < 8 then fin (s.condRise Src.RAIL_FAULT r { addr := r, atype := 14 }) else .next s

/-- 19 R586: the rail is back in its range. -/
def execRailInRange (r : Fin 16) (s : State) : Out := fin (s.condClear Src.RAIL_FAULT r)

/-- 19 R591: the root PLL loses lock. -/
def execRootPllUnlock (s : State) : Out :=
  fin ((s.wr F.clkStat_ROOTLOCK 0).condRise Src.CLK_ROOT_UNLOCK 0 { atype := 14 })

/-- 19 R591: the root PLL locks. -/
def execRootPllRelock (s : State) : Out := fin ((s.wr F.clkStat_ROOTLOCK 1).condClear Src.CLK_ROOT_UNLOCK 0)

/-- A bit of a field is set or cleared. -/
def State.setBit (s : State) (f : Fld) (i : Nat) (b : Bool) : State :=
  let v := s.rd f
  s.wr f (if v / 2 ^ i % 2 = 1 then (if b then v else v - 2 ^ i) else (if b then v + 2 ^ i else v))

/-- 19 R591: a transmit lane PLL loses lock: its island's ports are declared down. -/
def execLanePllUnlock (i : Fin 16) (s : State) : Out :=
  let s := (s.setBit F.clkStat_LANELOCK i false).condRise Src.CLK_LANE_PLL_UNLOCK i { addr := i, atype := 14 }
  fin ((List.range 8).foldl (fun t k => t.linkDown (8 * i.val + k)) s)

/-- 19 R591: the lane PLL relocks and the ports bring themselves up. -/
def execLanePllRelock (i : Fin 16) (s : State) : Out :=
  fin (((s.setBit F.clkStat_LANELOCK i true).condClear Src.CLK_LANE_PLL_UNLOCK i).islandUp i)

/-- 19 R591: HOSTn_REFCLK starts or stops. -/
def execHostRefclkChange (n : Fin 4) (run : Bool) (s : State) : Out := fin (s.setBit F.clkStat_HPCLK n run)

/-- 19 R591: PIER_REFCLK starts or stops. -/
def execPierRefclkChange (run : Bool) (s : State) : Out := fin (s.wr F.clkStat_PIERCLK run.toNat)

/-! ## Voltage and frequency (19 R592 to R595) -/

/-- The loops of an island. -/
def State.isle (s : State) (i : Nat) : IslePower := s.power.isles.at i {}
def State.setIsle (s : State) (i : Nat) (f : IslePower → IslePower) : State :=
  { s with power := { s.power with isles := s.power.isles.upd i {} f } }

/-- The step that every hold allows (19 R594): the lowest frequency of droop protection, cap and voltage limit. -/
def State.wantStep (s : State) (i : Nat) : Nat :=
  let x := s.isle i
  max x.droop (max (if s.on F.pwrDfs_EN then x.cap else 0) x.limit)

/-- The engine clock of an island takes a step; its cycle counter is brought up to date first (17 R536). -/
def State.setStep (s : State) (i st : Nat) : State :=
  if s.rd (F.pwrIsl_STEP i) = st then s else (s.cycStore i).wr (F.pwrIsl_STEP i) st

/-- A lower step applies at once. -/
def State.stepDown (s : State) (i : Nat) : State :=
  if s.rd (F.pwrIsl_STEP i) < s.wantStep i then s.setStep i (s.wantStep i) else s

/-- VNEED of the step above the present one, where the monitors have told it at this step. -/
def State.needHigher (s : State) (i : Nat) : Option Nat :=
  if (s.isle i).needAt = some (s.rd (F.pwrIsl_STEP i)) then some (s.isle i).needUp else none

/-- A higher step applies once VOUT has reached what it needs. -/
def State.stepUp (s : State) (i : Nat) : State :=
  if s.wantStep i < s.rd (F.pwrIsl_STEP i) ∧ (s.needHigher i).any (fun v => decide (v ≤ s.rd (F.pwrIsl_VOUT i))) then
    s.setStep i (s.rd (F.pwrIsl_STEP i) - 1)
  else s

/-- The flags of an island, and PWR_CAP while the cap holds any island (19 R595). -/
def State.holdSync (s : State) (i : Nat) : State :=
  let dfs := s.on F.pwrDfs_EN
  let s := (s.wr (F.pwrIsl_DROOP i) (decide (0 < (s.isle i).droop)).toNat).wr (F.pwrIsl_CAPPED i)
    (dfs && decide (0 < (s.isle i).cap)).toNat
  if dfs && s.power.isles.any fun x => decide (0 < x.2.cap) then s.condRise Src.PWR_CAP 0 { atype := 14 }
  else s.condClear Src.PWR_CAP 0

/-- The target of an island (19 R593): a higher step that it awaits counts where its voltage lies within VMAX (R594). -/
def State.vTarget (s : State) (i : Nat) : Nat :=
  let x := s.isle i
  match s.needHigher i with
  | some v => if s.wantStep i < s.rd (F.pwrIsl_STEP i) ∧ v ≤ s.rd (F.pwrIsl_VMAX i) then max x.need v else x.need
  | none => x.need

/-- The request for VDD_CORE that the targets ask for (19 R592, R593). -/
def State.vddWanted (s : State) : Nat :=
  if s.on F.pwrAvs_EN then
    let top := s.power.isles.foldl (fun k x => max k (s.vTarget x.1)) 0
    let v := (top + max 20 (s.rd F.pwrAvs_HEADROOM) + 4) / 5 * 5
    max (s.rd F.pwrAvs_VMIN) (min (s.rd F.pwrAvs_VMAX) v)
  else s.rd F.pwrAvs_VMAX

/-- The output that an island's loop moves to: its target, but not below VMIN, or VMAX while the loop is off (19 R592). -/
def State.vGoal (s : State) (i : Nat) : Nat :=
  if s.on F.pwrAvs_EN then max (s.rd (F.pwrIsl_VMIN i)) (s.vTarget i) else s.rd (F.pwrIsl_VMAX i)

/-- Every island has reached its lower target (19 R593). -/
def State.allReached (s : State) : Bool := s.power.isles.all fun x => decide (s.rd (F.pwrIsl_VOUT x.1) ≤ s.vGoal x.1)

/-- The request is sent: a raised one at once, a lowered one once per 1 ms and with every island at its target
(19 R593). -/
def State.avsRequest (s : State) : State :=
  let v := s.vddWanted
  let now := s.rd F.pwrAvs_VREQ
  if now < v then (s.wr F.pwrAvs_VREQ v).emit (.avs v)
  else if v < now ∧ s.power.lowered + 1000000 ≤ s.now ∧ s.allReached = true then
    { (s.wr F.pwrAvs_VREQ v).emit (.avs v) with power := { s.power with lowered := s.now } }
  else s

/-- The output of an island moves toward its target (19 R592), from VMIN upward at once, or stands at VMAX while the loop is off;
VDD_CORE bounds it throughout. -/
def State.voutMove (s : State) (i vdd : Nat) : State :=
  let cur := s.rd (F.pwrIsl_VOUT i)
  let cap := min (s.rd (F.pwrIsl_VMAX i)) (vdd - 20)
  if !s.on F.pwrAvs_EN then s.wr (F.pwrIsl_VOUT i) cap
  else if s.on F.pwrAvs_FREEZE then s
  else
    let goal := s.vGoal i
    let next := if cur < goal then min goal (cur + 5) else max goal (cur - 5)
    s.wr (F.pwrIsl_VOUT i) (min cap (max (s.rd (F.pwrIsl_VMIN i)) next))

/-- An island that needs more than its VMAX is held at a lower step (19 R592, R594). -/
def State.limitSync (s : State) (i : Nat) : State :=
  let x := s.isle i
  let vmax := s.rd (F.pwrIsl_VMAX i)
  let st := s.rd (F.pwrIsl_STEP i)
  if vmax < x.need then
    (s.condRise Src.AVS_LIMIT i { addr := i, atype := 14 }).setIsle i fun y => { y with limit := min 2 (st + 1) }
  else
    let s := s.condClear Src.AVS_LIMIT i
    if x.needUp ≤ vmax then s.setIsle i fun y => { y with limit := min y.limit (st - 1) } else s

/-- 19 R592, R593: an iteration of an island's voltage loop, 10 µs after the last, with what its monitors report. -/
def execAvsLoopStep (i : Fin 16) (r : AvsReading) (s : State) : Out :=
  if s.held then .next s
  else
    let s := s.passTo ((s.isle i).loopAt + 10000)
    let s := s.setIsle i fun x => { x with need := r.vneed, needUp := r.vneedNext, needAt := some (s.rd (F.pwrIsl_STEP i)), loopAt := s.now }
    let s := ((s.wr (F.pwrIsl_VNEED i) r.vneed).limitSync i).stepDown i
    fin ((((s.voutMove i r.vddCore).stepUp i).avsRequest).holdSync i)

/-- 19 R594: a droop: droop protection holds the island's engines at ÷6; each step it makes raises PWR_DROOP. -/
def execDroopDetect (i : Fin 16) (s : State) : Out :=
  if s.held then .next s
  else
    let t := s.setIsle i fun x => { x with droop := 2, droopAt := s.now }
    let t := (t.stepDown i).holdSync i
    fin (if (s.isle i).droop = 2 then t else t.raise Src.PWR_DROOP { addr := i, atype := 14 })

/-- 19 R594: 10 µs without a further droop relax droop protection by a step. -/
def execDroopRelax (i : Fin 16) (s : State) : Out :=
  if s.held then .next s
  else
    if (s.isle i).droop = 0 then .next s
    else
      let s := s.passTo ((s.isle i).droopAt + 10000)
      let s := s.setIsle i fun x => { x with droop := x.droop - 1, droopAt := s.now }
      fin (((s.stepUp i).avsRequest).holdSync i)

/-- The islands that the cap holds. -/
def State.cappedIsles (s : State) : List Nat := (List.range 16).filter fun i => decide (0 < (s.isle i).cap)

/-- The island whose engines have issued the most instructions since the last iteration (19 R595); the one told where it is
among several. -/
def State.busiest (s : State) (told : Nat) : Nat :=
  let n (i : Nat) : Nat := s.power.issued.at i 0
  (List.range 16).foldl (fun k i => if n k < n i then i else k) told

/-- 19 R595: an iteration of the power cap, 100 µs after the last. Which capped island steps up is open, and free. -/
def execPowerCapIteration (pest : Nat) (busiest : Fin 16) (s : State) : Out :=
  if s.held then .next s
  else
    if s.on F.pwrDfs_EN && !s.on F.pwrDfs_FREEZE then
      let s := s.passTo (s.power.capAt + 100000)
      let i := s.busiest busiest
      let s := { s.wr F.pwrDfs_PEST pest with power := { s.power with capAt := s.now, issued := [] } }
      let cap := s.rd F.pwrDfs_CAP
      if cap < pest then
        let floor := min 2 (s.rd F.pwrDfs_FLOOR)
        let s := s.setIsle i fun x => { x with cap := max x.cap (min floor (s.rd (F.pwrIsl_STEP i) + 1)) }
        fin ((s.stepDown i).holdSync i)
      else if pest * 100 ≤ cap * 95 then
        match s.cappedIsles with
        | [] => fin s
        | i :: t =>
          let k := (i :: t).getD ((Config.freeWord s.free).toNat % (t.length + 1)) i
          let s := s.drawn.setIsle k fun x => { x with cap := x.cap - 1 }
          fin (((s.stepUp k).avsRequest).holdSync k)
      else fin s
    else .next s

/-- PWR_AVS is written (19 R596): bad limits leave both as they are. -/
def State.pwrAvsPut (s : State) (m : Mst) (v : Word) : State :=
  let old := s.get .pwrAvs
  let new := accWrite .pwrAvs false old v
  let hi := bits new 61 52
  let lo := bits new 51 42
  let bad := decide (hi < lo ∨ 850 < hi ∨ lo < 650) || (List.range 16).any fun i => decide (hi < s.rd (F.pwrIsl_VMAX i) + 20)
  let new := if bad then setBits new 61 42 (bits old 61 42) else new
  match s.cfgPut m RK.reg 0x5000 .pwrAvs new with
  | (s, false) => s
  | (s, true) => s.avsRequest

/-- PWR_ISL is written (19 R596). -/
def State.pwrIslPut (s : State) (m : Mst) (i : Nat) (v : Word) : State :=
  let old := s.get (.pwrIsl i)
  let new := accWrite (.pwrIsl i) false old v
  let bad := decide (bits new 29 20 < bits new 39 30 ∨ s.rd F.pwrAvs_VMAX < bits new 29 20 + 20)
  match s.cfgPut m RK.reg (0x5100 + 8 * i) (.pwrIsl i) (if bad then setBits new 39 20 (bits old 39 20) else new) with
  | (s, false) => s
  | (s, true) => s.avsRequest

/-- PWR_DFS is written (19 R595): with EN 0 the cap holds nothing. -/
def State.pwrDfsPut (s : State) (m : Mst) (v : Word) : State :=
  match s.cfgWrite m 0x5008 .pwrDfs v with
  | (s, false) => s
  | (s, true) =>
    if s.on F.pwrDfs_EN then s
    else ((List.range 16).foldl (fun t i => (t.setIsle i fun x => { x with cap := 0 }).holdSync i) s).avsRequest

/-! ## Junction sensors (19 R597, R598) -/

/-- A reading in 0.125 °C. -/
def degrees (v : Nat) : Int := signedOf 16 (v % 65536)

/-- The condition of a threshold (19 R598): any sensor at or above it, until every one is below it by the
hysteresis. -/
def State.thermSync (s : State) (src limit sensor : Nat) : State :=
  let t (k : Nat) : Int := degrees (s.rd (F.pwrTemp_TEMP k))
  let low : Int := (limit * 8 : Nat) - (s.rd F.pwrThermCfg_HYST * 8 : Nat)
  if (limit * 8 : Nat) ≤ t sensor then s.condRise src 0 { addr := sensor, atype := 14, master := 0x7010 }
  else if (List.range 24).all fun k => decide (t k < low) then s.condClear src 0
  else s

/-- The sensor that holds a threshold's condition: the first at or above it, else the first that has not fallen by the
hysteresis. -/
def State.hotSensor (s : State) (limit : Nat) : Option Nat :=
  let t (k : Nat) : Int := degrees (s.rd (F.pwrTemp_TEMP k))
  let low : Int := (limit * 8 : Nat) - (s.rd F.pwrThermCfg_HYST * 8 : Nat)
  ((List.range 24).find? fun k => decide ((limit * 8 : Nat) ≤ t k)).or ((List.range 24).find? fun k => decide (low ≤ t k))

/-- The time above 95 °C (19 R596, R599). -/
def State.hotSync (s : State) : State :=
  let hot := (List.range 24).any fun k => decide (760 < degrees (s.rd (F.pwrTemp_TEMP k)))
  let ns := s.power.hotNs + (match s.power.hotAt with | some t => s.now - t | none => 0)
  let s := { s with power := { s.power with hotNs := ns, hotAt := if hot then some s.now else none } }
  s.wr F.pwrStat_HOT_S (min (2 ^ 32 - 1) (ns / 1000000000))

/-- 19 R597, R598: a junction sensor is read, 100 µs after it was last read. -/
def execThermalSensorRead (n : Fin 24) (temp : BitVec 16) (s : State) : Out :=
  let first := (s.power.readAt.find n).isNone
  let s := s.passTo (s.power.readAt.at n 0 + 100000)
  let s := { s with power := { s.power with readAt := s.power.readAt.put n s.now } }
  let s := s.wr (F.pwrTemp_TEMP n) temp.toNat
  let s := if first || decide (degrees (s.rd (F.pwrTemp_PEAK n)) < degrees temp.toNat) then s.wr (F.pwrTemp_PEAK n) temp.toNat else s
  let s := s.thermSync Src.THERM_TRIP (min 110 (s.rd F.pwrThermCfg_TRIP_C)) n
  fin ((s.thermSync Src.THERM_WARN (s.rd F.pwrThermCfg_WARN_C) n).hotSync)

/-- THERM_N is low while THERM_TRIP is active (19 R598). -/
def State.thermN (s : State) : Bool := !s.on (F.fltSrc_ACTIVE Src.THERM_TRIP)

end Sys2Proof.Machine
end

