-- ==== Sys2Proof/Machine/ResetRows.lean ====
section
/-! DEFINITION. The resets of the device and of its units (18 R562 to R568), and the links of the host ports and the
pier (16 R511, 18 R572). -/

namespace Sys2Proof.Machine

/-! ## Power-on and device warm reset (18 R562, R564, R566) -/

/-- What a power-on reset keeps of a word: the audit store and its pointers, and which reference clocks run. -/
def porKeep (c : Reg × Word) : Option (Reg × Word) :=
  match c.1 with
  | .audRec _ _ | .audSeq | .audPtr | .audWear => some c
  | .clkStat => some (c.1, setBits c.2 63 47 0)
  | _ => none

/-- 18 R562: POR_N is asserted and deasserted again; boot is due, and LCS_STATE shows the fuses (15 R503). Levels on pins stay as
the board drives them. -/
def execPowerOnReset (s : State) : Out :=
  let t : State :=
    { regs := s.regs.filterMap porKeep, hosts := s.hosts.each fun _ h => { perst := h.perst }, fuses := s.fuses
      audit := { owed := s.audit.owed, corrupt := s.audit.corrupt }, boot := { prevSvn := s.boot.prevSvn, spent := s.boot.spent }
      nextId := s.nextId, free := s.free, pending := s.pending, out := s.out }
  fin (t.wr F.lcsState_STATE (max s.fuses.state (s.fuses.pending.getD 0)))

/-- What a device warm reset keeps of a word (18 R566, 16 R522, 15 R501). -/
def warmKeep (c : Reg × Word) : Option (Reg × Word) :=
  match c.1 with
  | .audRec _ _ | .audSeq | .audPtr | .audWear | .fltDom _ _ | .cntCyc _ | .pwrTemp _ | .pwrStat | .lmpEmit _ _
  | .clkStat | .lcsState => some c
  | .audStat => some (c.1, setBits c.2 63 32 0)
  | .semStat => some (c.1, setBits c.2 10 0 0)
  | .glbRstCause => some (c.1, setBits 0 23 16 (bits c.2 23 16))
  | .fltHalt => some (c.1, setBits (setBits c.2 61 61 (bits c.2 63 63)) 63 62 0)
  | .fltPin => some (c.1, setBits c.2 2 0 3)
  | .fltSrc n =>
    let l := bits c.2 55 55
    some (c.1, setBits (setBits (setBits (Reg.fltSrc n).reset 55 55 l) 53 52 (2 * l)) 15 0 (bits c.2 15 0))
  | _ => none

/-- A condition that a device warm reset does not end (16 R522): temperatures, rails, clocks, the store, worn lamp modules,
and links that were down. -/
def condStays (n : Nat) : Bool :=
  n == Src.AUD_STORE_CORRUPT || n == Src.CLK_ROOT_UNLOCK || n == Src.CLK_LANE_PLL_UNLOCK || n == Src.THERM_WARN
    || n == Src.THERM_TRIP || n == Src.RAIL_FAULT || n == Src.PIE_LINK_DOWN
    || (decide (32 ≤ n / 24 ∧ n / 24 < 48) && n % 24 == 17)
    || (decide (4 ≤ n / 24 ∧ n / 24 < 8) && n % 24 == 6) || (decide (48 ≤ n / 24) && n % 24 == 7)

/-- GLB_RST_CAUSE names the warm reset (18 R579). -/
def State.warmCause (s : State) (pin : Bool) (m : Nat) : State :=
  let s := (s.wr F.glbRstCause_POR 0).wr F.glbRstCause_WPIN pin.toNat
  (s.wr F.glbRstCause_WREG (!pin).toNat).wr F.glbRstCause_MASTER m

/-- A device warm reset begins (18 R564, R566): from the pin, or by a write of master `m`. None begins at a TERMINAL
halt or within one (16 R521, 18 R563). -/
def State.warmReset (s : State) (pin : Bool) (m : Nat) : State :=
  if s.on F.fltHalt_TERM || s.held then s
  else
    let s := (List.range 17).foldl (fun t b => t.cycStore b) s
    let t : State :=
      { regs := s.regs.filterMap warmKeep, hosts := s.hosts.each fun _ h => { perst := h.perst }, pins := s.pins
        evs := s.evs.each fun _ v => { eseq := v.eseq }
        metering := { meters := s.metering.meters, snapSeq := s.metering.snapSeq }, fuses := s.fuses
        lamps := s.lamps.each fun _ x => { x with auth := false, challenge := [], askedAt := none }
        faults := { conds := s.faults.conds.filter fun c => condStays c.1 }
        clock := { now := s.clock.now, cycSince := s.clock.cycSince }
        audit := { owed := s.audit.owed, corrupt := s.audit.corrupt }
        boot := { phase := .warmHeld, began := s.now, prevSvn := s.boot.prevSvn, spent := s.boot.spent, rstLow := pin }
        power := { hotAt := s.power.hotAt, hotNs := s.power.hotNs, readAt := s.power.readAt }
        nextId := s.nextId, free := s.free, pending := s.pending, out := s.out }
    t.warmCause pin m

/-- 18 R564: WARM_RST_N has been low for 1 µs; a level that stays low after its reset has begun starts no second one. -/
def execDeviceWarmReset (s : State) : Out := if s.boot.rstLow then .next s else fin (s.warmReset true 0)

/-- 18 R564: a low level of 200 ns to 1 µs is counted; at a TERMINAL halt WARM_RST_N has no effect, and a pin that is low already
makes no pulse. -/
def execWarmRstShortPulse (s : State) : Out :=
  if s.on F.fltHalt_TERM || s.boot.rstLow then .next s else .next (s.count F.glbRstCause_SHORT)

/-- A LEVEL source whose condition persists has ACTIVE set and raises once (16 R522); that of a temperature persists where a sensor
still holds it at the thresholds now in force (19 R598). -/
def State.condAgain (s : State) (n : Nat) : State :=
  let again (a : RaiseArg) : State := ((s.wr (F.fltSrc_ACTIVE n) 1).fltStatus n).raise n a
  let therm (limit : Nat) : State :=
    match s.hotSensor limit with
    | some k => again { addr := k, master := 0x7010, atype := 14 }
    | none => s.condClear n 0
  if n = Src.THERM_WARN then therm (s.rd F.pwrThermCfg_WARN_C)
  else if n = Src.THERM_TRIP then therm (min 110 (s.rd F.pwrThermCfg_TRIP_C))
  else
    match s.faults.conds.find? fun c => c.1 == n with
    | some c => again { addr := c.2, atype := if 48 ≤ n / 24 then 6 else 14, unit := if srcUnitK n = 0 then 0 else c.2 }
    | none => s

/-- 18 R564: the reset phase ends, the hold of the fault pair with it (16 R526); boot is due. That is 10 µs after its beginning, or,
where the command comes later and WARM_RST_N was low, at the deassertion that the command then stands for
(notes/assumptions/75.md). -/
def execWarmResetPhaseEnd (s : State) : Out :=
  if s.boot.phase = .warmHeld then
    let s := (s.passTo (s.boot.began + 10000)).wr F.timNow_NOW 0
    let s := s.wr F.fltPin_ASSERTED (s.rd F.fltPin_TERMHOLD)
    let s := { s with boot := { s.boot with phase := .bootDue, began := s.now, rstLow := false } }
    fin (((s.faults.conds.map (·.1)).eraseDups).foldl (fun t n => t.condAgain n) s)
  else .next s

/-! ## Host ports (18 R562, R568, R572) -/

/-- A reset of a host port is covered by a wider one in progress (18 R563). -/
def State.hostCovered (s : State) (n : Nat) : Bool :=
  s.absorbed (4 * n)

/-- Every function of a host port is reset as a Function Level Reset; easel FIFO and assembly buffers are emptied. -/
def State.hostFnsReset (s : State) (n : Nat) : State :=
  let s := (List.range 256).foldl (fun t f => t.flrBegin (256 * n + f)) s
  let s := s.setHost n fun h => { h with asm := [], easel := {}, held := [], flr := [] }
  s.wmEval n 0

/-- The PCIe link of a host port is lost. -/
def State.hostLinkLost (s : State) (n : Nat) : State :=
  if (s.host n).linkUp then
    (s.setHost n fun h => { h with linkUp := false, cxl := false, mode := none, lines := [] }).condRise (Src.HPT_LINK_DOWN n) 0 {}
  else s

/-- GLB_RST.HPORT resets a host port; the reset ends as the Function Level Reset of its PF. -/
def State.hostRegReset (s : State) (n : Nat) : State :=
  if s.hostCovered n then s
  else (s.hostFnsReset n).setHost n fun h => { h with resetting := true, flr := [0] }

/-! ## Islands and ports (18 R562, R567) -/

/-- The L1 of an engine writes its dirty lines back and is empty; the home harbours answer under 13 R440 (18 R567). WB_ACK
stays on its way, so that a forward that crosses it meets a writeback in flight (13 R442). -/
def State.l1Flush (s : State) (e : Nat) : State :=
  let mine := (s.coh.l1.filter fun c => c.1 / 64 == e).flatMap (·.2)
  mine.foldl
    (fun t w =>
      let t := t.l1Check e w.line
      let t := match t.l1Find e w.line with | some w => t.l1Evict e w | none => t
      match t.coh.msgs.find? fun m => m == .putm e w.line || m == .puto e w.line || m == .pute e w.line with
      | some m => (t.cohTake m).cohDeliver m
      | none => t) s

/-- The sketch-served queues of an island with entries still untaken (18 R567). -/
def State.islandBells (s : State) (i : Nat) : List Nat :=
  (s.regs.filterMap fun c => match c.1 with | .qctx q 0 => some q | _ => none).filter fun q =>
    s.sketchServed q && decide (0 < s.qDepth q) && s.rd (F.steer_ISLAND (steerIndex 3 q)) == i

/-- The steered events queued at an engine are discarded (06 R197). -/
def State.dropQueue (s : State) (e : Nat) : State :=
  let q := (s.eng e).queue
  let s := (s.setSteerQ e fun _ => []).setEng e fun x => { x with ptr := 0 }
  q.foldl (fun t x => t.discardEvent e x) s

/-- An island reset begins (18 R567). -/
def State.islandReset (s : State) (i : Nat) : State :=
  if s.held then s
  else
    let engs := (List.range 17).map (17 * i + ·)
    let open' := (s.trees.filter fun (c : Nat × TreeSt) => c.1 % 16 == i && s.treeOpen c.1).map (·.1)
    let bells := s.islandBells i
    let s := engs.foldl (fun t e => t.l1Flush e) s
    let s := (List.range 136).foldl (fun t k => t.ctxReset (136 * i + k)) s
    let s :=
      { s with
        pal := s.pal.filter fun c => c.1 / 65536 / 17 != i
        palPoison := s.palPoison.filter fun c => c.1 / 8192 / 17 != i
        palEcc := s.palEcc.filter fun c => c.1 / 8192 / 17 != i
        boot := { s.boot with islands := if s.boot.islands.contains i then s.boot.islands else i :: s.boot.islands
                              bells := s.boot.bells ++ bells.filter fun q => !s.boot.bells.contains q } }
    let s := engs.foldl (fun t e => (t.dropQueue e).setEng e fun _ => {}) s
    let s := (List.range 136).foldl (fun t k => t.setCtx (136 * i + k) fun x => { x with brushes := [] }) s
    let s := open'.foldl (fun t k => t.treeBreak k 0x0B) s
    let mixer (m : Mst) : Bool := m == BitVec.ofNat 16 (0x3000 + i)
    let s := (s.semAbandon mixer).cohCancel fun r => mixer r.req
    let s := (List.range 8).foldl (fun t k => t.portReset (8 * i + k)) s
    if i % 4 = 0 then (s.hostFnsReset (i / 4)).setHost (i / 4) fun h => { h with resetting := false } else s

/-- A doorbell event is raised again (18 R567). -/
def State.bellAgain (s : State) (q : Nat) : State :=
  if s.qDepth q = 0 ∨ s.bellQueued q = true then s
  else
    s.postSteered { entry := 16, cls := 7, kind := 3, tenant := s.rd (F.qctx_TENANT q), key := q
                    arg0 := BitVec.ofNat 64 q }

/-- 18 R567: an island reset has finished. -/
def execIslandResetEnd (i : Fin 16) (s : State) : Out :=
  if s.boot.islands.contains i.val then
    let mine (q : Nat) : Bool := s.rd (F.steer_ISLAND (steerIndex 3 q)) == i.val
    let bells := s.boot.bells.filter mine
    let s := { s with boot := { s.boot with islands := s.boot.islands.filter (· ≠ i.val)
                                            bells := s.boot.bells.filter fun q => !mine q } }
    fin (bells.foldl (fun t q => t.bellAgain q) s)
  else .next s

/-! ## GLB_RST and GLB_PRT_RST (18 R565) -/

/-- The bits of GLB_RST that reset something: WARM, ISLAND but bit 0, HPORT. -/
abbrev rstMask : Word := 0x8000FFFEF0000000

/-- GLB_RST is written: only at F or D, under one record (18 R565, R563). -/
def State.glbRstPut (s : State) (m : Mst) (v : Word) : State :=
  let v := v &&& rstMask
  let v := if s.on F.fltHalt_TERM then setBits v 63 63 0 else v
  if s.atF m = false ∨ v = 0 then s
  else
    match s.askAction m 0x2000 .glbRst v with
    | (s, false) => s
    | (s, true) =>
      if bits v 63 63 = 1 then s.warmReset false m.toNat
      else
        let s := (List.range 16).foldl (fun t i => if bits v (32 + i) (32 + i) = 1 then t.islandReset i else t) s
        (List.range 4).foldl (fun t n => if bits v (28 + n) (28 + n) = 1 then t.hostRegReset n else t) s

/-- 18 R565: WARM is written to GLB_RST. -/
def execGlbRstWarm (m : Mst) (v : Word) (s : State) : Out :=
  regWriteRow m 0x2000 (setBits v 63 63 1) (fun s v => s.glbRstPut m v) s

/-- 18 R567: ISLAND bits are written to GLB_RST. -/
def execIslandReset (m : Mst) (v : Word) (s : State) : Out := regWriteRow m 0x2000 v (fun s v => s.glbRstPut m v) s

/-- 18 R568: HOSTn_PERST_N is asserted, the PCIe link is lost, or HPORT is written to GLB_RST. -/
def execHostPortReset (n : Fin 4) (c : HostResetCause) (s : State) : Out :=
  match c with
  | .register m v => regWriteRow m 0x2000 (setBits v (28 + n.val) (28 + n.val) 1) (fun s v => s.glbRstPut m v) s
  | .perst =>
    if (s.host n).perst then .next s
    else
      let s := (s.setHost n fun h => { h with perst := true }).hostLinkLost n
      fin (if s.hostCovered n then s else (s.hostFnsReset n).setHost n fun h => { h with resetting := false })
  | .linkLoss =>
    if !(s.host n).linkUp then .next s
    else
      let s := s.hostLinkLost n
      fin (if s.hostCovered n then s else (s.hostFnsReset n).setHost n fun h => { h with resetting := true })

/-- 18 R568: HOSTn_PERST_N is deasserted. -/
def execHostPerstDeassert (n : Fin 4) (s : State) : Out := fin (s.setHost n fun h => { h with perst := false })

/-- 18 R572: a PCIe link finishes training, while HOSTn_PERST_N is deasserted and its reference clock runs, as CXL or
PCIe, at a rate and width of 02 R29; in RETIRE the links do not train (15 R505). -/
def execHostLinkUp (n : Fin 4) (link : HostLink) (s : State) : Out :=
  if s.held then .next s
  else
    if (s.host n).perst || (s.host n).linkUp || bits (s.get .clkStat) (43 + n.val) (43 + n.val) == 0
        || s.rd F.lcsState_STATE == 3 then .next s
    else
      let s := s.setHost n fun h => { h with linkUp := true, cxl := link.cxl, mode := some (link.rate, link.width), resetting := false }
      fin (s.condClear (Src.HPT_LINK_DOWN n) 0)

/-- GLB_PRT_RST[i] is written: only at F or D, under its record (18 R565). -/
def State.glbPrtRstPut (s : State) (m : Mst) (i : Nat) (v : Word) : State :=
  if s.atF m = false ∨ v = 0 then s
  else
    match s.askAction m (0x2008 + 8 * i) (.glbPrtRst i) v with
    | (s, false) => s
    | (s, true) =>
      (List.range 64).foldl
        (fun t b =>
          let n := 64 * i + b
          if bits v b b = 1 ∧ t.absorbed (n / 8) = false then t.portReset n
          else t) s

/-- 18 R562: port bits are written to GLB_PRT_RST. -/
def execPortReset (m : Mst) (i : Fin 2) (v : Word) (s : State) : Out :=
  regWriteRow m (0x2008 + 8 * i.val) v (fun s v => s.glbPrtRstPut m i v) s

/-! ## The pier -/

/-- 18 R562: a USB4 reset or FLR of the pier function resets its configuration, its MSI-X and its master. -/
def execPierReset (s : State) : Out :=
  fin ((({ s with fns := s.fns.del 1024 } : State).clearSels fun k => k == 0x4000).semAbandon fun m => m == 0x4000)

/-- 16 R511: the USB4 link of the pier goes down. -/
def execPierLinkDown (s : State) : Out := fin ({ s with pier := {} }.condRise Src.PIE_LINK_DOWN 0 {})

/-- 16 R511: the USB4 link of the pier comes up, in a lane mode of 02 R54, which the spec leaves open (free value). -/
def execPierLinkUp (s : State) : Out :=
  if s.held then .next s
  else
    let gen : Usb4Gen := if (Config.freeWord s.free).getLsbD 0 then .gen3 else .gen2
    fin ({ s.drawn with pier := { gen := some gen, sideband := true, tunnel := true } }.condClear Src.PIE_LINK_DOWN 0)

end Sys2Proof.Machine
end

