-- ==== Sys2Proof/Machine/BootOps.lean ====
section
/-! DEFINITION. Firmware images and their install (18 R573, R574, R578). -/

namespace Sys2Proof.Machine

/-- RESULT codes of GLB_BOOT_STAT (18 R579). -/
abbrev BR.ok : Nat := 0
abbrev BR.noImage : Nat := 1
abbrev BR.signature : Nat := 2
abbrev BR.rollback : Nat := 3
abbrev BR.key : Nat := 4
abbrev BR.gddr6 : Nat := 5
abbrev BR.late : Nat := 6
abbrev BR.requested : Nat := 8

/-- The bytes of an image slot (18 R573). -/
abbrev slotBytes : Nat := 0x1000000

/-- Length and offset of the section that word `w` of an image header names: 2 warden, 3 gates, 4 configuration. -/
def imgLen (bs : List Byte) (w : Nat) : Nat := bits (imgWord bs w) 63 32
def imgOff (bs : List Byte) (w : Nat) : Nat := bits (imgWord bs w) 31 0

/-- The bytes of a section. -/
def imgSection (bs : List Byte) (w : Nat) : List Byte := (bs.drop (imgOff bs w)).take (imgLen bs w)

/-- TOTAL_LEN and SVN of an image. -/
def imgTotal (bs : List Byte) : Nat := bits (imgWord bs 1) 31 0
def imgSvn (bs : List Byte) : Nat := bits (imgWord bs 1) 63 32

/-- MAGIC, FORMAT and the extents of an image are right (18 R574). -/
def imgShape (bs : List Byte) : Bool :=
  bits (imgWord bs 0) 63 32 == 0x46574948 && bits (imgWord bs 0) 31 16 == 1
    && decide (128 ≤ imgTotal bs ∧ imgTotal bs + 192 ≤ slotBytes ∧ imgTotal bs + 192 ≤ bs.length)
    && [2, 3, 4].all fun w => decide (imgOff bs w + imgLen bs w ≤ imgTotal bs)

/-- The signature of a warden section verifies under the image's key, and it is a sketch of LEVEL 3 and KEYSLOT 0 (06
R180, 18 R573). -/
def wardenGood (key w : List Byte) : Bool :=
  let n := bits (imgWord w 1) 31 0
  bits (imgWord w 0) 1 0 == 3 && bits (imgWord w 0) 15 8 == 0
    && ecdsa384 key (sha384 (w.take (128 + n))) ((w.drop (128 + n)).take 96)

/-- The first condition of 18 R574 that an image fails, as a RESULT code; 0 for a valid image. -/
def State.imageResult (s : State) (bs : List Byte) : Nat :=
  let n := imgTotal bs
  let key := (bs.drop n).take 96
  let w := imgSection bs 2
  if !imgShape bs then BR.noImage
  else if sha384 key ≠ s.fuses.keyDigest then BR.key
  else if !ecdsa384 key (sha384 (bs.take n)) ((bs.drop (n + 96)).take 96) then BR.signature
  else if imgSvn bs < s.fuses.minSvn then BR.rollback
  else if badImage w w.length then BR.noImage
  else if !wardenGood key w then BR.signature
  else BR.ok

/-- The result of an image slot as boot reads it. -/
def State.slotResult (s : State) : ImageBytes → Nat
  | .blank => BR.noImage
  | .image bs => s.imageResult bs

/-- The start of the firmware area (14 R473). -/
abbrev firmwareArea : Nat := 0x37E000000

/-- INSTALL takes ILEN bytes of the firmware area and verifies them (18 R578). -/
def State.installStart (s : State) : State :=
  let n := s.rd F.glbBootCtl_ILEN
  let (s, bs, _) := if n ≤ slotBytes then s.devRead firmwareArea n else (s, [], false)
  let x : Install := { slot := s.rd F.glbBootCtl_TSLOT, image := bs, result := s.imageResult bs }
  { (s.wr F.glbBootCtl_BUSY 1) with boot := { s.boot with installing := some x } }

/-- GLB_BOOT_CTL is written (18 R578): TSLOT and ILEN are stored; INSTALL acts at F or D, under its record, and not on the
running slot. An INSTALL below F and D, one while BUSY, and one whose record is refused change nothing. -/
def State.bootCtlPut (s : State) (m : Mst) (v : Word) : State :=
  let t := s.plainWrite .glbBootCtl v
  if bits v 63 63 = 0 then t
  else if s.atF m = false ∨ s.on F.glbBootCtl_BUSY = true then s
  else if s.boot.phase = .running ∧ t.rd F.glbBootCtl_TSLOT = s.rd F.glbBootStat_SLOT then s.wr F.glbBootCtl_IRESULT 7
  else
    match s.askAction m 0x2028 .glbBootCtl v with
    | (s, false) => s
    | (s, true) => (s.plainWrite .glbBootCtl v).installStart

/-- 18 R578: INSTALL is written to GLB_BOOT_CTL. -/
def execImageInstall (m : Mst) (v : Word) (s : State) : Out :=
  regWriteRow m 0x2028 (setBits v 63 63 1) (fun s v => s.bootCtlPut m v) s

/-- 18 R578: the install ends; a valid image is written to its slot. -/
def execImageInstallEnd (s : State) : Out :=
  match s.boot.installing with
  | none => .next s
  | some x =>
    if s.halted then .next s
    else
      let s := { s with boot := { s.boot with installing := none } }
      let s := if x.result = BR.ok then s.emit (.qspi x.slot x.image) else s
      fin ((s.wr F.glbBootCtl_IRESULT x.result).wr F.glbBootCtl_BUSY 0)

end Sys2Proof.Machine
end

