-- ==== Sys2Proof/Machine/RegMap.lean ====
section
/-! DEFINITION. The register map (20 R603 to R612): which word an address names, what a read returns and does, and what
a write does. -/

namespace Sys2Proof.Machine

/-! ## Addresses -/

/-- The index of an address in an array of `n` words of 8 B from `base`. -/
def slotIn (a base n : Nat) : Option Nat := if base ≤ a ∧ a < base + 8 * n then some ((a - base) / 8) else none

/-- Words at consecutive addresses from `base`. -/
def pick (a base : Nat) (l : List Reg) : Option Reg := (slotIn a base l.length).bind fun i => l[i]?

/-- Array words from `base`. -/
def arr (a base n : Nat) (f : Nat → Reg) : Option Reg := (slotIn a base n).map f

/-- The first of several answers. -/
def orElse : List (Option Reg) → Option Reg
  | [] => none
  | some r :: _ => some r
  | none :: t => orElse t

/-- The word at an offset of the device global block (20 R608), with the selects of master `m`. -/
def State.globalReg (s : State) (m : Mst) (a : Nat) : Option Reg :=
  let k := m.toNat
  orElse
    [pick a 0 [.glbId, .glbRev, .glbUid], pick a 0x820 [.pieEvtPop, .wm 4, .pieAttn],
     arr a 0x1000 4 .fcOutSel, pick a 0x1020 [.glbWmReject],
     pick a 0x2000 [.glbRst, .glbPrtRst 0, .glbPrtRst 1, .glbRstCause, .glbBootStat, .glbBootCtl],
     pick a 0x3000 [.timNow, .timCfg, .timPpsStamp], pick a 0x4000 [.clkStat],
     pick a 0x5000 [.pwrAvs, .pwrDfs, .pwrStat], arr a 0x5100 16 .pwrIsl, pick a 0x5200 [.pwrThermCfg], arr a 0x5300 24 .pwrTemp,
     arr a 0x6000 4 .schHpCfg, pick a 0x6040 [.sel k .shp], arr a 0x6080 6 (.shp (s.selOf m .shp)), pick a 0x6100 [.sel k .ten],
     arr a 0x6140 5 (.ten (s.selOf m .ten)), pick a 0x6200 [.smpCfg],
     pick a 0x6300 [.mtrCfg, .mtrBase, .mtrPi, .mtrCi, .schStat], pick a 0x7000 [.sel k .steer, .steer (s.selOf m .steer)],
     pick a 0x8000 [.cnxTiming, .cnxRtxCfg, .cnxStat], pick a 0x8100 [.mtcCfg, .mtcStat, .mtcPool, .mtcUse],
     pick a 0x8200 [.mixStage, .mixStat], pick a 0x8300 [.rteCfg, .rteDrain, .rteStat], arr a 0x8320 8 .rteMgmtSrc,
     pick a 0x8400 [.lnkGlbCfg, .lnkTimeStat, .lnkTimeOfs], pick a 0x9000 [.semStat], pick a 0x9800 [.lcsState, .lcsAdvance],
     arr a 0xA000 23 .gteCtl, arr a 0xA100 23 .gteStat,
     pick a 0xB000 [.cntCyc 16], arr a 0xB010 8 (.cntCtl 16), arr a 0xB050 8 (.cntVal 16), pick a 0xB090 [.cntGlb],
     pick a 0xB100 [.cntSmpCfg, .cntSmpBase, .cntSmpPi, .cntSmpCi, .wm 21, .cntSmpStat], pick a 0xB200 [.cntBwCfg],
     (slotIn a 0xC000 2944).map fun i => .gteEnt (i / 128) (i / 2 % 64) (i % 2),
     arr a 0x20000 1536 .fltSrc, (slotIn a 0x24000 256).map fun i => .fltDom (i / 4) (i % 4),
     pick a 0x25000 [.fltPin, .fltCfg], pick a 0x25018 [.fltHalt, .fltForceArg],
     pick a 0x30000 [.audCfg, .audSeq, .audPtr, .audExport, .audStat, .audWear, .sel k .aud],
     arr a 0x30040 4 (.audRec (s.selOf m .aud))]

/-- The word at an offset of the block of port n (20 R609). -/
def portReg (n o : Nat) : Option Reg :=
  orElse
    [pick o 0 [.prtCfg n, .prtStat n, .lneCtl n], pick o 0x100 [.rtePort n, .rteLoop n],
     pick o 0x200 [.lnkCfg n, .lnkStat n, .lnkCnt n, .lnkCnt2 n], arr o 0x220 9 (.lnkCredit n), arr o 0x300 5 (.lneStat n),
     arr o 0x340 5 (.lneCnt n), arr o 0x380 5 (.lneEq n), pick o 0x400 [.cntBwTx n, .cntBwRx n, .cntBwSeq n]]

/-- The word at an offset of the block of island i (20 R609). -/
def State.islandReg (s : State) (i o : Nat) : Option Reg :=
  if o < 0x10000 then
    orElse
      [pick o 0 [.wm (5 + i)], pick o 0x28 [.islEvtPop i], pick o 0x40 [.islEngMap i, .handlerDrop i, .dropSel i],
       pick o 0x58 [.dropCnt i (s.get (.dropSel i)).toNat]]
  else if o < 0x18000 then portReg (8 * i + (o - 0x10000) / 0x1000) (o % 0x1000)
  else if 0x20000 ≤ o ∧ o < 0x31000 then
    let e := 17 * i + (o - 0x20000) / 0x1000
    orElse
      [arr (o % 0x1000) 0 8 fun c => .ctxCfg (8 * e + c), pick (o % 0x1000) 0x80 [.engStat e],
       if e = 16 then pick (o % 0x1000) 0x800 [.wmbxCmd, .wmbxArg 0, .wmbxArg 1, .wmbxArg 2, .wmbxArg 3, .wmbxStat] else none]
  else if 0x40000 ≤ o ∧ o < 0x50000 then pick o 0x40000 [.hrbCfg i, .hrbStat i, .hrbOcc i]
  else if 0x60000 ≤ o ∧ o < 0x70000 then
    orElse [pick o 0x60000 [.lmpCfg i, .lmpStat i, .lmpCtl i], arr o 0x60040 3 (.lmpId i), arr o 0x60100 12 (.lmpEmit i)]
  else if 0x70000 ≤ o then
    orElse [pick o 0x70000 [.cntCyc i], arr o 0x70010 8 (.cntCtl i), arr o 0x70050 8 (.cntVal i), pick o 0x70100 [.cntIsmp i]]
  else none

/-- The word at an address of the windows (20 R610). -/
def State.windowReg (s : State) (m : Mst) (a : Nat) : Option Reg :=
  let k := m.toNat
  let rte := s.get (.sel k .rte)
  let i := bits rte 11 0
  orElse
    [pick a 0x1000000 [.sel k .qcw, .qcwStat], arr a 0x1000080 16 (.qctx (s.selOf m .qcw)),
     pick a 0x1010000 [.sel k .cnx], arr a 0x1010080 16 (.conn (s.selOf m .cnx)), pick a 0x1010220 [.cnxKeyCmd],
     pick a 0x1020000 [.sel k .cvs], arr a 0x1020080 4 (.cvs (s.selOf m .cvs)),
     pick a 0x1030000 [.sel k .mtc], arr a 0x1030080 8 (.mtc (s.selOf m .mtc)),
     pick a 0x1040000 [.sel k .rte],
     if bits rte 16 16 = 0 then arr a 0x1040080 2 (.rteGrp (bits rte 17 17) i)
     else if i < 64 then arr a 0x1040080 2 (.rteMem (bits rte 17 17) i) else none,
     pick a 0x1050000 [.sel k .tree], arr a 0x1050080 16 (.tree (s.selOf m .tree)), pick a 0x1060000 [.sel k .pal]]

/-- The word that an address of the register space names to a master; none where no table assigns it (20 R604). -/
def State.regAt (s : State) (m : Mst) (a : Nat) : Option Reg :=
  if a % 8 ≠ 0 then none
  else if a < 0x100000 then s.globalReg m a
  else if a < 0x200000 then
    let n := (a - 0x100000) / 0x40000
    let o := a % 0x40000
    orElse [pick o 0 [.wm n, .hptEaselStat n, .hptDbRefused n, .hptAttn n], arr o 0x800 256 (.hptFnTen n)]
  else if a < 0x290000 then
    if a % 0x10000 < 0x200 then
      let p := 2 * ((a - 0x200000) / 0x10000) + a % 0x10000 / 0x100
      pick (a % 0x100) 0 [.gdmChStat p, .gdmChCnt p, .gdmErrinj p]
    else none
  else if 0x2F0000 ≤ a ∧ a < 0x300000 then
    orElse
      [pick a 0x2F0000 [.gdmCfg, .gdmMig, .gdmMap 0, .gdmMap 1, .gdmPlace, .gdmStat],
       pick a 0x2F0040 [.sel m.toNat .alloc, .alloc (s.selOf m .alloc)]]
  else if 0x400000 ≤ a ∧ a < 0xC00000 then s.islandReg ((a - 0x400000) / 0x80000) (a % 0x80000)
  else if 0x1000000 ≤ a then s.windowReg m a
  else none

/-! ## Reads -/

/-- The palette word that a master's ENG_PAL_SEL and a word number select (20 R611). -/
def State.palKey (s : State) (m : Mst) (w : Nat) : Option Nat :=
  let v := BitVec.ofNat 64 (s.selOf m .pal)
  let e := bits v 24 16
  if e < 272 then some (65536 * e + 128 * bits v 15 7 + 8 * w) else none

/-- The context that a palette byte belongs to: the first of its engine whose region holds it, else its context 0
(notes/assumptions/71.md). -/
def State.palOwner (s : State) (k : Nat) : Nat :=
  let e := k / 65536
  (((List.range 8).map (8 * e + ·)).find? fun c =>
    let lo := 65536 * e + s.rd (F.ctxCfg_PAL_BASE c) * 256
    decide (lo ≤ k ∧ k < lo + s.rd (F.ctxCfg_PAL_UNITS c) * 256)).getD (8 * e)

/-- A read of ENG_PAL_DATA (20 R612). -/
def State.palWinRead (s : State) (m : Mst) (w : Nat) : State × Word :=
  match s.palKey m w with
  | none => (s, 0)
  | some k =>
    if s.palBad k 8 then
      ((s.palFound k 8 none).raise (Src.PAL_UNCORR (k / 65536 / 17)) { addr := 0x801060080 + 8 * w, master := m.toNat, atype := 1, unit := s.palOwner k }, BitVec.allOnes 64)
    else (s.palCheck k 8, wordOfBytes (s.palRead k 8))

/-- A write of ENG_PAL_DATA (20 R612). -/
def State.palWinWrite (s : State) (m : Mst) (w : Nat) (v : Word) : State :=
  match s.palKey m w with
  | none => s
  | some k => s.palWrite k (bytesOf 8 v.toNat)

/-- Words that are computed when they are read: event heads (02 R56, R58), RTE_DRAIN (10 R350), FLT_SUMMARY (16 R524),
the fixed counters (17 R536), HRB_OCC (13 R456). -/
def State.liveWord (s : State) (a : Nat) : Option Word :=
  let i := (a - 0x400000) / 0x80000
  let o := a % 0x80000
  let inIsl := decide (0x400000 ≤ a ∧ a < 0xC00000)
  match slotIn a 0x800 4 with
  | some w => some (s.evHead 0 w)
  | none =>
    if a = 0x8308 then some s.drainWord
    else if a = 0x25010 then some s.fltSummary
    else if a = 0xB000 then some (s.cycles 16)
    else if inIsl && o == 0x70000 then some (s.cycles i)
    else if inIsl && o == 0x40010 then some (s.hrbOcc i)
    else if inIsl then (slotIn o 8 4).map fun w => s.evHead (1 + i) w
    else none

/-- A record of the audit store fails its check (17 R561). -/
def State.audCorrupt (s : State) (i : Nat) : State := s.condRise Src.AUD_STORE_CORRUPT 0 { addr := i, atype := 14 }

/-- AUD_RDATA is read: the selected record is checked (17 R559, R561). -/
def State.audCheck (s : State) (m : Mst) (a : Nat) : State :=
  match slotIn a 0x30040 4 with
  | some _ => if s.audit.corrupt.contains (s.selOf m .aud) then s.audCorrupt (s.selOf m .aud) else s
  | none => s

/-- DEFICIT of the selected queue (04 R117): word 7 of its context. -/
def State.deficitWord (s : State) (m : Mst) : Word :=
  setBits 0 16 0 (s.que (s.selOf m .qcw)).node.deficit

/-- A read that is performed: its value, and the state with the RC fields of the word cleared (00 R5). Unassigned
addresses read as zero (20 R604). -/
def State.readWord (s : State) (m : Mst) (a : Nat) : State × Word :=
  if a % 8 ≠ 0 then (s, BitVec.allOnes 64)
  else
    match s.liveWord a with
    | some v => (s, v)
    | none =>
      if a = 0x10000B8 then (s, s.deficitWord m) else
      match slotIn a 0x1060080 16 with
      | some w => s.palWinRead m w
      | none =>
        match s.regAt m a with
        | some r =>
          let v := s.get r
          (if fieldMask r (fun f => f.acc = .rc) = 0 then s else s.set r (accReadClear r v), v)
        | none => (s, 0)

/-- A read that is performed, and its answer: SEM_ACQ and GTE_FENCE may stall, SEM_TRY claims (15 R490, R492). -/
def State.readReg (s : State) (m : Mst) (a : Nat) (req : Option MgmtReq := none) : State :=
  if a % 8 ≠ 0 then s.reply m req (BitVec.allOnes 64)
  else
    match slotIn a 0x40000 4096, slotIn a 0x48000 4096, slotIn a 0x50000 4096, slotIn a 0xA200 23 with
    | some n, _, _, _ => s.semAcq m n req
    | _, some n, _, _ => s.semTryWord m n req
    | _, _, some n, _ => s.reply m req (s.semWord n 0)
    | _, _, _, some g => s.fenceRead m g req
    | _, _, _, _ => match (s.audCheck m a).readWord m a with | (s, v) => s.reply m req v

/-! ## Writes with a rule of their own -/

/-- SCH_SMP_CFG (04 R127): a PERIOD outside 1 to 10,000 is refused and counted. -/
def State.smpCfgPut (s : State) (m : Mst) (v : Word) : State :=
  let ok := decide (1 ≤ bits v 23 0 ∧ bits v 23 0 ≤ 10000)
  let s := if ok then s else s.count F.schStat_REJECT
  (s.cfgWrite m 0x6200 .smpCfg (if ok then v else setBits v 23 0 (s.rd F.smpCfg_PERIOD))).1

/-- FUNC and LOG2SIZE of a ring are ignored while it is enabled (04 R136, 17 R540). -/
def ringField (en : Bool) (old v : Word) : Word :=
  if en then setBits v 35 21 (bits old 35 21) else v

/-- SCH_MTR_CFG (04 R135, R136): the snapshots of boundaries reached before the write are written first; an INTERVAL
outside 1 to 3,600 is ignored; boundaries count from when EN sets, and from the write of another INTERVAL. A LOG2SIZE outside 8 to 20 is kept and used as it stands:
DESIGN CHOICE (notes/assumptions/72.md). -/
def State.mtrCfgPut (s : State) (m : Mst) (v : Word) : State :=
  let s := if s.halted then s else s.snapshots
  let old := s.get .mtrCfg
  let en := s.on F.mtrCfg_EN
  let v := keepField old (ringField en old v) 47 36 fun k => decide (1 ≤ k ∧ k ≤ 3600)
  match s.cfgWrite m 0x6300 .mtrCfg v with
  | (s, false) => s
  | (s, true) =>
    if (!en && s.on F.mtrCfg_EN) || bits old 47 36 != s.rd F.mtrCfg_INTERVAL then
      { s with metering := { s.metering with lastBoundary := s.tim, caught := [] } }
    else s

/-- SCH_MTR_BASE and CNT_SMP_BASE are ignored while their ring is enabled; bits [11:0] stay zero. -/
def State.ringBasePut (s : State) (m : Mst) (a : Nat) (r : Reg) (en : Bool) (v : Word) : State :=
  if en then s else (s.cfgWrite m a r (setBits v 11 0 0)).1

/-- MTC_CFG (08 R280): the transient range stays while transient canvases are in use. -/
def State.mtcCfgPut (s : State) (m : Mst) (v : Word) : State :=
  let v := if s.on F.mtcUse_RNDV then setBits v 63 24 (bits (s.get .mtcCfg) 63 24) else v
  (s.cfgWrite m 0x8100 .mtcCfg v).1

/-- RTE_CFG (10 R319): DEVNUM and GMAX stay while DNV is 1; the own candidacy follows (11 R390). -/
def State.rteCfgPut (s : State) (m : Mst) (v : Word) : State :=
  let old := s.get .rteCfg
  let v := if s.on F.rteCfg_DNV then setBits (setBits v 51 40 (bits old 51 40)) 17 0 (bits old 17 0) else v
  match s.cfgWrite m 0x8300 .rteCfg v with
  | (s, true) => s.elect
  | (s, false) => s

/-- LNK_GLB_CFG (11 R394): the own candidacy follows GMPRIO (R390). -/
def State.lnkGlbCfgPut (s : State) (m : Mst) (a : Nat) (v : Word) : State :=
  match s.cfgWrite m a .lnkGlbCfg v with
  | (s, true) => s.elect
  | (s, false) => s

/-- The ordinals of the GLOBAL ports (10 R322). -/
def State.ordinals (s : State) : State :=
  (List.range 128).foldl
    (fun t n =>
      let o := if t.rd (F.rtePort_ROLE n) = 2 then
          ((List.range n).filter fun k => t.rd (F.rtePort_ROLE k) == 2).length else 0
      if t.rd (F.rtePort_ORD n) = min 63 o then t else t.wr (F.rtePort_ORD n) (min 63 o)) s

/-- RTE_PORT (10 R322, R355): ROLE, TWEN and TWIN change only while DNV is 0 or DSTATE is SWITCHED. -/
def State.rtePortPut (s : State) (m : Mst) (n : Nat) (v : Word) : State :=
  if s.on F.rteCfg_DNV ∧ s.rd F.rteCfg_DSTATE ≠ 2 then s.count F.rteStat_REFUSED
  else
    match s.cfgWrite m (portAddr n 0x100) (.rtePort n) v with
    | (s, true) => s.ordinals
    | (s, false) => s

/-- LNE_EQ (12 R404, R418): a write that would leave CTLE_MIN above CTLE_MAX leaves both; the loops follow the limits and
controls written. -/
def State.lneEqPut (s : State) (m : Mst) (n l : Nat) (v : Word) : State :=
  let v := if bits v 9 4 < bits v 15 10 then setBits v 15 4 (bits (s.get (.lneEq n l)) 15 4) else v
  match s.cfgWrite m (portAddr n (0x380 + 8 * l)) (.lneEq n l) v with
  | (s, true) => s.set (.lneEq n l) (eqHeld (s.get (.lneEq n l)))
  | (s, false) => s

/-- LMP_CFG (12 R426): ULOCK locks ALLOW_UNAUTH and takes a LOCK record; EOL_PCT stays outside 50 to 100. A module that the
write lets be lit by itself is lit (R422). -/
def State.lmpCfgPut (s : State) (m : Mst) (i : Nat) (v : Word) : State :=
  let lock := s.on (F.lmpCfg_ULOCK i)
  let locks := bits v 61 61 == 1 && !lock
  let old := s.get (.lmpCfg i)
  let new := keepField old (accWrite (.lmpCfg i) lock old v) 43 36 fun k => decide (50 ≤ k ∧ k ≤ 100)
  let new := if locks then setBits new 61 61 1 else new
  match s.cfgPut m (if locks then RK.lock else RK.reg) (lampAddr i 0) (.lmpCfg i) new locks with
  | (t, true) =>
    let t := t.eolSync i
    if t.lampAuto i && !s.lampAuto i && !(t.lamp i).en then t.lampLight i else t
  | (s, false) => s

/-- A word of configuration class whose field [hi:lo] keeps its value outside a range. -/
def State.rangedPut (s : State) (m : Mst) (a : Nat) (r : Reg) (hi lo least most : Nat) (v : Word) : State :=
  (s.cfgWrite m a r (keepField (s.get r) v hi lo fun k => decide (least ≤ k ∧ k ≤ most))).1

/-- CNT_BW_CFG (17 R546, R547): a WINDOW outside 1 to 1,000,000 is ignored; a changed window, and one that EN starts, counts
boundaries from the write. -/
def State.bwCfgPut (s : State) (m : Mst) (v : Word) : State :=
  let t := s.bwEdge.rangedPut m 0xB200 .cntBwCfg 19 0 1 1000000 v
  if t.get .cntBwCfg = s.get .cntBwCfg then t else { t with clock := { t.clock with bwAt := t.tim } }

/-! ## Writes by block -/

/-- The words of the device global block that are never of configuration class (17 R552). -/
def plainGlobal (a : Nat) : Bool :=
  decide (0xB000 ≤ a ∧ a < 0xB098) || decide (0x9000 ≤ a ∧ a < 0xA000)
    || [0x6040, 0x6100, 0x6318, 0x7000, 0xB118, 0x25020, 0x30030].contains a

/-- A write to a word without a rule of its own (00 R5, 17 R552, 20 R607). -/
def State.defaultPut (s : State) (m : Mst) (a : Nat) (cfg : Bool) (v : Word) : State :=
  match s.regAt m a with
  | some r => if cfg then (s.cfgWrite m a r v).1 else s.plainWrite r v
  | none => s

/-- A write to the first half of the device global block, up to routing and links. -/
def State.globalPutA (s : State) (m : Mst) (a : Nat) (v : Word) : State :=
  match slotIn a 0x2008 2, slotIn a 0x5100 16, slotIn a 0x6080 6, slotIn a 0x6140 5 with
  | some i, _, _, _ => s.glbPrtRstPut m i v
  | _, some i, _, _ => s.pwrIslPut m i v
  | _, _, some w, _ => s.shpWrite m w v
  | _, _, _, some w => s.tenWrite m w v
  | _, _, _, _ =>
    if a = 0x820 then (if bits v 0 0 = 1 then s.evPop 0 else s)
    else if a = 0x828 then s.wmThrottleEnd (s.wmWrite m 4 v) 4
    else if a = 0x2000 then s.glbRstPut m v
    else if a = 0x2028 then s.bootCtlPut m v
    else if a = 0x3008 then s.timCfgPut m v
    else if a = 0x5000 then s.pwrAvsPut m v
    else if a = 0x5008 then s.pwrDfsPut m v
    else if a = 0x6200 then s.smpCfgPut m v
    else if a = 0x6210 then s.setQue (bits v 19 0) fun x => { x with smpReset := true }
    else if a = 0x6300 then s.mtrCfgPut m v
    else if a = 0x6308 then s.ringBasePut m a .mtrBase (s.on F.mtrCfg_EN) v
    else if a = 0x7008 then s.steerWrite m v
    else s.defaultPut m a (!plainGlobal a) v

/-- A write to the rest of the device global block. -/
def State.globalPutB (s : State) (m : Mst) (a : Nat) (v : Word) : State :=
  match slotIn a 0xA000 23, slotIn a 0xC000 2944, slotIn a 0x20000 1536, slotIn a 0x24000 256, slotIn a 0x50000 4096 with
  | some g, _, _, _, _ => s.gateCtlPut m g v
  | _, some i, _, _, _ => s.gateEntryPut m (i / 128) (i / 2 % 64) (i % 2) v
  | _, _, some n, _, _ => s.fltSrcPut m n v
  | _, _, _, some i, _ => if i % 4 = 2 then s.fltDomPut (i / 4) v else s
  | _, _, _, _, some n => s.semRelPut m n v
  | _, _, _, _, _ =>
    if a = 0x8100 then s.mtcCfgPut m v
    else if a = 0x8300 then s.rteCfgPut m v
    else if a = 0x8308 then s.drainWrite v
    else if a = 0x8400 then s.lnkGlbCfgPut m a v
    else if a = 0x9808 then s.lcsPut m v
    else if a = 0xB090 then s.cntGlbPut v
    else if a = 0xB100 then (s.cfgWrite m a .cntSmpCfg (ringField (s.on F.cntSmpCfg_EN) (s.get .cntSmpCfg) v)).1
    else if a = 0xB108 then s.ringBasePut m a .cntSmpBase (s.on F.cntSmpCfg_EN) v
    else if a = 0xB120 then s.wmThrottleEnd (s.wmWrite m 21 v) 21
    else if a = 0xB200 then s.bwCfgPut m v
    else if a = 0x25000 then s.fltPinPut m v
    else if a = 0x25008 then s.fltCfgPut m v
    else if a = 0x30000 then s.audCfgPut m v
    else if a = 0x30018 then s.audExportPut m v
    else s.defaultPut m a (!plainGlobal a) v

/-- A write to the block of port n. -/
def State.portPut (s : State) (m : Mst) (n o : Nat) (v : Word) : State :=
  match slotIn o 0x380 5 with
  | some l => s.lneEqPut m n l v
  | none =>
    if o = 0 then s.prtCfgPut m n v
    else if o = 0x10 then s.lneCtl m n v
    else if o = 0x100 then s.rtePortPut m n v
    else if o = 0x108 then s.rteLoopPut m n v
    else s.defaultPut m (portAddr n o) (o == 0x200) v

/-- A write to the block of island i. -/
def State.islandPut (s : State) (m : Mst) (i o : Nat) (v : Word) : State :=
  let a := 0x400000 + 0x80000 * i + o
  if o = 0 then s.wmThrottleEnd (s.wmWrite m (5 + i) v) (5 + i)
  else if o = 0x28 then s.islPop m i v
  else if 0x10000 ≤ o ∧ o < 0x18000 then s.portPut m (8 * i + (o - 0x10000) / 0x1000) (o % 0x1000) v
  else if 0x20000 ≤ o ∧ o < 0x31000 ∧ o % 0x1000 < 0x40 then
    s.ctxCfgPut m (8 * (17 * i + (o - 0x20000) / 0x1000) + o % 0x1000 / 8) v
  else if i = 0 ∧ o = 0x30800 then s.mailboxCmd m v
  else if o = 0x60000 then s.lmpCfgPut m i v
  else if o = 0x60010 then s.lmpCtl m i v
  else if o = 0x70100 then s.plainWrite (.cntIsmp i) (keepField (s.get (.cntIsmp i)) v 52 48 fun k => decide (8 ≤ k ∧ k ≤ 24))
  else s.defaultPut m a (o == 0x40000) v

/-- A write to a window (20 R610). -/
def State.windowPut (s : State) (m : Mst) (a : Nat) (v : Word) : State :=
  match slotIn a 0x1000080 16, slotIn a 0x1010080 16, slotIn a 0x1010200 4, slotIn a 0x1020080 4 with
  | some w, _, _, _ => s.qcwPut m w v
  | _, some w, _, _ => s.connWrite m w v
  | _, _, some w, _ => s.set (.cnxKey w) v
  | _, _, _, some w => s.cvsWrite m w v
  | _, _, _, _ =>
    match slotIn a 0x1030080 8, slotIn a 0x1040080 2, slotIn a 0x1050080 16, slotIn a 0x1060080 16 with
    | some w, _, _, _ => s.mtcWrite m w v
    | _, some w, _, _ => s.rteWrite m w v
    | _, _, some w, _ => s.treeWrite m w v
    | _, _, _, some w => s.palWinWrite m w v
    | _, _, _, _ => if a = 0x1010220 then s.keyCmd m v else s.defaultPut m a false v

/-- A write that is performed (00 R5, 20 R604 to R607): by the rule of its register, else under its access codes. A
misaligned one is discarded. -/
def State.writeReg (s : State) (m : Mst) (a : Nat) (v : Word) : State :=
  if a % 8 ≠ 0 then s
  else if a < 0x8000 then s.globalPutA m a v
  else if a < 0x100000 then s.globalPutB m a v
  else if a < 0x200000 then
    let n := (a - 0x100000) / 0x40000
    let o := a % 0x40000
    if o = 0 then s.wmThrottleEnd (s.wmWrite m n v) n else s.defaultPut m a (decide (0x800 ≤ o)) v
  else if a < 0x290000 then
    if a % 0x10000 < 0x200 ∧ a % 0x100 = 0x10 then s.errinjWrite m (2 * ((a - 0x200000) / 0x10000) + a % 0x10000 / 0x100) v else s
  else if 0x2F0000 ≤ a ∧ a < 0x300000 then
    if a = 0x2F0000 then s.rangedPut m a .gdmCfg 63 56 1 168 v
    else if a = 0x2F0008 then s.migWrite m v
    else if a = 0x2F0020 then s.placeWrite m v
    else if a = 0x2F0048 then s.allocWrite m v
    else if a = 0x2F0040 then s.plainWrite (.sel m.toNat .alloc) v
    else s
  else if 0x400000 ≤ a ∧ a < 0xC00000 then s.islandPut m ((a - 0x400000) / 0x80000) (a % 0x80000) v
  else if 0x1000000 ≤ a then s.windowPut m a v
  else s

end Sys2Proof.Machine
end

