-- ==== Sys2Proof/Machine/RegRows.lean ====
section
/-! DEFINITION. The accesses of masters to the register space as a whole (00 R5, 02 R63, 10 R348, 15 R506, 20 R604 to
R612) and the tenant status page (03 R108, R109). -/

namespace Sys2Proof.Machine

/-! ## The tenant status page (03 R108, R109) -/

/-- TSP_QSTAT for a queue. -/
def State.tspStat (s : State) (q : Nat) : Word :=
  let v := setBits (setBits (setBits 0 63 63 1) 62 60 (s.rd (F.qctx_STATE q))) 59 55 (s.qLog q)
  setBits (setBits v 41 21 (s.rd (F.qctx_CI q))) 20 0 (s.rd (F.qctx_PI q))

/-- The word at an offset of the page of function `func`. READY while the port is not busy, whatever its pin still shows:
DESIGN CHOICE (notes/assumptions/64.md). -/
def State.tspWord (s : State) (func off : Nat) : Word :=
  let p := func / 256
  let f := func % 256
  let q := s.rd (F.tspQsel_QUEUE p f)
  if off = 0x000 then
    setBits (setBits 0 47 36 (if s.on (F.hptFnTen_EN p f) then s.rd (F.hptFnTen_TENANT p f) else 0)) 35 26 func
  else if off = 0x008 then
    setBits (setBits (setBits 0 2 2 s.halted.toNat) 1 1 s.draining.toNat) 0 0 (!s.hostBusy p).toNat
  else if off = 0x010 then s.get .timNow
  else if off = 0x018 then s.get (.tspQsel p f)
  else if off = 0x020 then (if s.owns func q then s.tspStat q else 0)
  else if off = 0x028 then (if s.owns func q then s.get (.qctx q 5) else 0)
  else 0

/-- A master is a VF, whose BAR0 is its tenant status page (02 R33). -/
def isVf (m : Mst) : Bool := mstClass m == 0 && !isPf (mstFunc m)

/-! ## Accesses of one word -/

/-- An 8 B read by a master (02 R63, 15 R488, 20 R605). -/
def State.masterRead (s : State) (m : Mst) (a : Nat) : State :=
  if isVf m then
    s.answer m
      (if s.fnAnswers (mstFunc m) && !s.halted && a % 8 == 0 then s.tspWord (mstFunc m) a else BitVec.allOnes 64)
  else
    match s.openReg m a .read with
    | (s, true) => s.readReg m a
    | (s, false) => s.answerOnes m

/-- An 8 B write by a master. -/
def State.masterWrite (s : State) (m : Mst) (a : Nat) (v : Word) : State :=
  if isVf m then
    if s.fnAnswers (mstFunc m) && !s.halted && a == 0x018 then
      s.plainWrite (.tspQsel (mstFunc m / 256) (mstFunc m % 256)) v
    else s
  else
    match s.openReg m a .write with
    | (s, true) => s.writeReg m a v
    | (s, false) => s.writeLost m

/-- 20 R607: a register is written. -/
def execRegisterWrite (m : Mst) (addr : BitVec 25) (v : Word) (s : State) : Out :=
  if s.writeWaits m then fin (s.holdReg m addr.toNat (some v))
  else if addr.toNat % 8 ≠ 0 then fin s
  else fin (s.masterWrite m addr.toNat v)

/-- 00 R5: a register is read, and its RC fields clear. -/
def execRegisterReadClear (m : Mst) (addr : BitVec 25) (s : State) : Out :=
  if s.waitsBehind m then fin (s.holdReg m addr.toNat none)
  else if addr.toNat % 8 ≠ 0 then fin (s.answer m (BitVec.allOnes 64))
  else fin (s.masterRead m addr.toNat)

/-- A PCIe read longer than 8 B: successive 8 B reads (20 R605). -/
def State.longRead (s : State) (m : Mst) (a n : Nat) : State :=
  (List.range n).foldl (fun t i => t.masterRead m (a + 8 * i)) s

/-- A PCIe write longer than 8 B: successive 8 B writes (20 R605). -/
def State.longWrite (s : State) (m : Mst) (a n : Nat) (bs : List Byte) : State :=
  (List.range n).foldl (fun t i => t.masterWrite m (a + 8 * i) (wordOfBytes ((bs.drop (8 * i)).take 8))) s

/-- An access of `size` bytes acts as 8 B accesses (20 R605): one word, or a longer request of PCI Express. -/
def wholeWords (m : Mst) (a size : Nat) : Bool :=
  decide (a % 8 = 0 ∧ size % 8 = 0 ∧ 8 ≤ size ∧ (size = 8 ∨ mstClass m = 0 ∨ mstClass m = 4))

/-- 20 R605: a register access of another size or alignment, `write` the bytes of a write. A longer PCIe request is its
successive 8 B accesses, which wait as one request does (02 R41). -/
def execRegisterOddAccess (m : Mst) (addr : BitVec 25) (size : Nat) (write : Option (List Byte)) (s : State) : Out :=
  let a := addr.toNat
  match write with
  | some bs =>
    if !wholeWords m a size then .next s
    else if s.writeWaits m then
      fin ((List.range (size / 8)).foldl (fun t i => t.holdReg m (a + 8 * i) (some (wordOfBytes ((bs.drop (8 * i)).take 8)))) s)
    else fin (s.longWrite m a (size / 8) bs)
  | none =>
    if wholeWords m a size then
      if s.waitsBehind m then fin ((List.range (size / 8)).foldl (fun t i => t.holdReg m (a + 8 * i) none) s)
      else fin (s.longRead m a (size / 8))
    else if s.waitsBehind m then fin (s.holdReg m (a ||| 1) none)
    else if mstClass m = 5 ∧ s.rd F.lcsState_STATE = 3 then .next s
    else fin (s.answer m (BitVec.allOnes 64))

/-! ## The fabric manager (10 R348) -/

/-- 10 R348: READ_REG. -/
def execReadReg (r : MgmtReq) (addr : BitVec 25) (s : State) : Out :=
  s.mgmtRow r (saysReg 1 addr) 8 fun s =>
    match s.openReg (mgmtMst r) addr.toNat .read with
    | (s, true) => s.readReg (mgmtMst r) addr.toNat (some r)
    | (s, false) => s.mgmtAnswer r 1 MS.refused (bytesOf 8 (2 ^ 64 - 1))

/-- 10 R348: WRITE_REG: refused where the gate or the audit log refuses it. -/
def execWriteReg (r : MgmtReq) (addr : BitVec 25) (v : Word) (s : State) : Out :=
  s.mgmtRow r (saysWrite addr v) 0 fun s =>
    match s.openReg (mgmtMst r) addr.toNat .write with
    | (s, true) =>
      let s := { s with audit := { s.audit with deny := false } }
      let s := s.writeReg (mgmtMst r) addr.toNat v
      s.mgmtAnswer r 2 (if s.audit.deny then MS.refused else MS.ok) []
    | (s, false) => s.mgmtAnswer r 2 MS.refused []

/-! ## The debug master (15 R506, R507) -/

/-- The debug master's identity (15 R479). -/
abbrev dbgMst : Mst := 0x5000

/-- A debug access to device memory that passed its gate; outside the backed offsets it fails (14 R460). -/
def State.debugDevice (s : State) (a : Nat) (v : Option Word) : State :=
  if !backed a 8 then s.emit .jtagError
  else
    match v with
    | some v => s.devWrite a (bytesOf 8 v.toNat)
    | none =>
      match s.devRead a 8 with
      | (s, bs, bad) =>
        if bad then (s.drawn).answer dbgMst (Config.freeWord s.free) else s.answer dbgMst (wordOfBytes bs)

/-- `n` bytes of device memory are answered word by word; a line that fails gives free words. -/
def State.answerBytes (s : State) (m : Mst) (a n : Nat) : State :=
  match s.devRead a n with
  | (s, bs, bad) =>
    (List.range ((n + 7) / 8)).foldl
      (fun t i => if bad then t.drawn.answer m (Config.freeWord t.free) else t.answer m (wordOfBytes ((bs.drop (8 * i)).take 8))) s

/-- A block of device memory that passed its gate (15 R491). -/
def State.debugBlock (s : State) (a : Nat) (data : List Byte) (write : Bool) : State :=
  if !backed a data.length then s.emit .jtagError
  else if write then s.devWrite a data
  else s.answerBytes dbgMst a data.length

/-- 15 R507: a debug access; a denied one answers its error flag and no data. -/
def execDebugAccess (a : DbgSpace) (v : Option Word) (s : State) : Out :=
  if s.held then .next s
  else
    let k : AccKind := if v.isSome then .write else .read
    if s.rd F.lcsState_STATE = 3 then .next s
    else
      match a with
      | .register r =>
        if r.toNat % 8 ≠ 0 then fin (if v.isSome then s else s.answer dbgMst (BitVec.allOnes 64))
        else
          match s.openReg dbgMst r.toNat k, v with
          | (s, true), some v => fin (s.writeReg dbgMst r.toNat v)
          | (s, true), none => fin (s.readReg dbgMst r.toNat)
          | (s, false), _ => fin (s.emit .jtagError)
      | .device a =>
        match s.debugGate a.toNat 8 k with
        | (s, true) => fin (s.debugDevice a.toNat v)
        | (s, false) => fin (s.emit .jtagError)
      | .block a data =>
        match s.debugGate a.toNat data.length k with
        | (s, true) => fin (s.debugBlock a.toNat data v.isSome)
        | (s, false) => fin (s.emit .jtagError)

/-! ## The palette window (20 R612) -/

/-- 20 R612: an access through ENG_PAL_DATA. -/
def execPaletteWindowAccess (m : Mst) (w : Fin 16) (v : Option Word) (s : State) : Out :=
  match v with
  | some v => regWriteRow m (0x1060080 + 8 * w.val) v (fun s v => s.palWinWrite m w v) s
  | none =>
    regReadRow m (0x1060080 + 8 * w.val) (fun s => match s.palWinRead m w with | (s, x) => s.answer m x) s

/-! ## Requests of hosts (02 R63) -/

/-- A memory read of a host at a BAR: all ones while the port or function does not answer, or at a halt outside FLT_
and GLB_; zero from doorbell pages and easel windows (02 R34). -/
def State.barRead (s : State) (func bar off : Nat) : State :=
  let m := fnMst func
  if bar = 0 then s.masterRead m (off % 2 ^ 25)
  else s.answer m (if s.fnAnswers func && !s.halted then 0 else BitVec.allOnes 64)

/-- A posted 8 B write of a host at a BAR. -/
def State.barWrite (s : State) (func bar off : Nat) (v : Word) : State :=
  let p := func / 256
  let f := func % 256
  let bs := bytesOf 8 v.toNat
  if !s.fnAnswers func || s.halted then s
  else if bar = 0 then
    if s.withheld p then s.holdWrite p { f := f, bar := 0, off := off % 2 ^ 25, bytes := bs }
    else if off % 8 = 0 then s.masterWrite (fnMst func) (off % 2 ^ 25) v
    else s
  else if bar = 2 then
    if s.withheld p then s.holdWrite p { f := f, bar := 2, off := off, bytes := bs } else s.doorbellWrite func off bs
  else if !(s.host p).held.isEmpty || s.throttled p then s.holdWrite p { f := f, off := off, bytes := bs }
  else (s.easelApply p f off bs).getD (s.holdWrite p { f := f, off := off, bytes := bs })

/-! ## Configuration space and MSI-X (02 R29, R32, R33, R35, R55) -/

/-- The size of BAR0, 2 or 4 of function `k`, 0 where it has none (02 R33); 1,024 is the pier function. -/
def barBytes (k bar : Nat) : Nat :=
  if bar = 0 then (if k = 1024 ∨ isPf k then 0x2000000 else 0x1000)
  else if k = 1024 then 0 else if bar = 2 ∨ bar = 4 then barSize bar k else 0

/-- The vectors of the MSI-X table of function `k` (02 R29, R55). -/
def msixVectors (k : Nat) : Nat := if k = 1024 then 64 else 2048

/-- The address register of a BAR. -/
def FnCfg.bar (c : FnCfg) (bar : Nat) : Word := if bar = 0 then c.bar0 else if bar = 2 then c.bar2 else c.bar4

/-- The address register of a BAR takes the bits above its size. -/
def FnCfg.setBar (c : FnCfg) (k bar hi : Nat) (v : BitVec 32) : FnCfg :=
  let w := setBits (c.bar bar) (32 * hi + 31) (32 * hi) v.toNat
  let w := if barBytes k bar = 0 then 0 else w &&& ~~~BitVec.ofNat 64 (barBytes k bar - 1)
  if bar = 0 then { c with bar0 := w } else if bar = 2 then { c with bar2 := w } else { c with bar4 := w }

/-- The writable bits of a capability's dword of function `k`: device control (bit 15 begins a Function Level Reset), device
control 2, and, for a host function, SR-IOV control and NumVFs of a PF and ATS control (02 R29, notes/assumptions/23.md). -/
def ctlMask (k i : Nat) : BitVec 32 :=
  if i = 18 then 0xFF
  else if i = 26 then 0x40
  else if k = 1024 then 0
  else if i = 82 ∧ isPf k = true then 0x1
  else if i = 84 ∧ isPf k = true then 0xFF
  else if i = 97 then 0x80000000
  else 0

/-- A dword of the capabilities of function `k` (02 R29), at the places and with the identifiers of PCI Express: PCI Express
with Function Level Reset, AtomicOps and 10-bit tags, MSI-X, ARI, SR-IOV, ATS and ACS. -/
def capDword (k i : Nat) : BitVec 32 :=
  if i = 13 then 0x40
  else if i = 16 then 0x00028010
  else if i = 17 then 0x10000020
  else if i = 25 then 0x00030380
  else if k = 1024 then 0
  else if i = 64 then (if isPf k then 0x1401000E else 0x1801000E)
  else if i = 80 ∧ isPf k = true then 0x18010010
  else if i = 83 ∧ isPf k = true then 0x00FF00FF
  else if i = 85 ∧ isPf k = true then 0x00010001
  else if i = 86 ∧ isPf k = true then 0x08130000
  else if i = 96 then 0x1A01000F
  else if i = 104 then 0x0001000D
  else 0

/-- A dword of the configuration space of function `k`: identification (02 R32), the command register's bus master
enable, the 64-bit memory BARs (02 R33), and the capabilities, at the places of PCI Express (notes/assumptions/23.md). -/
def State.configDword (s : State) (k off : Nat) : BitVec 32 :=
  let c := s.fn k
  let bar (b hi : Nat) : BitVec 32 :=
    if barBytes k b = 0 then 0
    else BitVec.ofNat 32 ((c.bar b).toNat / 2 ^ (32 * hi)) ||| (if hi = 0 then (if b = 4 then 12 else 4) else 0)
  match off / 4 with
  | 0 => BitVec.ofNat 32 (bits (s.get (.fnId k)) 31 0)
  | 1 => BitVec.ofNat 32 (c.busMaster.toNat * 4 + 0x100000)
  | 2 => BitVec.ofNat 32 (bits (s.get (.fnId k)) 63 40 * 256)
  | 4 => bar 0 0
  | 5 => bar 0 1
  | 6 => bar 2 0
  | 7 => bar 2 1
  | 8 => bar 4 0
  | 9 => bar 4 1
  | 32 => BitVec.ofNat 32 (0x11 + (msixVectors k - 1) * 2 ^ 16 + c.msixMask.toNat * 2 ^ 30 + c.msixOn.toNat * 2 ^ 31)
  | i => capDword k i ||| c.ctl.at i 0

/-- A dword of configuration space is written: bus master enable, a BAR, MSI-X control, or a capability; device control
begins a Function Level Reset (03 R75). -/
def State.configPut (s : State) (k off : Nat) (v : BitVec 32) : State :=
  let i := off / 4
  if i = 1 then (s.setFn k fun c => { c with busMaster := v.getLsbD 2 }).msixFlush k
  else if 4 ≤ i ∧ i ≤ 9 then s.setFn k fun c => c.setBar k (2 * ((i - 4) / 2)) (i % 2) v
  else if i = 32 then (s.setFn k fun c => { c with msixOn := v.getLsbD 31, msixMask := v.getLsbD 30 }).msixFlush k
  else if i = 18 ∧ v.getLsbD 15 = true ∧ k < 1024 then (if s.inFlr k then s else s.flrBegin k)
  else if ctlMask k i = 0 then s
  else s.setFn k fun c => { c with ctl := c.ctl.put i (v &&& ctlMask k i) }

/-- An entry of an MSI-X table is written (02 R35); a pending vector that its mask no longer holds back is driven. -/
def State.msixPut (s : State) (k vector : Nat) (e : MsixEntry) : State :=
  if vector < msixVectors k then (s.setFn k fun c => { c with table := c.table.put vector e }).msixFlush k else s

/-- The dwords of an entry of an MSI-X table, and its pending bit. -/
def State.msixDwords (s : State) (k vector : Nat) : List (BitVec 32) :=
  let c := s.fn k
  let e := c.table.at vector {}
  [e.addr.extractLsb' 0 32, e.addr.extractLsb' 32 32, e.data, BitVec.ofNat 32 e.mask.toNat,
   BitVec.ofNat 32 (c.pend.contains vector).toNat]

/-- An AtomicOp of a host at a BAR (02 R29): on a word of BAR0, 4 B as half of the word, 8 B or, for a compare and swap, 16 B as two
successive words, it reads, operates and writes, at a register under one gate check as an atomic, at a tenant status page under the
rules of its words; the old values are the answer. Of another size or alignment it reads as an access that is not performed (20
R605). DESIGN CHOICE: the spec does not say what an AtomicOp does at a word (notes/assumptions/64.md). -/
def State.barAtomic (s : State) (func bar off size : Nat) (op : AtomOp) (y cmp : Nat) : State :=
  let m := fnMst func
  let a := off % 2 ^ 25
  let at' (i : Nat) : Nat := a / 8 * 8 + 8 * i
  let lo := if size = 4 then 8 * (a % 8) else 0
  let hi := if size = 4 then lo + 31 else 63
  if bar ≠ 0 then s.barRead func bar off
  else if a % size ≠ 0 || !(size == 4 || size == 8 || (size == 16 && op == .cas)) then s.answer m (BitVec.allOnes 64)
  else
    match (if isVf m then (s, s.fnAnswers func && !s.halted) else s.openReg m (at' 0) .atomic) with
    | (s, false) => s.answerOnes m
    | (s, true) =>
      let part (x i : Nat) : Word := BitVec.ofNat 64 (x / 2 ^ (64 * i) % 2 ^ (hi + 1 - lo))
      let old (w : Word) : Word := BitVec.ofNat 64 (bits w hi lo)
      let r := (List.range ((size + 7) / 8)).foldl
        (fun (t : State × List Word) i =>
          let u := if isVf m then (t.1, t.1.tspWord func (at' i)) else t.1.readWord m (at' i)
          (u.1, t.2 ++ [u.2])) (s, [])
      let same := (List.range r.2.length).all fun i => old (r.2.getD i 0) == part cmp i
      let s := (List.range r.2.length).foldl
        (fun t i =>
          let w := r.2.getD i 0
          let x := if op = .cas then part y i else atomResult op (old w) (part y i) 0
          let new := setBits w hi lo x.toNat
          if op = .cas ∧ same = false then t
          else if isVf m then t.masterWrite m (at' i) new else t.writeReg m (at' i) new) r.1
      r.2.foldl (fun t w => t.answer m (old w)) s

/-- A request that PCI Express posts: a write of the MSI-X table. -/
def reqPosted : HostReq → Bool
  | .msixWrite .. => true
  | _ => false

/-- A request to the configuration space or the MSI-X table of a function, or an AtomicOp, is performed. A VF that is not there reads
as all ones and takes no write; at a halt and while the function does not answer, the table, which lies in memory space, does so too
(02 R63). -/
def State.hostPerform (s : State) (func : Nat) (r : HostReq) : State :=
  let live := s.fnAnswers func && !s.halted
  let there := s.fnThere func
  match r with
  | .configRead off => s.emit (.config func [if there then s.configDword func off else BitVec.allOnes 32])
  | .configWrite off v => if there then s.configPut func off v else s
  | .msixRead vector => s.emit (.config func (if live then s.msixDwords func vector else List.replicate 5 (BitVec.allOnes 32)))
  | .msixWrite vector addr data mask => if live then s.msixPut func vector ⟨addr, data, mask⟩ else s
  | .msixControl enable mask =>
    if there then (s.setFn func fun c => { c with msixOn := enable, msixMask := mask }).msixFlush func else s
  | .atomic bar off size op y cmp => s.barAtomic func bar off size op y cmp
  | _ => s

/-! ## Held requests (02 R38, R41, R63) -/

/-- The request at the head of those a host port holds is performed; none while it must still wait. At a halt a held
write is discarded and a held read answered (02 R63). -/
def State.releaseHead (s : State) (p : Nat) : Option State :=
  match (s.host p).held with
  | [] => none
  | w :: t =>
    let func := 256 * p + w.f
    let s := s.setHost p fun h => { h with held := t }
    match w.req with
    | some r => if reqPosted r && (s.throttled p || (s.host p).easel.full 9 || decide (128 ≤ (s.host p).asm.length)) then none
      else some (s.hostPerform func r)
    | none =>
    if w.read then some (s.barRead func w.bar w.off)
    else if s.halted || !s.fnAnswers func then some s
    else if s.throttled p then none
    else if 4 ≤ w.bar then s.easelApply p w.f w.off w.bytes
    else if (s.host p).easel.full 9 || decide (128 ≤ (s.host p).asm.length) then none
    else if w.bar = 2 then some (s.doorbellWrite func w.off w.bytes)
    else some (s.masterWrite (fnMst func) w.off (wordOfBytes w.bytes))

/-- Held requests are performed in order until one must wait; the fuel counts them. -/
def State.releaseHeld (p : Nat) : Nat → State → State
  | 0, s => s
  | k + 1, s =>
    match s.releaseHead p with
    | some t => State.releaseHeld p k t
    | none => s

/-- 02 R38: the held write at the head is applied once buffers and FIFO slots are free, and the requests behind it
follow (R41). -/
def execEaselWriteApply (p : Fin 4) (s : State) : Out := fin (State.releaseHeld p (s.host p).held.length s)

/-- A configuration request of a port, 4 for the pier: Request Retry Status while it is busy for boot or reset and until its ready
pin has risen (02 R63, 18 R572), else performed. -/
def State.configRow (s : State) (port : Nat) (f : State → State) : Out :=
  if s.pinBoot port || !(s.pin port).ready then fin (s.emit (.retryStatus port)) else fin (f s)

/-- A request of a host port waits behind held posted writes, and a posted one for credits (02 R41); else it is performed. -/
def State.hostTurn (s : State) (p f : Nat) (r : HostReq) : State :=
  if !s.halted && (if reqPosted r then s.withheld p else !(s.host p).held.isEmpty) then
    s.holdWrite p { f := f, bar := 0, off := 0, req := some r }
  else s.hostPerform (256 * p + f) r

/-- A request through the tunnel to the pier function: it reaches it while the tunnel stands (02 R54, R55). -/
def State.pierRow (s : State) (f : State → State) : Out :=
  if s.pier.tunnel then s.configRow 4 f else fin s

/-- A memory request through the tunnel to the pier function (02 R54, R55); it is not a configuration request, and gets no Request
Retry Status. -/
def State.pierMem (s : State) (f : State → State) : Out := if s.pier.tunnel then fin (f s) else fin s

/-- The pier function reads device memory, at a halt too (15 R482, R488, 16 R520; notes/assumptions/75.md). -/
def State.pierRead (s : State) (a n : Nat) : State :=
  let ones (s : State) : State := (List.range ((n + 7) / 8)).foldl (fun t _ => t.answer 0x4000 (BitVec.allOnes 64)) s
  if s.pierBusy || !backed a n then ones s
  else
    match s.gate 0x4000 a n .read with
    | (s, true) => s.answerBytes 0x4000 a n
    | (s, false) => ones s

/-- The pier function writes device memory (15 R482, 18 R577); at a halt GDDR6 keeps its contents (16 R520). -/
def State.pierWrite (s : State) (a : Nat) (bs : List Byte) : State :=
  if s.pierBusy || s.halted || !backed a bs.length then s
  else
    match s.gate 0x4000 a bs.length .write with
    | (s, true) => s.devWrite a bs
    | (s, false) => s

/-- 02 R63: a request of a host, answered as the state of its port and function requires. -/
def execHostRequestWhileBusy (p : Fin 4) (f : Fin 256) (r : HostReq) (s : State) : Out :=
  let func := 256 * p.val + f.val
  match r with
  | .pierConfigRead off => s.pierRow fun s => s.emit (.config 1024 [s.configDword 1024 off])
  | .pierConfigWrite off v => s.pierRow fun s => s.configPut 1024 off v
  | .pierMsixRead vector =>
    s.pierMem fun s => s.emit (.config 1024 (if s.pierBusy then List.replicate 5 (BitVec.allOnes 32) else s.msixDwords 1024 vector))
  | .pierMsixWrite vector addr data mask => s.pierMem fun s => if s.pierBusy then s else s.msixPut 1024 vector ⟨addr, data, mask⟩
  | .pierMsixControl enable mask =>
    s.pierRow fun s => (s.setFn 1024 fun c => { c with msixOn := enable, msixMask := mask }).msixFlush 1024
  | .pierMemRead a n => s.pierMem fun s => s.pierRead a.toNat n
  | .pierMemWrite a bytes => s.pierMem fun s => s.pierWrite a.toNat bytes
  | .read bar off =>
    if s.waitsBehind (fnMst func) then fin (s.holdWrite p { f := f, bar := bar, off := off, read := true })
    else fin (s.barRead func bar off)
  | .write bar off v => fin (s.barWrite func bar off v)
  | .atomic .. | .msixRead .. | .msixWrite .. => fin (s.hostTurn p f r)
  | r => s.configRow p fun s => s.hostTurn p f r

end Sys2Proof.Machine
end

