-- ==== Sys2Proof/Machine/BootRows.lean ====
section
/-! DEFINITION. Boot and recovery (18 R569 to R577). -/

namespace Sys2Proof.Machine

/-- Internal units and boot firmware (15 R479). -/
abbrev bootMst : Mst := 0x7000

/-! ## Step 1: fuses (15 R505, 16 R527, 18 R570) -/

/-- The lifecycle state that the fuses hold takes effect, a blown fuse staying blown (15 R504); RETIRE blows the kill
fuse, zeroises keys, those of connections too, and takes the host links down. -/
def State.fuseState (s : State) : State :=
  let now := max s.fuses.state (s.fuses.pending.getD 0)
  let s := { s with fuses := { s.fuses with state := now, pending := none, killed := s.fuses.killed || now == 3 } }
  let s := ((s.wr F.lcsState_STATE now).wr F.lcsState_PENDING 0).wr F.lcsState_NEXT 0
  if now = 3 then
    let s := { s with sandbox := { s.sandbox with keys := [] }, conns := s.conns.each fun _ c => { c with cur := none, nxt := none } }
    (List.range 4).foldl (fun t n => t.hostLinkLost n) s
  else s

/-- Fuse load: the fault pair after a power-on reset, and the integrity check. -/
def State.fuseLoad (s : State) : State :=
  let s := s.fuseState
  let s := if s.on F.glbRstCause_POR then s.wr F.fltPin_ASSERTED (s.rd F.fltPin_TERMHOLD) else s
  if s.fuses.ok then s else s.raise Src.LCS_FUSE_INTEGRITY {}

/-! ## Step 4: soft repair (18 R576) -/

/-- A slot number joins an ascending list by its key. -/
def slotInsert (key : Nat → Nat) (i : Nat) : List Nat → List Nat
  | [] => [i]
  | j :: t => if key i ≤ key j then i :: j :: t else j :: slotInsert key i t

/-- The slots that hold a REPAIR record, oldest first: the oldest slot of the store is the one at WPTR. -/
def State.repairSlots (s : State) : List Nat :=
  let key (i : Nat) : Nat := (i + audSlots - s.rd F.audPtr_WPTR % audSlots) % audSlots
  let l := s.regs.filterMap fun c => match c.1 with | .audRec i 0 => if bits c.2 3 3 = 1 then some i else none | _ => none
  l.foldr (slotInsert key) []

/-- One REPAIR record is applied, unless it fails its check (17 R561). -/
def State.repairOne (s : State) (i : Nat) : State :=
  if s.audit.corrupt.contains i then s.audCorrupt i else
  let kind := bits (s.get (.audRec i 0)) 11 7
  let addr := bits (s.get (.audRec i 1)) 31 0
  let old := s.get (.audRec i 2)
  let new := s.get (.audRec i 3)
  if kind = RK.softRepair then { s with boot := { s.boot with sram := s.boot.sram.put addr new } }
  else if kind = RK.row then
    let r : Remap := { ch := bits (s.get (.audRec i 1)) 4 0, bank := bits (s.get (.audRec i 1)) 8 5
                       row := old.toNat, spare := new.toNat }
    s.remapIn r
  else if kind = RK.migrate then s.mapTo (addr % 16) old.toNat new.toNat
  else if kind = RK.engine then s.set (.islEngMap (addr % 16)) new
  else s

/-- Step 4: every REPAIR record in store order; the latest of a unit stands. -/
def State.softRepair (s : State) : State := s.repairSlots.foldl (fun t i => t.repairOne i) s

/-! ## Step 5: memory, the warden and the records (18 R571, R573, R575, 06 R205) -/

/-- Boot makes queue 0 the firmware control ring, a work ring of privilege F bound to queue 1, its completion ring
(03 R69, R73). No rule gives the two an event ring: EQ of both stays 0, which is no event ring, so that their events go nowhere
(DESIGN CHOICE, notes/assumptions/64.md). -/
def State.bootRings (s : State) : State :=
  let s := ((s.wr (F.qctx_TYPE 0) 0).wr (F.qctx_PRIV 0) 3).wr (F.qctx_CQ 0) 1
  s.wr (F.qctx_TYPE 1) 2

/-- GDDR6 is trained and zeroed, and the regions of R473 and R247 are loaded. -/
def State.memoryZero (s : State) : State :=
  let g : Gddr := { remaps := s.gddr.remaps, scrubAt := s.now, placeAt := s.now }
  let s := { s with mem := [], poison := [], coh := {}, gddr := g }
  (((s.set .mtcPool 0x0001000100000000).set .mixStage 0x000100036E000000).wr F.cnxRtxCfg_SIZE 256).bootRings

/-- The Jarwamor key of a firmware image stands in key slot 0, which verifies images of any LEVEL (06 R181). -/
def State.rootKey (s : State) (key : List Byte) : State :=
  let k : VKey := { minSvn := 0, tbind := false, tenant := 0, maxLevel := 3, key := key }
  { s with sandbox := { s.sandbox with keys := s.sandbox.keys.put 0 k } }

/-- The warden sketch takes slot 0, and its context is enabled at Firmware privilege. -/
def State.wardenStart (s : State) (w : List Byte) : State :=
  let s := (s.sketchPlace 0 w).setSlot 0 (sketchOf w)
  let s := (s.wr (F.ctxCfg_LEVEL wardenCtx) 3).wr (F.ctxCfg_SKETCH wardenCtx) 0
  ((s.wr (F.ctxCfg_MASK wardenCtx) 0xFFFF).enSets wardenCtx).wr (F.ctxCfg_EN wardenCtx) 1

/-- The records of `k` bytes of a section. -/
def imgRecords (k : Nat) (bs : List Byte) : List (List Byte) :=
  (List.range (bs.length / k)).map fun i => (bs.drop (k * i)).take k

/-- A gate record: an entry (its word 0, which may lock it, last), or GTE_CTL. -/
def State.gateRecord (s : State) (r : List Byte) : State :=
  let w := imgWord r 0
  let g := bits w 12 8
  if 23 ≤ g then s
  else if bits w 63 56 = 1 then
    (s.gateEntryPut bootMst g (bits w 5 0) 1 (imgWord r 2)).gateEntryPut bootMst g (bits w 5 0) 0 (imgWord r 1)
  else if bits w 63 56 = 2 then s.gateCtlPut bootMst g (imgWord r 1)
  else s

/-- A register record; none is applied once a record has reset the device. -/
def State.cfgRecord (s : State) (r : List Byte) : State :=
  if s.boot.phase = .bootDue then s.writeReg bootMst (bits (imgWord r 0) 24 0) (imgWord r 1) else s

/-- The records of an image are applied in image order, the section that lies first before the other, under the one SKETCH record. -/
def State.imageRecords (s : State) (bs : List Byte) : State :=
  let s := s.audAppend
    { kind := RK.sketch, master := 0x1080, old := BitVec.ofNat 64 s.boot.prevSvn, new := BitVec.ofNat 64 (imgSvn bs) }
  let s := (s.rootKey ((bs.drop (imgTotal bs)).take 96)).wardenStart (imgSection bs 2)
  let s := { s with boot := { s.boot with quiet := true, prevSvn := imgSvn bs } }
  let gates (s : State) : State := (imgRecords 32 (imgSection bs 3)).foldl (fun t r => t.gateRecord r) s
  let cfgs (s : State) : State := (imgRecords 16 (imgSection bs 4)).foldl (fun t r => t.cfgRecord r) s
  let s := if imgOff bs 4 < imgOff bs 3 then gates (cfgs s) else cfgs (gates s)
  { s with boot := { s.boot with quiet := false } }

/-! ## The end of boot -/

/-- Boot is complete: the host ports and the pier are in service, ports whose lamp is lit start (12 R409), and the device
stands for grandmaster (11 R390). -/
def State.bootDone (s : State) (slot : Nat) (bs : List Byte) : State :=
  let s := ((s.wr F.glbBootStat_STEP 0xF).wr F.glbBootStat_SLOT slot).wr F.glbBootStat_SVN (imgSvn bs)
  let s := (List.range 4).foldl (fun t n => t.setHost n fun h => { h with booted := true }) s
  let s := { s with boot := { s.boot with phase := .running, pierBooted := true } }
  ((List.range 16).foldl (fun t i => if (t.lamp i).en then t.islandUp i else t) s).elect

/-- Boot from an image. -/
def State.bootImage (s : State) (slot : Nat) (bs : List Byte) : State :=
  let s := ((s.wr F.glbBootStat_STEP 5).softRepair.memoryZero).imageRecords bs
  if s.boot.phase = .bootDue ∧ s.halted = false then s.bootDone slot bs else s

/-- Recovery (18 R577): steps 4 and 5 without an image, the pier gate, the cause, and one pier event. -/
def State.recovery (s : State) (step result ares bres : Nat) : State :=
  let s := s.softRepair.memoryZero
  let s := (s.wr (F.gteEnt_BASE 4 0) 0x37E000).wr (F.gteEnt_LIMIT 4 0) 0x801FFF
  let s := ((s.wr (F.gteEnt_PERM 4 0) 0x6C0).wr (F.gteEnt_VALID 4 0) 1).wr (F.gteCtl_EN 4) 1
  let s := ((s.wr F.glbBootStat_STEP step).wr F.glbBootStat_RESULT result).wr F.glbBootStat_RECOVERY 1
  let s := (s.wr F.glbBootStat_ARES ares).wr F.glbBootStat_BRES bres
  let s := { s with boot := { s.boot with phase := .recovery, pierBooted := true } }
  s.evPost 0 5 0x1080 step (result + ares * 256 + bres * 4096)

/-- Steps 1 and 2: fuse load, and BOOT_MODE as sampled; the flag says that boot goes on. -/
def State.bootBegin (s : State) (b : BootInputs) : State × Bool :=
  let s := (s.wr F.glbBootStat_STEP 1).fuseLoad
  if s.halted then (s, false) else ((s.wr F.glbBootStat_STEP 2).wr F.glbBootStat_MODE b.mode.toNat, true)

/-- The bytes of an image slot. -/
def slotImage : ImageBytes → List Byte
  | .blank => []
  | .image bs => bs

/-- Steps 3 to 5: the valid slot with the higher SVN, slot A on a tie; with none, recovery (18 R574). -/
def State.bootSlots (s : State) (b : BootInputs) : State :=
  let ares := s.slotResult b.slotA
  let bres := s.slotResult b.slotB
  let a := slotImage b.slotA
  let c := slotImage b.slotB
  if ares ≠ 0 ∧ bres ≠ 0 then s.recovery 3 ares ares bres
  else
    let s := (s.wr F.glbBootStat_ARES ares).wr F.glbBootStat_BRES bres
    if bres = 0 ∧ (ares ≠ 0 ∨ imgSvn a < imgSvn c) then s.bootImage 1 c else s.bootImage 0 a

/-- The latest ends of steps 1 to 5, in ms (18 R570). -/
def bootLatest : Nat → Nat
  | 0 => 10
  | 1 => 12
  | 2 => 400
  | 3 => 450
  | _ => 900

/-- 18 R570: boot runs, after POR_N deasserts or a device warm reset ends; later than step 1 may end, boot has abandoned it. -/
def execBoot (b : BootInputs) (s : State) : Out :=
  if s.boot.phase ≠ .bootDue ∨ s.halted = true then .next s
  else if b.trains = false then .next s
  else if s.boot.began + 1000000 * bootLatest 0 < s.now then
    match s.bootBegin b with
    | (s, false) => fin s
    | (s, true) => fin (s.recovery 1 BR.late 0 0)
  else
    match s.bootBegin b with
    | (s, false) => fin s
    | (s, true) => fin (if b.mode = 1 then s.recovery 2 BR.requested 0 0 else s.bootSlots b)

/-- 18 R570: step 1 + step has not ended by its latest end; boot enters recovery. A step 5 whose GDDR6 does not train ends so with
RESULT GDDR6 (R579; notes/assumptions/64.md). -/
def execBootStepTimeout (step : Fin 5) (b : BootInputs) (s : State) : Out :=
  if s.boot.phase ≠ .bootDue ∨ s.halted = true then .next s
  else
    match (s.passTo (s.boot.began + 1000000 * bootLatest step)).bootBegin b with
    | (s, false) => fin s
    | (s, true) =>
      let ares := if 2 < step.val then s.slotResult b.slotA else 0
      let bres := if 2 < step.val then s.slotResult b.slotB else 0
      fin (s.recovery (step + 1) (if step.val = 4 ∧ b.trains = false then BR.gddr6 else BR.late) ares bres)

end Sys2Proof.Machine
end

