-- ==== Sys2Proof/Machine/CohRows.lean ====
section
/-! DEFINITION. The commands of the coherence protocol (13 R437 to R450). -/

namespace Sys2Proof.Machine

/-- 13 R440 GETS. -/
def execGets (r : CohReq) (s : State) : Out := fin (s.homeArrive (.gets r) .gets r)

/-- 13 R440 GETM. -/
def execGetm (r : CohReq) (s : State) : Out := fin (s.homeArrive (.getm r) .getm r)

/-- 13 R440 RDU. -/
def execRdu (r : CohReq) (s : State) : Out := fin (s.homeArrive (.rdu r) .rdu r)

/-- The host port of a requester (15 R479). -/
def hostPortOf (m : Mst) : Option Nat := if m.toNat / 4096 = 0 then some (m.toNat / 256 % 4) else none

/-- An earlier write of the same host port is not yet visible (13 R452): its transaction is open, it backs off or its NACK
is on the way, or it was sent before `m`. -/
def State.wruWaits (s : State) (r : CohReq) (m : CohMsg) : Bool :=
  let mine (k : TxnKind) (x : CohReq) : Bool :=
    (match k with | .wru .. => true | _ => false) && (hostPortOf r.req).isSome && hostPortOf x.req == hostPortOf r.req
  let sent (x : CohMsg) : Bool := match x with | .wru y off bs => mine (.wru off bs) y | _ => false
  (s.coh.dir.any fun d => d.2.txn.any fun t => mine t.kind t.req)
    || s.coh.nacked.any (fun x => mine x.1 x.2) || s.coh.backoffs.any (fun b => mine b.kind b.req)
    || (s.coh.msgs.takeWhile (· ≠ m)).any sent

/-- 13 R440, R452 WRU: a write of a host port behind one that is not yet visible stays at its port. -/
def execWru (r : CohReq) (off : Fin 64) (bytes : List Byte) (s : State) : Out :=
  let m : CohMsg := .wru r off bytes
  fin <|
    if s.wruWaits r m then (if s.coh.msgs.contains m then s else s.cohSend m)
    else s.homeArrive m (.wru off (bytes.take (64 - off))) r

/-- 13 R451 ATU. -/
def execAtu (r : CohReq) (word : Fin 8) (op : AtomOp) (y cmp : Word) (s : State) : Out :=
  fin (s.homeArrive (.atu r word op y cmp) (.atu word op y cmp) r)

/-- 13 R440 PUTM. -/
def execPutm (e : EngNum) (line : Fin 268435456) (s : State) : Out := fin ((s.cohTake (.putm e line)).homePut e line .m)

/-- 13 R440 PUTO. -/
def execPuto (e : EngNum) (line : Fin 268435456) (s : State) : Out := fin ((s.cohTake (.puto e line)).homePut e line .o)

/-- 13 R440 PUTE. -/
def execPute (e : EngNum) (line : Fin 268435456) (s : State) : Out := fin ((s.cohTake (.pute e line)).homePut e line .e)

/-- 13 R441 DONE closes the transaction. -/
def execCohDone (r : CohReq) (dirty : Bool) (s : State) : Out := fin ((s.cohTake (.done r dirty)).homeDone r dirty)

/-- 13 R440 INV_ACK. -/
def execInvAck (isl : Fin 16) (line : Fin 268435456) (data : Option (List Byte)) (poison : Bool) (s : State) : Out :=
  fin ((s.cohTake (.invAck isl line data poison)).homeAck isl line data poison)

/-- 13 R442 NACK_WB. -/
def execNackWb (e : EngNum) (line : Fin 268435456) (s : State) : Out :=
  fin ((s.cohTake (.nackWb e line)).homeNackWb e line)

/-- 13 R440 DATA_S. -/
def execDataS (e : EngNum) (line : Fin 268435456) (data : List Byte) (poison dirty : Bool) (s : State) : Out :=
  fin ((s.cohTake (.dataS e line data poison dirty)).l1Data e line .s data poison dirty)

/-- 13 R440 DATA_E. -/
def execDataE (e : EngNum) (line : Fin 268435456) (data : List Byte) (poison : Bool) (s : State) : Out :=
  fin ((s.cohTake (.dataE e line data poison)).l1Data e line .e data poison false)

/-- 13 R440 DATA_M. -/
def execDataM (e : EngNum) (line : Fin 268435456) (data : Option (List Byte)) (poison dirty : Bool) (s : State) : Out :=
  fin ((s.cohTake (.dataM e line data poison dirty)).l1DataM e line data poison dirty)

/-- 13 R440 FWD_GETS. -/
def execFwdGets (owner : EngNum) (r : CohReq) (s : State) : Out := fin ((s.cohTake (.fwdGets owner r)).l1FwdGets owner r)

/-- 13 R440 FWD_GETM. -/
def execFwdGetm (owner : EngNum) (r : CohReq) (s : State) : Out := fin ((s.cohTake (.fwdGetm owner r)).l1FwdGetm owner r)

/-- 13 R440 FWD_RDU. -/
def execFwdRdu (owner : EngNum) (r : CohReq) (s : State) : Out := fin ((s.cohTake (.fwdRdu owner r)).l1FwdRdu owner r)

/-- 13 R438 INV. -/
def execInv (e : EngNum) (line : Fin 268435456) (s : State) : Out :=
  fin ((s.cohTake (.inv e line)).l1Inval e line false)

/-- 13 R449 BINV. -/
def execBinv (e : EngNum) (line : Fin 268435456) (s : State) : Out :=
  fin ((s.cohTake (.binv e line)).l1Inval e line true)

/-- 13 R440 RECALL. -/
def execRecall (owner : EngNum) (line : Fin 268435456) (s : State) : Out :=
  fin ((s.cohTake (.recall owner line)).l1Recall owner line)

/-- 13 R444 NACK. -/
def execCohNack (r : CohReq) (s : State) : Out := fin ((s.cohTake (.nack r)).reqNack r)

/-- A write of a host port: sent again, it stays before the later writes of that port (13 R452). -/
def hostWrite : CohMsg → Bool
  | .wru r _ _ => (hostPortOf r.req).isSome
  | _ => false

/-- 13 R444: the back-off ends and the request is sent again with its age and NACK count. -/
def execCohRetry (r : CohReq) (s : State) : Out :=
  fin <|
    match s.coh.backoffs.find? fun b => sameReq b.req r with
    | some b =>
      let s := s.passTo b.due
      let m := reqMsg b.kind b.req
      let s : State := { s with coh := { s.coh with backoffs := s.coh.backoffs.erase b } }
      if hostWrite m then { s with coh := { s.coh with msgs := m :: s.coh.msgs } } else s.cohSend m
    | none => s

/-- 13 R436 WB_ACK. -/
def execWbAck (e : EngNum) (line : Fin 268435456) (s : State) : Out := fin ((s.cohTake (.wbAck e line)).l1WbAck e line)

/-- 13 R446, R450: a reservation lapses 1,024 CLK_CORE cycles after it was made. -/
def execReservationLapse (line : Fin 268435456) (set : Bool) (s : State) : Out :=
  fin <|
    if set then
      match s.coh.setResv.find (dirSetKey line) with
      | some v =>
        let s := s.passTo (v.made + 342)
        { s with coh := { s.coh with setResv := s.coh.setResv.del (dirSetKey line) } }
      | none => s
    else s.resvLapse line

end Sys2Proof.Machine
end

