-- ==== Sys2Proof/Machine/Dispatch.lean ====
section
/-! DEFINITION. The dispatch of commands: one arm per constructor. -/

namespace Sys2Proof.Machine

def exec (i : Instr) (s : State) : Host.Outcome State Fault Refusal :=
  match i with
  | .doorbellPageWrite p f off bytes => Sys2Proof.Machine.execDoorbellPageWrite p f off bytes s
  | .easelWrite p f off bytes => Sys2Proof.Machine.execEaselWrite p f off bytes s
  | .easelWriteApply p => Sys2Proof.Machine.execEaselWriteApply p s
  | .easelAssemblyTimeout p f slot => Sys2Proof.Machine.execEaselAssemblyTimeout p f slot s
  | .easelTake p => Sys2Proof.Machine.execEaselTake p s
  | .watermarkWrite m ix v => Sys2Proof.Machine.execWatermarkWrite m ix v s
  | .pieEvtPop m v => Sys2Proof.Machine.execPieEvtPop m v s
  | .islEvtPop m ix v => Sys2Proof.Machine.execIslEvtPop m ix v s
  | .overflowEntryWrite k => Sys2Proof.Machine.execOverflowEntryWrite k s
  | .attentionPulse pin => Sys2Proof.Machine.execAttentionPulse pin s
  | .attentionPulseEnd pin => Sys2Proof.Machine.execAttentionPulseEnd pin s
  | .pieAttnRead m => Sys2Proof.Machine.execPieAttnRead m s
  | .hptAttnRead m n => Sys2Proof.Machine.execHptAttnRead m n s
  | .hostRequestWhileBusy p f r => Sys2Proof.Machine.execHostRequestWhileBusy p f r s
  | .qcwWrite m w v => Sys2Proof.Machine.execQcwWrite m w v s
  | .queueActivate m v => Sys2Proof.Machine.execQueueActivate m v s
  | .queueDisable m v => Sys2Proof.Machine.execQueueDisable m v s
  | .queueDrainEnd q => Sys2Proof.Machine.execQueueDrainEnd q s
  | .functionLevelReset p f => Sys2Proof.Machine.execFunctionLevelReset p f s
  | .flrEnd p f => Sys2Proof.Machine.execFlrEnd p f s
  | .takeWorkEntry q e => Sys2Proof.Machine.execTakeWorkEntry q e s
  | .ringAccessFault q iova => Sys2Proof.Machine.execRingAccessFault q iova s
  | .writeCompletion q => Sys2Proof.Machine.execWriteCompletion q s
  | .nop q id => Sys2Proof.Machine.execNop q id s
  | .put q id src => Sys2Proof.Machine.execPut q id src s
  | .get q id => Sys2Proof.Machine.execGet q id s
  | .atomic q id => Sys2Proof.Machine.execAtomic q id s
  | .flush q id => Sys2Proof.Machine.execFlush q id s
  | .keyNext q id src => Sys2Proof.Machine.execKeyNext q id src s
  | .keyCur q id src => Sys2Proof.Machine.execKeyCur q id src s
  | .send q id src => Sys2Proof.Machine.execSend q id src s
  | .dgram q id src => Sys2Proof.Machine.execDgram q id src s
  | .coll q id src => Sys2Proof.Machine.execColl q id src s
  | .mgmt q id src => Sys2Proof.Machine.execMgmt q id src s
  | .treeWrite id src => Sys2Proof.Machine.execTreeWrite id src s
  | .recv q e => Sys2Proof.Machine.execRecv q e s
  | .schedulePacket => Sys2Proof.Machine.execSchedulePacket s
  | .shaperRefill ix => Sys2Proof.Machine.execShaperRefill ix s
  | .shaperWrite m w v => Sys2Proof.Machine.execShaperWrite m w v s
  | .policerRefill t => Sys2Proof.Machine.execPolicerRefill t s
  | .tenantWindowWrite m w v => Sys2Proof.Machine.execTenantWindowWrite m w v s
  | .samplerPeriod => Sys2Proof.Machine.execSamplerPeriod s
  | .samplerResetQueue m v => Sys2Proof.Machine.execSamplerResetQueue m v s
  | .meterSnapshot => Sys2Proof.Machine.execMeterSnapshot s
  | .meterGddr6Sample => Sys2Proof.Machine.execMeterGddr6Sample s
  | .add c d a b => Sys2Proof.Machine.execAdd c d a b s
  | .sub c d a b => Sys2Proof.Machine.execSub c d a b s
  | .and c d a b => Sys2Proof.Machine.execAnd c d a b s
  | .or c d a b => Sys2Proof.Machine.execOr c d a b s
  | .xor c d a b => Sys2Proof.Machine.execXor c d a b s
  | .sll c d a b => Sys2Proof.Machine.execSll c d a b s
  | .srl c d a b => Sys2Proof.Machine.execSrl c d a b s
  | .sra c d a b => Sys2Proof.Machine.execSra c d a b s
  | .slt c d a b => Sys2Proof.Machine.execSlt c d a b s
  | .sltu c d a b => Sys2Proof.Machine.execSltu c d a b s
  | .seq c d a b => Sys2Proof.Machine.execSeq c d a b s
  | .sne c d a b => Sys2Proof.Machine.execSne c d a b s
  | .mul c d a b => Sys2Proof.Machine.execMul c d a b s
  | .mulh c d a b => Sys2Proof.Machine.execMulh c d a b s
  | .mulhu c d a b => Sys2Proof.Machine.execMulhu c d a b s
  | .min c d a b => Sys2Proof.Machine.execMin c d a b s
  | .max c d a b => Sys2Proof.Machine.execMax c d a b s
  | .minu c d a b => Sys2Proof.Machine.execMinu c d a b s
  | .maxu c d a b => Sys2Proof.Machine.execMaxu c d a b s
  | .clz c d a => Sys2Proof.Machine.execClz c d a s
  | .ctz c d a => Sys2Proof.Machine.execCtz c d a s
  | .popc c d a => Sys2Proof.Machine.execPopc c d a s
  | .addi c d a imm => Sys2Proof.Machine.execAddi c d a imm s
  | .andi c d a imm => Sys2Proof.Machine.execAndi c d a imm s
  | .ori c d a imm => Sys2Proof.Machine.execOri c d a imm s
  | .xori c d a imm => Sys2Proof.Machine.execXori c d a imm s
  | .slli c d a sh => Sys2Proof.Machine.execSlli c d a sh s
  | .srli c d a sh => Sys2Proof.Machine.execSrli c d a sh s
  | .srai c d a sh => Sys2Proof.Machine.execSrai c d a sh s
  | .slti c d a imm => Sys2Proof.Machine.execSlti c d a imm s
  | .sltiu c d a imm => Sys2Proof.Machine.execSltiu c d a imm s
  | .lsi c d a imm => Sys2Proof.Machine.execLsi c d a imm s
  | .bfxU c d a pos len1 => Sys2Proof.Machine.execBfxU c d a pos len1 s
  | .bfxS c d a pos len1 => Sys2Proof.Machine.execBfxS c d a pos len1 s
  | .bfi c d a pos len1 => Sys2Proof.Machine.execBfi c d a pos len1 s
  | .ldB c d a imm => Sys2Proof.Machine.execLdB c d a imm s
  | .ldBu c d a imm => Sys2Proof.Machine.execLdBu c d a imm s
  | .ldH c d a imm => Sys2Proof.Machine.execLdH c d a imm s
  | .ldHu c d a imm => Sys2Proof.Machine.execLdHu c d a imm s
  | .ldW c d a imm => Sys2Proof.Machine.execLdW c d a imm s
  | .ldWu c d a imm => Sys2Proof.Machine.execLdWu c d a imm s
  | .ldD c d a imm => Sys2Proof.Machine.execLdD c d a imm s
  | .stB c d a imm => Sys2Proof.Machine.execStB c d a imm s
  | .stH c d a imm => Sys2Proof.Machine.execStH c d a imm s
  | .stW c d a imm => Sys2Proof.Machine.execStW c d a imm s
  | .stD c d a imm => Sys2Proof.Machine.execStD c d a imm s
  | .hld c d ix => Sys2Proof.Machine.execHld c d ix s
  | .hst c a ix => Sys2Proof.Machine.execHst c a ix s
  | .beq c a b off => Sys2Proof.Machine.execBeq c a b off s
  | .bne c a b off => Sys2Proof.Machine.execBne c a b off s
  | .blt c a b off => Sys2Proof.Machine.execBlt c a b off s
  | .bge c a b off => Sys2Proof.Machine.execBge c a b off s
  | .bltu c a b off => Sys2Proof.Machine.execBltu c a b off s
  | .bgeu c a b off => Sys2Proof.Machine.execBgeu c a b off s
  | .jal c d off => Sys2Proof.Machine.execJal c d off s
  | .jalr c d a imm => Sys2Proof.Machine.execJalr c d a imm s
  | .fenceR c => Sys2Proof.Machine.execFenceR c s
  | .fenceW c => Sys2Proof.Machine.execFenceW c s
  | .fenceAll c => Sys2Proof.Machine.execFenceAll c s
  | .amoAdd c d a b => Sys2Proof.Machine.execAmoAdd c d a b s
  | .amoSwap c d a b => Sys2Proof.Machine.execAmoSwap c d a b s
  | .amoCas c d a b => Sys2Proof.Machine.execAmoCas c d a b s
  | .amoAnd c d a b => Sys2Proof.Machine.execAmoAnd c d a b s
  | .amoOr c d a b => Sys2Proof.Machine.execAmoOr c d a b s
  | .lockAcq c d a => Sys2Proof.Machine.execLockAcq c d a s
  | .lockTry c d a => Sys2Proof.Machine.execLockTry c d a s
  | .lockRel c d a => Sys2Proof.Machine.execLockRel c d a s
  | .wait c d a => Sys2Proof.Machine.execWait c d a s
  | .yield c => Sys2Proof.Machine.execYield c s
  | .done c => Sys2Proof.Machine.execDone c s
  | .trap c imm => Sys2Proof.Machine.execTrap c imm s
  | .halt c => Sys2Proof.Machine.execHalt c s
  | .csrRd c d n => Sys2Proof.Machine.execCsrRd c d n s
  | .csrWr c a n => Sys2Proof.Machine.execCsrWr c a n s
  | .brushCopy c d a b => Sys2Proof.Machine.execBrushCopy c d a b s
  | .brushFill c d a b => Sys2Proof.Machine.execBrushFill c d a b s
  | .brushDrain c d a b => Sys2Proof.Machine.execBrushDrain c d a b s
  | .brushFinish c id e => Sys2Proof.Machine.execBrushFinish c id e s
  | .qPop c d a b src => Sys2Proof.Machine.execQPop c d a b src s
  | .qPush c d a b => Sys2Proof.Machine.execQPush c d a b s
  | .qComplete c d a b => Sys2Proof.Machine.execQComplete c d a b s
  | .qBell c d a => Sys2Proof.Machine.execQBell c d a s
  | .pktBuild c d a b => Sys2Proof.Machine.execPktBuild c d a b s
  | .pktSend c d a b => Sys2Proof.Machine.execPktSend c d a b s
  | .pktFwd c d a b => Sys2Proof.Machine.execPktFwd c d a b s
  | .pktDrop c d a b => Sys2Proof.Machine.execPktDrop c d a b s
  | .matchPost c d a b => Sys2Proof.Machine.execMatchPost c d a b s
  | .matchProbe c d a b => Sys2Proof.Machine.execMatchProbe c d a b s
  | .matchTake c d a b => Sys2Proof.Machine.execMatchTake c d a b s
  | .mixOpen c d a b => Sys2Proof.Machine.execMixOpen c d a b s
  | .mixFeed c d a b => Sys2Proof.Machine.execMixFeed c d a b s
  | .mixClose c d a b => Sys2Proof.Machine.execMixClose c d a b s
  | .tmArm c d a b => Sys2Proof.Machine.execTmArm c d a b s
  | .tmStop c d a b => Sys2Proof.Machine.execTmStop c d a b s
  | .cntRd c d a b => Sys2Proof.Machine.execCntRd c d a b s
  | .timerFire c t => Sys2Proof.Machine.execTimerFire c t s
  | .illegalInstruction c w => Sys2Proof.Machine.execIllegalInstruction c w s
  | .steeredEventArrival e => Sys2Proof.Machine.execSteeredEventArrival e s
  | .eventDispatch e => Sys2Proof.Machine.execEventDispatch e s
  | .ctxCfgWrite m c v => Sys2Proof.Machine.execCtxCfgWrite m c v s
  | .ctxEnable m c v => Sys2Proof.Machine.execCtxEnable m c v s
  | .ctxDisable m c v => Sys2Proof.Machine.execCtxDisable m c v s
  | .ctxReset m c v => Sys2Proof.Machine.execCtxReset m c v s
  | .sketchLoad m v => Sys2Proof.Machine.execSketchLoad m v s
  | .sketchFree m v => Sys2Proof.Machine.execSketchFree m v s
  | .keyInstall m v => Sys2Proof.Machine.execKeyInstall m v s
  | .keyLock m v => Sys2Proof.Machine.execKeyLock m v s
  | .mailboxCommandDone => Sys2Proof.Machine.execMailboxCommandDone s
  | .steeringWrite m v => Sys2Proof.Machine.execSteeringWrite m v s
  | .connActivate m v => Sys2Proof.Machine.execConnActivate m v s
  | .connFree m v => Sys2Proof.Machine.execConnFree m v s
  | .canvasValidate m v => Sys2Proof.Machine.execCanvasValidate m v s
  | .canvasRevoke m v => Sys2Proof.Machine.execCanvasRevoke m v s
  | .connPacketArrival p mark => Sys2Proof.Machine.execConnPacketArrival p mark s
  | .ackDelayExpiry n reply => Sys2Proof.Machine.execAckDelayExpiry n reply s
  | .rtoExpiry n reply => Sys2Proof.Machine.execRtoExpiry n reply s
  | .nrBackoffExpiry n seq => Sys2Proof.Machine.execNrBackoffExpiry n seq s
  | .flushReqDispatch n => Sys2Proof.Machine.execFlushReqDispatch n s
  | .cnxKeyInstall m v => Sys2Proof.Machine.execCnxKeyInstall m v s
  | .rekeyGo m v => Sys2Proof.Machine.execRekeyGo m v s
  | .mctxActivate m v => Sys2Proof.Machine.execMctxActivate m v s
  | .mctxFree m v => Sys2Proof.Machine.execMctxFree m v s
  | .rndvCanvasTake q id => Sys2Proof.Machine.execRndvCanvasTake q id s
  | .treeActivate m v => Sys2Proof.Machine.execTreeActivate m v s
  | .treeFree m v => Sys2Proof.Machine.execTreeFree m v s
  | .mixUpArrival p => Sys2Proof.Machine.execMixUpArrival p s
  | .mixDownArrival p => Sys2Proof.Machine.execMixDownArrival p s
  | .mcastArrival p => Sys2Proof.Machine.execMcastArrival p s
  | .treeTimeout t => Sys2Proof.Machine.execTreeTimeout t s
  | .routeTableWrite m w v => Sys2Proof.Machine.execRouteTableWrite m w v s
  | .winOutput id => Sys2Proof.Machine.execWinOutput id s
  | .ferryWaitExpiry id => Sys2Proof.Machine.execFerryWaitExpiry id s
  | .tideReportSend n => Sys2Proof.Machine.execTideReportSend n s
  | .rteLoopWindow n => Sys2Proof.Machine.execRteLoopWindow n s
  | .rteLoopWrite m n v => Sys2Proof.Machine.execRteLoopWrite m n v s
  | .flaggedRelease id => Sys2Proof.Machine.execFlaggedRelease id s
  | .dgramArrival p => Sys2Proof.Machine.execDgramArrival p s
  | .mgmtArrival p inPort => Sys2Proof.Machine.execMgmtArrival p inPort s
  | .readReg r addr => Sys2Proof.Machine.execReadReg r addr s
  | .writeReg r addr v => Sys2Proof.Machine.execWriteReg r addr v s
  | .drain o => Sys2Proof.Machine.execDrain o s
  | .switch o => Sys2Proof.Machine.execSwitch o s
  | .resume o => Sys2Proof.Machine.execResume o s
  | .status r => Sys2Proof.Machine.execStatus r s
  | .fwctl r e data => Sys2Proof.Machine.execFwctl r e data s
  | .receiveDataFrame n bytes seen => Sys2Proof.Machine.execReceiveDataFrame n bytes seen s
  | .sendDataFrame n => Sys2Proof.Machine.execSendDataFrame n s
  | .replayTimerExpiry n => Sys2Proof.Machine.execReplayTimerExpiry n s
  | .creditFramePeriod n => Sys2Proof.Machine.execCreditFramePeriod n s
  | .creditFrame n f => Sys2Proof.Machine.execCreditFrame n f s
  | .tideFrame n f => Sys2Proof.Machine.execTideFrame n f s
  | .timeFrame n f => Sys2Proof.Machine.execTimeFrame n f s
  | .laneFrame n f => Sys2Proof.Machine.execLaneFrame n f s
  | .timeFramePeriod n => Sys2Proof.Machine.execTimeFramePeriod n s
  | .gmAnnounceLapse => Sys2Proof.Machine.execGmAnnounceLapse s
  | .fastRetrainEnd n ok => Sys2Proof.Machine.execFastRetrainEnd n ok s
  | .retrainAcceptTimeout n => Sys2Proof.Machine.execRetrainAcceptTimeout n s
  | .linkDownPatternEnd n => Sys2Proof.Machine.execLinkDownPatternEnd n s
  | .linkUp n => Sys2Proof.Machine.execLinkUp n s
  | .alignmentLockGain on seen => Sys2Proof.Machine.execAlignmentLockGain on seen s
  | .alignmentLockLoss on seen => Sys2Proof.Machine.execAlignmentLockLoss on seen s
  | .blockLockGain on headers => Sys2Proof.Machine.execBlockLockGain on headers s
  | .blockLockLoss on headers => Sys2Proof.Machine.execBlockLockLoss on headers s
  | .laneClassWindow n obs => Sys2Proof.Machine.execLaneClassWindow n obs s
  | .trainPhaseEnd n => Sys2Proof.Machine.execTrainPhaseEnd n s
  | .portAligned n => Sys2Proof.Machine.execPortAligned n s
  | .laneRecordReceive on prev blocks => Sys2Proof.Machine.execLaneRecordReceive on prev blocks s
  | .mapChangeApply n => Sys2Proof.Machine.execMapChangeApply n s
  | .laneSpareSwap n => Sys2Proof.Machine.execLaneSpareSwap n s
  | .lneRetrain m n v => Sys2Proof.Machine.execLneRetrain m n v s
  | .lneWiden m n v => Sys2Proof.Machine.execLneWiden m n v s
  | .lneRestart m n v => Sys2Proof.Machine.execLneRestart m n v s
  | .quiesceDone n => Sys2Proof.Machine.execQuiesceDone n s
  | .quiesceWrite m n v => Sys2Proof.Machine.execQuiesceWrite m n v s
  | .alignmentPeriodStart n => Sys2Proof.Machine.execAlignmentPeriodStart n s
  | .lampIdentify ix id => Sys2Proof.Machine.execLampIdentify ix id s
  | .lampAuthResponse ix resp => Sys2Proof.Machine.execLampAuthResponse ix resp s
  | .lampRemoved ix => Sys2Proof.Machine.execLampRemoved ix s
  | .biasLoopIteration ix r => Sys2Proof.Machine.execBiasLoopIteration ix r s
  | .lampHourTick ix => Sys2Proof.Machine.execLampHourTick ix s
  | .lampEnable m ix v => Sys2Proof.Machine.execLampEnable m ix v s
  | .lampDisable m ix v => Sys2Proof.Machine.execLampDisable m ix v s
  | .lampReauth m ix v => Sys2Proof.Machine.execLampReauth m ix v s
  | .gets r => Sys2Proof.Machine.execGets r s
  | .getm r => Sys2Proof.Machine.execGetm r s
  | .rdu r => Sys2Proof.Machine.execRdu r s
  | .wru r off bytes => Sys2Proof.Machine.execWru r off bytes s
  | .atu r word op y cmp => Sys2Proof.Machine.execAtu r word op y cmp s
  | .putm e line => Sys2Proof.Machine.execPutm e line s
  | .puto e line => Sys2Proof.Machine.execPuto e line s
  | .pute e line => Sys2Proof.Machine.execPute e line s
  | .cohDone r dirty => Sys2Proof.Machine.execCohDone r dirty s
  | .invAck isl line data poison => Sys2Proof.Machine.execInvAck isl line data poison s
  | .nackWb e line => Sys2Proof.Machine.execNackWb e line s
  | .dataS e line data poison dirty => Sys2Proof.Machine.execDataS e line data poison dirty s
  | .dataE e line data poison => Sys2Proof.Machine.execDataE e line data poison s
  | .dataM e line data poison dirty => Sys2Proof.Machine.execDataM e line data poison dirty s
  | .fwdGets owner r => Sys2Proof.Machine.execFwdGets owner r s
  | .fwdGetm owner r => Sys2Proof.Machine.execFwdGetm owner r s
  | .fwdRdu owner r => Sys2Proof.Machine.execFwdRdu owner r s
  | .inv e line => Sys2Proof.Machine.execInv e line s
  | .binv e line => Sys2Proof.Machine.execBinv e line s
  | .recall owner line => Sys2Proof.Machine.execRecall owner line s
  | .cohNack r => Sys2Proof.Machine.execCohNack r s
  | .cohRetry r => Sys2Proof.Machine.execCohRetry r s
  | .wbAck e line => Sys2Proof.Machine.execWbAck e line s
  | .reservationLapse line set => Sys2Proof.Machine.execReservationLapse line set s
  | .scrubVisit ch o => Sys2Proof.Machine.execScrubVisit ch o s
  | .rowRemap p bank row => Sys2Proof.Machine.execRowRemap p bank row s
  | .channelRetrainEnd p ok => Sys2Proof.Machine.execChannelRetrainEnd p ok s
  | .channelWearWindow p edc sym pin up => Sys2Proof.Machine.execChannelWearWindow p edc sym pin up s
  | .migrationGo m v => Sys2Proof.Machine.execMigrationGo m v s
  | .migrationAbort m v => Sys2Proof.Machine.execMigrationAbort m v s
  | .migrationSwitch => Sys2Proof.Machine.execMigrationSwitch s
  | .errinjArm m p v => Sys2Proof.Machine.execErrinjArm m p v s
  | .allocEntryWrite m v => Sys2Proof.Machine.execAllocEntryWrite m v s
  | .placementWindow obs => Sys2Proof.Machine.execPlacementWindow obs s
  | .gateEntryWrite m g e w v => Sys2Proof.Machine.execGateEntryWrite m g e w v s
  | .gateCtlWrite m g v => Sys2Proof.Machine.execGateCtlWrite m g v s
  | .gateFenceRead m g => Sys2Proof.Machine.execGateFenceRead m g s
  | .gateFenceTimeout m g => Sys2Proof.Machine.execGateFenceTimeout m g s
  | .semAcqRead m n => Sys2Proof.Machine.execSemAcqRead m n s
  | .semTryRead m n => Sys2Proof.Machine.execSemTryRead m n s
  | .semRelWrite m n v => Sys2Proof.Machine.execSemRelWrite m n v s
  | .semaphoreClaimGrant n => Sys2Proof.Machine.execSemaphoreClaimGrant n s
  | .semAcqTimeout m n => Sys2Proof.Machine.execSemAcqTimeout m n s
  | .lcsAdvance m v => Sys2Proof.Machine.execLcsAdvance m v s
  | .debugAccess a v => Sys2Proof.Machine.execDebugAccess a v s
  | .faultForce m sx v => Sys2Proof.Machine.execFaultForce m sx v s
  | .fltSrcSevWrite m sx v => Sys2Proof.Machine.execFltSrcSevWrite m sx v s
  | .faultClrcnt m sx v => Sys2Proof.Machine.execFaultClrcnt m sx v s
  | .faultRecordClear m d v => Sys2Proof.Machine.execFaultRecordClear m d v s
  | .faultRelease m v => Sys2Proof.Machine.execFaultRelease m v s
  | .engineRetire ix l => Sys2Proof.Machine.execEngineRetire ix l s
  | .softRepairRecord addr desc => Sys2Proof.Machine.execSoftRepairRecord addr desc s
  | .counterWrap b k => Sys2Proof.Machine.execCounterWrap b k s
  | .counterClear m v => Sys2Proof.Machine.execCounterClear m v s
  | .sampleRingCopy => Sys2Proof.Machine.execSampleRingCopy s
  | .instructionTag c insn stages stall trapCode memlat addr => Sys2Proof.Machine.execInstructionTag c insn stages stall trapCode memlat addr s
  | .bwWindowEnd => Sys2Proof.Machine.execBwWindowEnd s
  | .ppsOutRise => Sys2Proof.Machine.execPpsOutRise s
  | .ppsOutFall => Sys2Proof.Machine.execPpsOutFall s
  | .ppsInEdge => Sys2Proof.Machine.execPpsInEdge s
  | .ppsInTimeout => Sys2Proof.Machine.execPpsInTimeout s
  | .gapRecordCommit => Sys2Proof.Machine.execGapRecordCommit s
  | .auditExport m v => Sys2Proof.Machine.execAuditExport m v s
  | .powerOnReset => Sys2Proof.Machine.execPowerOnReset s
  | .boot b => Sys2Proof.Machine.execBoot b s
  | .bootStepTimeout step b => Sys2Proof.Machine.execBootStepTimeout step b s
  | .deviceWarmReset => Sys2Proof.Machine.execDeviceWarmReset s
  | .warmRstShortPulse => Sys2Proof.Machine.execWarmRstShortPulse s
  | .warmResetPhaseEnd => Sys2Proof.Machine.execWarmResetPhaseEnd s
  | .glbRstWarm m v => Sys2Proof.Machine.execGlbRstWarm m v s
  | .islandReset m v => Sys2Proof.Machine.execIslandReset m v s
  | .hostPortReset n c => Sys2Proof.Machine.execHostPortReset n c s
  | .portReset m ix v => Sys2Proof.Machine.execPortReset m ix v s
  | .pierReset => Sys2Proof.Machine.execPierReset s
  | .imageInstall m v => Sys2Proof.Machine.execImageInstall m v s
  | .railFault r => Sys2Proof.Machine.execRailFault r s
  | .rootPllUnlock => Sys2Proof.Machine.execRootPllUnlock s
  | .lanePllUnlock ix => Sys2Proof.Machine.execLanePllUnlock ix s
  | .lanePllRelock ix => Sys2Proof.Machine.execLanePllRelock ix s
  | .avsLoopStep ix r => Sys2Proof.Machine.execAvsLoopStep ix r s
  | .droopDetect ix => Sys2Proof.Machine.execDroopDetect ix s
  | .droopRelax ix => Sys2Proof.Machine.execDroopRelax ix s
  | .powerCapIteration pest busiest => Sys2Proof.Machine.execPowerCapIteration pest busiest s
  | .thermalSensorRead sx temp => Sys2Proof.Machine.execThermalSensorRead sx temp s
  | .paletteWindowAccess m w v => Sys2Proof.Machine.execPaletteWindowAccess m w v s
  | .registerOddAccess m addr size write => Sys2Proof.Machine.execRegisterOddAccess m addr size write s
  | .registerWrite m addr v => Sys2Proof.Machine.execRegisterWrite m addr v s
  | .hostPerstDeassert n => Sys2Proof.Machine.execHostPerstDeassert n s
  | .hostLinkUp n link => Sys2Proof.Machine.execHostLinkUp n link s
  | .pierLinkDown => Sys2Proof.Machine.execPierLinkDown s
  | .pierLinkUp => Sys2Proof.Machine.execPierLinkUp s
  | .railInRange r => Sys2Proof.Machine.execRailInRange r s
  | .rootPllRelock => Sys2Proof.Machine.execRootPllRelock s
  | .hostRefclkChange n run => Sys2Proof.Machine.execHostRefclkChange n run s
  | .pierRefclkChange run => Sys2Proof.Machine.execPierRefclkChange run s
  | .registerReadClear m addr => Sys2Proof.Machine.execRegisterReadClear m addr s
  | .busyPeriodMinEnd pin => Sys2Proof.Machine.execBusyPeriodMinEnd pin s
  | .islandResetEnd ix => Sys2Proof.Machine.execIslandResetEnd ix s
  | .imageInstallEnd => Sys2Proof.Machine.execImageInstallEnd s

end Sys2Proof.Machine
end

