-- ==== Sys2Proof/Machine/Step.lean ====
section
/-! DEFINITION. One step of the block (notes/assumptions/7.md): the command at the front of the queue acts; with no
command waiting, one nanosecond of CLK_TIME passes. -/

namespace Sys2Proof.Machine

/-- One step: the oldest waiting command leaves the queue and acts; an empty queue lets one CLK_TIME tick pass (19
R590, notes/assumptions/7.md). -/
def step (s : State) : Host.Outcome State Fault Refusal :=
  match s.pending with
  | [] => .next (s.pass 1)
  | c :: rest => exec c { s with pending := rest }

/-- The spec's table gives no row bits, so that no word spells a command: the state is unchanged. -/
def State.withFetchWord (s : State) (nbits w : Nat) : State :=
  match decodeTableWord nbits w with
  | some c => { s with pending := c :: s.pending }
  | none => s

end Sys2Proof.Machine
end

