-- ==== Sys2Proof/Safety.lean ====
section
/-! DEFINITION. What holds of every state a run may pass through, and what no command may undo: the terms of the
statements about all commands. -/

namespace Sys2Proof.Machine

/-- A state in good form: device memory and the palettes list rising addresses and no zero byte, and no word is
stored twice. -/
structure State.Inv (s : State) : Prop where
  mem : Memory.wf s.mem = true
  pal : Memory.wf s.pal = true
  regs : (s.regs.map Prod.fst).Nodup

/-- A command answers a next state, of which `p` holds. -/
def Ends (o : Out) (p : State → Prop) : Prop := ∃ t, o = .next t ∧ p t

/-- A command answers the state in which one of which `p` holds has ended: its containments are carried out and what
follows from it has happened. -/
def Gives (o : Out) (p : State → Prop) : Prop := ∃ t, o = .next t.ended ∧ p t

/-- A frame: from `s` to `t` no word changes but those that satisfy `p`, and no byte of device memory or of a palette. -/
structure OnlyWords (p : Reg → Prop) (s t : State) : Prop where
  reg : ∀ r, ¬p r → t.get r = s.get r
  mem : ∀ a, t.mem.read a = s.mem.read a
  pal : ∀ a, t.pal.read a = s.pal.read a

/-- The words that passing time alone may change: TIM_NOW (19 R590), and counters of occupancy and of idle issue slots
with their OVF (17 R538, R539). -/
def TimeReg (r : Reg) : Prop := r = .timNow ∨ ∃ b k, r = .cntVal b k ∨ r = .cntCtl b k

/-- Between commands no containment is owed. -/
def State.Rests (s : State) : Prop := s.faults.due = []

/-- The waiting management commands without the one of a requester whose payload is as told. -/
def State.forgotten (s : State) (r : MgmtReq) (spells : List Byte → Bool) : State :=
  match s.asked r spells with
  | some a => s.unasked a
  | none => s

/-- An access of a master to a register acts: its host port does not hold it back, and the port and its gate pass it
(02 R41, R63, 15 R482). -/
def State.Opens (s : State) (m : Mst) (addr : Nat) (k : AccKind) : Prop :=
  (if k = .write then s.writeWaits m else s.waitsBehind m) = false ∧ s.openReg m addr k = (s, true)

/-- The instruction word `w` of a context issues: the context runs, has budget left, and the word at its pc, which its
engine holds and can read, is `w` (05 R157, R159); no parity error of its registers is found (16 R511). -/
def State.Issues (s : State) (c : Nat) (w : Option Nat) : Prop :=
  s.ctxRuns c = true ∧ s.rd (F.csr_REMAINING c) ≠ 0 ∧ s.codeWord c = w ∧ w.isSome = true ∧
    (s.ctx c).parity = false ∧ (s.eng (ctxEng c)).codeEcc = []

/-- Instruction `i` of context `c`, where it issues, answers the state `t`. -/
def Does (i : Instr) (s : State) (c : Nat) (t : State) : Prop := s.Issues c (insnWord i) → exec i s = .next t

/-- Instruction `i` of context `c`, where it issues, answers a state of which `p` holds. -/
def Reaches (i : Instr) (s : State) (c : Nat) (p : State → Prop) : Prop := s.Issues c (insnWord i) → Ends (exec i s) p

/-- A palette range of `n` bytes that a unit operation names lies at palette key `key` (05 R162): aligned, in the palette,
inside the region of a User context, with no uncorrectable word among the first `r`, which are read. -/
def State.Finds (s : State) (c x n key : Nat) (r : Nat := n) : Prop :=
  x % 8 = 0 ∧ x < 65536 ∧ s.palAddr c x n = .pal key ∧ s.palBad key r = false

/-- `n` bytes of an entry's local range are `bs` (03 R84, R104): its inline bytes, none, what host memory answers, or what
device memory of its tenant holds, whose lines the read brings into their slices; `u` is the state once they are read. -/
def State.Reads (s : State) (q : Nat) (t : Taken) (n : Nat) (src : Fetched) (bs : List Byte) (u : State) : Prop :=
  let a := t.entry.get W.laddr
  (t.entry.get W.inline = 1 ∧ bs = t.pay.take n ∧ u = s)
  ∨ (t.entry.get W.inline ≠ 1 ∧ n = 0 ∧ bs = [] ∧ u = s)
  ∨ (t.entry.get W.inline ≠ 1 ∧ n ≠ 0 ∧ t.entry.get W.devmem ≠ 1 ∧ u = s
      ∧ ∃ got, src = .data got ∧ n ≤ got.length ∧ bs = got.take n)
  ∨ (t.entry.get W.inline ≠ 1 ∧ n ≠ 0 ∧ t.entry.get W.devmem = 1
      ∧ s.devRange (s.qFunc q) a n .read = (s, true) ∧ s.devPrefix (n / 64 + 2) a n = (u, bs, false))

/-- The entry `t` of queue `q`, of opcode `op`, may act: taken, not started, in its turn, on a device that runs. -/
def State.Serves (s : State) (q id op : Nat) (t : Taken) : Prop :=
  s.fresh q id = some t ∧ t.entry.get W.opcode = op ∧ s.halted = false ∧ s.turnOf q id = true

/-- A management command that waits, its payload as told, can be answered with `n` bytes at once (10 R349). -/
def State.Answers (s : State) (r : MgmtReq) (spells : List Byte → Bool) (n : Nat) : Prop :=
  (s.asked r spells).isSome = true ∧ s.halted = false ∧
    (s.forgotten r spells).leavesNow ((s.forgotten r spells).mgmtPort r)
      ((s.forgotten r spells).mgmtPacket r 0 0 (List.replicate n 0)) = true

/-- What a command may do to the parts of the state that no single rule of a family governs: the queue of commands
stays, a state in good form stays in good form, and the lifecycle never goes back (15 R504). -/
structure Kept (s t : State) : Prop where
  queue : t.pending = s.pending
  inv : s.Inv → t.Inv
  life : s.fuses.state ≤ t.fuses.state

/-- The outcome is a next state that keeps what `Kept` says. -/
def Sound (s : State) (o : Out) : Prop := ∃ t, o = .next t ∧ Kept s t

end Sys2Proof.Machine
end

