-- ==== Sys2Proof/Certificates/Slice0/Obligations.lean ====
section
/-! DEFINITION. The statements about the model, for the provers. Each cites the rules of spec/ it rests on in
OBLIGATIONS.json. -/

open Sys2Proof Sys2Proof.Machine

/-! ## Steps, the queue and reset -/

/-- A step takes the command at the front of the queue and is exec of it on the state with the queue's rest. With no command
waiting a step is one tick of CLK_TIME (the model's choice, notes/assumptions/7.md): TIM_NOW counts one nanosecond while it
neither holds, slews nor is frozen; no other word changes but the counters of occupancy and of idle issue slots, and no
byte. -/
def Obligations.StepRunsTheFrontCommand : Prop :=
  (∀ (s : State) (c : Instr) (rest : List Instr),
    step { s with pending := c :: rest } = exec c { s with pending := rest })
  ∧ ∀ s : State, s.pending = [] → s.clock.hold = 0 → s.clock.slewUp = 0 → s.clock.slewDown = 0 →
      s.on F.lnkGlbCfg_FREEZE = false →
      Ends (step s) fun t =>
        t.now = s.now + 1 ∧ t.tim = (s.tim + 1) % 2 ^ 64 ∧ t.pending = [] ∧ OnlyWords TimeReg s t

/-- Every step answers a next state, which is in good form if the state before it was: memories list rising
addresses and no zero byte, no word is stored twice; the lifecycle never goes back (15 R504); and a command at the
front leaves exactly the rest of the queue. -/
def Obligations.EveryStepKeepsTheInvariant : Prop :=
  ∀ s : State, Ends (step s) fun t =>
    (s.Inv → t.Inv) ∧ s.fuses.state ≤ t.fuses.state ∧ t.pending = s.pending.tail

/-- The state after power-on reset is in good form. -/
def Obligations.ResetIsInGoodForm : Prop := State.reset.Inv

/-- After power-on reset every word holds its reset value: that of its Reset column where the spec gives one, and else the
model's choice (the words that show fuses, log entry 1; the audit store and its pointers, log entry 2; TSP_QSEL, g, h and pc of
contexts and the CNX_KEY staging words, log entries 6 and 34). No queue, connection, tree or canvas exists, every event FIFO is empty, the ready pins are low, and
no command waits. -/
def Obligations.ResetValues : Prop :=
  (∀ r, State.reset.get r = r.reset)
    ∧ (∀ q, State.reset.qState q = 0) ∧ (∀ n, State.reset.rd (F.conn_STATE n) = 0)
    ∧ (∀ t, State.reset.rd (F.tree_STATE t) = 0) ∧ (∀ i, State.reset.rd (F.cvs_STATE i) = 0)
    ∧ (∀ i w, State.reset.evHead i w = 0) ∧ (∀ k, (State.reset.pin k).shown = false)
    ∧ State.reset.pending = []
    ∧ (∀ i, i < 4 → State.reset.rd (F.wm_HI i) = 448 ∧ State.reset.rd (F.wm_LO i) = 256)
    ∧ State.reset.rd (F.wm_HI 4) = 768 ∧ State.reset.rd (F.wm_LO 4) = 256
    ∧ (∀ i, 5 ≤ i → i ≤ 20 → State.reset.rd (F.wm_HI i) = 192 ∧ State.reset.rd (F.wm_LO i) = 64)
    ∧ State.reset.rd (F.wm_HI 21) = 3072 ∧ State.reset.rd (F.wm_LO 21) = 1024

/-! ## Host ports, device FIFOs and ready pins (02) -/

/-- A posted write to a doorbell page of a function that answers acts as one doorbell for each whole aligned slot it
covers, in ascending order; the partial slots at its ends, and so a write shorter than 8 B, ring nothing (02 R34).
While credits are withheld the write waits (R41). -/
def Obligations.DoorbellPageWriteRingsWholeSlots : Prop :=
  ∀ (p : Fin 4) (f : Fin 256) (off : Nat) (s : State), s.fnAnswers (256 * p.val + f.val) = true → s.halted = false →
    (∀ bs, s.withheld p = true → exec (.doorbellPageWrite p f off bs) s
        = .next (s.holdWrite p { f := f, bar := 2, off := off, bytes := bs }).ended)
    ∧ ∀ (lead tail : List Byte) (ws : List Word), s.withheld p = false → lead.length = (8 - off % 8) % 8 → tail.length < 8 →
        off + lead.length + 8 * ws.length ≤ barSize 2 (256 * p.val + f.val) →
        exec (.doorbellPageWrite p f off (lead ++ (ws.flatMap fun w => bytesOf 8 w.toNat) ++ tail)) s
          = .next (ws.foldl (fun t w => t.doorbell (256 * p.val + f.val) w) s).ended

/-- An easel write is applied whole when buffers and FIFO slots are free for it, else it waits, and a waiting write is
applied later in its turn, with the requests that wait behind it (02 R38, R41); no more than 128 assemblies are ever in progress; an assembly incomplete 10 µs
after its first write is discarded, counted and raised (R40). That a write with buffers and slots free is applied while credits
are withheld, and the order of several assemblies that one write completes, are the model's choice (log entry 32). -/
def Obligations.EaselWritesApplyWholeOrWait : Prop :=
  ∀ (p : Fin 4) (f : Fin 256) (off : Nat) (bs : List Byte) (s : State),
    (s.fnAnswers (256 * p.val + f.val) = true → s.halted = false → (s.host p).held = [] → s.throttled p = false →
      (∀ t, s.easelApply p f off bs = some t →
        exec (.easelWrite p f off bs) s = .next t.ended ∧ (t.host p).asm.length ≤ 128)
      ∧ (s.easelApply p f off bs = none →
        exec (.easelWrite p f off bs) s = .next (s.holdWrite p { f := f, off := off, bytes := bs }).ended))
    ∧ (∀ w rest, (s.host p).held = w :: rest → w.req = none →
        let u := s.setHost p fun h => { h with held := rest }
        (∀ t, s.releaseHead p = some t → exec (.easelWriteApply p) s = .next (State.releaseHeld p rest.length t).ended)
        ∧ (s.releaseHead p = none → exec (.easelWriteApply p) s = .next s.ended)
        ∧ (w.read = false → w.bar = 4 → s.fnAnswers (256 * p.val + w.f) = true → s.halted = false → s.throttled p = false →
            s.releaseHead p = u.easelApply p w.f w.off w.bytes)
        ∧ (w.read = true → s.releaseHead p = some (u.barRead (256 * p.val + w.f) w.bar w.off)))
    ∧ (∀ w rest r, (s.host p).held = w :: rest → w.req = some r →
        let u := s.setHost p fun h => { h with held := rest }
        (∀ t, s.releaseHead p = some t → exec (.easelWriteApply p) s = .next (State.releaseHeld p rest.length t).ended)
        ∧ (reqPosted r = false → s.releaseHead p = some (u.hostPerform (256 * p.val + w.f) r)))
    ∧ (∀ (slot : Fin 64) a, ((s.host p).asm.find? fun a => a.f == f.val && a.slot == slot.val) = some a →
        exec (.easelAssemblyTimeout p f slot) s
          = .next ((((s.passTo (a.start + 10000)).setHost p fun h => { h with asm := h.asm.erase a }).count
              (F.hptEaselStat_ABORTED p)).raise (Src.HPT_EASEL_ABORTED p) { master := 256 * p.val + f.val }).ended)

/-- The state once the head of an easel FIFO is taken out of it. -/
def Sys2Proof.Machine.State.easelOut (s : State) (p : Nat) : State :=
  let t := s.setHost p fun h => { h with easel := h.easel.pop 9 }
  t.wmEval p ((t.host p).easel.depth 9)

/-- The entry at the head of an easel FIFO, while nothing is halted or drained: one whose queue its function does not
own, or with ILEN above 256, is discarded, counted and raised (02 R43); one whose completion ring has no free slot is
discarded with an EASEL_DROPPED event (R42); any other is taken, behind the ring entries signalled before it (R44). The index of
a taken entry, which has no slot of the ring, is the model's choice (log entry 18). -/
def Obligations.EaselHeadIsTakenDroppedOrRefused : Prop :=
  ∀ (p : Fin 4) (s : State) (e : EaselEntry) (rest : List EaselEntry), (s.host p).easel.items = e :: rest →
    s.halted = false → s.draining = false →
    let func := 256 * p.val + e.f
    let q := easelQueue e.ctl
    (s.owns func q = false ∨ 256 < easelIlen e.ctl → exec (.easelTake p) s
        = .next (((s.easelOut p).count (F.hptEaselStat_REFUSED p)).raise (Src.HPT_EASEL_REFUSED p) { master := func }).ended)
    ∧ (s.owns func q = true → easelIlen e.ctl ≤ 256 → s.rd (F.qctx_TYPE q) = 0 → s.qState q = QS.active →
        (s.cqRoom q = false → exec (.easelTake p) s
          = .next ((s.easelOut p).postEvent (s.rd (F.qctx_EQ q)) 2 q e.entry.w1).ended)
        ∧ (s.cqActive q = true → s.cqRoom q = true → s.easelBehind q e.after = true → exec (.easelTake p) s = .next s)
        ∧ (s.cqActive q = true → s.cqRoom q = true → s.easelBehind q e.after = false →
            s.collHeld q e.entry (some (easelIlen e.ctl)) = false → exec (.easelTake p) s
          = .next ((((s.easelOut p).tally 16 0x84).takeOnto q
              { id := 0, idx := (s.rd (F.qctx_CI q) + ringMod (s.qLog q) - 1) % ringMod (s.qLog q), entry := e.entry
                pay := e.payload, easel := true } (some (easelIlen e.ctl)))).ended))

/-- A write of a watermark register that would leave LO ≥ HI, or HI above the capacity, leaves both as they were and is
counted (02 R50); any other takes both, that of PIE_EVT_WM and CNT_SMP_WM under its audit record, without which it changes
neither (17 R552, R555); the flag then follows R47 at the FIFO's depth: set at or above HI, clear at or
below LO, held between. -/
def Obligations.WatermarkWritesAndFlags : Prop :=
  ∀ (m : Mst) (i : Fin 22) (v : Word) (s : State),
    (s.Opens m (wmAddr i) .write →
      exec (.watermarkWrite m i v) s = .next (s.wmThrottleEnd (s.wmWrite m i v) i).ended)
    ∧ (bits v 44 32 ≤ bits v 28 16 ∨ 2 ^ fifoLog i < bits v 44 32 →
        (s.wmWrite m i v).rd (F.wm_HI i) = s.rd (F.wm_HI i) ∧ (s.wmWrite m i v).rd (F.wm_LO i) = s.rd (F.wm_LO i)
          ∧ (s.wmWrite m i v).rd F.glbWmReject_COUNT = satAdd 16 (s.rd F.glbWmReject_COUNT) 1)
    ∧ (bits v 28 16 < bits v 44 32 → bits v 44 32 ≤ 2 ^ fifoLog i →
        (i.val = 4 ∨ i.val = 21 → (s.cfgWrite m (wmAddr i) (.wm i) v).2 = true) →
        (s.wmWrite m i v).rd (F.wm_HI i) = bits v 44 32 ∧ (s.wmWrite m i v).rd (F.wm_LO i) = bits v 28 16)
    ∧ (i.val = 4 ∨ i.val = 21 → (s.cfgWrite m (wmAddr i) (.wm i) v).2 = false →
        (s.wmWrite m i v).rd (F.wm_HI i) = s.rd (F.wm_HI i) ∧ (s.wmWrite m i v).rd (F.wm_LO i) = s.rd (F.wm_LO i))
    ∧ (∀ depth, depth ≤ 4096 → s.rd (F.wm_LO i) < s.rd (F.wm_HI i) →
        (s.wmEval i depth).rd (F.wm_DEPTH i) = depth
          ∧ (s.wmEval i depth).rd (F.wm_FLAG i)
            = if s.rd (F.wm_HI i) ≤ depth then 1 else if depth ≤ s.rd (F.wm_LO i) then 0 else s.rd (F.wm_FLAG i))

/-- The pier and island event FIFOs never overwrite an unread entry (02 R46): a post leaves the entries held, in order,
at the front; a full FIFO loses the entry and counts it; the overflow entry of R59 carries the count, which returns to
zero; a pop by PIE_EVT_POP or, at F or D, ISL_EVT_POP takes the oldest entry out. -/
def Obligations.EventFifosKeepUnreadEntries : Prop :=
  (∀ (s : State) (k : Fin 17) (cls master detail arg : Nat) (low : Bool),
    ((s.ev k).fifo.items <+: ((s.evPost k cls master detail arg low).ev k).fifo.items)
      ∧ ((s.ev k).fifo.full (fifoLog (4 + k)) = true →
          ((s.evPost k cls master detail arg low).ev k).fifo.items = (s.ev k).fifo.items
            ∧ ((s.evPost k cls master detail arg low).ev k).lost = satAdd 16 (s.ev k).lost 1))
  ∧ (∀ (s : State) (k : Fin 17), (s.ev k).lost ≠ 0 → (s.ev k).fifo.full (fifoLog (4 + k)) = false →
      s.throttled (4 + k) = false →
      exec (.overflowEntryWrite k) s = .next (s.evOverflow k).ended ∧ ((s.evOverflow k).ev k).lost = 0
        ∧ ∃ e : Quad, ((s.evOverflow k).ev k).fifo.items = (s.ev k).fifo.items ++ [e] ∧ bits e.w1 63 48 = 7
            ∧ bits e.w1 47 0 = 0 ∧ e.w2 = BitVec.ofNat 64 (s.ev k).lost ∧ bits e.w3 63 32 = (s.ev k).eseq % 2 ^ 32)
  ∧ (∀ (s : State) (m : Mst) (v : Word), s.Opens m 0x820 .write →
      exec (.pieEvtPop m v) s = .next (if bits v 0 0 = 1 then s.evPop 0 else s).ended)
  ∧ (∀ (s : State) (m : Mst) (i : Fin 16) (v : Word), s.Opens m (0x400028 + 0x80000 * i.val) .write →
      exec (.islEvtPop m i v) s
        = .next (if bits v 0 0 = 1 ∧ 3 ≤ s.priv m then s.evPop (1 + i.val) else s).ended)
  ∧ (∀ (s : State) (k : Fin 17) (e : Quad) (rest : List Quad), (s.ev k).fifo.items = e :: rest → (s.ev k).lost = 0 →
      ((s.evPop k).ev k).fifo.items = rest)

/-- The ready pins. A pending cause starts a pulse no sooner than 1 µs after the pin rose and 100 µs after the last
pulse began (02 R66); the pulse ends 1 µs after it began, or when its end is commanded later (R64); a pin whose busy
cause is gone rises no sooner than 2 µs after it fell (R65). None of these changes a word but TIM_NOW and the
counters that count passing time. A read of PIE_ATTN
or HPT_ATTN that its port and gate pass returns the register and clears the pending causes (R66); no other word
changes. The end exactly 1 µs after the pulse began, where R64 allows 0.9 to 1.1 µs, and a late end are the model's choices (log
entries 22 and 8). -/
def Obligations.ReadyPinsAndAttention : Prop :=
  (∀ (pin : Fin 5) (s : State),
     (s.attnPending pin = true → (s.pin pin).level = true → (s.pin pin).pulsing = false → (s.pin pin).fallDue = none →
       s.pinBusy pin = false → Gives (exec (.attentionPulse pin) s) fun t =>
         (t.pin pin).shown = false ∧ (t.pin pin).pulsing = true ∧ (t.pin pin).pulsedAt = some t.now
           ∧ (s.pin pin).riseAt + 1000 ≤ t.now ∧ (∀ u, (s.pin pin).pulsedAt = some u → u + 100000 ≤ t.now)
           ∧ s.now ≤ t.now ∧ OnlyWords TimeReg s t)
     ∧ (∀ u, (s.pin pin).pulsing = true → (s.pin pin).pulsedAt = some u →
         Gives (exec (.attentionPulseEnd pin) s) fun t =>
           (t.pin pin).pulsing = false ∧ t.now = max s.now (u + 1000) ∧ OnlyWords TimeReg s t)
     ∧ ((s.pin pin).level = false → s.pinBusy pin = false → s.on (F.gteCtl_EN pin) = true →
         Gives (exec (.busyPeriodMinEnd pin) s) fun t =>
           (t.pinSync.pin pin).level = true ∧ (t.pinSync.pin pin).riseAt = t.now ∧ (s.pin pin).fallAt + 2000 ≤ t.now
             ∧ OnlyWords TimeReg s t))
  ∧ (∀ (m : Mst) (s : State),
       (s.Opens m 0x830 .read → Gives (exec (.pieAttnRead m) s) fun t =>
         t.out = s.out ++ [.answer m (s.get .pieAttn)] ∧ t.rd F.pieAttn_EVTFLAG = 0 ∧ t.rd F.pieAttn_FLTREC = 0
           ∧ t.rd F.pieAttn_LOST = 0 ∧ OnlyWords (· = .pieAttn) s t)
       ∧ (∀ n : Fin 4, s.Opens m (0x100018 + 0x40000 * n.val) .read → Gives (exec (.hptAttnRead m n) s) fun t =>
         t.out = s.out ++ [.answer m (s.get (.hptAttn n))] ∧ t.rd (F.hptAttn_PEND n) = 0
           ∧ t.rd (F.hptAttn_COUNT n) = 0 ∧ OnlyWords (· = .hptAttn n) s t))

/-! ## Queues, rings and completions (03) -/

/-- A doorbell (03 R80): INDEX counts modulo 2^(k+1). A producer's is accepted when it does not shorten the ring and does
not overfill it, and PI becomes INDEX; a consumer's when it does not lengthen the ring, and CI becomes INDEX. Any other,
and any to a DRAINING or ERROR queue, only counts in DBDROP. A function's doorbell reaches only a queue that it owns. -/
def Obligations.DoorbellMovesAnIndexOrDrops : Prop :=
  (∀ (s : State) (q index : Nat), s.qLog q ≤ 20 →
    let k := s.qLog q
    let pi := s.rd (F.qctx_PI q)
    let ci := s.rd (F.qctx_CI q)
    let old := ringDepth k pi ci
    let shut := s.qState q = QS.draining ∨ s.qState q = QS.error
    (¬shut → s.rd (F.qctx_TYPE q) < 2 → old ≤ ringDepth k index ci → ringDepth k index ci ≤ 2 ^ k →
        ((s.bell q index).1).rd (F.qctx_PI q) = index % 2 ^ (k + 1) ∧ ((s.bell q index).1).rd (F.qctx_CI q) = ci)
    ∧ (¬shut → 2 ≤ s.rd (F.qctx_TYPE q) → ringDepth k pi index ≤ old →
        ((s.bell q index).1).rd (F.qctx_CI q) = index % 2 ^ (k + 1))
    ∧ (shut ∨ (s.rd (F.qctx_TYPE q) < 2 ∧ ¬(old ≤ ringDepth k (index % 2 ^ (k + 1)) ci ∧ ringDepth k (index % 2 ^ (k + 1)) ci ≤ 2 ^ k))
          ∨ (2 ≤ s.rd (F.qctx_TYPE q) ∧ ¬ ringDepth k pi index ≤ old) →
        (s.bell q index).1 = s.count (F.qctx_DBDROP q)))
  ∧ (∀ (s : State) (func : Nat) (w : Word),
      s.doorbell func w
        = if 2 ≤ bits w 19 0 ∧ s.qState (bits w 19 0) ≠ QS.disabled ∧ s.rd (F.qctx_FUNC (bits w 19 0)) = func
          then (s.bell (bits w 19 0) (bits w 40 20)).1
          else (s.count (F.hptDbRefused_COUNT (func / 256))).raise (Src.HPT_DB_REFUSED (func / 256)) { master := func })

/-- Writes of the queue-context window (03 R71, R73, R74) act on the queue that the master's own QCW_SEL names. While
STATE is not DISABLED no word but word 0 changes, and word 0 at most in STATE; STATE takes only DISABLED and ACTIVE
from software; ACTIVE on a DISABLED queue is checked against the context as the write leaves it, and starts the ring at
index 0 or is counted in QCW_STAT. -/
def Obligations.QueueContextWindow : Prop :=
  (∀ (m : Mst) (w : Fin 16) (v : Word) (s : State),
    (s.Opens m (0x1000080 + 8 * w.val) .write → exec (.qcwWrite m w v) s = .next (s.qcwPut m w v).ended)
    ∧ (s.Opens m 0x1000080 .write →
        exec (.queueActivate m v) s = .next (s.qcwPut m 0 (setBits v 59 57 1)).ended
          ∧ exec (.queueDisable m v) s = .next (s.qcwPut m 0 (setBits v 59 57 0)).ended))
  ∧ ∀ (m : Mst) (w : Nat) (v : Word) (s : State),
      let q := s.selOf m .qcw
      (w ≠ 0 → s.qState q ≠ QS.disabled → s.qcwPut m w v = s)
      ∧ (s.qState q ≠ QS.disabled → bits v 59 57 ≠ 0 → s.qcwPut m 0 v = s)
      ∧ (s.qState q = QS.disabled → bits v 59 57 ≠ 1 → (s.qcwPut m 0 v).qState q = QS.disabled)
      ∧ (s.qState q = QS.disabled → bits v 59 57 = 1 →
          let t := s.plainWrite (.qctx q 0) (setBits v 59 57 0)
          (t.queueOk q = true →
            let u := s.qcwPut m 0 v
            u.qState q = QS.active ∧ u.rd (F.qctx_PI q) = 0 ∧ u.rd (F.qctx_CI q) = 0 ∧ u.rd (F.qctx_RSV q) = 0
              ∧ u.rd (F.qctx_OPEN q) = 0 ∧ (u.que q).node.deficit = 0 ∧ u.rd (F.qctx_DBDROP q) = 0
              ∧ u.rd (F.qctx_MALCOUNT q) = 0 ∧ u.rd (F.qctx_LASTREASON q) = 0 ∧ u.rd (F.qctx_EVLOST q) = 0)
          ∧ (t.queueOk q = false →
            (s.qcwPut m 0 v).qState q = QS.disabled
              ∧ (s.qcwPut m 0 v).rd F.qcwStat_REFUSED = satAdd 16 (s.rd F.qcwStat_REFUSED) 1))
      ∧ (s.qState q = QS.active ∨ s.qState q = QS.stalled ∨ s.qState q = QS.error →
          (s.qcwPut m 0 (setBits v 59 57 0)) = (s.wr (F.qctx_STATE q) QS.draining).drainGo q)

/-- The next entry of a work ring that is served is taken when the bound completion ring has a free slot, which it
reserves (03 R96); without one the ring becomes STALLED, its open segment closed (R97). A malformed entry of a ring
other than the firmware control ring is taken and completes MALFORMED with the first reason of R105 (R106). The queue context
is read first, and one that cannot be read raises QCW_UNCORR (16 R511). -/
def Obligations.WorkEntriesAreTakenUnderReservation : Prop :=
  ∀ (q : QNum) (e : Octet) (s0 : State), 2 ≤ q.val → s0.rd (F.qctx_TYPE q) = 0 → s0.serves q = true → s0.qDepth q ≠ 0 →
    s0.sketchServed q = false →
    let s := s0.structSeen (queueLine q) 2
    (s.structLost (queueLine q) 2 = true →
      exec (.takeWorkEntry q e) s0 = .next (s.structRaise Src.QCW_UNCORR (queueLine q) q).ended)
    ∧ (s.structLost (queueLine q) 2 = false → s.cqActive q = true → s.cqRoom q = false →
      exec (.takeWorkEntry q e) s0 = .next (s.stallRing q).ended ∧ (s.stallRing q).qState q = QS.stalled
        ∧ ∀ t, ((s.stallRing q).que q).taken.getLast? = some t → t.close = true)
    ∧ (s.structLost (queueLine q) 2 = false → s.cqActive q = true → s.cqRoom q = true → s.collHeld q e = false →
        let t := ((s.advanceCi q).setQue q fun v => { v with ahead := none }).takeOnto q
          { id := 0, idx := s.rd (F.qctx_CI q), entry := e } none
        let joins (p : Taken → Prop) : Prop := ∃ x, (t.que q).taken = (s.que q).taken ++ [x] ∧ x.id = s.nextId
          ∧ x.idx = s.rd (F.qctx_CI q) ∧ x.entry = e ∧ p x
        exec (.takeWorkEntry q e) s0 = .next t.ended
          ∧ t.rd (F.qctx_RSV (s.rd (F.qctx_CQ q))) = (s.rd (F.qctx_RSV (s.rd (F.qctx_CQ q))) + 1) % 2 ^ 21
          ∧ (s.qLog q ≤ 20 → t.rd (F.qctx_CI q) = (s.rd (F.qctx_CI q) + 1) % 2 ^ (s.qLog q + 1))
          ∧ (s.malReason q e none = none → joins fun x => x.started = false ∧ x.res = none)
          ∧ ∀ why, s.malReason q e none = some why →
              joins (fun x => x.started = true ∧ x.res = some { status := 1, reason := why })
                ∧ t.rd (F.qctx_MALCOUNT q) = satAdd 16 (s.rd (F.qctx_MALCOUNT q)) 1
                ∧ t.rd (F.qctx_LASTREASON q) = why % 256)

/-- The oldest segment of a work ring, closed and with every entry completed, is written as one completion: its
reservations are released by COUNT, and a completion ring in service never overflows, its depth and reservations
together staying within its size (03 R91, R96, R98). -/
def Obligations.CompletionsNeverOverflowTheirRing : Prop :=
  (∀ (q : QNum) (s : State) (seg : List Taken) (t : Taken) (r : Result), 2 ≤ q.val →
    segment 64 (s.que q).live = (seg, true) → seg.getLast? = some t → t.res = some r →
    (∀ x ∈ seg, x.res.isSome = true) →
    let sol := seg.any (fun x => x.entry.get W.solicit == 1) || r.status != 0
    exec (.writeCompletion q) s
      = .next ((((s.setQue q fun v => { v with taken := v.taken.filter fun x => !seg.any fun y => y.id == x.id }).complete
          (s.rd (F.qctx_CQ q)) seg.length (workCompletion q seg.length t r sol) sol).openSync q)).ended)
  ∧ ∀ (s : State) (cq n : Nat) (e : Quad) (sol : Bool), 2 ≤ cq → s.qLog cq ≤ 20 → 1 ≤ n → n ≤ s.rd (F.qctx_RSV cq) →
      s.qDepth cq + s.rd (F.qctx_RSV cq) ≤ 2 ^ s.qLog cq →
      (s.complete cq n e sol).rd (F.qctx_RSV cq) = s.rd (F.qctx_RSV cq) - n
        ∧ (s.complete cq n e sol).qDepth cq + (s.complete cq n e sol).rd (F.qctx_RSV cq) ≤ 2 ^ s.qLog cq
        ∧ (s.halted = false → s.qState cq = QS.active → s.inFlr (s.rd (F.qctx_FUNC cq)) = false →
            (s.complete cq n e sol).qDepth cq = s.qDepth cq + 1)

/-- A NOP completes OK once every earlier entry of its ring has completed (03 R85); a failed ring access moves the queue
to ERROR, posts RING_FAULT and raises HPT_RING_FAULT (R103); the drain of a queue from which nothing is taken ends in
DISABLED with one QUEUE_DISABLED event (R74). A Function Level Reset moves every queue of the function to DISABLED and
discards its assemblies and easel entries (R75, 02 R40); until it ends the function is in reset. -/
def Obligations.QueuesEndAndAreReset : Prop :=
  ((∀ (q : QNum) (id : Nat) (s : State) (t : Taken), s.fresh q id = some t → t.entry.get W.opcode = 0 →
     s.earlierDone q id = true → exec (.nop q id) s = .next (s.finishEntry q id { status := 0 }).ended)
   ∧ (∀ (q : QNum) (iova : Word) (s : State), 2 ≤ q.val → s.halted = false → s.qState q ≠ QS.disabled → s.qState q ≠ QS.error →
       exec (.ringAccessFault q iova) s
         = .next (((s.wr (F.qctx_STATE q) QS.error).postEvent (s.rd (F.qctx_EQ q)) 3 q iova).raise
             (Src.HPT_RING_FAULT (s.rd (F.qctx_FUNC q) / 256)) { addr := iova.toNat, master := 0x7000, atype := 8, unit := q }).ended)
   ∧ (∀ (q : QNum) (s : State), 2 ≤ q.val → s.qState q = QS.draining → (s.que q).taken = [] →
       (∀ x ∈ s.mtch.posts, x.rq ≠ q.val) → (∀ x ∈ s.mtch.bounds, x.post.rq ≠ q.val) →
       exec (.queueDrainEnd q) s
         = .next ((s.wr (F.qctx_STATE q) QS.disabled).postEvent (s.rd (F.qctx_EQ q)) 5 q 0).ended))
  ∧ (∀ (p : Fin 4) (f : Fin 256) (s : State),
       let func := 256 * p.val + f.val
       (s.inFlr func = false → s.hostBusyBoot p = false →
         exec (.functionLevelReset p f) s = .next (s.flrBegin func).ended
           ∧ (s.flrBegin func).inFlr func = true
           ∧ (∀ q, 2 ≤ q → s.rd (F.qctx_FUNC q) = func → (s.flrBegin func).qState q = QS.disabled)
           ∧ (∀ a ∈ ((s.flrBegin func).host p).asm, a.f ≠ f) ∧ ∀ e ∈ ((s.flrBegin func).host p).easel.items, e.f ≠ f)
       ∧ (s.inFlr func = true → exec (.flrEnd p f) s
           = .next (s.setHost p fun h =>
               { h with flr := h.flr.filter (· ≠ f.val), resetting := h.resetting && decide (f.val ≠ 0) }).ended))

/-! ## Scheduling, shaping, sampling and metering (04) -/

/-- A refill of an enabled shaper, or of an enabled policer, sets its tokens to min(TOKENS + ADD, BURST), and the next
refill falls PERIOD later (04 R119, R124); staged values take force first, and a staged disable ends the bucket (R121,
R122). Only the bucket's words and the time change. -/
def Obligations.BucketRefills : Prop :=
  (∀ (i : Fin 65536) (s : State), s.shpOn i = true →
    let live0 := if s.on (F.shp_PENDING i) then s.get (.shp i 0) else s.get (.shp i 4)
    let live1 := if s.on (F.shp_PENDING i) then s.get (.shp i 1) else s.get (.shp i 5)
    Gives (exec (.shaperRefill i) s) fun t =>
      t.get (.shp i 4) = live0 ∧ t.get (.shp i 5) = live1 ∧ t.rd (F.shp_PENDING i) = 0 ∧ s.rd (F.shp_NEXT i) ≤ t.tim
        ∧ (bits live0 63 63 = 1 →
            tokensOf (t.rd (F.shp_TOKENS i)) = min (tokensOf (s.rd (F.shp_TOKENS i)) + bits live0 23 0) (bits live1 23 0 : Nat)
              ∧ t.rd (F.shp_NEXT i) = (s.rd (F.shp_NEXT i) + bits live0 51 32) % 2 ^ 64)
        ∧ (bits live0 63 63 = 0 → t.rd (F.shp_TOKENS i) = s.rd (F.shp_TOKENS i) ∧ t.rd (F.shp_NEXT i) = 0)
        ∧ OnlyWords (fun r => TimeReg r ∨ ∃ w, 2 ≤ w ∧ w ≤ 5 ∧ r = .shp i w) s t)
  ∧ (∀ (n : Fin 4096) (s : State), (s.policer n).en = true →
    Gives (exec (.policerRefill n) s) fun t =>
      (t.policer n).pending = false ∧ OnlyWords (fun r => TimeReg r ∨ r = .ten n 3) s t
        ∧ ((s.policer n).next < 2 ^ 64 → (s.policer n).next ≤ t.tim)
        ∧ ((s.policer n).pending = false → (s.policer n).burst < 2 ^ 24 → (s.policer n).add < 2 ^ 24 →
            tokensOf (t.rd (F.ten_POL_TOKENS n))
                = min (tokensOf (s.rd (F.ten_POL_TOKENS n)) + (s.policer n).add) ((s.policer n).burst : Nat)
              ∧ (t.policer n).next = (s.policer n).next + (s.policer n).period)
        ∧ ((s.policer n).pending = true → s.on (F.ten_POL_EN n) = true →
            tokensOf (t.rd (F.ten_POL_TOKENS n))
                = min (tokensOf (s.rd (F.ten_POL_TOKENS n)) + s.rd (F.ten_ADD n)) (s.rd (F.ten_BURST n) : Nat)
              ∧ (t.policer n).next = (s.policer n).next + s.rd (F.ten_PERIOD n))
        ∧ ((s.policer n).pending = true → s.on (F.ten_POL_EN n) = false → (t.policer n).en = false ∧ (t.policer n).next = 0))

/-- Writes of the shaper and tenant windows and of SCH_SMP_RST (04 R118, R121 to R123, R126, R130): a write that would
leave PERIOD out of range while EN is 1 is refused and counted; a write to an enabled shaper is staged and sets PENDING;
one to a disabled shaper acts at once, and enabling fills the bucket. A refill that is due goes before the write. That a
refused write of word 1 of a tenant still writes DG_ACT is the model's choice (log entry 72). -/
def Obligations.ShaperAndTenantWindowWrites : Prop :=
  ∀ (m : Mst) (v : Word) (s : State),
    (∀ w : Fin 2, s.Opens m (0x6080 + 8 * w.val) .write → exec (.shaperWrite m w v) s = .next (s.shpWrite m w v).ended)
    ∧ (∀ w : Fin 5, s.Opens m (0x6140 + 8 * w.val) .write → exec (.tenantWindowWrite m w v) s = .next (s.tenWrite m w v).ended)
    ∧ (s.Opens m 0x6210 .write → exec (.samplerResetQueue m v) s
        = .next (s.setQue (bits v 19 0) fun x => { x with smpReset := true }).ended)
    ∧ (let i := s.selOf m .shp
      let caughtUp := State.shpCatchUp i (refillsDue (s.rd (F.shp_NEXT i)) s.tim 100) s
      (bits v 63 63 = 1 → ¬(100 ≤ bits v 51 32 ∧ bits v 51 32 ≤ 1000000) → s.shpWrite m 0 v = s.count F.schStat_REJECT)
      ∧ (s.shpOn i = false ∨ s.tim < s.rd (F.shp_NEXT i) → caughtUp = s)
      ∧ ∀ (w : Fin 2) (t : State), (w.val = 0 → periodOk (bits v 63 63 == 1) (bits v 51 32) = true) →
          caughtUp.winWrite m 1 w i (.shp i w) v = (t, true) →
          (t.shpOn i = true → s.shpWrite m w v = t.wr (F.shp_PENDING i) 1)
          ∧ (t.shpOn i = false →
              let u := s.shpWrite m w v
              u.get (.shp i 4) = t.get (.shp i 0) ∧ u.get (.shp i 5) = t.get (.shp i 1)
                ∧ (t.on (F.shp_EN i) = true → u.rd (F.shp_TOKENS i) = t.rd (F.shp_BURST i)
                    ∧ u.rd (F.shp_NEXT i) = (t.tim + t.rd (F.shp_PERIOD i)) % 2 ^ 64)))

/-- The scheduler picks only a queue whose next packet costs no more than the deficits of the queue, of its own tenant and
of its own host port, charges the cost at all three levels, and sends that packet (04 R113). The queue at the head of each
list, none of them newly come and each deficit large enough, sends at once; with no eligible queue nothing is sent. -/
def Obligations.DeficitRoundRobin : Prop :=
  (∀ s : State,
    let u := s.schedSync
    (u.sched.l3 = [] → exec .schedulePacket s = .next u.ended)
    ∧ ∀ (p k q : Nat) (x : TxPkt) (lp lk lq : List Nat) (lx : List TxPkt), u.sched.l3 = p :: lp → u.sched.l2.at p [] = k :: lk →
        u.sched.l1.at k [] = q :: lq → (u.pnode p).fresh = false → (u.tnode k).fresh = false → (u.que q).node.fresh = false →
        (u.que q).next = x :: lx → x.pkt.cost ≤ (u.que q).node.deficit → x.pkt.cost ≤ (u.tnode k).deficit →
        x.pkt.cost ≤ (u.pnode p).deficit →
        exec .schedulePacket s = .next ((u.schedCharge q x.pkt.cost).sendNext q).ended)
  ∧ (∀ (s t : State) (q : Nat), State.pickPort (turns s.schedSync.sched.l3) s.schedSync = (t, some q) →
      exec .schedulePacket s = .next ((t.schedCharge q (t.nextCost q)).sendNext q).ended)
  ∧ (∀ (s t : State), State.pickPort (turns s.schedSync.sched.l3) s.schedSync = (t, none) →
      exec .schedulePacket s = .next t.ended)
  ∧ (∀ (n : Nat) (s t : State) (q : Nat), State.pickPort n s.schedSync = (t, some q) →
      t.nextCost q ≤ (t.que q).node.deficit ∧ t.nextCost q ≤ (t.tnode (t.queueNode q)).deficit
        ∧ t.nextCost q ≤ (t.pnode (t.queueNode q / 4096)).deficit)
  ∧ ∀ (s : State) (q cost : Nat),
      ((s.schedCharge q cost).que q).node.deficit = (s.que q).node.deficit - cost
        ∧ ((s.schedCharge q cost).tnode (s.queueNode q)).deficit = (s.tnode (s.queueNode q)).deficit - cost
        ∧ ((s.schedCharge q cost).pnode (s.queueNode q / 4096)).deficit = (s.pnode (s.queueNode q / 4096)).deficit - cost

/-- A sampler period begins PERIOD after the one before, or when that one's batch has ended, which is counted (04 R127,
R131; how long a batch takes is a free value, notes/assumptions/25.md); it visits the next queues of its rotation, and a
visit updates the extremes and the weighted means of depth and delay (R128). That the rotation goes in the order of the
queue numbers and visits no queue twice in one period is the model's choice too (log entry 25). -/
def Obligations.SamplerVisits : Prop :=
  (∀ s : State, s.on F.smpCfg_EN = true → s.halted = false →
    let late := decide (s.metering.smpNext < s.metering.smpEnd)
    let u := (if late then s.count F.schStat_OVERRUN else s).passTo (max s.metering.smpNext s.metering.smpEnd)
    let turn := (u.sampled.filter fun q => decide (u.metering.rot ≤ q)) ++ u.sampled.filter fun q => decide (q < u.metering.rot)
    let batch := turn.take (u.rd F.smpCfg_BATCH + 1)
    let t := batch.foldl (fun t q => t.visitQueue q) u
    exec .samplerPeriod s = .next (({ t with metering := { t.metering with
      rot := match batch.getLast? with | some q => q + 1 | none => u.metering.rot
      smpNext := t.now + 1000 * t.rd F.smpCfg_PERIOD, smpEnd := t.now + (Config.freeWord t.free).toNat } } : State).drawn).ended
      ∧ s.metering.smpNext ≤ u.now ∧ s.metering.smpEnd ≤ u.now
      ∧ (late = true → u.rd F.schStat_OVERRUN = (s.count F.schStat_OVERRUN).rd F.schStat_OVERRUN))
  ∧ ∀ (s : State) (q : Nat), (s.que q).smpReset = false →
      let t := s.visitQueue q
      let depth := s.qDepth q
      let delay := if 0 < depth then min (s.tim - s.rd (F.qctx_HEADSINCE q)) (2 ^ 32 - 1) else 0
      (depth < 2 ^ 21 →
        t.rd (F.qctx_DEPTH_MIN q) = min (s.rd (F.qctx_DEPTH_MIN q)) depth
          ∧ t.rd (F.qctx_DEPTH_MAX q) = max (s.rd (F.qctx_DEPTH_MAX q)) depth
          ∧ t.rd (F.qctx_DEPTH_EWMA q) = ewma (s.rd (F.qctx_DEPTH_EWMA q)) depth (s.rd F.smpCfg_SHIFT) % 2 ^ 29)
        ∧ t.rd (F.qctx_DELAY_MIN q) = min (s.rd (F.qctx_DELAY_MIN q)) delay
        ∧ t.rd (F.qctx_DELAY_MAX q) = max (s.rd (F.qctx_DELAY_MAX q)) delay
        ∧ t.rd (F.qctx_SAMPLES q) = satAdd 32 (s.rd (F.qctx_SAMPLES q)) 1 ∧ t.rd (F.qctx_LASTSAMPLE q) = s.tim
        ∧ t.qState q = s.qState q ∧ t.qDepth q = depth

/-- The meters are captured at each boundary of INTERVAL that TIM_NOW has reached (04 R135), and a captured snapshot is
written whole, one record for itself and one for each tenant, or, for want of slots, not at all and counted (R137); each
GDDR6 sample comes a millisecond after the last, adds every tenant's charged bytes to its meter and changes nothing else of
it (R133, R134). -/
def Obligations.TenantMeters : Prop :=
  (∀ s : State, s.on F.mtrCfg_EN = true → s.halted = false →
    let u := s.meterEdge
    let i := u.rd F.mtrCfg_INTERVAL * 1000000000
    (u.metering.caught ≠ [] → exec .meterSnapshot s = .next u.snapshot.ended)
    ∧ (u.metering.caught = [] →
      exec .meterSnapshot s = .next ((u.passTim ((u.tim / i + 1) * i)).meterEdge.snapshot).ended)
    ∧ ∀ c ∈ u.metering.caught, c ∈ s.metering.caught
        ∨ (∃ k, c.time = k * i ∧ c.time ≤ s.tim) ∧ c.tenants = s.metered ∧ c.meters = s.metering.meters)
  ∧ (∀ (s : State) (c : Caught) (rest : List Caught), s.metering.caught = c :: rest →
      let k := s.rd F.mtrCfg_LOG2SIZE
      c.tenants.length + 1 ≤ 2 ^ k - ringDepth k (s.rd F.mtrPi_PI) (s.rd F.mtrCi_CI) → k ≤ 20 →
      s.snapshot.rd F.mtrPi_PI = (s.rd F.mtrPi_PI + c.tenants.length + 1) % 2 ^ (k + 1) ∧ s.snapshot.metering.caught = rest
        ∧ s.snapshot.metering.skipped = 0 ∧ s.snapshot.rd F.schStat_MTR_SKIP = s.rd F.schStat_MTR_SKIP)
  ∧ (∀ (s : State) (c : Caught) (rest : List Caught), s.metering.caught = c :: rest →
      2 ^ s.rd F.mtrCfg_LOG2SIZE - ringDepth (s.rd F.mtrCfg_LOG2SIZE) (s.rd F.mtrPi_PI) (s.rd F.mtrCi_CI)
        < c.tenants.length + 1 →
      s.snapshot.out = s.out ∧ s.snapshot.rd F.mtrPi_PI = s.rd F.mtrPi_PI
        ∧ s.snapshot.rd F.schStat_MTR_SKIP = satAdd 16 (s.rd F.schStat_MTR_SKIP) 1
        ∧ s.snapshot.metering.skipped = s.metering.skipped + 1)
  ∧ ∀ s : State, Gives (exec .meterGddr6Sample s) fun t => s.metering.g6At + 1000000 ≤ t.now ∧ t.metering.g6At = t.now
      ∧ OnlyWords TimeReg s t
      ∧ ∀ i, i < 4096 → t.metering.meters.at i {} = { s.metering.meters.at i {} with
          g6 := (s.metering.meters.at i {}).g6 + s.chargedBytes i }

/-! ## The instructions of an engine context (05) -/

/-- The encodings of the engine's instructions (05 R143 to R175) spell each instruction in one word of 32 bits, which
decodes to it with every operand, and a word that decodes to an instruction is that instruction's: no two instructions share a
word, and no bit of a word is dropped. -/
def Obligations.DecodingInvertsTheEncodings : Prop :=
  (∀ (i : Instr) (w : Nat), insnWord i = some w → w < 2 ^ 32 ∧ ∃ c src, decodeInsn c src (BitVec.ofNat 32 w) = some i)
  ∧ ∀ (c : CtxNum) (src : Fetched) (w : BitVec 32) (i : Instr), decodeInsn c src w = some i → insnWord i = some w.toNat

/-- The words that the issue of an instruction of context `c` may write: REMAINING and the event counters. -/
def Sys2Proof.Machine.IssueWord (c : Nat) (r : Reg) : Prop := r = .csr c 4 ∨ ∃ b k, r = .cntVal b k ∨ r = .cntCtl b k

/-- The instruction, where it issues, writes `v` to g[d], which g0 discards, moves the pc to the next instruction, and spends one of
REMAINING; no other word and no byte changes. -/
def Sys2Proof.Machine.Computes (i : Instr) (s : State) (c : CtxNum) (d : GReg) (v : Word) : Prop :=
  Reaches i s c fun t =>
    s.gv c 0 = 0 ∧ t.gv c d = (if d.val = 0 then 0 else v) ∧ t.pcOf c = (s.pcOf c + 4) % 2 ^ 32
      ∧ t.rd (F.csr_REMAINING c) = s.rd (F.csr_REMAINING c) - 1
      ∧ OnlyWords (fun r => IssueWord c r ∨ r = .pc c ∨ (r = .g c d ∧ d.val ≠ 0)) s t

/-- The ALU group (05 R146). -/
def Obligations.AluGroupComputes : Prop :=
  ∀ (c : CtxNum) (d a b : GReg) (s : State),
    let x := s.gv c a
    let y := s.gv c b
    Computes (.add c d a b) s c d (x + y) ∧ Computes (.sub c d a b) s c d (x - y)
    ∧ Computes (.and c d a b) s c d (x &&& y) ∧ Computes (.or c d a b) s c d (x ||| y)
    ∧ Computes (.xor c d a b) s c d (x ^^^ y)
    ∧ Computes (.sll c d a b) s c d (x <<< (y.toNat % 64)) ∧ Computes (.srl c d a b) s c d (x >>> (y.toNat % 64))
    ∧ Computes (.sra c d a b) s c d (x.sshiftRight (y.toNat % 64))
    ∧ Computes (.slt c d a b) s c d (if x.toInt < y.toInt then 1 else 0)
    ∧ Computes (.sltu c d a b) s c d (if x.toNat < y.toNat then 1 else 0)
    ∧ Computes (.seq c d a b) s c d (if x = y then 1 else 0) ∧ Computes (.sne c d a b) s c d (if x = y then 0 else 1)
    ∧ Computes (.mul c d a b) s c d (BitVec.ofNat 64 (x.toNat * y.toNat))
    ∧ Computes (.mulh c d a b) s c d ((x.signExtend 128 * y.signExtend 128).extractLsb' 64 64)
    ∧ Computes (.mulhu c d a b) s c d ((x.setWidth 128 * y.setWidth 128).extractLsb' 64 64)
    ∧ Computes (.min c d a b) s c d (if x.toInt ≤ y.toInt then x else y)
    ∧ Computes (.max c d a b) s c d (if x.toInt ≤ y.toInt then y else x)
    ∧ Computes (.minu c d a b) s c d (if x.toNat ≤ y.toNat then x else y)
    ∧ Computes (.maxu c d a b) s c d (if x.toNat ≤ y.toNat then y else x)
    ∧ (∃ n, n ≤ 64 ∧ (∀ i, i < n → x.getLsbD (63 - i) = false) ∧ (n < 64 → x.getLsbD (63 - n) = true)
        ∧ Computes (.clz c d a) s c d (BitVec.ofNat 64 n))
    ∧ (∃ n, n ≤ 64 ∧ (∀ i, i < n → x.getLsbD i = false) ∧ (n < 64 → x.getLsbD n = true)
        ∧ Computes (.ctz c d a) s c d (BitVec.ofNat 64 n))
    ∧ Computes (.popc c d a) s c d (BitVec.ofNat 64 ((List.range 64).countP fun i => x.getLsbD i))

/-- The immediate and bit-field instructions (05 R145, R147): a field that would pass bit 63 traps ILLEGAL. -/
def Obligations.ImmediateAndBitFieldInstructions : Prop :=
  ∀ (c : CtxNum) (d a : GReg) (s : State),
    let x := s.gv c a
    (∀ imm : BitVec 16,
      Computes (.addi c d a imm) s c d (x + imm.signExtend 64) ∧ Computes (.andi c d a imm) s c d (x &&& imm.signExtend 64)
      ∧ Computes (.ori c d a imm) s c d (x ||| imm.signExtend 64) ∧ Computes (.xori c d a imm) s c d (x ^^^ imm.signExtend 64)
      ∧ Computes (.slti c d a imm) s c d (if x.toInt < (imm.signExtend 64).toInt then 1 else 0)
      ∧ Computes (.sltiu c d a imm) s c d (if x.toNat < (imm.signExtend 64).toNat then 1 else 0)
      ∧ Computes (.lsi c d a imm) s c d (BitVec.ofNat 64 (x.toNat * 65536 + imm.toNat)))
    ∧ (∀ sh : BitVec 6,
      Computes (.slli c d a sh) s c d (x <<< sh.toNat) ∧ Computes (.srli c d a sh) s c d (x >>> sh.toNat)
      ∧ Computes (.srai c d a sh) s c d (x.sshiftRight sh.toNat))
    ∧ ∀ pos len1 : BitVec 6,
      (pos.toNat + len1.toNat < 64 →
        (∃ v : Word, (∀ i, i < 64 → v.getLsbD i = (decide (i ≤ len1.toNat) && x.getLsbD (pos.toNat + i)))
          ∧ Computes (.bfxU c d a pos len1) s c d v)
        ∧ (∃ v : Word, (∀ i, i < 64 → v.getLsbD i = x.getLsbD (pos.toNat + Nat.min i len1.toNat))
          ∧ Computes (.bfxS c d a pos len1) s c d v)
        ∧ (∃ v : Word, (∀ i, i < 64 → v.getLsbD i
              = if pos.toNat ≤ i ∧ i ≤ pos.toNat + len1.toNat then x.getLsbD (i - pos.toNat) else (s.gv c d).getLsbD i)
          ∧ Computes (.bfi c d a pos len1) s c d v))
      ∧ (64 ≤ pos.toNat + len1.toNat →
        Does (.bfxU c d a pos len1) s c ((s.issued c).trap c 1 (encI 0x0C d a (pos.toNat * 64 + len1.toNat))).ended
          ∧ Does (.bfxS c d a pos len1) s c ((s.issued c).trap c 1 (encI 0x0D d a (pos.toNat * 64 + len1.toNat))).ended
          ∧ Does (.bfi c d a pos len1) s c ((s.issued c).trap c 1 (encI 0x0E d a (pos.toNat * 64 + len1.toNat))).ended)

/-- The rule of a load of `n` bytes (05 R145, R148, R149): from the palette, or from the engine's copy of a coherent
line, for which the context waits where there is none; a misaligned address, an address outside the map, an uncorrectable
palette word and a poisoned line trap, and so does an access that the gate or the sandbox denies (ACCESS). A word or line with an
error is first corrected or poisoned (13 R453, 16 R511). That a misaligned address traps MISALIGNED whatever else it meets is the
model's choice (log entry 65). -/
def Sys2Proof.Machine.LoadRule (i : CtxNum → GReg → GReg → BitVec 16 → Instr) (n : Nat) (f : Nat → Word) : Prop :=
  ∀ (c : CtxNum) (d a : GReg) (imm : BitVec 16) (s : State),
    let ad := (s.gv c a + imm.signExtend 64).toNat
    let u := s.issued c
    let e := ctxEng c
    (ad % n ≠ 0 → Does (i c d a imm) s c (u.trap c 3 ad).ended)
    ∧ (ad % n = 0 →
      (∀ key, s.engAddr c ad n .read = .pal key →
        let v := f (ofBytes (s.pal.readBytes key n))
        (s.palBad key n = false → s.palFlawed key n = false → Computes (i c d a imm) s c d v)
        ∧ (s.palBad key n = false → s.palFlawed key n = true → Does (i c d a imm) s c ((u.palCheck key n).res c d v).ended)
        ∧ (s.palBad key n = true → Does (i c d a imm) s c
            ((((u.palFound key n (some c)).raise (Src.PAL_UNCORR (ctxIsl c)) (ctxArg c)).trap c 9 ad)).ended))
      ∧ (∀ off, s.engAddr c ad n .read = .dev off → s.l1Flawed e (off / 64) = false →
        (s.l1Find e (off / 64) = none → Does (i c d a imm) s c (s.missStall c (off / 64) false))
        ∧ ∀ w, s.l1Find e (off / 64) = some w →
          (w.poison = false → Computes (i c d a imm) s c d (f (ofBytes ((w.data.drop (off % 64)).take n))))
          ∧ (w.poison = true → Does (i c d a imm) s c (u.trap c 9 ad).ended))
      ∧ (∀ off, s.engAddr c ad n .read = .dev off → s.l1Flawed e (off / 64) = true →
        let v := u.l1Check e (off / 64)
        (v.l1Find e (off / 64) = none →
          Does (i c d a imm) s c ((s.l1Check e (off / 64)).missStall c (off / 64) false).ended)
        ∧ ∀ w, v.l1Find e (off / 64) = some w →
          (w.poison = false → Does (i c d a imm) s c
            ((v.l1Update e w).res c d (f (ofBytes ((w.data.drop (off % 64)).take n)))).ended)
          ∧ (w.poison = true → Does (i c d a imm) s c (v.trap c 9 ad).ended))
      ∧ (s.engAddr c ad n .read = .bad → Does (i c d a imm) s c ((s.issued c).trap c 4 ad).ended)
      ∧ (∀ off, s.engAddr c ad n .read = .denied (some off) →
          Does (i c d a imm) s c ((u.gateDeny (ctxMst c) off .read).trap c 5 ad).ended)
      ∧ (s.engAddr c ad n .read = .denied none → Does (i c d a imm) s c (u.trap c 5 ad).ended))

/-- The loads (05 R145): what they answer, and their traps MISALIGNED, ADDRESS, ACCESS and MEMORY (R148, R149); that MISALIGNED
comes first is the model's choice (log entry 65). -/
def Obligations.LoadsReadAndExtend : Prop :=
  LoadRule .ldB 1 (fun v => (BitVec.ofNat 8 v).signExtend 64) ∧ LoadRule .ldBu 1 (BitVec.ofNat 64)
    ∧ LoadRule .ldH 2 (fun v => (BitVec.ofNat 16 v).signExtend 64) ∧ LoadRule .ldHu 2 (BitVec.ofNat 64)
    ∧ LoadRule .ldW 4 (fun v => (BitVec.ofNat 32 v).signExtend 64) ∧ LoadRule .ldWu 4 (BitVec.ofNat 64)
    ∧ LoadRule .ldD 8 (BitVec.ofNat 64)

/-- The rule of a store of the low `n` bytes of g[d]: a palette store writes exactly the `n` bytes from the palette key
of its address, a coherent store the engine's own copy of the line. MISALIGNED comes first (log entry 65). -/
def Sys2Proof.Machine.StoreRule (i : CtxNum → GReg → GReg → BitVec 16 → Instr) (n : Nat) : Prop :=
  ∀ (c : CtxNum) (d a : GReg) (imm : BitVec 16) (s : State),
    let ad := (s.gv c a + imm.signExtend 64).toNat
    let x := s.gv c d
    (ad % n ≠ 0 → Does (i c d a imm) s c ((s.issued c).trap c 3 ad).ended)
    ∧ (ad % n = 0 →
      (∀ key, s.engAddr c ad n .write = .pal key → Reaches (i c d a imm) s c fun t =>
        (∀ k, k < n → t.pal.read (key + k) = x.extractLsb' (8 * k) 8)
          ∧ (∀ b, ¬(key ≤ b ∧ b < key + n) → t.pal.read b = s.pal.read b) ∧ (∀ b, t.mem.read b = s.mem.read b)
          ∧ t.pcOf c = (s.pcOf c + 4) % 2 ^ 32 ∧ ∀ r, ¬(IssueWord c r ∨ r = .pc c) → t.get r = s.get r)
      ∧ (∀ off, s.engAddr c ad n .write = .dev off →
        let e := ctxEng c
        let u := s.issued c
        let put (v : State) (w : L1Line) : State :=
          (v.l1Update e { w with st := .m, data := splice w.data (off % 64) (bytesOf n x.toNat) }).adv c
        (s.l1Flawed e (off / 64) = false →
          (s.l1Owned e (off / 64) = none → Does (i c d a imm) s c (s.missStall c (off / 64) true))
          ∧ ∀ w, s.l1Owned e (off / 64) = some w → Does (i c d a imm) s c (put u w)
            ∧ OnlyWords (fun r => IssueWord c r ∨ r = .pc c) s (put u w))
        ∧ (s.l1Flawed e (off / 64) = true →
          let v := u.l1Check e (off / 64)
          (v.l1Owned e (off / 64) = none →
            Does (i c d a imm) s c ((s.l1Check e (off / 64)).missStall c (off / 64) true).ended)
          ∧ ∀ w, v.l1Owned e (off / 64) = some w → Does (i c d a imm) s c (put v w).ended))
      ∧ (s.engAddr c ad n .write = .bad → Does (i c d a imm) s c ((s.issued c).trap c 4 ad).ended)
      ∧ (∀ off, s.engAddr c ad n .write = .denied (some off) →
          Does (i c d a imm) s c (((s.issued c).gateDeny (ctxMst c) off .write).trap c 5 ad).ended)
      ∧ (s.engAddr c ad n .write = .denied none → Does (i c d a imm) s c ((s.issued c).trap c 5 ad).ended))

/-- The stores (05 R145): the bytes they write, and their traps MISALIGNED, ADDRESS and ACCESS (R148, R149); that MISALIGNED comes
first is the model's choice (log entry 65). -/
def Obligations.StoresWriteTheirBytes : Prop :=
  StoreRule .stB 1 ∧ StoreRule .stH 2 ∧ StoreRule .stW 4 ∧ StoreRule .stD 8

/-- The instruction, where it issues, moves the pc to `pc`; no general register but g[d] changes. -/
def Sys2Proof.Machine.Jumps (i : Instr) (s : State) (c : CtxNum) (pc : Nat) (link : Option GReg) : Prop :=
  Reaches i s c fun t => t.pcOf c = pc
    ∧ OnlyWords (fun r => IssueWord c r ∨ r = .pc c ∨ ∃ d : GReg, link = some d ∧ d.val ≠ 0 ∧ r = .g c d) s t
    ∧ ∀ d : GReg, link = some d → t.gv c d = if d.val = 0 then 0 else BitVec.ofNat 64 (s.pcOf c + 4)

/-- Branches, jumps and fences (05 R145, R152): offsets count words from the instruction itself; jalr forms its target
before it writes the link. -/
def Obligations.BranchesJumpsAndFences : Prop :=
  ∀ (c : CtxNum) (s : State),
    let target (off : Int) : Nat := (((s.pcOf c : Int) + 4 * off) % 2 ^ 32).toNat
    let next : Nat := (s.pcOf c + 4) % 2 ^ 32
    (∀ (a b : GReg) (off : BitVec 16),
      let x := s.gv c a
      let y := s.gv c b
      Jumps (.beq c a b off) s c (if x = y then target off.toInt else next) none
      ∧ Jumps (.bne c a b off) s c (if x ≠ y then target off.toInt else next) none
      ∧ Jumps (.blt c a b off) s c (if x.toInt < y.toInt then target off.toInt else next) none
      ∧ Jumps (.bge c a b off) s c (if y.toInt ≤ x.toInt then target off.toInt else next) none
      ∧ Jumps (.bltu c a b off) s c (if x.toNat < y.toNat then target off.toInt else next) none
      ∧ Jumps (.bgeu c a b off) s c (if y.toNat ≤ x.toNat then target off.toInt else next) none)
    ∧ (∀ (d : GReg) (off : BitVec 21), Jumps (.jal c d off) s c (target off.toInt) (some d))
    ∧ (∀ (d a : GReg) (imm : BitVec 16),
      Jumps (.jalr c d a imm) s c ((s.gv c a + imm.signExtend 64).toNat % 2 ^ 32 / 4 * 4) (some d))
    ∧ Jumps (.fenceR c) s c next none ∧ Jumps (.fenceW c) s c next none ∧ Jumps (.fenceAll c) s c next none

/-- The atomics on a coherent line that the engine owns (05 R153): g[d] takes the old value and the line the new one; a
palette address traps ADDRESS, a misaligned one MISALIGNED, a denied one ACCESS (R149), a poisoned line MEMORY. A line with an
error is first corrected or poisoned (13 R453). That MISALIGNED comes first, of a palette address too, is the model's choice
(log entry 65). -/
def Obligations.AtomicsReturnTheOldValue : Prop :=
  ∀ (c : CtxNum) (d a b : GReg) (s : State),
    let ad := (s.gv c a).toNat
    let y := s.gv c b
    let rule (i : Instr) (f : Word → Word) : Prop :=
      (ad % 8 ≠ 0 → Does i s c ((s.issued c).trap c 3 ad).ended)
      ∧ (ad % 8 = 0 → ad < 65536 → Does i s c ((s.issued c).trap c 4 ad).ended)
      ∧ (ad % 8 = 0 → 65536 ≤ ad → ∀ off, s.engAddr c ad 8 .atomic = .dev off →
          let e := ctxEng c
          let u := s.issued c
          let old (w : L1Line) : Word := wordOfBytes (w.data.drop (off % 64))
          let put (v : State) (w : L1Line) : State :=
            (v.l1Update e { w with st := .m, data := splice w.data (off % 64) (bytesOf 8 (f (old w)).toNat) }).res c d (old w)
          (s.l1Flawed e (off / 64) = false →
            (s.l1Owned e (off / 64) = none → Does i s c (s.missStall c (off / 64) true))
            ∧ ∀ w, s.l1Owned e (off / 64) = some w →
              (w.poison = false → Does i s c (put u w) ∧ Computes i s c d (old w))
              ∧ (w.poison = true → Does i s c (u.trap c 9 ad).ended))
          ∧ (s.l1Flawed e (off / 64) = true →
            let v := u.l1Check e (off / 64)
            (v.l1Owned e (off / 64) = none →
              Does i s c ((s.l1Check e (off / 64)).missStall c (off / 64) true).ended)
            ∧ ∀ w, v.l1Owned e (off / 64) = some w →
              (w.poison = false → Does i s c (put v w).ended) ∧ (w.poison = true → Does i s c (v.trap c 9 ad).ended)))
      ∧ (ad % 8 = 0 → 65536 ≤ ad →
          (∀ off, s.engAddr c ad 8 .atomic = .denied (some off) →
            Does i s c (((s.issued c).gateDeny (ctxMst c) off .atomic).trap c 5 ad).ended)
          ∧ (s.engAddr c ad 8 .atomic = .denied none → Does i s c ((s.issued c).trap c 5 ad).ended)
          ∧ (s.engAddr c ad 8 .atomic = .bad → Does i s c ((s.issued c).trap c 4 ad).ended))
    rule (.amoAdd c d a b) (fun old => old + y) ∧ rule (.amoSwap c d a b) (fun _ => y)
      ∧ rule (.amoCas c d a b) (fun old => if old = s.gv c d then y else old)
      ∧ rule (.amoAnd c d a b) (fun old => old &&& y) ∧ rule (.amoOr c d a b) (fun old => old ||| y)

/-- The lock group (05 R154): a number above 4,095 gives BADARG and no other effect; a free semaphore that nothing else
claims is acquired by the context's identity; lock.acq on a held one stalls the context with its claim; a release by
the owner frees it. -/
def Obligations.LockGroup : Prop :=
  ∀ (c : CtxNum) (d a : GReg) (s : State),
    let x := (s.gv c a).toNat
    let m := ctxMst c
    (4096 ≤ x → Computes (.lockAcq c d a) s c d 5 ∧ Computes (.lockTry c d a) s c d 5 ∧ Computes (.lockRel c d a) s c d 5)
    ∧ (x < 4096 → (∀ i ∈ [Instr.lockAcq c d a, Instr.lockTry c d a],
        s.gateOk m (regGateAddr ((if i = .lockAcq c d a then 0x40000 else 0x48000) + 8 * x)) 8 .read = true →
        (s.semHeld x = false → s.semClaims x = [] → Reaches i s c fun t =>
          t.semOwns x m = true ∧ t.rd (F.sem_ABANDONED x) = 0 ∧ t.pcOf c = (s.pcOf c + 4) % 2 ^ 32
            ∧ (d.val ≠ 0 → t.gv c d = if s.on (F.sem_ABANDONED x) then 2 else 0)
            ∧ OnlyWords (fun r => IssueWord c r ∨ r = .pc c ∨ r = .g c d ∨ r = .sem x) s t)
        ∧ (s.semOwns x m = true → Computes i s c d 4)))
    ∧ (x < 4096 → s.gateOk m (regGateAddr (0x48000 + 8 * x)) 8 .read = true → s.semHeld x = true → s.semOwns x m = false →
        Computes (.lockTry c d a) s c d 1)
    ∧ (x < 4096 → s.gateOk m (regGateAddr (0x40000 + 8 * x)) 8 .read = true → s.semHeld x = true → s.semOwns x m = false →
        Reaches (.lockAcq c d a) s c fun t => (t.ctx c).stall = .lock x d
          ∧ t.semClaims x = s.semClaims x ++ [{ m := m, since := s.now, lock := true }] ∧ t.pcOf c = s.pcOf c)
    ∧ (x < 4096 → s.gateOk m (regGateAddr (0x50000 + 8 * x)) 8 .write = true → s.semOwns x m = true →
        s.Issues c (insnWord (.lockRel c d a)) → Gives (exec (.lockRel c d a) s) fun t => t.semHeld x = false ∧ (d.val ≠ 0 → t.gv c d = 0)
          ∧ t.pcOf c = (s.pcOf c + 4) % 2 ^ 32)

/-- A trap (05 R158) outside the error handler saves the pc, the cause and the value, sets TRAPPED, allows 256
instructions and enters the error handler; inside it, the context halts. REMAINING 0 traps BUDGET, a pc outside the code,
or a word that the sketch store does not give, FETCH (R157, R159); trap traps TRAP, an undefined word ILLEGAL (R143). Any
instruction runs once its engine's sketch cache has filled with the block of its pc. -/
def Obligations.TrapsEnterTheErrorHandler : Prop :=
  (∀ (c : CtxNum) (code value h : Nat) (s : State), s.on (F.csr_TRAPPED c) = false → s.handlerOf c 20 = some h →
    let t := s.trap c code value
    t.rd (F.csr_EPC c) = s.pcOf c ∧ t.rd (F.csr_VALUE c) = value % 2 ^ 48 ∧ t.rd (F.csr_CODE c) = code % 256
      ∧ t.rd (F.csr_TRAPPED c) = 1 ∧ t.rd (F.csr_REMAINING c) = 256 ∧ t.pcOf c = 4 * h % 2 ^ 32
      ∧ OnlyWords (fun r => r = .pc c ∨ ∃ w, w ≤ 4 ∧ r = .csr c w) s t)
  ∧ (∀ (c : CtxNum) (code value : Nat) (s : State), s.on (F.csr_TRAPPED c) = true →
      s.trap c code value = (s.tagTrap c code).ctxHalt c (Src.CTX_DOUBLE_TRAP (ctxIsl c)))
  ∧ (∀ (c : CtxNum) (imm : BitVec 16) (s : State), Does (.trap c imm) s c ((s.issued c).trap c 8 imm.toNat).ended)
  ∧ (∀ (c : CtxNum) (w : BitVec 32) (s : State), decodeInsn c (.failed []) w = none → s.Issues c (some w.toNat) →
      exec (.illegalInstruction c w) s = .next ((s.issued c).trap c 1 w.toNat).ended)
  ∧ (∀ (c : CtxNum) (src : Fetched), decodeInsn c src 0 = none
      ∧ ∀ w : BitVec 32, w.toNat / 2 ^ 26 = 0x3F → decodeInsn c src w = none)
  ∧ (∀ (c : CtxNum) (d a b : GReg) (s : State), s.ctxRuns c = true → (s.ctx c).parity = false → (s.eng (ctxEng c)).codeEcc = [] →
      let i := Instr.add c d a b
      let t := s.codeFill c
      (t.codeWord c = none ∨ t.codeWord c = insnWord i → t.rd (F.csr_REMAINING c) = 0 → t.on (F.csr_TRAPPED c) = false →
        exec i s = .next ((t.tally (ctxIsl c) 0x04).trap c 7 (t.rd (F.csr_LIMIT c))).ended)
      ∧ (t.codeWord c = none → t.rd (F.csr_REMAINING c) ≠ 0 → exec i s = .next ((t.issued c).trap c 6 (t.pcOf c)).ended))
  ∧ ∀ (c : CtxNum) (w : Nat) (f : State → State → Out) (s : State), s.ctxRuns c = true → (s.eng (ctxEng c)).codeEcc = [] →
      let t := s.codeFill c
      (t.codeWord c = some w → ((s.ctx c).parity = false → t.rd (F.csr_REMAINING c) ≠ 0 → s.insnAt (some w) c f = f t (t.issued c))
        ∧ ((s.ctx c).parity = true → s.insnAt (some w) c f = .next (((t.setCtx c fun x => { x with parity := false }).engError
            (ctxEng c) 2).raise (Src.ENG_RF_PARITY (ctxIsl c)) (ctxArg c)).ended))
      ∧ (s.pcOk c = false → t = s ∧ t.codeWord c = none)
      ∧ (∀ v, s.codeWord c = some v → t = s)

/-- The event group, halt, and the header window (05 R142, R155, R156): wait suspends the context with its mask, a zero
mask traps ILLEGAL; done ends the activation; halt needs Firmware privilege. -/
def Obligations.EventGroupHaltAndWindow : Prop :=
  ∀ (c : CtxNum) (s : State),
    (∀ d a : GReg,
      ((s.gv c a).toNat % 65536 ≠ 0 → Reaches (.wait c d a) s c fun t =>
        t.ctxState c = 2 ∧ (t.ctx c).waitMask = some ((s.gv c a).toNat % 65536, d.val) ∧ t.pcOf c = (s.pcOf c + 4) % 2 ^ 32
          ∧ OnlyWords (fun r => IssueWord c r ∨ r = .pc c ∨ r = .ctxCfg c) s t)
      ∧ ((s.gv c a).toNat % 65536 = 0 →
        Does (.wait c d a) s c ((s.issued c).trap c 1 (encA 0x2B d a 0 0)).ended))
    ∧ (Reaches (.yield c) s c fun t => t.pcOf c = (s.pcOf c + 4) % 2 ^ 32
        ∧ OnlyWords (fun r => IssueWord c r ∨ r = .pc c) s t
        ∧ let others := ((List.range 8).map (8 * (c.val / 8) + ·)).filter fun k => k ≠ c.val && (s.issued c).ctxReady k
          (t.ctx c).stall = if others.isEmpty then .none else .yielded others)
    ∧ Does (.done c) s c ((s.issued c).activationEnd c).ended
    ∧ (s.ctxLevel c = 3 → Does (.halt c) s c ((s.issued c).ctxHalt c (Src.CTX_HALTED (ctxIsl c))).ended)
    ∧ (s.ctxLevel c ≠ 3 → Does (.halt c) s c ((s.issued c).trap c 2 0xB4000000).ended)
    ∧ (∀ (d : GReg) (i : Fin 16), Computes (.hld c d i) s c d (s.get (.h c i)))
    ∧ (∀ (a : GReg) (i : Fin 8), Reaches (.hst c a i) s c fun t =>
        t.get (.h c i) = s.gv c a ∧ t.pcOf c = (s.pcOf c + 4) % 2 ^ 32
          ∧ OnlyWords (fun r => IssueWord c r ∨ r = .pc c ∨ r = .h c i) s t)
    ∧ ((s.issued c).activationEnd c).ctxState c = 0 ∧ ((s.issued c).activationEnd c).rd (F.csr_TRAPPED c) = 0

/-- csr.rd and csr.wr (05 R160, R161): an undefined number traps ILLEGAL, a write below the Write column PRIVILEGE; the
evmask is any context's own; EPC, LIMIT and TRAPPED need Provider privilege, and a LIMIT of 0 is not taken. -/
def Obligations.ControlRegisterAccess : Prop :=
  ∀ (c : CtxNum) (s : State),
    (∀ (d : GReg) (n : BitVec 8),
      (5 < n.toNat → Does (.csrRd c d n) s c ((s.issued c).trap c 1 (encI 0x2E d 0 n.toNat)).ended)
      ∧ (n.toNat = 1 ∨ n.toNat = 2 ∨ n.toNat = 3 → Computes (.csrRd c d n) s c d (s.get (.csr c n.toNat)))
      ∧ (n.toNat = 5 → Computes (.csrRd c d n) s c d (BitVec.ofNat 64 (s.ctxLevel c)))
      ∧ (n.toNat = 0 ∨ n.toNat = 4 → Computes (.csrRd c d n) s c d ((s.issued c).csrRead c n.toNat)))
    ∧ ∀ (a : GReg) (n : BitVec 8),
      let x := s.gv c a
      let done (p : State → Prop) : Prop := Reaches (.csrWr c a n) s c fun t => t.pcOf c = (s.pcOf c + 4) % 2 ^ 32 ∧ p t
        ∧ OnlyWords (fun r => IssueWord c r ∨ r = .pc c ∨ r = .csr c n.toNat) s t
      (5 < n.toNat → Does (.csrWr c a n) s c ((s.issued c).trap c 1 (encI 0x2F 0 a n.toNat)).ended)
      ∧ (n.toNat = 1 ∨ n.toNat = 5 ∨ (s.ctxLevel c < 2 ∧ (n.toNat = 0 ∨ n.toNat = 2 ∨ n.toNat = 4)) →
          Does (.csrWr c a n) s c ((s.issued c).trap c 2 (encI 0x2F 0 a n.toNat)).ended)
      ∧ (n.toNat = 3 → done fun t => t.rd (F.csr_MASK c) = bits x 15 0)
      ∧ (2 ≤ s.ctxLevel c →
          (n.toNat = 0 → done fun t => t.rd (F.csr_TRAPPED c) = if bits x 0 0 = 1 then 0 else s.rd (F.csr_TRAPPED c))
          ∧ (n.toNat = 2 → done fun t => t.rd (F.csr_EPC c) = bits x 31 0)
          ∧ (n.toNat = 4 → done fun t => t.rd (F.csr_LIMIT c) = if bits x 47 32 = 0 then s.rd (F.csr_LIMIT c) else bits x 47 32))

/-! ## Unit operations (05 R162 to R175) -/

/-- The operation, where it issues, answers `value` and OK in g[d] from the state `u`, and the pc moves on. -/
def Sys2Proof.Machine.UnitOk (i : Instr) (s u : State) (c : CtxNum) (d : GReg) (value : Nat) : Prop :=
  Does i s c (u.res c d (unitWord value 0)).ended

/-- The brush unit (05 R164 to R166). A copy or fill whose descriptor and ends are allowed is accepted while fewer than
16 brushes are outstanding, and a 17th stalls the context; drain answers the failures once every brush has ended; a brush that ends
whole writes what its source holds then, and posts its event when EV is set; one that fails writes what it had moved, none
where its source was uncorrectable, and counts and posts its failure. How many bytes a failing brush has written, and BADARG
for reserved bits of its descriptor, are the model's choice (log entry 73). -/
def Obligations.BrushUnit : Prop :=
  (∀ (c : CtxNum) (d a b : GReg) (s : State),
     let u := s.issued c
     (∀ key (u1 u2 : State), u.Finds c (s.gv c a).toNat 32 key →
       let w := u.palWord key 2
       let len := brLen w
       let br (fill : Option Word) : Brush :=
         { id := u2.nextId, fill := fill, src := (u.palWord key 0).toNat, dst := (u.palWord key 1).toNat, desc := w
           tag := u2.palWord key 3 }
       let started (fill : Option Word) : State :=
         (u2.setCtx c fun x => { x with brushes := x.brushes ++ [br fill] }).takeId
       brRes w = 0 → len ≤ 16777216 → brDstSp w ≠ 3 →
       (brSrcSp w ≤ 3 → u.brushEndOk c (brSrcSp w) (u.palWord key 0).toNat len (brFunc w) .read = (u1, 0) →
         u1.brushEndOk c (brDstSp w) (u.palWord key 1).toNat len (brFunc w) .write = (u2, 0) →
         ((u2.ctx c).brushes.length < 16 → UnitOk (.brushCopy c d a b) s (started none) c d 0)
         ∧ (16 ≤ (u2.ctx c).brushes.length →
           Does (.brushCopy c d a b) s c (s.setCtx c fun x => { x with stall := .brushes })))
       ∧ (len % 8 = 0 → u.brushEndOk c (brDstSp w) (u.palWord key 1).toNat len (brFunc w) .write = (u2, 0) →
         ((u2.ctx c).brushes.length < 16 → UnitOk (.brushFill c d a b) s (started (some (s.gv c b))) c d 0)
         ∧ (16 ≤ (u2.ctx c).brushes.length →
           Does (.brushFill c d a b) s c (s.setCtx c fun x => { x with stall := .brushes }))))
     ∧ ((s.ctx c).brushes.all (·.quiet) = true → Reaches (.brushDrain c d a b) s c fun t =>
         (d.val ≠ 0 → t.gv c d = unitWord (s.ctx c).failed 0) ∧ (t.ctx c).failed = 0 ∧ t.pcOf c = (s.pcOf c + 4) % 2 ^ 32
           ∧ OnlyWords (fun r => IssueWord c r ∨ r = .pc c ∨ r = .g c d) s t)
     ∧ ((s.ctx c).brushes.all (·.quiet) = false →
         Does (.brushDrain c d a b) s c (u.setCtx c fun x => { x with stall := .drain d })))
  ∧ (∀ (c : CtxNum) (id : Nat) (host : List Byte) (b : Brush) (s s1 : State) (bs : List Byte),
       ((s.ctx c).brushes.find? (·.id == id)) = some b → b.ending (.done host) = .done host → b.quiet = false →
       (s.setCtx c fun x => { x with brushes := x.brushes.filter (·.id ≠ id) }).brushSource c b host = (s1, bs, false) →
       (∀ k, ((s1.brushDest c b bs).ctx c).stall ≠ .drain k) →
       (brEv b.desc = false → exec (.brushFinish c id (.done host)) s = .next (s1.brushDest c b bs).ended)
       ∧ (brEv b.desc = true → ((s1.brushDest c b bs).ctx c).targeted.length < 32 →
         exec (.brushFinish c id (.done host)) s = .next ((s1.brushDest c b bs).postTargeted c
           { entry := 18, cls := 9, arg0 := b.tag, arg1 := 0, arg2 := BitVec.ofNat 64 bs.length }).ended))
  ∧ (∀ (c : CtxNum) (id : Nat) (e : BrushEnd) (b : Brush) (s s1 : State) (bs out : List Byte),
       ((s.ctx c).brushes.find? (·.id == id)) = some b → b.quiet = false →
       let u := (s.setCtx c fun x => { x with brushes := x.brushes.filter (·.id ≠ id) }).brushHost b e
       ((∃ host, b.ending e = .done host ∧ u.brushSource c b host = (s1, bs, true) ∧ out = [])
        ∨ ∃ n host lost, b.ending e = .failed n host ∧ u.brushSource c b host = (s1, bs, lost)
          ∧ out = if lost then [] else bs.take n) →
       let t := (s1.brushDest c b out).setCtx c fun x => { x with failed := x.failed + 1 }
       let ev : Event := if brEv b.desc then { entry := 18, cls := 9, arg0 := b.tag, arg1 := 1, arg2 := BitVec.ofNat 64 out.length }
         else { entry := 20, cls := 11, arg0 := 1, arg1 := b.tag, arg2 := BitVec.ofNat 64 out.length }
       (∀ k, ((t.postTargeted c ev).ctx c).stall ≠ .drain k) →
       exec (.brushFinish c id e) s = .next (t.postTargeted c ev).ended)

/-- The queue unit (05 R167, R168): pop takes the next entry of a work ring under reservation, or of a receive-post ring,
and copies it to the palette, or answers EMPTY, or NORESV where the ring stalls; push posts an event entry; complete ends
one taken entry, and one that ends it MALFORMED counts in MALCOUNT; bell applies a doorbell word, which a queue of another
tenant denies to a User context also where it is DISABLED (06 R204). The model's choices: NORESV on a stalled ring and
behind a completion ring that is not ACTIVE (log entry 45); push to an event ring that is not ACTIVE answers OK (log entry
65); a bell of a DISABLED queue is counted and answered OK (log entry 28). -/
def Obligations.QueueUnit : Prop :=
  ∀ (c : CtxNum) (d a b : GReg) (s : State),
    let u := s.issued c
    let x := (s.gv c a).toNat
    let q := x % 1048576
    let cq := u.rd (F.qctx_CQ q)
    (x < 1048576 → u.qRight c q = true →
      (∀ key src, u.Finds c (s.gv c b).toNat 64 key 0 →
        let pop := Instr.qPop c d a b src
        let idx := u.rd (F.qctx_CI q)
        (u.rd (F.qctx_TYPE q) < 2 → u.qDepth q = 0 → Does pop s c (u.res c d (unitWord 0 1)).ended)
        ∧ (u.rd (F.qctx_TYPE q) = 0 → u.qDepth q ≠ 0 →
          (u.qState q = QS.stalled → Does pop s c (u.res c d (unitWord 0 2)).ended)
          ∧ (u.serves q = true → u.cqActive q = false → Does pop s c ((u.closeOpen q).res c d (unitWord 0 2)).ended)
          ∧ (u.serves q = true → u.cqActive q = true → u.cqRoom q = false →
            Does pop s c ((u.stallRing q).res c d (unitWord 0 2)).ended)
          ∧ (u.serves q = true → u.cqActive q = true → u.cqRoom q = true → ∀ w e, u.ringEntry q src = (w, some e) →
            let v := (w.reserve (w.rd (F.qctx_CQ q))).advanceCi q
            v.malReason q e none = none → UnitOk pop s ((v.popTaken q idx e true).palWrite key e.toByteList) c d idx))
        ∧ (u.rd (F.qctx_TYPE q) = 1 → u.qDepth q ≠ 0 → u.serves q = true → u.postFree (u.rd (F.qctx_MCTX q)) = true →
          ∀ w e, u.ringEntry q src = (w, some e) → recvReason e = none →
          UnitOk pop s (((w.advanceCi q).popTaken q idx e false).palWrite key e.toByteList) c d idx))
      ∧ (∀ key, u.Finds c (s.gv c b).toNat 32 key → u.rd (F.qctx_TYPE q) = 3 →
        (u.qState q = QS.active → u.qDepth q = 2 ^ u.qLog q →
          Does (.qPush c d a b) s c ((u.count (F.qctx_EVLOST q)).res c d (unitWord 0 4)).ended)
        ∧ (¬(u.qState q = QS.active ∧ u.qDepth q = 2 ^ u.qLog q) →
          UnitOk (.qPush c d a b) s (u.postEntry q
            ⟨u.palWord key 0, u.palWord key 1, u.palWord key 2, setBits (u.palWord key 3) 63 63 0⟩) c d 0))
      ∧ (∀ key t, u.Finds c (s.gv c b).toNat 24 key →
        bits (u.palWord key 0) 47 21 = 0 → bits (u.palWord key 2) 63 52 = 0 →
        ((u.que q).taken.find? fun t => t.idx == bits (u.palWord key 0) 20 0 && t.res.isNone) = some t →
        let r : Result :=
          { status := bits (u.palWord key 0) 63 56, reason := bits (u.palWord key 0) 55 48, result := u.palWord key 1
            peer := bits (u.palWord key 2) 51 32, bytes := bits (u.palWord key 2) 31 0 }
        let v := (u.setQue q fun v => { v with taken := v.taken.filter (·.id ≠ t.id) }).reserve cq
        (∀ y : State, (r.status = ST.malformed → t.stale = false →
            y.malCount q t r = (y.count (F.qctx_MALCOUNT q)).wr (F.qctx_LASTREASON q) r.reason)
          ∧ (r.status ≠ ST.malformed ∨ t.stale = true → y.malCount q t r = y)) ∧
        let sol := t.entry.get W.solicit == 1 || r.status != 0
        (u.rd (F.qctx_TYPE q) ≠ 1 → UnitOk (.qComplete c d a b) s ((u.malCount q t r).finishEntry q t.id r) c d 0)
        ∧ (u.rd (F.qctx_TYPE q) = 1 → t.slot = false → t.stale = false → u.cqActive q = true → u.cqRoom q = true →
          UnitOk (.qComplete c d a b) s ((v.malCount q t r).complete (v.rd (F.qctx_CQ q)) 1 (workCompletion q 1 t r sol) sol) c d 0)))
    ∧ (let bq := bits (s.gv c a) 19 0
      bits (s.gv c a) 63 41 = 0 → (2 ≤ bq ∨ 3 ≤ u.priv (ctxMst c)) →
        (u.qRight c bq = true →
          (u.qState bq ≠ QS.disabled → UnitOk (.qBell c d a) s (u.bell bq (bits (s.gv c a) 40 20)).1 c d 0)
          ∧ (u.qState bq = QS.disabled →
            UnitOk (.qBell c d a) s (u.dbRefused (ctxIsl c / 4) (ctxMst c).toNat) c d 0))
        ∧ (u.qRight c bq = false → Does (.qBell c d a) s c
          ((u.raise (Src.ENG_DENIED (ctxIsl c)) (ctxArg c)).res c d (unitWord 0 3)).ended))
    ∧ (∀ n, u.qRight c n = (!u.isUser c || u.rd (F.qctx_TENANT n) == u.rd (F.ctxCfg_TENANT c)))

/-- The packet unit (05 R169, R170): build sets the outbound header from the window and copies its payload; send empties
the buffer into the fabric and fwd sends the inbound packet under the window's header, and both stall their context until
the switch has reserved room for the packet and return OK then; drop counts its reason; send on an empty buffer and fwd
or drop without a packet, and fwd of a LATE event, answer BADARG. The trailer or CRC that fwd sends is the model's choice
(log entry 44), and so is the cut of send to LEN bytes (log entry 65). -/
def Obligations.PacketUnit : Prop :=
  ∀ (c : CtxNum) (d a b : GReg) (s : State),
    let u := s.issued c
    let h := u.window c
    let id := u.nextId
    (∀ key, h.get H.len ≤ 2048 → s.gv c a ≠ BitVec.allOnes 64 → u.Finds c (s.gv c a).toNat (h.get H.len) key →
      UnitOk (.pktBuild c d a b) s (u.setCtx c fun y => { y with
        outPkt := some { hdr := h, payload := u.palRead key (h.get H.len), trailer := [] } }) c d 0)
    ∧ (h.get H.len ≤ 2048 → s.gv c a = BitVec.allOnes 64 → ∃ p : Packet, p.hdr = h ∧ p.payload.length = h.get H.len ∧
        UnitOk (.pktBuild c d a b) s ((u.setCtx c fun y => { y with outPkt := some p }).drawn) c d 0)
    ∧ (∀ p0, (u.ctx c).outPkt = some p0 →
        let p1 := u.userStamp c p0
        let p : Packet := { p1 with payload := p1.payload.take (p1.get H.len) }
        let n := p.get H.conn
        u.sandboxOk c p = true → headerOk p.hdr = true → u.drainHolds p = false →
        (ptOnConn (p.get H.ptype) = false → p.get H.e2e ≠ 2) →
        (ptOnConn (p.get H.ptype) = true →
          (u.connState n = CS.active ∨ u.connState n = CS.rekeying) ∧ p.payload.length ≤ u.connP n) →
        Does (.pktSend c d a b) s c (((u.setCtx c fun x => { x with outPkt := none }).roomStall c d).engineSend p id).ended)
    ∧ ((u.ctx c).outPkt = none → Does (.pktSend c d a b) s c (u.res c d (unitWord 0 5)).ended)
    ∧ (∀ e q, (u.ctx c).inb = some e → e.late = none → e.pkt = some q → (u.ctx c).handled = false → u.isUser c = false →
        let p0 : Packet := { q with hdr := h }
        let p := if p0.get H.e2e = 2 then p0 else p0.withCrc
        let v := (u.setCtx c fun x => { x with handled := true }).roomStall c d
        headerOk p.hdr = true → p.whole = true → u.drainHolds p = false →
        (p.get H.ptype ≠ PT.mixDown → p.get H.ptype ≠ PT.mcast →
          Does (.pktFwd c d a b) s c (v.launch p none (v.pairOpen p) (some id)).ended)
        ∧ (p.get H.ptype = PT.mixDown ∨ p.get H.ptype = PT.mcast →
          Does (.pktFwd c d a b) s c (v.relay p (some id)).ended))
    ∧ (((u.roomStall c d).ctx c).stall = .room d id ∧ (u.roomStall c d).nextId = id + 1)
    ∧ ((u.ctx c).inb.bind (·.pkt) = none ∨ (∃ e, (u.ctx c).inb = some e ∧ e.late.isSome = true) → u.isUser c = false → Does (.pktFwd c d a b) s c (u.res c d (unitWord 0 5)).ended)
    ∧ (∀ k, (s.ctx c).stall = .room d k →
        (s.stallOver (s.ctx c) = true ↔ s.carries k = false)
        ∧ ((s.stallEnd c).ctx c).stall = .none ∧ (s.stallEnd c).pcOf c = (s.pcOf c + 4) % 2 ^ 32
        ∧ (d.val ≠ 0 → (s.stallEnd c).gv c d = unitWord 0 0))
    ∧ ((u.ctx c).inb.isSome = true → (u.ctx c).handled = false →
        let r := (s.gv c a).toNat % 256
        UnitOk (.pktDrop c d a b) s ((u.count (F.dropCnt_COUNT (ctxIsl c) r)).ctxReport c
          (if r = 0 then .consumed else .refused r)) c d 0)
    ∧ ((u.ctx c).inb = none → Does (.pktDrop c d a b) s c (u.res c d (unitWord 0 5)).ended)

/-- The matching unit (05 R172, 08 R277, R278): post binds the first unexpected message that matches, with HIT and its
record, or posts; probe changes nothing; take removes the winner and copies its entry to the palette. -/
def Obligations.MatchUnit : Prop :=
  ∀ (c : CtxNum) (d a b : GReg) (s : State),
    let u := s.issued c
    (∀ key, u.Finds c (s.gv c a).toNat 96 key 64 →
      let m := (s.gv c b).toNat % 65536
      let e := Octet.ofByteList (u.palRead key 64)
      let rq := e.get RP.rq
      let t := (u.popPosted rq (e.get RP.ridx)).postRecv rq (e.get RP.ridx) m e
      u.mctxRight c m = true → u.qRight c rq = true → postEntryOk e = true → u.mtcActive m = true →
      u.rd (F.qctx_TYPE rq) = 1 → u.qState rq ≠ QS.disabled → u.ringBound rq = true → u.rd (F.qctx_MCTX rq) = m →
      u.ordStalled m = false →
      (u.firstUnexp m e = none → u.postFree m = true → UnitOk (.matchPost c d a b) s t c d 0)
      ∧ (∀ x, u.firstUnexp m e = some x → u.postFree m = true → u.cqActive rq = true → u.cqRoom rq = true →
        Does (.matchPost c d a b) s c ((t.palWrite (key + 64) (outcomeRec x)).res c d (unitWord 0 7)).ended))
    ∧ (∀ key, u.Finds c (s.gv c a).toNat 32 key → u.mctxRight c (bits (u.palWord key 0) 47 32) = true →
      (u.keyWinner key = none → Does (.matchProbe c d a b) s c (u.res c d (unitWord 0 6)).ended)
      ∧ (∀ p, u.keyWinner key = some p → Does (.matchProbe c d a b) s c (u.res c d (unitWord p.ord 7)).ended)
      ∧ (∀ dst p, u.Finds c (s.gv c b).toNat 64 dst 0 → u.keyWinner key = some p → u.cqRoom p.rq = true →
        let v := ((u.unpost p).reserve (u.rd (F.qctx_CQ p.rq))).stallClear (bits (u.palWord key 0) 47 32)
        Does (.matchTake c d a b) s c (((v.pushTaken p.rq { id := 0, idx := p.ridx, entry := p.entry, started := true
          }).palWrite dst ((p.entry.set RP.rq p.rq).set RP.ridx p.ridx).toByteList).res c d (unitWord p.ord 7)).ended))

/-- The mixer unit (05 R173, 09 R291): open takes the next local place of an instance, under the KIND its entries gave it, and
answers a handle, or FULL where no place is free; feed supplies the next chunk, or answers FULL where the staging slots
cannot take it; close ends the contribution, and answers BADARG before all of its bytes are supplied. FULL of an open
while a contribution of a ring has not begun is the model's choice (notes/assumptions/53.md). -/
def Obligations.MixerUnit : Prop :=
  ∀ (c : CtxNum) (d a b : GReg) (s : State),
    let u := s.issued c
    let x := (s.gv c a).toNat
    let t := x % 16384
    (∀ len, x < 2 ^ 24 → x / 2 ^ 14 % 4 = 0 → x / 2 ^ 20 % 16 ≤ 7 → x / 2 ^ 16 % 16 ≤ 5 →
      (x / 2 ^ 20 % 16 < 4 ∨ x / 2 ^ 16 % 16 < 3) → len = (s.gv c b).toNat * dtypeSize (x / 2 ^ 20 % 16) → len ≤ 16777216 →
      (u.isUser c = true → u.rd (F.tree_TENANT t) = u.rd (F.ctxCfg_TENANT c)) → u.treeActive t = true →
      let inst := (u.rd (F.tree_INST t) + (u.tr t).taken / u.nLocal t) % 65536
      let z : Contrib :=
        { who := .ctx c (u.nextId % 65536), inst := inst, idx := (u.tr t).taken % u.nLocal t
          coll := ({ kind := 0, dtype := x / 2 ^ 20 % 16, op := x / 2 ^ 16 % 16 } : Coll).asKind (u.instKind t inst)
          len := len, data := [], closed := false }
      ((u.tr t).taken < 2 * u.nLocal t → u.collPending t = 0 →
        UnitOk (.mixOpen c d a b) s (((u.setTr t fun y =>
          { y with taken := y.taken + 1, contribs := y.contribs ++ [z] }).takeId).treeGo t) c d (u.nextId % 65536))
      ∧ (2 * u.nLocal t ≤ (u.tr t).taken ∨ u.collPending t ≠ 0 →
        Does (.mixOpen c d a b) s c (u.res c d (unitWord 0 4)).ended))
    ∧ (∀ t z, u.mixHandle c x = some (t, z) → z.closed = false →
      let part := z.coll.perChunk * z.coll.size
      let j := (z.data.length + part - 1) / part
      j < z.coll.chunks z.len → (u.chunkNum t z.inst j).any (fun n => u.slotTakes t n) = false →
      Does (.mixFeed c d a b) s c (u.res c d (unitWord 0 4)).ended)
    ∧ (∀ t z key, u.mixHandle c x = some (t, z) → z.closed = false →
      let part := z.coll.perChunk * z.coll.size
      let j := (z.data.length + part - 1) / part
      let n := z.coll.elemsIn z.len j * z.coll.size
      j < z.coll.chunks z.len → (u.chunkNum t z.inst j).any (fun n => u.slotTakes t n) = true → u.Finds c (s.gv c b).toNat n key →
      UnitOk (.mixFeed c d a b) s ((u.setTr t fun y => { y with
        contribs := y.contribs.map fun w => if w.who = z.who then { w with data := w.data ++ u.palRead key n } else w }).treeGo t) c d 0)
    ∧ (∀ t z, u.mixHandle c x = some (t, z) →
      (z.closed = false → (z.coll.data = true → z.len ≤ z.data.length) →
        UnitOk (.mixClose c d a b) s ((u.setTr t fun y => { y with
          contribs := y.contribs.map fun w => if w.who = z.who then { w with closed := true } else w }).treeGo t) c d 0)
      ∧ (z.coll.data = true → z.data.length < z.len → Does (.mixClose c d a b) s c (u.res c d (unitWord 0 5)).ended))

/-- Timers and counters of a context (05 R174, R175): arm and stop set and clear one timer, which fires no earlier than
its time and posts a timer event; cnt.rd answers the selected counter, and only TIM_NOW and the issue count to a User
context. -/
def Obligations.TimersAndCounters : Prop :=
  ∀ (c : CtxNum) (s : State),
    (∀ d a b : GReg,
      let u := s.issued c
      UnitOk (.tmArm c d a b) s (u.setCtx c fun x => { x with
        timers := x.timers.put ((s.gv c a).toNat % 8) (s.tim + (s.gv c b).toNat % 2 ^ 40) }) c d 0
      ∧ UnitOk (.tmStop c d a b) s (u.setCtx c fun x => { x with timers := x.timers.del ((s.gv c a).toNat % 8) }) c d 0
      ∧ ((s.gv c a).toNat % 256 = 0 → Computes (.cntRd c d a b) s c d (BitVec.ofNat 64 s.tim))
      ∧ ((s.gv c a).toNat % 256 = 0x20 → Computes (.cntRd c d a b) s c d (BitVec.ofNat 64 ((s.ctx c).issued + 1)))
      ∧ ((s.gv c a).toNat % 256 ≠ 0 → (s.gv c a).toNat % 256 ≠ 0x20 → s.isUser c = true → Computes (.cntRd c d a b) s c d 0)
      ∧ Computes (.cntRd c d a b) s c d ((s.issued c).cntSel c ((s.gv c a).toNat % 256)))
    ∧ ∀ (k : Fin 8) (due : Nat), KMap.find (s.ctx c).timers k = some due → due < 2 ^ 64 →
        (s.ctx c).targeted.length < 32 → Gives (exec (.timerFire c k) s) fun t =>
          due ≤ t.tim ∧ KMap.find (t.ctx c).timers k = none ∧ ∃ e, (t.ctx c).targeted = (s.ctx c).targeted ++ [e]
            ∧ e.entry = 17 ∧ e.cls = 8 ∧ e.arg0 = BitVec.ofNat 64 k ∧ OnlyWords TimeReg s t

/-! ## Register accesses (00 R5, 15 R482, 20 R604 to R607) -/

/-- A write of `m` to a register acts: the command answers `t`. -/
def Sys2Proof.Machine.WriteGives (i : Instr) (m : Mst) (addr : Nat) (s t : State) : Prop :=
  s.Opens m addr .write → exec i s = .next t.ended

/-- A read by `m` of a register acts: the command answers `t`. -/
def Sys2Proof.Machine.ReadGives (i : Instr) (m : Mst) (addr : Nat) (s t : State) : Prop :=
  s.Opens m addr .read → exec i s = .next t.ended

/-- Accesses of masters to the register space. One that its host port holds back waits there (02 R41). A misaligned one has
no effect: a read answers all ones, a write is discarded (20 R605). An aligned one asks its port and gate, and acts only
when they pass it (15 R488); a VF reads its tenant status page (03 R108). A PCIe access longer than 8 B is its successive 8 B
accesses, and one of another size reads as all ones and writes nothing. A request of a host to configuration space while its
port still boots or its ready pin is low is answered with a retry, one to memory with all ones or nothing (02 R63); after
that configuration space and the MSI-X table are read and written (R32, R33, R35), behind the requests that wait (R41). A
debug access that its gate passes acts, and one it denies answers the error flag (15 R507); none acts while a warm reset
holds the device. The model's choices: a long PCIe write waits for credits as a whole (log entry 20), the places of
configuration space and of the MSI-X table (log entry 23), what an AtomicOp of a host does and when the tunnel stands (log
entry 64). -/
def Obligations.RegisterSpaceAccesses : Prop :=
  (∀ (m : Mst) (addr : BitVec 25) (v : Word) (s : State),
    let a := addr.toNat
    let func := mstFunc m
    let wr := exec (.registerWrite m addr v) s
    let rd := exec (.registerReadClear m addr) s
    (s.writeWaits m = true → wr = .next (s.holdReg m a (some v)).ended)
    ∧ (s.writeWaits m = false →
        (a % 8 ≠ 0 → wr = .next s.ended)
        ∧ (a % 8 = 0 → isVf m = false →
          (∀ u, s.openReg m a .write = (u, true) → wr = .next (u.writeReg m a v).ended)
          ∧ (∀ u, s.openReg m a .write = (u, false) → wr = .next (u.writeLost m).ended))
        ∧ (a = 0x018 → isVf m = true → s.fnAnswers func = true → s.halted = false →
          wr = .next (s.plainWrite (.tspQsel (func / 256) (func % 256)) v).ended))
    ∧ (s.waitsBehind m = true → rd = .next (s.holdReg m a none).ended)
    ∧ (s.waitsBehind m = false →
        (a % 8 ≠ 0 → rd = .next (s.answer m (BitVec.allOnes 64)).ended)
        ∧ (a % 8 = 0 → isVf m = false →
          (∀ u, s.openReg m a .read = (u, true) → rd = .next (u.readReg m a).ended)
          ∧ (∀ u, s.openReg m a .read = (u, false) → rd = .next (u.answerOnes m).ended))
        ∧ (a % 8 = 0 → isVf m = true → s.fnAnswers func = true → s.halted = false →
          rd = .next (s.answer m (s.tspWord func a)).ended)
        ∧ (∀ n, 1 < n → a % 8 = 0 → mstClass m = 0 ∨ mstClass m = 4 →
          exec (.registerOddAccess m addr (8 * n) none) s = .next (s.longRead m a n).ended)
        ∧ ∀ size, a % 8 ≠ 0 ∨ size % 8 ≠ 0 → mstClass m = 0 ∨ mstClass m = 4 →
          exec (.registerOddAccess m addr size none) s = .next (s.answer m (BitVec.allOnes 64)).ended)
    ∧ ∀ (size : Nat) (bs : List Byte),
        (a % 8 ≠ 0 ∨ size % 8 ≠ 0 ∨ size = 0 ∨ (size ≠ 8 ∧ mstClass m ≠ 0 ∧ mstClass m ≠ 4) →
          exec (.registerOddAccess m addr size (some bs)) s = .next s)
        ∧ (s.writeWaits m = false → a % 8 = 0 → size % 8 = 0 → 8 < size → mstClass m = 0 ∨ mstClass m = 4 →
          exec (.registerOddAccess m addr size (some bs)) s = .next (s.longWrite m a (size / 8) bs).ended
            ∧ ∀ n, s.longWrite m a (n + 1) bs
                = (s.longWrite m a n bs).masterWrite m (a + 8 * n) (wordOfBytes ((bs.drop (8 * n)).take 8))))
  ∧ (∀ (m : Mst) (w : Fin 16) (v : Word) (key : Nat) (s : State), s.palKey m w = some key →
      WriteGives (.paletteWindowAccess m w (some v)) m (0x1060080 + 8 * w.val) s (s.palWrite key (bytesOf 8 v.toNat))
      ∧ (s.palBad key 8 = false → ReadGives (.paletteWindowAccess m w none) m (0x1060080 + 8 * w.val) s
          ((s.palCheck key 8).answer m (wordOfBytes (s.palRead key 8)))))
  ∧ (∀ (p : Fin 4) (f : Fin 256) (bar off : Nat) (v : Word) (d : BitVec 32) (e : MsixEntry) (s : State),
      let func := 256 * p.val + f.val
      let req (r : HostReq) := exec (.hostRequestWhileBusy p f r) s
      (s.hostBusyBoot p = true ∨ (s.pin p).ready = false →
        ∀ r ∈ [HostReq.configRead off, .configWrite off d], req r = .next (s.emit (.retryStatus p)).ended)
      ∧ (s.hostBusyBoot p = true →
        req (.write bar off v) = .next s.ended
        ∧ ((s.host p).held = [] → s.halted = false →
            req (.msixRead off) = .next (s.emit (.config func (List.replicate 5 (BitVec.allOnes 32)))).ended)
        ∧ (s.withheld p = false → s.halted = false → req (.msixWrite off e.addr e.data e.mask) = .next s.ended)
        ∧ (s.waitsBehind (fnMst func) = false → bar ≠ 0 →
            req (.read bar off) = .next (s.answer (fnMst func) (BitVec.allOnes 64)).ended))
      ∧ (s.hostBusyBoot p = false →
        let waits (r : HostReq) : State := s.holdWrite p { f := f, bar := 0, off := 0, req := some r }
        ((s.pin p).ready = true → s.halted = true ∨ (s.host p).held = [] →
          (s.fnThere func = true → req (.configRead off) = .next (s.emit (.config func [s.configDword func off])).ended
            ∧ req (.configWrite off d) = .next (s.configPut func off d).ended)
          ∧ (s.fnThere func = false →
            req (.configRead off) = .next (s.emit (.config func [BitVec.allOnes 32])).ended
            ∧ req (.configWrite off d) = .next s.ended))
        ∧ (s.halted = false → (s.host p).held ≠ [] →
          ((s.pin p).ready = true → ∀ r ∈ [HostReq.configRead off, .configWrite off d], req r = .next (waits r).ended)
          ∧ req (.msixRead off) = .next (waits (.msixRead off)).ended)
        ∧ (s.halted = false → s.fnAnswers func = true →
          ((s.host p).held = [] → req (.msixRead off) = .next (s.emit (.config func (s.msixDwords func off))).ended) ∧
          (s.withheld p = false → req (.msixWrite off e.addr e.data e.mask) = .next (s.msixPut func off e).ended)
          ∧ (s.withheld p = true → req (.msixWrite off e.addr e.data e.mask)
              = .next (waits (.msixWrite off e.addr e.data e.mask)).ended)))
      ∧ (∀ size op y cmp, (s.host p).held = [] → req (.atomic bar off size op y cmp)
          = .next (s.barAtomic func bar off size op y cmp).ended)
      ∧ (s.pier.tunnel = true → s.pierBusy = true ∨ (s.pin 4).ready = false →
          req (.pierConfigRead off) = .next (s.emit (.retryStatus 4)).ended)
      ∧ (s.pier.tunnel = true → s.pierBusy = false → (s.pin 4).ready = true →
          req (.pierConfigRead off) = .next (s.emit (.config 1024 [s.configDword 1024 off])).ended)
      ∧ (s.pier.tunnel = false → req (.pierConfigRead off) = .next s.ended)
      ∧ (s.waitsBehind (fnMst func) = true →
        req (.read bar off) = .next (s.holdWrite p { f := f, bar := bar, off := off, read := true }).ended))
  ∧ (∀ (a : DbgSpace) (v : Option Word) (s : State), s.held = true → exec (.debugAccess a v) s = .next s)
  ∧ ∀ (v : Word) (s u : State), s.rd F.lcsState_STATE ≠ 3 → s.held = false →
      (∀ r : BitVec 25, r.toNat % 8 = 0 →
        (s.openReg dbgMst r.toNat .write = (u, true) →
          exec (.debugAccess (.register r) (some v)) s = .next (u.writeReg dbgMst r.toNat v).ended)
        ∧ (s.openReg dbgMst r.toNat .read = (u, true) →
          exec (.debugAccess (.register r) none) s = .next (u.readReg dbgMst r.toNat).ended)
        ∧ (s.openReg dbgMst r.toNat .write = (u, false) →
          exec (.debugAccess (.register r) (some v)) s = .next (u.emit .jtagError).ended)
        ∧ (s.openReg dbgMst r.toNat .read = (u, false) →
          exec (.debugAccess (.register r) none) s = .next (u.emit .jtagError).ended))
      ∧ ∀ a : BitVec 34,
        (s.debugGate a.toNat 8 .write = (u, true) →
          exec (.debugAccess (.device a) (some v)) s = .next (u.debugDevice a.toNat (some v)).ended)
        ∧ (s.debugGate a.toNat 8 .read = (u, false) →
          exec (.debugAccess (.device a) none) s = .next (u.emit .jtagError).ended)
        ∧ ∀ bs : List Byte,
          (s.debugGate a.toNat bs.length .write = (u, true) →
            exec (.debugAccess (.block a bs) (some v)) s = .next (u.debugBlock a.toNat bs true).ended)
          ∧ (s.debugGate a.toNat bs.length .write = (u, false) →
            exec (.debugAccess (.block a bs) (some v)) s = .next (u.emit .jtagError).ended)

/-- The access codes of 00 R5 and R4: a write leaves the bits of no field, and of read-only and read-to-clear fields, as
they were; RW fields take the bits written, RWL fields too unless their lock is set; W1C bits clear where 1 is written; a
plain write leaves W1S bits, whose 1 acts by the register's rule, as SLOCK of FLT_CFG, which a 1 sets and a 0 leaves; a read
clears the RC bits and no other; a read of an RSA word, SEM_ACQ or SEM_TRY, acquires. -/
def Obligations.AccessCodes : Prop :=
  (∀ (r : Reg) (old v : Word),
    let rw (locked : Bool) := fieldMask r fun f => f.acc = .rw || (f.acc = .rwl && !locked)
    let w1c := fieldMask r fun f => f.acc = .w1c
    let rc := fieldMask r fun f => f.acc = .rc
    (∀ (locked : Bool) (k : Nat), k < 64 →
      ((rw locked).getLsbD k = true → w1c.getLsbD k = false →
        (accWrite r locked old v).getLsbD k = v.getLsbD k)
      ∧ ((rw locked).getLsbD k = false → w1c.getLsbD k = true →
        (accWrite r locked old v).getLsbD k = (old.getLsbD k && !v.getLsbD k))
      ∧ ((rw locked).getLsbD k = false → w1c.getLsbD k = false →
        (accWrite r locked old v).getLsbD k = old.getLsbD k))
    ∧ (∀ k, k < 64 → (accReadClear r old).getLsbD k = (old.getLsbD k && !rc.getLsbD k))
    ∧ (∀ f, f ∈ r.fields → f.acc = .ro ∨ f.acc = .rc → ∀ k, f.lo ≤ k → k ≤ f.hi → (rw false).getLsbD k = false)
    ∧ ∀ f, f ∈ r.fields → f.acc = .w1s → ∀ k, f.lo ≤ k → k ≤ f.hi →
        (accWrite r false old v).getLsbD k = old.getLsbD k ∧ (accWrite r true old v).getLsbD k = old.getLsbD k)
  ∧ (∀ (m : Mst) (v : Word) (s : State),
      let new := accWrite .fltCfg false (s.get .fltCfg) v
      (s.on F.fltCfg_SLOCK = true ∨ bits v 63 63 = 0 → ∀ u,
        s.cfgPut m RK.reg 0x25008 .fltCfg new = (u, true) →
        s.fltCfgPut m v = u ∧ u.rd F.fltCfg_SLOCK = s.rd F.fltCfg_SLOCK)
      ∧ (s.on F.fltCfg_SLOCK = false → bits v 63 63 = 1 → ∀ u,
        s.cfgPut m RK.lock 0x25008 .fltCfg (setBits new 63 63 1) true = (u, true) →
        s.fltCfgPut m v = u ∧ u.on F.fltCfg_SLOCK = true))
  ∧ ∀ (m : Mst) (n : Fin 4096) (s : State),
      (s.Opens m (0x40000 + 8 * n.val) .read →
        exec (.registerReadClear m (BitVec.ofNat 25 (0x40000 + 8 * n.val))) s = .next (s.semAcq m n).ended)
      ∧ (s.Opens m (0x48000 + 8 * n.val) .read →
        exec (.registerReadClear m (BitVec.ofNat 25 (0x48000 + 8 * n.val))) s = .next (s.semTryWord m n).ended)

/-! ## Engine events, contexts and sketches (06) -/

/-- The configuration of a context (06 R187 to R190, R205). Engine 16 is changed at F or D only. A write that sets EN
against R188 is counted and leaves EN 0; an accepted one loads the event mask and the budget; while EN is 1 or the
context is not IDLE its other fields stay; RST returns every register to its reset value, discards events and timers,
and leaves the context IDLE with EN 0; while its island or the device is held in reset it is absorbed (18 R563). -/
def Obligations.ContextConfiguration : Prop :=
  ∀ (m : Mst) (c : CtxNum) (v : Word) (s : State),
    let on := setBits (setBits v 63 63 1) 62 62 0
    let off := setBits (setBits v 63 63 0) 62 62 0
    let old := s.get (.ctxCfg c)
    WriteGives (.ctxCfgWrite m c v) m (ctxCfgAddr c) s (s.ctxCfgPut m c v)
    ∧ WriteGives (.ctxEnable m c v) m (ctxCfgAddr c) s (s.ctxCfgPut m c on)
    ∧ WriteGives (.ctxDisable m c v) m (ctxCfgAddr c) s (s.ctxCfgPut m c off)
    ∧ WriteGives (.ctxReset m c v) m (ctxCfgAddr c) s (s.ctxCfgPut m c (setBits v 62 62 1))
    ∧ (ctxEng c = 16 → s.atF m = false → s.ctxCfgPut m c v = s)
    ∧ (ctxEng c ≠ 16 ∨ s.atF m = true →
        (s.on (F.ctxCfg_EN c) = false → s.ctxState c = XS.idle →
          (s.enRefused c (accWrite (.ctxCfg c) false old on) = true →
            (s.ctxCfgPut m c on).on (F.ctxCfg_EN c) = false
              ∧ (s.ctxCfgPut m c on).rd (F.engStat_REFUSED (ctxEng c)) = satAdd 16 (s.rd (F.engStat_REFUSED (ctxEng c))) 1)
          ∧ (s.enRefused c (accWrite (.ctxCfg c) false old on) = false → ∀ u,
              s.cfgPut m RK.reg (ctxCfgAddr c) (.ctxCfg c) (setBits (accWrite (.ctxCfg c) false old on) 63 63 1) = (u, true) →
              s.ctxCfgPut m c on = u.enSets c ∧ (u.enSets c).rd (F.csr_MASK c) = u.rd (F.ctxCfg_MASK c)))
        ∧ (s.on (F.ctxCfg_EN c) = true ∨ s.ctxState c ≠ XS.idle →
            bits ((s.ctxCfgPut m c off).get (.ctxCfg c)) 62 0 = bits old 62 0)
        ∧ (bits v 62 62 = 1 → s.absorbed (ctxIsl c) = true → s.ctxCfgPut m c v = s)
        ∧ (bits v 62 62 = 1 → s.absorbed (ctxIsl c) = false → ∀ u,
            s.cfgPut m RK.reg (ctxCfgAddr c) (.ctxCfg c)
              (setBits (if s.on (F.ctxCfg_EN c) || s.ctxState c != XS.idle then old else accWrite (.ctxCfg c) false old v)
                63 63 (bits old 63 63)) = (u, true) →
            s.ctxCfgPut m c v = u.ctxReset c))
    ∧ ∀ d : GReg, (s.ctxReset c).gv c d = 0 ∧ (s.ctxReset c).pcOf c = 0 ∧ (s.ctxReset c).on (F.ctxCfg_EN c) = false
        ∧ (s.ctxReset c).ctxState c = XS.idle ∧ ((s.ctxReset c).ctx c).targeted = [] ∧ ((s.ctxReset c).ctx c).timers = []

/-- The warden mailbox (06 R184 to R186): a command is accepted while BUSY is 0, with its arguments and its master, and a
load makes its slot invalid; while BUSY is 1 a command is discarded and counted. When it ends, RESULT is that of its
command and BUSY is 0. -/
def Obligations.WardenMailbox : Prop :=
  ∀ s : State,
    (∀ (m : Mst) (v : Word), ∀ x ∈ [(1, Instr.sketchLoad m v), (2, .sketchFree m v), (3, .keyInstall m v), (4, .keyLock m v)],
      s.Opens m 0x430800 .write →
        (s.on F.wmbxStat_BUSY = true → exec x.2 s = .next (s.count F.wmbxStat_COLLIDE).ended)
        ∧ (s.on F.wmbxStat_BUSY = false → Gives (exec x.2 s) fun t =>
            t.on F.wmbxStat_BUSY = true ∧ t.rd F.wmbxCmd_CMD = x.1 ∧ t.rd F.wmbxStat_OWNER = m.toNat
              ∧ t.sandbox.running = some (x.1, (List.range 4).map fun i => s.get (.wmbxArg i))
              ∧ (x.1 = 1 → 1 ≤ (s.get (.wmbxArg 2)).toNat → (s.get (.wmbxArg 2)).toNat ≤ 4095 →
                  (t.sandbox.slots.at (s.get (.wmbxArg 2)).toNat {}).valid = false)
              ∧ OnlyWords (fun r => r = .wmbxCmd ∨ r = .wmbxStat) s t))
    ∧ ∀ (cmd : Nat) (args : List Word), s.sandbox.running = some (cmd, args) → s.halted = false →
        let m : Mst := BitVec.ofNat 16 (s.rd F.wmbxStat_OWNER)
        let a (i : Nat) : Nat := ((args[i]?).getD 0).toNat
        let ends (r : State × Nat) : Prop := exec .mailboxCommandDone s
          = .next ((({ r.1 with sandbox := { r.1.sandbox with running := none } }).wr F.wmbxStat_RESULT r.2).wr
              F.wmbxStat_BUSY 0).ended
        (cmd = 1 → ends (s.mailLoad m (a 0) (a 1) (a 2))) ∧ (cmd = 2 → ends (s.mailFree m (a 0)))
          ∧ (cmd = 3 → ends (s.mailInstall m (a 0) (a 1))) ∧ (cmd = 4 → ends (s.mailLock m (a 0)))
          ∧ (cmd = 0 ∨ 4 < cmd → ends (s, MB.badCmd))

/-- Steering and dispatch (06 R193 to R198). A waiting event enters the queue of its engine while fewer than 256 are
queued; an edge of dispatch gives targeted events first and then steered ones, each to the context that holds its key or
to an eligible IDLE one, and discards one that no context can take; the context starts at the entry's handler with its
budget full, running, the event in h8 and its time in h9. -/
def Obligations.SteeringAndDispatch : Prop :=
  ∀ (g : EngNum) (s : State),
    (∀ x, (s.sandbox.waiting.find? fun x => s.steerEngine x == g.val && s.steerRoom g x) = some x →
      exec (.steeredEventArrival g) s = .next (s.steerIn g x).ended ∧ s.steerEngine x = g ∧ (s.eng g).queue.length < 256
        ∧ ((s.steerIn g x).eng g).queue.length = (s.eng g).queue.length + 1
        ∧ (s.steerIn g x).rd (F.engStat_STEERQ g) = (s.eng g).queue.length + 1)
    ∧ (s.halted = false → exec (.eventDispatch g) s = .next (State.steerAll g (s.eng g).queue.length
        ((List.range 8).foldl (fun t k => t.targetOne (8 * g.val + k)) s)).ended)
    ∧ (∀ e, ((s.eng g).queue.find? fun e => s.headOfKey g e && (s.unservable g e || (s.taker g e).isSome)) = some e →
        (s.unservable g e = true → s.steerOne g = some ((s.setSteerQ g fun q => q.erase e).discardEvent g e))
        ∧ (∀ c, s.unservable g e = false → s.taker g e = some (c, false) →
            s.steerOne g = some ((s.setSteerQ g fun q => q.erase e).giveEvent c e)))
    ∧ (∀ (c : CtxNum) (e : Event), (s.ctx c).waitMask = none →
        let t := s.giveEvent c e
        t.pcOf c = 4 * (s.handlerOf c e.entry).getD 0 % 2 ^ 32 ∧ t.ctxState c = XS.running
          ∧ t.rd (F.csr_REMAINING c) = s.rd (F.csr_LIMIT c) ∧ t.get (.h c 8) = e.h8 ∧ t.get (.h c 9) = e.time)
    ∧ ∀ (m : Mst) (v : Word), WriteGives (.steeringWrite m v) m 0x7008 s (s.steerWrite m v)

/-! ## Connections and canvases (07) -/

/-- Work entries of connections (07 R220 to R223). A PUT becomes packets of at most P bytes that carry its bytes in
order; GET, ATOMIC and FLUSH become one request once the local range may be written; on a connection out of service
each ends BROKEN. KEY_NEXT and KEY_CUR store 32 bytes under their record, KEY_CUR on a FREE connection only. A PUT whose
source fails behind some packets ends with that status once they are done (the model's reading, log entry 58), and KEY_CUR
of a connection that became FREE after the entry was taken acts (its reading of R220 beside 03 R105, log entry 37). -/
def Obligations.ConnectionWorkEntries : Prop :=
  (∀ (q : QNum) (id : Nat) (src : Fetched) (t : Taken) (s : State),
    let e := t.entry
    let n := e.get W.conn
    let rows : List (Nat × Instr) := [(1, .put q id src), (2, .get q id), (3, .atomic q id), (4, .flush q id)]
    (∀ x ∈ rows, s.Serves q id x.1 t → (x.1 = 1 → e.get W.opmod = 0) → s.connLive n = false →
      exec x.2 s = .next (s.finishEntry q id { status := ST.broken }).ended)
    ∧ (s.connLive n = true →
      (s.Serves q id 1 t → e.get W.opmod = 0 →
        (∀ bs u, s.Reads q t (e.get W.len) src bs u → exec (.put q id src) s
          = .next (u.queuePkts q t (some n) ((pieces (u.connP n) bs).map fun x =>
              { hdr := (u.rmaHeader n PT.put e x.1).set H.len x.2.length, payload := x.2, trailer := [] })).ended)
        ∧ (∀ u st got, s.source q t (e.get W.len) src = (u, .bad st got) →
          (got.length < u.connP n → exec (.put q id src) s = .next (u.finishEntry q id { status := st }).ended)
          ∧ (u.connP n ≤ got.length → 0 < u.connP n → exec (.put q id src) s
              = .next ((u.queuePkts q t (some n) ((wholePieces (u.connP n) got).map fun x => u.putPkt n e x)).setQue q
                  fun v => { v with taken := v.taken.map fun x => if x.id = id then { x with cut := some st } else x }).ended)))
      ∧ (s.Serves q id 2 t → s.sink q t (e.get W.len) = (s, true) → exec (.get q id) s
          = .next (s.queuePkts q t (some n) [{ hdr := ((s.rmaHeader n PT.getReq e 0).set H.tag (e.get W.len)).set H.len 0
                                               payload := [], trailer := [] }]).ended)
      ∧ (s.Serves q id 3 t → s.sink q t 8 = (s, true) → exec (.atomic q id) s
          = .next (s.queuePkts q t (some n) [{ hdr := ((s.rmaHeader n PT.atomReq e 0).set H.opmod (e.get W.opmod)).set H.len 16
                                               payload := bytesOf 8 e.w6.toNat ++ bytesOf 8 e.w7.toNat, trailer := [] }]).ended)
      ∧ (s.Serves q id 4 t → exec (.flush q id) s
          = .next (s.queuePkts q t (some n) [{ hdr := (s.connHeader n PT.flushReq).set H.len 0, payload := [], trailer := [] }]).ended))
    ∧ (s.Serves q id 1 t → ∀ bs u w, s.Reads q t 32 src bs u →
      (e.get W.opmod = 0x80 → u.keyAsk n 1 (u.rd (F.qctx_PRIV q)) (fnMst (u.qFunc q)) = (w, true) →
        exec (.keyNext q id src) s = .next ((w.keyStore n 1 bs).finishEntry q id { status := ST.ok }).ended)
      ∧ (e.get W.opmod = 0x81 → u.connState n = CS.free →
        u.keyAsk n 0 (u.rd (F.qctx_PRIV q)) (fnMst (u.qFunc q)) = (w, true) →
        exec (.keyCur q id src) s = .next ((w.keyStore n 0 bs).finishEntry q id { status := ST.ok }).ended)
      ∧ (e.get W.opmod = 0x81 → u.connState n ≠ CS.free →
        exec (.keyCur q id src) s = .next (u.finishEntry q id { status := ST.access }).ended)))
  ∧ ∀ (P : Nat) (bs : List Byte), 0 < P →
      ((pieces P bs).flatMap fun x => x.2) = bs ∧ (∀ x ∈ pieces P bs, x.2.length ≤ P ∧ x.2 = (bs.drop x.1).take P)

/-- The connection and canvas windows (07 R210 to R218, R242, R245): an accepted activation makes a FREE connection
ACTIVE, a refused one is counted and leaves it FREE; STATE = FREE ends a connection and empties its key slots; an
accepted canvas becomes VALID, a refused one is counted; the key commands store a key and start a rekey. -/
def Obligations.ConnectionAndCanvasWindows : Prop :=
  ∀ (m : Mst) (v : Word) (s : State),
    let n := s.selOf m .cnx
    let i := s.selOf m .cvs
    let act := setBits v 63 61 CS.active
    WriteGives (.connActivate m v) m 0x1010080 s (s.connWrite m 0 act)
    ∧ WriteGives (.connFree m v) m 0x1010080 s (s.connWrite m 0 (setBits v 63 61 CS.free))
    ∧ WriteGives (.canvasValidate m v) m 0x1020080 s (s.cvsWrite m 0 (setBits v 63 62 1))
    ∧ WriteGives (.canvasRevoke m v) m 0x1020080 s (s.cvsWrite m 0 (setBits v 63 62 0))
    ∧ WriteGives (.cnxKeyInstall m v) m 0x1010220 s (s.keyCmd m (setBits v 1 1 1))
    ∧ WriteGives (.rekeyGo m v) m 0x1010220 s (s.keyCmd m (setBits v 2 2 1))
    ∧ (s.connState n = CS.free →
        let u := s.plainWrite (.conn n 0) (setBits act 63 61 0)
        (u.connOk n = true → (s.connWrite m 0 act).connState n = CS.active)
        ∧ (u.connOk n = false → (s.connWrite m 0 act).connState n = CS.free
            ∧ s.connWrite m 0 act = u.count F.cnxStat_REFUSED))
    ∧ (s.connState n ≠ CS.free → s.connWrite m 0 act = s
        ∧ (s.connWrite m 0 (setBits v 63 61 CS.free)).connState n = CS.free
        ∧ (s.connWrite m 0 (setBits v 63 61 CS.free)).rd (F.conn_CURKEY n) = 0
        ∧ (s.connWrite m 0 (setBits v 63 61 CS.free)).rd (F.conn_NEXTKEY n) = 0
        ∧ ((s.connWrite m 0 (setBits v 63 61 CS.free)).cx n).cur = none)
    ∧ (s.transientRange i = true → ∀ w, s.cvsWrite m w v = s)
    ∧ (s.transientRange i = false → s.rd (F.cvs_STATE i) = 0 →
        let u := s.plainWrite (.cvs i 0) (setBits (setBits v 63 62 1) 63 62 0)
        (u.canvasOk i = true → (s.cvsWrite m 0 (setBits v 63 62 1)).rd (F.cvs_STATE i) = 1)
        ∧ (u.canvasOk i = false → (s.cvsWrite m 0 (setBits v 63 62 1)).rd (F.cvs_STATE i) = 0
            ∧ s.cvsWrite m 0 (setBits v 63 62 1) = u.count F.cnxStat_REFUSED))
    ∧ (s.transientRange i = false → s.rd (F.cvs_STATE i) ≠ 0 →
        s.cvsWrite m 0 (setBits v 63 62 0) = s.canvasRevoke i)

/-- Arrivals and timers of connections (07 R227 to R236): an arriving packet is accepted, policed if it is a request,
and judged by its connection; an ACK is sent once ACK_DELAY has passed, and the timers run no earlier than they are due;
the device's own clock never goes back. That the mark kept with a delivered packet goes before the operand is the model's
choice (log entry 9). -/
def Obligations.ConnectionArrivalsAndTimers : Prop :=
  ∀ (n : Fin 262144) (s : State), s.halted = false →
    (∀ (p : Packet) (mark : Bool), ptOnConn (p.get H.ptype) = true →
      (s.arrivedOf p = none →
        exec (.connPacketArrival p mark) s = .next ((s.accepted p).connArrive (p.get H.conn) p mark).ended)
      ∧ ∀ h, s.arrivedOf p = some h →
        exec (.connPacketArrival p mark) s = .next ((s.accepted p).connArrive (p.get H.conn) p h.mark).ended)
    ∧ exec (.flushReqDispatch n) s = .next (s.flushGo n).ended
    ∧ (s.connLive n = true →
      (∀ (reply : Bool) (t : Nat), ((s.cx n).rx reply).firstAt = some t →
        let u := (s.passTo (t + s.ackDelay)).sendAck n reply
        exec (.ackDelayExpiry n reply) s = .next u.ended ∧ ((u.cx n).rx reply).firstAt = none ∧ ((u.cx n).rx reply).fresh = 0)
      ∧ (∀ (reply : Bool) (t : Nat), s.rtoDue n reply = some t → s.draining = false →
        exec (.rtoExpiry n reply) s = .next ((s.passTo t).rtoFire n reply).ended)
      ∧ (∀ (seq : BitVec 32) (x : TxCopy) (t : Nat), ((s.cx n).tx0.copies.find? fun x => x.seq == seq.toNat) = some x →
        x.nrDue = some t → exec (.nrBackoffExpiry n seq) s = .next ((s.passTo t).resend n false x).ended))
    ∧ ∀ t, s.now ≤ (s.passTo t).now ∧ t ≤ (s.passTo t).now

/-! ## Matching (08) -/

/-- SEND and RECV entries, the wait for a transient canvas, and the matching-context window (08 R252 to R255, R262 to
R270). An eager SEND becomes packets; a rendezvous SEND takes a transient canvas, or waits and is counted; a RECV entry
is posted or bound, and a ring without its context is counted once; an accepted activation makes a FREE context ACTIVE with its counts zero; a context with posted
receives stays ACTIVE and the write is counted. -/
def Obligations.MatchingEntriesAndContexts : Prop :=
  (∀ (q : QNum) (id : Nat) (src : Fetched) (t : Taken) (s : State), s.Serves q id 5 t →
    let e := t.entry
    let n := e.get W.conn
    (s.connLive n = false → exec (.send q id src) s = .next (s.finishEntry q id { status := ST.broken }).ended)
    ∧ (s.connLive n = true →
      (e.get W.opmod = 0 → e.get W.len ≤ s.eagerLimit n → ∀ bs u, s.Reads q t (e.get W.len) src bs u →
        exec (.send q id src) s = .next (u.queuePkts q t (some n) (u.eagerPkts n e bs)).ended)
      ∧ (e.get W.opmod ≠ 0 ∨ s.eagerLimit n < e.get W.len →
        e.get W.devmem = 0 ∨ e.get W.len = 0 ∨ s.devRange (s.qFunc q) (e.get W.laddr) (e.get W.len) .read = (s, true) →
        (∀ u, s.rndvGo q n t = some u → exec (.send q id src) s = .next u.ended)
        ∧ (s.rndvGo q n t = none → exec (.send q id src) s
            = .next (((s.begin q id).count F.mtcStat_RNDV_WAIT).setMtch fun x => { x with waits := x.waits ++ [(q.val, id)] }).ended))))
  ∧ (∀ (q : QNum) (id : Nat) (t : Taken) (s u : State), (q.val, id) ∈ s.mtch.waits → s.halted = false →
      s.taken q id = some t → t.res = none → s.rndvGo q (t.entry.get W.conn) t = some u →
      exec (.rndvCanvasTake q id) s = .next (u.setMtch fun x => { x with waits := x.waits.filter (· ≠ (q.val, id)) }).ended)
  ∧ (∀ (q : QNum) (e : Octet) (s : State), s.rd (F.qctx_TYPE q) = 1 → s.serves q = true → s.qDepth q ≠ 0 →
      s.sketchServed q = false →
      let v := s.setMtch fun x => { x with unbound := x.unbound.filter (· ≠ q.val) }
      (s.ringBound q = false → exec (.recv q e) s = .next (s.unboundOnce q).ended)
      ∧ (s.ringBound q = true → recvReason e = none → v.postRoom q (s.rd (F.qctx_MCTX q)) e = true →
        exec (.recv q e) s = .next ((v.advanceCi q).postRecv q (s.rd (F.qctx_CI q)) (s.rd (F.qctx_MCTX q)) e).ended))
  ∧ ∀ (m : Mst) (v : Word) (s : State),
      let k := s.selOf m .mtc
      let act := s.mtcWrite m 0 (setBits v 63 62 1)
      let free := s.mtcWrite m 0 (setBits v 63 62 0)
      WriteGives (.mctxActivate m v) m 0x1030080 s act ∧ WriteGives (.mctxFree m v) m 0x1030080 s free
      ∧ (s.mtcActive k = false →
          let u := s.plainWrite (.mtc k 0) (setBits (setBits v 63 62 1) 63 62 0)
          (u.eqOfTenant (u.rd (F.mtc_EQ k)) (u.rd (F.mtc_TENANT k)) = true → act.mtcActive k = true ∧ act.rd (F.mtc_POSTED k) = 0)
          ∧ (u.eqOfTenant (u.rd (F.mtc_EQ k)) (u.rd (F.mtc_TENANT k)) = false → act = u.count F.mtcStat_REFUSED))
      ∧ (s.mtcActive k = true → act = s
          ∧ (s.rd (F.mtc_POSTED k) ≠ 0 → free = s.count F.mtcStat_REFUSED)
          ∧ (s.rd (F.mtc_POSTED k) = 0 → free.rd (F.mtc_STATE k) = 0))

/-! ## Trees and collectives (09) -/

/-- COLL and TREE_WRITE entries and the tree window (09 R284 to R290). An entry ends TREE_BROKEN on a tree that is not
ACTIVE and ACCESS for another tenant; a contribution joins the next local place; a multicast leaves the root. A write to
a tree entry that is not FREE changes nothing unless it frees it; a refused activation is counted and leaves it FREE; an
accepted one starts at instance 0. -/
def Obligations.TreeEntriesAndWindow : Prop :=
  (∀ (q : QNum) (id : Nat) (src : Fetched) (x : Taken) (s : State), s.Serves q id 7 x →
    let d := x.entry.w7
    let t := collTree d
    let c : Coll := ({ kind := collKind d, dtype := collDtype d, op := collOp d } : Coll).plain
    let len := x.entry.get W.len
    let z : Contrib :=
      { who := .entry q id, inst := 0, idx := 0, coll := c, source := c.kind == 3 && collSource d, len := len
        result := x.entry.w6.toNat, func := s.qFunc q, devmem := x.entry.get W.devmem == 1
        flag := x.entry.get W.flagged == 1 }
    let row := exec (.coll q id src) s
    (s.treeActive t = false → row = .next (s.finishEntry q id { status := ST.treeBroken }).ended)
    ∧ (s.treeActive t = true →
      (s.rd (F.tree_TENANT t) ≠ s.rd (F.qctx_TENANT q) → row = .next (s.finishEntry q id { status := ST.access }).ended)
      ∧ (s.rd (F.tree_TENANT t) = s.rd (F.qctx_TENANT q) →
        (c.kind = 4 → s.isRoot t = true → ∀ bs u, s.Reads q x len src bs u →
          row = .next ((u.begin q id).multicast t (.entry q id) c x.entry.w6 bs (x.entry.get W.flagged == 1)).ended)
        ∧ (c.kind ≠ 4 → s.nLocal t ≠ 0 → (s.tr t).taken < 2 * s.nLocal t → s.collTurn t id = true →
          s.collSink q t x.entry c z.source = (s, true) →
          (c.data = false → z.source = false → row = .next ((s.begin q id).contribute t z false).ended)
          ∧ (c.data = true ∨ z.source = true → ∀ bs u, s.Reads q x len src bs u →
              row = .next ((u.begin q id).contribute t { z with data := bs } false).ended)))))
  ∧ (∀ (id : Nat) (src : Fetched) (x : Taken) (bs : List Byte) (bad : Bool) (s u v : State), s.Serves 0 id 0x88 x →
      s.devRead (x.entry.get W.laddr) 64 = (u, bs, false) →
      u.treeWords (bits x.entry.w6 13 0) (Octet.ofByteList bs).toList = (v, bad) →
      exec (.treeWrite id src) s
        = .next (v.finishEntry 0 id { status := if bad then ST.access else ST.ok }).ended)
  ∧ ∀ (m : Mst) (v : Word) (s : State),
      let t := s.selOf m .tree
      let act := s.treeWrite m 0 (setBits v 63 62 1)
      let new := accWrite (.tree t 0) false (s.get (.tree t 0)) (setBits v 63 62 1)
      WriteGives (.treeActivate m v) m 0x1050080 s act
      ∧ WriteGives (.treeFree m v) m 0x1050080 s (s.treeWrite m 0 (setBits v 63 62 0))
      ∧ (s.rd (F.tree_STATE t) ≠ 0 → act = s ∧ ∀ w, w ≠ 0 → s.treeWrite m w v = s)
      ∧ (s.rd (F.tree_STATE t) = 0 →
          ((s.set (.tree t 0) new).treeOk t = false → act.rd (F.tree_STATE t) = 0
            ∧ act.rd F.mixStat_REFUSED = (s.count F.mixStat_REFUSED).rd F.mixStat_REFUSED)
          ∧ ((s.set (.tree t 0) new).treeOk t = true →
            ∀ u, s.cfgPut m RK.win (winAddr 5 0 t) (.tree t 0) (setBits new 63 62 1) = (u, true) →
              act.treeActive t = true ∧ act.rd (F.tree_INST t) = 0 ∧ act.rd (F.tree_MSEQ t) = 0 ∧ (act.tr t).contribs = []))

/-- Tree packets as they arrive (09 R286, R294 to R300, R312): one that fails its check is discarded, one that the node
does not accept is counted in BADTREE, as is one from neither a child nor the parent; a chunk, a FINAL, a GRANT, a
STATUS, a result or a multicast is acted on; a node without progress for TIMEOUT breaks. Argument 0 of the event of a
MIX_UP that is BROKEN is the model's choice (log entry 59). -/
def Obligations.TreePacketsAndTimeout : Prop :=
  (∀ (p : Packet) (s : State), s.halted = false →
    let t := p.get H.tree
    let u := s.accepted p
    let w := (u.meterRx p).treeTouch t
    (∀ x ∈ [(PT.mixUp, Instr.mixUpArrival p), (PT.mixDown, .mixDownArrival p), (PT.mcast, .mcastArrival p)],
      p.get H.ptype = x.1 →
        (p.crcOk = false → exec x.2 s = .next u.ended)
        ∧ (p.crcOk = true → u.treeTakes t p = false → exec x.2 s = .next (u.count F.mixStat_BADTREE).ended))
    ∧ (p.crcOk = true → u.treeTakes t p = true →
      (p.get H.ptype = PT.mixUp →
        (u.childOf t p = none → exec (.mixUpArrival p) s = .next (u.count F.mixStat_BADTREE).ended)
        ∧ (∀ i, u.childOf t p = some i → p.get H.opmod / 16 % 2 = 0 → p.get H.opmod / 64 ≠ 3 →
            exec (.mixUpArrival p) s = .next ((u.treeTouch t).chunkIn t i p).ended)
        ∧ (∀ i, u.childOf t p = some i → p.get H.opmod / 16 % 2 = 0 → p.get H.opmod / 64 = 3 →
            exec (.mixUpArrival p) s = .next ((u.treeTouch t).finalIn t i p).ended)
        ∧ (∀ i, u.childOf t p = some i → p.get H.opmod / 16 % 2 = 1 →
            exec (.mixUpArrival p) s
              = .next ((((u.treeTouch t).mixUpEvent t i p false 0).meterRx p).treeBreak t 0x0B).ended))
      ∧ (u.fromParent t p = false → (p.get H.ptype = PT.mixDown →
            exec (.mixDownArrival p) s = .next (u.count F.mixStat_BADTREE).ended)
          ∧ (p.get H.ptype = PT.mcast → exec (.mcastArrival p) s = .next (u.count F.mixStat_BADTREE).ended))
      ∧ (u.fromParent t p = true → p.get H.ptype = PT.mixDown →
          (p.get H.opmod / 64 = 0 →
            let e := w.treeEvent 12 t p (keyInst p * 2 ^ 48 + p.get H.seq) 0 0
            exec (.mixDownArrival p) s = .next ((e.setTr t fun y =>
              { y with grant := if precedes 32 y.grant (p.get H.seq) then p.get H.seq else y.grant }).treeGo t).ended)
          ∧ (p.get H.opmod / 64 ≠ 0 → exec (.mixDownArrival p) s
              = .next ((w.treeEvent 12 t p (keyInst p * 2 ^ 48 + p.get H.opmod / 64 % 4 * 2 ^ 46) 0
                  (p.get H.tag % 256)).statusIn t p).ended))
      ∧ (u.fromParent t p = true → p.get H.ptype = PT.mcast →
          let e := (u.treeTouch t).treeEvent 13 t p (keyInst p * 2 ^ 48 + (keyColl p).kind * 2 ^ 44 + p.get H.len)
            (p.get H.offset) p.hdr.w5.toNat
          ((keyColl p).kind = 4 → exec (.mcastArrival p) s = .next (e.mcastDown t p).ended)
          ∧ ((keyColl p).kind ≠ 4 → exec (.mcastArrival p) s = .next (e.resultDown t p).ended))))
  ∧ ∀ (t : Fin 16384) (s : State), s.treeActive t = true → s.treeOpen t = true → s.halted = false → s.draining = false →
      let u := s.passTo ((s.tr t).progress + s.treeLimit t)
      exec (.treeTimeout t) s = .next (u.treeBreak t 0x0B).ended ∧ (s.tr t).progress + s.treeLimit t ≤ u.now

/-! ## Fabric routing (10) -/

/-- Packets and the loops of a port (10 R324 to R347). A DGRAM or MGMT entry becomes one packet; the active bank takes
only changes of FENCE, the other any; a held packet asks for an output: it is delivered here, wins its output when that has
room and no claim goes before its own, or waits for it; it may gain the ferry after FERRY_WAIT; a policed datagram is
dropped and counted; a management command is kept, with its payload, with the port it came over; a tide report leaves no
earlier than 500 ns after the last; the loop of a port moves BIAS and MARKTH by at most one and keeps them within their limits, and not
while FREEZE is set; a write keeps BIAS within its limits. The words of a tide report (log entry 27), which bytes count as
queued for a port (log entry 54), and the port of a management packet that no command delivered (log entry 9) are the
model's. -/
def Obligations.RoutingAndPortLoops : Prop :=
  (∀ (q : QNum) (id : Nat) (src : Fetched) (t : Taken) (s u : State) (bs : List Byte), s.Reads q t (t.entry.get W.len) src bs u →
    (s.Serves q id 6 t → exec (.dgram q id src) s
        = .next (u.queuePkts q t none [u.plainPacket q PT.dgram (t.entry.get W.dstep) t.entry bs]).ended)
    ∧ (s.Serves q id 8 t → exec (.mgmt q id src) s
        = .next (u.queuePkts q t none [u.plainPacket q PT.mgmt (t.entry.get W.dstep / 4 * 4) t.entry bs]).ended))
  ∧ (∀ (id : Nat) (h : Held) (s : State), s.heldOf id = some h → s.halted = false →
      let p := s.phase2 h.pkt
      (h.inPort = none ∨ h.ecc = 0 → exec (.winOutput id) s = .next (s.seekOutput h).ended)
      ∧ (∀ n, h.inPort = some n → h.ecc = 2 → exec (.winOutput id) s = .next (((s.unhold h).ownerDone h.owner).raise
          (Src.PRT_BUF_UNCORR n) { addr := n, atype := 5, unit := n }).ended)
      ∧ (h.inPort = none ∨ h.ecc = 0 → h.twin = none → s.behindFrame h = false → s.on F.rteCfg_DNV = true →
        (s.here (p.get H.dst) = true → exec (.winOutput id) s = .next (s.arrive { h with pkt := p }).ended)
        ∧ ∀ (u : State) (c : Cand) (fp : Nat), s.routeOf p = (u, .out c fp) → c.via = none →
          let vc := u.bestVc c.port (p.get H.mclass)
          (∀ pool, u.mayWin h c.port vc p.units = some pool → u.beaten h c.port vc = false →
            exec (.winOutput id) s = .next (u.claim h p c.port vc pool false).ended
              ∧ (u.rivals h c.port vc = [] → u.landRivals h c.port vc = [] → p.get H.hops ≠ 7 →
                  u.claim h p c.port vc pool false = (u.unhold h).depart h p c.port vc pool false))
          ∧ (u.mayWin h c.port vc p.units = none ∨ u.beaten h c.port vc = true → h.ferry = false →
            exec (.winOutput id) s = .next (u.wantAt h [(c.port, vc)]).ended))
      ∧ (h.ferry = false → h.pkt.get H.ferry ≠ 1 →
        let u := s.passTo (h.since + xbarNs (s.rd F.rteCfg_FERRY_WAIT))
        exec (.ferryWaitExpiry id) s = .next (u.gainFerry h).ended
        ∧ (u.on F.rteCfg_DNV = false ∨ (u.boundPort h).isSome = true ∨ (∃ c fp, (u.routeOf (u.phase2 h.pkt)).2 = .out c fp) →
            u.gainFerry h = { u with route := { u.route with held := u.route.held.map fun x =>
              if x.id = h.id then { h with ferry := true } else x } })))
  ∧ (∀ (id : Nat) (h : Held) (s : State), (s.route.flagged.find? (·.id == id)) = some h → s.halted = false →
      (h.behind.any s.unsacked = false → s.drainHolds h.pkt = false →
        exec (.flaggedRelease id) s = .next (s.releaseFlagged h).ended)
      ∧ (h.behind.any s.unsacked = true ∨ s.drainHolds h.pkt = true → exec (.flaggedRelease id) s = .next s)
      ∧ (h.pkt.get H.mclass = 1 → s.drainHolds h.pkt = false))
  ∧ (∀ (p : Packet) (s : State), s.halted = false →
      (p.get H.ptype = PT.dgram →
        let u := s.unarrive p
        let t := p.get H.tenant
        (p.crcOk = false → exec (.dgramArrival p) s = .next u.ended)
        ∧ (p.crcOk = true →
          (u.policed t = false ∨ u.rd (F.ten_DG_ACT t) = 0 → exec (.dgramArrival p) s = .next (u.dgramIn p false).ended)
          ∧ (u.policed t = true → u.rd (F.ten_DG_ACT t) = 1 →
            exec (.dgramArrival p) s = .next ((u.count (F.ten_POL_MARKED t)).dgramIn p true).ended)
          ∧ (u.policed t = true → 1 < u.rd (F.ten_DG_ACT t) →
            exec (.dgramArrival p) s = .next (u.count (F.ten_POL_DROPPED t)).ended)))
      ∧ (∀ said : Option PortNum, p.get H.ptype = PT.mgmt →
        let u := (s.unarrive p).policerCharge (p.get H.tenant) p.cost
        let n := s.arrivedBy p said
        (∀ h, s.arrivedOf p = some h → ∀ k : PortNum, h.inPort = some k.val → n = some k)
        ∧ (p.crcOk = false → exec (.mgmtArrival p said) s = .next u.ended)
        ∧ (p.crcOk = true →
          (u.mgmtVia (p.get H.src) n = none → exec (.mgmtArrival p said) s = .next (u.count F.rteStat_MGMT_REFUSED).ended)
          ∧ ∀ i, u.mgmtVia (p.get H.src) n = some i → Gives (exec (.mgmtArrival p said) s) fun v =>
              ∃ a ∈ v.route.mgmt, a.req.via = i ∧ a.req.port = n ∧ a.req.src.toNat = p.get H.src % 2 ^ 20
                ∧ a.body = p.payload)))
  ∧ (∀ (m : Mst) (w : Fin 2) (v : Word) (s : State),
      let sel := s.selOf m .rte
      let b := bits (BitVec.ofNat 64 sel) 17 17
      let mem := bits (BitVec.ofNat 64 sel) 16 16 = 1
      let r : Reg := if mem then .rteMem b (sel % 4096) w else .rteGrp b (sel % 4096) w
      let new := accWrite r false (s.get r) v
      WriteGives (.routeTableWrite m w v) m (0x1040080 + 8 * w.val) s (s.rteWrite m w v)
      ∧ (¬mem ∨ sel % 4096 < 64 →
        (b ≠ s.rd F.rteCfg_BANK → ∀ t, s.winWrite m 4 w sel r v = (t, true) → s.rteWrite m w v = t ∧ t.get r = new)
        ∧ (b = s.rd F.rteCfg_BANK → s.get r = new → s.rteWrite m w v = s)
        ∧ (b = s.rd F.rteCfg_BANK → w = 1 → s.get r ≠ new → s.rteWrite m w v = s.count F.rteStat_REFUSED)))
  ∧ ∀ (n : PortNum) (s : State), s.halted = false →
      ((s.port n).aligned = true →
        Gives (exec (.tideReportSend n) s) fun t =>
          (t.port n).tideAt = t.now ∧ (s.port n).tideAt + 500 ≤ t.now ∧ CD.tide ∈ (t.port n).ctl
            ∧ (s.on F.lnkGlbCfg_TEN = true → s.portUp n = true → (s.port n).timeAt + s.tPeriod ≤ t.now → CD.time ∈ (t.port n).ctl))
      ∧ ((s.port n).ctl = [CD.tide] → s.mayControl n = true → ∃ o : Octet, (s.ctlFlush n).out = s.out ++ [.control n o]
          ∧ bits o.w0 55 52 = 1 ∧ o.w1 = s.tideWord 0 ∧ o.w2 = s.tideWord 1 ∧ o.w3 = s.tideWord 2 ∧ o.w4 = s.tideWord 3)
      ∧ (s.on (F.rteLoop_EN n) = true →
        let u := s.passTo ((s.port n).winAt + 10000)
        let t := u.loopWindow n
        exec (.rteLoopWindow n) s = .next t.ended ∧ (s.port n).winAt + 10000 ≤ u.now
        ∧ (s.on (F.rteLoop_FREEZE n) = true →
            t.rd (F.rteLoop_BIAS n) = s.rd (F.rteLoop_BIAS n) ∧ t.rd (F.rteLoop_MARKTH n) = s.rd (F.rteLoop_MARKTH n))
        ∧ t.rd (F.rteLoop_BIAS n) ≤ s.rd (F.rteLoop_BIAS n) + 1 ∧ s.rd (F.rteLoop_BIAS n) ≤ t.rd (F.rteLoop_BIAS n) + 1
        ∧ (s.rd (F.rteLoop_BIAS_MIN n) ≤ s.rd (F.rteLoop_BIAS n) → s.rd (F.rteLoop_BIAS n) ≤ s.rd (F.rteLoop_BIAS_MAX n) →
            s.rd (F.rteLoop_BIAS_MIN n) ≤ t.rd (F.rteLoop_BIAS n) ∧ t.rd (F.rteLoop_BIAS n) ≤ s.rd (F.rteLoop_BIAS_MAX n)))
      ∧ ∀ (m : Mst) (v : Word),
          WriteGives (.rteLoopWrite m n v) m (portAddr n 0x108) s (s.rteLoopPut m n v)
          ∧ (bits v 57 54 ≤ bits v 53 50 → bits v 57 54 ≤ bits (loopNew (s.get (.rteLoop n)) v) 61 58
              ∧ bits (loopNew (s.get (.rteLoop n)) v) 61 58 ≤ bits v 53 50)

/-- The drain and the commands of the fabric manager (10 R348 to R353). A command whose payload spells it is carried out once
its answer can leave: a register is read or written under the gate of its master and refused where that denies it; STATUS answers
RTE_DRAIN; FWCTL refuses a malformed entry with its REASON, is busy while the ring has no room, and else places the
entry. START empties nothing itself: DSTATE becomes DRAINING and ACTIVITY 0; SWITCH acts only while DRAINING: the other
bank becomes active; RESUME acts only in a drain. -/
def Obligations.DrainAndFabricManager : Prop :=
  (∀ (r : MgmtReq) (s : State),
    (∀ (a : BitVec 25) (v : Word),
      (s.Answers r (saysReg 1 a) 8 →
        let u := s.forgotten r (saysReg 1 a)
        (∀ w, u.openReg (mgmtMst r) a.toNat .read = (w, true) →
          exec (.readReg r a) s = .next (w.readReg (mgmtMst r) a.toNat (some r)).ended)
        ∧ (∀ w, u.openReg (mgmtMst r) a.toNat .read = (w, false) →
          exec (.readReg r a) s = .next (w.mgmtAnswer r 1 MS.refused (bytesOf 8 (2 ^ 64 - 1))).ended))
      ∧ (s.Answers r (saysWrite a v) 0 →
        let u := s.forgotten r (saysWrite a v)
        (∀ w, u.openReg (mgmtMst r) a.toNat .write = (w, true) →
          let x := ({ w with audit := { w.audit with deny := false } } : State).writeReg (mgmtMst r) a.toNat v
          exec (.writeReg r a v) s = .next (x.mgmtAnswer r 2 (if x.audit.deny then MS.refused else MS.ok) []).ended)
        ∧ (∀ w, u.openReg (mgmtMst r) a.toNat .write = (w, false) →
          exec (.writeReg r a v) s = .next (w.mgmtAnswer r 2 MS.refused []).ended)))
    ∧ (s.Answers r (saysPlain 3) 0 →
        exec (.drain (.mgmt r)) s = .next ((s.forgotten r (saysPlain 3)).drainStart.mgmtAnswer r 3 MS.ok []).ended)
    ∧ (s.Answers r (saysPlain 4) 0 →
        exec (.switch (.mgmt r)) s = .next ((s.forgotten r (saysPlain 4)).drainSwitch.mgmtAnswer r 4 MS.ok []).ended)
    ∧ (s.Answers r (saysPlain 5) 0 →
        exec (.resume (.mgmt r)) s = .next ((s.forgotten r (saysPlain 5)).drainResume.mgmtAnswer r 5 MS.ok []).ended)
    ∧ (s.Answers r (saysPlain 6) 8 →
        let u := s.forgotten r (saysPlain 6)
        exec (.status r) s = .next (u.mgmtAnswer r 6 MS.ok (bytesOf 8 u.drainWord.toNat)).ended)
    ∧ (∀ (c : Nat) (a : BitVec 25) (v : Word) (bs : List Byte),
        (saysPlain c bs = true ↔ bits (wordOfBytes bs) 63 56 = c)
        ∧ (saysReg c a bs = true ↔ saysPlain c bs = true ∧ bits (wordOfBytes (bs.drop 8)) 24 0 = a.toNat)
        ∧ (saysWrite a v bs = true ↔ saysReg 2 a bs = true ∧ wordOfBytes (bs.drop 16) = v))
    ∧ ∀ (e : Octet) (data : List Byte), s.Answers r (saysEntry e data) 1 →
        let u := s.forgotten r (saysEntry e data)
        (∀ why, u.malReason 0 e none = some why →
          exec (.fwctl r e data) s = .next (u.mgmtAnswer r 7 MS.refused [BitVec.ofNat 8 why]).ended)
        ∧ (u.malReason 0 e none = none →
          (u.qState 0 ≠ QS.active ∨ u.qDepth 0 = 2 ^ u.qLog 0 →
            exec (.fwctl r e data) s = .next (u.mgmtAnswer r 7 MS.busy []).ended)
          ∧ (u.qState 0 = QS.active → u.qDepth 0 ≠ 2 ^ u.qLog 0 →
            exec (.fwctl r e data) s = .next (u.fwctlPlace r e data).ended)))
  ∧ ∀ (m : Mst) (s : State),
      WriteGives (.drain (.reg m)) m 0x8308 s s.drainStart ∧ WriteGives (.switch (.reg m)) m 0x8308 s s.drainSwitch
      ∧ WriteGives (.resume (.reg m)) m 0x8308 s s.drainResume
      ∧ (s.rd F.rteCfg_DSTATE = 0 → s.drainStart.rd F.rteCfg_DSTATE = 1 ∧ s.drainStart.rd F.rteDrain_ACTIVITY = 0
          ∧ OnlyWords (fun r => r = .rteCfg ∨ r = .rteDrain) s s.drainStart)
      ∧ (s.rd F.rteCfg_DSTATE ≠ 0 → s.drainStart = s)
      ∧ (s.rd F.rteCfg_DSTATE = 1 → s.drainSwitch.rd F.rteCfg_DSTATE = 2
          ∧ s.drainSwitch.rd F.rteCfg_BANK = 1 - s.rd F.rteCfg_BANK ∧ OnlyWords (· = .rteCfg) s s.drainSwitch)
      ∧ (s.rd F.rteCfg_DSTATE ≠ 1 → s.drainSwitch = s) ∧ (s.draining = false → s.drainResume = s)

/-! ## The link layer (11) -/

/-- Frames and the state of a link (11 R366 to R391). A frame with a lane error is treated as a failed CRC; a packet that
won the port leaves with the next FSEQ and is kept for replay; a valid acknowledgement moves the rewind mark and frees
what it covers; CREDIT and TIME frames fall due and leave before their command ends, and control frames are taken in; a
retrain ends in replay or in link down; a link comes up with its sequence and credit counts at zero. -/
def Obligations.LinkFramesAndState : Prop :=
  ∀ (n : PortNum) (s : State), s.halted = false →
    let p := s.port n
    (∀ (bs f : List Byte) (x : FrameSeen), s.receives n = true → seenFrame x bs = some f →
      exec (.receiveDataFrame n bs x) s = .next (s.receiveFrame n f x.err x.cut).ended
      ∧ (x.slots = [] → f = bs)
      ∧ (x.err = true ∨ crcVerdict f = .bad → s.receiveFrame n f x.err x.cut = (s.cutThrough n f x.cut).badCrc n)
      ∧ (x.err = false → crcVerdict f = .good → (f.getD 7 0).toNat = 0xA5 →
          s.receiveFrame n f x.err x.cut = s.dataIn n f false x.cut)
      ∧ (x.err = false → crcVerdict f = .stomped → (f.getD 7 0).toNat = 0xA5 →
          s.receiveFrame n f x.err x.cut = (s.count (F.lnkCnt_STOMPED n)).dataIn n f true x.cut))
    ∧ (∀ i t, p.txq = i :: t → s.portUp n = true → p.retrain = none → s.replayRoom n i.pkt = true →
      exec (.sendDataFrame n) s = .next (s.frameOut n i t).ended
        ∧ (s.frameOut n i t).rd (F.lnkStat_NEXT n) = (s.rd (F.lnkStat_NEXT n) + 1) % 2 ^ 16
        ∧ ∃ f : RFrame, f.fseq = s.rd (F.lnkStat_NEXT n) ∧ f.pkt = i.pkt ∧ f.stomp = (i.stomp || i.parity)
          ∧ f ∈ ((s.frameOut n i t).port n).replay
          ∧ (i.parity = false → ((s.frameOut n i t).port n).replay = p.replay ++ [f]))
    ∧ (∀ a, a < 2 ^ 16 → 0 < serialSub 16 a (s.rd (F.lnkStat_RMARK n)) →
        serialSub 16 a (s.rd (F.lnkStat_RMARK n)) ≤ serialSub 16 (s.rd (F.lnkStat_NEXT n)) (s.rd (F.lnkStat_RMARK n)) →
        (s.applyAck n a false).rd (F.lnkStat_RMARK n) = a
          ∧ ((s.applyAck n a false).port n).replay = p.replay.filter fun f => !precedes 16 f.fseq a)
    ∧ (p.replay.isEmpty = false → p.retrain = none → s.portUp n = true →
        (p.expired = false → exec (.replayTimerExpiry n) s
          = .next ((s.passTo (p.timer + max 500 (s.rd (F.lnkCfg_RTIMEOUT n)))).replayDue n).ended)
        ∧ (p.expired = true → exec (.replayTimerExpiry n) s = .next (s.replayDue n).ended))
    ∧ (p.aligned = true → p.retrain = none →
        (p.creditDirty = true → s.dataReady n = false → exec (.creditFramePeriod n) s = .next ((s.ctlDue n CD.credit).ctlPeriods n).ended
            ∧ CD.credit ∈ (((s.ctlDue n CD.credit).ctlPeriods n).port n).ctl)
        ∧ (p.creditDirty = false ∨ s.dataReady n = true → Gives (exec (.creditFramePeriod n) s) fun t =>
            p.creditAt + max 1 (s.rd F.lnkGlbCfg_CRPERIOD) * 10 ≤ t.now ∧ CD.credit ∈ (t.port n).ctl
              ∧ (s.on F.lnkGlbCfg_TEN = true → s.portUp n = true → p.timeAt + s.tPeriod ≤ t.now → CD.time ∈ (t.port n).ctl)))
    ∧ (∀ k, CD.lane ≤ k → k ≤ CD.credit → p.ctl = [k] → (k = CD.nak → p.nakDue = true) →
        let u := s.setPort n fun q => { q with ctl := [] }
        s.ctlFlush n = if k = CD.lane then u.sendLane n else if k = CD.time then u.sendTime n else if k = CD.tide then u.sendTide n
          else u.sendCredit n)
    ∧ (∀ f : Octet,
        let kind := bits f.w0 55 52
        let other := controlVerdict f = .bad ∨ bits f.w0 63 56 ≠ 0x5C
        (other ∨ kind = 0 ∨ 4 ≤ kind → exec (.creditFrame n f) s = .next (s.receiveControl n f).ended)
        ∧ (other ∨ kind = 1 → exec (.tideFrame n f) s = .next (s.receiveControl n f).ended)
        ∧ (other ∨ kind = 2 → exec (.timeFrame n f) s = .next (s.receiveControl n f).ended)
        ∧ (other ∨ kind = 3 → exec (.laneFrame n f) s = .next (s.receiveControl n f).ended))
    ∧ (s.on F.lnkGlbCfg_TEN = true → s.portUp n = true → p.retrain = none → Gives (exec (.timeFramePeriod n) s) fun t =>
        (t.port n).timeAt = t.now ∧ p.timeAt + s.tPeriod ≤ t.now ∧ CD.time ∈ (t.port n).ctl)
    ∧ (s.on F.lnkTimeStat_GM = false → s.on F.lnkTimeStat_FREERUN = false → s.rd F.lnkTimeStat_DIST ≠ 0 →
        let m := s.rd F.lnkTimeStat_PARENT
        (∀ t, s.announcement m = some t → exec .gmAnnounceLapse s
          = .next ((s.passTim (t.atTim + 4 * s.tPeriod + 1)).parentLost m).ended)
        ∧ (s.announcement m = none → exec .gmAnnounceLapse s = .next (s.parentLost m).ended))
    ∧ (∀ r, p.retrain = some r →
        (r.training = true →
          (s.lanesReady n = true → r.prbs = 2 → s.now ≤ s.retrainLimit n r →
            ∀ ok, exec (.fastRetrainEnd n ok) s = .next (s.retrainOk n).ended)
          ∧ (s.lanesReady n = false ∨ r.prbs ≠ 2 → s.now ≤ s.retrainLimit n r →
            exec (.fastRetrainEnd n false) s = .next ((s.passTo (s.retrainLimit n r)).linkDown n).ended
            ∧ exec (.fastRetrainEnd n true) s = .next s)
          ∧ (s.retrainLimit n r < s.now → ∀ ok, exec (.fastRetrainEnd n ok) s = .next (s.linkDown n).ended))
        ∧ (r.training = false → r.accepted = false → r.initiator = true →
          exec (.retrainAcceptTimeout n) s = .next ((s.passTo (r.began + 10526)).setPort n
            fun p => { p with retrain := some { r with accepted := true } }).ended))
    ∧ (∀ t, p.patternAt = some t →
        let u := s.passTo (t + 10000)
        exec (.linkDownPatternEnd n) s = .next ((u.patternOut n (u.now - t)).bringUp n).ended ∧ t + 10000 ≤ u.now)
    ∧ (s.mayComeUp n = true →
        let t := s.comeUp n
        exec (.linkUp n) s = .next t.ended ∧ t.rd (F.rtePort_UP n) = 1 ∧ t.rd (F.lnkStat_LSTATE n) = 2
          ∧ t.rd (F.lnkStat_NEXT n) = 0 ∧ t.rd (F.lnkStat_EXPECT n) = 0 ∧ t.rd (F.lnkStat_RMARK n) = 0
          ∧ ∀ j, j < 9 → t.rd (F.lnkCredit_USED n j) = 0)

/-! ## Optical lanes (12) -/

/-- Locks, lane records, maps and port control (12 R399 to R418, R427). While the device hunts, a lane takes alignment lock on
two alignment blocks and block lock on 64 valid headers; one that loses a lock loses both, and its loss is counted; training
ends under the first map with four lanes; a port from IDLE on counts each period; RETRAIN, WIDEN, RESTART and QUIESCE act
under their record; a quiesced port that no packet awaits stays down. A warm reset in progress holds the lanes (18 R564). The class
of a lane at its lock, and which losses its window counts, are the model's choice (log entry 67). -/
def Obligations.LanesAndPortControl : Prop :=
  ∀ (n : PortNum) (s : State),
    (∀ l : Fin 5,
      (∀ a b : BitVec 128, amarkFound a = true → amarkFound b = true →
        (s.hunting = true → s.held = false → exec (.alignmentLockGain ⟨n, l, []⟩ #v[a, b]) s = .next (s.lockGained n l b).ended)
        ∧ (s.lockGained n l b).rd (F.lneStat_ALOCK n l) = 1 ∧ (s.lockGained n l b).rd (F.lneStat_CDRLOCK n l) = 1)
      ∧ (∀ seen : Vector (BitVec 128) 4, s.on (F.lneStat_ALOCK n l) = true → (∀ p ∈ seen.toList, amarkFound p = false) →
        exec (.alignmentLockLoss ⟨n, l, []⟩ seen) s = .next (s.lockLost n l).ended)
      ∧ (∀ (hs : Vector (BitVec 2) 64) (ws : List (List Nat)), s.held = false → s.on (F.lneStat_BLOCK n l) = true →
          16 ≤ ((s.headersOn ⟨n, l, ws⟩ hs).filter fun h => !headerValid h).length →
        exec (.blockLockLoss ⟨n, l, ws⟩ hs) s = .next (s.lockLost n l).ended
          ∧ (s.lockLost n l).rd (F.lneCnt_LOCKLOSS n l) = (s.count (F.lneCnt_LOCKLOSS n l)).rd (F.lneCnt_LOCKLOSS n l))
      ∧ (s.lockLost n l).rd (F.lneStat_BLOCK n l) = 0 ∧ (s.lockLost n l).rd (F.lneStat_ALOCK n l) = 0
      ∧ (∀ hs : Vector (BitVec 2) 64, s.headersOn ⟨n, l, []⟩ hs = hs.toList)
      ∧ (∀ (hs : Vector (BitVec 2) 64) (ws : List (List Nat)), s.hunting = true → s.held = false → s.on (F.lneStat_ALOCK n l) = true →
          s.on (F.lneStat_BLOCK n l) = false → (s.headersOn ⟨n, l, ws⟩ hs).length = 64 →
          (∀ h ∈ s.headersOn ⟨n, l, ws⟩ hs, headerValid h = true) →
          let v := s.wr (F.lneStat_BLOCK n l) 1
          Gives (exec (.blockLockGain ⟨n, l, ws⟩ hs) s) fun t => t.rd (F.lneStat_BLOCK n l) = 1
            ∧ (s.rd (F.lneStat_RXHEALTH n l) = LC.none →
                t.rd (F.lneStat_RXHEALTH n l) = (v.wr (F.lneStat_RXHEALTH n l) (v.lockedClass n l)).rd (F.lneStat_RXHEALTH n l))
            ∧ (s.rd (F.lneStat_RXHEALTH n l) ≠ LC.none → t.rd (F.lneStat_RXHEALTH n l) = s.rd (F.lneStat_RXHEALTH n l)))
      ∧ ∀ (prev : BitVec 58) (bs : List Block) (r : Octet), recordOf prev bs = some r → s.on (F.lneStat_BLOCK n l) = true →
          recordOk r = true → s.halted = false → s.held = false →
          exec (.laneRecordReceive ⟨n, l, []⟩ prev bs) s = .next (s.recordIn n l r).ended)
    ∧ (∀ obs : List LaneObs, (s.held = false → exec (.laneClassWindow n obs) s = .next (s.laneWindows n obs).ended)
        ∧ (s.held = true → exec (.laneClassWindow n obs) s = .next s))
    ∧ (s.halted = false →
      (s.rd (F.prtStat_PSTATE n) = 1 → s.held = false → Gives (exec (.trainPhaseEnd n) s) fun t => t.rd (F.prtStat_PSTATE n) = 2
          ∧ t.rd (F.prtStat_TXMAP n) = 0x688 ∧ t.rd (F.prtStat_WIDTH n) = 4
          ∧ (s.port n).phaseAt + max 1 (s.rd (F.prtCfg_TRAIN_MIN n)) * 100000 ≤ t.now)
      ∧ (s.rd (F.prtStat_PSTATE n) = 2 → s.lanesReady n = true → exec (.portAligned n) s = .next (s.aligned n).ended
          ∧ (s.aligned n).rd (F.prtStat_PSTATE n) = 3 ∧ (s.aligned n).rd (F.lnkStat_EXPECT n) = 0)
      ∧ (s.rd (F.prtStat_PSTATE n) = 2 ∨ s.rd (F.prtStat_PSTATE n) = 3 →
          exec (.laneSpareSwap n) s = .next (s.spareSwap n).ended)
      ∧ (s.rd (F.prtStat_PSTATE n) = 2 ∨ s.rd (F.prtStat_PSTATE n) = 3 ∨ s.rd (F.prtStat_PSTATE n) = 4 →
          exec (.alignmentPeriodStart n) s = .next (s.periodStart n).ended
          ∧ ((s.port n).pend = none → (s.periodStart n).rd (F.prtStat_PCOUNT n) = (s.rd (F.prtStat_PCOUNT n) + 1) % 256))
      ∧ exec (.mapChangeApply n) s = .next (if s.mapPending n then s.applyMap n else s.applyPeerMap n).ended
      ∧ (s.on (F.prtCfg_QUIESCE n) = true → s.rd (F.lnkStat_RMARK n) = s.rd (F.lnkStat_NEXT n) → (s.port n).txq = [] →
          (∀ x ∈ s.route.landing, x.port ≠ n) → s.ferryAwaits n = false → s.rd (F.prtStat_PSTATE n) ≠ 5 → Gives (exec (.quiesceDone n) s) fun t => t.rd (F.prtStat_PSTATE n) = 5))
    ∧ ∀ (m : Mst) (v : Word),
        WriteGives (.lneRetrain m n v) m (portAddr n 0x10) s (s.lneCtl m n (setBits v 2 2 1))
        ∧ WriteGives (.lneWiden m n v) m (portAddr n 0x10) s (s.lneCtl m n (setBits v 1 1 1))
        ∧ WriteGives (.lneRestart m n v) m (portAddr n 0x10) s (s.lneCtl m n (setBits v 0 0 1))
        ∧ WriteGives (.quiesceWrite m n v) m (portAddr n 0) s (s.prtCfgPut m n v)

/-- Lamp modules (12 R419 to R426). A module that cannot be read is in FAULT; the response decides READY or UNAUTH; a
removed module leaves its words at reset; a step of the bias loop changes a bias by at most 0.1 mA; the hour of a lit
module is no earlier than an hour after the last; ENABLE, DISABLE and REAUTH act under their record. A warm reset in progress
holds identification, authentication and the bias loop (18 R564). -/
def Obligations.LampModules : Prop :=
  ∀ (i : Fin 16) (s : State),
    (∀ id : Option (List Byte), s.held = false →
      let u := (s.wr (F.lmpStat_PRESENT i) 1).wr (F.lmpStat_MSTATE i) MD.identifying
      ((∀ bs, id = some bs → bs.length < 24) → exec (.lampIdentify i id) s = .next (u.lampFault i).ended
          ∧ (u.lampFault i).rd (F.lmpStat_MSTATE i) = MD.fault)
      ∧ (∀ bs, id = some bs → 24 ≤ bs.length → exec (.lampIdentify i id) s = .next (u.lampIdentity i bs).ended))
    ∧ (s.held = true → (∀ id, exec (.lampIdentify i id) s = .next s) ∧ (∀ r, exec (.lampAuthResponse i r) s = .next s)
        ∧ ∀ r, exec (.biasLoopIteration i r) s = .next s)
    ∧ (∀ t, s.held = false → (s.lamp i).askedAt = some t →
        let u := s.passTo (t + 10000000)
        exec (.lampAuthResponse i none) s = .next ((u.setLamp i fun x => { x with askedAt := none }).lampFault i).ended
        ∧ ∀ r : List Byte, exec (.lampAuthResponse i (some r)) s = .next (u.lampAuth i (r.take 8 == u.lampExpects i)).ended)
    ∧ (s.on (F.lmpStat_PRESENT i) = true → (s.lamp i).en = false → Gives (exec (.lampRemoved i) s) fun t =>
        t.get (.lmpStat i) = (Reg.lmpStat i).reset ∧ ∀ e, t.get (.lmpEmit i e) = (Reg.lmpEmit i e).reset)
    ∧ ((s.lamp i).en = true → exec (.lampRemoved i) s
        = .next (((((s.lampGone i).setLamp i fun _ => {}).raise (Src.LAMP_REMOVED i) (lampArg i)).lampEvent i LE.removed 0)).ended)
    ∧ ((s.lamp i).en = true →
        (∀ r : List LampReading, s.held = false → s.on (F.lmpCfg_LOOP_EN i) = true → s.on (F.lmpCfg_FREEZE i) = false →
          let w := s.passTo ((s.lamp i).loopAt + 1000000)
          let u := (List.range 10).foldl (fun t p => match r[p]? with | some x => t.biasStep i p x | none => t)
            (w.setLamp i fun x => { x with loopAt := w.now })
          (s.lamp i).loopAt + 1000000 ≤ w.now ∧ exec (.biasLoopIteration i r) s = .next ((u.qualified i).foldl (fun t e => t.emitterSwitch i e) u).ended)
        ∧ Gives (exec (.lampHourTick i) s) fun t => (t.lamp i).lastTick = t.now ∧ (s.lamp i).lastTick + 3600000000000 ≤ t.now)
    ∧ (∀ (p e : Nat) (r : LampReading), s.emitterAt i p = some e → s.rd (F.lmpEmit_BIAS i e) ≤ s.biasRated i →
        (s.biasStep i p r).rd (F.lmpEmit_BIAS i e) ≤ s.biasRated i
          ∧ (s.biasStep i p r).rd (F.lmpEmit_BIAS i e) ≤ s.rd (F.lmpEmit_BIAS i e) + 1
          ∧ s.rd (F.lmpEmit_BIAS i e) ≤ (s.biasStep i p r).rd (F.lmpEmit_BIAS i e) + 1)
    ∧ ∀ (m : Mst) (v : Word),
        WriteGives (.lampEnable m i v) m (lampAddr i 0x10) s (s.lmpCtl m i (setBits v 2 2 1))
        ∧ WriteGives (.lampDisable m i v) m (lampAddr i 0x10) s (s.lmpCtl m i (setBits v 1 1 1))
        ∧ WriteGives (.lampReauth m i v) m (lampAddr i 0x10) s (s.lmpCtl m i (setBits v 0 0 1))

/-! ## Harbours and coherence (13) -/

/-- Messages between L1s and homes (13 R436 to R446). A request that reaches its home is decided there, or answered NACK where
another for its line goes before it, while its line's transaction or eviction is open, or where a reservation bars it; that
requests in flight together claim their line at one edge is the model's choice (log entry 63); a tie moves the pointer (01 R27); a
write of a host port waits behind an earlier one of that port (R452), and is sent again before the later ones; writebacks, acknowledgements, data, forwards,
invalidations and recalls act as the table of R440 gives; a NACK backs its request off between BO_MIN and BO_MAX, and not
longer than BO_MIN once it has aged; WB_ACK frees the writeback buffer; a reservation lapses. -/
def Obligations.CoherenceMessages : Prop :=
  (∀ (r : CohReq) (s : State),
    let e := mstEng r.req
    exec (.gets r) s = .next (s.homeArrive (.gets r) .gets r).ended
    ∧ exec (.getm r) s = .next (s.homeArrive (.getm r) .getm r).ended
    ∧ exec (.rdu r) s = .next (s.homeArrive (.rdu r) .rdu r).ended
    ∧ (∀ (off : Fin 64) (bs : List Byte),
        (s.wruWaits r (.wru r off bs) = false → exec (.wru r off bs) s
          = .next (s.homeArrive (.wru r off bs) (.wru off (bs.take (64 - off))) r).ended)
        ∧ (s.wruWaits r (.wru r off bs) = true → CohMsg.wru r off bs ∈ s.coh.msgs → exec (.wru r off bs) s = .next s.ended))
    ∧ (∀ (w : Fin 8) (op : AtomOp) (y cmp : Word), exec (.atu r w op y cmp) s
        = .next (s.homeArrive (.atu r w op y cmp) (.atu w op y cmp) r).ended)
    ∧ (∀ m k,
        let v := s.cohTake m
        (s.cohArbiter r.line = false → s.homeArrive m k r = v.homeRequest k r)
        ∧ (s.cohArbiter r.line = true →
          (s.cohOutbid r = true → ∃ l, s.homeArrive m k r
              = ({ v with coh := { v.coh with ties := l } } : State).homeNack k (sampledReq r s.now) false)
          ∧ (s.cohOutbid r = false → ∃ l ps,
              s.homeArrive m k r = ({ v with coh := { v.coh with ties := l, ptrs := ps } } : State).homeRequest k r
              ∧ (s.cohTie r = true → ps = v.coh.ptrs.put (lineHome r.line) ((mstIsl r.req + 1) % 16))
              ∧ (s.cohTie r = false → s.coh.ties.contains r.line.val = false → ps = v.coh.ptrs))))
    ∧ (∀ k, let u := s.dirCheck r.line
          let q := sampledReq r u.now
          (barred (u.coh.lineResv.find r.line.val) q = true → s.homeRequest k r = u.homeNack k q false)
          ∧ ∀ d, u.dir r.line = some d → d.ecc ≠ 2 → d.txn.isSome = true ∨ d.evict ≠ 0 →
              s.homeRequest k r = u.homeNack k q false)
    ∧ (∀ (dirty : Bool) d t, s.dir r.line = some d → d.ecc = 0 → d.txn = some t →
        (needsEntry t.kind = true → t.awaiting = none → mstEng t.req.req = e →
          exec (.cohDone r dirty) s = .next ((s.cohTake (.done r dirty)).setDir (d.afterDone t dirty)).ended)
        ∧ (needsEntry t.kind = false ∨ t.awaiting.isSome = true ∨ mstEng t.req.req ≠ e →
          exec (.cohDone r dirty) s = .next ((s.cohTake (.done r dirty)).cohProtocol r.line r.req).ended))
    ∧ (∀ o : EngNum,
        let dirty (w : L1Line) : Bool := decide (w.st = .m ∨ w.st = .o)
        let answers (i : Instr) (m : CohMsg) (f : State → L1Line → State) : Prop :=
          let u := (s.cohTake m).l1Check o r.line
          (∀ w, u.l1Find o r.line = some w → exec i s = .next (f u w).ended)
          ∧ (u.l1Find o r.line = none → u.wbInFlight o r.line = true → exec i s = .next (u.cohSend (.nackWb o r.line)).ended)
        answers (.fwdGets o r) (.fwdGets o r) (fun u w => (u.l1Update o { w with st := if dirty w then .o else .s }).cohSend
          (.dataS e r.line w.data w.poison (dirty w)))
        ∧ answers (.fwdGetm o r) (.fwdGetm o r) (fun u w => (u.l1Drop o r.line).cohSend
          (.dataM e r.line (some w.data) w.poison (dirty w)))
        ∧ ∀ d, s.dir r.line = some d → (s.cohTake (.fwdRdu o r)).l1Check o r.line = s.cohTake (.fwdRdu o r) →
          answers (.fwdRdu o r) (.fwdRdu o r) (fun u w => (u.cohReply r w.data w.poison).setDir { d with txn := none }))
    ∧ (∀ x, (s.coh.nacked.find? fun x => sameReq x.2 r) = some x → Gives (exec (.cohNack r) s) fun t =>
        ∃ b, b ∈ t.coh.backoffs ∧ b.req = r ∧ b.kind = x.1
          ∧ b.due = s.now + (s.backoff (lineHome r.line) r.nacks + 2) / 3)
    ∧ (∀ h n, (8 ≤ n → s.backoff h n = s.boMin h) ∧ (1 ≤ n → n < 8 → s.boMin h ≤ s.backoff h n ∧ s.backoff h n ≤ s.boMax h))
    ∧ (∀ b, (s.coh.backoffs.find? fun b => sameReq b.req r) = some b →
        let w := s.passTo b.due
        let u : State := { w with coh := { w.coh with backoffs := w.coh.backoffs.erase b } }
        let m := reqMsg b.kind b.req
        b.due ≤ w.now
        ∧ (hostWrite m = false → exec (.cohRetry r) s = .next (u.cohSend m).ended)
        ∧ (hostWrite m = true →
          exec (.cohRetry r) s = .next ({ u with coh := { u.coh with msgs := m :: u.coh.msgs } } : State).ended)))
  ∧ ∀ (e : EngNum) (l : Fin 268435456) (s : State),
      exec (.putm e l) s = .next ((s.cohTake (.putm e l)).homePut e l .m).ended
      ∧ exec (.puto e l) s = .next ((s.cohTake (.puto e l)).homePut e l .o).ended
      ∧ exec (.pute e l) s = .next ((s.cohTake (.pute e l)).homePut e l .e).ended
      ∧ exec (.inv e l) s = .next ((s.cohTake (.inv e l)).l1Inval e l false).ended
      ∧ exec (.binv e l) s = .next ((s.cohTake (.binv e l)).l1Inval e l true).ended
      ∧ (let u := (s.cohTake (.recall e l)).l1Check e l;
          (u.l1Find e l = none → u.wbInFlight e l = true → exec (.recall e l) s = .next (u.cohSend (.nackWb e l)).ended)
          ∧ (u.l1Find e l = none → u.wbInFlight e l = false →
            exec (.recall e l) s = .next (u.cohSend (.invAck (engIsl e) l none false)).ended)
          ∧ (∀ w, u.l1Find e l = some w → exec (.recall e l) s
              = .next ((u.l1Drop e l).cohSend
                  (.invAck (engIsl e) l (if w.st = .m ∨ w.st = .o then some w.data else none) w.poison)).ended))
      ∧ (∀ (data : List Byte) (poison dirty : Bool),
          exec (.dataS e l data poison dirty) s
            = .next ((s.cohTake (.dataS e l data poison dirty)).l1Data e l .s data poison dirty).ended
          ∧ exec (.dataE e l data poison) s = .next ((s.cohTake (.dataE e l data poison)).l1Data e l .e data poison false).ended
          ∧ exec (.dataM e l (some data) poison dirty) s
            = .next ((s.cohTake (.dataM e l (some data) poison dirty)).l1Data e l .m data poison dirty).ended
          ∧ let u := (s.cohTake (.dataM e l none poison dirty)).l1Check e l
            ∀ w, u.l1Find e l = some w →
              exec (.dataM e l none poison dirty) s = .next (u.l1Data e l .m w.data w.poison dirty).ended)
      ∧ (∀ (i : Fin 16) (poison : Bool) d t, s.dir l = some d → d.ecc = 0 → d.evict = 0 → d.txn = some t →
          t.nackd = false → t.acks ≠ 0 →
          let u := s.cohTake (.invAck i l none poison)
          let t' : Txn := { t with acks := t.acks - 1 }
          let d' : DirEntry := { d with txn := some t' }
          (t.acks - 1 ≠ 0 → exec (.invAck i l none poison) s = .next (u.setDir d').ended)
          ∧ (t.acks - 1 = 0 → exec (.invAck i l none poison) s = .next ((u.setDir d').homeGo d' t').ended))
      ∧ (∀ d t, s.dir l = some d → d.ecc = 0 → d.txn = some t → t.kind = .gets ∨ t.kind = .getm ∨ t.kind = .rdu →
          d.st = some .x ∨ d.st = some .o → d.owner = e.val → exec (.nackWb e l) s
            = .next ((s.cohTake (.nackWb e l)).setDir { d with txn := some { t with nackd := true } }).ended)
      ∧ (Gives (exec (.wbAck e l) s) fun t => ∀ w ∈ t.coh.wb, ¬(w.eng = e.val ∧ w.line = l.val))
      ∧ (∀ v, s.coh.lineResv.find l.val = some v → Gives (exec (.reservationLapse l false) s) fun t =>
          t.coh.lineResv.find l.val = none ∧ v.made + 342 ≤ t.now)
      ∧ (∀ v, s.coh.setResv.find (dirSetKey l) = some v → Gives (exec (.reservationLapse l true) s) fun t =>
          t.coh.setResv.find (dirSetKey l) = none ∧ v.made + 342 ≤ t.now)

/-! ## GDDR6 (14) -/

/-- Scrub, remap, retrain, wear, migration, injection, allocation and placement (14 R466 to R477). A visit moves a
logical channel's scrub on by one group, in a pass no earlier than its period; a line with an uncorrectable codeword becomes
poison; a retrain ends with the channel in service again or failed; a channel that is worn at the end of its second raises
and migrates; a migration starts only on a SPARE channel and its switch maps the logical channel to it; an allocation that
is empty, outside an extent or over another is refused and counted; a window of the placement loop unpins what is cold. The
model's choices (log entry 70): what the operands edc, sym, pin and up of a wear window and obs of a placement window tell, when a
second, a scrub pass and a migration's copy begin and end, and the refusal of a migration of LCH 16 to 31, which no map has. -/
def Obligations.Gddr6Controllers : Prop :=
  ∀ s : State,
    (∀ (ch : Fin 16) (o : ScrubObs), s.halted = false → s.held = false → s.scrubDone ch = false → (∀ x, s.gddr.mig = some x → x.lch ≠ ch.val) →
      s.gddr.retrain.find (s.rd (F.gdmMap_PCH ch)) = none →
      let u := s.passTo s.gddr.scrubAt
      exec (.scrubVisit ch o) s = .next (u.scrub ch o).ended ∧ s.gddr.scrubAt ≤ u.now)
    ∧ (∀ (p : Fin 18) (bank : Fin 16) (row : Fin 32768) (u : State), s.halted = false → s.rowWorn p bank row = true →
        row.val < 32256 → s.freeSpare p bank < 32768 →
        let sp := s.freeSpare p bank
        s.audRepair { kind := RK.row, master := 0x1080, addr := bank.val * 32 + p.val, old := BitVec.ofNat 64 row.val
                      new := BitVec.ofNat 64 sp } = (u, true) →
        let v := ((u.injectedIn p bank row).foldl (fun t l => t.heal l false) u).remapIn { ch := p, bank := bank, row := row, spare := sp }
        let x : State := { v with gddr := { v.gddr with rowCorr := v.gddr.rowCorr.del (rowKey p bank row) } }
        exec (.rowRemap p bank row) s = .next (x.raise (Src.GDM_ROW_SPARED (p / 2))
            { atype := 7, unit := p, addr := x.rowOffset p bank row }).ended
          ∧ v.rowAt p bank row = some sp)
    ∧ (∀ (p : Fin 18) (was : Nat), s.halted = false → s.gddr.contained.contains p.val = false →
        s.gddr.retrain.find p.val = some was →
        let u := s.count (F.gdmChCnt_RETRAINS p)
        exec (.channelRetrainEnd p true) s = .next ((({ u with gddr := { u.gddr with retrain := u.gddr.retrain.del p } } : State).setCh
          p was).tally 16 0x81).ended
        ∧ exec (.channelRetrainEnd p false) s
            = .next (((u.setCh p CH.failed).condRise (Src.GDM_CH_FAIL (p / 2)) p { atype := 14, addr := p, unit := p }).chFail p).ended)
    ∧ (∀ (p : Fin 18) (edc : List (Nat × Nat × Nat)) (sym : List (Nat × Sym)) (pin : Fin 16) (up : Bool),
        s.halted = false → s.held = false →
        let w := (s.secondNow p).secondMet p edc sym
        let v := (w.passTo ((w.gddr.second.at p {}).since + 1000000000)).showPins p pin up
        let u := v.second p fun _ => { since := v.now }
        (w.gddr.second.at p {}).since + 1000000000 ≤ v.now
        ∧ (v.chWorn p = true ↔ (v.gddr.second.at p {}).worn = true ∨ v.rd F.gdmCfg_EDCTH ≤ (v.gddr.second.at p {}).edc
            ∨ v.rd F.gdmCfg_SYMTH ≤ (v.gddr.second.at p {}).pins.length)
        ∧ (v.chWorn p = false → exec (.channelWearWindow p edc sym pin up) s = .next u.ended)
        ∧ (v.chWorn p = true → exec (.channelWearWindow p edc sym pin up) s
            = .next ((u.raise (Src.GDM_CH_WEAR (p / 2)) { atype := 14, addr := p, unit := p }).migrateWorn p).ended))
    ∧ (∀ (m : Mst) (v : Word) (p : Fin 18),
        WriteGives (.migrationGo m v) m 0x2F0008 s (s.migWrite m (setBits v 63 63 1))
        ∧ WriteGives (.migrationAbort m v) m 0x2F0008 s (s.migWrite m (setBits v 62 62 1))
        ∧ WriteGives (.errinjArm m p v) m (chAddr p 0x10) s (s.errinjWrite m p (setBits v 63 63 1))
        ∧ WriteGives (.allocEntryWrite m v) m 0x2F0048 s (s.allocWrite m v)
        ∧ (bits v 63 63 = 1 → s.gddr.mig.isSome = true ∨ 16 ≤ bits v 59 55 ∨ 18 ≤ bits v 54 50
              ∨ s.rd (F.gdmChStat_CSTATE (bits v 54 50)) ≠ CH.spare → s.migWrite m v = s.count F.gdmStat_REFUSED)
        ∧ (let i := s.selOf m .alloc
          (4096 < i → s.allocWrite m v = s)
          ∧ (i ≤ 4096 → s.on (F.alloc_EN i) = false → bits v 63 63 = 1 → s.allocRefused i (bits v 13 0) (bits v 45 32) = true →
              s.allocWrite m v = s.count F.gdmStat_REFUSED)))
    ∧ (∀ (g0 : Migration) (u : State), s.gddr.mig = some g0 → s.halted = false → s.gddr.retrain.find g0.old = none →
        s.gddr.retrain.find g0.new = none →
        let z := (s.passTo (s.copyEnd g0)).copySync
        let g := z.gddr.mig.getD g0
        let r : AudRec := { kind := RK.migrate, addr := g.lch, old := BitVec.ofNat 64 g.old, new := BitVec.ofNat 64 g.new }
        s.copyEnd g0 ≤ (s.passTo (s.copyEnd g0)).now
        ∧ (z.audRepair r = (u, false) → exec .migrationSwitch s = .next u.ended)
        ∧ (z.audRepair r = (u, true) →
          let w := ((u.takeNew g).wr F.gdmMig_MSTATE 2).mapTo g.lch g.old g.new
          let x := ({ w with gddr := { w.gddr with mig := none } } : State).condClear (Src.GDM_CH_FAIL (g.old / 2)) g.old
          exec .migrationSwitch s
            = .next ((x.evPost 0 3 0x7000 (x.audNewest RK.migrate % 2 ^ 32) (Config.freeWord x.free).toNat).drawn.raise
                (Src.GDM_MIGRATED (g.new / 2)) { atype := 7, unit := g.new, addr := lchOffset g.lch 0 }).ended))
    ∧ (∀ lch old new : Nat,
        (lch < 16 → old ≠ new → new < 32 →
            (s.mapTo lch old new).rd (F.gdmMap_PCH lch) = new ∧ (s.mapTo lch old new).rd (F.gdmChStat_CSTATE old) = CH.retired
              ∧ (s.mapTo lch old new).rd (F.gdmChStat_CSTATE new) = CH.active
              ∧ (s.mapTo lch old new).rd (F.gdmChStat_LCH new) = lch))
    ∧ (∀ (l : Nat) (scrub : Bool) (u : State),
        let h := (s.tally 16 0x80).chHeld (s.lineCh l)
        (h.chDown (h.lineCh l) = true → s.heal l scrub = h)
        ∧ (h.chDown (h.lineCh l) = false →
          (h.edcRead l 7 = (u, true) → s.heal l scrub = u)
          ∧ (h.edcRead l 7 = (u, false) → u.poison.find l = none →
            let bad := u.lineBad l
            (bad = [] → s.heal l scrub = u)
            ∧ (bad ≠ [] → (s.heal l scrub).lineBad l = []
                ∧ (uncWords l bad ≠ [] → (s.heal l scrub).poison.find l = some ())
                ∧ (uncWords l bad = [] → (s.heal l scrub).poison.find l = none)))))
    ∧ (s.held = true → (∀ ch o, exec (.scrubVisit ch o) s = .next s) ∧ ∀ obs, exec (.placementWindow obs) s = .next s)
    ∧ ∀ obs : List (Bool × Nat × Nat), s.halted = false → s.held = false → s.on F.gdmPlace_EN = true →
        s.on F.gdmPlace_FREEZE = false →
        let count (c : Bool × Nat) : Nat := ((obs.find? fun o => o.1 == c.1 && o.2.1 == c.2).map (·.2.2)).getD 0
          + s.gddr.hits.at (2 * c.2 + if c.1 then 1 else 0) 0
        let seen : List (Bool × Nat) := (obs.map (fun (o : Bool × Nat × Nat) => (o.1, o.2.1))
          ++ s.gddr.hits.map fun (h : Nat × Nat) => (h.1 % 2 == 1, h.1 / 2)).eraseDups
        let hot := seen.filter fun c => decide (s.rd F.gdmPlace_HOT_TH ≤ count c)
          && decide (c.2 < if c.1 then 1048576 else 262144)
        let w := s.passTo (s.gddr.placeAt + s.placeWindow)
        let u : State := { w with gddr := { w.gddr with
          placeAt := w.now, pins := s.gddr.pins.filter fun c => decide (s.rd F.gdmPlace_COLD_TH ≤ count c), hits := [] } }
        s.gddr.placeAt + s.placeWindow ≤ w.now ∧ exec (.placementWindow obs) s = .next (hot.foldl State.pinOne u).repin.ended

/-! ## Gates, semaphores and the lifecycle (15) -/

/-- A locked gate entry, and a gate under CLOCK, stay as they are (15 R489). A semaphore is never taken from its owner:
an acquire stalls behind a holder, or answers BUSY and is counted where all 1,024 places are taken (R498), a try answers BUSY; taking sets OWNER and HELD and clears ABANDONED; a release by its
owner frees it, any other is counted and raises; a stalled claim is granted only while the semaphore is free, or ends
BUSY 2 µs after it was made, also where the semaphore is free by then (R493 to R497). The lifecycle moves forward only, at F, and waits for reset (R504). -/
def Obligations.GatesSemaphoresAndLifecycle : Prop :=
  ∀ (m : Mst) (v : Word) (s : State),
    (∀ (g : Fin 23) (e : Fin 64) (w : Fin 2),
      WriteGives (.gateEntryWrite m g e w v) m (gateEntAddr g e w) s (s.gateEntryPut m g e w v)
      ∧ WriteGives (.gateCtlWrite m g v) m (0xA000 + 8 * g.val) s (s.gateCtlPut m g v)
      ∧ ReadGives (.gateFenceRead m g) m (0xA200 + 8 * g.val) s (s.fenceRead m g)
      ∧ (s.on (F.gteEnt_LOCK g e) = true → s.gateEntryPut m g e w v = s)
      ∧ (s.on (F.gteCtl_CLOCK g) = true → s.gateCtlPut m g v = s)
      ∧ (∀ f, (s.guard.fences.find? fun f => f.m == m && f.gate == g.val) = some f →
          let u : State := { s with guard := { s.guard with fences := s.guard.fences.erase f } }
          (u.gateBusy g f.since f.mark = true ∨ f.since + 2000 < s.now →
            exec (.gateFenceTimeout m g) s = .next ((u.passTo (f.since + 2000)).reply m f.req 0).ended)
          ∧ (u.gateBusy g f.since f.mark = false → s.now ≤ f.since + 2000 →
            exec (.gateFenceTimeout m g) s = .next (u.reply m f.req 0x8000000000000000).ended)))
    ∧ (∀ n : Fin 4096,
      ReadGives (.semAcqRead m n) m (0x40000 + 8 * n.val) s (s.semAcq m n)
      ∧ ReadGives (.semTryRead m n) m (0x48000 + 8 * n.val) s (s.semTryWord m n)
      ∧ WriteGives (.semRelWrite m n v) m (0x50000 + 8 * n.val) s (s.semRelPut m n v)
      ∧ ((s.semTake n m).1.semOwns n m = true ∧ (s.semTake n m).1.on (F.sem_ABANDONED n) = false
          ∧ OnlyWords (· = .sem n) s (s.semTake n m).1)
      ∧ (s.semOwns n m = true → s.semTry n m = (s, SS.owned) ∧ (s.semRelease n m).1.semHeld n = false
          ∧ (s.semRelease n m).2 = SS.released)
      ∧ (s.semOwns n m = false →
          (s.semHeld n = true → s.semTry n m = (s, SS.busy) ∧ (s.rd F.semStat_WAITING < 1024 → (s.semAcq m n).semHeld n = true
            ∧ (s.semAcq m n).rd (F.sem_OWNER n) = s.rd (F.sem_OWNER n)))
          ∧ (s.semRelease n m).2 = SS.notOwner ∧ (s.semRelease n m).1.get (.sem n) = s.get (.sem n)
          ∧ (s.semRelease n m).1 = (s.count F.semStat_BADREL).raise Src.SEM_BAD_RELEASE
              { addr := 0x800050000 + 8 * n, master := m.toNat, atype := 2 }
          ∧ (s.count F.semStat_BADREL).rd F.semStat_BADREL = satAdd 16 (s.rd F.semStat_BADREL) 1)
      ∧ (bits v 0 0 = 1 → s.semRelPut m n v = (s.semRelease n m).1)
      ∧ (1024 ≤ s.rd F.semStat_WAITING →
          s.semAcq m n = (s.count F.semStat_WAITFULL).reply m none (s.semWord n SS.busy))
      ∧ (s.semOwns n m = true → (s.rd F.semStat_WAITING < 1024 → s.semAcq m n = s.reply m none (s.semWord n SS.owned))
          ∧ ∀ c ∈ (s.ownedReads n m).semClaims n, c.m = m → c.lock = true)
      ∧ (s.semHeld n = false →
          let v := s.semLate n
          let l := v.semClaims n
          (claimWinner v.now (v.guard.ptrs.at n 0) l = none → exec (.semaphoreClaimGrant n) s = .next v.ended)
          ∧ ∀ c, claimWinner v.now (v.guard.ptrs.at n 0) l = some c → c ∈ l ∧ (c.lock = true ∨ s.now ≤ c.since + 2000)
            ∧ exec (.semaphoreClaimGrant n) s = .next (((v.semPoint n l c).setClaims n (l.erase c)).claimGo n c).ended)
      ∧ (s.semHeld n = true → ∀ c, ((s.semClaims n).find? fun c => c.m == m && !c.lock) = some c →
          let u := (s.passTo (c.since + 2000)).setClaims n ((s.semClaims n).erase c)
          exec (.semAcqTimeout m n) s = .next (u.reply m c.req (u.semWord n SS.busy)).ended ∧ c.since + 2000 ≤ u.now))
    ∧ WriteGives (.lcsAdvance m v) m 0x9808 s (s.lcsPut m v)
    ∧ (s.atF m = false ∨ bits v 63 48 ≠ 0x4C43 ∨ bits v 1 0 ≤ s.rd F.lcsState_STATE → s.lcsPut m v = s)
    ∧ (s.atF m = true → bits v 63 48 = 0x4C43 → s.on F.lcsState_PENDING = false → s.rd F.lcsState_STATE < bits v 1 0 → ∀ u,
        s.askRec m RK.lifecycle 0 (BitVec.ofNat 64 (s.rd F.lcsState_STATE)) (BitVec.ofNat 64 (bits v 1 0)) = (u, true) →
        (s.lcsPut m v).rd F.lcsState_PENDING = 1 ∧ (s.lcsPut m v).rd F.lcsState_NEXT = bits v 1 0
          ∧ (s.lcsPut m v).fuses.pending = some (bits v 1 0))
    ∧ (s.lcsPut m v).rd F.lcsState_STATE = s.rd F.lcsState_STATE

/-! ## Faults, sparing, counters, time and the audit log (16, 17) -/

/-- Writes of the fault registers, and sparing (16 R512 to R535). A severity below MINSEV, of a FIXED source or under
SLOCK is not taken; an accepted one is recorded and taken; FORCE raises under its record; CLRCNT clears the count; VALID
clears a domain record; RELEASE ends the hold of the fault pair except at a halt; a write whose record is refused does none of
it (17 R555). A raise counts, latches, and takes the record of its domain where that is free (R515, R516). An engine that does
not fail is not retired; with its REPAIR record EN of its contexts clears, and once each is IDLE the spare takes it over, or it
is switched off; a soft-repair record is appended while a spare remains (R532). What counts as two errors of an engine, which
memory a soft-repair address names, and that an engine without a spare waits for IDLE too, are the model's (log entry 75). -/
def Obligations.FaultRegistersAndSparing : Prop :=
  ∀ s : State,
    (∀ (m : Mst) (n : Fin 1536) (v : Word),
      WriteGives (.faultForce m n v) m (fltSrcAddr n) s (s.fltSrcPut m n (setBits v 56 56 1))
      ∧ WriteGives (.fltSrcSevWrite m n v) m (fltSrcAddr n) s (s.fltSrcPut m n v)
      ∧ WriteGives (.faultClrcnt m n v) m (fltSrcAddr n) s (s.fltSrcPut m n (setBits v 47 47 1))
      ∧ (bits v 56 56 = 0 → s.sevAccepted n (bits v 63 61) = false →
          (s.fltSrcPut m n v).rd (F.fltSrc_SEV n) = s.rd (F.fltSrc_SEV n))
      ∧ (∀ k, s.on F.fltCfg_SLOCK = true ∨ s.on (F.fltSrc_FIXED n) = true ∨ k < s.rd (F.fltSrc_MINSEV n) ∨ 4 < k →
          s.sevAccepted n k = false)
      ∧ (bits v 56 56 = 0 → bits v 55 55 = 0 → bits v 47 47 = 0 → (srcInfo n).isSome = true →
          s.sevAccepted n (bits v 63 61) = true → ∀ u,
          s.askRec m RK.reg (fltSrcAddr n) (s.get (.fltSrc n)) (setBits (s.get (.fltSrc n)) 63 61 (bits v 63 61)) = (u, true) →
          s.fltSrcPut m n v = u.wr (F.fltSrc_SEV n) (bits v 63 61))
      ∧ (bits v 56 56 = 0 → bits v 55 55 = 0 → s.sevAccepted n (bits v 63 61) = false → (srcInfo n).isSome = true →
          s.fltSrcPut m n (setBits v 47 47 1) = s.wr (F.fltSrc_COUNT n) 0)
      ∧ (bits v 56 56 = 0 → (srcInfo n).isSome = true → s.sevAccepted n (bits v 63 61) = true → ∀ u,
          s.askRec m RK.reg (fltSrcAddr n) (s.get (.fltSrc n)) (setBits (s.get (.fltSrc n)) 63 61 (bits v 63 61)) = (u, false) →
          s.fltSrcPut m n v = u)
      ∧ (bits v 56 56 = 1 → (srcInfo n).isSome = true → s.forceActs m n = true → ∀ u,
          s.askRec m RK.force n 0 (s.get .fltForceArg) = (u, false) → s.fltSrcPut m n v = u))
    ∧ (∀ (n : Nat) (a : RaiseArg), (srcInfo n).isSome = true →
        let t := s.raiseRec n a
        t.on (F.fltSrc_LATCHED n) = true ∧ t.rd (F.fltSrc_COUNT n) = satAdd 16 (s.rd (F.fltSrc_COUNT n)) 1
          ∧ (s.on (F.fltDom_VALID (n / 24)) = false → t.on (F.fltDom_VALID (n / 24)) = true ∧ t.rd (F.fltDom_FIRST (n / 24)) = n
            ∧ t.rd (F.fltDom_SEV (n / 24)) = s.rd (F.fltSrc_SEV n)))
    ∧ (∀ (m : Mst) (d : Fin 64) (v : Word),
      WriteGives (.faultRecordClear m d v) m (0x24010 + 32 * d.val) s (s.fltDomPut d v)
      ∧ (bits v 63 63 = 1 → ∀ w, w < 4 → (s.fltDomPut d v).get (.fltDom d w) = 0)
      ∧ (bits v 63 63 = 0 → s.fltDomPut d v = s)
      ∧ WriteGives (.faultRelease m v) m 0x25000 s (s.fltPinPut m (setBits v 61 61 1))
      ∧ (∀ u, s.cfgPut m RK.reg 0x25000 .fltPin (keepField (s.get .fltPin)
            (accWrite .fltPin (s.on F.fltCfg_SLOCK) (s.get .fltPin) (setBits v 61 61 1)) 2 0 fun k => decide (k ≤ 4)) = (u, true) →
          (u.halted = false → (s.fltPinPut m (setBits v 61 61 1)).rd F.fltPin_ASSERTED = 0)
          ∧ (u.halted = true → s.fltPinPut m (setBits v 61 61 1) = u))
      ∧ ∀ u, s.cfgPut m RK.reg 0x25000 .fltPin (keepField (s.get .fltPin)
            (accWrite .fltPin (s.on F.fltCfg_SLOCK) (s.get .fltPin) v) 2 0 fun k => decide (k ≤ 4)) = (u, false) →
          s.fltPinPut m v = u)
    ∧ (s.halted = false →
      (∀ (a : BitVec 16) (desc : Word) (u : State) (ok : Bool),
        s.audRepair { kind := RK.softRepair, master := 0x1080, addr := a.toNat, new := desc } = (u, ok) →
        (s.boot.spent.at a.toNat 0 < spareCount a.toNat →
          (ok = false → exec (.softRepairRecord a desc) s = .next u.ended)
          ∧ (ok = true → exec (.softRepairRecord a desc) s
              = .next ({ u with boot := { u.boot with spent := u.boot.spent.upd a.toNat 0 (· + 1) } } : State).ended))
        ∧ (spareCount a.toNat ≤ s.boot.spent.at a.toNat 0 →
          exec (.softRepairRecord a desc) s
            = .next (match Config.repairPlace a.toNat with | some (some g) => s.engError g 2 | _ => s)))
      ∧ ∀ (i : Fin 16) (l : Fin 17),
        let g := 17 * i.val + l.val
        let r : AudRec := { kind := RK.engine, master := 0x1080, addr := l.val * 16 + i.val, old := s.get (.islEngMap i)
                            new := s.retiredMap i l (s.spareFree i l) }
        s.engOff g = false →
        (∀ x ens spare, s.retiring g = some (x, ens, spare) → exec (.engineRetire i l) s = .next (s.retireGo i l ens spare).ended)
        ∧ (s.retiring g = none →
          (s.engFailing g = false → exec (.engineRetire i l) s = .next s)
          ∧ (s.engFailing g = true → i.val = 0 → l.val = 16 → exec (.engineRetire i l) s
              = .next (s.raise Src.WARDEN_LOST { addr := 16, master := 0x1080, atype := 14 }).ended)
          ∧ (s.engFailing g = true → ¬(i.val = 0 ∧ l.val = 16) → ∀ u,
            (s.audRepair r = (u, false) → exec (.engineRetire i l) s = .next u.ended)
            ∧ (s.audRepair r = (u, true) →
              let ens := (engCtxs g).filter fun c => u.on (F.ctxCfg_EN c)
              let v : State := { u with faults := { u.faults with retiring := (g, ens, s.spareFree i l) :: u.faults.retiring } }
              exec (.engineRetire i l) s
                = .next ((ens.foldl (fun t c => t.wr (F.ctxCfg_EN c) 0) v).retireGo i l ens (s.spareFree i l)).ended))))
    ∧ ∀ (i : Fin 16) (l : Fin 17) (ens : List Nat) (spare : Bool),
        let g := 17 * i.val + l.val
        ((∃ c ∈ engCtxs g, s.ctxState c ≠ XS.idle) → s.retireGo i l ens spare = s)
        ∧ ((∀ c ∈ engCtxs g, s.ctxState c = XS.idle) →
          let w : State := { s with faults := { s.faults with retiring := s.faults.retiring.filter (·.1 != g)
                                                              engErrs := s.faults.engErrs.filter (·.1 != g) } }
          s.retireGo i l ens spare = (if spare then w.engSubstitute i l ens else w.engSwitchOff i l).raise (Src.ENG_RETIRED i)
            { addr := l, master := 0x1080, atype := 14 })

/-- Counters, samples, bandwidth windows, time and the audit log (17 R536 to R560). CLEAR leaves every programmable
counter 0; a full counter wraps to 0 and sets OVF, or, where the next is chained, counts that one up by one and leaves OVF; the
record of a tagged instruction is written once its own word, trap and address are told; a sample record is copied to its slot of the
ring while there is room; a window end shows the bytes counted; a PPS_IN edge stamps TIM_NOW; a GAP record that is owed
is committed when there is room; an export beyond the records held is refused and counted. -/
def Obligations.CountersTimeAndAudit : Prop :=
  ∀ s : State,
    (∀ (b : Fin 17) (k : Fin 8), s.rd (F.cntVal_VAL b k) = 2 ^ 48 - 1 → s.cntCounts b k = true →
      exec (.counterWrap b k) s = .next (State.cntAdd b (7 - k.val) k 1 s)
        ∧ (State.cntAdd b (7 - k.val) k 1 s).rd (F.cntVal_VAL b k) = 0
        ∧ (k.val = 7 ∨ s.on (F.cntCtl_CHAIN b (k.val + 1)) = false →
            (State.cntAdd b (7 - k.val) k 1 s).on (F.cntCtl_OVF b k) = true
              ∧ OnlyWords (fun r => r = .cntVal b k ∨ r = .cntCtl b k) s (State.cntAdd b (7 - k.val) k 1 s))
        ∧ (k.val < 7 → s.on (F.cntCtl_CHAIN b (k.val + 1)) = true → s.cntCounts b (k.val + 1) = true →
            s.rd (F.cntVal_VAL b (k.val + 1)) < 2 ^ 48 - 1 →
            (State.cntAdd b (7 - k.val) k 1 s).rd (F.cntVal_VAL b (k.val + 1)) = s.rd (F.cntVal_VAL b (k.val + 1)) + 1
              ∧ (State.cntAdd b (7 - k.val) k 1 s).rd (F.cntCtl_OVF b k) = s.rd (F.cntCtl_OVF b k)))
    ∧ (∀ (m : Mst) (v : Word), WriteGives (.counterClear m v) m 0xB090 s (s.cntGlbPut (setBits v 62 62 1))
        ∧ (∀ b k, b < 17 → k < 8 → (s.cntGlbPut (setBits v 62 62 1)).get (.cntVal b k) = 0)
        ∧ WriteGives (.auditExport m v) m 0x30018 s (s.audExportPut m v)
        ∧ (s.audHeld < bits v 17 0 → s.audExportPut m v = s.count F.audStat_REFUSED)
        ∧ (mstClass m = 4 → bits v 17 0 ≤ s.audHeld → bits v 17 0 ≤ audSlots → s.audExportPut m v = s.audPass (bits v 17 0)))
    ∧ (∀ r rest, s.samples.items = r :: rest → s.halted = false → s.on F.cntSmpCfg_EN = true →
        let k := s.rd F.cntSmpCfg_LOG2SIZE
        let pi := s.rd F.cntSmpPi_PI
        ringDepth k pi (s.rd F.cntSmpCi_CI) ≠ 2 ^ k → k ≤ 20 → Gives (exec .sampleRingCopy s) fun t =>
          t.rd F.cntSmpPi_PI = (pi + 1) % 2 ^ (k + 1) ∧ t.samples = s.samples.pop 12
            ∧ Output.hostWrite (s.rd F.cntSmpCfg_FUNC) (s.rd F.cntSmpBase_BASE + pi % 2 ^ k * 64)
                (r.flatMap fun w => bytesOf 8 w.toNat) ∈ t.out)
    ∧ (∀ (c : CtxNum) (t : Tag) (rest : List Tag) (insn : BitVec 32) (stages : List Byte) (cycles : List Nat) (trapCode : Byte)
          (memlat : BitVec 16) (addr : Word), (s.ctx c).tags = t :: rest →
        let u := s.setCtx c fun x => { x with tags := rest, tagging := x.tagging && !rest.isEmpty }
        let row := exec (.instructionTag c insn stages cycles trapCode memlat addr) s
        (t.spells insn trapCode addr = true →
          (s.halted = false → row = .next (u.samplePush (tagRecord c t insn stages cycles memlat)).ended)
          ∧ (s.halted = true → row = .next u.ended))
        ∧ (t.spells insn trapCode addr = false → row = .next s))
    ∧ (s.held = true → exec .bwWindowEnd s = .next s)
    ∧ (s.on F.cntBwCfg_EN = true → s.held = false →
        let u := s.bwEdge
        (u.clock.bwDone ≠ [] → exec .bwWindowEnd s = .next u.bwShow.ended)
        ∧ (u.clock.bwDone = [] →
          exec .bwWindowEnd s = .next ((u.passTim ((u.tim / u.bwWindow + 1) * u.bwWindow)).bwEdge).bwShow.ended))
    ∧ (∀ tx rx k rest, s.clock.bwDone = (tx, rx, k) :: rest → ∀ n, n < 128 →
        (s.bwShow).get (.cntBwTx n) = BitVec.ofNat 64 (tx.at n 0) ∧ (s.bwShow).get (.cntBwRx n) = BitVec.ofNat 64 (rx.at n 0)
        ∧ (s.bwShow).rd (F.cntBwSeq_WSEQ n) = (s.rd (F.cntBwSeq_WSEQ n) + 1) % 2 ^ 32)
    ∧ (s.on F.timCfg_OUT_EN = true → s.clock.ppsOut = false → Gives (exec .ppsOutRise s) fun t =>
        t.clock.ppsOut = true ∧ t.clock.ppsFall = t.now + s.rd F.timCfg_OUT_W * 1000000)
    ∧ (s.clock.ppsOut = true → Gives (exec .ppsOutFall s) fun t => t.clock.ppsOut = false ∧ s.clock.ppsFall ≤ t.now)
    ∧ (s.on F.timCfg_IN_EN = true → s.on F.timCfg_DISC = false → Gives (exec .ppsInEdge s) fun t =>
        t.rd F.timPpsStamp_STAMP = s.tim ∧ t.clock.ppsIn = some s.now)
    ∧ (∀ t, s.clock.ppsIn = some t → s.on F.timCfg_IN_EN = true → s.faults.conds.contains (Src.PPS_LOST, 0) = false →
        exec .ppsInTimeout s = .next ((s.passTo (t + 1500000000)).condRise Src.PPS_LOST 0 { atype := 14 }).ended)
    ∧ exec .gapRecordCommit s = .next s.audPayGap.ended
    ∧ (∀ a b, s.audit.owed = some (a, b) → s.audHeld < audSlots → s.audPayGap.audit.owed = none)

/-! ## Resets and boot (18) -/

/-- Resets and boot (18 R562 to R579). A power-on reset leaves every word but the audit store, its pointers,
CLK_STAT and LCS_STATE, which shows the fuses (15 R503), at its reset value, no queue, context or connection at work and memory empty; a device warm reset keeps the
audit store and the domain records and names its cause, and its phase lasts 10 µs, in which no link comes up; a short pulse
counts but at a TERMINAL halt. A boot that is due ends in service
from the valid slot of the higher SVN, slot A on a tie, or in recovery: where BOOT_MODE asks for it, where no slot is valid,
and where a step has not ended by its latest time; a boot whose GDDR6 does not train waits for that time (the model's
reading, notes/assumptions/64.md). That HPCLK and PIERCLK of CLK_STAT stay, that a later PHASE_END stands for the deassertion
of WARM_RST_N, and that USB4's sideband and tunnel come with the link are the model's choices (log entries 75 and 64). A write of a reset register without Firmware privilege does nothing. -/
def Obligations.ResetsAndBoot : Prop :=
  ∀ s : State,
    (Gives (exec .powerOnReset s) fun t =>
      (∀ r, (∀ i w, r ≠ .audRec i w) → r ≠ .audSeq → r ≠ .audPtr → r ≠ .audWear → r ≠ .clkStat → r ≠ .lcsState →
          t.get r = r.reset)
        ∧ t.rd F.lcsState_STATE = max s.fuses.state (s.fuses.pending.getD 0) % 4
        ∧ t.mem = [] ∧ t.pal = [] ∧ t.queues = [] ∧ t.conns = [] ∧ t.ctxs = [] ∧ t.pending = s.pending)
    ∧ (s.boot.rstLow = false → exec .deviceWarmReset s = .next (s.warmReset true 0).ended)
    ∧ (s.boot.rstLow = true → exec .deviceWarmReset s = .next s)
    ∧ (s.on F.fltHalt_TERM = false → s.boot.phase ≠ .warmHeld → ∀ (pin : Bool) (k : Nat),
        let t := s.warmReset pin k
        t.boot.phase = .warmHeld ∧ t.rd F.glbRstCause_POR = 0 ∧ t.rd F.glbRstCause_WPIN = pin.toNat
          ∧ t.rd F.glbRstCause_WREG = (!pin).toNat ∧ t.rd F.glbRstCause_MASTER = k % 2 ^ 16
          ∧ (∀ i w, t.get (.audRec i w) = s.get (.audRec i w)) ∧ ∀ d w, t.get (.fltDom d w) = s.get (.fltDom d w))
    ∧ (s.on F.fltHalt_TERM = false → s.boot.rstLow = false →
        exec .warmRstShortPulse s = .next (s.count F.glbRstCause_SHORT))
    ∧ (s.on F.fltHalt_TERM = true ∨ s.boot.rstLow = true → exec .warmRstShortPulse s = .next s)
    ∧ (s.boot.phase = .warmHeld →
        let u := (s.passTo (s.boot.began + 10000)).wr F.timNow_NOW 0
        let v := u.wr F.fltPin_ASSERTED (u.rd F.fltPin_TERMHOLD)
        let w : State := { v with boot := { v.boot with phase := .bootDue, began := v.now, rstLow := false } }
        exec .warmResetPhaseEnd s = .next (((w.faults.conds.map (·.1)).eraseDups).foldl (fun t n => t.condAgain n) w).ended)
    ∧ (∀ (b : BootInputs) (u : State), s.boot.phase = .bootDue → s.halted = false →
        let late : Prop := s.boot.began + 1000000 * bootLatest 0 < s.now
        (b.trains = true →
          (s.bootBegin b = (u, true) →
            (late → exec (.boot b) s = .next (u.recovery 1 BR.late 0 0).ended)
            ∧ (¬late → b.mode = 1 → exec (.boot b) s = .next (u.recovery 2 BR.requested 0 0).ended)
            ∧ (¬late → b.mode ≠ 1 → exec (.boot b) s = .next (u.bootSlots b).ended))
          ∧ (s.bootBegin b = (u, false) → exec (.boot b) s = .next u.ended))
        ∧ (b.trains = false → exec (.boot b) s = .next s)
        ∧ ∀ step : Fin 5,
            let v := s.passTo (s.boot.began + 1000000 * bootLatest step)
            s.boot.began + 1000000 * bootLatest step ≤ v.now
            ∧ (v.bootBegin b = (u, true) → exec (.bootStepTimeout step b) s
                = .next (u.recovery (step + 1) (if step.val = 4 ∧ b.trains = false then BR.gddr6 else BR.late)
                  (if 2 < step.val then u.slotResult b.slotA else 0) (if 2 < step.val then u.slotResult b.slotB else 0)).ended)
            ∧ (v.bootBegin b = (u, false) → exec (.bootStepTimeout step b) s = .next u.ended))
    ∧ (∀ b : BootInputs,
        let ares := s.slotResult b.slotA
        let bres := s.slotResult b.slotB
        let a := slotImage b.slotA
        let c := slotImage b.slotB
        let w := (s.wr F.glbBootStat_ARES ares).wr F.glbBootStat_BRES bres
        s.bootSlots b = if ares ≠ 0 ∧ bres ≠ 0 then s.recovery 3 ares ares bres
          else if bres = 0 ∧ (ares ≠ 0 ∨ imgSvn a < imgSvn c) then w.bootImage 1 c else w.bootImage 0 a)
    ∧ (∀ (slot : Nat) (bs : List Byte),
        let w := ((s.wr F.glbBootStat_STEP 5).softRepair.memoryZero).imageRecords bs
        let t := s.bootDone slot bs
        (w.boot.phase = .bootDue → w.halted = false → s.bootImage slot bs = w.bootDone slot bs)
        ∧ t.boot.phase = .running ∧ t.rd F.glbBootStat_STEP = 0xF ∧ t.rd F.glbBootStat_SLOT = slot % 2
        ∧ t.rd F.glbBootStat_SVN = imgSvn bs % 2 ^ 32 ∧ ∀ n, n < 4 → (t.host n).booted = true)
    ∧ (∀ step result ares bres,
        let t := s.recovery step result ares bres
        t.boot.phase = .recovery ∧ t.rd F.glbBootStat_RECOVERY = 1 ∧ t.rd F.glbBootStat_STEP = step % 16
          ∧ t.rd F.glbBootStat_RESULT = result % 16 ∧ t.rd F.glbBootStat_ARES = ares % 16 ∧ t.rd F.glbBootStat_BRES = bres % 16)
    ∧ (∀ (m : Mst) (v : Word) (i : Fin 2) (n : Fin 4),
        WriteGives (.glbRstWarm m v) m 0x2000 s (s.glbRstPut m (setBits v 63 63 1))
        ∧ WriteGives (.islandReset m v) m 0x2000 s (s.glbRstPut m v)
        ∧ WriteGives (.hostPortReset n (.register m v)) m 0x2000 s (s.glbRstPut m (setBits v (28 + n.val) (28 + n.val) 1))
        ∧ WriteGives (.portReset m i v) m (0x2008 + 8 * i.val) s (s.glbPrtRstPut m i v)
        ∧ WriteGives (.imageInstall m v) m 0x2028 s (s.bootCtlPut m (setBits v 63 63 1))
        ∧ (s.atF m = false → s.glbRstPut m v = s ∧ s.glbPrtRstPut m i v = s
            ∧ (bits v 63 63 = 1 → s.bootCtlPut m v = s)))
    ∧ (∀ n : Fin 4,
        (Gives (exec (.hostPerstDeassert n) s) fun t => (t.host n).perst = false)
        ∧ ((s.host n).perst = false → s.hostCovered n = true →
            exec (.hostPortReset n .perst) s = .next ((s.setHost n fun h => { h with perst := true }).hostLinkLost n).ended)
        ∧ ((s.host n).perst = false → s.hostCovered n = false →
            let u := (s.setHost n fun h => { h with perst := true }).hostLinkLost n
            exec (.hostPortReset n .perst) s = .next ((u.hostFnsReset n).setHost n fun h => { h with resetting := false }).ended)
        ∧ ((s.host n).linkUp = true → s.hostCovered n = false →
            exec (.hostPortReset n .linkLoss) s
              = .next (((s.hostLinkLost n).hostFnsReset n).setHost n fun h => { h with resetting := true }).ended)
        ∧ (s.held = true → ∀ link, exec (.hostLinkUp n link) s = .next s)
        ∧ (∀ link : HostLink, s.held = false → (s.host n).perst = false → (s.host n).linkUp = false →
            bits (s.get .clkStat) (43 + n.val) (43 + n.val) = 1 →
            s.rd F.lcsState_STATE ≠ 3 → Gives (exec (.hostLinkUp n link) s) fun t =>
              (t.host n).linkUp = true ∧ (t.host n).cxl = link.cxl ∧ (t.host n).mode = some (link.rate, link.width)
                ∧ (t.host n).resetting = false))
    ∧ exec .pierReset s
        = .next ((({ s with fns := s.fns.del 1024 } : State).clearSels fun k => k == 0x4000).semAbandon fun m => m == 0x4000).ended
    ∧ exec .pierLinkDown s = .next (({ s with pier := {} } : State).condRise Src.PIE_LINK_DOWN 0 {}).ended
    ∧ (s.held = true → exec .pierLinkUp s = .next s)
    ∧ (s.held = false → ∃ gen : Usb4Gen, exec .pierLinkUp s
        = .next (({ s.drawn with pier := { gen := some gen, sideband := true, tunnel := true } } : State).condClear Src.PIE_LINK_DOWN 0).ended)
    ∧ (∀ i : Fin 16, i.val ∈ s.boot.islands →
        let mine (q : Nat) : Bool := s.rd (F.steer_ISLAND (steerIndex 3 q)) == i.val
        let u : State := { s with boot := { s.boot with islands := s.boot.islands.filter (· ≠ i.val)
                                                        bells := s.boot.bells.filter fun q => !mine q } }
        exec (.islandResetEnd i) s = .next ((s.boot.bells.filter mine).foldl (fun t q => t.bellAgain q) u).ended)
    ∧ ∀ x, s.boot.installing = some x → s.halted = false → Gives (exec .imageInstallEnd s) fun t =>
        t.boot.installing = none ∧ t.rd F.glbBootCtl_BUSY = 0 ∧ t.rd F.glbBootCtl_IRESULT = x.result % 2 ^ 8
          ∧ (x.result = BR.ok → Output.qspi x.slot x.image ∈ t.out) ∧ (x.result ≠ BR.ok → t.out = s.out)

/-! ## Rails, clocks, voltage, frequency and temperature (19) -/

/-- Rails, clocks, the voltage and frequency loops and the junction sensors (19 R586 to R598). A rail, PLL or clock that
leaves or regains its state is shown, and its condition rises or clears; an output voltage stays within its limit and
20 mV below VDD_CORE and moves by at most 5 mV while the loop runs, but up to VMIN at once; a higher step waits for the monitors'
VNEED of that step; the power cap lowers the island that has issued most; a droop takes the island to its slowest step; a
sensor's reading is shown and its peak kept. A warm reset in progress holds the loops (18 R564). -/
def Obligations.PowerClocksAndTemperature : Prop :=
  ∀ s : State,
    (∀ r : Fin 16, (r.val < 8 → exec (.railFault r) s = .next (s.condRise Src.RAIL_FAULT r { addr := r, atype := 14 }).ended)
        ∧ exec (.railInRange r) s = .next (s.condClear Src.RAIL_FAULT r).ended)
    ∧ exec .rootPllUnlock s = .next ((s.wr F.clkStat_ROOTLOCK 0).condRise Src.CLK_ROOT_UNLOCK 0 { atype := 14 }).ended
    ∧ exec .rootPllRelock s = .next ((s.wr F.clkStat_ROOTLOCK 1).condClear Src.CLK_ROOT_UNLOCK 0).ended
    ∧ (∀ i : Fin 16,
        exec (.lanePllUnlock i) s = .next ((List.range 8).foldl (fun t k => t.linkDown (8 * i.val + k))
          ((s.setBit F.clkStat_LANELOCK i false).condRise Src.CLK_LANE_PLL_UNLOCK i { addr := i, atype := 14 })).ended
        ∧ exec (.lanePllRelock i) s
            = .next (((s.setBit F.clkStat_LANELOCK i true).condClear Src.CLK_LANE_PLL_UNLOCK i).islandUp i).ended
        ∧ (s.setBit F.clkStat_LANELOCK i true).rd F.clkStat_LANELOCK / 2 ^ i.val % 2 = 1
        ∧ (s.setBit F.clkStat_LANELOCK i false).rd F.clkStat_LANELOCK / 2 ^ i.val % 2 = 0)
    ∧ (∀ (n : Fin 4) (run : Bool), exec (.hostRefclkChange n run) s = .next (s.setBit F.clkStat_HPCLK n run).ended
        ∧ exec (.pierRefclkChange run) s = .next (s.wr F.clkStat_PIERCLK run.toNat).ended)
    ∧ (s.held = true → ∀ i : Fin 16, (∀ r, exec (.avsLoopStep i r) s = .next s) ∧ exec (.droopDetect i) s = .next s
        ∧ exec (.droopRelax i) s = .next s ∧ ∀ pest, exec (.powerCapIteration pest i) s = .next s)
    ∧ (s.held = false → ∀ i : Fin 16,
        (∀ r : AvsReading,
          let w := s.passTo ((s.isle i).loopAt + 10000)
          let u := (w.setIsle i fun x => { x with need := r.vneed, needUp := r.vneedNext
                                                  needAt := some (w.rd (F.pwrIsl_STEP i)), loopAt := w.now }).wr (F.pwrIsl_VNEED i) r.vneed
          (s.isle i).loopAt + 10000 ≤ w.now ∧ exec (.avsLoopStep i r) s
            = .next ((((((u.limitSync i).stepDown i).voutMove i r.vddCore).stepUp i).avsRequest).holdSync i).ended)
        ∧ (∀ vdd, let t := s.voutMove i vdd
            let cap := min (s.rd (F.pwrIsl_VMAX i)) (vdd - 20)
            (s.on F.pwrAvs_EN = true → s.on F.pwrAvs_FREEZE = true → t = s)
            ∧ (s.on F.pwrAvs_EN = false → t.rd (F.pwrIsl_VOUT i) = cap)
            ∧ (s.on F.pwrAvs_EN = true → s.on F.pwrAvs_FREEZE = false →
                t.rd (F.pwrIsl_VOUT i) ≤ cap ∧ t.rd (F.pwrIsl_VOUT i) ≤ max (s.rd (F.pwrIsl_VMIN i)) (s.rd (F.pwrIsl_VOUT i) + 5)
                  ∧ (s.rd (F.pwrIsl_VMIN i) ≤ cap → s.rd (F.pwrIsl_VMIN i) ≤ t.rd (F.pwrIsl_VOUT i))
                  ∧ (s.rd (F.pwrIsl_VOUT i) ≤ cap → s.rd (F.pwrIsl_VOUT i) ≤ t.rd (F.pwrIsl_VOUT i) + 5)))
        ∧ ((s.isle i).needAt ≠ some (s.rd (F.pwrIsl_STEP i)) ∨ s.rd (F.pwrIsl_VOUT i) < (s.isle i).needUp → s.stepUp i = s)
        ∧ (let u := s.setIsle i fun x => { x with droop := 2, droopAt := s.now }
          ((s.isle i).droop ≠ 2 →
            exec (.droopDetect i) s = .next (((u.stepDown i).holdSync i).raise Src.PWR_DROOP { addr := i, atype := 14 }).ended)
            ∧ ((s.isle i).droop = 2 → exec (.droopDetect i) s = .next ((u.stepDown i).holdSync i).ended)
            ∧ 2 ≤ u.wantStep i ∧ (u.wantStep i < 4 → u.wantStep i ≤ (u.stepDown i).rd (F.pwrIsl_STEP i)))
        ∧ ((s.isle i).droop ≠ 0 →
            let u := s.passTo ((s.isle i).droopAt + 10000)
            exec (.droopRelax i) s
              = .next ((((u.setIsle i fun x => { x with droop := x.droop - 1, droopAt := u.now }).stepUp i).avsRequest).holdSync i).ended)
        ∧ (∀ pest, s.on F.pwrDfs_EN = true → s.on F.pwrDfs_FREEZE = false →
            let w := s.passTo (s.power.capAt + 100000)
            let u : State := { w.wr F.pwrDfs_PEST pest with power := { w.power with capAt := w.now, issued := [] } }
            let j := w.busiest i
            s.power.capAt + 100000 ≤ w.now ∧ (∀ k, k < 16 → w.power.issued.at k 0 ≤ w.power.issued.at j 0)
            ∧ (u.rd F.pwrDfs_CAP < pest →
              let limit := fun (x : Nat) => max x (min (min 2 (u.rd F.pwrDfs_FLOOR)) (u.rd (F.pwrIsl_STEP j) + 1))
              exec (.powerCapIteration pest i) s
                = .next (((u.setIsle j fun x => { x with cap := limit x.cap }).stepDown j).holdSync j).ended)
            ∧ (pest ≤ u.rd F.pwrDfs_CAP → u.rd F.pwrDfs_CAP * 95 < pest * 100 →
              exec (.powerCapIteration pest i) s = .next u.ended)
            ∧ (pest ≤ u.rd F.pwrDfs_CAP → pest * 100 ≤ u.rd F.pwrDfs_CAP * 95 →
              (u.cappedIsles = [] → exec (.powerCapIteration pest i) s = .next u.ended)
              ∧ (u.cappedIsles ≠ [] → ∃ k ∈ u.cappedIsles, exec (.powerCapIteration pest i) s
                  = .next ((((u.drawn.setIsle k fun x => { x with cap := x.cap - 1 }).stepUp k).avsRequest).holdSync k).ended))))
    ∧ ∀ (n : Fin 24) (temp : BitVec 16), Gives (exec (.thermalSensorRead n temp) s) fun t =>
        s.power.readAt.at n 0 + 100000 ≤ t.now
          ∧ t.rd (F.pwrTemp_TEMP n) = temp.toNat ∧ degrees temp.toNat ≤ degrees (t.rd (F.pwrTemp_PEAK n))
          ∧ (s.power.readAt.find n = none → t.rd (F.pwrTemp_PEAK n) = temp.toNat)
          ∧ (s.power.readAt.find n ≠ none → degrees (s.rd (F.pwrTemp_PEAK n)) ≤ degrees (t.rd (F.pwrTemp_PEAK n)))
end

