-- ==== Sys2Proof/Laws/Access.lean ====
section
/-! SUPPORT. The fronts of the meanings, each said once: a register access that acts, an entry that may act, a range that is
read, a management command that is carried out, and a command that ends. -/

namespace Sys2Proof.Machine

/-- A command that ends answers the ended state. -/
theorem fin_next (s : State) : fin s = .next s.ended := rfl

theorem gives_fin {p : State → Prop} {s : State} (h : p s) : Gives (fin s) p := ⟨s, rfl, h⟩

/-- A write that opens acts on the state. -/
theorem regWriteRow_opens {s : State} {m : Mst} {addr : Nat} (h : s.Opens m addr .write) (v : Word)
    (f : State → Word → State) : regWriteRow m addr v f s = .next (f s v).ended := by
  obtain ⟨h1, h2⟩ := h
  simp only [if_pos] at h1
  simp [regWriteRow, h1, h2, fin_next]

/-- A read that opens acts on the state. -/
theorem regReadRow_opens {s : State} {m : Mst} {addr : Nat} (h : s.Opens m addr .read) (f : State → State) :
    regReadRow m addr f s = .next (f s).ended := by
  obtain ⟨h1, h2⟩ := h
  have h1 : s.waitsBehind m = false := by simpa using h1
  simp [regReadRow, h1, h2, fin_next]

/-- An entry that may act runs its meaning. -/
theorem State.Serves.row {s : State} {q id op : Nat} {t : Taken} (h : s.Serves q id op t) (f : State → Taken → Out) :
    s.entryRow q id op f = f s t := by
  obtain ⟨h1, h2, h3, h4⟩ := h
  simp [State.entryRow, State.entriesAct, h1, h2, h3, h4]

/-- An entry whose range reads as some bytes has them as its source. -/
theorem State.Reads.source {s u : State} {q : Nat} {t : Taken} {n : Nat} {src : Fetched} {bs : List Byte}
    (h : s.Reads q t n src bs u) : s.source q t n src = (u, .ready bs) := by
  unfold State.source
  rcases h with ⟨h1, rfl, rfl⟩ | ⟨h1, h2, rfl, rfl⟩ | ⟨h1, h2, h3, rfl, got, rfl, h4, rfl⟩ | ⟨h1, h2, h3, h4, h5⟩
  · simp [h1]
  · simp [h1, h2]
  · simp [h1, h2, h3, Nat.not_lt.mpr h4]
  · simp [h1, h2, h3, h4, h5]

/-- A management command that can be answered is carried out. -/
theorem State.Answers.row {s : State} {r : MgmtReq} {spells : List Byte → Bool} {n : Nat} (h : s.Answers r spells n)
    (f : State → State) : s.mgmtRow r spells n f = .next (f (s.forgotten r spells)).ended := by
  obtain ⟨h1, h2, h3⟩ := h
  obtain ⟨a, ha⟩ := Option.isSome_iff_exists.mp h1
  simp only [State.forgotten, ha] at h3 ⊢
  simp only [State.mgmtRow, ha, h2, h3, if_true]
  rfl

theorem State.cntAdd_clock (b fuel k n : Nat) (s : State) : (State.cntAdd b fuel k n s).clock = s.clock := by
  induction fuel generalizing k n s with
  | zero =>
    unfold State.cntAdd
    dsimp only
    repeat' split
    all_goals rfl
  | succ m ih =>
    unfold State.cntAdd
    dsimp only
    repeat' split
    all_goals first | rfl | exact (ih ..).trans rfl

/-- What the counters count changes no clock. -/
theorem State.timeCounts_clock (s : State) (d : Nat) : (s.timeCounts d).clock = s.clock := by
  have fold {α : Type} (f : State → α → State) (hf : ∀ t x, (f t x).clock = t.clock) :
      ∀ (l : List α) (t : State), (l.foldl f t).clock = t.clock := by
    intro l
    induction l with
    | nil => intro t; rfl
    | cons x l ih => intro t; exact (ih _).trans (hf t x)
  unfold State.timeCounts
  refine fold _ (fun t b => fold _ (fun t k => ?_) _ t) _ s
  split
  · rfl
  · exact State.cntAdd_clock ..

/-- Time passes up to the instant asked for, and never back. -/
theorem State.pass_now (s : State) (d : Nat) : (s.pass d).now = s.now + d := by
  unfold State.pass
  split
  · simp [*]
  · simp [State.now, State.timeCounts_clock]

theorem State.passTo_now (s : State) (t : Nat) : (s.passTo t).now = max s.now t := by
  unfold State.passTo
  rw [State.pass_now]
  omega

end Sys2Proof.Machine
end

