-- ==== Sys2Proof/Laws/Words.lean ====
section
/-! SUPPORT. Reads of words and fields after writes of words and fields. -/

namespace Sys2Proof.Machine

theorem regFind_regPut (l : List (Reg × Word)) (r k : Reg) (v : Word) :
    regFind (regPut l r v) k = if k = r then some v else regFind l k := by
  induction l with
  | nil => simp only [regPut, regFind, eq_comm]
  | cons x l ih =>
    obtain ⟨a, w⟩ := x
    unfold regPut
    by_cases h : a = r
    · subst h
      simp only [regFind, if_pos]
      by_cases hk : a = k
      · simp [hk]
      · simp [hk, Ne.symm hk]
    · simp only [regFind, if_neg h, ih]
      by_cases hk : a = k
      · subst hk; simp [h]
      · simp [hk]

theorem State.get_set (s : State) (r k : Reg) (v : Word) :
    (s.set r v).get k = if k = r then v else s.get k := by
  unfold State.get State.set
  simp only [regFind_regPut]
  split <;> rfl

@[simp] theorem State.get_set_same (s : State) (r : Reg) (v : Word) : (s.set r v).get r = v := by
  rw [State.get_set, if_pos rfl]

theorem State.get_set_other (s : State) {r k : Reg} (v : Word) (h : k ≠ r) : (s.set r v).get k = s.get k := by
  rw [State.get_set, if_neg h]

/-- A state differs from another, of its words, only where `p` fails; its memories are the same. -/
structure Leaves (p : Reg → Prop) (s t : State) : Prop where
  mem : t.mem = s.mem
  pal : t.pal = s.pal
  palPoison : t.palPoison = s.palPoison
  palEcc : t.palEcc = s.palEcc
  reg : ∀ r, p r → t.get r = s.get r

theorem Leaves.refl (p : Reg → Prop) (s : State) : Leaves p s s := ⟨rfl, rfl, rfl, rfl, fun _ _ => rfl⟩

theorem Leaves.trans {p : Reg → Prop} {s t u : State} (h : Leaves p s t) (g : Leaves p t u) : Leaves p s u :=
  ⟨g.mem.trans h.mem, g.pal.trans h.pal, g.palPoison.trans h.palPoison, g.palEcc.trans h.palEcc, fun r hr => (g.reg r hr).trans (h.reg r hr)⟩

theorem Leaves.set {p : Reg → Prop} (s : State) (r : Reg) (v : Word) (h : ¬p r) : Leaves p s (s.set r v) :=
  ⟨rfl, rfl, rfl, rfl, fun _ hk => s.get_set_other v (fun e => h (e ▸ hk))⟩

theorem Leaves.wr {p : Reg → Prop} (s : State) (f : Fld) (v : Nat) (h : ¬p f.reg) : Leaves p s (s.wr f v) :=
  Leaves.set _ _ _ h

theorem Leaves.of {p : Reg → Prop} {s t : State} (m : t.mem = s.mem) (q : t.pal = s.pal)
    (b : t.palPoison = s.palPoison) (e : t.palEcc = s.palEcc) (r : t.regs = s.regs) : Leaves p s t :=
  ⟨m, q, b, e, fun _ _ => by unfold State.get; rw [r]⟩

theorem Leaves.foldl {α : Type} {p : Reg → Prop} {f : State → α → State} (hf : ∀ t x, Leaves p t (f t x)) (l : List α)
    (s : State) : Leaves p s (l.foldl f s) := by
  induction l generalizing s with
  | nil => exact Leaves.refl p s
  | cons x l ih => exact (hf s x).trans (ih (f s x))

theorem KMap.find_put {α : Type} (m : KMap α) (i j : Nat) (x : α) :
    KMap.find (m.put i x) j = if j = i then some x else KMap.find m j := by
  induction m with
  | nil => rfl
  | cons a t ih =>
    obtain ⟨k, v⟩ := a
    unfold KMap.put
    split
    · rfl
    · split
      · rename_i h
        subst h
        simp only [KMap.find]
        split <;> rfl
      · rename_i h
        simp only [KMap.find, ih]
        by_cases hj : j = k
        · subst hj; simp [Ne.symm h]
        · simp [hj]

theorem KMap.find_del {α : Type} (m : KMap α) (i j : Nat) :
    KMap.find (m.del i) j = if j = i then none else KMap.find m j := by
  induction m with
  | nil => simp [KMap.del, KMap.find]
  | cons a t ih =>
    obtain ⟨k, v⟩ := a
    unfold KMap.del
    split
    · rename_i h
      subst h
      rw [ih]
      simp only [KMap.find]
      split <;> rfl
    · rename_i h
      simp only [KMap.find, ih]
      by_cases hj : j = k
      · subst hj; simp [Ne.symm h]
      · simp [hj]

theorem KMap.at_upd {α : Type} (m : KMap α) (i j : Nat) (d : α) (f : α → α) :
    (m.upd i d f).at j d = if j = i then f (m.at i d) else m.at j d := by
  unfold KMap.upd KMap.at
  rw [KMap.find_put]
  split <;> rfl

theorem Memory.read_write (m : Memory) (a b : Nat) (x : Byte) :
    (m.write a x).read b = if b = a then x else m.read b := by
  unfold Memory.write Memory.read KMap.at
  split
  · rename_i h
    rw [KMap.find_del]
    split
    · simp [h]
    · rfl
  · rw [KMap.find_put]
    split <;> rfl

/-- The field [hi:lo] of a word after that field is replaced. -/
theorem bits_setBits (w : Word) (hi lo v : Nat) (h : lo ≤ hi) (h' : hi < 64) :
    bits (setBits w hi lo v) hi lo = v % 2 ^ (hi + 1 - lo) := by
  have hw := w.isLt
  unfold bits setBits
  rw [BitVec.toNat_ofNat]
  have e : hi + 1 = lo + (hi + 1 - lo) := by omega
  generalize hn : hi + 1 - lo = n at *
  have p1 : 0 < 2 ^ lo := Nat.two_pow_pos _
  have p2 : 0 < 2 ^ n := Nat.two_pow_pos _
  have b1 : w.toNat % 2 ^ lo < 2 ^ lo := Nat.mod_lt _ p1
  have b2 : v % 2 ^ n < 2 ^ n := Nat.mod_lt _ p2
  have ht : w.toNat / 2 ^ (hi + 1) * 2 ^ (hi + 1) + v % 2 ^ n * 2 ^ lo + w.toNat % 2 ^ lo < 2 ^ 64 := by
    have e64 : (2 : Nat) ^ 64 = 2 ^ (hi + 1) * 2 ^ (64 - (hi + 1)) := by rw [← Nat.pow_add]; congr 1; omega
    have q : w.toNat / 2 ^ (hi + 1) < 2 ^ (64 - (hi + 1)) := by
      rw [Nat.div_lt_iff_lt_mul (Nat.two_pow_pos _), Nat.mul_comm, ← e64]; exact hw
    have l1 : v % 2 ^ n * 2 ^ lo + w.toNat % 2 ^ lo < 2 ^ (hi + 1) := by
      rw [e, Nat.pow_add]
      calc v % 2 ^ n * 2 ^ lo + w.toNat % 2 ^ lo < v % 2 ^ n * 2 ^ lo + 2 ^ lo := by omega
        _ = (v % 2 ^ n + 1) * 2 ^ lo := (Nat.succ_mul _ _).symm
        _ ≤ 2 ^ n * 2 ^ lo := Nat.mul_le_mul_right _ b2
        _ = 2 ^ lo * 2 ^ n := Nat.mul_comm _ _
    calc _ < w.toNat / 2 ^ (hi + 1) * 2 ^ (hi + 1) + 2 ^ (hi + 1) := by omega
      _ = (w.toNat / 2 ^ (hi + 1) + 1) * 2 ^ (hi + 1) := (Nat.succ_mul _ _).symm
      _ ≤ 2 ^ (64 - (hi + 1)) * 2 ^ (hi + 1) := Nat.mul_le_mul_right _ q
      _ = 2 ^ 64 := by rw [Nat.mul_comm, ← e64]
  rw [Nat.mod_eq_of_lt ht, e, Nat.pow_add]
  have : w.toNat / (2 ^ lo * 2 ^ n) * (2 ^ lo * 2 ^ n) + v % 2 ^ n * 2 ^ lo + w.toNat % 2 ^ lo
      = w.toNat % 2 ^ lo + 2 ^ lo * (w.toNat / (2 ^ lo * 2 ^ n) * 2 ^ n + v % 2 ^ n) := by
    rw [Nat.mul_add, Nat.mul_left_comm, ← Nat.mul_assoc, Nat.mul_assoc, Nat.mul_comm (2 ^ lo) (v % 2 ^ n)]; ac_rfl
  rw [this, Nat.add_mul_div_left _ _ p1, Nat.div_eq_of_lt b1, Nat.zero_add, Nat.mul_comm, Nat.mul_add_mod,
    Nat.mod_mod]

theorem State.rd_wr (s : State) (f : Fld) (v : Nat) (h : f.lo ≤ f.hi) (h' : f.hi < 64) :
    (s.wr f v).rd f = v % 2 ^ (f.hi + 1 - f.lo) := by
  unfold State.rd State.wr
  rw [State.get_set_same, bits_setBits _ _ _ _ h h']

theorem State.rd_wr_other (s : State) {f g : Fld} (v : Nat) (h : g.reg ≠ f.reg) : (s.wr f v).rd g = s.rd g := by
  unfold State.rd State.wr
  rw [State.get_set_other _ _ h]

end Sys2Proof.Machine
end

