-- ==== Sys2Proof/Laws/Issue.lean ====
section
/-! SUPPORT. What the issue of an instruction leaves as it was. -/

namespace Sys2Proof.Machine

/-- The words that an issue never writes: all but REMAINING and the event counters. -/
def NotIssue : Reg → Prop
  | .csr _ 4 => False
  | .cntVal _ _ => False
  | .cntCtl _ _ => False
  | _ => True

theorem State.cntAdd_leaves (b fuel k n : Nat) (s : State) : Leaves NotIssue s (State.cntAdd b fuel k n s) := by
  induction fuel generalizing k n s with
  | zero =>
    unfold State.cntAdd
    dsimp only
    repeat' split
    · exact Leaves.wr s _ _ (by simp [NotIssue])
    · exact (Leaves.wr s _ _ (by simp [NotIssue])).trans (Leaves.wr _ _ _ (by simp [NotIssue]))
    · exact Leaves.refl _ s
  | succ m ih =>
    unfold State.cntAdd
    dsimp only
    repeat' split
    · exact Leaves.wr s _ _ (by simp [NotIssue])
    · exact (Leaves.wr s _ _ (by simp [NotIssue])).trans (ih _ _ _)
    · exact (Leaves.wr s _ _ (by simp [NotIssue])).trans (Leaves.wr _ _ _ (by simp [NotIssue]))
    · exact Leaves.refl _ s

theorem State.tally_leaves (s : State) (b code n : Nat) : Leaves NotIssue s (s.tally b code n) := by
  unfold State.tally
  split
  · exact Leaves.refl _ s
  · refine Leaves.foldl (fun t k => ?_) _ _
    split
    · exact State.cntAdd_leaves ..
    · exact Leaves.refl _ t

theorem State.setMeter_leaves (p : Reg → Prop) (s : State) (t : Nat) (f : Meter → Meter) : Leaves p s (s.setMeter t f) := by
  unfold State.setMeter State.meterEdge
  dsimp only
  split <;> exact Leaves.of rfl rfl rfl rfl rfl

theorem State.tagCount_leaves (p : Reg → Prop) (s : State) (c : Nat) : Leaves p s (s.tagCount c) := by
  unfold State.tagCount
  dsimp only
  split
  · split
    · exact Leaves.of rfl rfl rfl rfl rfl
    · split <;> exact Leaves.of rfl rfl rfl rfl rfl
  · exact Leaves.refl _ s

theorem State.setEng_leaves (p : Reg → Prop) (s : State) (g : Nat) (f : Eng → Eng) : Leaves p s (s.setEng g f) :=
  Leaves.of rfl rfl rfl rfl rfl

theorem State.meterCycle_leaves (p : Reg → Prop) (s : State) (c : Nat) : Leaves p s (s.meterCycle c) := by
  unfold State.meterCycle
  split
  · exact State.setMeter_leaves ..
  · exact Leaves.refl _ s

/-- An issue writes no word but REMAINING and the event counters, and no memory. -/
theorem State.issued_leaves (s : State) (c : Nat) : Leaves NotIssue s (s.issued c) := by
  unfold State.issued
  dsimp only
  refine Leaves.trans ?_ (State.tally_leaves ..)
  refine Leaves.trans ?_ (State.meterCycle_leaves ..)
  refine Leaves.trans ?_ (State.tagCount_leaves ..)
  exact ((State.setEng_leaves _ s (ctxEng c) _).trans (Leaves.wr _ (F.csr_REMAINING c) _ (by simp [NotIssue]))).trans
    (Leaves.of rfl rfl rfl rfl rfl)

theorem State.issued_getG (s : State) (c : Nat) (k a : Nat) : (s.issued c).getG k a = s.getG k a := by
  unfold State.getG
  rw [(s.issued_leaves c).reg (.g k a) trivial]

theorem State.issued_gv (s : State) (c : Nat) (k : CtxNum) (a : GReg) : (s.issued c).gv k a = s.gv k a :=
  s.issued_getG c k a

theorem State.issued_h (s : State) (c k i : Nat) : (s.issued c).get (.h k i) = s.get (.h k i) :=
  (s.issued_leaves c).reg (.h k i) trivial

theorem State.issued_pcOf (s : State) (c k : Nat) : (s.issued c).pcOf k = s.pcOf k := by
  unfold State.pcOf State.rd
  rw [(s.issued_leaves c).reg (.pc k) trivial]

/-- A word that a context fetches is held by its engine, and nothing is filled. -/
theorem State.codeFill_held {s : State} {c w : Nat} (h : s.codeWord c = some w) : s.codeFill c = s := by
  unfold State.codeWord at h
  split at h
  · rename_i hp
    unfold State.codeFill
    cases hb : s.codeBlock c with
    | none => simp [hb] at h
    | some b => simp
  · simp at h

/-- No block of the sketch cache is lost where all can be read. -/
theorem State.codeCheck_held {s : State} {c : Nat} (h : (s.eng (ctxEng c)).codeEcc = []) : s.codeCheck c = s := by
  simp [State.codeCheck, h]

/-- An instruction that issues acts on the state before its issue and the one after. -/
theorem State.insnAt_issues {s : State} {c : Nat} {w : Option Nat} (h : s.Issues c w) (f : State → State → Out) :
    s.insnAt w c f = f s (s.issued c) := by
  obtain ⟨h1, h2, h3, h4, h5, h6⟩ := h
  obtain ⟨v, rfl⟩ := Option.isSome_iff_exists.mp h4
  unfold State.insnAt
  rw [State.codeCheck_held h6, State.codeFill_held h3]
  simp [h1, h2, h3, h5]

/-- An instruction that issues acts on the state after its issue. -/
theorem State.insn_issues {s : State} {c : Nat} {i : Instr} (h : s.Issues c (insnWord i)) (f : State → Out) :
    s.insn i c f = f (s.issued c) :=
  State.insnAt_issues h _

end Sys2Proof.Machine
end

