-- ==== Sys2Proof/Laws/Kept.lean ====
section
/-! SUPPORT. How `Kept` composes, and what the plainest updates keep. -/

namespace Sys2Proof.Machine

theorem Kept.refl (s : State) : Kept s s := ⟨rfl, id, Nat.le_refl _⟩

theorem Kept.trans {s t u : State} (h : Kept s t) (g : Kept t u) : Kept s u :=
  ⟨g.queue.trans h.queue, fun i => g.inv (h.inv i), Nat.le_trans h.life g.life⟩

/-- An update of other parts of the state. -/
theorem Kept.of {s t : State} (hq : t.pending = s.pending) (hm : t.mem = s.mem) (hp : t.pal = s.pal)
    (hr : t.regs = s.regs) (hf : t.fuses = s.fuses) : Kept s t :=
  ⟨hq, fun i => ⟨hm ▸ i.mem, hp ▸ i.pal, hr ▸ i.regs⟩, hf ▸ Nat.le_refl _⟩

/-- An update of other parts of the state, as the record it gives. -/
theorem Kept.record (s : State) (poison : KMap Unit) (palPoison palEcc : KMap Unit) (hosts : KMap HostPort) (fns : KMap FnCfg)
    (pier : Pier) (pins : KMap ReadyPin) (evs : KMap EvFifo) (samples : Fifo (List Word)) (queues : KMap QueueSt)
    (sched : Sched) (metering : Metering) (ctxs : KMap Ctx) (engs : KMap Eng) (sandbox : Sandbox) (conns : KMap Conn)
    (mtch : Matching) (trees : KMap TreeSt) (route : Route) (ports : KMap Port) (lamps : KMap Lamp) (coh : Coh)
    (gddr : Gddr) (guard : Guard) (faults : Faults) (clock : Clock) (audit : Audit) (boot : Boot) (power : Power)
    (nextId : Nat) (free : Nat) (out : List Output) :
    Kept s (State.mk s.regs s.mem poison s.pal palPoison palEcc hosts fns pier pins evs samples queues sched metering ctxs
    engs sandbox conns mtch trees route ports lamps coh gddr guard s.fuses faults clock audit boot power
    nextId free s.pending out) :=
  Kept.of rfl rfl rfl rfl rfl


theorem Kept.foldl {α : Type} {f : State → α → State} (hf : ∀ t x, Kept t (f t x)) (l : List α) (s : State) :
    Kept s (l.foldl f s) := by
  induction l generalizing s with
  | nil => exact Kept.refl s
  | cons x l ih => exact (hf s x).trans (ih (f s x))

theorem Kept.foldr {α : Type} {f : α → State → State} (hf : ∀ x t, Kept t (f x t)) (l : List α) (s : State) :
    Kept s (l.foldr f s) := by
  induction l with
  | nil => exact Kept.refl s
  | cons x l ih => exact ih.trans (hf x _)

theorem Kept.foldl_pair {α β : Type} {f : State × β → α → State × β} (hf : ∀ t b x, Kept t (f (t, b) x).1)
    (l : List α) (p : State × β) : Kept p.1 (l.foldl f p).1 := by
  induction l generalizing p with
  | nil => exact Kept.refl _
  | cons x l ih => exact (hf p.1 p.2 x).trans (ih (f p x))

theorem Sound.next {s t : State} (h : Kept s t) : Sound s (.next t) := ⟨t, rfl, h⟩

theorem Sound.of {s t : State} {o : Out} (h : Kept s t) (g : Sound t o) : Sound s o := by
  obtain ⟨u, e, k⟩ := g
  exact ⟨u, e, h.trans k⟩

theorem Kept.eqn {α : Type} {s t : State} {p : State × α} {v : α} (h : p = (t, v)) (k : Kept s p.1) : Kept s t := by
  rw [h] at k
  exact k

theorem Kept.ite {c : Prop} [Decidable c] {s t u : State} (h : c → Kept s t) (g : ¬c → Kept s u) :
    Kept s (if c then t else u) := by
  split
  · exact h ‹_›
  · exact g ‹_›

theorem Sound.ite {c : Prop} [Decidable c] {s : State} {o p : Out} (h : c → Sound s o) (g : ¬c → Sound s p) :
    Sound s (if c then o else p) := by
  split
  · exact h ‹_›
  · exact g ‹_›

/-- `Kept` of the state an operation answers beside a value. -/
def KeptFst {α : Type} (s : State) (p : State × α) : Prop := Kept s p.1

theorem KeptFst.out {α : Type} {s : State} {p : State × α} (h : KeptFst s p) : Kept s p.1 := h

theorem KeptFst.of {α : Type} {s : State} {p : State × α} (h : Kept s p.1) : KeptFst s p := h

theorem KeptFst.ite {α : Type} {c : Prop} [Decidable c] {s : State} {p q : State × α} (h : c → KeptFst s p)
    (g : ¬c → KeptFst s q) : KeptFst s (if c then p else q) := by
  split
  · exact h ‹_›
  · exact g ‹_›

theorem KeptFst.pair {α : Type} {s t : State} {v : α} (h : Kept s t) : KeptFst s (t, v) := h

theorem KeptFst.trans {α : Type} {s t : State} {p : State × α} (h : Kept s t) (g : KeptFst t p) : KeptFst s p :=
  Kept.trans h g

/-- `Kept` of the state an operation answers, where it answers one. -/
def KeptOpt (s : State) (o : Option State) : Prop := ∀ u, o = some u → Kept s u

theorem KeptOpt.none (s : State) : KeptOpt s none := fun _ h => by cases h

theorem KeptOpt.some {s t : State} (h : Kept s t) : KeptOpt s (some t) := fun _ e => by cases e; exact h

theorem KeptOpt.of {s t : State} {o : Option State} (h : Kept s t) (g : KeptOpt t o) : KeptOpt s o :=
  fun u e => h.trans (g u e)

theorem KeptOpt.get {s u : State} {o : Option State} (e : o = .some u) (h : KeptOpt s o) : Kept s u := h u e

theorem KeptOpt.getD {s d : State} {o : Option State} (h : KeptOpt s o) (g : Kept s d) : Kept s (o.getD d) := by
  cases o with
  | none => exact g
  | some u => exact h u rfl

/-- `Kept` of a case on an option. -/
theorem Kept.elim {α : Type} {s d : State} {o : Option α} {f : α → State} (h : Kept s d) (g : ∀ x, Kept s (f x)) :
    Kept s (o.elim d f) := by
  cases o with
  | none => exact h
  | some x => exact g x

theorem KeptOpt.map {s : State} {o : Option State} {f : State → State} (h : KeptOpt s o) (g : ∀ u, Kept u (f u)) :
    KeptOpt s (o.map f) := by
  intro u e
  obtain ⟨t, ht, rfl⟩ := Option.map_eq_some_iff.1 e
  exact (h t ht).trans (g t)

theorem KeptOpt.ite {c : Prop} [Decidable c] {s : State} {o p : Option State} (h : c → KeptOpt s o)
    (g : ¬c → KeptOpt s p) : KeptOpt s (if c then o else p) := by
  split
  · exact h ‹_›
  · exact g ‹_›

/-! ## Memories -/

theorem KMap.sorted_cons {α : Type} (a : Nat × α) (m : KMap α) :
    KMap.sorted (a :: m) = true ↔ (∀ b ∈ m, a.1 < b.1) ∧ KMap.sorted m = true := by
  induction m generalizing a with
  | nil => simp [KMap.sorted]
  | cons b t ih =>
    simp only [KMap.sorted, Bool.and_eq_true, decide_eq_true_eq, List.mem_cons]
    constructor
    · rintro ⟨h, g⟩
      refine ⟨?_, g⟩
      rintro c (rfl | hc)
      · exact h
      · exact Nat.lt_trans h (((ih b).1 g).1 c hc)
    · rintro ⟨h, g⟩
      exact ⟨h b (.inl rfl), g⟩

theorem KMap.mem_put {α : Type} (m : KMap α) (i : Nat) (x : α) (c : Nat × α) (h : c ∈ KMap.put m i x) :
    c = (i, x) ∨ c ∈ m := by
  induction m with
  | nil => simpa [KMap.put] using h
  | cons a t ih =>
    simp only [KMap.put] at h
    split at h
    · simpa using h
    · split at h
      · rcases List.mem_cons.1 h with h | h
        · exact .inl h
        · exact .inr (List.mem_cons_of_mem _ h)
      · rcases List.mem_cons.1 h with h | h
        · exact .inr (h ▸ List.mem_cons_self ..)
        · exact (ih h).imp_right (List.mem_cons_of_mem _)

theorem KMap.put_sorted {α : Type} (m : KMap α) (i : Nat) (x : α) (h : KMap.sorted m = true) :
    KMap.sorted (KMap.put m i x) = true := by
  induction m with
  | nil => rfl
  | cons a t ih =>
    have hs := (KMap.sorted_cons a t).1 h
    simp only [KMap.put]
    split
    · rename_i hlt
      refine (KMap.sorted_cons _ _).2 ⟨?_, h⟩
      intro b hb
      rcases List.mem_cons.1 hb with rfl | hb
      · exact hlt
      · exact Nat.lt_trans hlt (hs.1 b hb)
    · split
      · rename_i he
        exact (KMap.sorted_cons _ _).2 ⟨fun b hb => he ▸ hs.1 b hb, hs.2⟩
      · rename_i h1 h2
        refine (KMap.sorted_cons _ _).2 ⟨?_, ih hs.2⟩
        intro b hb
        rcases KMap.mem_put t i x b hb with rfl | hb
        · show a.1 < i
          omega
        · exact hs.1 b hb

theorem KMap.mem_del {α : Type} (m : KMap α) (i : Nat) (c : Nat × α) (h : c ∈ KMap.del m i) : c ∈ m := by
  induction m with
  | nil => simp [KMap.del] at h
  | cons a t ih =>
    simp only [KMap.del] at h
    split at h
    · exact List.mem_cons_of_mem _ (ih h)
    · rcases List.mem_cons.1 h with rfl | h
      · exact List.mem_cons_self ..
      · exact List.mem_cons_of_mem _ (ih h)

theorem KMap.del_sorted {α : Type} (m : KMap α) (i : Nat) (h : KMap.sorted m = true) :
    KMap.sorted (KMap.del m i) = true := by
  induction m with
  | nil => rfl
  | cons a t ih =>
    have hs := (KMap.sorted_cons a t).1 h
    simp only [KMap.del]
    split
    · exact ih hs.2
    · exact (KMap.sorted_cons _ _).2 ⟨fun b hb => hs.1 b (KMap.mem_del t i b hb), ih hs.2⟩

theorem KMap.sorted_filter {α : Type} (m : KMap α) (p : Nat × α → Bool) (h : KMap.sorted m = true) :
    KMap.sorted (m.filter p) = true := by
  induction m with
  | nil => rfl
  | cons a t ih =>
    have hs := (KMap.sorted_cons a t).1 h
    simp only [List.filter_cons]
    split
    · exact (KMap.sorted_cons _ _).2 ⟨fun b hb => hs.1 b (List.mem_filter.1 hb).1, ih hs.2⟩
    · exact ih hs.2

/-- Writing a byte keeps the canonical form. -/
theorem Memory.write_wf (m : Memory) (a : Nat) (b : Byte) (h : Memory.wf m = true) : Memory.wf (m.write a b) = true := by
  simp only [Memory.wf, Bool.and_eq_true, List.all_eq_true] at h ⊢
  unfold Memory.write
  split
  · exact ⟨KMap.del_sorted _ _ h.1, fun c hc => h.2 c (KMap.mem_del _ _ _ hc)⟩
  · rename_i hb
    refine ⟨KMap.put_sorted _ _ _ h.1, fun c hc => ?_⟩
    rcases KMap.mem_put _ _ _ _ hc with rfl | hc
    · simpa using hb
    · exact h.2 c hc

/-- Writing bytes keeps the canonical form. -/
theorem Memory.writeBytes_wf (m : Memory) (a : Nat) (bs : List Byte) (h : Memory.wf m = true) :
    Memory.wf (m.writeBytes a bs) = true := by
  induction bs generalizing m a with
  | nil => exact h
  | cons b bs ih => exact ih _ _ (Memory.write_wf m a b h)

/-- Copying listed bytes keeps the canonical form. -/
theorem Memory.copy_wf (l : List (Nat × Byte)) (f : Nat × Byte → Nat) (m : Memory) (h : Memory.wf m = true) :
    Memory.wf (l.foldl (fun k c => k.write (f c) c.2) m) = true := by
  induction l generalizing m with
  | nil => exact h
  | cons c l ih => exact ih _ (Memory.write_wf m (f c) c.2 h)

/-- Dropping listed bytes keeps the canonical form. -/
theorem Memory.filter_wf (m : Memory) (p : Nat × Byte → Bool) (h : Memory.wf m = true) :
    Memory.wf (m.filter p) = true := by
  simp only [Memory.wf, Bool.and_eq_true, List.all_eq_true] at h ⊢
  exact ⟨KMap.sorted_filter _ _ h.1, fun c hc => h.2 c (List.mem_filter.1 hc).1⟩

/-! ## Words -/

theorem regPut_keys (l : List (Reg × Word)) (r : Reg) (v : Word) (k : Reg)
    (h : k ∈ (regPut l r v).map Prod.fst) : k = r ∨ k ∈ l.map Prod.fst := by
  induction l with
  | nil => simpa [regPut] using h
  | cons c l ih =>
    simp only [regPut] at h
    split at h
    · exact .inr (by simpa using h)
    · simp only [List.map_cons, List.mem_cons] at h ⊢
      rcases h with h | h
      · exact .inr (.inl h)
      · exact (ih h).imp_right .inr

theorem regPut_nodup (l : List (Reg × Word)) (r : Reg) (v : Word) (h : (l.map Prod.fst).Nodup) :
    ((regPut l r v).map Prod.fst).Nodup := by
  induction l with
  | nil => simp [regPut]
  | cons c l ih =>
    simp only [List.map_cons, List.nodup_cons] at h
    simp only [regPut]
    split
    · simpa using h
    · rename_i hne
      simp only [List.map_cons, List.nodup_cons]
      refine ⟨fun hk => ?_, ih h.2⟩
      rcases regPut_keys l r v c.1 hk with he | hk
      · exact hne he
      · exact h.1 hk

theorem State.set_kept (s : State) (r : Reg) (v : Word) : Kept s (s.set r v) :=
  ⟨rfl, fun i => ⟨i.mem, i.pal, regPut_nodup _ _ _ i.regs⟩, Nat.le_refl _⟩

theorem State.resetRegs_kept (s : State) (p : Reg → Bool) : Kept s (s.resetRegs p) :=
  ⟨rfl, fun i => ⟨i.mem, i.pal, List.Sublist.nodup (List.Sublist.map _ List.filter_sublist) i.regs⟩,
    Nat.le_refl _⟩

end Sys2Proof.Machine
end

