-- ==== Sys2Proof/Laws/KeptBase.lean ====
section
/-! SUPPORT. What the shared operations keep: the queue, a state in good form, and the lifecycle (`Kept`). -/

set_option linter.unusedVariables false

namespace Sys2Proof.Machine

theorem State.wr_kept (s : State) (f : Fld) (v : Nat) : Kept s (State.wr s f v) := by
  unfold State.wr
  refine Kept.trans ?_ (State.set_kept ..)
  exact Kept.refl _

theorem State.count_kept (s : State) (f : Fld) (k : Nat) : Kept s (State.count s f k) := by
  unfold State.count
  refine Kept.trans ?_ (State.wr_kept ..)
  exact Kept.refl _

theorem State.setHost_kept (s : State) (n : Nat) (f : HostPort → HostPort) : Kept s (State.setHost s n f) := by
  unfold State.setHost
  refine Kept.trans ?_ (Kept.record ..)
  exact Kept.refl _

theorem State.setFn_kept (s : State) (k : Nat) (f : FnCfg → FnCfg) : Kept s (State.setFn s k f) := by
  unfold State.setFn
  refine Kept.trans ?_ (Kept.record ..)
  exact Kept.refl _

theorem State.setPin_kept (s : State) (k : Nat) (f : ReadyPin → ReadyPin) : Kept s (State.setPin s k f) := by
  unfold State.setPin
  refine Kept.trans ?_ (Kept.record ..)
  exact Kept.refl _

theorem State.setEv_kept (s : State) (k : Nat) (f : EvFifo → EvFifo) : Kept s (State.setEv s k f) := by
  unfold State.setEv
  refine Kept.trans ?_ (Kept.record ..)
  exact Kept.refl _

theorem State.setQue_kept (s : State) (q : Nat) (f : QueueSt → QueueSt) : Kept s (State.setQue s q f) := by
  unfold State.setQue
  refine Kept.trans ?_ (Kept.record ..)
  exact Kept.refl _

theorem State.setCtx_kept (s : State) (c : Nat) (f : Ctx → Ctx) : Kept s (State.setCtx s c f) := by
  unfold State.setCtx
  refine Kept.trans ?_ (Kept.record ..)
  exact Kept.refl _

theorem State.setEng_kept (s : State) (e : Nat) (f : Eng → Eng) : Kept s (State.setEng s e f) := by
  unfold State.setEng
  refine Kept.trans ?_ (Kept.record ..)
  exact Kept.refl _

theorem State.emit_kept (s : State) (o : Output) : Kept s (State.emit s o) := by
  unfold State.emit
  refine Kept.trans ?_ (Kept.record ..)
  exact Kept.refl _

theorem State.dma_kept (s : State) (o : Output) : Kept s (State.dma s o) := by
  unfold State.dma
  refine Kept.ite (fun z0 => ?_) (fun z0 => ?_)
  · exact Kept.refl _
  · refine Kept.trans ?_ (State.emit_kept ..)
    exact Kept.refl _

theorem State.cxlTouch_kept (s : State) (f iova n : Nat) : Kept s (State.cxlTouch s f iova n) := by
  unfold State.cxlTouch
  refine Kept.ite (fun z0 => ?_) (fun z0 => ?_)
  · refine Kept.trans ?_ (State.setHost_kept ..)
    exact Kept.refl _
  · exact Kept.refl _

theorem State.answer_kept (s : State) (m : Mst) (v : Word) : Kept s (State.answer s m v) := by
  unfold State.answer
  refine Kept.trans ?_ (State.emit_kept ..)
  exact Kept.refl _

theorem State.takeId_kept (s : State) : Kept s (State.takeId s) := by
  unfold State.takeId
  refine Kept.trans ?_ (Kept.record ..)
  exact Kept.refl _

theorem State.drawn_kept (s : State) : Kept s (State.drawn s) := by
  unfold State.drawn
  refine Kept.trans ?_ (Kept.record ..)
  exact Kept.refl _

theorem State.cntAdd_kept (b fuel k n : Nat) (s : State) : Kept s (State.cntAdd b fuel k n s) := by
  induction fuel generalizing k n s with
  | zero =>
    unfold State.cntAdd
    refine Kept.ite (fun _ => ?_) (fun _ => Kept.refl s)
    exact Kept.ite (fun _ => State.wr_kept ..) (fun _ => (State.wr_kept ..).trans (State.wr_kept ..))
  | succ f ih =>
    unfold State.cntAdd
    refine Kept.ite (fun _ => ?_) (fun _ => Kept.refl s)
    refine Kept.ite (fun _ => State.wr_kept ..) (fun _ => ?_)
    exact Kept.ite (fun _ => (State.wr_kept ..).trans (ih ..)) (fun _ => (State.wr_kept ..).trans (State.wr_kept ..))

theorem State.timeCounts_kept (s : State) (d : Nat) : Kept s (State.timeCounts s d) := by
  unfold State.timeCounts
  refine Kept.trans ?_ (Kept.foldl (fun t0 x1 => ?_) _ _)
  · exact Kept.refl _
  · refine Kept.trans ?_ (Kept.foldl (fun t2 x3 => ?_) _ _)
    · exact Kept.refl _
    · refine Kept.ite (fun z4 => ?_) (fun z4 => ?_)
      · exact Kept.refl _
      · refine Kept.trans ?_ (State.cntAdd_kept ..)
        exact Kept.refl _

theorem State.pass_kept (s : State) (d : Nat) : Kept s (State.pass s d) := by
  unfold State.pass
  lift_lets
  intro x0
  have h1 : Kept s x0 := by
    unfold x0
    refine Kept.trans ?_ (State.timeCounts_kept ..)
    exact Kept.refl _
  clear_value x0
  intro x2
  clear_value x2
  intro x3
  have h4 : Kept s x3 := by
    unfold x3
    refine Kept.trans ?_ (State.wr_kept ..)
    exact h1
  clear_value x3
  refine Kept.ite (fun z5 => ?_) (fun z5 => ?_)
  · exact Kept.refl _
  · split
    rename_i z6 z7 z8 z9 z10 z11
    refine Kept.trans ?_ (Kept.record ..)
    exact h4

theorem State.passTo_kept (s : State) (t : Nat) : Kept s (State.passTo s t) := by
  unfold State.passTo
  refine Kept.trans ?_ (State.pass_kept ..)
  exact Kept.refl _

theorem State.passTim_kept (s : State) (t : Nat) : Kept s (State.passTim s t) := by
  unfold State.passTim
  refine Kept.ite (fun z0 => ?_) (fun z0 => ?_)
  · exact Kept.refl _
  · refine Kept.trans ?_ (State.pass_kept ..)
    exact Kept.refl _

theorem State.pinSync_kept (s : State) : Kept s (State.pinSync s) := by
  unfold State.pinSync
  refine Kept.trans ?_ (Kept.foldl (fun t0 x1 => ?_) _ _)
  · exact Kept.refl _
  · refine Kept.trans ?_ (State.setPin_kept ..)
    exact Kept.refl _

theorem State.wmEval_kept (s : State) (i : Nat) (depth : Nat) : Kept s (State.wmEval s i depth) := by
  unfold State.wmEval
  lift_lets
  intro x0
  have h1 : Kept s x0 := by
    unfold x0
    refine Kept.trans ?_ (State.wr_kept ..)
    exact Kept.refl _
  clear_value x0
  intro x4
  have h5 : Kept s x4 := by
    unfold x4
    refine Kept.trans ?_ (State.count_kept ..)
    refine Kept.trans ?_ (State.wr_kept ..)
    exact h1
  clear_value x4
  refine Kept.ite (fun z9 => ?_) (fun z9 => ?_)
  · refine Kept.ite (fun z11 => ?_) (fun z11 => ?_)
    · exact h1
    · refine Kept.ite (fun z14 => ?_) (fun z14 => ?_)
      · refine Kept.trans ?_ (State.wr_kept ..)
        exact h5
      · exact h5
  · refine Kept.ite (fun z19 => ?_) (fun z19 => ?_)
    · refine Kept.trans ?_ (State.wr_kept ..)
      exact h1
    · exact h1

theorem State.evPush_kept (s : State) (k : Nat) (e : Quad) : Kept s (State.evPush s k e) := by
  unfold State.evPush
  lift_lets
  intro x0
  have h1 : Kept s x0 := by
    unfold x0
    refine Kept.trans ?_ (State.setEv_kept ..)
    exact Kept.refl _
  clear_value x0
  refine Kept.trans ?_ (State.wmEval_kept ..)
  exact h1

theorem State.evLost_kept (s : State) (k : Nat) : Kept s (State.evLost s k) := by
  unfold State.evLost
  lift_lets
  intro x0
  have h1 : Kept s x0 := by
    unfold x0
    refine Kept.trans ?_ (State.setEv_kept ..)
    exact Kept.refl _
  clear_value x0
  refine Kept.ite (fun z4 => ?_) (fun z4 => ?_)
  · refine Kept.trans ?_ (State.count_kept ..)
    exact h1
  · exact h1

theorem State.evOverflow_kept (s : State) (k : Nat) : Kept s (State.evOverflow s k) := by
  unfold State.evOverflow
  lift_lets
  intro x0
  clear_value x0
  refine Kept.ite (fun z1 => ?_) (fun z1 => ?_)
  · exact Kept.refl _
  · refine Kept.trans ?_ (State.setEv_kept ..)
    refine Kept.trans ?_ (State.evPush_kept ..)
    exact Kept.refl _

theorem State.evPost_kept (s : State) (k : Nat) (cls : Nat) (master : Nat) (detail : Nat) (arg : Nat) (low : Bool) : Kept s (State.evPost s k cls master detail arg low) := by
  unfold State.evPost
  refine Kept.ite (fun z0 => ?_) (fun z0 => ?_)
  · refine Kept.trans ?_ (State.evLost_kept ..)
    exact Kept.refl _
  · lift_lets
    intro x4
    have h5 : Kept s x4 := by
      unfold x4
      refine Kept.trans ?_ (State.evOverflow_kept ..)
      exact Kept.refl _
    clear_value x4
    refine Kept.ite (fun z8 => ?_) (fun z8 => ?_)
    · refine Kept.trans ?_ (State.evLost_kept ..)
      exact h5
    · refine Kept.trans ?_ (State.evPush_kept ..)
      exact h5

theorem State.evPop_kept (s : State) (k : Nat) : Kept s (State.evPop s k) := by
  unfold State.evPop
  lift_lets
  intro x0
  clear_value x0
  intro x1
  have h2 : Kept s x1 := by
    unfold x1
    refine Kept.trans ?_ (State.setEv_kept ..)
    exact Kept.refl _
  clear_value x1
  intro x5
  have h6 : Kept s x5 := by
    unfold x5
    refine Kept.trans ?_ (State.wmEval_kept ..)
    exact h2
  clear_value x5
  refine Kept.ite (fun z9 => ?_) (fun z9 => ?_)
  · refine Kept.trans ?_ (State.evOverflow_kept ..)
    exact h6
  · exact h6

theorem State.samplePush_kept (s : State) (r : List Word) : Kept s (State.samplePush s r) := by
  unfold State.samplePush
  refine Kept.ite (fun z0 => ?_) (fun z0 => ?_)
  · refine Kept.trans ?_ (State.count_kept ..)
    exact Kept.refl _
  · lift_lets
    intro x4
    have h5 : Kept s x4 := by
      unfold x4
      refine Kept.trans ?_ (Kept.record ..)
      exact Kept.refl _
    clear_value x4
    refine Kept.trans ?_ (State.wmEval_kept ..)
    exact h5

theorem State.msix_kept (s : State) (func vector : Nat) : Kept s (State.msix s func vector) := by
  unfold State.msix
  lift_lets
  intro x0
  clear_value x0
  refine Kept.ite (fun z1 => ?_) (fun z1 => ?_)
  · refine Kept.trans ?_ (State.count_kept ..)
    refine Kept.trans ?_ (State.wr_kept ..)
    refine Kept.trans ?_ (State.wr_kept ..)
    refine Kept.trans ?_ (State.wr_kept ..)
    exact Kept.refl _
  · refine Kept.ite (fun z2 => ?_) (fun z2 => ?_)
    · refine Kept.ite (fun z3 => ?_) (fun z3 => ?_)
      · exact Kept.refl _
      · refine Kept.trans ?_ (State.setFn_kept ..)
        exact Kept.refl _
    · refine Kept.trans ?_ (State.dma_kept ..)
      exact Kept.refl _

theorem State.msixFlush_kept (s : State) (func : Nat) : Kept s (State.msixFlush s func) := by
  unfold State.msixFlush
  lift_lets
  intro x0
  clear_value x0
  refine Kept.ite (fun z1 => ?_) (fun z1 => ?_)
  · exact Kept.refl _
  · refine Kept.trans ?_ (Kept.foldr (fun x3 t2 => ?_) _ _)
    · refine Kept.trans ?_ (State.setFn_kept ..)
      exact Kept.refl _
    · refine Kept.trans ?_ (State.dma_kept ..)
      exact Kept.refl _

theorem State.advancePi_kept (s : State) (q : Nat) : Kept s (State.advancePi s q) := by
  unfold State.advancePi
  lift_lets
  intro x0
  clear_value x0
  intro x1
  have h2 : Kept s x1 := by
    unfold x1
    refine Kept.ite (fun z3 => ?_) (fun z3 => ?_)
    · refine Kept.trans ?_ (State.wr_kept ..)
      exact Kept.refl _
    · exact Kept.refl _
  clear_value x1
  refine Kept.trans ?_ (State.wr_kept ..)
  exact h2

theorem State.ringPut_kept (s : State) (q : Nat) (e : Quad) : Kept s (State.ringPut s q e) := by
  unfold State.ringPut
  refine Kept.ite (fun z0 => ?_) (fun z0 => ?_)
  · exact Kept.refl _
  · lift_lets
    intro x3
    clear_value x3
    intro x4
    clear_value x4
    intro x5
    clear_value x5
    intro x6
    clear_value x6
    intro x7
    have h8 : Kept s x7 := by
      unfold x7
      refine Kept.ite (fun z9 => ?_) (fun z9 => ?_)
      · refine Kept.trans ?_ (State.dma_kept ..)
        refine Kept.trans ?_ (State.dma_kept ..)
        exact Kept.refl _
      · refine Kept.trans ?_ (State.dma_kept ..)
        exact Kept.refl _
    clear_value x7
    refine Kept.trans ?_ (State.advancePi_kept ..)
    exact h8

theorem State.postEntry_kept (s : State) (q : Nat) (e : Quad) : Kept s (State.postEntry s q e) := by
  unfold State.postEntry
  refine Kept.ite (fun z0 => ?_) (fun z0 => ?_)
  · exact Kept.refl _
  · refine Kept.ite (fun z3 => ?_) (fun z3 => ?_)
    · refine Kept.ite (fun z5 => ?_) (fun z5 => ?_)
      · refine Kept.trans ?_ (State.count_kept ..)
        exact Kept.refl _
      · lift_lets
        intro x9
        have h10 : Kept s x9 := by
          unfold x9
          refine Kept.trans ?_ (State.ringPut_kept ..)
          exact Kept.refl _
        clear_value x9
        refine Kept.ite (fun z13 => ?_) (fun z13 => ?_)
        · refine Kept.trans ?_ (State.msix_kept ..)
          exact h10
        · exact h10
    · exact Kept.refl _

theorem State.postEvent_kept (s : State) (q : Nat) (code : Nat) (queue : Nat) (arg : Word) : Kept s (State.postEvent s q code queue arg) := by
  unfold State.postEvent
  refine Kept.trans ?_ (State.postEntry_kept ..)
  exact Kept.refl _

theorem State.postLost_kept (s : State) (q : Nat) : Kept s (State.postLost s q) := by
  unfold State.postLost
  lift_lets
  intro x0
  clear_value x0
  refine Kept.ite (fun z1 => ?_) (fun z1 => ?_)
  · exact Kept.refl _
  · refine Kept.trans ?_ (State.wr_kept ..)
    refine Kept.trans ?_ (State.postEvent_kept ..)
    exact Kept.refl _

theorem State.fltStatus_kept (s : State) (n : Nat) : Kept s (State.fltStatus s n) := by
  unfold State.fltStatus
  refine Kept.trans ?_ (State.wr_kept ..)
  exact Kept.refl _

theorem State.domCapture_kept (s : State) (d : Nat) (n : Nat) (a : RaiseArg) : Kept s (State.domCapture s d n a) := by
  unfold State.domCapture
  lift_lets
  intro x0
  clear_value x0
  intro x1
  clear_value x1
  refine Kept.trans ?_ (State.set_kept ..)
  refine Kept.trans ?_ (State.set_kept ..)
  refine Kept.trans ?_ (State.set_kept ..)
  refine Kept.trans ?_ (State.set_kept ..)
  exact Kept.refl _

theorem State.pairHold_kept (s : State) (sev : Nat) : Kept s (State.pairHold s sev) := by
  unfold State.pairHold
  lift_lets
  intro x0
  have h1 : Kept s x0 := by
    unfold x0
    refine Kept.ite (fun z2 => ?_) (fun z2 => ?_)
    · refine Kept.trans ?_ (State.wr_kept ..)
      exact Kept.refl _
    · exact Kept.refl _
  clear_value x0
  refine Kept.ite (fun z7 => ?_) (fun z7 => ?_)
  · refine Kept.trans ?_ (State.wr_kept ..)
    refine Kept.trans ?_ (State.wr_kept ..)
    exact h1
  · exact h1

theorem State.raiseRec_kept (s : State) (n : Nat) (a : RaiseArg) : Kept s (State.raiseRec s n a) := by
  unfold State.raiseRec
  split
  · rename_i z0 z1
    exact Kept.refl _
  · rename_i z2 z3 z4
    lift_lets
    intro x5
    clear_value x5
    intro x6
    clear_value x6
    intro x7
    clear_value x7
    intro x8
    have h9 : Kept s x8 := by
      unfold x8
      refine Kept.trans ?_ (State.fltStatus_kept ..)
      refine Kept.trans ?_ (State.wr_kept ..)
      refine Kept.trans ?_ (State.count_kept ..)
      exact Kept.refl _
    clear_value x8
    intro x10
    have h11 : Kept s x10 := by
      unfold x10
      refine Kept.ite (fun z12 => ?_) (fun z12 => ?_)
      · refine Kept.trans ?_ (State.wr_kept ..)
        refine Kept.trans ?_ (State.domCapture_kept ..)
        exact h9
      · exact h9
    clear_value x10
    intro x13
    have h14 : Kept s x13 := by
      unfold x13
      refine Kept.trans ?_ (State.count_kept ..)
      exact h11
    clear_value x13
    intro x15
    have h16 : Kept s x15 := by
      unfold x15
      refine Kept.trans ?_ (State.wr_kept ..)
      refine Kept.trans ?_ (State.domCapture_kept ..)
      exact h9
    clear_value x15
    intro x17
    clear_value x17
    intro x18
    have h19 : Kept s x18 := by
      unfold x18
      refine Kept.ite (fun z20 => ?_) (fun z20 => ?_)
      · refine Kept.ite (fun z21 => ?_) (fun z21 => ?_)
        · refine Kept.trans ?_ (State.evPost_kept ..)
          exact h14
        · exact h14
      · refine Kept.trans ?_ (State.evPost_kept ..)
        refine Kept.trans ?_ (Kept.record ..)
        exact h16
    clear_value x18
    intro x22
    have h23 : Kept s x22 := by
      unfold x22
      refine Kept.ite (fun z24 => ?_) (fun z24 => ?_)
      · refine Kept.trans ?_ (State.evPost_kept ..)
        exact h19
      · exact h19
    clear_value x22
    intro x25
    have h26 : Kept s x25 := by
      unfold x25
      refine Kept.ite (fun z27 => ?_) (fun z27 => ?_)
      · refine Kept.trans ?_ (State.postEvent_kept ..)
        exact h23
      · exact h23
    clear_value x25
    refine Kept.trans ?_ (State.pairHold_kept ..)
    exact h26

theorem State.audPut_kept (s : State) (w0 w1 old new : Word) : Kept s (State.audPut s w0 w1 old new) := by
  unfold State.audPut
  lift_lets
  intro x0
  clear_value x0
  intro x1
  clear_value x1
  intro x2
  clear_value x2
  intro x3
  have h4 : Kept s x3 := by
    unfold x3
    refine Kept.trans ?_ (Kept.record ..)
    exact Kept.refl _
  clear_value x3
  intro x5
  have h6 : Kept s x5 := by
    unfold x5
    refine Kept.trans ?_ (State.set_kept ..)
    refine Kept.trans ?_ (State.set_kept ..)
    refine Kept.trans ?_ (State.set_kept ..)
    refine Kept.trans ?_ (State.set_kept ..)
    exact h4
  clear_value x5
  intro x7
  have h8 : Kept s x7 := by
    unfold x7
    refine Kept.trans ?_ (State.wr_kept ..)
    refine Kept.trans ?_ (State.wr_kept ..)
    exact h6
  clear_value x7
  refine Kept.ite (fun z9 => ?_) (fun z9 => ?_)
  · refine Kept.trans ?_ (State.count_kept ..)
    exact h8
  · exact h8

theorem State.audCommit_kept (s : State) (r : AudRec) : Kept s (State.audCommit s r) := by
  unfold State.audCommit
  refine Kept.trans ?_ (State.audPut_kept ..)
  exact Kept.refl _

theorem State.audPayGap_kept (s : State) : Kept s (State.audPayGap s) := by
  unfold State.audPayGap
  split
  · rename_i z1 z2 z3 z4
    refine Kept.ite (fun z5 => ?_) (fun z5 => ?_)
    · lift_lets
      intro x7
      have h8 : Kept s x7 := by
        unfold x7
        refine Kept.trans ?_ (State.audCommit_kept ..)
        exact Kept.refl _
      clear_value x7
      intro x11
      clear_value x11
      refine Kept.trans ?_ (Kept.record ..)
      exact h8
    · exact Kept.refl _
  · rename_i z15 z16
    exact Kept.refl _

theorem State.audPass_kept (s : State) (n : Nat) : Kept s (State.audPass s n) := by
  unfold State.audPass
  lift_lets
  intro x0
  clear_value x0
  intro x1
  clear_value x1
  intro x2
  have h3 : Kept s x2 := by
    unfold x2
    refine Kept.trans ?_ (State.wr_kept ..)
    exact Kept.refl _
  clear_value x2
  refine Kept.trans ?_ (Kept.foldl (fun t6 x7 => ?_) _ _)
  · exact h3
  · refine Kept.trans ?_ (State.audPut_kept ..)
    exact Kept.refl _

theorem State.audFree_kept (need n : Nat) (s : State) : Kept s (State.audFree need n s) := by
  induction n generalizing s with
  | zero => exact Kept.refl s
  | succ n ih =>
    have h : Kept s ((s.audPass 256).count F.audStat_LOST 256) :=
      (State.audPass_kept ..).trans (State.count_kept ..)
    simp only [State.audFree]
    split
    · exact h
    · exact h.trans (ih _)

theorem State.setLstate_kept (s : State) (n : Nat) (v : Nat) : Kept s (State.setLstate s n v) := by
  unfold State.setLstate
  refine Kept.ite (fun z0 => ?_) (fun z0 => ?_)
  · exact Kept.refl _
  · refine Kept.trans ?_ (State.evPost_kept ..)
    refine Kept.trans ?_ (State.wr_kept ..)
    exact Kept.refl _

theorem State.setPstate_kept (s : State) (n : Nat) (v : Nat) : Kept s (State.setPstate s n v) := by
  unfold State.setPstate
  refine Kept.ite (fun z0 => ?_) (fun z0 => ?_)
  · exact Kept.refl _
  · refine Kept.trans ?_ (State.evPost_kept ..)
    refine Kept.trans ?_ (State.wr_kept ..)
    exact Kept.refl _

theorem State.haltCore_kept (s : State) (n sev : Nat) : Kept s (State.haltCore s n sev) := by
  unfold State.haltCore
  lift_lets
  intro x0
  have h1 : Kept s x0 := by
    unfold x0
    refine Kept.trans ?_ (State.wr_kept ..)
    refine Kept.trans ?_ (State.wr_kept ..)
    exact Kept.refl _
  clear_value x0
  intro x2
  have h3 : Kept s x2 := by
    unfold x2
    refine Kept.ite (fun z4 => ?_) (fun z4 => ?_)
    · refine Kept.trans ?_ (State.wr_kept ..)
      exact h1
    · exact h1
  clear_value x2
  intro x5
  have h6 : Kept s x5 := by
    unfold x5
    refine Kept.trans ?_ (Kept.foldl (fun t7 x8 => ?_) _ _)
    · exact h3
    · lift_lets
      intro x9
      have h10 : Kept t7 x9 := by
        unfold x9
        refine Kept.ite (fun z11 => ?_) (fun z11 => ?_)
        · refine Kept.trans ?_ (State.setLstate_kept ..)
          refine Kept.trans ?_ (State.wr_kept ..)
          exact Kept.refl _
        · exact Kept.refl _
      clear_value x9
      intro x12
      have h13 : Kept t7 x12 := by
        unfold x12
        refine Kept.trans ?_ (State.wr_kept ..)
        refine Kept.trans ?_ (State.wr_kept ..)
        exact h10
      clear_value x12
      refine Kept.ite (fun z14 => ?_) (fun z14 => ?_)
      · refine Kept.trans ?_ (State.setPstate_kept ..)
        exact h13
      · exact h13
  clear_value x5
  intro x15
  clear_value x15
  intro x16
  have h17 : Kept s x16 := by
    unfold x16
    refine Kept.trans ?_ (Kept.record ..)
    exact h6
  clear_value x16
  refine Kept.trans ?_ (State.pinSync_kept ..)
  exact h17

theorem State.audMakeRoom_kept (s : State) (r : AudRec) : Kept s (State.audMakeRoom s r) := by
  unfold State.audMakeRoom
  lift_lets
  intro x0
  clear_value x0
  intro x1
  have h2 : Kept s x1 := by
    unfold x1
    refine Kept.trans ?_ (State.audFree_kept ..)
    exact Kept.refl _
  clear_value x1
  intro x3
  clear_value x3
  refine Kept.trans ?_ (State.audCommit_kept ..)
  refine Kept.trans ?_ (State.audCommit_kept ..)
  refine Kept.trans ?_ (State.audPayGap_kept ..)
  exact h2

theorem State.gapRaise_kept (s : State) : Kept s (State.gapRaise s) := by
  unfold State.gapRaise
  lift_lets
  intro x0
  clear_value x0
  intro x1
  have h2 : Kept s x1 := by
    unfold x1
    refine Kept.trans ?_ (State.raiseRec_kept ..)
    exact Kept.refl _
  clear_value x1
  intro x3
  have h4 : Kept s x3 := by
    unfold x3
    refine Kept.trans ?_ (State.haltCore_kept ..)
    exact h2
  clear_value x3
  refine Kept.ite (fun z5 => ?_) (fun z5 => ?_)
  · refine Kept.ite (fun z6 => ?_) (fun z6 => ?_)
    · refine Kept.trans ?_ (State.audCommit_kept ..)
      exact h4
    · refine Kept.trans ?_ (State.raiseRec_kept ..)
      refine Kept.trans ?_ (State.audMakeRoom_kept ..)
      exact h4
  · exact h2

theorem State.audLossy_kept (s : State) (r : AudRec) : Kept s (State.audLossy s r) := by
  unfold State.audLossy
  refine Kept.trans ?_ (State.gapRaise_kept ..)
  refine Kept.trans ?_ (State.audMakeRoom_kept ..)
  exact Kept.refl _

theorem State.audAppend_kept (s : State) (r : AudRec) : Kept s (State.audAppend s r) := by
  unfold State.audAppend
  lift_lets
  intro x0
  have h1 : Kept s x0 := by
    unfold x0
    refine Kept.trans ?_ (State.audPayGap_kept ..)
    exact Kept.refl _
  clear_value x0
  intro x4
  clear_value x4
  intro x5
  clear_value x5
  intro x6
  have h7 : Kept s x6 := by
    unfold x6
    refine Kept.trans ?_ (State.wr_kept ..)
    refine Kept.trans ?_ (State.count_kept ..)
    exact h1
  clear_value x6
  intro x11
  clear_value x11
  refine Kept.ite (fun z12 => ?_) (fun z12 => ?_)
  · refine Kept.trans ?_ (State.audCommit_kept ..)
    exact h1
  · refine Kept.ite (fun z16 => ?_) (fun z16 => ?_)
    · refine Kept.trans ?_ (State.audLossy_kept ..)
      exact h1
    · refine Kept.trans ?_ (Kept.record ..)
      exact h7

theorem State.audRepair_kept (s : State) (r : AudRec) : Kept s (State.audRepair s r).1 := by
  refine KeptFst.out ?_
  unfold State.audRepair
  lift_lets
  intro x0
  have h1 : Kept s x0 := by
    unfold x0
    refine Kept.trans ?_ (State.audPayGap_kept ..)
    exact Kept.refl _
  clear_value x0
  refine KeptFst.ite (fun z4 => ?_) (fun z4 => ?_)
  · refine KeptFst.pair ?_
    refine Kept.trans ?_ (State.audCommit_kept ..)
    exact h1
  · refine KeptFst.ite (fun z9 => ?_) (fun z9 => ?_)
    · refine KeptFst.pair ?_
      refine Kept.trans ?_ (State.audLossy_kept ..)
      exact h1
    · refine KeptFst.pair ?_
      exact h1

theorem State.engError_kept (s : State) (g : Nat) (k : Nat) : Kept s (State.engError s g k) := by
  unfold State.engError
  lift_lets
  intro x0
  clear_value x0
  refine Kept.trans ?_ (Kept.record ..)
  exact Kept.refl _

theorem State.raise_kept (s : State) (n : Nat) (a : RaiseArg) : Kept s (State.raise s n a) := by
  unfold State.raise
  lift_lets
  intro x0
  clear_value x0
  intro x1
  have h2 : Kept s x1 := by
    unfold x1
    refine Kept.trans ?_ (State.raiseRec_kept ..)
    exact Kept.refl _
  clear_value x1
  intro x5
  clear_value x5
  intro x6
  have h7 : Kept s x6 := by
    unfold x6
    refine Kept.ite (fun z8 => ?_) (fun z8 => ?_)
    · refine Kept.trans ?_ (Kept.record ..)
      exact h2
    · exact h2
  clear_value x6
  refine Kept.ite (fun z13 => ?_) (fun z13 => ?_)
  · refine Kept.trans ?_ (State.audAppend_kept ..)
    refine Kept.trans ?_ (State.haltCore_kept ..)
    exact h7
  · exact h7

theorem State.audAsk_kept (s : State) (r : AudRec) : Kept s (State.audAsk s r).1 := by
  refine KeptFst.out ?_
  unfold State.audAsk
  refine KeptFst.ite (fun z0 => ?_) (fun z0 => ?_)
  · refine KeptFst.pair ?_
    exact Kept.refl _
  · refine KeptFst.ite (fun z4 => ?_) (fun z4 => ?_)
    · refine KeptFst.pair ?_
      refine Kept.trans ?_ (State.audAppend_kept ..)
      exact Kept.refl _
    · lift_lets
      intro x9
      have h10 : Kept s x9 := by
        unfold x9
        refine Kept.trans ?_ (State.audPayGap_kept ..)
        exact Kept.refl _
      clear_value x9
      intro x13
      have h14 : Kept s x13 := by
        unfold x13
        refine Kept.trans ?_ (State.raise_kept ..)
        refine Kept.trans ?_ (State.count_kept ..)
        exact h10
      clear_value x13
      intro x18
      clear_value x18
      refine KeptFst.ite (fun z19 => ?_) (fun z19 => ?_)
      · refine KeptFst.pair ?_
        refine Kept.trans ?_ (State.audCommit_kept ..)
        exact h10
      · refine KeptFst.pair ?_
        refine Kept.trans ?_ (Kept.record ..)
        exact h14

theorem State.latentRaise_kept (s : State) (src unit : Nat) : Kept s (State.latentRaise s src unit) := by
  unfold State.latentRaise
  lift_lets
  intro x0
  clear_value x0
  refine Kept.trans ?_ (State.raise_kept ..)
  refine Kept.trans ?_ (Kept.record ..)
  exact Kept.refl _

theorem State.condRise_kept (s : State) (n : Nat) (unit : Nat) (a : RaiseArg) : Kept s (State.condRise s n unit a) := by
  unfold State.condRise
  refine Kept.ite (fun z0 => ?_) (fun z0 => ?_)
  · exact Kept.refl _
  · lift_lets
    intro x3
    clear_value x3
    intro x4
    have h5 : Kept s x4 := by
      unfold x4
      refine Kept.trans ?_ (Kept.record ..)
      exact Kept.refl _
    clear_value x4
    refine Kept.trans ?_ (State.raise_kept ..)
    refine Kept.trans ?_ (State.fltStatus_kept ..)
    refine Kept.trans ?_ (State.wr_kept ..)
    exact h5

theorem State.condClear_kept (s : State) (n : Nat) (unit : Nat) : Kept s (State.condClear s n unit) := by
  unfold State.condClear
  lift_lets
  intro x0
  clear_value x0
  intro x1
  clear_value x1
  intro x2
  have h3 : Kept s x2 := by
    unfold x2
    refine Kept.trans ?_ (Kept.record ..)
    exact Kept.refl _
  clear_value x2
  refine Kept.ite (fun z6 => ?_) (fun z6 => ?_)
  · exact h3
  · refine Kept.trans ?_ (State.fltStatus_kept ..)
    refine Kept.trans ?_ (State.wr_kept ..)
    exact h3

theorem State.tally_kept (s : State) (b : Nat) (code : Nat) (n : Nat) : Kept s (State.tally s b code n) := by
  unfold State.tally
  refine Kept.ite (fun z0 => ?_) (fun z0 => ?_)
  · exact Kept.refl _
  · refine Kept.trans ?_ (Kept.foldl (fun t3 x4 => ?_) _ _)
    · exact Kept.refl _
    · refine Kept.ite (fun z7 => ?_) (fun z7 => ?_)
      · refine Kept.trans ?_ (State.cntAdd_kept ..)
        exact Kept.refl _
      · exact Kept.refl _

theorem State.meterEdge_kept (s : State) : Kept s (State.meterEdge s) := by
  unfold State.meterEdge
  lift_lets
  intro x0
  clear_value x0
  intro x1
  clear_value x1
  refine Kept.ite (fun z2 => ?_) (fun z2 => ?_)
  · refine Kept.trans ?_ (Kept.record ..)
    exact Kept.refl _
  · exact Kept.refl _

theorem State.bwClose_kept (s : State) (t n : Nat) : Kept s (State.bwClose s t n) := by
  unfold State.bwClose
  lift_lets
  intro x0
  clear_value x0
  refine Kept.trans ?_ (Kept.record ..)
  exact Kept.refl _

theorem State.bwEdge_kept (s : State) : Kept s (State.bwEdge s) := by
  unfold State.bwEdge
  lift_lets
  intro x0
  clear_value x0
  refine Kept.ite (fun z1 => ?_) (fun z1 => ?_)
  · refine Kept.trans ?_ (State.bwClose_kept ..)
    exact Kept.refl _
  · exact Kept.refl _

theorem State.bwSent_kept (s : State) (n k : Nat) : Kept s (State.bwSent s n k) := by
  unfold State.bwSent
  lift_lets
  intro x0
  have h1 : Kept s x0 := by
    unfold x0
    refine Kept.trans ?_ (State.bwEdge_kept ..)
    exact Kept.refl _
  clear_value x0
  intro x2
  clear_value x2
  refine Kept.trans ?_ (Kept.record ..)
  exact h1

theorem State.bwGot_kept (s : State) (n k : Nat) : Kept s (State.bwGot s n k) := by
  unfold State.bwGot
  lift_lets
  intro x0
  have h1 : Kept s x0 := by
    unfold x0
    refine Kept.trans ?_ (State.bwEdge_kept ..)
    exact Kept.refl _
  clear_value x0
  intro x2
  clear_value x2
  refine Kept.trans ?_ (Kept.record ..)
  exact h1

theorem State.timStep_kept (s : State) (d : Nat) : Kept s (State.timStep s d) := by
  unfold State.timStep
  lift_lets
  intro x0
  have h1 : Kept s x0 := by
    unfold x0
    refine Kept.trans ?_ (State.bwEdge_kept ..)
    refine Kept.trans ?_ (State.meterEdge_kept ..)
    exact Kept.refl _
  clear_value x0
  intro x2
  clear_value x2
  intro x3
  clear_value x3
  intro x4
  have h5 : Kept s x4 := by
    unfold x4
    refine Kept.ite (fun z6 => ?_) (fun z6 => ?_)
    · refine Kept.trans ?_ (State.bwClose_kept ..)
      exact h1
    · exact h1
  clear_value x4
  intro x7
  clear_value x7
  intro x8
  have h9 : Kept s x8 := by
    unfold x8
    refine Kept.trans ?_ (State.wr_kept ..)
    exact h5
  clear_value x8
  intro x10
  clear_value x10
  refine Kept.ite (fun z11 => ?_) (fun z11 => ?_)
  · refine Kept.trans ?_ (Kept.record ..)
    exact h9
  · exact h9

theorem State.setMeter_kept (s : State) (t : Nat) (f : Meter → Meter) : Kept s (State.setMeter s t f) := by
  unfold State.setMeter
  lift_lets
  intro x0
  have h1 : Kept s x0 := by
    unfold x0
    refine Kept.trans ?_ (State.meterEdge_kept ..)
    exact Kept.refl _
  clear_value x0
  intro x2
  clear_value x2
  refine Kept.trans ?_ (Kept.record ..)
  exact h1

theorem State.meterPut_kept (s : State) (ws : List Word) (rtype : Nat) : Kept s (State.meterPut s ws rtype) := by
  unfold State.meterPut
  lift_lets
  intro x0
  clear_value x0
  intro x1
  clear_value x1
  intro x2
  have h3 : Kept s x2 := by
    unfold x2
    refine Kept.trans ?_ (State.dma_kept ..)
    exact Kept.refl _
  clear_value x2
  refine Kept.trans ?_ (State.wr_kept ..)
  exact h3

theorem State.snapshot_kept (s : State) : Kept s (State.snapshot s) := by
  unfold State.snapshot
  split
  · rename_i z0 z1
    exact Kept.refl _
  · rename_i z2 z3 z4 z5
    lift_lets
    intro x6
    clear_value x6
    intro x7
    clear_value x7
    intro x8
    clear_value x8
    intro x9
    clear_value x9
    intro x10
    have h11 : Kept s x10 := by
      unfold x10
      refine Kept.trans ?_ (Kept.record ..)
      exact Kept.refl _
    clear_value x10
    intro x12
    have h13 : Kept s x12 := by
      unfold x12
      refine Kept.trans ?_ (State.count_kept ..)
      exact h11
    clear_value x12
    intro x14
    clear_value x14
    intro x15
    clear_value x15
    intro x16
    have h17 : Kept s x16 := by
      unfold x16
      refine Kept.trans ?_ (State.meterPut_kept ..)
      exact h11
    clear_value x16
    intro x18
    have h19 : Kept s x18 := by
      unfold x18
      refine Kept.trans ?_ (Kept.foldl (fun t20 x21 => ?_) _ _)
      · exact h17
      · lift_lets
        intro x22
        clear_value x22
        refine Kept.trans ?_ (State.meterPut_kept ..)
        exact Kept.refl _
    clear_value x18
    intro x23
    clear_value x23
    refine Kept.ite (fun z24 => ?_) (fun z24 => ?_)
    · refine Kept.trans ?_ (Kept.record ..)
      exact h13
    · refine Kept.trans ?_ (State.msix_kept ..)
      refine Kept.trans ?_ (Kept.record ..)
      exact h19

theorem State.snapshots_kept (s : State) : Kept s (State.snapshots s) := by
  unfold State.snapshots
  lift_lets
  intro x0
  have h1 : Kept s x0 := by
    unfold x0
    refine Kept.trans ?_ (State.meterEdge_kept ..)
    exact Kept.refl _
  clear_value x0
  refine Kept.trans ?_ (Kept.foldl (fun t2 x3 => ?_) _ _)
  · exact h1
  · refine Kept.trans ?_ (State.snapshot_kept ..)
    exact Kept.refl _

theorem State.cycStore_kept (s : State) (b : Nat) : Kept s (State.cycStore s b) := by
  unfold State.cycStore
  lift_lets
  intro x0
  clear_value x0
  intro x1
  have h2 : Kept s x1 := by
    unfold x1
    refine Kept.trans ?_ (State.set_kept ..)
    exact Kept.refl _
  clear_value x1
  intro x5
  clear_value x5
  refine Kept.trans ?_ (Kept.record ..)
  exact h2

theorem State.secondNow_kept (s : State) (p : Nat) : Kept s (State.secondNow s p) := by
  unfold State.secondNow
  lift_lets
  intro x0
  clear_value x0
  intro x1
  clear_value x1
  intro x2
  clear_value x2
  refine Kept.ite (fun z3 => ?_) (fun z3 => ?_)
  · exact Kept.refl _
  · refine Kept.trans ?_ (Kept.record ..)
    exact Kept.refl _

theorem State.second_kept (s : State) (p : Nat) (f : ChSecond → ChSecond) : Kept s (State.second s p f) := by
  unfold State.second
  lift_lets
  intro x0
  have h1 : Kept s x0 := by
    unfold x0
    refine Kept.trans ?_ (State.secondNow_kept ..)
    exact Kept.refl _
  clear_value x0
  intro x2
  clear_value x2
  refine Kept.trans ?_ (Kept.record ..)
  exact h1

theorem State.symCorr_kept (s : State) (l : Nat) (bad : List Sym) (at' : Nat) : Kept s (State.symCorr s l bad at') := by
  unfold State.symCorr
  lift_lets
  intro x0
  clear_value x0
  intro x1
  clear_value x1
  refine Kept.trans ?_ (Kept.foldl (fun t2 x3 => ?_) _ _)
  · exact Kept.refl _
  · refine Kept.trans ?_ (State.raise_kept ..)
    refine Kept.trans ?_ (State.count_kept ..)
    refine Kept.trans ?_ (State.second_kept ..)
    exact Kept.refl _

theorem State.rowYield_kept (s : State) (l : Nat) (bad : List Sym) : Kept s (State.rowYield s l bad) := by
  unfold State.rowYield
  refine Kept.trans ?_ (Kept.foldl (fun t0 x1 => ?_) _ _)
  · exact Kept.refl _
  · lift_lets
    intro x2
    clear_value x2
    refine Kept.trans ?_ (Kept.record ..)
    exact Kept.refl _

theorem State.symUncorr_kept (s : State) (l : Nat) (bad : List (List Sym)) (at' : Nat) : Kept s (State.symUncorr s l bad at') := by
  unfold State.symUncorr
  lift_lets
  intro x0
  clear_value x0
  intro x1
  clear_value x1
  refine Kept.trans ?_ (Kept.foldl (fun t2 x3 => ?_) _ _)
  · exact Kept.refl _
  · refine Kept.trans ?_ (Kept.foldl (fun t4 x5 => ?_) _ _)
    · refine Kept.trans ?_ (State.raise_kept ..)
      refine Kept.trans ?_ (State.count_kept ..)
      exact Kept.refl _
    · refine Kept.trans ?_ (Kept.record ..)
      exact Kept.refl _

theorem State.setCh_kept (s : State) (p st : Nat) : Kept s (State.setCh s p st) := by
  unfold State.setCh
  lift_lets
  intro x0
  clear_value x0
  intro x1
  have h2 : Kept s x1 := by
    unfold x1
    refine Kept.trans ?_ (State.wr_kept ..)
    exact Kept.refl _
  clear_value x1
  refine Kept.ite (fun z3 => ?_) (fun z3 => ?_)
  · refine Kept.trans ?_ (Kept.record ..)
    exact Kept.refl _
  · refine Kept.trans ?_ (Kept.record ..)
    exact h2

theorem State.migEnd_kept (s : State) (spareSt : Nat) : Kept s (State.migEnd s spareSt) := by
  unfold State.migEnd
  split
  · rename_i z0 z1
    exact Kept.refl _
  · rename_i z2 z3 z4
    lift_lets
    intro x5
    have h6 : Kept s x5 := by
      unfold x5
      refine Kept.trans ?_ (State.setCh_kept ..)
      refine Kept.trans ?_ (State.wr_kept ..)
      exact Kept.refl _
    clear_value x5
    intro x7
    have h8 : Kept s x7 := by
      unfold x7
      refine Kept.trans ?_ (State.setCh_kept ..)
      exact h6
    clear_value x7
    intro x9
    clear_value x9
    refine Kept.trans ?_ (Kept.record ..)
    exact h8

theorem State.chFail_kept (s : State) (p : Nat) : Kept s (State.chFail s p) := by
  unfold State.chFail
  split
  · rename_i z0 z1 z2
    refine Kept.ite (fun z3 => ?_) (fun z3 => ?_)
    · refine Kept.trans ?_ (State.migEnd_kept ..)
      exact Kept.refl _
    · exact Kept.refl _
  · rename_i z4 z5
    exact Kept.refl _

theorem State.retrainEnd_kept (s : State) (p : Nat) (ok : Bool) : Kept s (State.retrainEnd s p ok) := by
  unfold State.retrainEnd
  split
  · rename_i z0 z1
    exact Kept.refl _
  · rename_i z2 z3 z4
    lift_lets
    intro x5
    have h6 : Kept s x5 := by
      unfold x5
      refine Kept.trans ?_ (State.count_kept ..)
      exact Kept.refl _
    clear_value x5
    intro x7
    clear_value x7
    refine Kept.ite (fun z8 => ?_) (fun z8 => ?_)
    · refine Kept.trans ?_ (State.tally_kept ..)
      refine Kept.trans ?_ (State.setCh_kept ..)
      refine Kept.trans ?_ (Kept.record ..)
      exact h6
    · refine Kept.trans ?_ (State.chFail_kept ..)
      refine Kept.trans ?_ (State.condRise_kept ..)
      refine Kept.trans ?_ (State.setCh_kept ..)
      exact h6

theorem State.chHeld_kept (s : State) (p : Nat) : Kept s (State.chHeld s p) := by
  unfold State.chHeld
  refine Kept.ite (fun z0 => ?_) (fun z0 => ?_)
  · refine Kept.trans ?_ (State.retrainEnd_kept ..)
    refine Kept.trans ?_ (State.drawn_kept ..)
    exact Kept.refl _
  · exact Kept.refl _

theorem State.retrainStart_kept (s : State) (p : Nat) : Kept s (State.retrainStart s p) := by
  unfold State.retrainStart
  lift_lets
  intro x0
  have h1 : Kept s x0 := by
    unfold x0
    refine Kept.trans ?_ (State.wr_kept ..)
    exact Kept.refl _
  clear_value x0
  intro x2
  clear_value x2
  refine Kept.ite (fun z3 => ?_) (fun z3 => ?_)
  · exact Kept.refl _
  · refine Kept.trans ?_ (Kept.record ..)
    exact h1

theorem State.edcRetries_kept (s : State) (p n a at' : Nat) : Kept s (State.edcRetries s p n a at') := by
  unfold State.edcRetries
  refine Kept.trans ?_ (Kept.foldl (fun t0 x1 => ?_) _ _)
  · refine Kept.trans ?_ (State.tally_kept ..)
    exact Kept.refl _
  · refine Kept.trans ?_ (State.raise_kept ..)
    refine Kept.trans ?_ (State.count_kept ..)
    refine Kept.trans ?_ (State.second_kept ..)
    exact Kept.refl _

theorem State.edcTry_kept (s : State) (p l n at' : Nat) : Kept s (State.edcTry s p l n at').1 := by
  unfold State.edcTry
  lift_lets
  intro x0
  clear_value x0
  dsimp -zeta only
  refine Kept.trans ?_ (State.edcRetries_kept ..)
  exact Kept.refl _

theorem State.edcRead_kept (s : State) (l at' : Nat) : Kept s (State.edcRead s l at').1 := by
  unfold State.edcRead
  lift_lets
  intro x0
  clear_value x0
  intro x1
  clear_value x1
  refine Kept.trans ?_ (State.edcTry_kept ..)
  refine Kept.trans ?_ (Kept.record ..)
  exact Kept.refl _

theorem State.edcWrite_kept (s : State) (l at' : Nat) : Kept s (State.edcWrite s l at') := by
  unfold State.edcWrite
  lift_lets
  intro x0
  clear_value x0
  intro x1
  clear_value x1
  intro x2
  have h3 : Kept s x2 := by
    unfold x2
    refine Kept.trans ?_ (Kept.record ..)
    exact Kept.refl _
  clear_value x2
  split
  · rename_i z4 z5 z6
    refine Kept.eqn z6 ?_
    refine Kept.trans ?_ (State.edcTry_kept ..)
    exact h3
  · rename_i z7 z8 z9
    refine Kept.trans ?_ (State.retrainStart_kept ..)
    refine Kept.eqn z9 ?_
    refine Kept.trans ?_ (State.edcTry_kept ..)
    exact h3

theorem State.gddrRead_kept (s : State) (l : Nat) : Kept s (State.gddrRead s l).1 := by
  unfold State.gddrRead
  lift_lets
  intro x0
  have h1 : Kept s x0 := by
    unfold x0
    refine Kept.trans ?_ (State.chHeld_kept ..)
    refine Kept.trans ?_ (State.tally_kept ..)
    exact Kept.refl _
  clear_value x0
  refine KeptFst.out ?_
  refine KeptFst.ite (fun z2 => ?_) (fun z2 => ?_)
  · refine KeptFst.pair ?_
    exact h1
  · split
    · rename_i z3 z4 z5
      refine KeptFst.pair ?_
      refine Kept.eqn z5 ?_
      refine Kept.trans ?_ (State.edcRead_kept ..)
      exact h1
    · rename_i z6 z7 z8
      lift_lets
      intro x9
      clear_value x9
      refine KeptFst.ite (fun z10 => ?_) (fun z10 => ?_)
      · refine KeptFst.pair ?_
        refine Kept.eqn z8 ?_
        refine Kept.trans ?_ (State.edcRead_kept ..)
        exact h1
      · refine KeptFst.pair ?_
        refine Kept.trans ?_ (State.symUncorr_kept ..)
        refine Kept.trans ?_ (State.symCorr_kept ..)
        refine Kept.eqn z8 ?_
        refine Kept.trans ?_ (State.edcRead_kept ..)
        exact h1

theorem State.writeErrs_kept (s : State) (p l : Nat) : Kept s (State.writeErrs s p l).1 := by
  unfold State.writeErrs
  refine KeptFst.out ?_
  split
  · rename_i z0 z1 z2
    lift_lets
    intro x3
    have h4 : Kept s x3 := by
      unfold x3
      refine Kept.trans ?_ (State.wr_kept ..)
      exact Kept.refl _
    clear_value x3
    intro x5
    clear_value x5
    refine KeptFst.pair ?_
    refine Kept.trans ?_ (Kept.record ..)
    exact h4
  · rename_i z6 z7
    refine KeptFst.pair ?_
    exact Kept.refl _

theorem State.setBad_kept (s : State) (l : Nat) (bad : List Sym) : Kept s (State.setBad s l bad) := by
  unfold State.setBad
  lift_lets
  intro x0
  clear_value x0
  refine Kept.trans ?_ (Kept.record ..)
  exact Kept.refl _

theorem State.lineStore_kept (s : State) (l : Nat) (data : List Byte) (poison : Bool) :
    Kept s (State.lineStore s l data poison) := by
  unfold State.lineStore
  lift_lets
  intro t
  have ht : Kept s t := State.edcWrite_kept ..
  clear_value t
  intro u
  have hu : Kept s u :=
    ht.trans ⟨rfl, fun i => ⟨Memory.writeBytes_wf _ _ _ i.mem, i.pal, i.regs⟩, Nat.le_refl _⟩
  clear_value u
  exact hu.trans ((State.writeErrs_kept ..).trans (State.setBad_kept ..))

theorem State.lineMirror_kept (s : State) (l : Nat) (data : List Byte) (poison : Bool) :
    Kept s (State.lineMirror s l data poison) := by
  unfold State.lineMirror
  lift_lets
  intro u
  have hu : Kept s u := by
    unfold u
    split
    · exact Kept.ite (fun _ => State.chHeld_kept ..) (fun _ => Kept.refl s)
    · exact Kept.refl s
  clear_value u
  split
  · exact hu
  · refine Kept.ite (fun _ => ?_) (fun _ => hu)
    rename_i g _ _
    exact hu.trans (Kept.trans ((State.tally_kept u 16 0x81 1).trans (State.writeErrs_kept _ g.new l))
      ⟨rfl, fun i => ⟨Memory.writeBytes_wf _ _ _ i.mem, i.pal, i.regs⟩, Nat.le_refl _⟩)

theorem State.gddrWrite_kept (s : State) (l : Nat) (data : List Byte) (poison : Bool) : Kept s (State.gddrWrite s l data poison) := by
  unfold State.gddrWrite
  lift_lets
  intro x0
  have h1 : Kept s x0 := by
    unfold x0
    refine Kept.trans ?_ (State.chHeld_kept ..)
    refine Kept.trans ?_ (State.tally_kept ..)
    exact Kept.refl _
  clear_value x0
  intro x2
  have h3 : Kept s x2 := by
    unfold x2
    refine Kept.ite (fun z4 => ?_) (fun z4 => ?_)
    · exact h1
    · refine Kept.trans ?_ (State.lineStore_kept ..)
      exact h1
  clear_value x2
  refine Kept.trans ?_ (State.lineMirror_kept ..)
  exact h3

theorem State.copyLine_kept (s : State) (l : Nat) : Kept s (State.copyLine s l) := by
  unfold State.copyLine
  split
  · rename_i z0 z1
    exact Kept.refl _
  · rename_i z2 z3 z4
    lift_lets
    intro x5
    clear_value x5
    refine Kept.ite (fun z6 => ?_) (fun z6 => ?_)
    · refine Kept.trans ?_ (Kept.record ..)
      exact Kept.refl _
    · rcases e7 : (s.edcRead l 7) with ⟨z8, z9⟩
      dsimp -zeta only
      lift_lets
      intro x10
      clear_value x10
      dsimp -zeta only
      lift_lets
      intro x11
      clear_value x11
      intro x12
      have h13 : Kept s x12 := by
        unfold x12
        refine Kept.ite (fun z14 => ?_) (fun z14 => ?_)
        · refine Kept.eqn e7 ?_
          refine Kept.trans ?_ (State.edcRead_kept ..)
          exact Kept.refl _
        · refine Kept.trans ?_ (State.symUncorr_kept ..)
          refine Kept.trans ?_ (State.symCorr_kept ..)
          refine Kept.eqn e7 ?_
          refine Kept.trans ?_ (State.edcRead_kept ..)
          exact Kept.refl _
      clear_value x12
      intro x15
      clear_value x15
      refine Kept.trans ?_ (Kept.record ..)
      exact h13

theorem State.copyArmed_kept (s : State) (l : Nat) : Kept s (State.copyArmed s l) := by
  unfold State.copyArmed
  split
  · rename_i z0 z1
    exact Kept.refl _
  · rename_i z2 z3 z4
    lift_lets
    intro x5
    have h6 : KeptFst s x5 := by
      unfold x5
      refine KeptFst.trans ?_ (State.writeErrs_kept ..)
      exact Kept.refl _
    clear_value x5
    intro x7
    have h8 : Kept s x7 := by
      unfold x7
      exact KeptFst.out h6
    clear_value x7
    intro x9
    clear_value x9
    refine Kept.ite (fun z10 => ?_) (fun z10 => ?_)
    · exact KeptFst.out h6
    · refine Kept.trans ?_ (Kept.record ..)
      exact h8

theorem State.copySync_kept (s : State) : Kept s (State.copySync s) := by
  unfold State.copySync
  split
  · rename_i z0 z1
    exact Kept.refl _
  · rename_i z2 z3 z4
    lift_lets
    intro x5
    clear_value x5
    intro x6
    clear_value x6
    intro x7
    clear_value x7
    intro x8
    clear_value x8
    intro x9
    have h10 : Kept s x9 := by
      unfold x9
      refine Kept.trans ?_ (Kept.record ..)
      exact Kept.refl _
    clear_value x9
    intro x11
    have h12 : Kept s x11 := by
      unfold x11
      refine Kept.trans ?_ (State.copyArmed_kept ..)
      refine Kept.trans ?_ (Kept.foldl (fun t13 x14 => ?_) _ _)
      · exact h10
      · refine Kept.trans ?_ (State.copyLine_kept ..)
        exact Kept.refl _
    clear_value x11
    refine Kept.ite (fun z15 => ?_) (fun z15 => ?_)
    · exact Kept.refl _
    · refine Kept.ite (fun z16 => ?_) (fun z16 => ?_)
      · refine Kept.trans ?_ (Kept.record ..)
        exact Kept.refl _
      · refine Kept.ite (fun z17 => ?_) (fun z17 => ?_)
        · exact h10
        · refine Kept.trans ?_ (State.wr_kept ..)
          refine Kept.trans ?_ (State.tally_kept ..)
          refine Kept.trans ?_ (State.tally_kept ..)
          exact h12

theorem State.setSlice_kept (s : State) (l : Nat) (w : List SliceLine) : Kept s (State.setSlice s l w) := by
  unfold State.setSlice
  refine Kept.trans ?_ (Kept.record ..)
  exact Kept.refl _

theorem State.sliceCorr_kept (s : State) (l : Nat) : Kept s (State.sliceCorr s l) := by
  unfold State.sliceCorr
  refine Kept.trans ?_ (State.raise_kept ..)
  exact Kept.refl _

theorem State.slicePoison_kept (s : State) (l : Nat) : Kept s (State.slicePoison s l) := by
  unfold State.slicePoison
  refine Kept.trans ?_ (State.raise_kept ..)
  exact Kept.refl _

theorem State.sliceCheck_kept (s : State) (w : SliceLine) : Kept s (State.sliceCheck s w) := by
  unfold State.sliceCheck
  refine Kept.ite (fun z0 => ?_) (fun z0 => ?_)
  · refine Kept.trans ?_ (State.sliceCorr_kept ..)
    exact Kept.refl _
  · refine Kept.ite (fun z1 => ?_) (fun z1 => ?_)
    · refine Kept.trans ?_ (State.slicePoison_kept ..)
      exact Kept.refl _
    · exact Kept.refl _

theorem State.sliceInstall_kept (s : State) (w : SliceLine) : Kept s (State.sliceInstall s w) := by
  unfold State.sliceInstall
  lift_lets
  intro x0
  have h1 : Kept s x0 := by
    unfold x0
    refine Kept.ite (fun z2 => ?_) (fun z2 => ?_)
    · refine Kept.trans ?_ (State.slicePoison_kept ..)
      exact Kept.refl _
    · exact Kept.refl _
  clear_value x0
  intro x3
  clear_value x3
  refine Kept.ite (fun z4 => ?_) (fun z4 => ?_)
  · refine Kept.trans ?_ (State.setSlice_kept ..)
    exact h1
  · split
    · rename_i z5 z6
      refine Kept.ite (fun z7 => ?_) (fun z7 => ?_)
      · refine Kept.trans ?_ (State.gddrWrite_kept ..)
        exact h1
      · exact h1
    · rename_i z8 z9 z10
      lift_lets
      intro x11
      have h12 : Kept s x11 := by
        unfold x11
        refine Kept.trans ?_ (State.sliceCheck_kept ..)
        exact h1
      clear_value x11
      intro x13
      have h14 : Kept s x13 := by
        unfold x13
        refine Kept.ite (fun z15 => ?_) (fun z15 => ?_)
        · refine Kept.trans ?_ (State.gddrWrite_kept ..)
          exact h12
        · exact h12
      clear_value x13
      refine Kept.trans ?_ (State.setSlice_kept ..)
      exact h14

theorem State.sliceRead_kept (s : State) (l : Nat) : Kept s (State.sliceRead s l).1 := by
  unfold State.sliceRead
  refine KeptFst.out ?_
  split
  · rename_i z0 z1 z2
    refine KeptFst.pair ?_
    refine Kept.trans ?_ (State.setSlice_kept ..)
    refine Kept.trans ?_ (State.sliceCheck_kept ..)
    exact Kept.refl _
  · rename_i z3 z4
    split
    rename_i z5 z6 z7 z8 z9
    lift_lets
    intro x10
    clear_value x10
    refine KeptFst.pair ?_
    refine Kept.trans ?_ (State.sliceInstall_kept ..)
    refine Kept.eqn z9 ?_
    refine Kept.trans ?_ (State.gddrRead_kept ..)
    refine Kept.trans ?_ (State.tally_kept ..)
    exact Kept.refl _

theorem State.sliceWrite_kept (s : State) (l : Nat) (data : List Byte) (poison : Bool) : Kept s (State.sliceWrite s l data poison) := by
  unfold State.sliceWrite
  lift_lets
  intro x0
  clear_value x0
  refine Kept.trans ?_ (State.sliceInstall_kept ..)
  exact Kept.refl _

theorem State.placeHit_kept (s : State) (l : Nat) : Kept s (State.placeHit s l) := by
  unfold State.placeHit
  split
  · rename_i z0 z1 z2
    lift_lets
    intro x3
    clear_value x3
    refine Kept.ite (fun z4 => ?_) (fun z4 => ?_)
    · refine Kept.trans ?_ (Kept.record ..)
      exact Kept.refl _
    · exact Kept.refl _
  · rename_i z5 z6
    exact Kept.refl _

theorem State.structSeen_kept (s : State) (l n : Nat) : Kept s (State.structSeen s l n) := by
  unfold State.structSeen
  refine Kept.trans ?_ (Kept.foldl (fun t0 x1 => ?_) _ _)
  · refine Kept.trans ?_ (State.placeHit_kept ..)
    exact Kept.refl _
  · refine Kept.ite (fun z2 => ?_) (fun z2 => ?_)
    · refine Kept.trans ?_ (State.sliceRead_kept ..)
      exact Kept.refl _
    · exact Kept.refl _

theorem State.structRaise_kept (s : State) (src l unit : Nat) : Kept s (State.structRaise s src l unit) := by
  unfold State.structRaise
  refine Kept.trans ?_ (State.raise_kept ..)
  exact Kept.refl _

theorem State.setL1_kept (s : State) (e : Nat) (l : Nat) (w : List L1Line) : Kept s (State.setL1 s e l w) := by
  unfold State.setL1
  refine Kept.trans ?_ (Kept.record ..)
  exact Kept.refl _

theorem State.l1Drop_kept (s : State) (e : Nat) (l : Nat) : Kept s (State.l1Drop s e l) := by
  unfold State.l1Drop
  refine Kept.trans ?_ (State.setL1_kept ..)
  exact Kept.refl _

theorem State.l1Update_kept (s : State) (e : Nat) (w : L1Line) : Kept s (State.l1Update s e w) := by
  unfold State.l1Update
  refine Kept.trans ?_ (State.setL1_kept ..)
  exact Kept.refl _

theorem State.setDir_kept (s : State) (d : DirEntry) : Kept s (State.setDir s d) := by
  unfold State.setDir
  refine Kept.trans ?_ (Kept.record ..)
  exact Kept.refl _

theorem State.freeDir_kept (s : State) (l : Nat) : Kept s (State.freeDir s l) := by
  unfold State.freeDir
  refine Kept.trans ?_ (Kept.record ..)
  exact Kept.refl _

theorem State.gateDeny_kept (s : State) (m : Mst) (a : Nat) (k : AccKind) : Kept s (State.gateDeny s m a k) := by
  unfold State.gateDeny
  split
  · rename_i z1 z2
    exact Kept.refl _
  · rename_i z4 z5 z6
    refine Kept.trans ?_ (State.raise_kept ..)
    refine Kept.trans ?_ (State.count_kept ..)
    exact Kept.refl _

theorem State.gate_kept (s : State) (m : Mst) (a : Nat) (n : Nat) (k : AccKind) : Kept s (State.gate s m a n k).1 := by
  refine KeptFst.out ?_
  unfold State.gate
  refine KeptFst.ite (fun z0 => ?_) (fun z0 => ?_)
  · refine KeptFst.pair ?_
    exact Kept.refl _
  · refine KeptFst.pair ?_
    refine Kept.trans ?_ (State.gateDeny_kept ..)
    exact Kept.refl _

theorem State.devRange_kept (s : State) (func : Nat) (a : Nat) (n : Nat) (k : AccKind) : Kept s (State.devRange s func a n k).1 := by
  refine KeptFst.out ?_
  unfold State.devRange
  refine KeptFst.ite (fun z0 => ?_) (fun z0 => ?_)
  · refine KeptFst.of ?_
    refine Kept.trans ?_ (State.gate_kept ..)
    exact Kept.refl _
  · refine KeptFst.pair ?_
    exact Kept.refl _

end Sys2Proof.Machine
end

