-- ==== Sys2Proof/Laws/KeptUnits.lean ====
section
/-! SUPPORT. What the operations of the units keep: the queue, a state in good form, and the lifecycle (`Kept`). -/

set_option linter.unusedVariables false

namespace Sys2Proof.Machine

theorem State.cohSend_kept (s : State) (m : CohMsg) : Kept s (State.cohSend s m) := by
  unfold State.cohSend
  refine Kept.trans ?_ (Kept.record ..)
  exact Kept.refl _

theorem State.cohTake_kept (s : State) (m : CohMsg) : Kept s (State.cohTake s m) := by
  unfold State.cohTake
  refine Kept.trans ?_ (Kept.record ..)
  exact Kept.refl _

theorem State.sendInv_kept (s : State) (l : Nat) (bin : Bool) (es : List Nat) : Kept s (State.sendInv s l bin es) := by
  unfold State.sendInv
  refine Kept.trans ?_ (Kept.foldl (fun t0 x1 => ?_) _ _)
  · exact Kept.refl _
  · refine Kept.trans ?_ (State.cohSend_kept ..)
    exact Kept.refl _

theorem State.closeTxn_kept (s : State) (d : DirEntry) : Kept s (State.closeTxn s d) := by
  unfold State.closeTxn
  refine Kept.ite (fun z0 => ?_) (fun z0 => ?_)
  · refine Kept.trans ?_ (State.freeDir_kept ..)
    exact Kept.refl _
  · refine Kept.trans ?_ (State.setDir_kept ..)
    exact Kept.refl _

theorem State.cohReply_kept (s : State) (r : CohReq) (data : List Byte) (p : Bool) : Kept s (State.cohReply s r data p) := by
  unfold State.cohReply
  refine Kept.trans ?_ (Kept.record ..)
  exact Kept.refl _

theorem State.homeApply_kept (s : State) (d : DirEntry) (t : Txn) : Kept s (State.homeApply s d t) := by
  unfold State.homeApply
  lift_lets
  intro x0
  clear_value x0
  intro x1
  clear_value x1
  split
  · rename_i z3 z4 z5 z6
    lift_lets
    intro x7
    have h8 : Kept s x7 := by
      unfold x7
      refine Kept.ite (fun z9 => ?_) (fun z9 => ?_)
      · refine Kept.trans ?_ (State.sliceWrite_kept ..)
        exact Kept.refl _
      · split
        rename_i z14 z15 z16 z17
        refine Kept.trans ?_ (State.sliceWrite_kept ..)
        refine Kept.eqn z17 ?_
        refine Kept.trans ?_ (State.sliceRead_kept ..)
        exact Kept.refl _
    clear_value x7
    refine Kept.trans ?_ (State.closeTxn_kept ..)
    exact h8
  · rename_i z24 z25 z26 z27 z28 z29
    split
    rename_i z31 z32 z33 z34
    lift_lets
    intro x35
    clear_value x35
    intro x36
    have h37 : Kept s x36 := by
      unfold x36
      refine Kept.trans ?_ (State.sliceWrite_kept ..)
      refine Kept.eqn z34 ?_
      refine Kept.trans ?_ (State.sliceRead_kept ..)
      exact Kept.refl _
    clear_value x36
    refine Kept.trans ?_ (State.closeTxn_kept ..)
    refine Kept.trans ?_ (State.cohReply_kept ..)
    exact h37
  · rename_i z45 z46 z47
    refine Kept.trans ?_ (State.closeTxn_kept ..)
    exact Kept.refl _

theorem State.homeData_kept (s : State) (d : DirEntry) (t : Txn) : Kept s (State.homeData s d t) := by
  unfold State.homeData
  split
  rename_i z1 z2 z3 z4
  lift_lets
  intro x5
  clear_value x5
  split
  · rename_i z7 z8
    refine Kept.trans ?_ (State.cohSend_kept ..)
    refine Kept.eqn z4 ?_
    refine Kept.trans ?_ (State.sliceRead_kept ..)
    exact Kept.refl _
  · rename_i z13 z14
    refine Kept.trans ?_ (State.cohSend_kept ..)
    refine Kept.eqn z4 ?_
    refine Kept.trans ?_ (State.sliceRead_kept ..)
    exact Kept.refl _
  · rename_i z19 z20 z21
    refine Kept.trans ?_ (State.cohSend_kept ..)
    refine Kept.eqn z4 ?_
    refine Kept.trans ?_ (State.sliceRead_kept ..)
    exact Kept.refl _

theorem State.homeGo_kept (s : State) (d : DirEntry) (t : Txn) : Kept s (State.homeGo s d t) := by
  unfold State.homeGo
  split
  · rename_i z1 z2
    split
    · rename_i z4 z5
      refine Kept.ite (fun z6 => ?_) (fun z6 => ?_)
      · refine Kept.trans ?_ (State.cohSend_kept ..)
        exact Kept.refl _
      · refine Kept.trans ?_ (State.cohSend_kept ..)
        exact Kept.refl _
    · rename_i z12 z13
      refine Kept.trans ?_ (State.cohSend_kept ..)
      exact Kept.refl _
    · rename_i z16 z17 z18
      refine Kept.trans ?_ (State.homeData_kept ..)
      exact Kept.refl _
  · rename_i z21 z22
    refine Kept.trans ?_ (State.homeData_kept ..)
    exact Kept.refl _
  · rename_i z25 z26
    exact Kept.refl _
  · rename_i z28 z29 z30 z31
    refine Kept.trans ?_ (State.homeApply_kept ..)
    exact Kept.refl _

theorem State.homeServe_kept (s : State) (d : DirEntry) (k : TxnKind) (r : CohReq) : Kept s (State.homeServe s d k r) := by
  unfold State.homeServe
  lift_lets
  intro x0
  clear_value x0
  intro x1
  clear_value x1
  intro x2
  clear_value x2
  intro x3
  have h4 : ∀ y1, Kept s (x3 y1) := by
    intro y5
    unfold x3
    refine Kept.trans ?_ (State.homeData_kept ..)
    refine Kept.trans ?_ (State.setDir_kept ..)
    exact Kept.refl _
  clear_value x3
  intro x6
  have h7 : ∀ y1 y2, Kept s (x6 y1 y2) := by
    intro y8 y9
    unfold x6
    refine Kept.trans ?_ (State.cohSend_kept ..)
    refine Kept.trans ?_ (State.setDir_kept ..)
    exact Kept.refl _
  clear_value x6
  intro x10
  have h11 : ∀ y1 y2, Kept s (x10 y1 y2) := by
    intro y12 y13
    unfold x10
    lift_lets
    intro x14
    clear_value x14
    intro x15
    have h16 : Kept s x15 := by
      unfold x15
      refine Kept.trans ?_ (State.sendInv_kept ..)
      refine Kept.trans ?_ (State.setDir_kept ..)
      exact Kept.refl _
    clear_value x15
    refine Kept.ite (fun z17 => ?_) (fun z17 => ?_)
    · refine Kept.trans ?_ (State.homeGo_kept ..)
      exact h16
    · exact h16
  clear_value x10
  intro x18
  clear_value x18
  intro x19
  have h20 : Kept s x19 := by
    unfold x19
    refine Kept.trans ?_ (State.sendInv_kept ..)
    exact h7 ..
  clear_value x19
  intro x21
  clear_value x21
  split
  · rename_i z22
    split
    · rename_i z23 z24
      exact h4 ..
    · rename_i z25 z26
      exact h4 ..
    · rename_i z27 z28 z29 z30
      exact h7 ..
  · rename_i z31
    split
    · rename_i z32 z33
      exact h4 ..
    · rename_i z34 z35
      exact h7 ..
    · rename_i z36 z37
      exact h11 ..
    · rename_i z38 z39
      exact h11 ..
  · rename_i z40
    refine Kept.ite (fun z41 => ?_) (fun z41 => ?_)
    · exact h7 ..
    · split
      rename_i z42 z43 z44 z45
      refine Kept.trans ?_ (State.closeTxn_kept ..)
      refine Kept.trans ?_ (State.cohReply_kept ..)
      refine Kept.eqn z45 ?_
      refine Kept.trans ?_ (State.sliceRead_kept ..)
      exact Kept.refl _
  · rename_i z46 z47 z48
    refine Kept.ite (fun z49 => ?_) (fun z49 => ?_)
    · exact h11 ..
    · refine Kept.ite (fun z50 => ?_) (fun z50 => ?_)
      · exact h20
      · exact h11 ..
  · rename_i z51 z52 z53 z54 z55
    refine Kept.ite (fun z56 => ?_) (fun z56 => ?_)
    · exact h20
    · exact h11 ..

theorem State.homeNack_kept (s : State) (k : TxnKind) (r : CohReq) (setFull : Bool) : Kept s (State.homeNack s k r setFull) := by
  unfold State.homeNack
  lift_lets
  intro x0
  clear_value x0
  intro x1
  clear_value x1
  intro x2
  clear_value x2
  intro x3
  have h4 : Kept s x3 := by
    unfold x3
    refine Kept.trans ?_ (State.tally_kept ..)
    refine Kept.trans ?_ (State.count_kept ..)
    exact Kept.refl _
  clear_value x3
  intro x5
  have h6 : Kept s x5 := by
    unfold x5
    refine Kept.ite (fun z7 => ?_) (fun z7 => ?_)
    · refine Kept.trans ?_ (State.count_kept ..)
      exact h4
    · exact h4
  clear_value x5
  intro x8
  have h9 : Kept s x8 := by
    unfold x8
    refine Kept.ite (fun z10 => ?_) (fun z10 => ?_)
    · refine Kept.trans ?_ (State.raise_kept ..)
      refine Kept.trans ?_ (State.count_kept ..)
      exact h6
    · exact h6
  clear_value x8
  intro x11
  clear_value x11
  intro x12
  clear_value x12
  intro x13
  have h14 : Kept s x13 := by
    unfold x13
    refine Kept.ite (fun z15 => ?_) (fun z15 => ?_)
    · refine Kept.trans ?_ (Kept.record ..)
      exact h9
    · exact h9
  clear_value x13
  intro x16
  clear_value x16
  refine Kept.trans ?_ (State.cohSend_kept ..)
  refine Kept.trans ?_ (Kept.record ..)
  exact h14

theorem State.cohAdmit_kept (s : State) (r : CohReq) : Kept s (State.cohAdmit s r) := by
  unfold State.cohAdmit
  lift_lets
  intro x0
  clear_value x0
  intro x1
  clear_value x1
  intro x2
  have h3 : Kept s x2 := by
    unfold x2
    refine Kept.ite (fun z4 => ?_) (fun z4 => ?_)
    · exact Kept.refl _
    · refine Kept.trans ?_ (Kept.record ..)
      exact Kept.refl _
  clear_value x2
  intro x5
  clear_value x5
  intro x6
  have h7 : Kept s x6 := by
    unfold x6
    refine Kept.ite (fun z8 => ?_) (fun z8 => ?_)
    · exact h3
    · refine Kept.trans ?_ (Kept.record ..)
      exact h3
  clear_value x6
  refine Kept.trans ?_ (State.placeHit_kept ..)
  refine Kept.trans ?_ (State.tally_kept ..)
  exact h7

theorem State.dirCheck_kept (s : State) (l : Nat) : Kept s (State.dirCheck s l) := by
  unfold State.dirCheck
  split
  · rename_i z0 z1 z2
    refine Kept.ite (fun z3 => ?_) (fun z3 => ?_)
    · refine Kept.trans ?_ (State.sliceCorr_kept ..)
      refine Kept.trans ?_ (State.setDir_kept ..)
      exact Kept.refl _
    · refine Kept.ite (fun z4 => ?_) (fun z4 => ?_)
      · refine Kept.trans ?_ (State.raise_kept ..)
        exact Kept.refl _
      · exact Kept.refl _
  · rename_i z5 z6
    exact Kept.refl _

theorem State.dirRead_kept (s : State) (l : Nat) (f : State → Option DirEntry → State) (h_f : ∀ u y1, Kept u (f u y1)) : Kept s (State.dirRead s l f) := by
  unfold State.dirRead
  lift_lets
  intro x0
  have h1 : Kept s x0 := by
    unfold x0
    refine Kept.trans ?_ (State.dirCheck_kept ..)
    exact Kept.refl _
  clear_value x0
  split
  · rename_i z2 z3 z4
    refine Kept.ite (fun z5 => ?_) (fun z5 => ?_)
    · exact h1
    · refine Kept.trans ?_ (h_f ..)
      exact h1
  · rename_i z6 z7
    refine Kept.trans ?_ (h_f ..)
    exact h1

theorem State.homeTake_kept (s : State) (v : Option DirEntry) (k : TxnKind) (r : CohReq) : Kept s (State.homeTake s v k r) := by
  unfold State.homeTake
  lift_lets
  intro x0
  clear_value x0
  intro x1
  have h2 : Kept s x1 := by
    unfold x1
    refine Kept.trans ?_ (State.cohAdmit_kept ..)
    exact Kept.refl _
  clear_value x1
  intro x3
  have h4 : Kept s x3 := by
    unfold x3
    refine Kept.trans ?_ (State.tally_kept ..)
    exact h2
  clear_value x3
  split
  · rename_i z5
    refine Kept.trans ?_ (State.homeServe_kept ..)
    exact h2
  · rename_i z6 z7
    lift_lets
    intro x8
    clear_value x8
    intro x9
    clear_value x9
    refine Kept.ite (fun z10 => ?_) (fun z10 => ?_)
    · refine Kept.trans ?_ (State.homeServe_kept ..)
      refine Kept.trans ?_ (State.freeDir_kept ..)
      exact h4
    · refine Kept.trans ?_ (State.sendInv_kept ..)
      refine Kept.trans ?_ (State.setDir_kept ..)
      refine Kept.trans ?_ (State.setDir_kept ..)
      refine Kept.trans ?_ (State.count_kept ..)
      exact h4

theorem State.homeRequest_kept (s : State) (k : TxnKind) (r : CohReq) : Kept s (State.homeRequest s k r) := by
  unfold State.homeRequest
  lift_lets
  intro x0
  have h1 : Kept s x0 := by
    unfold x0
    refine Kept.trans ?_ (State.dirCheck_kept ..)
    exact Kept.refl _
  clear_value x0
  intro x2
  clear_value x2
  intro x3
  clear_value x3
  intro x4
  have h5 : Kept s x4 := by
    unfold x4
    refine Kept.trans ?_ (Kept.foldl (fun t6 x7 => ?_) _ _)
    · exact h1
    · refine Kept.trans ?_ (State.dirCheck_kept ..)
      exact Kept.refl _
  clear_value x4
  intro x8
  clear_value x8
  intro x9
  clear_value x9
  refine Kept.ite (fun z10 => ?_) (fun z10 => ?_)
  · refine Kept.trans ?_ (State.homeNack_kept ..)
    exact h1
  · split
    · rename_i z11 z12 z13
      refine Kept.ite (fun z14 => ?_) (fun z14 => ?_)
      · exact h1
      · refine Kept.ite (fun z15 => ?_) (fun z15 => ?_)
        · refine Kept.trans ?_ (State.homeNack_kept ..)
          exact h1
        · refine Kept.trans ?_ (State.homeServe_kept ..)
          refine Kept.trans ?_ (State.cohAdmit_kept ..)
          exact h1
    · rename_i z16 z17
      refine Kept.ite (fun z18 => ?_) (fun z18 => ?_)
      · refine Kept.trans ?_ (State.homeServe_kept ..)
        refine Kept.trans ?_ (State.cohAdmit_kept ..)
        exact h1
      · refine Kept.ite (fun z19 => ?_) (fun z19 => ?_)
        · refine Kept.trans ?_ (State.homeTake_kept ..)
          exact h5
        · refine Kept.ite (fun z20 => ?_) (fun z20 => ?_)
          · refine Kept.trans ?_ (State.homeNack_kept ..)
            exact h5
          · split
            · rename_i z21 z22
              refine Kept.trans ?_ (State.homeNack_kept ..)
              exact h5
            · rename_i z23 z24 z25
              refine Kept.trans ?_ (State.homeTake_kept ..)
              exact h5

theorem State.homeArrive_kept (s : State) (m : CohMsg) (k : TxnKind) (r : CohReq) : Kept s (State.homeArrive s m k r) := by
  unfold State.homeArrive
  lift_lets
  intro x0
  clear_value x0
  intro x1
  clear_value x1
  intro x2
  have h3 : Kept s x2 := by
    unfold x2
    refine Kept.trans ?_ (State.cohTake_kept ..)
    exact Kept.refl _
  clear_value x2
  intro x4
  clear_value x4
  intro x5
  clear_value x5
  intro x6
  clear_value x6
  refine Kept.ite (fun z7 => ?_) (fun z7 => ?_)
  · refine Kept.ite (fun z8 => ?_) (fun z8 => ?_)
    · refine Kept.trans ?_ (State.homeNack_kept ..)
      refine Kept.trans ?_ (Kept.record ..)
      exact h3
    · refine Kept.trans ?_ (State.homeRequest_kept ..)
      refine Kept.trans ?_ (Kept.record ..)
      exact h3
  · refine Kept.trans ?_ (State.homeRequest_kept ..)
    exact h3

theorem State.evictDone_kept (s : State) (l : Nat) : Kept s (State.evictDone s l) := by
  unfold State.evictDone
  lift_lets
  intro x0
  have h1 : Kept s x0 := by
    unfold x0
    refine Kept.trans ?_ (State.freeDir_kept ..)
    exact Kept.refl _
  clear_value x0
  split
  · rename_i z5 z6 z7
    split
    · rename_i z9 z10 z11
      refine Kept.trans ?_ (State.homeServe_kept ..)
      exact h1
    · rename_i z14 z15
      exact h1
  · rename_i z17 z18
    exact h1

theorem State.cohProtocol_kept (s : State) (l : Nat) (m : Mst) : Kept s (State.cohProtocol s l m) := by
  unfold State.cohProtocol
  refine Kept.trans ?_ (State.raise_kept ..)
  exact Kept.refl _

theorem State.homeAgain_kept (s : State) (d : DirEntry) (t : Txn) : Kept s (State.homeAgain s d t) := by
  unfold State.homeAgain
  refine Kept.ite (fun z0 => ?_) (fun z0 => ?_)
  · refine Kept.trans ?_ (State.homeGo_kept ..)
    exact Kept.refl _
  · refine Kept.trans ?_ (State.homeServe_kept ..)
    exact Kept.refl _

theorem State.homePut_kept (s : State) (e l : Nat) (kind : L1St) : Kept s (State.homePut s e l kind) := by
  unfold State.homePut
  lift_lets
  intro x0
  clear_value x0
  intro x1
  have h2 : ∀ y1, Kept y1 (x1 y1) := by
    intro y3
    unfold x1
    refine Kept.trans ?_ (State.cohSend_kept ..)
    exact Kept.refl _
  clear_value x1
  refine Kept.trans ?_ (State.dirRead_kept (h_f := fun u4 y5 => ?_) ..)
  · exact Kept.refl _
  · split
    · rename_i z6 z7
      lift_lets
      intro x8
      have h9 : Kept u4 x8 := by
        unfold x8
        split
        · rename_i z10 z11 z12
          refine Kept.trans ?_ (State.sliceWrite_kept ..)
          exact Kept.refl _
        · rename_i z13 z14 z15
          refine Kept.trans ?_ (State.sliceWrite_kept ..)
          exact Kept.refl _
        · rename_i z16 z17 z18 z19
          exact Kept.refl _
      clear_value x8
      intro x20
      have h21 : Kept u4 x20 := by
        unfold x20
        refine Kept.trans ?_ (h2 ..)
        exact h9
      clear_value x20
      dsimp -zeta only
      lift_lets
      intro x22
      intro x23
      clear_value x23
      refine Kept.ite (fun z24 => ?_) (fun z24 => ?_)
      · split
        · rename_i z25 z26 z27
          lift_lets
          intro x28
          clear_value x28
          refine Kept.ite (fun z29 => ?_) (fun z29 => ?_)
          · refine Kept.trans ?_ (State.homeAgain_kept ..)
            refine Kept.trans ?_ (State.setDir_kept ..)
            exact h21
          · refine Kept.trans ?_ (State.setDir_kept ..)
            exact h21
        · rename_i z30 z31
          refine Kept.ite (fun z32 => ?_) (fun z32 => ?_)
          · refine Kept.trans ?_ (State.freeDir_kept ..)
            exact h21
          · refine Kept.trans ?_ (State.setDir_kept ..)
            exact h21
      · refine Kept.trans ?_ (h2 ..)
        refine Kept.trans ?_ (State.cohProtocol_kept ..)
        exact Kept.refl _
    · rename_i z33
      lift_lets
      intro x34
      have h35 : Kept u4 x34 := by
        unfold x34
        split
        · rename_i z36 z37 z38
          refine Kept.trans ?_ (State.sliceWrite_kept ..)
          exact Kept.refl _
        · rename_i z39 z40 z41
          refine Kept.trans ?_ (State.sliceWrite_kept ..)
          exact Kept.refl _
        · rename_i z42 z43 z44 z45
          exact Kept.refl _
      clear_value x34
      intro x46
      have h47 : Kept u4 x46 := by
        unfold x46
        refine Kept.trans ?_ (h2 ..)
        exact h35
      clear_value x46
      dsimp -zeta only
      refine Kept.trans ?_ (h2 ..)
      refine Kept.trans ?_ (State.cohProtocol_kept ..)
      exact Kept.refl _

theorem State.homeDone_kept (s : State) (r : CohReq) (dirty : Bool) : Kept s (State.homeDone s r dirty) := by
  unfold State.homeDone
  lift_lets
  intro x0
  have h1 : ∀ y1, Kept y1 (x0 y1) := by
    intro y2
    unfold x0
    refine Kept.trans ?_ (State.cohProtocol_kept ..)
    exact Kept.refl _
  clear_value x0
  refine Kept.trans ?_ (State.dirRead_kept (h_f := fun u3 y4 => ?_) ..)
  · exact Kept.refl _
  · split
    · rename_i z5 z6
      split
      · rename_i z7 z8 z9
        refine Kept.ite (fun z10 => ?_) (fun z10 => ?_)
        · refine Kept.trans ?_ (State.setDir_kept ..)
          exact Kept.refl _
        · exact h1 ..
      · rename_i z11 z12
        exact h1 ..
    · rename_i z13
      exact h1 ..

theorem State.homeAck_kept (s : State) (isl l : Nat) (data : Option (List Byte)) (poison : Bool) : Kept s (State.homeAck s isl l data poison) := by
  unfold State.homeAck
  lift_lets
  intro x0
  have h1 : ∀ y1, Kept y1 (x0 y1) := by
    intro y2
    unfold x0
    refine Kept.trans ?_ (State.cohProtocol_kept ..)
    exact Kept.refl _
  clear_value x0
  intro x3
  have h4 : Kept s x3 := by
    unfold x3
    split
    · rename_i z5 z6
      refine Kept.trans ?_ (State.sliceWrite_kept ..)
      exact Kept.refl _
    · rename_i z7
      exact Kept.refl _
  clear_value x3
  refine Kept.trans ?_ (State.dirRead_kept (h_f := fun u8 y9 => ?_) ..)
  · exact h4
  · split
    · rename_i z10 z11
      refine Kept.ite (fun z12 => ?_) (fun z12 => ?_)
      · refine Kept.ite (fun z13 => ?_) (fun z13 => ?_)
        · refine Kept.trans ?_ (State.evictDone_kept ..)
          exact Kept.refl _
        · refine Kept.trans ?_ (State.setDir_kept ..)
          exact Kept.refl _
      · split
        · rename_i z14 z15 z16
          lift_lets
          intro x17
          clear_value x17
          intro x18
          clear_value x18
          intro x19
          have h20 : Kept u8 x19 := by
            unfold x19
            refine Kept.trans ?_ (State.setDir_kept ..)
            exact Kept.refl _
          clear_value x19
          refine Kept.ite (fun z21 => ?_) (fun z21 => ?_)
          · exact h1 ..
          · refine Kept.ite (fun z22 => ?_) (fun z22 => ?_)
            · refine Kept.trans ?_ (State.homeGo_kept ..)
              exact h20
            · exact h20
        · rename_i z23 z24
          exact h1 ..
    · rename_i z25
      exact h1 ..

theorem State.homeNackWb_kept (s : State) (e l : Nat) : Kept s (State.homeNackWb s e l) := by
  unfold State.homeNackWb
  lift_lets
  intro x0
  have h1 : ∀ y1, Kept y1 (x0 y1) := by
    intro y2
    unfold x0
    refine Kept.trans ?_ (State.cohProtocol_kept ..)
    exact Kept.refl _
  clear_value x0
  refine Kept.trans ?_ (State.dirRead_kept (h_f := fun u3 y4 => ?_) ..)
  · exact Kept.refl _
  · split
    · rename_i z5 z6
      split
      · rename_i z7 z8 z9
        lift_lets
        intro x10
        clear_value x10
        intro x11
        refine Kept.ite (fun z12 => ?_) (fun z12 => ?_)
        · refine Kept.trans ?_ (State.setDir_kept ..)
          exact Kept.refl _
        · refine Kept.ite (fun z13 => ?_) (fun z13 => ?_)
          · refine Kept.trans ?_ (State.homeAgain_kept ..)
            refine Kept.trans ?_ (State.setDir_kept ..)
            exact Kept.refl _
          · refine Kept.trans ?_ (State.setDir_kept ..)
            exact Kept.refl _
      · rename_i z14 z15
        exact h1 ..
    · rename_i z16
      exact h1 ..

theorem State.l1Corr_kept (s : State) (e l : Nat) : Kept s (State.l1Corr s e l) := by
  unfold State.l1Corr
  refine Kept.trans ?_ (State.raise_kept ..)
  exact Kept.refl _

theorem State.l1Poison_kept (s : State) (e l : Nat) : Kept s (State.l1Poison s e l) := by
  unfold State.l1Poison
  refine Kept.trans ?_ (State.raise_kept ..)
  exact Kept.refl _

theorem State.l1Evict_kept (s : State) (e : Nat) (w : L1Line) : Kept s (State.l1Evict s e w) := by
  unfold State.l1Evict
  lift_lets
  intro x0
  clear_value x0
  intro x1
  have h2 : Kept s x1 := by
    unfold x1
    refine Kept.trans ?_ (State.l1Drop_kept ..)
    exact Kept.refl _
  clear_value x1
  intro x3
  have h4 : Kept s x3 := by
    unfold x3
    refine Kept.ite (fun z5 => ?_) (fun z5 => ?_)
    · refine Kept.trans ?_ (State.l1Corr_kept ..)
      exact h2
    · refine Kept.ite (fun z6 => ?_) (fun z6 => ?_)
      · refine Kept.trans ?_ (State.l1Poison_kept ..)
        refine Kept.trans ?_ (State.engError_kept ..)
        exact h2
      · exact h2
  clear_value x3
  intro x7
  have h8 : ∀ y1, Kept y1 (x7 y1) := by
    intro y9
    unfold x7
    lift_lets
    intro x10
    clear_value x10
    refine Kept.trans ?_ (Kept.record ..)
    exact Kept.refl _
  clear_value x7
  split
  · rename_i z11 z12
    exact h4
  · rename_i z13 z14
    refine Kept.trans ?_ (State.cohSend_kept ..)
    refine Kept.trans ?_ (h8 ..)
    exact h4
  · rename_i z15 z16
    refine Kept.trans ?_ (State.cohSend_kept ..)
    refine Kept.trans ?_ (h8 ..)
    exact h4
  · rename_i z17 z18
    refine Kept.trans ?_ (State.cohSend_kept ..)
    refine Kept.trans ?_ (h8 ..)
    exact h4

theorem State.l1Install_kept (s : State) (e : Nat) (w : L1Line) : Kept s (State.l1Install s e w) := by
  unfold State.l1Install
  lift_lets
  intro x0
  clear_value x0
  intro x1
  have h2 : Kept s x1 := by
    unfold x1
    refine Kept.ite (fun z3 => ?_) (fun z3 => ?_)
    · exact Kept.refl _
    · split
      · rename_i z7 z8 z9
        refine Kept.trans ?_ (State.l1Evict_kept ..)
        exact Kept.refl _
      · rename_i z12 z13
        exact Kept.refl _
  clear_value x1
  refine Kept.trans ?_ (State.l1Update_kept ..)
  exact h2

theorem State.l1Wake_kept (s : State) (e : Nat) (l : Nat) : Kept s (State.l1Wake s e l) := by
  unfold State.l1Wake
  refine Kept.trans ?_ (Kept.record ..)
  exact Kept.refl _

theorem State.l1Data_kept (s : State) (e : Nat) (l : Nat) (st : L1St) (data : List Byte) (poison : Bool) (dirty : Bool) : Kept s (State.l1Data s e l st data poison dirty) := by
  unfold State.l1Data
  lift_lets
  intro x0
  clear_value x0
  refine Kept.trans ?_ (State.cohSend_kept ..)
  refine Kept.trans ?_ (State.l1Wake_kept ..)
  refine Kept.trans ?_ (State.l1Install_kept ..)
  exact Kept.refl _

theorem State.l1Check_kept (s : State) (e l : Nat) : Kept s (State.l1Check s e l) := by
  unfold State.l1Check
  split
  · rename_i z0 z1 z2
    lift_lets
    intro x3
    have h4 : Kept s x3 := by
      unfold x3
      refine Kept.trans ?_ (State.engError_kept ..)
      exact Kept.refl _
    clear_value x3
    refine Kept.ite (fun z5 => ?_) (fun z5 => ?_)
    · refine Kept.trans ?_ (State.l1Corr_kept ..)
      refine Kept.trans ?_ (State.l1Update_kept ..)
      exact Kept.refl _
    · refine Kept.ite (fun z6 => ?_) (fun z6 => ?_)
      · refine Kept.ite (fun z7 => ?_) (fun z7 => ?_)
        · refine Kept.trans ?_ (State.l1Poison_kept ..)
          refine Kept.trans ?_ (State.l1Update_kept ..)
          exact h4
        · refine Kept.trans ?_ (State.l1Corr_kept ..)
          refine Kept.trans ?_ (State.l1Evict_kept ..)
          exact h4
      · exact Kept.refl _
  · rename_i z8 z9
    exact Kept.refl _

theorem State.l1Inval_kept (s : State) (e l : Nat) (wantData : Bool) : Kept s (State.l1Inval s e l wantData) := by
  unfold State.l1Inval
  lift_lets
  intro x0
  clear_value x0
  intro x1
  have h2 : Kept s x1 := by
    unfold x1
    refine Kept.ite (fun z3 => ?_) (fun z3 => ?_)
    · refine Kept.trans ?_ (State.l1Check_kept ..)
      exact Kept.refl _
    · exact Kept.refl _
  clear_value x1
  intro x4
  clear_value x4
  intro x5
  have h6 : Kept s x5 := by
    unfold x5
    refine Kept.trans ?_ (State.l1Drop_kept ..)
    exact h2
  clear_value x5
  intro x7
  have h8 : ∀ y1 y2, Kept y1 (x7 y1 y2) := by
    intro y9 y10
    unfold x7
    refine Kept.trans ?_ (State.cohSend_kept ..)
    exact Kept.refl _
  clear_value x7
  intro x11
  clear_value x11
  intro x12
  clear_value x12
  intro x13
  clear_value x13
  refine Kept.ite (fun z14 => ?_) (fun z14 => ?_)
  · refine Kept.trans ?_ (h8 ..)
    exact h6
  · refine Kept.ite (fun z15 => ?_) (fun z15 => ?_)
    · refine Kept.trans ?_ (Kept.record ..)
      exact h6
    · refine Kept.trans ?_ (h8 ..)
      refine Kept.trans ?_ (Kept.record ..)
      exact h6

theorem State.l1Serve_kept (s : State) (e l : Nat) (f : State → L1Line → State) (h_f : ∀ u y1, Kept u (f u y1)) : Kept s (State.l1Serve s e l f) := by
  unfold State.l1Serve
  lift_lets
  intro x0
  have h1 : Kept s x0 := by
    unfold x0
    refine Kept.trans ?_ (State.l1Check_kept ..)
    exact Kept.refl _
  clear_value x0
  split
  · rename_i z2 z3 z4
    refine Kept.trans ?_ (h_f ..)
    exact h1
  · rename_i z5 z6
    refine Kept.ite (fun z7 => ?_) (fun z7 => ?_)
    · refine Kept.trans ?_ (State.cohSend_kept ..)
      exact h1
    · refine Kept.trans ?_ (State.cohProtocol_kept ..)
      exact h1

theorem State.l1FwdGets_kept (s : State) (owner : Nat) (r : CohReq) : Kept s (State.l1FwdGets s owner r) := by
  unfold State.l1FwdGets
  refine Kept.trans ?_ (State.l1Serve_kept (h_f := fun u0 y1 => ?_) ..)
  · exact Kept.refl _
  · lift_lets
    intro x2
    clear_value x2
    refine Kept.trans ?_ (State.cohSend_kept ..)
    refine Kept.trans ?_ (State.l1Update_kept ..)
    exact Kept.refl _

theorem State.l1FwdGetm_kept (s : State) (owner : Nat) (r : CohReq) : Kept s (State.l1FwdGetm s owner r) := by
  unfold State.l1FwdGetm
  refine Kept.trans ?_ (State.l1Serve_kept (h_f := fun u0 y1 => ?_) ..)
  · exact Kept.refl _
  · refine Kept.trans ?_ (State.cohSend_kept ..)
    refine Kept.trans ?_ (State.l1Drop_kept ..)
    exact Kept.refl _

theorem State.l1FwdRdu_kept (s : State) (owner : Nat) (r : CohReq) : Kept s (State.l1FwdRdu s owner r) := by
  unfold State.l1FwdRdu
  refine Kept.trans ?_ (State.l1Serve_kept (h_f := fun u0 y1 => ?_) ..)
  · exact Kept.refl _
  · lift_lets
    intro x2
    have h3 : Kept u0 x2 := by
      unfold x2
      refine Kept.trans ?_ (State.cohReply_kept ..)
      exact Kept.refl _
    clear_value x2
    split
    · rename_i z4 z5 z6
      refine Kept.trans ?_ (State.setDir_kept ..)
      exact h3
    · rename_i z7 z8
      exact h3

theorem State.l1Recall_kept (s : State) (owner l : Nat) : Kept s (State.l1Recall s owner l) := by
  unfold State.l1Recall
  lift_lets
  intro x0
  have h1 : Kept s x0 := by
    unfold x0
    refine Kept.trans ?_ (State.l1Check_kept ..)
    exact Kept.refl _
  clear_value x0
  split
  · rename_i z2 z3 z4
    refine Kept.trans ?_ (State.cohSend_kept ..)
    refine Kept.trans ?_ (State.l1Drop_kept ..)
    exact h1
  · rename_i z5 z6
    refine Kept.trans ?_ (State.cohSend_kept ..)
    exact h1

theorem State.l1DataM_kept (s : State) (e l : Nat) (data : Option (List Byte)) (poison dirty : Bool) : Kept s (State.l1DataM s e l data poison dirty) := by
  unfold State.l1DataM
  split
  · rename_i z0 z1
    refine Kept.trans ?_ (State.l1Data_kept ..)
    exact Kept.refl _
  · rename_i z2
    lift_lets
    intro x3
    have h4 : Kept s x3 := by
      unfold x3
      refine Kept.trans ?_ (State.l1Check_kept ..)
      exact Kept.refl _
    clear_value x3
    split
    · rename_i z5 z6 z7
      refine Kept.trans ?_ (State.l1Data_kept ..)
      exact h4
    · rename_i z8 z9
      split
      · rename_i z10 z11 z12
        refine Kept.trans ?_ (State.l1Data_kept ..)
        exact h4
      · rename_i z13 z14
        refine Kept.trans ?_ (State.cohProtocol_kept ..)
        exact h4

theorem State.l1WbAck_kept (s : State) (e l : Nat) : Kept s (State.l1WbAck s e l) := by
  unfold State.l1WbAck
  lift_lets
  intro x0
  clear_value x0
  refine Kept.trans ?_ (Kept.record ..)
  exact Kept.refl _

theorem State.reqNack_kept (s : State) (r : CohReq) : Kept s (State.reqNack s r) := by
  unfold State.reqNack
  split
  · rename_i z0 z1 z2
    lift_lets
    intro x3
    clear_value x3
    intro x4
    clear_value x4
    refine Kept.trans ?_ (Kept.record ..)
    exact Kept.refl _
  · rename_i z5 z6
    exact Kept.refl _

theorem State.cohCancel_kept (s : State) (p : CohReq → Bool) : Kept s (State.cohCancel s p) := by
  unfold State.cohCancel
  lift_lets
  intro x0
  clear_value x0
  intro x1
  clear_value x1
  intro x2
  clear_value x2
  refine Kept.trans ?_ (Kept.record ..)
  exact Kept.refl _

theorem State.cohDeliver_kept (s : State) (m : CohMsg) : Kept s (State.cohDeliver s m) := by
  unfold State.cohDeliver
  split
  · rename_i z0 z1
    refine Kept.trans ?_ (State.homeArrive_kept ..)
    exact Kept.refl _
  · rename_i z2 z3
    refine Kept.trans ?_ (State.homeArrive_kept ..)
    exact Kept.refl _
  · rename_i z4 z5
    refine Kept.trans ?_ (State.homeArrive_kept ..)
    exact Kept.refl _
  · rename_i z6 z7 z8 z9
    refine Kept.trans ?_ (State.homeArrive_kept ..)
    exact Kept.refl _
  · rename_i z10 z11 z12 z13 z14 z15
    refine Kept.trans ?_ (State.homeArrive_kept ..)
    exact Kept.refl _
  · rename_i z16 z17 z18
    refine Kept.trans ?_ (State.homePut_kept ..)
    exact Kept.refl _
  · rename_i z19 z20 z21
    refine Kept.trans ?_ (State.homePut_kept ..)
    exact Kept.refl _
  · rename_i z22 z23 z24
    refine Kept.trans ?_ (State.homePut_kept ..)
    exact Kept.refl _
  · rename_i z25 z26 z27
    refine Kept.trans ?_ (State.homeDone_kept ..)
    exact Kept.refl _
  · rename_i z28 z29 z30 z31 z32
    refine Kept.trans ?_ (State.homeAck_kept ..)
    exact Kept.refl _
  · rename_i z33 z34 z35
    refine Kept.trans ?_ (State.homeNackWb_kept ..)
    exact Kept.refl _
  · rename_i z36 z37 z38 z39 z40 z41
    refine Kept.trans ?_ (State.l1Data_kept ..)
    exact Kept.refl _
  · rename_i z42 z43 z44 z45 z46
    refine Kept.trans ?_ (State.l1Data_kept ..)
    exact Kept.refl _
  · rename_i z47 z48 z49 z50 z51 z52
    refine Kept.trans ?_ (State.l1DataM_kept ..)
    exact Kept.refl _
  · rename_i z53 z54 z55
    refine Kept.trans ?_ (State.l1FwdGets_kept ..)
    exact Kept.refl _
  · rename_i z56 z57 z58
    refine Kept.trans ?_ (State.l1FwdGetm_kept ..)
    exact Kept.refl _
  · rename_i z59 z60 z61
    refine Kept.trans ?_ (State.l1FwdRdu_kept ..)
    exact Kept.refl _
  · rename_i z62 z63 z64
    refine Kept.trans ?_ (State.l1Inval_kept ..)
    exact Kept.refl _
  · rename_i z65 z66 z67
    refine Kept.trans ?_ (State.l1Inval_kept ..)
    exact Kept.refl _
  · rename_i z68 z69 z70
    refine Kept.trans ?_ (State.l1Recall_kept ..)
    exact Kept.refl _
  · rename_i z71 z72
    refine Kept.trans ?_ (State.reqNack_kept ..)
    exact Kept.refl _
  · rename_i z73 z74 z75
    refine Kept.trans ?_ (State.l1WbAck_kept ..)
    exact Kept.refl _

theorem State.cohFlush_kept (k : Nat) (s : State) (l : Nat) : Kept s (State.cohFlush k s l) := by
  induction k generalizing s with
  | zero => exact Kept.refl s
  | succ k ih =>
    unfold State.cohFlush
    split
    · exact ((State.cohTake_kept ..).trans (State.cohDeliver_kept ..)).trans (ih _)
    · exact Kept.refl s

theorem State.cohFinish_kept (s : State) (l : Nat) : Kept s (State.cohFinish s l) := by
  unfold State.cohFinish
  lift_lets
  intro x0
  have h1 : Kept s x0 := by
    unfold x0
    refine Kept.trans ?_ (State.cohFlush_kept ..)
    exact Kept.refl _
  clear_value x0
  split
  · rename_i z2 z3 z4
    refine Kept.ite (fun z5 => ?_) (fun z5 => ?_)
    · refine Kept.trans ?_ (State.setDir_kept ..)
      exact h1
    · exact h1
  · rename_i z6 z7
    exact h1

theorem State.cohRetried_kept (s : State) (b : Backoff) : Kept s (State.cohRetried s b) := by
  unfold State.cohRetried
  lift_lets
  intro x0
  have h1 : Kept s x0 := by
    unfold x0
    refine Kept.trans ?_ (State.passTo_kept ..)
    exact Kept.refl _
  clear_value x0
  intro x2
  clear_value x2
  refine Kept.trans ?_ (State.homeRequest_kept ..)
  refine Kept.trans ?_ (Kept.record ..)
  exact h1

theorem State.resvLapse_kept (s : State) (l : Nat) : Kept s (State.resvLapse s l) := by
  unfold State.resvLapse
  split
  · rename_i z0 z1 z2
    lift_lets
    intro x3
    have h4 : Kept s x3 := by
      unfold x3
      refine Kept.trans ?_ (State.passTo_kept ..)
      exact Kept.refl _
    clear_value x3
    intro x5
    clear_value x5
    refine Kept.trans ?_ (Kept.record ..)
    exact h4
  · rename_i z6 z7
    exact Kept.refl _

theorem State.cohReserved_kept (s : State) (l : Nat) : Kept s (State.cohReserved s l) := by
  unfold State.cohReserved
  split
  · rename_i z0 z1
    exact Kept.refl _
  · rename_i z2 z3 z4
    lift_lets
    intro x5
    have h6 : Kept s x5 := by
      unfold x5
      split
      · rename_i z7 z8 z9
        refine Kept.trans ?_ (State.cohDeliver_kept ..)
        refine Kept.trans ?_ (State.cohTake_kept ..)
        exact Kept.refl _
      · rename_i z10 z11
        exact Kept.refl _
    clear_value x5
    split
    · rename_i z12 z13 z14
      refine Kept.trans ?_ (State.cohFinish_kept ..)
      refine Kept.trans ?_ (State.cohRetried_kept ..)
      exact h6
    · rename_i z15 z16
      split
      · rename_i z17 z18 z19
        refine Kept.trans ?_ (State.cohFinish_kept ..)
        refine Kept.trans ?_ (State.cohDeliver_kept ..)
        exact h6
      · rename_i z20 z21
        refine Kept.trans ?_ (State.resvLapse_kept ..)
        exact h6

theorem State.cohAgain_kept (n : Nat) (s : State) (k : TxnKind) (r : CohReq) : Kept s (State.cohAgain n s k r) := by
  induction n generalizing s r with
  | zero =>
    unfold State.cohAgain
    exact ((State.resvLapse_kept ..).trans (State.homeRequest_kept ..)).trans (State.cohFinish_kept ..)
  | succ n ih =>
    unfold State.cohAgain
    refine Kept.ite (fun _ => ?_) (fun _ => (State.homeRequest_kept ..).trans (State.cohFinish_kept ..))
    lift_lets
    intro s1
    have h1 : Kept s s1 := State.homeNack_kept ..
    clear_value s1
    intro r'
    clear_value r'
    intro s2
    have h2 : Kept s s2 := h1.trans ((State.cohTake_kept ..).trans (State.reqNack_kept ..))
    clear_value s2
    intro s3
    have h3 : Kept s s3 := h2.trans ((State.cohFinish_kept ..).trans (State.cohReserved_kept ..))
    clear_value s3
    split
    · exact (h3.trans ((State.passTo_kept ..).trans (Kept.record ..))).trans (ih _ _)
    · exact h3.trans (ih _ _)

theorem State.cohAsk_kept (s : State) (l : Nat) (k : TxnKind) : Kept s (State.cohAsk s l k) := by
  unfold State.cohAsk
  refine Kept.trans ?_ (State.cohAgain_kept ..)
  exact Kept.refl _

theorem State.cohAnswer_kept (s : State) : Kept s (State.cohAnswer s).1 := by
  unfold State.cohAnswer
  lift_lets
  intro x0
  clear_value x0
  intro x1
  clear_value x1
  refine KeptFst.out ?_
  split
  · rename_i z2 z3 z4
    refine KeptFst.pair ?_
    refine Kept.trans ?_ (Kept.record ..)
    exact Kept.refl _
  · rename_i z5 z6
    refine KeptFst.pair ?_
    exact Kept.refl _

theorem State.cohRead_kept (s : State) (l : Nat) : Kept s (State.cohRead s l).1 := by
  unfold State.cohRead
  refine KeptFst.out ?_
  refine KeptFst.ite (fun z0 => ?_) (fun z0 => ?_)
  · refine KeptFst.pair ?_
    exact Kept.refl _
  · refine KeptFst.trans ?_ (State.cohAnswer_kept ..)
    refine Kept.trans ?_ (State.cohAsk_kept ..)
    exact Kept.refl _

theorem State.cohWrite_kept (s : State) (l off : Nat) (bs : List Byte) : Kept s (State.cohWrite s l off bs) := by
  unfold State.cohWrite
  refine Kept.ite (fun z0 => ?_) (fun z0 => ?_)
  · exact Kept.refl _
  · refine Kept.trans ?_ (State.cohAsk_kept ..)
    exact Kept.refl _

theorem State.devAtom_kept (s : State) (a : Nat) (op : AtomOp) (y cmp : Word) : Kept s (State.devAtom s a op y cmp).1 := by
  unfold State.devAtom
  refine KeptFst.out ?_
  refine KeptFst.ite (fun z0 => ?_) (fun z0 => ?_)
  · refine KeptFst.pair ?_
    exact Kept.refl _
  · split
    rename_i z1 z2 z3 z4 z5
    refine KeptFst.pair ?_
    refine Kept.eqn z5 ?_
    refine Kept.trans ?_ (State.cohAnswer_kept ..)
    refine Kept.trans ?_ (State.cohAsk_kept ..)
    exact Kept.refl _

theorem State.cohReadBytes_kept (n : Nat) (s : State) (a k : Nat) : Kept s (State.cohReadBytes n s a k).1 := by
  induction n generalizing s a k with
  | zero => exact Kept.refl s
  | succ n ih =>
    refine KeptFst.out ?_
    unfold State.cohReadBytes
    refine KeptFst.ite (fun _ => KeptFst.pair (Kept.refl s)) (fun _ => ?_)
    exact (State.cohRead_kept s (a / 64)).trans (ih _ _ _)

theorem State.devRead_kept (s : State) (a : Nat) (n : Nat) : Kept s (State.devRead s a n).1 := by
  refine KeptFst.out ?_
  unfold State.devRead
  refine KeptFst.of ?_
  refine Kept.trans ?_ (State.cohReadBytes_kept ..)
  exact Kept.refl _

theorem State.cohWriteBytes_kept (n : Nat) (s : State) (a : Nat) (bs : List Byte) :
    Kept s (State.cohWriteBytes n s a bs) := by
  induction n generalizing s a bs with
  | zero => exact Kept.refl s
  | succ n ih =>
    unfold State.cohWriteBytes
    exact Kept.ite (fun _ => Kept.refl s) (fun _ => (State.cohWrite_kept ..).trans (ih _ _ _))

theorem State.devWrite_kept (s : State) (a : Nat) (bs : List Byte) : Kept s (State.devWrite s a bs) := by
  unfold State.devWrite
  refine Kept.trans ?_ (State.cohWriteBytes_kept ..)
  exact Kept.refl _

theorem State.postSteered_kept (s : State) (e : Event) : Kept s (State.postSteered s e) := by
  unfold State.postSteered
  refine Kept.trans ?_ (Kept.record ..)
  exact Kept.refl _

theorem State.bellEvent_kept (s : State) (q : Nat) : Kept s (State.bellEvent s q) := by
  unfold State.bellEvent
  refine Kept.ite (fun z0 => ?_) (fun z0 => ?_)
  · refine Kept.trans ?_ (State.postSteered_kept ..)
    exact Kept.refl _
  · exact Kept.refl _

theorem State.openSync_kept (s : State) (q : Nat) : Kept s (State.openSync s q) := by
  unfold State.openSync
  refine Kept.trans ?_ (State.wr_kept ..)
  exact Kept.refl _

theorem State.closeOpen_kept (s : State) (q : Nat) : Kept s (State.closeOpen s q) := by
  unfold State.closeOpen
  refine Kept.trans ?_ (State.setQue_kept ..)
  exact Kept.refl _

theorem State.cqPut_kept (s : State) (cq : Nat) (e : Quad) : Kept s (State.cqPut s cq e) := by
  unfold State.cqPut
  refine Kept.ite (fun z0 => ?_) (fun z0 => ?_)
  · lift_lets
    intro x2
    clear_value x2
    intro x3
    clear_value x3
    refine Kept.trans ?_ (State.advancePi_kept ..)
    refine Kept.trans ?_ (State.devWrite_kept ..)
    exact Kept.refl _
  · refine Kept.trans ?_ (State.ringPut_kept ..)
    exact Kept.refl _

theorem State.complete_kept (s : State) (cq : Nat) (n : Nat) (e : Quad) (sol : Bool) : Kept s (State.complete s cq n e sol) := by
  unfold State.complete
  lift_lets
  intro x0
  have h1 : Kept s x0 := by
    unfold x0
    refine Kept.trans ?_ (State.wr_kept ..)
    exact Kept.refl _
  clear_value x0
  intro x4
  clear_value x4
  intro x5
  have h6 : Kept s x5 := by
    unfold x5
    refine Kept.trans ?_ (State.tally_kept ..)
    refine Kept.trans ?_ (State.cqPut_kept ..)
    exact h1
  clear_value x5
  intro x10
  clear_value x10
  refine Kept.ite (fun z11 => ?_) (fun z11 => ?_)
  · exact h1
  · refine Kept.ite (fun z14 => ?_) (fun z14 => ?_)
    · refine Kept.trans ?_ (State.msix_kept ..)
      exact h6
    · exact h6

theorem State.writeCompletion_kept (s : State) (q : Nat) : Kept s (State.writeCompletion s q) := by
  unfold State.writeCompletion
  lift_lets
  intro x0
  clear_value x0
  rcases e1 : (segment 64 x0) with ⟨z2, z3⟩
  dsimp -zeta only
  lift_lets
  intro x4
  have h5 : Kept s x4 := by
    unfold x4
    refine Kept.trans ?_ (State.setQue_kept ..)
    exact Kept.refl _
  clear_value x4
  dsimp -zeta only
  split
  · rename_i z6 z7
    exact Kept.refl _
  · rename_i z8 z9 z10
    split
    · rename_i z11 z12
      exact Kept.refl _
    · rename_i z13 z14 z15
      lift_lets
      intro x16
      clear_value x16
      refine Kept.ite (fun z17 => ?_) (fun z17 => ?_)
      · refine Kept.trans ?_ (State.openSync_kept ..)
        refine Kept.trans ?_ (State.complete_kept ..)
        exact h5
      · exact Kept.refl _

theorem State.finishEntry_kept (s : State) (q : Nat) (id : Nat) (r : Result) : Kept s (State.finishEntry s q id r) := by
  unfold State.finishEntry
  lift_lets
  intro x0
  have h1 : Kept s x0 := by
    unfold x0
    refine Kept.trans ?_ (State.setQue_kept ..)
    exact Kept.refl _
  clear_value x0
  refine Kept.trans ?_ (State.openSync_kept ..)
  exact h1

theorem State.begin_kept (s : State) (q : Nat) (id : Nat) : Kept s (State.begin s q id) := by
  unfold State.begin
  refine Kept.trans ?_ (State.setQue_kept ..)
  exact Kept.refl _

theorem State.reserve_kept (s : State) (cq : Nat) : Kept s (State.reserve s cq) := by
  unfold State.reserve
  refine Kept.trans ?_ (State.wr_kept ..)
  exact Kept.refl _

theorem State.stallRing_kept (s : State) (q : Nat) : Kept s (State.stallRing s q) := by
  unfold State.stallRing
  lift_lets
  intro x0
  have h1 : Kept s x0 := by
    unfold x0
    refine Kept.trans ?_ (State.closeOpen_kept ..)
    refine Kept.trans ?_ (State.wr_kept ..)
    exact Kept.refl _
  clear_value x0
  refine Kept.trans ?_ (State.openSync_kept ..)
  refine Kept.trans ?_ (State.postEvent_kept ..)
  exact h1

theorem State.advanceCi_kept (s : State) (q : Nat) : Kept s (State.advanceCi s q) := by
  unfold State.advanceCi
  refine Kept.trans ?_ (State.wr_kept ..)
  refine Kept.trans ?_ (State.wr_kept ..)
  exact Kept.refl _

theorem State.pushTaken_kept (s : State) (q : Nat) (t : Taken) : Kept s (State.pushTaken s q t) := by
  unfold State.pushTaken
  refine Kept.trans ?_ (State.openSync_kept ..)
  refine Kept.trans ?_ (State.takeId_kept ..)
  refine Kept.trans ?_ (State.setQue_kept ..)
  exact Kept.refl _

theorem State.takeMalformed_kept (s : State) (q : Nat) (t : Taken) (why : Nat) : Kept s (State.takeMalformed s q t why) := by
  unfold State.takeMalformed
  lift_lets
  intro x0
  have h1 : Kept s x0 := by
    unfold x0
    refine Kept.trans ?_ (State.wr_kept ..)
    refine Kept.trans ?_ (State.count_kept ..)
    exact Kept.refl _
  clear_value x0
  refine Kept.ite (fun z2 => ?_) (fun z2 => ?_)
  · refine Kept.trans ?_ (Kept.foldl (fun t3 x4 => ?_) _ _)
    · refine Kept.trans ?_ (State.raise_kept ..)
      refine Kept.trans ?_ (State.pushTaken_kept ..)
      refine Kept.trans ?_ (State.closeOpen_kept ..)
      exact Kept.refl _
    · refine Kept.trans ?_ (State.finishEntry_kept ..)
      exact Kept.refl _
  · refine Kept.trans ?_ (State.pushTaken_kept ..)
    exact h1

theorem State.pcieBad_kept (s : State) (func : Nat) (iova : Nat) : Kept s (State.pcieBad s func iova) := by
  unfold State.pcieBad
  refine Kept.trans ?_ (State.raise_kept ..)
  exact Kept.refl _

theorem State.queueError_kept (s : State) (q : Nat) (arg : Word) : Kept s (State.queueError s q arg) := by
  unfold State.queueError
  refine Kept.trans ?_ (State.postEvent_kept ..)
  refine Kept.trans ?_ (State.wr_kept ..)
  exact Kept.refl _

theorem State.queueDisabled_kept (s : State) (q : Nat) : Kept s (State.queueDisabled s q) := by
  unfold State.queueDisabled
  refine Kept.trans ?_ (State.postEvent_kept ..)
  refine Kept.trans ?_ (State.wr_kept ..)
  exact Kept.refl _

theorem State.unstall_kept (s : State) (cq : Nat) : Kept s (State.unstall s cq) := by
  unfold State.unstall
  refine Kept.ite (fun z0 => ?_) (fun z0 => ?_)
  · exact Kept.refl _
  · refine Kept.trans ?_ (Kept.foldl (fun t3 x4 => ?_) _ _)
    · exact Kept.refl _
    · refine Kept.ite (fun z7 => ?_) (fun z7 => ?_)
      · refine Kept.trans ?_ (State.wr_kept ..)
        exact Kept.refl _
      · exact Kept.refl _

theorem State.bell_kept (s : State) (q : Nat) (index : Nat) : Kept s (State.bell s q index).1 := by
  refine KeptFst.out ?_
  unfold State.bell
  lift_lets
  intro x0
  clear_value x0
  intro x1
  clear_value x1
  intro x2
  clear_value x2
  intro x3
  clear_value x3
  intro x4
  clear_value x4
  intro x5
  clear_value x5
  intro x6
  have h7 : Kept s x6 := by
    unfold x6
    refine Kept.ite (fun z8 => ?_) (fun z8 => ?_)
    · refine Kept.trans ?_ (State.wr_kept ..)
      exact Kept.refl _
    · exact Kept.refl _
  clear_value x6
  intro x13
  clear_value x13
  intro x14
  have h15 : Kept s x14 := by
    unfold x14
    refine Kept.ite (fun z16 => ?_) (fun z16 => ?_)
    · refine Kept.trans ?_ (State.wr_kept ..)
      exact Kept.refl _
    · exact Kept.refl _
  clear_value x14
  intro x21
  have h22 : Kept s x21 := by
    unfold x21
    refine Kept.trans ?_ (State.tally_kept ..)
    refine Kept.trans ?_ (State.wr_kept ..)
    exact h15
  clear_value x21
  refine KeptFst.ite (fun z26 => ?_) (fun z26 => ?_)
  · refine KeptFst.pair ?_
    refine Kept.trans ?_ (State.count_kept ..)
    exact Kept.refl _
  · refine KeptFst.ite (fun z31 => ?_) (fun z31 => ?_)
    · refine KeptFst.ite (fun z33 => ?_) (fun z33 => ?_)
      · refine KeptFst.pair ?_
        refine Kept.trans ?_ (State.bellEvent_kept ..)
        refine Kept.trans ?_ (State.tally_kept ..)
        refine Kept.trans ?_ (State.wr_kept ..)
        exact h7
      · refine KeptFst.pair ?_
        refine Kept.trans ?_ (State.count_kept ..)
        exact Kept.refl _
    · refine KeptFst.ite (fun z43 => ?_) (fun z43 => ?_)
      · refine KeptFst.pair ?_
        refine Kept.ite (fun z46 => ?_) (fun z46 => ?_)
        · refine Kept.trans ?_ (State.postLost_kept ..)
          exact h22
        · refine Kept.trans ?_ (State.unstall_kept ..)
          exact h22
      · refine KeptFst.pair ?_
        refine Kept.trans ?_ (State.count_kept ..)
        exact Kept.refl _

theorem State.dbRefused_kept (s : State) (p master : Nat) : Kept s (State.dbRefused s p master) := by
  unfold State.dbRefused
  refine Kept.trans ?_ (State.raise_kept ..)
  refine Kept.trans ?_ (State.count_kept ..)
  exact Kept.refl _

theorem State.doorbell_kept (s : State) (func : Nat) (w : Word) : Kept s (State.doorbell s func w) := by
  unfold State.doorbell
  lift_lets
  intro x0
  clear_value x0
  refine Kept.ite (fun z1 => ?_) (fun z1 => ?_)
  · refine Kept.trans ?_ (State.bell_kept ..)
    exact Kept.refl _
  · refine Kept.trans ?_ (State.dbRefused_kept ..)
    exact Kept.refl _

theorem State.recvComplete_kept (s : State) (b : Bound) (status : Nat) (bytes : Nat) : Kept s (State.recvComplete s b status bytes) := by
  unfold State.recvComplete
  refine Kept.ite (fun z0 => ?_) (fun z0 => ?_)
  · exact Kept.refl _
  · lift_lets
    intro x3
    clear_value x3
    intro x4
    clear_value x4
    intro x5
    clear_value x5
    intro x6
    have h7 : Kept s x6 := by
      unfold x6
      refine Kept.ite (fun z8 => ?_) (fun z8 => ?_)
      · refine Kept.trans ?_ (State.count_kept ..)
        exact Kept.refl _
      · exact Kept.refl _
    clear_value x6
    refine Kept.trans ?_ (State.complete_kept ..)
    exact h7

theorem State.setPort_kept (s : State) (n : Nat) (f : Port → Port) : Kept s (State.setPort s n f) := by
  unfold State.setPort
  refine Kept.trans ?_ (Kept.record ..)
  exact Kept.refl _

theorem State.occNote_kept (s : State) (n : Nat) : Kept s (State.occNote s n) := by
  unfold State.occNote
  lift_lets
  intro x0
  clear_value x0
  refine Kept.ite (fun z1 => ?_) (fun z1 => ?_)
  · exact Kept.refl _
  · refine Kept.trans ?_ (State.setPort_kept ..)
    exact Kept.refl _

theorem State.occSync_kept (s : State) : Kept s (State.occSync s) := by
  unfold State.occSync
  refine Kept.trans ?_ (Kept.foldl (fun t0 x1 => ?_) _ _)
  · exact Kept.refl _
  · refine Kept.trans ?_ (State.occNote_kept ..)
    exact Kept.refl _

theorem State.routeOf_kept (s : State) (p : Packet) : Kept s (State.routeOf s p).1 := by
  unfold State.routeOf
  lift_lets
  intro x0
  clear_value x0
  intro x1
  clear_value x1
  intro x2
  clear_value x2
  intro x3
  clear_value x3
  intro x4
  clear_value x4
  intro x5
  intro x6
  clear_value x6
  intro x7
  clear_value x7
  intro x8
  clear_value x8
  intro x9
  clear_value x9
  intro x10
  clear_value x10
  intro x11
  clear_value x11
  intro x12
  clear_value x12
  intro x13
  clear_value x13
  intro x14
  clear_value x14
  intro x15
  clear_value x15
  refine KeptFst.out ?_
  refine KeptFst.ite (fun z16 => ?_) (fun z16 => ?_)
  · refine KeptFst.pair ?_
    exact Kept.refl _
  · refine KeptFst.ite (fun z17 => ?_) (fun z17 => ?_)
    · refine KeptFst.pair ?_
      refine Kept.trans ?_ (State.latentRaise_kept ..)
      exact Kept.refl _
    · refine KeptFst.ite (fun z18 => ?_) (fun z18 => ?_)
      · refine KeptFst.pair ?_
        exact Kept.refl _
      · refine KeptFst.ite (fun z19 => ?_) (fun z19 => ?_)
        · refine KeptFst.pair ?_
          exact Kept.refl _
        · split
          rename_i z20 z21 z22 z23
          split
          · rename_i z24 z25
            refine KeptFst.pair ?_
            refine Kept.eqn z23 ?_
            refine KeptFst.out ?_
            refine KeptFst.ite (fun z26 => ?_) (fun z26 => ?_)
            · refine KeptFst.pair ?_
              refine Kept.trans ?_ (Kept.record ..)
              exact Kept.refl _
            · refine KeptFst.pair ?_
              exact Kept.refl _
          · rename_i z27 z28 z29
            lift_lets
            intro x30
            clear_value x30
            split
            · rename_i z31 z32 z33
              refine KeptFst.pair ?_
              refine Kept.eqn z23 ?_
              refine KeptFst.out ?_
              refine KeptFst.ite (fun z34 => ?_) (fun z34 => ?_)
              · refine KeptFst.pair ?_
                refine Kept.trans ?_ (Kept.record ..)
                exact Kept.refl _
              · refine KeptFst.pair ?_
                exact Kept.refl _
            · rename_i z35 z36
              refine KeptFst.pair ?_
              refine Kept.eqn z23 ?_
              refine KeptFst.out ?_
              refine KeptFst.ite (fun z37 => ?_) (fun z37 => ?_)
              · refine KeptFst.pair ?_
                refine Kept.trans ?_ (Kept.record ..)
                exact Kept.refl _
              · refine KeptFst.pair ?_
                exact Kept.refl _

theorem State.charge_kept (s : State) (n : Nat) (j : Nat) (u : Nat) : Kept s (State.charge s n j u) := by
  unfold State.charge
  refine Kept.trans ?_ (State.wr_kept ..)
  exact Kept.refl _

theorem State.giveBack_kept (s : State) (h : Held) : Kept s (State.giveBack s h) := by
  unfold State.giveBack
  split
  · rename_i z0 z1
    exact Kept.refl _
  · rename_i z2 z3 z4
    lift_lets
    intro x5
    clear_value x5
    refine Kept.ite (fun z6 => ?_) (fun z6 => ?_)
    · exact Kept.refl _
    · refine Kept.trans ?_ (State.setPort_kept ..)
      exact Kept.refl _

theorem State.landOne_kept (s : State) (x : Landing) : Kept s (State.landOne s x) := by
  unfold State.landOne
  lift_lets
  intro x0
  clear_value x0
  refine Kept.ite (fun z1 => ?_) (fun z1 => ?_)
  · refine Kept.trans ?_ (State.raise_kept ..)
    refine Kept.trans ?_ (Kept.record ..)
    exact Kept.refl _
  · refine Kept.ite (fun z2 => ?_) (fun z2 => ?_)
    · exact Kept.refl _
    · refine Kept.trans ?_ (State.setPort_kept ..)
      refine Kept.trans ?_ (Kept.record ..)
      exact Kept.refl _

theorem State.landSync_kept (s : State) : Kept s (State.landSync s) := by
  unfold State.landSync
  refine Kept.trans ?_ (Kept.foldl (fun t0 x1 => ?_) _ _)
  · exact Kept.refl _
  · refine Kept.trans ?_ (State.landOne_kept ..)
    exact Kept.refl _

theorem State.activity_kept (s : State) (p : Packet) : Kept s (State.activity s p) := by
  unfold State.activity
  refine Kept.ite (fun z0 => ?_) (fun z0 => ?_)
  · exact Kept.refl _
  · refine Kept.trans ?_ (State.wr_kept ..)
    exact Kept.refl _

theorem State.hold_kept (s : State) (h : Held) : Kept s (State.hold s h) := by
  unfold State.hold
  refine Kept.trans ?_ (State.takeId_kept ..)
  refine Kept.trans ?_ (Kept.record ..)
  exact Kept.refl _

theorem State.haltedOwner_kept (s : State) (o : Option (Nat × Nat)) : Kept s (State.haltedOwner s o) := by
  unfold State.haltedOwner
  split
  · rename_i z0 z1
    refine Kept.ite (fun z2 => ?_) (fun z2 => ?_)
    · refine Kept.trans ?_ (State.finishEntry_kept ..)
      exact Kept.refl _
    · exact Kept.refl _
  · rename_i z3 z4
    exact Kept.refl _

theorem State.inject_kept (s : State) (p : Packet) (owner : Option (Nat × Nat)) (out : Option Nat) (sender : Option Nat) : Kept s (State.inject s p owner out sender) := by
  unfold State.inject
  lift_lets
  intro x0
  have h1 : Kept s x0 := by
    unfold x0
    refine Kept.trans ?_ (State.activity_kept ..)
    exact Kept.refl _
  clear_value x0
  intro x2
  have h3 : Kept s x2 := by
    unfold x2
    refine Kept.trans ?_ (State.setMeter_kept ..)
    exact h1
  clear_value x2
  refine Kept.ite (fun z4 => ?_) (fun z4 => ?_)
  · refine Kept.trans ?_ (State.haltedOwner_kept ..)
    exact Kept.refl _
  · refine Kept.trans ?_ (State.hold_kept ..)
    exact h3

theorem State.launch_kept (s : State) (p : Packet) (owner : Option (Nat × Nat)) (open' : List (Nat × Nat)) (sender : Option Nat) : Kept s (State.launch s p owner open' sender) := by
  unfold State.launch
  lift_lets
  intro x0
  clear_value x0
  intro x1
  clear_value x1
  refine Kept.ite (fun z2 => ?_) (fun z2 => ?_)
  · refine Kept.trans ?_ (State.takeId_kept ..)
    refine Kept.trans ?_ (Kept.record ..)
    exact Kept.refl _
  · refine Kept.trans ?_ (State.inject_kept ..)
    exact Kept.refl _

theorem State.meterRx_kept (s : State) (p : Packet) : Kept s (State.meterRx s p) := by
  unfold State.meterRx
  refine Kept.trans ?_ (State.setMeter_kept ..)
  exact Kept.refl _

theorem State.rbSync_kept (s : State) (n : Nat) : Kept s (State.rbSync s n) := by
  unfold State.rbSync
  refine Kept.trans ?_ (State.wr_kept ..)
  exact Kept.refl _

theorem State.failoverEnd_kept (s : State) (n : Nat) : Kept s (State.failoverEnd s n) := by
  unfold State.failoverEnd
  refine Kept.ite (fun z0 => ?_) (fun z0 => ?_)
  · split
    · rename_i z1 z2 z3
      refine Kept.trans ?_ (State.wr_kept ..)
      exact Kept.refl _
    · rename_i z4 z5
      refine Kept.trans ?_ (State.setLstate_kept ..)
      refine Kept.trans ?_ (State.wr_kept ..)
      exact Kept.refl _
  · exact Kept.refl _

theorem State.unhold_kept (s : State) (h : Held) : Kept s (State.unhold s h) := by
  unfold State.unhold
  lift_lets
  intro x0
  clear_value x0
  intro x1
  have h2 : Kept s x1 := by
    unfold x1
    refine Kept.trans ?_ (Kept.record ..)
    exact Kept.refl _
  clear_value x1
  intro x3
  have h4 : Kept s x3 := by
    unfold x3
    refine Kept.trans ?_ (State.giveBack_kept ..)
    exact h2
  clear_value x3
  split
  · rename_i z5 z6 z7
    refine Kept.trans ?_ (State.failoverEnd_kept ..)
    refine Kept.trans ?_ (State.rbSync_kept ..)
    exact h4
  · rename_i z8 z9
    exact h4

theorem State.ownerDone_kept (s : State) (o : Option (Nat × Nat)) : Kept s (State.ownerDone s o) := by
  unfold State.ownerDone
  split
  · rename_i z1 z2 z3
    refine Kept.trans ?_ (State.finishEntry_kept ..)
    exact Kept.refl _
  · rename_i z6
    exact Kept.refl _

theorem State.dropHeld_kept (s : State) (h : Held) (f : Fld) : Kept s (State.dropHeld s h f) := by
  unfold State.dropHeld
  refine Kept.trans ?_ (State.ownerDone_kept ..)
  refine Kept.trans ?_ (State.count_kept ..)
  refine Kept.trans ?_ (State.unhold_kept ..)
  exact Kept.refl _

theorem State.arrive_kept (s : State) (h : Held) : Kept s (State.arrive s h) := by
  unfold State.arrive
  lift_lets
  intro x0
  clear_value x0
  intro x1
  have h2 : Kept s x1 := by
    unfold x1
    refine Kept.trans ?_ (Kept.record ..)
    exact Kept.refl _
  clear_value x1
  intro x5
  clear_value x5
  refine Kept.trans ?_ (State.ownerDone_kept ..)
  refine Kept.trans ?_ (Kept.record ..)
  exact h2

theorem State.unarrive_kept (s : State) (p : Packet) : Kept s (State.unarrive s p) := by
  unfold State.unarrive
  split
  · rename_i z0 z1 z2
    lift_lets
    intro x3
    clear_value x3
    refine Kept.trans ?_ (Kept.record ..)
    exact Kept.refl _
  · rename_i z4 z5
    exact Kept.refl _

theorem State.parkSync_kept (s : State) : Kept s (State.parkSync s) := by
  unfold State.parkSync
  lift_lets
  intro x0
  clear_value x0
  intro x1
  clear_value x1
  refine Kept.trans ?_ (Kept.foldl (fun t2 x3 => ?_) _ _)
  · refine Kept.trans ?_ (Kept.record ..)
    exact Kept.refl _
  · refine Kept.trans ?_ (State.giveBack_kept ..)
    exact Kept.refl _

theorem State.wantAt_kept (s : State) (h : Held) (l : List (Nat × Nat)) : Kept s (State.wantAt s h l) := by
  unfold State.wantAt
  lift_lets
  intro x0
  clear_value x0
  refine Kept.trans ?_ (Kept.record ..)
  exact Kept.refl _

theorem State.depart_kept (s : State) (h : Held) (p : Packet) (n vc : Nat) (pool nonmin : Bool) : Kept s (State.depart s h p n vc pool nonmin) := by
  unfold State.depart
  lift_lets
  intro x0
  clear_value x0
  intro x1
  clear_value x1
  intro x2
  clear_value x2
  intro x3
  clear_value x3
  intro x4
  have h5 : Kept s x4 := by
    unfold x4
    refine Kept.trans ?_ (State.setPort_kept ..)
    refine Kept.trans ?_ (State.charge_kept ..)
    exact Kept.refl _
  clear_value x4
  intro x6
  clear_value x6
  split
  · rename_i z7 z8 z9
    lift_lets
    intro x10
    have h11 : Kept s x10 := by
      unfold x10
      refine Kept.trans ?_ (State.tally_kept ..)
      exact h5
    clear_value x10
    refine Kept.trans ?_ (Kept.record ..)
    exact h11
  · rename_i z12 z13
    refine Kept.trans ?_ (State.setPort_kept ..)
    exact h5

theorem State.win_kept (s : State) (h : Held) (p : Packet) (n vc : Nat) (pool nonmin : Bool) : Kept s (State.win s h p n vc pool nonmin) := by
  unfold State.win
  refine Kept.ite (fun z0 => ?_) (fun z0 => ?_)
  · refine Kept.trans ?_ (State.raise_kept ..)
    refine Kept.trans ?_ (State.unhold_kept ..)
    exact Kept.refl _
  · refine Kept.trans ?_ (State.depart_kept ..)
    refine Kept.trans ?_ (State.unhold_kept ..)
    exact Kept.refl _

theorem State.ptrPast_kept (s : State) (k : Nat) (h : Held) (tie : Bool) : Kept s (State.ptrPast s k h tie) := by
  unfold State.ptrPast
  lift_lets
  intro x0
  clear_value x0
  refine Kept.ite (fun z1 => ?_) (fun z1 => ?_)
  · refine Kept.trans ?_ (Kept.record ..)
    exact Kept.refl _
  · exact Kept.refl _

theorem State.tiesPast_kept (s : State) (h : Held) (n vc : Nat) : Kept s (State.tiesPast s h n vc) := by
  unfold State.tiesPast
  lift_lets
  intro x0
  clear_value x0
  intro x1
  clear_value x1
  refine Kept.trans ?_ (State.ptrPast_kept ..)
  refine Kept.trans ?_ (State.ptrPast_kept ..)
  exact Kept.refl _

theorem State.claim_kept (s : State) (h : Held) (p : Packet) (n vc : Nat) (pool nonmin : Bool) : Kept s (State.claim s h p n vc pool nonmin) := by
  unfold State.claim
  refine Kept.trans ?_ (State.win_kept ..)
  refine Kept.trans ?_ (State.tiesPast_kept ..)
  exact Kept.refl _

theorem State.bid_kept (s : State) (h : Held) (l : List Bid) : Kept s (State.bid s h l) := by
  unfold State.bid
  split
  · rename_i z0 z1 z2
    refine Kept.trans ?_ (State.claim_kept ..)
    exact Kept.refl _
  · rename_i z3 z4
    refine Kept.trans ?_ (State.wantAt_kept ..)
    exact Kept.refl _

theorem State.bufferRead_kept (s : State) (h : Held) : Kept s (State.bufferRead s h) := by
  unfold State.bufferRead
  split
  · rename_i z0 z1
    exact Kept.refl _
  · rename_i z2 z3 z4
    lift_lets
    intro x5
    clear_value x5
    refine Kept.ite (fun z6 => ?_) (fun z6 => ?_)
    · refine Kept.trans ?_ (State.raise_kept ..)
      refine Kept.trans ?_ (Kept.record ..)
      exact Kept.refl _
    · refine Kept.ite (fun z7 => ?_) (fun z7 => ?_)
      · refine Kept.trans ?_ (State.raise_kept ..)
        refine Kept.trans ?_ (State.ownerDone_kept ..)
        refine Kept.trans ?_ (State.unhold_kept ..)
        exact Kept.refl _
      · exact Kept.refl _

theorem State.seekOutput_kept (s : State) (h : Held) : Kept s (State.seekOutput s h) := by
  unfold State.seekOutput
  refine Kept.ite (fun z0 => ?_) (fun z0 => ?_)
  · exact Kept.refl _
  · split
    · rename_i z1 z2 z3
      refine Kept.trans ?_ (State.bid_kept ..)
      exact Kept.refl _
    · rename_i z4 z5
      lift_lets
      intro x6
      clear_value x6
      refine Kept.ite (fun z7 => ?_) (fun z7 => ?_)
      · refine Kept.trans ?_ (State.dropHeld_kept ..)
        exact Kept.refl _
      · refine Kept.ite (fun z8 => ?_) (fun z8 => ?_)
        · refine Kept.trans ?_ (State.wantAt_kept ..)
          exact Kept.refl _
        · split
          · rename_i z9
            split
            · rename_i z10
              rcases e11 : (s.routeOf x6) with ⟨z12, z13⟩
              cases z13
              · dsimp -zeta only
                refine Kept.trans ?_ (State.arrive_kept ..)
                refine Kept.eqn e11 ?_
                refine Kept.trans ?_ (State.routeOf_kept ..)
                exact Kept.refl _
              · dsimp -zeta only
                refine Kept.trans ?_ (State.dropHeld_kept ..)
                refine Kept.eqn e11 ?_
                refine Kept.trans ?_ (State.routeOf_kept ..)
                exact Kept.refl _
              · rename_i z15
                dsimp -zeta only
                refine Kept.ite (fun z16 => ?_) (fun z16 => ?_)
                · refine Kept.trans ?_ (State.bid_kept ..)
                  refine Kept.eqn e11 ?_
                  refine Kept.trans ?_ (State.routeOf_kept ..)
                  exact Kept.refl _
                · refine Kept.trans ?_ (State.dropHeld_kept ..)
                  refine Kept.eqn e11 ?_
                  refine Kept.trans ?_ (State.routeOf_kept ..)
                  exact Kept.refl _
              · rename_i z17
                dsimp -zeta only
                refine Kept.trans ?_ (State.wantAt_kept ..)
                refine Kept.eqn e11 ?_
                refine Kept.trans ?_ (State.routeOf_kept ..)
                exact Kept.refl _
              · rename_i z18 z19
                dsimp -zeta only
                lift_lets
                intro x20
                clear_value x20
                dsimp -zeta only
                refine Kept.trans ?_ (State.bid_kept ..)
                refine Kept.eqn e11 ?_
                refine Kept.trans ?_ (State.routeOf_kept ..)
                exact Kept.refl _
            · rename_i z21
              rcases e22 : (s.routeOf x6) with ⟨z23, z24⟩
              cases z24
              · dsimp -zeta only
                refine Kept.trans ?_ (State.arrive_kept ..)
                refine Kept.eqn e22 ?_
                refine Kept.trans ?_ (State.routeOf_kept ..)
                exact Kept.refl _
              · dsimp -zeta only
                refine Kept.trans ?_ (State.dropHeld_kept ..)
                refine Kept.eqn e22 ?_
                refine Kept.trans ?_ (State.routeOf_kept ..)
                exact Kept.refl _
              · rename_i z26
                dsimp -zeta only
                refine Kept.ite (fun z27 => ?_) (fun z27 => ?_)
                · refine Kept.trans ?_ (State.bid_kept ..)
                  refine Kept.eqn e22 ?_
                  refine Kept.trans ?_ (State.routeOf_kept ..)
                  exact Kept.refl _
                · refine Kept.trans ?_ (State.dropHeld_kept ..)
                  refine Kept.eqn e22 ?_
                  refine Kept.trans ?_ (State.routeOf_kept ..)
                  exact Kept.refl _
              · rename_i z28
                dsimp -zeta only
                refine Kept.trans ?_ (State.wantAt_kept ..)
                refine Kept.eqn e22 ?_
                refine Kept.trans ?_ (State.routeOf_kept ..)
                exact Kept.refl _
              · rename_i z29 z30
                dsimp -zeta only
                lift_lets
                intro x31
                clear_value x31
                dsimp -zeta only
                refine Kept.trans ?_ (State.bid_kept ..)
                refine Kept.eqn e22 ?_
                refine Kept.trans ?_ (State.routeOf_kept ..)
                exact Kept.refl _
          · rename_i z32
            split
            · rename_i z33
              rcases e34 : (s.routeOf x6) with ⟨z35, z36⟩
              cases z36
              · dsimp -zeta only
                refine Kept.trans ?_ (State.arrive_kept ..)
                refine Kept.eqn e34 ?_
                refine Kept.trans ?_ (State.routeOf_kept ..)
                exact Kept.refl _
              · dsimp -zeta only
                refine Kept.trans ?_ (State.dropHeld_kept ..)
                refine Kept.eqn e34 ?_
                refine Kept.trans ?_ (State.routeOf_kept ..)
                exact Kept.refl _
              · rename_i z38
                dsimp -zeta only
                refine Kept.ite (fun z39 => ?_) (fun z39 => ?_)
                · refine Kept.trans ?_ (State.bid_kept ..)
                  refine Kept.eqn e34 ?_
                  refine Kept.trans ?_ (State.routeOf_kept ..)
                  exact Kept.refl _
                · refine Kept.trans ?_ (State.dropHeld_kept ..)
                  refine Kept.eqn e34 ?_
                  refine Kept.trans ?_ (State.routeOf_kept ..)
                  exact Kept.refl _
              · rename_i z40
                dsimp -zeta only
                refine Kept.ite (fun z41 => ?_) (fun z41 => ?_)
                · refine Kept.trans ?_ (State.bid_kept ..)
                  refine Kept.eqn e34 ?_
                  refine Kept.trans ?_ (State.routeOf_kept ..)
                  exact Kept.refl _
                · refine Kept.trans ?_ (State.dropHeld_kept ..)
                  refine Kept.eqn e34 ?_
                  refine Kept.trans ?_ (State.routeOf_kept ..)
                  exact Kept.refl _
              · rename_i z42 z43
                dsimp -zeta only
                lift_lets
                intro x44
                clear_value x44
                dsimp -zeta only
                refine Kept.trans ?_ (State.bid_kept ..)
                refine Kept.eqn e34 ?_
                refine Kept.trans ?_ (State.routeOf_kept ..)
                exact Kept.refl _
            · rename_i z45
              rcases e46 : (s.routeOf x6) with ⟨z47, z48⟩
              cases z48
              · dsimp -zeta only
                refine Kept.trans ?_ (State.arrive_kept ..)
                refine Kept.eqn e46 ?_
                refine Kept.trans ?_ (State.routeOf_kept ..)
                exact Kept.refl _
              · dsimp -zeta only
                refine Kept.trans ?_ (State.dropHeld_kept ..)
                refine Kept.eqn e46 ?_
                refine Kept.trans ?_ (State.routeOf_kept ..)
                exact Kept.refl _
              · rename_i z50
                dsimp -zeta only
                refine Kept.ite (fun z51 => ?_) (fun z51 => ?_)
                · refine Kept.trans ?_ (State.bid_kept ..)
                  refine Kept.eqn e46 ?_
                  refine Kept.trans ?_ (State.routeOf_kept ..)
                  exact Kept.refl _
                · refine Kept.trans ?_ (State.dropHeld_kept ..)
                  refine Kept.eqn e46 ?_
                  refine Kept.trans ?_ (State.routeOf_kept ..)
                  exact Kept.refl _
              · rename_i z52
                dsimp -zeta only
                refine Kept.ite (fun z53 => ?_) (fun z53 => ?_)
                · refine Kept.trans ?_ (State.bid_kept ..)
                  refine Kept.eqn e46 ?_
                  refine Kept.trans ?_ (State.routeOf_kept ..)
                  exact Kept.refl _
                · refine Kept.trans ?_ (State.dropHeld_kept ..)
                  refine Kept.eqn e46 ?_
                  refine Kept.trans ?_ (State.routeOf_kept ..)
                  exact Kept.refl _
              · rename_i z54 z55
                dsimp -zeta only
                lift_lets
                intro x56
                clear_value x56
                dsimp -zeta only
                refine Kept.trans ?_ (State.bid_kept ..)
                refine Kept.eqn e46 ?_
                refine Kept.trans ?_ (State.routeOf_kept ..)
                exact Kept.refl _

theorem State.mgmtAnswer_kept (s : State) (r : MgmtReq) (mcmd : Nat) (mstatus : Nat) (data : List Byte) : Kept s (State.mgmtAnswer s r mcmd mstatus data) := by
  unfold State.mgmtAnswer
  lift_lets
  intro x0
  clear_value x0
  intro x1
  have h2 : Kept s x1 := by
    unfold x1
    refine Kept.trans ?_ (State.drawn_kept ..)
    refine Kept.trans ?_ (State.drawn_kept ..)
    exact Kept.refl _
  clear_value x1
  refine Kept.ite (fun z6 => ?_) (fun z6 => ?_)
  · refine Kept.trans ?_ (State.inject_kept ..)
    exact h2
  · exact h2

theorem State.fwctlAnswer_kept (s : State) (ts : List Taken) : Kept s (State.fwctlAnswer s ts) := by
  unfold State.fwctlAnswer
  refine Kept.trans ?_ (Kept.foldl (fun t0 x1 => ?_) _ _)
  · exact Kept.refl _
  · split
    · rename_i z5 z6 z7 z8 z9 z10
      refine Kept.trans ?_ (State.mgmtAnswer_kept ..)
      refine Kept.trans ?_ (Kept.record ..)
      exact Kept.refl _
    · rename_i z14 z15 z16
      exact Kept.refl _

theorem State.putUnits_kept (s : State) (n : Nat) (bs : List Byte) : Kept s (State.putUnits s n bs) := by
  unfold State.putUnits
  refine Kept.trans ?_ (State.setPort_kept ..)
  exact Kept.refl _

theorem State.sendFrame_kept (s : State) (n : Nat) (f : RFrame) : Kept s (State.sendFrame s n f) := by
  unfold State.sendFrame
  lift_lets
  intro x0
  clear_value x0
  intro x1
  have h2 : Kept s x1 := by
    unfold x1
    refine Kept.trans ?_ (State.setPort_kept ..)
    refine Kept.trans ?_ (State.putUnits_kept ..)
    refine Kept.trans ?_ (State.emit_kept ..)
    exact Kept.refl _
  clear_value x1
  refine Kept.trans ?_ (State.bwSent_kept ..)
  exact h2

theorem State.sendControl_kept (s : State) (n kind : Nat) (b1 b2 b3 b4 b5 b6 : Word) : Kept s (State.sendControl s n kind b1 b2 b3 b4 b5 b6) := by
  unfold State.sendControl
  lift_lets
  intro x0
  clear_value x0
  intro x1
  clear_value x1
  intro x2
  clear_value x2
  refine Kept.ite (fun z3 => ?_) (fun z3 => ?_)
  · exact Kept.refl _
  · refine Kept.trans ?_ (State.setPort_kept ..)
    refine Kept.trans ?_ (State.putUnits_kept ..)
    refine Kept.trans ?_ (State.emit_kept ..)
    exact Kept.refl _

theorem State.sendCredit_kept (s : State) (n : Nat) : Kept s (State.sendCredit s n) := by
  unfold State.sendCredit
  lift_lets
  intro x0
  clear_value x0
  intro x1
  clear_value x1
  intro x2
  have h3 : Kept s x2 := by
    unfold x2
    refine Kept.trans ?_ (State.sendControl_kept ..)
    exact Kept.refl _
  clear_value x2
  refine Kept.ite (fun z4 => ?_) (fun z4 => ?_)
  · exact Kept.refl _
  · refine Kept.trans ?_ (State.setPort_kept ..)
    exact h3

theorem State.sendLane_kept (s : State) (n : Nat) : Kept s (State.sendLane s n) := by
  unfold State.sendLane
  lift_lets
  intro x0
  clear_value x0
  refine Kept.ite (fun z1 => ?_) (fun z1 => ?_)
  · exact Kept.refl _
  · refine Kept.trans ?_ (State.setPort_kept ..)
    refine Kept.trans ?_ (State.sendControl_kept ..)
    exact Kept.refl _

theorem State.ctlDue_kept (s : State) (n k : Nat) : Kept s (State.ctlDue s n k) := by
  unfold State.ctlDue
  refine Kept.trans ?_ (State.setPort_kept ..)
  exact Kept.refl _

theorem State.ctlPeriods_kept (s : State) (n : Nat) : Kept s (State.ctlPeriods s n) := by
  unfold State.ctlPeriods
  lift_lets
  intro x0
  clear_value x0
  intro x1
  clear_value x1
  intro x2
  have h3 : Kept s x2 := by
    unfold x2
    refine Kept.ite (fun z4 => ?_) (fun z4 => ?_)
    · refine Kept.trans ?_ (State.setPort_kept ..)
      refine Kept.trans ?_ (State.ctlDue_kept ..)
      exact Kept.refl _
    · exact Kept.refl _
  clear_value x2
  intro x5
  have h6 : Kept s x5 := by
    unfold x5
    refine Kept.ite (fun z7 => ?_) (fun z7 => ?_)
    · refine Kept.trans ?_ (State.setPort_kept ..)
      refine Kept.trans ?_ (State.ctlDue_kept ..)
      exact h3
    · exact h3
  clear_value x5
  refine Kept.ite (fun z8 => ?_) (fun z8 => ?_)
  · refine Kept.trans ?_ (State.ctlDue_kept ..)
    exact h6
  · exact h6

theorem State.sendNak_kept (s : State) (n : Nat) : Kept s (State.sendNak s n) := by
  unfold State.sendNak
  lift_lets
  intro x0
  have h1 : Kept s x0 := by
    unfold x0
    refine Kept.trans ?_ (State.setPort_kept ..)
    exact Kept.refl _
  clear_value x0
  refine Kept.ite (fun z2 => ?_) (fun z2 => ?_)
  · exact h1
  · refine Kept.trans ?_ (State.ctlDue_kept ..)
    exact h1

theorem State.ownTime_kept (s : State) (free : Bool) : Kept s (State.ownTime s free) := by
  unfold State.ownTime
  refine Kept.trans ?_ (State.set_kept ..)
  exact Kept.refl _

theorem State.elect_kept (s : State) : Kept s (State.elect s) := by
  unfold State.elect
  lift_lets
  intro x0
  clear_value x0
  refine Kept.ite (fun z1 => ?_) (fun z1 => ?_)
  · refine Kept.trans ?_ (State.ownTime_kept ..)
    exact Kept.refl _
  · split
    · rename_i z2 z3 z4 z5
      refine Kept.trans ?_ (State.set_kept ..)
      exact Kept.refl _
    · rename_i z6 z7
      refine Kept.trans ?_ (State.ownTime_kept ..)
      exact Kept.refl _

theorem State.adjust_kept (s : State) (freeze : Bool) (offset : Int) : Kept s (State.adjust s freeze offset) := by
  unfold State.adjust
  lift_lets
  intro x0
  clear_value x0
  intro x1
  have h2 : Kept s x1 := by
    unfold x1
    refine Kept.trans ?_ (State.timStep_kept ..)
    exact Kept.refl _
  clear_value x1
  intro x3
  clear_value x3
  refine Kept.ite (fun z4 => ?_) (fun z4 => ?_)
  · exact Kept.refl _
  · refine Kept.ite (fun z5 => ?_) (fun z5 => ?_)
    · refine Kept.trans ?_ (Kept.record ..)
      exact h2
    · refine Kept.ite (fun z6 => ?_) (fun z6 => ?_)
      · refine Kept.trans ?_ (Kept.record ..)
        exact Kept.refl _
      · refine Kept.trans ?_ (Kept.record ..)
        exact Kept.refl _

theorem State.timeFrame_kept (s : State) (n : Nat) (f : Octet) : Kept s (State.timeFrame s n f) := by
  unfold State.timeFrame
  lift_lets
  intro x0
  clear_value x0
  intro x1
  clear_value x1
  intro x2
  have h3 : Kept s x2 := by
    unfold x2
    refine Kept.trans ?_ (State.elect_kept ..)
    refine Kept.trans ?_ (State.setPort_kept ..)
    exact Kept.refl _
  clear_value x2
  intro x7
  clear_value x7
  intro x8
  clear_value x8
  intro x9
  clear_value x9
  intro x10
  clear_value x10
  intro x11
  clear_value x11
  intro x12
  have h13 : Kept s x12 := by
    unfold x12
    refine Kept.trans ?_ (State.set_kept ..)
    exact h3
  clear_value x12
  refine Kept.ite (fun z16 => ?_) (fun z16 => ?_)
  · refine Kept.trans ?_ (State.adjust_kept ..)
    exact h13
  · exact h3

theorem State.sendTime_kept (s : State) (n : Nat) : Kept s (State.sendTime s n) := by
  unfold State.sendTime
  lift_lets
  intro x0
  clear_value x0
  intro x1
  clear_value x1
  intro x2
  clear_value x2
  intro x3
  clear_value x3
  intro x4
  clear_value x4
  refine Kept.trans ?_ (State.sendControl_kept ..)
  exact Kept.refl _

theorem State.sendTide_kept (s : State) (n : Nat) : Kept s (State.sendTide s n) := by
  unfold State.sendTide
  refine Kept.trans ?_ (State.sendControl_kept ..)
  exact Kept.refl _

theorem State.reinject_kept (s : State) (n : Nat) (f : RFrame) : Kept s (State.reinject s n f) := by
  unfold State.reinject
  lift_lets
  intro x0
  clear_value x0
  intro x1
  clear_value x1
  intro x2
  clear_value x2
  refine Kept.ite (fun z3 => ?_) (fun z3 => ?_)
  · refine Kept.trans ?_ (State.count_kept ..)
    refine Kept.trans ?_ (State.hold_kept ..)
    exact Kept.refl _
  · refine Kept.ite (fun z8 => ?_) (fun z8 => ?_)
    · refine Kept.trans ?_ (State.count_kept ..)
      refine Kept.trans ?_ (State.hold_kept ..)
      exact Kept.refl _
    · refine Kept.trans ?_ (State.count_kept ..)
      exact Kept.refl _

theorem State.requeue_kept (s : State) (n : Nat) (i : TxItem) : Kept s (State.requeue s n i) := by
  unfold State.requeue
  lift_lets
  intro x0
  clear_value x0
  refine Kept.trans ?_ (State.hold_kept ..)
  exact Kept.refl _

theorem State.linkDown_kept (s : State) (n : Nat) : Kept s (State.linkDown s n) := by
  unfold State.linkDown
  lift_lets
  intro x0
  clear_value x0
  intro x1
  have h2 : Kept s x1 := by
    unfold x1
    refine Kept.trans ?_ (State.count_kept ..)
    refine Kept.trans ?_ (State.wr_kept ..)
    exact Kept.refl _
  clear_value x1
  intro x3
  have h4 : Kept s x3 := by
    unfold x3
    refine Kept.trans ?_ (State.condRise_kept ..)
    exact h2
  clear_value x3
  intro x5
  have h6 : Kept s x5 := by
    unfold x5
    refine Kept.trans ?_ (State.setPort_kept ..)
    exact h4
  clear_value x5
  intro x7
  have h8 : Kept s x7 := by
    unfold x7
    refine Kept.trans ?_ (Kept.foldl (fun t9 x10 => ?_) _ _)
    · exact h6
    · refine Kept.trans ?_ (State.wr_kept ..)
      exact Kept.refl _
  clear_value x7
  intro x11
  have h12 : Kept s x11 := by
    unfold x11
    refine Kept.trans ?_ (State.setPstate_kept ..)
    refine Kept.trans ?_ (State.setLstate_kept ..)
    exact h8
  clear_value x11
  intro x13
  have h14 : Kept s x13 := by
    unfold x13
    refine Kept.trans ?_ (Kept.foldl (fun t15 x16 => ?_) _ _)
    · exact h12
    · refine Kept.trans ?_ (State.reinject_kept ..)
      exact Kept.refl _
  clear_value x13
  intro x17
  clear_value x17
  intro x18
  clear_value x18
  intro x19
  have h20 : Kept s x19 := by
    unfold x19
    refine Kept.trans ?_ (Kept.record ..)
    exact h14
  clear_value x19
  intro x21
  have h22 : Kept s x21 := by
    unfold x21
    refine Kept.trans ?_ (Kept.foldl (fun t23 x24 => ?_) _ _)
    · exact h20
    · refine Kept.trans ?_ (State.requeue_kept ..)
      exact Kept.refl _
  clear_value x21
  refine Kept.trans ?_ (State.failoverEnd_kept ..)
  refine Kept.trans ?_ (State.rbSync_kept ..)
  exact h22

theorem State.ctlFlush_kept (s : State) (n : Nat) : Kept s (State.ctlFlush s n) := by
  unfold State.ctlFlush
  lift_lets
  intro x0
  clear_value x0
  intro x1
  have h2 : Kept s x1 := by
    unfold x1
    refine Kept.trans ?_ (State.setPort_kept ..)
    exact Kept.refl _
  clear_value x1
  intro x3
  have h4 : Kept s x3 := by
    unfold x3
    refine Kept.ite (fun z5 => ?_) (fun z5 => ?_)
    · refine Kept.trans ?_ (State.sendLane_kept ..)
      exact h2
    · exact h2
  clear_value x3
  intro x6
  clear_value x6
  intro x7
  have h8 : Kept s x7 := by
    unfold x7
    refine Kept.ite (fun z9 => ?_) (fun z9 => ?_)
    · refine Kept.trans ?_ (State.sendCredit_kept ..)
      exact h4
    · exact h4
  clear_value x7
  intro x10
  have h11 : Kept s x10 := by
    unfold x10
    refine Kept.ite (fun z12 => ?_) (fun z12 => ?_)
    · refine Kept.trans ?_ (State.sendTime_kept ..)
      exact h8
    · exact h8
  clear_value x10
  intro x13
  have h14 : Kept s x13 := by
    unfold x13
    refine Kept.ite (fun z15 => ?_) (fun z15 => ?_)
    · refine Kept.trans ?_ (State.sendTide_kept ..)
      exact h11
    · exact h11
  clear_value x13
  refine Kept.ite (fun z16 => ?_) (fun z16 => ?_)
  · refine Kept.trans ?_ (State.sendCredit_kept ..)
    exact h14
  · exact h14

theorem State.ctlSync_kept (s : State) : Kept s (State.ctlSync s) := by
  unfold State.ctlSync
  refine Kept.trans ?_ (Kept.foldl (fun t0 x1 => ?_) _ _)
  · exact Kept.refl _
  · lift_lets
    intro x2
    have h3 : Kept t0 x2 := by
      unfold x2
      refine Kept.ite (fun z4 => ?_) (fun z4 => ?_)
      · refine Kept.trans ?_ (State.ctlDue_kept ..)
        exact Kept.refl _
      · exact Kept.refl _
    clear_value x2
    refine Kept.ite (fun z5 => ?_) (fun z5 => ?_)
    · exact h3
    · refine Kept.trans ?_ (State.ctlFlush_kept ..)
      exact h3

theorem State.startRetrain_kept (s : State) (n : Nat) (initiator : Bool) : Kept s (State.startRetrain s n initiator) := by
  unfold State.startRetrain
  lift_lets
  intro x0
  have h1 : Kept s x0 := by
    unfold x0
    refine Kept.trans ?_ (State.setPort_kept ..)
    exact Kept.refl _
  clear_value x0
  intro x2
  have h3 : Kept s x2 := by
    unfold x2
    refine Kept.trans ?_ (State.ctlFlush_kept ..)
    refine Kept.trans ?_ (State.ctlDue_kept ..)
    exact h1
  clear_value x2
  intro x4
  have h5 : Kept s x4 := by
    unfold x4
    refine Kept.trans ?_ (State.setPort_kept ..)
    exact h3
  clear_value x4
  intro x6
  have h7 : Kept s x6 := by
    unfold x6
    refine Kept.trans ?_ (State.setPstate_kept ..)
    refine Kept.trans ?_ (State.setLstate_kept ..)
    exact h5
  clear_value x6
  refine Kept.ite (fun z8 => ?_) (fun z8 => ?_)
  · exact Kept.refl _
  · refine Kept.trans ?_ (State.raise_kept ..)
    refine Kept.trans ?_ (State.count_kept ..)
    exact h7

theorem State.replayCheck_kept (s : State) (n : Nat) (f : RFrame) : Kept s (State.replayCheck s n f) := by
  unfold State.replayCheck
  refine Kept.ite (fun z0 => ?_) (fun z0 => ?_)
  · refine Kept.trans ?_ (State.raise_kept ..)
    exact Kept.refl _
  · refine Kept.ite (fun z1 => ?_) (fun z1 => ?_)
    · refine Kept.trans ?_ (State.raise_kept ..)
      exact Kept.refl _
    · exact Kept.refl _

theorem State.replayNow_kept (s : State) (n : Nat) : Kept s (State.replayNow s n) := by
  unfold State.replayNow
  lift_lets
  intro x0
  have h1 : Kept s x0 := by
    unfold x0
    refine Kept.trans ?_ (State.setPort_kept ..)
    exact Kept.refl _
  clear_value x0
  intro x2
  have h3 : Kept s x2 := by
    unfold x2
    refine Kept.trans ?_ (State.raise_kept ..)
    refine Kept.trans ?_ (State.tally_kept ..)
    refine Kept.trans ?_ (State.count_kept ..)
    exact h1
  clear_value x2
  intro x4
  have h5 : Kept s x4 := by
    unfold x4
    refine Kept.trans ?_ (Kept.foldl (fun t6 x7 => ?_) _ _)
    · exact h3
    · refine Kept.trans ?_ (State.sendFrame_kept ..)
      refine Kept.trans ?_ (State.replayCheck_kept ..)
      exact Kept.refl _
  clear_value x4
  intro x8
  have h9 : Kept s x8 := by
    unfold x8
    refine Kept.trans ?_ (State.setPort_kept ..)
    exact h5
  clear_value x8
  refine Kept.ite (fun z10 => ?_) (fun z10 => ?_)
  · exact Kept.refl _
  · refine Kept.trans ?_ (State.setPort_kept ..)
    exact h9

theorem State.replayDue_kept (s : State) (n : Nat) : Kept s (State.replayDue s n) := by
  unfold State.replayDue
  lift_lets
  intro x0
  clear_value x0
  intro x1
  clear_value x1
  intro x2
  have h3 : Kept s x2 := by
    unfold x2
    refine Kept.ite (fun z4 => ?_) (fun z4 => ?_)
    · refine Kept.trans ?_ (State.setPort_kept ..)
      exact Kept.refl _
    · exact Kept.refl _
  clear_value x2
  refine Kept.ite (fun z9 => ?_) (fun z9 => ?_)
  · exact Kept.refl _
  · refine Kept.ite (fun z12 => ?_) (fun z12 => ?_)
    · refine Kept.trans ?_ (State.linkDown_kept ..)
      exact h3
    · refine Kept.ite (fun z16 => ?_) (fun z16 => ?_)
      · refine Kept.trans ?_ (State.startRetrain_kept ..)
        exact h3
      · refine Kept.trans ?_ (State.replayNow_kept ..)
        exact h3

theorem State.applyAck_kept (s : State) (n a : Nat) (nak : Bool) : Kept s (State.applyAck s n a nak) := by
  unfold State.applyAck
  lift_lets
  intro x0
  clear_value x0
  intro x1
  clear_value x1
  intro x2
  clear_value x2
  intro x3
  have h4 : Kept s x3 := by
    unfold x3
    refine Kept.trans ?_ (State.setPort_kept ..)
    exact Kept.refl _
  clear_value x3
  intro x5
  have h6 : Kept s x5 := by
    unfold x5
    refine Kept.ite (fun z7 => ?_) (fun z7 => ?_)
    · exact Kept.refl _
    · refine Kept.trans ?_ (State.rbSync_kept ..)
      refine Kept.trans ?_ (State.wr_kept ..)
      exact h4
  clear_value x5
  refine Kept.ite (fun z8 => ?_) (fun z8 => ?_)
  · refine Kept.trans ?_ (State.raise_kept ..)
    refine Kept.trans ?_ (State.count_kept ..)
    exact Kept.refl _
  · refine Kept.ite (fun z9 => ?_) (fun z9 => ?_)
    · refine Kept.trans ?_ (State.replayDue_kept ..)
      exact h6
    · exact h6

theorem State.applyCredit_kept (s : State) (n : Nat) (j : Nat) (c : Nat) : Kept s (State.applyCredit s n j c) := by
  unfold State.applyCredit
  refine Kept.ite (fun z0 => ?_) (fun z0 => ?_)
  · exact Kept.refl _
  · lift_lets
    intro x3
    clear_value x3
    refine Kept.ite (fun z4 => ?_) (fun z4 => ?_)
    · refine Kept.trans ?_ (State.wr_kept ..)
      exact Kept.refl _
    · exact Kept.refl _

theorem State.recvUnits_kept (s : State) (n : Nat) (j : Nat) (u : Nat) : Kept s (State.recvUnits s n j u) := by
  unfold State.recvUnits
  refine Kept.trans ?_ (State.setPort_kept ..)
  exact Kept.refl _

theorem State.grantBack_kept (s : State) (n : Nat) (j : Nat) (u : Nat) : Kept s (State.grantBack s n j u) := by
  unfold State.grantBack
  refine Kept.trans ?_ (State.setPort_kept ..)
  exact Kept.refl _

theorem State.takeIn_kept (s : State) (h : Held) (n : Nat) : Kept s (State.takeIn s h n) := by
  unfold State.takeIn
  lift_lets
  intro x0
  have h1 : Kept s x0 := by
    unfold x0
    refine Kept.trans ?_ (State.tally_kept ..)
    refine Kept.trans ?_ (State.activity_kept ..)
    exact Kept.refl _
  clear_value x0
  intro x5
  have h6 : Kept s x5 := by
    unfold x5
    refine Kept.trans ?_ (State.hold_kept ..)
    exact h1
  clear_value x5
  intro x9
  clear_value x9
  intro x10
  clear_value x10
  refine Kept.ite (fun z11 => ?_) (fun z11 => ?_)
  · refine Kept.trans ?_ (State.dropHeld_kept ..)
    exact h6
  · refine Kept.ite (fun z15 => ?_) (fun z15 => ?_)
    · refine Kept.trans ?_ (State.dropHeld_kept ..)
      exact h6
    · split
      · rename_i z20 z21 z22
        refine Kept.trans ?_ (State.arrive_kept ..)
        refine Kept.eqn z22 ?_
        refine Kept.trans ?_ (State.routeOf_kept ..)
        exact h6
      · rename_i z27 z28 z29
        refine Kept.trans ?_ (State.dropHeld_kept ..)
        refine Kept.eqn z29 ?_
        refine Kept.trans ?_ (State.routeOf_kept ..)
        exact h6
      · rename_i z34 z35 z36 z37
        refine Kept.ite (fun z38 => ?_) (fun z38 => ?_)
        · refine Kept.eqn z37 ?_
          refine Kept.trans ?_ (State.routeOf_kept ..)
          exact h6
        · refine Kept.trans ?_ (State.dropHeld_kept ..)
          refine Kept.eqn z37 ?_
          refine Kept.trans ?_ (State.routeOf_kept ..)
          exact h6
      · rename_i z47 z48 z49 z50 z51 z52 z53
        refine Kept.eqn z53 ?_
        refine Kept.trans ?_ (State.routeOf_kept ..)
        exact h6

theorem State.cutThrough_kept (s : State) (n : Nat) (bs : List Byte) (cut : Bool) : Kept s (State.cutThrough s n bs cut) := by
  unfold State.cutThrough
  lift_lets
  intro x0
  clear_value x0
  intro x1
  clear_value x1
  intro x2
  clear_value x2
  intro x3
  have h4 : ∀ y1 y2 y3 y4 y5, Kept y1 (x3 y1 y2 y3 y4 y5) := by
    intro y5 y6 y7 y8 y9
    unfold x3
    split
    · rename_i z10 z11 z12
      refine Kept.ite (fun z13 => ?_) (fun z13 => ?_)
      · exact Kept.refl _
      · refine Kept.trans ?_ (State.depart_kept ..)
        refine Kept.trans ?_ (State.activity_kept ..)
        refine Kept.trans ?_ (State.tiesPast_kept ..)
        exact Kept.refl _
    · rename_i z14 z15
      exact Kept.refl _
  clear_value x3
  refine Kept.ite (fun z16 => ?_) (fun z16 => ?_)
  · exact Kept.refl _
  · split
    · rename_i z17 z18 z19 z20
      refine Kept.ite (fun z21 => ?_) (fun z21 => ?_)
      · refine Kept.trans ?_ (h4 ..)
        refine Kept.eqn z20 ?_
        refine Kept.trans ?_ (State.routeOf_kept ..)
        exact Kept.refl _
      · refine Kept.eqn z20 ?_
        refine Kept.trans ?_ (State.routeOf_kept ..)
        exact Kept.refl _
    · rename_i z22 z23 z24 z25 z26
      refine Kept.trans ?_ (h4 ..)
      refine Kept.eqn z26 ?_
      refine Kept.trans ?_ (State.routeOf_kept ..)
      exact Kept.refl _
    · rename_i z27 z28 z29
      exact Kept.refl _

theorem State.acceptFrame_kept (s : State) (n : Nat) (bs : List Byte) (stomped : Bool) : Kept s (State.acceptFrame s n bs stomped) := by
  unfold State.acceptFrame
  lift_lets
  intro x0
  have h1 : Kept s x0 := by
    unfold x0
    refine Kept.trans ?_ (State.wr_kept ..)
    exact Kept.refl _
  clear_value x0
  intro x2
  have h3 : Kept s x2 := by
    unfold x2
    refine Kept.trans ?_ (State.setPort_kept ..)
    exact h1
  clear_value x2
  intro x4
  have h5 : Kept s x4 := by
    unfold x4
    refine Kept.trans ?_ (State.bwGot_kept ..)
    exact h3
  clear_value x4
  intro x6
  clear_value x6
  intro x7
  clear_value x7
  intro x8
  clear_value x8
  intro x9
  clear_value x9
  intro x10
  clear_value x10
  intro x11
  clear_value x11
  intro x12
  clear_value x12
  intro x13
  have h14 : Kept s x13 := by
    unfold x13
    refine Kept.trans ?_ (State.recvUnits_kept ..)
    exact h5
  clear_value x13
  refine Kept.ite (fun z15 => ?_) (fun z15 => ?_)
  · refine Kept.trans ?_ (State.raise_kept ..)
    refine Kept.trans ?_ (State.count_kept ..)
    exact h5
  · refine Kept.ite (fun z16 => ?_) (fun z16 => ?_)
    · refine Kept.trans ?_ (State.grantBack_kept ..)
      exact h14
    · refine Kept.ite (fun z17 => ?_) (fun z17 => ?_)
      · refine Kept.trans ?_ (State.raise_kept ..)
        refine Kept.trans ?_ (State.grantBack_kept ..)
        exact h14
      · refine Kept.trans ?_ (State.takeIn_kept ..)
        exact h14

theorem State.gap_kept (s : State) (n : Nat) : Kept s (State.gap s n) := by
  unfold State.gap
  refine Kept.ite (fun z0 => ?_) (fun z0 => ?_)
  · exact Kept.refl _
  · refine Kept.trans ?_ (State.sendNak_kept ..)
    exact Kept.refl _

theorem State.announceMap_kept (s : State) (n map width : Nat) (swap : Bool) : Kept s (State.announceMap s n map width swap) := by
  unfold State.announceMap
  lift_lets
  intro x0
  clear_value x0
  refine Kept.ite (fun z1 => ?_) (fun z1 => ?_)
  · exact Kept.refl _
  · refine Kept.trans ?_ (State.setPort_kept ..)
    exact Kept.refl _

theorem State.announceWidth_kept (s : State) (n w : Nat) : Kept s (State.announceWidth s n w) := by
  unfold State.announceWidth
  lift_lets
  intro x0
  clear_value x0
  refine Kept.ite (fun z1 => ?_) (fun z1 => ?_)
  · refine Kept.trans ?_ (State.setPort_kept ..)
    exact Kept.refl _
  · refine Kept.ite (fun z2 => ?_) (fun z2 => ?_)
    · exact Kept.refl _
    · refine Kept.trans ?_ (State.announceMap_kept ..)
      exact Kept.refl _

theorem State.requestWidth_kept (s : State) (n w : Nat) : Kept s (State.requestWidth s n w) := by
  unfold State.requestWidth
  refine Kept.ite (fun z0 => ?_) (fun z0 => ?_)
  · exact Kept.refl _
  · refine Kept.trans ?_ (State.setPort_kept ..)
    exact Kept.refl _

theorem State.widthCheck_kept (s : State) (n : Nat) : Kept s (State.widthCheck s n) := by
  unfold State.widthCheck
  lift_lets
  intro x0
  clear_value x0
  intro x1
  clear_value x1
  refine Kept.ite (fun z2 => ?_) (fun z2 => ?_)
  · refine Kept.ite (fun z3 => ?_) (fun z3 => ?_)
    · refine Kept.trans ?_ (State.linkDown_kept ..)
      exact Kept.refl _
    · refine Kept.ite (fun z4 => ?_) (fun z4 => ?_)
      · refine Kept.trans ?_ (State.requestWidth_kept ..)
        exact Kept.refl _
      · exact Kept.refl _
  · refine Kept.ite (fun z5 => ?_) (fun z5 => ?_)
    · refine Kept.trans ?_ (State.requestWidth_kept ..)
      exact Kept.refl _
    · exact Kept.refl _

theorem State.applyMap_kept (s : State) (n : Nat) : Kept s (State.applyMap s n) := by
  unfold State.applyMap
  split
  · rename_i z0 z1
    exact Kept.refl _
  · rename_i z2 z3 z4
    lift_lets
    intro x5
    clear_value x5
    intro x6
    clear_value x6
    intro x7
    have h8 : Kept s x7 := by
      unfold x7
      refine Kept.trans ?_ (State.wr_kept ..)
      refine Kept.trans ?_ (State.wr_kept ..)
      refine Kept.trans ?_ (State.wr_kept ..)
      exact Kept.refl _
    clear_value x7
    intro x9
    have h10 : Kept s x9 := by
      unfold x9
      refine Kept.trans ?_ (Kept.foldl (fun t11 x12 => ?_) _ _)
      · exact h8
      · refine Kept.trans ?_ (State.wr_kept ..)
        exact Kept.refl _
    clear_value x9
    intro x13
    have h14 : Kept s x13 := by
      unfold x13
      refine Kept.trans ?_ (State.audAppend_kept ..)
      exact h10
    clear_value x13
    intro x15
    have h16 : Kept s x15 := by
      unfold x15
      refine Kept.ite (fun z17 => ?_) (fun z17 => ?_)
      · refine Kept.trans ?_ (State.raise_kept ..)
        exact h14
      · exact h14
    clear_value x15
    refine Kept.ite (fun z18 => ?_) (fun z18 => ?_)
    · exact Kept.refl _
    · refine Kept.trans ?_ (State.setPort_kept ..)
      exact h16

theorem State.mirrorStart_kept (s : State) (n : Nat) : Kept s (State.mirrorStart s n) := by
  unfold State.mirrorStart
  split
  · rename_i z0 z1 z2
    lift_lets
    intro x3
    clear_value x3
    refine Kept.ite (fun z4 => ?_) (fun z4 => ?_)
    · refine Kept.trans ?_ (Kept.foldl (fun t5 x6 => ?_) _ _)
      · exact Kept.refl _
      · refine Kept.ite (fun z7 => ?_) (fun z7 => ?_)
        · refine Kept.trans ?_ (State.wr_kept ..)
          exact Kept.refl _
        · exact Kept.refl _
    · exact Kept.refl _
  · rename_i z8 z9
    exact Kept.refl _

theorem State.spareSwap_kept (s : State) (n : Nat) : Kept s (State.spareSwap s n) := by
  unfold State.spareSwap
  lift_lets
  intro x0
  clear_value x0
  intro x1
  clear_value x1
  intro x2
  clear_value x2
  intro x3
  clear_value x3
  refine Kept.ite (fun z4 => ?_) (fun z4 => ?_)
  · exact Kept.refl _
  · split
    · rename_i z5 z6 z7 z8
      lift_lets
      intro x9
      clear_value x9
      refine Kept.trans ?_ (State.announceMap_kept ..)
      exact Kept.refl _
    · rename_i z10 z11 z12
      exact Kept.refl _

theorem State.needAgain_kept (s : State) (n : Nat) : Kept s (State.needAgain s n) := by
  unfold State.needAgain
  lift_lets
  intro x0
  clear_value x0
  intro x1
  have h2 : Kept s x1 := by
    unfold x1
    refine Kept.trans ?_ (State.setPort_kept ..)
    exact Kept.refl _
  clear_value x1
  intro x3
  have h4 : Kept s x3 := by
    unfold x3
    refine Kept.trans ?_ (State.setPort_kept ..)
    exact Kept.refl _
  clear_value x3
  intro x5
  clear_value x5
  refine Kept.ite (fun z6 => ?_) (fun z6 => ?_)
  · exact Kept.refl _
  · refine Kept.ite (fun z7 => ?_) (fun z7 => ?_)
    · refine Kept.ite (fun z8 => ?_) (fun z8 => ?_)
      · refine Kept.trans ?_ (State.startRetrain_kept ..)
        exact h2
      · exact h2
    · split
      · rename_i z9 z10
        exact Kept.refl _
      · rename_i z11 z12 z13
        refine Kept.ite (fun z14 => ?_) (fun z14 => ?_)
        · refine Kept.trans ?_ (State.requestWidth_kept ..)
          exact h4
        · exact h4

theorem State.clearPend_kept (s : State) (n : Nat) : Kept s (State.clearPend s n) := by
  unfold State.clearPend
  split
  · rename_i z0 z1
    exact Kept.refl _
  · rename_i z2 z3 z4
    lift_lets
    intro x5
    clear_value x5
    intro x6
    have h7 : Kept s x6 := by
      unfold x6
      refine Kept.trans ?_ (State.setPort_kept ..)
      exact Kept.refl _
    clear_value x6
    intro x8
    have h9 : Kept s x8 := by
      unfold x8
      refine Kept.trans ?_ (Kept.foldl (fun t10 x11 => ?_) _ _)
      · exact h7
      · refine Kept.trans ?_ (State.wr_kept ..)
        exact Kept.refl _
    clear_value x8
    intro x12
    have h13 : Kept s x12 := by
      unfold x12
      refine Kept.ite (fun z14 => ?_) (fun z14 => ?_)
      · refine Kept.trans ?_ (State.raise_kept ..)
        exact h9
      · exact h9
    clear_value x12
    split
    · rename_i z15 z16
      refine Kept.trans ?_ (State.announceWidth_kept ..)
      exact h13
    · rename_i z17
      refine Kept.trans ?_ (State.needAgain_kept ..)
      exact h13

theorem State.retrainOff_kept (s : State) (n : Nat) : Kept s (State.retrainOff s n) := by
  unfold State.retrainOff
  lift_lets
  intro x0
  have h1 : Kept s x0 := by
    unfold x0
    refine Kept.trans ?_ (State.setPort_kept ..)
    exact Kept.refl _
  clear_value x0
  refine Kept.trans ?_ (State.setLstate_kept ..)
  refine Kept.trans ?_ (State.setPstate_kept ..)
  exact h1

theorem State.peerRequest_kept (s : State) (n : Nat) (w5 : Word) : Kept s (State.peerRequest s n w5) := by
  unfold State.peerRequest
  lift_lets
  intro x0
  clear_value x0
  intro x1
  clear_value x1
  intro x2
  clear_value x2
  intro x3
  clear_value x3
  intro x4
  have h5 : Kept s x4 := by
    unfold x4
    refine Kept.ite (fun z6 => ?_) (fun z6 => ?_)
    · refine Kept.trans ?_ (State.setPort_kept ..)
      exact Kept.refl _
    · refine Kept.ite (fun z7 => ?_) (fun z7 => ?_)
      · refine Kept.trans ?_ (State.announceWidth_kept ..)
        refine Kept.trans ?_ (State.setPort_kept ..)
        exact Kept.refl _
      · exact Kept.refl _
  clear_value x4
  intro x8
  clear_value x8
  intro x9
  have h10 : Kept s x9 := by
    unfold x9
    refine Kept.trans ?_ (State.setPort_kept ..)
    exact h5
  clear_value x9
  intro x11
  have h12 : Kept s x11 := by
    unfold x11
    refine Kept.ite (fun z13 => ?_) (fun z13 => ?_)
    · refine Kept.trans ?_ (State.retrainOff_kept ..)
      exact h10
    · exact h10
  clear_value x11
  refine Kept.ite (fun z14 => ?_) (fun z14 => ?_)
  · exact h5
  · refine Kept.ite (fun z15 => ?_) (fun z15 => ?_)
    · exact h5
    · refine Kept.ite (fun z16 => ?_) (fun z16 => ?_)
      · refine Kept.trans ?_ (State.startRetrain_kept ..)
        refine Kept.trans ?_ (State.setPort_kept ..)
        exact h10
      · refine Kept.ite (fun z17 => ?_) (fun z17 => ?_)
        · refine Kept.trans ?_ (State.announceWidth_kept ..)
          exact h12
        · exact h12

theorem State.peerWordsIn_kept (s : State) (n : Nat) (w : LaneWords) : Kept s (State.peerWordsIn s n w) := by
  unfold State.peerWordsIn
  lift_lets
  intro x0
  have h1 : Kept s x0 := by
    unfold x0
    refine Kept.trans ?_ (State.setPort_kept ..)
    exact Kept.refl _
  clear_value x0
  intro x2
  have h3 : Kept s x2 := by
    unfold x2
    refine Kept.trans ?_ (Kept.foldl (fun t4 x5 => ?_) _ _)
    · exact h1
    · refine Kept.trans ?_ (State.wr_kept ..)
      exact Kept.refl _
  clear_value x2
  intro x6
  clear_value x6
  intro x7
  have h8 : Kept s x7 := by
    unfold x7
    refine Kept.ite (fun z9 => ?_) (fun z9 => ?_)
    · refine Kept.trans ?_ (State.wr_kept ..)
      exact h3
    · exact h3
  clear_value x7
  refine Kept.trans ?_ (State.needAgain_kept ..)
  refine Kept.trans ?_ (State.widthCheck_kept ..)
  refine Kept.trans ?_ (State.peerRequest_kept ..)
  exact h8

theorem State.identitySync_kept (s : State) (n : Nat) : Kept s (State.identitySync s n) := by
  unfold State.identitySync
  lift_lets
  intro x0
  have h1 : Kept s x0 := by
    unfold x0
    refine Kept.trans ?_ (Kept.foldl (fun t2 x3 => ?_) _ _)
    · exact Kept.refl _
    · refine Kept.trans ?_ (State.wr_kept ..)
      exact Kept.refl _
  clear_value x0
  intro x8
  clear_value x8
  intro x9
  have h10 : Kept s x9 := by
    unfold x9
    refine Kept.ite (fun z11 => ?_) (fun z11 => ?_)
    · refine Kept.trans ?_ (State.condRise_kept ..)
      exact h1
    · refine Kept.trans ?_ (State.condClear_kept ..)
      exact h1
  clear_value x9
  intro x17
  have h18 : Kept s x17 := by
    unfold x17
    refine Kept.ite (fun z19 => ?_) (fun z19 => ?_)
    · refine Kept.trans ?_ (State.condRise_kept ..)
      exact h10
    · refine Kept.trans ?_ (State.condClear_kept ..)
      exact h10
  clear_value x17
  intro x25
  have h26 : Kept s x25 := by
    unfold x25
    refine Kept.trans ?_ (State.setPort_kept ..)
    exact h18
  clear_value x25
  refine Kept.trans ?_ (State.wr_kept ..)
  exact h26

theorem State.patternOut_kept (s : State) (n d : Nat) : Kept s (State.patternOut s n d) := by
  unfold State.patternOut
  refine Kept.ite (fun z0 => ?_) (fun z0 => ?_)
  · refine Kept.trans ?_ (Kept.foldl (fun t1 x2 => ?_) _ _)
    · exact Kept.refl _
    · refine Kept.trans ?_ (State.emit_kept ..)
      exact Kept.refl _
  · exact Kept.refl _

theorem State.bringUp_kept (s : State) (n : Nat) : Kept s (State.bringUp s n) := by
  unfold State.bringUp
  lift_lets
  intro x0
  have h1 : Kept s x0 := by
    unfold x0
    refine Kept.trans ?_ (State.setPort_kept ..)
    exact Kept.refl _
  clear_value x0
  intro x2
  have h3 : Kept s x2 := by
    unfold x2
    refine Kept.trans ?_ (Kept.foldl (fun t4 x5 => ?_) _ _)
    · exact h1
    · refine Kept.trans ?_ (State.wr_kept ..)
      refine Kept.trans ?_ (State.wr_kept ..)
      refine Kept.trans ?_ (State.wr_kept ..)
      exact Kept.refl _
  clear_value x2
  intro x6
  have h7 : Kept s x6 := by
    unfold x6
    refine Kept.trans ?_ (State.setPstate_kept ..)
    exact h3
  clear_value x6
  refine Kept.ite (fun z8 => ?_) (fun z8 => ?_)
  · exact Kept.refl _
  · refine Kept.ite (fun z9 => ?_) (fun z9 => ?_)
    · refine Kept.trans ?_ (State.setPstate_kept ..)
      refine Kept.trans ?_ (State.setPort_kept ..)
      exact Kept.refl _
    · refine Kept.ite (fun z10 => ?_) (fun z10 => ?_)
      · refine Kept.trans ?_ (State.setPstate_kept ..)
        refine Kept.trans ?_ (State.setPort_kept ..)
        exact Kept.refl _
      · refine Kept.ite (fun z11 => ?_) (fun z11 => ?_)
        · exact h7
        · refine Kept.trans ?_ (State.setLstate_kept ..)
          exact h7

theorem State.aligned_kept (s : State) (n : Nat) : Kept s (State.aligned s n) := by
  unfold State.aligned
  lift_lets
  intro x0
  have h1 : Kept s x0 := by
    unfold x0
    refine Kept.trans ?_ (State.setPstate_kept ..)
    exact Kept.refl _
  clear_value x0
  intro x2
  have h3 : Kept s x2 := by
    unfold x2
    refine Kept.trans ?_ (State.wr_kept ..)
    exact h1
  clear_value x2
  intro x4
  have h5 : Kept s x4 := by
    unfold x4
    refine Kept.trans ?_ (State.wr_kept ..)
    exact h3
  clear_value x4
  intro x6
  have h7 : Kept s x6 := by
    unfold x6
    refine Kept.trans ?_ (State.wr_kept ..)
    refine Kept.trans ?_ (Kept.foldl (fun t8 x9 => ?_) _ _)
    · exact h5
    · refine Kept.trans ?_ (State.set_kept ..)
      exact Kept.refl _
  clear_value x6
  intro x10
  have h11 : Kept s x10 := by
    unfold x10
    refine Kept.trans ?_ (State.setPort_kept ..)
    exact h7
  clear_value x10
  refine Kept.trans ?_ (State.ctlDue_kept ..)
  exact h11

theorem State.handleControl_kept (s : State) (n : Nat) (f : Octet) : Kept s (State.handleControl s n f) := by
  unfold State.handleControl
  split
  · rename_i z1 z2
    lift_lets
    intro x3
    have h4 : Kept s x3 := by
      unfold x3
      refine Kept.trans ?_ (Kept.foldl (fun t5 x6 => ?_) _ _)
      · exact Kept.refl _
      · refine Kept.trans ?_ (State.applyCredit_kept ..)
        exact Kept.refl _
    clear_value x3
    refine Kept.trans ?_ (State.setPort_kept ..)
    exact h4
  · rename_i z13 z14
    refine Kept.trans ?_ (State.setPort_kept ..)
    exact Kept.refl _
  · rename_i z17 z18
    refine Kept.trans ?_ (State.timeFrame_kept ..)
    exact Kept.refl _
  · rename_i z21 z22
    refine Kept.trans ?_ (State.peerWordsIn_kept ..)
    exact Kept.refl _
  · rename_i z25 z26 z27 z28 z29
    exact Kept.refl _

theorem State.badCrc_kept (s : State) (n : Nat) : Kept s (State.badCrc s n) := by
  unfold State.badCrc
  refine Kept.trans ?_ (State.gap_kept ..)
  refine Kept.trans ?_ (State.raise_kept ..)
  refine Kept.trans ?_ (State.count_kept ..)
  exact Kept.refl _

theorem State.dataIn_kept (s : State) (n : Nat) (bs : List Byte) (stomped cut : Bool) : Kept s (State.dataIn s n bs stomped cut) := by
  unfold State.dataIn
  lift_lets
  intro x0
  clear_value x0
  intro x1
  have h2 : Kept s x1 := by
    unfold x1
    refine Kept.trans ?_ (State.applyAck_kept ..)
    exact Kept.refl _
  clear_value x1
  intro x3
  have h4 : Kept s x3 := by
    unfold x3
    refine Kept.trans ?_ (State.applyCredit_kept ..)
    exact h2
  clear_value x3
  intro x5
  clear_value x5
  refine Kept.ite (fun z6 => ?_) (fun z6 => ?_)
  · refine Kept.ite (fun z7 => ?_) (fun z7 => ?_)
    · refine Kept.trans ?_ (State.acceptFrame_kept ..)
      refine Kept.trans ?_ (State.cutThrough_kept ..)
      exact h4
    · refine Kept.ite (fun z8 => ?_) (fun z8 => ?_)
      · refine Kept.trans ?_ (State.count_kept ..)
        exact h4
      · refine Kept.trans ?_ (State.gap_kept ..)
        exact h4
  · exact h4

theorem State.controlIn_kept (s : State) (n : Nat) (f : Octet) : Kept s (State.controlIn s n f) := by
  unfold State.controlIn
  lift_lets
  intro x0
  clear_value x0
  intro x1
  have h2 : Kept s x1 := by
    unfold x1
    refine Kept.trans ?_ (State.applyAck_kept ..)
    exact Kept.refl _
  clear_value x1
  intro x3
  clear_value x3
  intro x4
  have h5 : Kept s x4 := by
    unfold x4
    refine Kept.ite (fun z6 => ?_) (fun z6 => ?_)
    · refine Kept.trans ?_ (State.gap_kept ..)
      exact h2
    · exact h2
  clear_value x4
  refine Kept.ite (fun z7 => ?_) (fun z7 => ?_)
  · refine Kept.trans ?_ (State.handleControl_kept ..)
    exact h5
  · exact h5

theorem State.receiveFrame_kept (s : State) (n : Nat) (bs : List Byte) (err cut : Bool) : Kept s (State.receiveFrame s n bs err cut) := by
  unfold State.receiveFrame
  split
  · rename_i z0 z1
    refine Kept.trans ?_ (State.badCrc_kept ..)
    refine Kept.trans ?_ (State.cutThrough_kept ..)
    exact Kept.refl _
  · rename_i z2 z3
    lift_lets
    intro x4
    have h5 : Kept s x4 := by
      unfold x4
      refine Kept.ite (fun z6 => ?_) (fun z6 => ?_)
      · refine Kept.trans ?_ (State.count_kept ..)
        exact Kept.refl _
      · exact Kept.refl _
    clear_value x4
    intro x7
    clear_value x7
    refine Kept.ite (fun z8 => ?_) (fun z8 => ?_)
    · refine Kept.trans ?_ (State.dataIn_kept ..)
      exact h5
    · refine Kept.ite (fun z9 => ?_) (fun z9 => ?_)
      · refine Kept.trans ?_ (State.controlIn_kept ..)
        exact h5
      · refine Kept.ite (fun z10 => ?_) (fun z10 => ?_)
        · refine Kept.trans ?_ (State.raise_kept ..)
          exact h5
        · exact h5

theorem State.receiveControl_kept (s : State) (n : Nat) (f : Octet) : Kept s (State.receiveControl s n f) := by
  unfold State.receiveControl
  refine Kept.ite (fun z0 => ?_) (fun z0 => ?_)
  · refine Kept.trans ?_ (State.receiveFrame_kept ..)
    exact Kept.refl _
  · exact Kept.refl _

theorem State.setCx_kept (s : State) (n : Nat) (f : Conn → Conn) : Kept s (State.setCx s n f) := by
  unfold State.setCx
  refine Kept.trans ?_ (Kept.record ..)
  exact Kept.refl _

theorem State.setTx_kept (s : State) (n : Nat) (reply : Bool) (f : Tx → Tx) : Kept s (State.setTx s n reply f) := by
  unfold State.setTx
  lift_lets
  intro x0
  have h1 : Kept s x0 := by
    unfold x0
    refine Kept.trans ?_ (State.setCx_kept ..)
    exact Kept.refl _
  clear_value x0
  intro x4
  clear_value x4
  intro x5
  clear_value x5
  refine Kept.ite (fun z6 => ?_) (fun z6 => ?_)
  · refine Kept.trans ?_ (State.wr_kept ..)
    refine Kept.trans ?_ (State.wr_kept ..)
    exact h1
  · refine Kept.trans ?_ (State.wr_kept ..)
    refine Kept.trans ?_ (State.wr_kept ..)
    refine Kept.trans ?_ (State.wr_kept ..)
    refine Kept.trans ?_ (State.wr_kept ..)
    refine Kept.trans ?_ (State.wr_kept ..)
    refine Kept.trans ?_ (State.wr_kept ..)
    refine Kept.trans ?_ (State.wr_kept ..)
    refine Kept.trans ?_ (State.wr_kept ..)
    exact h1

theorem State.setRx_kept (s : State) (n : Nat) (reply : Bool) (f : Rx → Rx) : Kept s (State.setRx s n reply f) := by
  unfold State.setRx
  lift_lets
  intro x0
  have h1 : Kept s x0 := by
    unfold x0
    refine Kept.trans ?_ (State.setCx_kept ..)
    exact Kept.refl _
  clear_value x0
  refine Kept.ite (fun z4 => ?_) (fun z4 => ?_)
  · refine Kept.trans ?_ (State.wr_kept ..)
    exact h1
  · refine Kept.trans ?_ (State.wr_kept ..)
    refine Kept.trans ?_ (State.wr_kept ..)
    exact h1

theorem State.dueCheck_kept (s : State) (n : Nat) : Kept s (State.dueCheck s n) := by
  unfold State.dueCheck
  refine Kept.ite (fun z0 => ?_) (fun z0 => ?_)
  · refine Kept.trans ?_ (State.postEvent_kept ..)
    refine Kept.trans ?_ (State.setCx_kept ..)
    exact Kept.refl _
  · exact Kept.refl _

theorem State.ctlLeaves_kept (s : State) (n : Nat) (p : Packet) (sender : Option Nat) : Kept s (State.ctlLeaves s n p sender) := by
  unfold State.ctlLeaves
  lift_lets
  intro x0
  clear_value x0
  intro x1
  have h2 : Kept s x1 := by
    unfold x1
    refine Kept.trans ?_ (State.inject_kept ..)
    refine Kept.trans ?_ (State.drawn_kept ..)
    exact Kept.refl _
  clear_value x1
  refine Kept.ite (fun z3 => ?_) (fun z3 => ?_)
  · exact Kept.refl _
  · refine Kept.ite (fun z4 => ?_) (fun z4 => ?_)
    · refine Kept.trans ?_ (State.latentRaise_kept ..)
      exact Kept.refl _
    · refine Kept.trans ?_ (State.dueCheck_kept ..)
      refine Kept.trans ?_ (State.setCx_kept ..)
      exact h2

theorem State.sendCtl_kept (s : State) (n ptype opmod offset tag : Nat) : Kept s (State.sendCtl s n ptype opmod offset tag) := by
  unfold State.sendCtl
  lift_lets
  intro x0
  clear_value x0
  intro x1
  clear_value x1
  refine Kept.trans ?_ (State.ctlLeaves_kept ..)
  exact Kept.refl _

theorem State.sendAck_kept (s : State) (n : Nat) (reply : Bool) (rekey : Bool) (conf : Option Nat) : Kept s (State.sendAck s n reply rekey conf) := by
  unfold State.sendAck
  lift_lets
  intro x0
  clear_value x0
  intro x1
  clear_value x1
  intro x2
  have h3 : Kept s x2 := by
    unfold x2
    refine Kept.trans ?_ (State.sendCtl_kept ..)
    exact Kept.refl _
  clear_value x2
  refine Kept.trans ?_ (State.setRx_kept ..)
  exact h3

theorem State.sendNack_kept (s : State) (n : Nat) (reason : Nat) (seq : Nat) (reply : Bool) : Kept s (State.sendNack s n reason seq reply) := by
  unfold State.sendNack
  refine Kept.trans ?_ (State.sendCtl_kept ..)
  exact Kept.refl _

theorem State.rtxSync_kept (s : State) : Kept s (State.rtxSync s) := by
  unfold State.rtxSync
  refine Kept.trans ?_ (State.wr_kept ..)
  exact Kept.refl _

theorem State.transNote_kept (s : State) (n : Nat) (p : Packet) (q : Nat) : Kept s (State.transNote s n p q) := by
  unfold State.transNote
  refine Kept.trans ?_ (Kept.record ..)
  exact Kept.refl _

theorem State.txSend_kept (s : State) (n : Nat) (w : TxWait) : Kept s (State.txSend s n w) := by
  unfold State.txSend
  lift_lets
  intro x0
  clear_value x0
  intro x1
  clear_value x1
  intro x2
  clear_value x2
  intro x3
  clear_value x3
  intro x4
  clear_value x4
  intro x5
  have h6 : Kept s x5 := by
    unfold x5
    refine Kept.trans ?_ (State.setTx_kept ..)
    refine Kept.trans ?_ (State.drawn_kept ..)
    exact Kept.refl _
  clear_value x5
  intro x7
  have h8 : Kept s x7 := by
    unfold x7
    split
    · rename_i z9 z10 z11
      refine Kept.trans ?_ (State.setCx_kept ..)
      exact h6
    · rename_i z12 z13
      exact h6
  clear_value x7
  intro x14
  have h15 : Kept s x14 := by
    unfold x14
    refine Kept.ite (fun z16 => ?_) (fun z16 => ?_)
    · refine Kept.trans ?_ (State.transNote_kept ..)
      exact h8
    · exact h8
  clear_value x14
  intro x17
  have h18 : Kept s x17 := by
    unfold x17
    refine Kept.ite (fun z19 => ?_) (fun z19 => ?_)
    · refine Kept.trans ?_ (State.latentRaise_kept ..)
      exact h15
    · refine Kept.trans ?_ (State.launch_kept ..)
      exact h15
  clear_value x17
  refine Kept.trans ?_ (State.dueCheck_kept ..)
  refine Kept.trans ?_ (State.rtxSync_kept ..)
  exact h18

theorem State.txDrain_kept (n k : Nat) (s : State) : Kept s (State.txDrain n k s) := by
  induction k generalizing s with
  | zero => exact Kept.refl s
  | succ k ih =>
    unfold State.txDrain
    split
    · exact Kept.refl s
    · exact ((State.setCx_kept ..).trans (State.txSend_kept ..)).trans (ih _)

theorem State.txWaiting_kept (s : State) (n : Nat) : Kept s (State.txWaiting s n) := by
  unfold State.txWaiting
  refine Kept.trans ?_ (State.txDrain_kept ..)
  exact Kept.refl _

theorem State.txHand_kept (s : State) (n : Nat) (w : TxWait) : Kept s (State.txHand s n w) := by
  unfold State.txHand
  refine Kept.trans ?_ (State.txWaiting_kept ..)
  refine Kept.trans ?_ (State.setCx_kept ..)
  exact Kept.refl _

theorem State.rtxWaits_kept (s : State) : Kept s (State.rtxWaits s) := by
  unfold State.rtxWaits
  lift_lets
  intro x0
  clear_value x0
  intro x1
  clear_value x1
  intro x2
  have h3 : Kept s x2 := by
    unfold x2
    refine Kept.trans ?_ (Kept.foldl (fun t4 x5 => ?_) _ _)
    · exact Kept.refl _
    · refine Kept.trans ?_ (State.count_kept ..)
      refine Kept.trans ?_ (State.setCx_kept ..)
      exact Kept.refl _
  clear_value x2
  refine Kept.trans ?_ (Kept.foldl (fun t6 x7 => ?_) _ _)
  · exact h3
  · refine Kept.trans ?_ (State.count_kept ..)
    refine Kept.trans ?_ (State.setQue_kept ..)
    exact Kept.refl _

theorem State.resend_kept (s : State) (n : Nat) (reply : Bool) (x : TxCopy) : Kept s (State.resend s n reply x) := by
  unfold State.resend
  lift_lets
  intro x0
  have h1 : Kept s x0 := by
    unfold x0
    refine Kept.trans ?_ (State.setTx_kept ..)
    exact Kept.refl _
  clear_value x0
  refine Kept.ite (fun z2 => ?_) (fun z2 => ?_)
  · refine Kept.trans ?_ (State.latentRaise_kept ..)
    exact Kept.refl _
  · refine Kept.ite (fun z3 => ?_) (fun z3 => ?_)
    · exact Kept.refl _
    · refine Kept.trans ?_ (State.inject_kept ..)
      refine Kept.trans ?_ (State.tally_kept ..)
      refine Kept.trans ?_ (State.count_kept ..)
      exact h1

theorem State.entryCheck_kept (s : State) (n q id : Nat) : Kept s (State.entryCheck s n q id) := by
  unfold State.entryCheck
  refine Kept.ite (fun z0 => ?_) (fun z0 => ?_)
  · exact Kept.refl _
  · split
    · rename_i z1 z2
      exact Kept.refl _
    · rename_i z3 z4 z5
      split
      · rename_i z6 z7 z8
        refine Kept.trans ?_ (State.finishEntry_kept ..)
        exact Kept.refl _
      · rename_i z9 z10
        refine Kept.ite (fun z11 => ?_) (fun z11 => ?_)
        · exact Kept.refl _
        · refine Kept.ite (fun z12 => ?_) (fun z12 => ?_)
          · refine Kept.trans ?_ (State.finishEntry_kept ..)
            exact Kept.refl _
          · refine Kept.trans ?_ (State.finishEntry_kept ..)
            exact Kept.refl _

theorem State.looseEnd_kept (s : State) (q : Nat) (t : Taken) : Kept s (State.looseEnd s q t) := by
  unfold State.looseEnd
  lift_lets
  intro x0
  clear_value x0
  intro x1
  clear_value x1
  intro x2
  clear_value x2
  refine Kept.ite (fun z3 => ?_) (fun z3 => ?_)
  · exact Kept.refl _
  · split
    · rename_i z4 z5 z6 z7
      refine Kept.trans ?_ (State.finishEntry_kept ..)
      exact Kept.refl _
    · rename_i z8 z9 z10 z11 z12
      refine Kept.trans ?_ (State.finishEntry_kept ..)
      exact Kept.refl _
    · rename_i z13 z14 z15 z16
      refine Kept.trans ?_ (State.finishEntry_kept ..)
      exact Kept.refl _

theorem State.waitSync_kept (s : State) : Kept s (State.waitSync s) := by
  unfold State.waitSync
  refine Kept.trans ?_ (Kept.foldl (fun t0 x1 => ?_) _ _)
  · exact Kept.refl _
  · refine Kept.ite (fun z2 => ?_) (fun z2 => ?_)
    · exact Kept.refl _
    · refine Kept.trans ?_ (State.txWaiting_kept ..)
      exact Kept.refl _

theorem State.looseSync_kept (s : State) : Kept s (State.looseSync s) := by
  unfold State.looseSync
  refine Kept.trans ?_ (Kept.foldl (fun t0 x1 => ?_) _ _)
  · exact Kept.refl _
  · refine Kept.ite (fun z2 => ?_) (fun z2 => ?_)
    · refine Kept.trans ?_ (Kept.foldl (fun t3 x4 => ?_) _ _)
      · exact Kept.refl _
      · refine Kept.trans ?_ (State.looseEnd_kept ..)
        exact Kept.refl _
    · exact Kept.refl _

theorem State.refuseEntry_kept (s : State) (q : Nat) (id : Nat) (seq : Nat) (status : Nat) : Kept s (State.refuseEntry s q id seq status) := by
  unfold State.refuseEntry
  refine Kept.trans ?_ (State.setQue_kept ..)
  exact Kept.refl _

theorem State.rndvSync_kept (s : State) : Kept s (State.rndvSync s) := by
  unfold State.rndvSync
  refine Kept.trans ?_ (State.wr_kept ..)
  exact Kept.refl _

theorem State.canvasEnd_kept (s : State) (i : Nat) : Kept s (State.canvasEnd s i) := by
  unfold State.canvasEnd
  refine Kept.ite (fun z0 => ?_) (fun z0 => ?_)
  · lift_lets
    intro x2
    have h3 : Kept s x2 := by
      unfold x2
      refine Kept.trans ?_ (State.wr_kept ..)
      exact Kept.refl _
    clear_value x2
    intro x6
    clear_value x6
    intro x7
    have h8 : Kept s x7 := by
      unfold x7
      refine Kept.trans ?_ (Kept.record ..)
      exact h3
    clear_value x7
    intro x11
    have h12 : Kept s x11 := by
      unfold x11
      refine Kept.trans ?_ (State.rndvSync_kept ..)
      exact h8
    clear_value x11
    split
    · rename_i z16 z17 z18
      refine Kept.ite (fun z19 => ?_) (fun z19 => ?_)
      · refine Kept.trans ?_ (State.finishEntry_kept ..)
        exact h12
      · exact h12
    · rename_i z24 z25
      refine Kept.trans ?_ (State.postEvent_kept ..)
      exact h3
  · exact Kept.refl _

theorem State.canvasRevoke_kept (s : State) (i : Nat) : Kept s (State.canvasRevoke s i) := by
  unfold State.canvasRevoke
  refine Kept.ite (fun z0 => ?_) (fun z0 => ?_)
  · refine Kept.trans ?_ (State.canvasEnd_kept ..)
    refine Kept.trans ?_ (State.wr_kept ..)
    exact Kept.refl _
  · exact Kept.refl _

theorem State.canvasReport_kept (s : State) (i : Nat) : Kept s (State.canvasReport s i) := by
  unfold State.canvasReport
  refine Kept.trans ?_ (State.canvasEnd_kept ..)
  refine Kept.trans ?_ (State.wr_kept ..)
  exact Kept.refl _

theorem State.settleSeq_kept (s : State) (n : Nat) (reply : Bool) (q : Nat) : Kept s (State.settleSeq s n reply q) := by
  unfold State.settleSeq
  lift_lets
  intro x0
  clear_value x0
  split
  · rename_i z1 z2
    exact Kept.refl _
  · rename_i z3 z4 z5
    lift_lets
    intro x6
    clear_value x6
    intro x7
    clear_value x7
    intro x8
    clear_value x8
    intro x9
    have h10 : Kept s x9 := by
      unfold x9
      refine Kept.trans ?_ (State.setRx_kept ..)
      exact Kept.refl _
    clear_value x9
    refine Kept.ite (fun z11 => ?_) (fun z11 => ?_)
    · refine Kept.trans ?_ (State.sendAck_kept ..)
      exact h10
    · exact h10

theorem State.resolve_kept (s : State) (n : Nat) (reply : Bool) (q : Nat) : Kept s (State.resolve s n reply q) := by
  unfold State.resolve
  lift_lets
  intro x0
  have h1 : Kept s x0 := by
    unfold x0
    split
    · rename_i z2 z3 z4 z5 z6
      exact Kept.refl _
    · rename_i z7 z8 z9 z10
      refine Kept.trans ?_ (State.meterRx_kept ..)
      exact Kept.refl _
    · rename_i z11 z12
      exact Kept.refl _
  clear_value x0
  refine Kept.trans ?_ (State.settleSeq_kept ..)
  exact h1

theorem State.unreceive_kept (s : State) (n : Nat) (reply : Bool) (q : Nat) : Kept s (State.unreceive s n reply q) := by
  unfold State.unreceive
  refine Kept.trans ?_ (State.setRx_kept ..)
  exact Kept.refl _

theorem State.refuse_kept (s : State) (n : Nat) (reason : Nat) (q : Nat) : Kept s (State.refuse s n reason q) := by
  unfold State.refuse
  lift_lets
  intro x0
  have h1 : Kept s x0 := by
    unfold x0
    refine Kept.trans ?_ (State.setRx_kept ..)
    exact Kept.refl _
  clear_value x0
  refine Kept.trans ?_ (State.sendNack_kept ..)
  exact h1

theorem State.mtcSync_kept (s : State) (m : Nat) : Kept s (State.mtcSync s m) := by
  unfold State.mtcSync
  lift_lets
  intro x0
  clear_value x0
  intro x1
  clear_value x1
  intro x2
  have h3 : Kept s x2 := by
    unfold x2
    refine Kept.trans ?_ (State.wr_kept ..)
    refine Kept.trans ?_ (State.wr_kept ..)
    exact Kept.refl _
  clear_value x2
  intro x7
  have h8 : Kept s x7 := by
    unfold x7
    refine Kept.trans ?_ (State.wr_kept ..)
    exact h3
  clear_value x7
  refine Kept.trans ?_ (State.wr_kept ..)
  refine Kept.trans ?_ (State.wr_kept ..)
  exact h8

theorem State.setMtch_kept (s : State) (f : Matching → Matching) : Kept s (State.setMtch s f) := by
  unfold State.setMtch
  refine Kept.trans ?_ (Kept.record ..)
  exact Kept.refl _

theorem State.unpost_kept (s : State) (p : Post) : Kept s (State.unpost s p) := by
  unfold State.unpost
  refine Kept.trans ?_ (State.mtcSync_kept ..)
  refine Kept.trans ?_ (State.setMtch_kept ..)
  exact Kept.refl _

theorem State.bindRecv_kept (s : State) (b : Bound) : Kept s (State.bindRecv s b) := by
  unfold State.bindRecv
  refine Kept.trans ?_ (State.reserve_kept ..)
  refine Kept.trans ?_ (State.takeId_kept ..)
  refine Kept.trans ?_ (State.setMtch_kept ..)
  exact Kept.refl _

theorem State.setBound_kept (s : State) (id : Nat) (f : Bound → Bound) : Kept s (State.setBound s id f) := by
  unfold State.setBound
  refine Kept.trans ?_ (State.setMtch_kept ..)
  exact Kept.refl _

theorem State.boundEnd_kept (s : State) (id status bytes : Nat) : Kept s (State.boundEnd s id status bytes) := by
  unfold State.boundEnd
  split
  · rename_i z0 z1
    exact Kept.refl _
  · rename_i z2 z3 z4
    lift_lets
    intro x5
    clear_value x5
    intro x6
    have h7 : Kept s x6 := by
      unfold x6
      refine Kept.ite (fun z8 => ?_) (fun z8 => ?_)
      · refine Kept.trans ?_ (State.latentRaise_kept ..)
        exact Kept.refl _
      · exact Kept.refl _
    clear_value x6
    refine Kept.trans ?_ (State.recvComplete_kept ..)
    refine Kept.trans ?_ (State.setMtch_kept ..)
    exact h7

theorem State.boundDone_kept (s : State) (id : Nat) : Kept s (State.boundDone s id) := by
  unfold State.boundDone
  split
  · rename_i z1 z2
    exact Kept.refl _
  · rename_i z4 z5 z6
    refine Kept.ite (fun z7 => ?_) (fun z7 => ?_)
    · refine Kept.trans ?_ (State.boundEnd_kept ..)
      exact Kept.refl _
    · refine Kept.ite (fun z11 => ?_) (fun z11 => ?_)
      · refine Kept.trans ?_ (State.boundEnd_kept ..)
        exact Kept.refl _
      · refine Kept.trans ?_ (State.boundEnd_kept ..)
        exact Kept.refl _

theorem State.lateEvent_kept (s : State) (u : Unexp) (b : Bound) : Kept s (State.lateEvent s u b) := by
  unfold State.lateEvent
  lift_lets
  intro x0
  clear_value x0
  refine Kept.trans ?_ (State.postSteered_kept ..)
  exact Kept.refl _

theorem State.bindLate_kept (s : State) (u : Unexp) (p : Post) : Kept s (State.bindLate s u p) := by
  unfold State.bindLate
  lift_lets
  intro x0
  clear_value x0
  intro x1
  clear_value x1
  intro x2
  have h3 : Kept s x2 := by
    unfold x2
    refine Kept.trans ?_ (State.tally_kept ..)
    refine Kept.trans ?_ (State.count_kept ..)
    refine Kept.trans ?_ (State.bindRecv_kept ..)
    exact Kept.refl _
  clear_value x2
  intro x8
  have h9 : Kept s x8 := by
    unfold x8
    refine Kept.trans ?_ (State.mtcSync_kept ..)
    refine Kept.trans ?_ (State.setMtch_kept ..)
    exact h3
  clear_value x8
  refine Kept.ite (fun z13 => ?_) (fun z13 => ?_)
  · refine Kept.trans ?_ (State.lateEvent_kept ..)
    exact h9
  · exact h9

theorem State.unboundOnce_kept (s : State) (q : Nat) : Kept s (State.unboundOnce s q) := by
  unfold State.unboundOnce
  refine Kept.ite (fun z0 => ?_) (fun z0 => ?_)
  · exact Kept.refl _
  · refine Kept.trans ?_ (State.setMtch_kept ..)
    refine Kept.trans ?_ (State.count_kept ..)
    exact Kept.refl _

theorem State.postRecv_kept (s : State) (rq : Nat) (ridx : Nat) (m : Nat) (e : Octet) : Kept s (State.postRecv s rq ridx m e) := by
  unfold State.postRecv
  lift_lets
  intro x0
  clear_value x0
  intro x1
  have h2 : Kept s x1 := by
    unfold x1
    refine Kept.trans ?_ (State.wr_kept ..)
    exact Kept.refl _
  clear_value x1
  intro x5
  have h6 : Kept s x5 := by
    unfold x5
    split
    · rename_i z8 z9 z10
      refine Kept.trans ?_ (State.bindLate_kept ..)
      exact h2
    · rename_i z13 z14
      refine Kept.trans ?_ (State.mtcSync_kept ..)
      refine Kept.trans ?_ (State.setMtch_kept ..)
      exact h2
  clear_value x5
  refine Kept.ite (fun z18 => ?_) (fun z18 => ?_)
  · refine Kept.trans ?_ (State.postEvent_kept ..)
    refine Kept.trans ?_ (State.setMtch_kept ..)
    exact h6
  · exact h6

theorem State.stallClear_kept (s : State) (m : Nat) : Kept s (State.stallClear s m) := by
  unfold State.stallClear
  refine Kept.ite (fun z0 => ?_) (fun z0 => ?_)
  · exact Kept.refl _
  · refine Kept.trans ?_ (State.setMtch_kept ..)
    exact Kept.refl _

theorem State.addUnexp_kept (s : State) (m : Nat) (p : Packet) (conn : Option Nat) : Kept s (State.addUnexp s m p conn).1 := by
  unfold State.addUnexp
  lift_lets
  intro x0
  clear_value x0
  intro x1
  clear_value x1
  dsimp -zeta only
  refine Kept.trans ?_ (State.mtcSync_kept ..)
  refine Kept.trans ?_ (State.takeId_kept ..)
  refine Kept.trans ?_ (State.setMtch_kept ..)
  exact Kept.refl _

theorem State.setUnexp_kept (s : State) (u : Nat) (f : Unexp → Unexp) : Kept s (State.setUnexp s u f) := by
  unfold State.setUnexp
  refine Kept.trans ?_ (State.setMtch_kept ..)
  exact Kept.refl _

theorem State.dropUnexp_kept (s : State) (u : Nat) : Kept s (State.dropUnexp s u) := by
  unfold State.dropUnexp
  split
  · rename_i z1 z2
    exact Kept.refl _
  · rename_i z4 z5 z6
    refine Kept.trans ?_ (State.mtcSync_kept ..)
    refine Kept.trans ?_ (State.setMtch_kept ..)
    exact Kept.refl _

theorem State.countNr_kept (s : State) (m : Nat) : Kept s (State.countNr s m) := by
  unfold State.countNr
  refine Kept.trans ?_ (State.count_kept ..)
  refine Kept.trans ?_ (State.count_kept ..)
  exact Kept.refl _

theorem State.unexpFull_kept (s : State) (m : Nat) : Kept s (State.unexpFull s m) := by
  unfold State.unexpFull
  refine Kept.ite (fun z0 => ?_) (fun z0 => ?_)
  · exact Kept.refl _
  · refine Kept.trans ?_ (State.postEvent_kept ..)
    refine Kept.trans ?_ (State.setMtch_kept ..)
    exact Kept.refl _

theorem State.matchFirst_kept (s : State) (p : Packet) (conn : Option Nat) : Kept s (State.matchFirst s p conn).1 := by
  refine KeptFst.out ?_
  unfold State.matchFirst
  lift_lets
  intro x0
  clear_value x0
  intro x1
  clear_value x1
  intro x2
  clear_value x2
  intro x3
  have h4 : Kept s x3 := by
    unfold x3
    refine Kept.trans ?_ (State.setMtch_kept ..)
    exact Kept.refl _
  clear_value x3
  refine KeptFst.ite (fun z7 => ?_) (fun z7 => ?_)
  · refine KeptFst.pair ?_
    exact Kept.refl _
  · split
    · rename_i z12 z13 z14
      lift_lets
      intro x15
      clear_value x15
      intro x16
      have h17 : Kept s x16 := by
        unfold x16
        refine Kept.trans ?_ (State.stallClear_kept ..)
        refine Kept.trans ?_ (State.bindRecv_kept ..)
        refine Kept.trans ?_ (State.unpost_kept ..)
        exact Kept.refl _
      clear_value x16
      refine KeptFst.ite (fun z22 => ?_) (fun z22 => ?_)
      · refine KeptFst.pair ?_
        refine Kept.trans ?_ (State.countNr_kept ..)
        exact Kept.refl _
      · refine KeptFst.pair ?_
        refine Kept.trans ?_ (State.tally_kept ..)
        refine Kept.trans ?_ (State.count_kept ..)
        exact h17
    · rename_i z31 z32
      refine KeptFst.ite (fun z33 => ?_) (fun z33 => ?_)
      · split
        rename_i z36 z37 z38 z39
        refine KeptFst.pair ?_
        refine Kept.eqn z39 ?_
        refine Kept.trans ?_ (State.addUnexp_kept ..)
        exact h4
      · refine KeptFst.pair ?_
        refine Kept.trans ?_ (State.unexpFull_kept ..)
        refine Kept.trans ?_ (State.countNr_kept ..)
        exact Kept.refl _

theorem State.placedRecv_kept (s : State) (id : Nat) (p : Packet) : Kept s (State.placedRecv s id p) := by
  unfold State.placedRecv
  split
  · rename_i z1 z2
    exact Kept.refl _
  · rename_i z4 z5 z6
    refine Kept.ite (fun z7 => ?_) (fun z7 => ?_)
    · exact Kept.refl _
    · lift_lets
      intro x10
      clear_value x10
      intro x11
      clear_value x11
      intro x12
      have h13 : Kept s x12 := by
        unfold x12
        refine Kept.trans ?_ (State.setBound_kept ..)
        exact Kept.refl _
      clear_value x12
      refine Kept.ite (fun z16 => ?_) (fun z16 => ?_)
      · refine Kept.trans ?_ (State.boundDone_kept ..)
        exact h13
      · exact h13

theorem State.placedUnexp_kept (s : State) (u id : Nat) (p : Packet) : Kept s (State.placedUnexp s u id p) := by
  unfold State.placedUnexp
  lift_lets
  intro x0
  clear_value x0
  intro x1
  clear_value x1
  intro x2
  have h3 : Kept s x2 := by
    unfold x2
    refine Kept.trans ?_ (State.setUnexp_kept ..)
    exact Kept.refl _
  clear_value x2
  refine Kept.ite (fun z4 => ?_) (fun z4 => ?_)
  · exact Kept.refl _
  · split
    · rename_i z5 z6 z7
      split
      · rename_i z8 z9 z10
        refine Kept.ite (fun z11 => ?_) (fun z11 => ?_)
        · refine Kept.trans ?_ (State.lateEvent_kept ..)
          refine Kept.trans ?_ (State.setBound_kept ..)
          exact h3
        · exact h3
      · rename_i z12 z13
        refine Kept.ite (fun z14 => ?_) (fun z14 => ?_)
        · refine Kept.trans ?_ (State.dropUnexp_kept ..)
          exact h3
        · exact h3
    · rename_i z15 z16
      exact h3

theorem State.lateReport_kept (s : State) (id : Nat) (ok : Bool) : Kept s (State.lateReport s id ok) := by
  unfold State.lateReport
  split
  · rename_i z0 z1
    exact Kept.refl _
  · rename_i z2 z3 z4
    lift_lets
    intro x5
    have h6 : Kept s x5 := by
      unfold x5
      split
      · rename_i z7 z8 z9
        refine Kept.trans ?_ (State.setBound_kept ..)
        refine Kept.trans ?_ (State.dropUnexp_kept ..)
        exact Kept.refl _
      · rename_i z10 z11
        exact Kept.refl _
    clear_value x5
    refine Kept.ite (fun z12 => ?_) (fun z12 => ?_)
    · refine Kept.trans ?_ (State.boundEnd_kept ..)
      exact h6
    · refine Kept.ite (fun z13 => ?_) (fun z13 => ?_)
      · exact h6
      · refine Kept.trans ?_ (State.boundDone_kept ..)
        refine Kept.trans ?_ (State.setBound_kept ..)
        exact h6

theorem State.readEnd_kept (s : State) (id : Nat) (status : Nat) (bytes : Nat) : Kept s (State.readEnd s id status bytes) := by
  unfold State.readEnd
  split
  · rename_i z1 z2
    exact Kept.refl _
  · rename_i z4 z5 z6
    refine Kept.ite (fun z7 => ?_) (fun z7 => ?_)
    · refine Kept.trans ?_ (State.boundEnd_kept ..)
      exact Kept.refl _
    · refine Kept.trans ?_ (State.boundDone_kept ..)
      refine Kept.trans ?_ (State.setBound_kept ..)
      exact Kept.refl _

theorem State.matchBroken_kept (s : State) (n : Nat) : Kept s (State.matchBroken s n) := by
  unfold State.matchBroken
  lift_lets
  intro x0
  clear_value x0
  intro x1
  have h2 : Kept s x1 := by
    unfold x1
    refine Kept.trans ?_ (Kept.foldl (fun t3 x4 => ?_) _ _)
    · exact Kept.refl _
    · lift_lets
      intro x5
      have h6 : Kept t3 x5 := by
        unfold x5
        split
        · rename_i z7 z8 z9
          refine Kept.trans ?_ (State.boundEnd_kept ..)
          exact Kept.refl _
        · rename_i z10 z11
          exact Kept.refl _
      clear_value x5
      refine Kept.trans ?_ (State.dropUnexp_kept ..)
      exact h6
  clear_value x1
  intro x12
  have h13 : Kept s x12 := by
    unfold x12
    refine Kept.trans ?_ (Kept.foldl (fun t14 x15 => ?_) _ _)
    · exact h2
    · refine Kept.trans ?_ (State.boundEnd_kept ..)
      refine Kept.elim ?_ (fun x16 => ?_)
      · exact Kept.refl _
      · refine Kept.trans ?_ (State.dropUnexp_kept ..)
        exact Kept.refl _
  clear_value x12
  refine Kept.trans ?_ (Kept.foldl (fun t17 x18 => ?_) _ _)
  · exact h13
  · refine Kept.trans ?_ (State.canvasRevoke_kept ..)
    exact Kept.refl _

theorem State.transientTake_kept (s : State) (q : Nat) (id : Nat) (n : Nat) (e : Octet) : KeptOpt s (State.transientTake s q id n e) := by
  unfold State.transientTake
  lift_lets
  intro x0
  clear_value x0
  split
  · rename_i z2 z3
    exact KeptOpt.none _
  · rename_i z5 z6 z7
    lift_lets
    intro x8
    clear_value x8
    intro x9
    clear_value x9
    intro x10
    have h11 : Kept s x10 := by
      unfold x10
      refine Kept.trans ?_ (State.wr_kept ..)
      refine Kept.trans ?_ (State.wr_kept ..)
      refine Kept.trans ?_ (State.wr_kept ..)
      refine Kept.trans ?_ (State.set_kept ..)
      exact Kept.refl _
    clear_value x10
    intro x17
    have h18 : Kept s x17 := by
      unfold x17
      refine Kept.trans ?_ (State.wr_kept ..)
      refine Kept.trans ?_ (State.wr_kept ..)
      exact h11
    clear_value x17
    intro x22
    have h23 : Kept s x22 := by
      unfold x22
      refine Kept.trans ?_ (State.set_kept ..)
      refine Kept.trans ?_ (State.wr_kept ..)
      exact h18
    clear_value x22
    intro x27
    have h28 : Kept s x27 := by
      unfold x27
      refine Kept.trans ?_ (State.wr_kept ..)
      exact h23
    clear_value x27
    intro x31
    have h32 : Kept s x31 := by
      unfold x31
      refine Kept.trans ?_ (State.setMtch_kept ..)
      exact h28
    clear_value x31
    refine KeptOpt.some ?_
    refine Kept.trans ?_ (State.rndvSync_kept ..)
    exact h32

theorem State.endEntries_kept (s : State) (n : Nat) (hit : Option (Nat × Nat)) : Kept s (State.endEntries s n hit) := by
  unfold State.endEntries
  refine Kept.trans ?_ (Kept.foldl (fun t0 x1 => ?_) _ _)
  · exact Kept.refl _
  · refine Kept.ite (fun z4 => ?_) (fun z4 => ?_)
    · refine Kept.trans ?_ (Kept.foldl (fun t6 x7 => ?_) _ _)
      · exact Kept.refl _
      · refine Kept.ite (fun z10 => ?_) (fun z10 => ?_)
        · refine Kept.trans ?_ (State.finishEntry_kept ..)
          exact Kept.refl _
        · exact Kept.refl _
    · exact Kept.refl _

theorem State.setSteerQ_kept (s : State) (g : Nat) (f : List Event → List Event) : Kept s (State.setSteerQ s g f) := by
  unfold State.setSteerQ
  lift_lets
  intro x0
  have h1 : Kept s x0 := by
    unfold x0
    refine Kept.trans ?_ (State.setEng_kept ..)
    exact Kept.refl _
  clear_value x0
  refine Kept.trans ?_ (State.wr_kept ..)
  exact h1

theorem State.eventsDrop_kept (s : State) (n : Nat) : Kept s (State.eventsDrop s n) := by
  unfold State.eventsDrop
  lift_lets
  intro x0
  clear_value x0
  intro x1
  clear_value x1
  intro x2
  clear_value x2
  intro x3
  have h4 : Kept s x3 := by
    unfold x3
    refine Kept.trans ?_ (Kept.record ..)
    exact Kept.refl _
  clear_value x3
  intro x5
  have h6 : Kept s x5 := by
    unfold x5
    refine Kept.trans ?_ (Kept.foldl (fun t7 x8 => ?_) _ _)
    · exact h4
    · refine Kept.trans ?_ (State.setSteerQ_kept ..)
      exact Kept.refl _
  clear_value x5
  refine Kept.trans ?_ (Kept.foldl (fun t9 x10 => ?_) _ _)
  · exact h6
  · refine Kept.ite (fun z11 => ?_) (fun z11 => ?_)
    · refine Kept.elim ?_ (fun x12 => ?_)
      · exact Kept.refl _
      · refine Kept.trans ?_ (State.canvasReport_kept ..)
        exact Kept.refl _
    · exact Kept.refl _

theorem State.connDrop_kept (s : State) (n : Nat) (hit : Option (Nat × Nat)) : Kept s (State.connDrop s n hit) := by
  unfold State.connDrop
  lift_lets
  intro x0
  clear_value x0
  intro x1
  have h2 : Kept s x1 := by
    unfold x1
    refine Kept.trans ?_ (Kept.foldl (fun t3 x4 => ?_) _ _)
    · exact Kept.refl _
    · split
      · rename_i z5 z6 z7
        refine Kept.trans ?_ (State.readEnd_kept ..)
        exact Kept.refl _
      · rename_i z8 z9
        exact Kept.refl _
  clear_value x1
  intro x10
  have h11 : Kept s x10 := by
    unfold x10
    refine Kept.trans ?_ (State.setCx_kept ..)
    exact h2
  clear_value x10
  intro x12
  have h13 : Kept s x12 := by
    unfold x12
    refine Kept.trans ?_ (State.setRx_kept ..)
    refine Kept.trans ?_ (State.setRx_kept ..)
    exact h11
  clear_value x12
  intro x14
  have h15 : Kept s x14 := by
    unfold x14
    refine Kept.trans ?_ (Kept.record ..)
    exact h13
  clear_value x14
  refine Kept.trans ?_ (State.rtxSync_kept ..)
  refine Kept.trans ?_ (State.matchBroken_kept ..)
  refine Kept.trans ?_ (State.endEntries_kept ..)
  refine Kept.trans ?_ (State.eventsDrop_kept ..)
  exact h15

theorem State.notice_kept (s : State) (n : Nat) (entry : Nat) : Kept s (State.notice s n entry) := by
  unfold State.notice
  lift_lets
  intro x0
  clear_value x0
  intro x1
  have h2 : Kept s x1 := by
    unfold x1
    refine Kept.ite (fun z3 => ?_) (fun z3 => ?_)
    · refine Kept.trans ?_ (State.setCx_kept ..)
      exact Kept.refl _
    · exact Kept.refl _
  clear_value x1
  refine Kept.ite (fun z8 => ?_) (fun z8 => ?_)
  · exact h2
  · refine Kept.trans ?_ (State.postSteered_kept ..)
    exact h2

theorem State.notice10_kept (s : State) (n : Nat) (reason : Nat) (seq : Nat) (status : Nat) : Kept s (State.notice10 s n reason seq status) := by
  unfold State.notice10
  lift_lets
  intro x0
  have h1 : Kept s x0 := by
    unfold x0
    refine Kept.trans ?_ (State.notice_kept ..)
    exact Kept.refl _
  clear_value x0
  intro x4
  clear_value x4
  refine Kept.trans ?_ (State.setCx_kept ..)
  exact h1

theorem State.connBroken_kept (s : State) (n : Nat) (cause : Nat) (hit : Option (Nat × Nat)) : Kept s (State.connBroken s n cause hit) := by
  unfold State.connBroken
  refine Kept.ite (fun z0 => ?_) (fun z0 => ?_)
  · lift_lets
    intro x2
    clear_value x2
    intro x3
    have h4 : Kept s x3 := by
      unfold x3
      refine Kept.trans ?_ (State.wr_kept ..)
      refine Kept.trans ?_ (State.wr_kept ..)
      exact Kept.refl _
    clear_value x3
    intro x8
    have h9 : Kept s x8 := by
      unfold x8
      refine Kept.trans ?_ (State.setCx_kept ..)
      refine Kept.trans ?_ (State.sendNack_kept ..)
      exact h4
    clear_value x8
    intro x13
    have h14 : Kept s x13 := by
      unfold x13
      refine Kept.trans ?_ (State.connDrop_kept ..)
      exact h9
    clear_value x13
    intro x17
    have h18 : Kept s x17 := by
      unfold x17
      refine Kept.trans ?_ (State.postEvent_kept ..)
      exact h14
    clear_value x17
    refine Kept.trans ?_ (State.notice10_kept ..)
    exact h18
  · exact Kept.refl _

theorem State.handReply_kept (s : State) (n : Nat) (p : Packet) : Kept s (State.handReply s n p) := by
  unfold State.handReply
  lift_lets
  intro x0
  clear_value x0
  intro x1
  clear_value x1
  intro x2
  have h3 : Kept s x2 := by
    unfold x2
    refine Kept.trans ?_ (State.settleSeq_kept ..)
    refine Kept.trans ?_ (State.count_kept ..)
    exact Kept.refl _
  clear_value x2
  intro x4
  clear_value x4
  refine Kept.ite (fun z5 => ?_) (fun z5 => ?_)
  · split
    · rename_i z6 z7 z8
      refine Kept.ite (fun z9 => ?_) (fun z9 => ?_)
      · refine Kept.trans ?_ (State.postSteered_kept ..)
        exact Kept.refl _
      · exact h3
    · rename_i z10 z11
      exact h3
  · refine Kept.ite (fun z12 => ?_) (fun z12 => ?_)
    · split
      · rename_i z13 z14 z15
        refine Kept.trans ?_ (State.postSteered_kept ..)
        exact Kept.refl _
      · rename_i z16 z17
        exact h3
    · split
      · rename_i z18 z19 z20
        refine Kept.trans ?_ (State.postSteered_kept ..)
        exact Kept.refl _
      · rename_i z21 z22
        exact h3

theorem State.handFlush_kept (s : State) (n : Nat) (p : Packet) : Kept s (State.handFlush s n p) := by
  unfold State.handFlush
  refine Kept.ite (fun z0 => ?_) (fun z0 => ?_)
  · refine Kept.trans ?_ (State.postSteered_kept ..)
    exact Kept.refl _
  · refine Kept.trans ?_ (State.setCx_kept ..)
    exact Kept.refl _

theorem State.handSend_kept (s : State) (n : Nat) (p : Packet) : Kept s (State.handSend s n p) := by
  unfold State.handSend
  lift_lets
  intro x0
  clear_value x0
  intro x1
  clear_value x1
  intro x2
  clear_value x2
  intro x3
  have h4 : ∀ y1 y2, Kept y1 (x3 y1 y2) := by
    intro y5 y6
    unfold x3
    lift_lets
    intro x7
    have h8 : Kept y5 x7 := by
      unfold x7
      refine Kept.trans ?_ (State.setCx_kept ..)
      exact Kept.refl _
    clear_value x7
    split
    · rename_i z9 z10
      split
      · rename_i z11 z12 z13
        refine Kept.trans ?_ (State.postSteered_kept ..)
        exact h8
      · rename_i z14 z15
        refine Kept.trans ?_ (State.refuse_kept ..)
        exact h8
    · rename_i z16 z17
      refine Kept.trans ?_ (State.postSteered_kept ..)
      exact h8
  clear_value x3
  split
  · rename_i z18 z19 z20
    exact h4 ..
  · rename_i z21 z22
    refine Kept.ite (fun z23 => ?_) (fun z23 => ?_)
    · refine Kept.trans ?_ (State.refuse_kept ..)
      exact Kept.refl _
    · split
      · rename_i z24 z25 z26 z27
        refine Kept.ite (fun z28 => ?_) (fun z28 => ?_)
        · refine Kept.trans ?_ (State.sendNack_kept ..)
          refine Kept.trans ?_ (State.unreceive_kept ..)
          refine Kept.eqn z27 ?_
          refine Kept.trans ?_ (State.matchFirst_kept ..)
          exact Kept.refl _
        · refine Kept.trans ?_ (State.refuse_kept ..)
          refine Kept.trans ?_ (State.setCx_kept ..)
          refine Kept.eqn z27 ?_
          refine Kept.trans ?_ (State.matchFirst_kept ..)
          exact Kept.refl _
      · rename_i z29 z30 z31 z32
        refine Kept.trans ?_ (h4 ..)
        refine Kept.eqn z32 ?_
        refine Kept.trans ?_ (State.matchFirst_kept ..)
        exact Kept.refl _
      · rename_i z33 z34 z35 z36
        refine Kept.trans ?_ (h4 ..)
        refine Kept.eqn z36 ?_
        refine Kept.trans ?_ (State.matchFirst_kept ..)
        exact Kept.refl _

theorem State.handRma_kept (s : State) (n : Nat) (p : Packet) (entry : Nat) : Kept s (State.handRma s n p entry) := by
  unfold State.handRma
  lift_lets
  intro x0
  clear_value x0
  intro x1
  have h2 : Kept s x1 := by
    unfold x1
    refine Kept.trans ?_ (State.structSeen_kept ..)
    exact Kept.refl _
  clear_value x1
  intro x3
  clear_value x3
  intro x4
  have h5 : Kept s x4 := by
    unfold x4
    refine Kept.ite (fun z6 => ?_) (fun z6 => ?_)
    · refine Kept.trans ?_ (State.structRaise_kept ..)
      exact h2
    · exact h2
  clear_value x4
  intro x7
  clear_value x7
  intro x8
  have h9 : Kept s x8 := by
    unfold x8
    refine Kept.ite (fun z10 => ?_) (fun z10 => ?_)
    · refine Kept.trans ?_ (State.wr_kept ..)
      exact h5
    · exact h5
  clear_value x8
  intro x11
  have h12 : Kept s x11 := by
    unfold x11
    refine Kept.ite (fun z13 => ?_) (fun z13 => ?_)
    · refine Kept.trans ?_ (State.setMtch_kept ..)
      exact h9
    · exact h9
  clear_value x11
  refine Kept.trans ?_ (State.postSteered_kept ..)
  exact h12

theorem State.handOver_kept (s : State) (n : Nat) (p : Packet) : Kept s (State.handOver s n p) := by
  unfold State.handOver
  lift_lets
  intro x0
  clear_value x0
  refine Kept.ite (fun z1 => ?_) (fun z1 => ?_)
  · refine Kept.trans ?_ (State.handRma_kept ..)
    exact Kept.refl _
  · refine Kept.ite (fun z5 => ?_) (fun z5 => ?_)
    · refine Kept.trans ?_ (State.handRma_kept ..)
      exact Kept.refl _
    · refine Kept.ite (fun z9 => ?_) (fun z9 => ?_)
      · refine Kept.trans ?_ (State.handRma_kept ..)
        exact Kept.refl _
      · refine Kept.ite (fun z13 => ?_) (fun z13 => ?_)
        · refine Kept.trans ?_ (State.handFlush_kept ..)
          exact Kept.refl _
        · refine Kept.ite (fun z17 => ?_) (fun z17 => ?_)
          · refine Kept.trans ?_ (State.handSend_kept ..)
            exact Kept.refl _
          · refine Kept.trans ?_ (State.handReply_kept ..)
            exact Kept.refl _

theorem State.tideWrite_kept (s : State) (l : Nat) (p : Packet) : Kept s (State.tideWrite s l p) := by
  unfold State.tideWrite
  lift_lets
  intro x0
  clear_value x0
  refine Kept.trans ?_ (Kept.foldl (fun t1 x2 => ?_) _ _)
  · exact Kept.refl _
  · refine Kept.trans ?_ (State.gddrWrite_kept ..)
    exact Kept.refl _

theorem State.tideRead_kept (s : State) (x : RxSeq) : Kept s (State.tideRead s x).1 := by
  unfold State.tideRead
  exact Kept.foldl_pair (f := fun (t : State × List Byte × Bool) i =>
    ((t.1.gddrRead (x.line + i)).1, t.2.1 ++ (t.1.gddrRead (x.line + i)).2.1, t.2.2 || (t.1.gddrRead (x.line + i)).2.2))
    (fun t _ i => State.gddrRead_kept t (x.line + i)) _ (s, [], false)

theorem State.handNext_kept (s : State) (n : Nat) : Kept s (State.handNext s n) := by
  unfold State.handNext
  lift_lets
  intro x0
  clear_value x0
  split
  · rename_i z1 z2 z3
    refine Kept.ite (fun z4 => ?_) (fun z4 => ?_)
    · split
      · rename_i z5 z6 z7 z8
        refine Kept.trans ?_ (State.raise_kept ..)
        refine Kept.trans ?_ (State.unreceive_kept ..)
        refine Kept.eqn z8 ?_
        refine Kept.trans ?_ (State.tideRead_kept ..)
        exact Kept.refl _
      · rename_i z9 z10 z11 z12
        refine Kept.trans ?_ (State.handOver_kept ..)
        refine Kept.trans ?_ (State.setRx_kept ..)
        refine Kept.eqn z12 ?_
        refine Kept.trans ?_ (State.tideRead_kept ..)
        exact Kept.refl _
    · exact Kept.refl _
  · rename_i z13 z14
    exact Kept.refl _

theorem State.flushGo_kept (s : State) (n : Nat) : Kept s (State.flushGo s n) := by
  unfold State.flushGo
  lift_lets
  intro x0
  clear_value x0
  intro x1
  have h2 : Kept s x1 := by
    unfold x1
    refine Kept.trans ?_ (State.setCx_kept ..)
    exact Kept.refl _
  clear_value x1
  refine Kept.trans ?_ (Kept.foldl (fun t5 x6 => ?_) _ _)
  · exact h2
  · refine Kept.trans ?_ (State.handFlush_kept ..)
    exact Kept.refl _

theorem State.replyDone_kept (s : State) (n : Nat) (p : Packet) (ok : Bool) : Kept s (State.replyDone s n p ok) := by
  unfold State.replyDone
  lift_lets
  intro x0
  clear_value x0
  intro x1
  have h_x1 : ∀ y2, Kept y2 (x1 y2) := by
    intro y2
    unfold x1
    refine Kept.trans ?_ (State.setCx_kept ..)
    exact Kept.refl _
  clear_value x1
  intro x5
  have h6 : Kept s x5 := by
    unfold x5
    refine Kept.trans ?_ (h_x1 ..)
    exact Kept.refl _
  clear_value x5
  intro x9
  clear_value x9
  split
  · rename_i z11 z12
    exact Kept.refl _
  · rename_i z14 z15 z16
    lift_lets
    intro x17
    intro x18
    clear_value x18
    intro x19
    have h20 : Kept s x19 := by
      unfold x19
      split
      · rename_i z22 z23 z24
        refine Kept.trans ?_ (State.finishEntry_kept ..)
        exact h6
      · rename_i z27 z28
        exact h6
    clear_value x19
    intro x30
    have h31 : Kept s x30 := by
      unfold x30
      split
      · rename_i z33 z34 z35
        refine Kept.trans ?_ (State.finishEntry_kept ..)
        exact h6
      · rename_i z38 z39
        exact h6
    clear_value x30
    refine Kept.ite (fun z41 => ?_) (fun z41 => ?_)
    · split
      · rename_i z44 z45 z46
        refine Kept.trans ?_ (State.readEnd_kept ..)
        exact h20
      · rename_i z49 z50
        exact h20
    · refine Kept.ite (fun z52 => ?_) (fun z52 => ?_)
      · split
        · rename_i z55 z56 z57
          refine Kept.trans ?_ (State.readEnd_kept ..)
          exact h31
        · rename_i z60 z61
          exact h31
      · refine Kept.trans ?_ (State.setCx_kept ..)
        exact Kept.refl _

theorem State.sendPlaced_kept (s : State) (n : Nat) (p : Packet) : Kept s (State.sendPlaced s n p) := by
  unfold State.sendPlaced
  lift_lets
  intro x0
  clear_value x0
  intro x1
  have h2 : Kept s x1 := by
    unfold x1
    refine Kept.trans ?_ (State.setCx_kept ..)
    exact Kept.refl _
  clear_value x1
  split
  · rename_i z6 z7
    refine Kept.trans ?_ (State.placedRecv_kept ..)
    exact h2
  · rename_i z10 z11
    refine Kept.trans ?_ (State.placedUnexp_kept ..)
    exact h2
  · rename_i z14
    exact h2

theorem State.sendFailed_kept (s : State) (n : Nat) (p : Packet) : Kept s (State.sendFailed s n p) := by
  unfold State.sendFailed
  split
  · rename_i z0 z1 z2
    split
    · rename_i z3 z4 z5
      refine Kept.trans ?_ (State.boundEnd_kept ..)
      exact Kept.refl _
    · rename_i z6 z7
      exact Kept.refl _
  · rename_i z8 z9 z10
    split
    · rename_i z11 z12 z13
      refine Kept.trans ?_ (State.boundEnd_kept ..)
      exact Kept.refl _
    · rename_i z14 z15
      exact Kept.refl _
  · rename_i z16 z17
    exact Kept.refl _

theorem State.hostAtom_kept (s : State) (f a : Nat) (op : AtomOp) (x y : Word) : Kept s (State.hostAtom s f a op x y).1 := by
  unfold State.hostAtom
  lift_lets
  intro x0
  clear_value x0
  intro x1
  have h2 : Kept s x1 := by
    unfold x1
    refine Kept.trans ?_ (State.cxlTouch_kept ..)
    refine Kept.trans ?_ (State.drawn_kept ..)
    exact Kept.refl _
  clear_value x1
  intro x3
  clear_value x3
  refine KeptFst.out ?_
  split
  · rename_i z4
    refine KeptFst.pair ?_
    refine Kept.trans ?_ (State.dma_kept ..)
    exact h2
  · rename_i z5
    refine KeptFst.pair ?_
    refine Kept.trans ?_ (State.dma_kept ..)
    exact h2
  · rename_i z6
    refine KeptFst.pair ?_
    refine Kept.trans ?_ (State.dma_kept ..)
    exact h2
  · rename_i z7
    refine KeptFst.pair ?_
    refine Kept.trans ?_ (State.dma_kept ..)
    exact h2
  · rename_i z8
    refine KeptFst.pair ?_
    refine Kept.trans ?_ (State.dma_kept ..)
    exact h2

theorem State.atomResp_kept (s : State) (n : Nat) (p : Packet) (old : Word) : Kept s (State.atomResp s n p old) := by
  unfold State.atomResp
  lift_lets
  intro x0
  clear_value x0
  refine Kept.trans ?_ (State.txHand_kept ..)
  exact Kept.refl _

theorem State.atomGo_kept (s : State) (e : Event) (p : Packet) : Kept s (State.atomGo s e p).1 := by
  unfold State.atomGo
  lift_lets
  intro x0
  clear_value x0
  intro x1
  clear_value x1
  intro x2
  clear_value x2
  refine KeptFst.out ?_
  refine KeptFst.ite (fun z3 => ?_) (fun z3 => ?_)
  · refine KeptFst.ite (fun z4 => ?_) (fun z4 => ?_)
    · split
      · rename_i z5 z6 z7 z8
        refine KeptFst.pair ?_
        refine Kept.eqn z8 ?_
        refine Kept.trans ?_ (State.devAtom_kept ..)
        exact Kept.refl _
      · rename_i z9 z10 z11 z12
        refine KeptFst.pair ?_
        refine Kept.trans ?_ (State.atomResp_kept ..)
        refine Kept.eqn z12 ?_
        refine Kept.trans ?_ (State.devAtom_kept ..)
        exact Kept.refl _
    · split
      rename_i z13 z14 z15 z16
      refine KeptFst.pair ?_
      refine Kept.trans ?_ (State.atomResp_kept ..)
      refine Kept.eqn z16 ?_
      refine Kept.trans ?_ (State.hostAtom_kept ..)
      exact Kept.refl _
  · refine KeptFst.pair ?_
    exact Kept.refl _

theorem State.connReport_kept (s : State) (e : Event) (p : Packet) (r : Report) : Kept s (State.connReport s e p r) := by
  unfold State.connReport
  lift_lets
  intro x0
  clear_value x0
  intro x1
  clear_value x1
  intro x2
  clear_value x2
  intro x3
  have h4 : Kept s x3 := by
    unfold x3
    refine Kept.ite (fun z5 => ?_) (fun z5 => ?_)
    · refine Kept.trans ?_ (State.canvasReport_kept ..)
      exact Kept.refl _
    · exact Kept.refl _
  clear_value x3
  intro x6
  clear_value x6
  intro x7
  have h8 : Kept s x7 := by
    unfold x7
    refine Kept.ite (fun z9 => ?_) (fun z9 => ?_)
    · refine Kept.trans ?_ (State.sendFailed_kept ..)
      exact h4
    · exact h4
  clear_value x7
  refine Kept.ite (fun z10 => ?_) (fun z10 => ?_)
  · exact h4
  · refine Kept.ite (fun z11 => ?_) (fun z11 => ?_)
    · split
      · rename_i z12
        refine Kept.trans ?_ (State.unreceive_kept ..)
        exact h4
      · rename_i z13
        refine Kept.trans ?_ (State.resolve_kept ..)
        refine Kept.trans ?_ (State.replyDone_kept ..)
        exact h4
      · rename_i z14 z15
        refine Kept.trans ?_ (State.resolve_kept ..)
        refine Kept.trans ?_ (State.replyDone_kept ..)
        exact h4
    · split
      · rename_i z16
        split
        · rename_i z17 z18 z19
          refine Kept.trans ?_ (State.handNext_kept ..)
          refine Kept.trans ?_ (State.resolve_kept ..)
          refine Kept.eqn z19 ?_
          refine Kept.trans ?_ (State.atomGo_kept ..)
          refine Kept.ite (fun z20 => ?_) (fun z20 => ?_)
          · refine Kept.trans ?_ (State.sendPlaced_kept ..)
            exact h4
          · exact h4
        · rename_i z21 z22 z23
          refine Kept.trans ?_ (State.connBroken_kept ..)
          refine Kept.trans ?_ (State.sendNack_kept ..)
          refine Kept.eqn z23 ?_
          refine Kept.trans ?_ (State.atomGo_kept ..)
          refine Kept.ite (fun z24 => ?_) (fun z24 => ?_)
          · refine Kept.trans ?_ (State.sendPlaced_kept ..)
            exact h4
          · exact h4
      · rename_i z25
        refine Kept.trans ?_ (State.unreceive_kept ..)
        exact h4
      · rename_i z26 z27
        refine Kept.ite (fun z28 => ?_) (fun z28 => ?_)
        · refine Kept.trans ?_ (State.sendNack_kept ..)
          refine Kept.trans ?_ (State.unreceive_kept ..)
          exact h4
        · refine Kept.ite (fun z29 => ?_) (fun z29 => ?_)
          · refine Kept.trans ?_ (State.refuse_kept ..)
            exact h4
          · refine Kept.ite (fun z30 => ?_) (fun z30 => ?_)
            · refine Kept.trans ?_ (State.sendNack_kept ..)
              refine Kept.trans ?_ (State.unreceive_kept ..)
              exact h4
            · refine Kept.trans ?_ (State.connBroken_kept ..)
              refine Kept.trans ?_ (State.sendNack_kept ..)
              exact h8

theorem State.epochSwitch_kept (s : State) (n : Nat) : Kept s (State.epochSwitch s n) := by
  unfold State.epochSwitch
  lift_lets
  intro x0
  clear_value x0
  intro x1
  clear_value x1
  intro x2
  have h3 : Kept s x2 := by
    unfold x2
    refine Kept.trans ?_ (State.setCx_kept ..)
    exact Kept.refl _
  clear_value x2
  intro x4
  have h5 : Kept s x4 := by
    unfold x4
    refine Kept.trans ?_ (State.wr_kept ..)
    refine Kept.trans ?_ (State.wr_kept ..)
    refine Kept.trans ?_ (State.wr_kept ..)
    exact h3
  clear_value x4
  intro x6
  have h7 : Kept s x6 := by
    unfold x6
    refine Kept.trans ?_ (State.wr_kept ..)
    exact h5
  clear_value x6
  intro x8
  clear_value x8
  intro x9
  have h10 : Kept s x9 := by
    unfold x9
    refine Kept.trans ?_ (State.setTx_kept ..)
    refine Kept.trans ?_ (State.setTx_kept ..)
    exact h7
  clear_value x9
  intro x11
  have h12 : Kept s x11 := by
    unfold x11
    refine Kept.trans ?_ (State.setRx_kept ..)
    refine Kept.trans ?_ (State.setRx_kept ..)
    exact h10
  clear_value x11
  intro x13
  have h14 : Kept s x13 := by
    unfold x13
    refine Kept.trans ?_ (State.postEvent_kept ..)
    exact h12
  clear_value x13
  refine Kept.trans ?_ (State.txWaiting_kept ..)
  refine Kept.trans ?_ (State.rtxSync_kept ..)
  exact h14

theorem State.rekeyGoOn_kept (s : State) (n : Nat) : Kept s (State.rekeyGoOn s n) := by
  unfold State.rekeyGoOn
  refine Kept.ite (fun z0 => ?_) (fun z0 => ?_)
  · refine Kept.ite (fun z2 => ?_) (fun z2 => ?_)
    · refine Kept.ite (fun z4 => ?_) (fun z4 => ?_)
      · exact Kept.refl _
      · refine Kept.trans ?_ (State.setCx_kept ..)
        refine Kept.trans ?_ (State.sendAck_kept ..)
        exact Kept.refl _
    · refine Kept.ite (fun z10 => ?_) (fun z10 => ?_)
      · refine Kept.trans ?_ (State.sendAck_kept ..)
        refine Kept.trans ?_ (State.epochSwitch_kept ..)
        exact Kept.refl _
      · exact Kept.refl _
  · exact Kept.refl _

theorem State.rekeyStart_kept (s : State) (n : Nat) (go : Bool) : Kept s (State.rekeyStart s n go) := by
  unfold State.rekeyStart
  refine Kept.ite (fun z0 => ?_) (fun z0 => ?_)
  · refine Kept.trans ?_ (State.rekeyGoOn_kept ..)
    refine Kept.trans ?_ (State.wr_kept ..)
    exact Kept.refl _
  · exact Kept.refl _

theorem State.keySync_kept (s : State) : Kept s (State.keySync s) := by
  unfold State.keySync
  refine Kept.trans ?_ (Kept.foldl (fun t0 x1 => ?_) _ _)
  · exact Kept.refl _
  · refine Kept.trans ?_ (State.rekeyStart_kept ..)
    exact Kept.refl _

theorem State.transAcked_kept (s : State) (n : Nat) : Kept s (State.transAcked s n) := by
  unfold State.transAcked
  lift_lets
  intro x0
  clear_value x0
  refine Kept.trans ?_ (Kept.foldl (fun t1 x2 => ?_) _ _)
  · exact Kept.refl _
  · refine Kept.trans ?_ (State.canvasRevoke_kept ..)
    refine Kept.trans ?_ (State.setMtch_kept ..)
    exact Kept.refl _

theorem State.ackApply_kept (s : State) (n : Nat) (reply : Bool) (cum : Nat) (sack : Nat) (ce : Bool) : Kept s (State.ackApply s n reply cum sack ce) := by
  unfold State.ackApply
  lift_lets
  intro x0
  clear_value x0
  intro x1
  clear_value x1
  intro x2
  clear_value x2
  intro x3
  clear_value x3
  intro x4
  clear_value x4
  intro x5
  have h6 : Kept s x5 := by
    unfold x5
    refine Kept.trans ?_ (State.rtxSync_kept ..)
    refine Kept.trans ?_ (State.setTx_kept ..)
    exact Kept.refl _
  clear_value x5
  intro x10
  clear_value x10
  intro x11
  have h12 : Kept s x11 := by
    unfold x11
    refine Kept.trans ?_ (Kept.foldl (fun t13 x14 => ?_) _ _)
    · exact h6
    · refine Kept.trans ?_ (State.entryCheck_kept ..)
      exact Kept.refl _
  clear_value x11
  intro x19
  have h20 : Kept s x19 := by
    unfold x19
    refine Kept.ite (fun z21 => ?_) (fun z21 => ?_)
    · refine Kept.trans ?_ (State.transAcked_kept ..)
      exact h12
    · exact h12
  clear_value x19
  intro x26
  have h27 : Kept s x26 := by
    unfold x26
    refine Kept.ite (fun z28 => ?_) (fun z28 => ?_)
    · refine Kept.trans ?_ (State.notice_kept ..)
      exact h20
    · exact h20
  clear_value x26
  refine Kept.trans ?_ (State.rekeyStart_kept ..)
  refine Kept.trans ?_ (State.rekeyGoOn_kept ..)
  refine Kept.trans ?_ (State.txWaiting_kept ..)
  exact h27

theorem State.ackIn_kept (s : State) (n : Nat) (p : Packet) : Kept s (State.ackIn s n p) := by
  unfold State.ackIn
  lift_lets
  intro x0
  clear_value x0
  intro x1
  clear_value x1
  intro x2
  clear_value x2
  intro x3
  clear_value x3
  intro x4
  clear_value x4
  intro x5
  clear_value x5
  intro x6
  intro x7
  have h8 : Kept s x7 := by
    unfold x7
    refine Kept.trans ?_ (State.setTx_kept ..)
    exact Kept.refl _
  clear_value x7
  intro x9
  have h10 : Kept s x9 := by
    unfold x9
    refine Kept.ite (fun z11 => ?_) (fun z11 => ?_)
    · refine Kept.trans ?_ (State.setCx_kept ..)
      exact h8
    · exact h8
  clear_value x9
  intro x12
  have h13 : Kept s x12 := by
    unfold x12
    refine Kept.ite (fun z14 => ?_) (fun z14 => ?_)
    · split
      · rename_i z15 z16 z17
        refine Kept.trans ?_ (State.handNext_kept ..)
        refine Kept.trans ?_ (State.resolve_kept ..)
        exact h10
      · rename_i z18 z19
        exact h10
    · exact h10
  clear_value x12
  intro x20
  have h21 : Kept s x20 := by
    unfold x20
    refine Kept.trans ?_ (State.ackApply_kept ..)
    exact h13
  clear_value x20
  refine Kept.ite (fun z22 => ?_) (fun z22 => ?_)
  · refine Kept.ite (fun z23 => ?_) (fun z23 => ?_)
    · refine Kept.trans ?_ (State.epochSwitch_kept ..)
      exact Kept.refl _
    · exact Kept.refl _
  · refine Kept.ite (fun z24 => ?_) (fun z24 => ?_)
    · refine Kept.trans ?_ (State.setTx_kept ..)
      exact Kept.refl _
    · refine Kept.ite (fun z25 => ?_) (fun z25 => ?_)
      · refine Kept.trans ?_ (State.count_kept ..)
        exact Kept.refl _
      · refine Kept.ite (fun z26 => ?_) (fun z26 => ?_)
        · refine Kept.trans ?_ (State.rekeyGoOn_kept ..)
          refine Kept.trans ?_ (State.setCx_kept ..)
          refine Kept.trans ?_ (State.wr_kept ..)
          exact h21
        · refine Kept.trans ?_ (State.rekeyStart_kept ..)
          exact h21

theorem State.rtsRefused_kept (s : State) (o : Nat × Nat) (p : Packet) : Kept s (State.rtsRefused s o p) := by
  unfold State.rtsRefused
  refine Kept.ite (fun z0 => ?_) (fun z0 => ?_)
  · refine Kept.trans ?_ (Kept.foldl (fun t1 x2 => ?_) _ _)
    · exact Kept.refl _
    · refine Kept.trans ?_ (State.canvasRevoke_kept ..)
      exact Kept.refl _
  · exact Kept.refl _

theorem State.nackIn_kept (s : State) (n : Nat) (p : Packet) : Kept s (State.nackIn s n p) := by
  unfold State.nackIn
  lift_lets
  intro x0
  clear_value x0
  intro x1
  clear_value x1
  intro x2
  clear_value x2
  intro x3
  have h4 : Kept s x3 := by
    unfold x3
    refine Kept.trans ?_ (State.setTx_kept ..)
    exact Kept.refl _
  clear_value x3
  intro x5
  have h6 : Kept s x5 := by
    unfold x5
    refine Kept.trans ?_ (State.setTx_kept ..)
    exact h4
  clear_value x5
  intro x7
  clear_value x7
  intro x8
  have h9 : Kept s x8 := by
    unfold x8
    refine Kept.trans ?_ (State.setCx_kept ..)
    exact h6
  clear_value x8
  intro x10
  have h11 : Kept s x10 := by
    unfold x10
    split
    · rename_i z12 z13
      split
      · rename_i z14 z15 z16
        refine Kept.trans ?_ (State.readEnd_kept ..)
        exact h9
      · rename_i z17 z18
        exact h9
    · rename_i z19
      exact h6
  clear_value x10
  refine Kept.ite (fun z20 => ?_) (fun z20 => ?_)
  · refine Kept.trans ?_ (State.setTx_kept ..)
    exact h4
  · refine Kept.ite (fun z21 => ?_) (fun z21 => ?_)
    · split
      · rename_i z22 z23
        refine Kept.trans ?_ (State.sendAck_kept ..)
        exact h4
      · rename_i z24 z25 z26
        lift_lets
        intro x27
        have h28 : Kept s x27 := by
          unfold x27
          split
          · rename_i z29 z30 z31
            refine Kept.trans ?_ (State.rtsRefused_kept ..)
            refine Kept.trans ?_ (State.refuseEntry_kept ..)
            exact h11
          · rename_i z32 z33
            exact h11
        clear_value x27
        refine Kept.trans ?_ (State.notice10_kept ..)
        refine Kept.trans ?_ (State.sendAck_kept ..)
        exact h28
    · refine Kept.trans ?_ (State.connBroken_kept ..)
      refine Kept.trans ?_ (State.notice10_kept ..)
      exact h4

theorem State.deliver_kept (s : State) (n : Nat) (p : Packet) (mark : Bool) : Kept s (State.deliver s n p mark) := by
  unfold State.deliver
  lift_lets
  intro x0
  clear_value x0
  intro x1
  clear_value x1
  intro x2
  clear_value x2
  intro x3
  have h4 : ∀ y1 y2 y3, Kept y1 (x3 y1 y2 y3) := by
    intro y5 y6 y7
    unfold x3
    refine Kept.trans ?_ (State.setRx_kept ..)
    exact Kept.refl _
  clear_value x3
  intro x8
  clear_value x8
  intro x9
  have h10 : Kept s x9 := by
    unfold x9
    refine Kept.ite (fun z11 => ?_) (fun z11 => ?_)
    · split
      · rename_i z12 z13
        refine Kept.trans ?_ (State.count_kept ..)
        refine Kept.trans ?_ (State.count_kept ..)
        exact Kept.refl _
      · rename_i z14 z15 z16
        refine Kept.trans ?_ (State.sendAck_kept ..)
        refine Kept.trans ?_ (State.tally_kept ..)
        refine Kept.trans ?_ (h4 ..)
        refine Kept.trans ?_ (State.tideWrite_kept ..)
        exact Kept.refl _
    · refine Kept.trans ?_ (State.handOver_kept ..)
      exact h4 ..
  clear_value x9
  refine Kept.ite (fun z17 => ?_) (fun z17 => ?_)
  · refine Kept.trans ?_ (State.sendAck_kept ..)
    exact h10
  · exact h10

theorem State.connArrive_kept (s : State) (n : Nat) (p : Packet) (mark : Bool) : Kept s (State.connArrive s n p mark) := by
  unfold State.connArrive
  lift_lets
  intro x0
  have h1 : Kept s x0 := by
    unfold x0
    refine Kept.trans ?_ (State.structSeen_kept ..)
    exact Kept.refl _
  clear_value x0
  intro x2
  clear_value x2
  intro x3
  clear_value x3
  refine Kept.ite (fun z4 => ?_) (fun z4 => ?_)
  · refine Kept.trans ?_ (State.structRaise_kept ..)
    exact h1
  · refine Kept.ite (fun z5 => ?_) (fun z5 => ?_)
    · refine Kept.trans ?_ (State.latentRaise_kept ..)
      exact h1
    · refine Kept.ite (fun z6 => ?_) (fun z6 => ?_)
      · refine Kept.ite (fun z7 => ?_) (fun z7 => ?_)
        · refine Kept.trans ?_ (State.setCx_kept ..)
          refine Kept.trans ?_ (State.sendNack_kept ..)
          exact h1
        · exact h1
      · refine Kept.ite (fun z8 => ?_) (fun z8 => ?_)
        · exact h1
        · refine Kept.ite (fun z9 => ?_) (fun z9 => ?_)
          · refine Kept.trans ?_ (State.count_kept ..)
            exact h1
          · split
            · rename_i z10 z11
              refine Kept.trans ?_ (State.count_kept ..)
              exact h1
            · rename_i z12 z13 z14
              lift_lets
              intro x15
              clear_value x15
              intro x16
              clear_value x16
              intro x17
              clear_value x17
              intro x18
              have h19 : Kept s x18 := by
                unfold x18
                refine Kept.ite (fun z20 => ?_) (fun z20 => ?_)
                · refine Kept.trans ?_ (State.setRx_kept ..)
                  exact h1
                · exact h1
              clear_value x18
              intro x21
              have h22 : ∀ y1, Kept y1 (x21 y1) := by
                intro y23
                unfold x21
                refine Kept.trans ?_ (State.sendAck_kept ..)
                refine Kept.trans ?_ (State.count_kept ..)
                exact Kept.refl _
              clear_value x21
              intro x24
              have h25 : Kept s x24 := by
                unfold x24
                refine Kept.trans ?_ (State.count_kept ..)
                exact h19
              clear_value x24
              refine Kept.ite (fun z26 => ?_) (fun z26 => ?_)
              · refine Kept.trans ?_ (State.ackIn_kept ..)
                refine Kept.ite (fun z27 => ?_) (fun z27 => ?_)
                · exact h1
                · refine Kept.trans ?_ (State.meterRx_kept ..)
                  exact h1
              · refine Kept.ite (fun z28 => ?_) (fun z28 => ?_)
                · refine Kept.trans ?_ (State.nackIn_kept ..)
                  refine Kept.trans ?_ (State.meterRx_kept ..)
                  exact h1
                · split
                  · rename_i z29 z30 z31
                    split
                    · rename_i z32 z33 z34
                      refine Kept.ite (fun z35 => ?_) (fun z35 => ?_)
                      · refine Kept.trans ?_ (State.sendAck_kept ..)
                        refine Kept.trans ?_ (State.sendNack_kept ..)
                        exact h19
                      · refine Kept.trans ?_ (State.sendNack_kept ..)
                        exact h19
                    · rename_i z36 z37
                      refine Kept.trans ?_ (h22 ..)
                      exact h19
                  · rename_i z38 z39
                    refine Kept.ite (fun z40 => ?_) (fun z40 => ?_)
                    · refine Kept.trans ?_ (h22 ..)
                      exact h19
                    · refine Kept.ite (fun z41 => ?_) (fun z41 => ?_)
                      · refine Kept.ite (fun z42 => ?_) (fun z42 => ?_)
                        · refine Kept.trans ?_ (State.sendAck_kept ..)
                          exact h25
                        · exact h25
                      · refine Kept.trans ?_ (State.deliver_kept ..)
                        exact h19

theorem State.rtoFire_kept (s : State) (n : Nat) (reply : Bool) : Kept s (State.rtoFire s n reply) := by
  unfold State.rtoFire
  lift_lets
  intro x0
  clear_value x0
  intro x1
  clear_value x1
  intro x2
  have h3 : Kept s x2 := by
    unfold x2
    refine Kept.trans ?_ (State.setTx_kept ..)
    exact Kept.refl _
  clear_value x2
  refine Kept.ite (fun z6 => ?_) (fun z6 => ?_)
  · refine Kept.trans ?_ (State.connBroken_kept ..)
    exact h3
  · split
    · rename_i z11 z12
      refine Kept.trans ?_ (State.setCx_kept ..)
      refine Kept.trans ?_ (State.sendAck_kept ..)
      exact h3
    · rename_i z16 z17
      refine Kept.trans ?_ (Kept.foldl (fun t18 x19 => ?_) _ _)
      · exact h3
      · refine Kept.trans ?_ (State.resend_kept ..)
        exact Kept.refl _

theorem State.setClaims_kept (s : State) (n : Nat) (l : List Claim) : Kept s (State.setClaims s n l) := by
  unfold State.setClaims
  lift_lets
  intro x0
  clear_value x0
  intro x1
  have h2 : Kept s x1 := by
    unfold x1
    refine Kept.trans ?_ (Kept.record ..)
    exact Kept.refl _
  clear_value x1
  refine Kept.trans ?_ (State.wr_kept ..)
  exact h2

theorem State.semTake_kept (s : State) (n : Nat) (m : Mst) : Kept s (State.semTake s n m).1 := by
  refine KeptFst.out ?_
  unfold State.semTake
  lift_lets
  intro x0
  clear_value x0
  refine KeptFst.pair ?_
  refine Kept.trans ?_ (State.wr_kept ..)
  refine Kept.trans ?_ (State.wr_kept ..)
  refine Kept.trans ?_ (State.wr_kept ..)
  exact Kept.refl _

theorem State.semFree_kept (s : State) (n : Nat) : Kept s (State.semFree s n) := by
  unfold State.semFree
  refine Kept.trans ?_ (State.wr_kept ..)
  refine Kept.trans ?_ (State.wr_kept ..)
  exact Kept.refl _

theorem State.semRelease_kept (s : State) (n : Nat) (m : Mst) : Kept s (State.semRelease s n m).1 := by
  refine KeptFst.out ?_
  unfold State.semRelease
  refine KeptFst.ite (fun z0 => ?_) (fun z0 => ?_)
  · refine KeptFst.pair ?_
    refine Kept.trans ?_ (State.semFree_kept ..)
    exact Kept.refl _
  · refine KeptFst.pair ?_
    refine Kept.trans ?_ (State.raise_kept ..)
    refine Kept.trans ?_ (State.count_kept ..)
    exact Kept.refl _

theorem State.semPoint_kept (s : State) (n : Nat) (l : List Claim) (w : Claim) : Kept s (State.semPoint s n l w) := by
  unfold State.semPoint
  lift_lets
  intro x0
  clear_value x0
  intro x1
  clear_value x1
  refine Kept.trans ?_ (Kept.record ..)
  exact Kept.refl _

theorem State.semTry_kept (s : State) (n : Nat) (m : Mst) : Kept s (State.semTry s n m).1 := by
  unfold State.semTry
  lift_lets
  intro x0
  clear_value x0
  intro x1
  clear_value x1
  refine KeptFst.out ?_
  refine KeptFst.ite (fun z2 => ?_) (fun z2 => ?_)
  · refine KeptFst.pair ?_
    exact Kept.refl _
  · refine KeptFst.ite (fun z3 => ?_) (fun z3 => ?_)
    · refine KeptFst.pair ?_
      exact Kept.refl _
    · refine KeptFst.ite (fun z4 => ?_) (fun z4 => ?_)
      · refine KeptFst.trans ?_ (State.semTake_kept ..)
        exact Kept.refl _
      · refine KeptFst.ite (fun z5 => ?_) (fun z5 => ?_)
        · refine KeptFst.trans ?_ (State.semTake_kept ..)
          refine Kept.trans ?_ (State.semPoint_kept ..)
          exact Kept.refl _
        · refine KeptFst.pair ?_
          exact Kept.refl _

theorem State.semAbandon_kept (s : State) (p : Mst → Bool) : Kept s (State.semAbandon s p) := by
  unfold State.semAbandon
  lift_lets
  intro x0
  clear_value x0
  intro x1
  have h2 : Kept s x1 := by
    unfold x1
    refine Kept.trans ?_ (Kept.record ..)
    exact Kept.refl _
  clear_value x1
  intro x5
  have h6 : Kept s x5 := by
    unfold x5
    refine Kept.trans ?_ (Kept.foldl (fun t7 x8 => ?_) _ _)
    · exact h2
    · refine Kept.ite (fun z11 => ?_) (fun z11 => ?_)
      · refine Kept.trans ?_ (State.count_kept ..)
        refine Kept.trans ?_ (State.wr_kept ..)
        refine Kept.trans ?_ (State.semFree_kept ..)
        exact Kept.refl _
      · exact Kept.refl _
  clear_value x5
  refine Kept.trans ?_ (Kept.foldl (fun t18 x19 => ?_) _ _)
  · exact h6
  · refine Kept.ite (fun z22 => ?_) (fun z22 => ?_)
    · refine Kept.trans ?_ (State.setClaims_kept ..)
      exact Kept.refl _
    · exact Kept.refl _

theorem State.setG_kept (s : State) (c : Nat) (d : Nat) (v : Word) : Kept s (State.setG s c d v) := by
  unfold State.setG
  refine Kept.ite (fun z0 => ?_) (fun z0 => ?_)
  · exact Kept.refl _
  · refine Kept.trans ?_ (State.set_kept ..)
    exact Kept.refl _

theorem State.postTargeted_kept (s : State) (c : Nat) (e : Event) : Kept s (State.postTargeted s c e) := by
  unfold State.postTargeted
  refine Kept.ite (fun z0 => ?_) (fun z0 => ?_)
  · refine Kept.trans ?_ (State.setCtx_kept ..)
    refine Kept.trans ?_ (State.count_kept ..)
    exact Kept.refl _
  · refine Kept.trans ?_ (State.setCtx_kept ..)
    exact Kept.refl _

theorem State.eventsLost_kept (s : State) (c : Nat) : Kept s (State.eventsLost s c) := by
  unfold State.eventsLost
  lift_lets
  intro x0
  clear_value x0
  refine Kept.ite (fun z1 => ?_) (fun z1 => ?_)
  · exact Kept.refl _
  · refine Kept.trans ?_ (State.postTargeted_kept ..)
    refine Kept.trans ?_ (State.setCtx_kept ..)
    exact Kept.refl _

theorem State.ctxReport_kept (s : State) (c : Nat) (r : Report) : Kept s (State.ctxReport s c r) := by
  unfold State.ctxReport
  lift_lets
  intro x0
  clear_value x0
  intro x1
  have h2 : Kept s x1 := by
    unfold x1
    refine Kept.trans ?_ (State.setCtx_kept ..)
    exact Kept.refl _
  clear_value x1
  split
  · rename_i z6 z7
    exact Kept.refl _
  · rename_i z9 z10 z11
    refine Kept.ite (fun z12 => ?_) (fun z12 => ?_)
    · exact Kept.refl _
    · split
      · rename_i z16 z17 z18
        refine Kept.trans ?_ (State.lateReport_kept ..)
        exact h2
      · rename_i z21 z22
        split
        · rename_i z24 z25 z26
          refine Kept.ite (fun z27 => ?_) (fun z27 => ?_)
          · refine Kept.trans ?_ (State.connReport_kept ..)
            exact h2
          · exact h2
        · rename_i z32 z33
          exact h2

theorem State.packetEnd_kept (s : State) (c : Nat) : Kept s (State.packetEnd s c) := by
  unfold State.packetEnd
  lift_lets
  intro x0
  clear_value x0
  split
  · rename_i z2 z3 z4
    lift_lets
    intro x5
    have h6 : Kept s x5 := by
      unfold x5
      refine Kept.ite (fun z7 => ?_) (fun z7 => ?_)
      · refine Kept.trans ?_ (State.count_kept ..)
        exact Kept.refl _
      · exact Kept.refl _
    clear_value x5
    refine Kept.ite (fun z12 => ?_) (fun z12 => ?_)
    · exact Kept.refl _
    · refine Kept.trans ?_ (State.ctxReport_kept ..)
      exact h6
  · rename_i z17 z18
    exact Kept.refl _

theorem State.activationEnd_kept (s : State) (c : Nat) : Kept s (State.activationEnd s c) := by
  unfold State.activationEnd
  lift_lets
  intro x0
  have h1 : Kept s x0 := by
    unfold x0
    refine Kept.trans ?_ (State.packetEnd_kept ..)
    exact Kept.refl _
  clear_value x0
  intro x4
  have h5 : Kept s x4 := by
    unfold x4
    refine Kept.trans ?_ (State.setCtx_kept ..)
    exact h1
  clear_value x4
  refine Kept.trans ?_ (State.wr_kept ..)
  refine Kept.trans ?_ (State.wr_kept ..)
  exact h5

theorem State.wardenLost_kept (s : State) (c : Nat) : Kept s (State.wardenLost s c) := by
  unfold State.wardenLost
  refine Kept.ite (fun z0 => ?_) (fun z0 => ?_)
  · refine Kept.trans ?_ (State.raise_kept ..)
    exact Kept.refl _
  · exact Kept.refl _

theorem State.ctxHalt_kept (s : State) (c : Nat) (src : Nat) : Kept s (State.ctxHalt s c src) := by
  unfold State.ctxHalt
  refine Kept.trans ?_ (State.wardenLost_kept ..)
  refine Kept.trans ?_ (State.raise_kept ..)
  refine Kept.trans ?_ (State.setCtx_kept ..)
  refine Kept.trans ?_ (State.wr_kept ..)
  exact Kept.refl _

theorem State.tagTrap_kept (s : State) (c code : Nat) : Kept s (State.tagTrap s c code) := by
  unfold State.tagTrap
  refine Kept.ite (fun z0 => ?_) (fun z0 => ?_)
  · refine Kept.trans ?_ (State.setCtx_kept ..)
    exact Kept.refl _
  · exact Kept.refl _

theorem State.trap_kept (s : State) (c code : Nat) (value : Nat) : Kept s (State.trap s c code value) := by
  unfold State.trap
  lift_lets
  intro x0
  have h1 : Kept s x0 := by
    unfold x0
    refine Kept.trans ?_ (State.tagTrap_kept ..)
    exact Kept.refl _
  clear_value x0
  intro x2
  have h3 : Kept s x2 := by
    unfold x2
    refine Kept.trans ?_ (State.wr_kept ..)
    exact h1
  clear_value x2
  intro x4
  have h5 : Kept s x4 := by
    unfold x4
    refine Kept.trans ?_ (State.wr_kept ..)
    refine Kept.trans ?_ (State.wr_kept ..)
    exact h3
  clear_value x4
  refine Kept.ite (fun z6 => ?_) (fun z6 => ?_)
  · refine Kept.trans ?_ (State.ctxHalt_kept ..)
    exact h1
  · split
    · rename_i z7 z8
      refine Kept.trans ?_ (State.ctxHalt_kept ..)
      exact h1
    · rename_i z9 z10 z11
      refine Kept.trans ?_ (State.wr_kept ..)
      refine Kept.trans ?_ (State.wr_kept ..)
      refine Kept.trans ?_ (State.wr_kept ..)
      exact h5

theorem State.ctxReset_kept (s : State) (c : Nat) : Kept s (State.ctxReset s c) := by
  unfold State.ctxReset
  lift_lets
  intro x0
  have h1 : Kept s x0 := by
    unfold x0
    refine Kept.trans ?_ (State.packetEnd_kept ..)
    exact Kept.refl _
  clear_value x0
  intro x2
  have h3 : Kept s x2 := by
    unfold x2
    refine Kept.trans ?_ (State.resetRegs_kept ..)
    exact h1
  clear_value x2
  intro x4
  have h5 : Kept s x4 := by
    unfold x4
    refine Kept.trans ?_ (State.setCtx_kept ..)
    exact h3
  clear_value x4
  intro x6
  have h7 : Kept s x6 := by
    unfold x6
    refine Kept.trans ?_ (State.wr_kept ..)
    refine Kept.trans ?_ (State.wr_kept ..)
    exact h5
  clear_value x6
  intro x8
  clear_value x8
  intro x9
  clear_value x9
  refine Kept.trans ?_ (State.wardenLost_kept ..)
  refine Kept.trans ?_ (State.cohCancel_kept ..)
  refine Kept.trans ?_ (State.semAbandon_kept ..)
  exact h7

theorem State.atDispatch_kept (s : State) (e : Event) : Kept s (State.atDispatch s e).1 := by
  refine KeptFst.out ?_
  unfold State.atDispatch
  refine KeptFst.ite (fun z0 => ?_) (fun z0 => ?_)
  · refine KeptFst.pair ?_
    exact Kept.refl _
  · refine KeptFst.ite (fun z4 => ?_) (fun z4 => ?_)
    · refine KeptFst.pair ?_
      refine Kept.trans ?_ (State.setCx_kept ..)
      exact Kept.refl _
    · refine KeptFst.ite (fun z9 => ?_) (fun z9 => ?_)
      · split
        · rename_i z12 z13 z14 z15 z16
          refine KeptFst.pair ?_
          refine Kept.trans ?_ (State.setCx_kept ..)
          exact Kept.refl _
        · rename_i z20 z21
          refine KeptFst.pair ?_
          exact Kept.refl _
      · refine KeptFst.pair ?_
        exact Kept.refl _

theorem State.loadWindow_kept (s : State) (c : Nat) (e : Event) : Kept s (State.loadWindow s c e) := by
  unfold State.loadWindow
  lift_lets
  intro x0
  have h1 : Kept s x0 := by
    unfold x0
    refine Kept.trans ?_ (State.set_kept ..)
    refine Kept.trans ?_ (State.set_kept ..)
    refine Kept.trans ?_ (State.set_kept ..)
    refine Kept.trans ?_ (State.set_kept ..)
    exact Kept.refl _
  clear_value x0
  intro x7
  have h8 : Kept s x7 := by
    unfold x7
    refine Kept.trans ?_ (State.set_kept ..)
    refine Kept.trans ?_ (State.set_kept ..)
    refine Kept.trans ?_ (State.set_kept ..)
    refine Kept.trans ?_ (State.set_kept ..)
    exact h1
  clear_value x7
  split
  · rename_i z15 z16 z17
    refine Kept.trans ?_ (Kept.foldl (fun t18 x19 => ?_) _ _)
    · exact h8
    · refine Kept.trans ?_ (State.set_kept ..)
      exact Kept.refl _
  · rename_i z24 z25
    exact h8

theorem State.giveEvent_kept (s : State) (c : Nat) (e : Event) : Kept s (State.giveEvent s c e) := by
  unfold State.giveEvent
  split
  rename_i z1 z2 z3 z4
  lift_lets
  intro x5
  have h6 : Kept s x5 := by
    unfold x5
    refine Kept.ite (fun z7 => ?_) (fun z7 => ?_)
    · refine Kept.trans ?_ (State.tally_kept ..)
      refine Kept.eqn z4 ?_
      refine Kept.trans ?_ (State.atDispatch_kept ..)
      exact Kept.refl _
    · refine Kept.eqn z4 ?_
      refine Kept.trans ?_ (State.atDispatch_kept ..)
      exact Kept.refl _
  clear_value x5
  intro x16
  have h17 : Kept s x16 := by
    unfold x16
    refine Kept.ite (fun z18 => ?_) (fun z18 => ?_)
    · refine Kept.trans ?_ (State.packetEnd_kept ..)
      exact h6
    · exact h6
  clear_value x16
  intro x23
  have h24 : Kept s x23 := by
    unfold x23
    refine Kept.trans ?_ (State.setCtx_kept ..)
    refine Kept.trans ?_ (State.loadWindow_kept ..)
    exact h17
  clear_value x23
  intro x28
  have h29 : Kept s x28 := by
    unfold x28
    refine Kept.trans ?_ (State.wr_kept ..)
    exact h24
  clear_value x28
  intro x32
  have h33 : Kept s x32 := by
    unfold x32
    refine Kept.trans ?_ (State.setCtx_kept ..)
    refine Kept.trans ?_ (State.loadWindow_kept ..)
    exact h6
  clear_value x32
  intro x37
  have h38 : Kept s x37 := by
    unfold x37
    refine Kept.trans ?_ (State.wr_kept ..)
    exact h33
  clear_value x37
  intro x41
  have h42 : Kept s x41 := by
    unfold x41
    refine Kept.trans ?_ (State.wr_kept ..)
    exact h38
  clear_value x41
  split
  · rename_i z46 z47 z48 z49
    refine Kept.trans ?_ (State.wr_kept ..)
    refine Kept.trans ?_ (State.setG_kept ..)
    exact h29
  · rename_i z53 z54
    refine Kept.trans ?_ (State.wr_kept ..)
    refine Kept.trans ?_ (State.tally_kept ..)
    exact h42

theorem State.stallEnd_kept (s : State) (c : Nat) : Kept s (State.stallEnd s c) := by
  unfold State.stallEnd
  split
  · rename_i z0 z1 z2 z3
    refine Kept.trans ?_ (State.wr_kept ..)
    refine Kept.trans ?_ (State.setG_kept ..)
    refine Kept.trans ?_ (State.setCtx_kept ..)
    exact Kept.refl _
  · rename_i z4 z5
    refine Kept.trans ?_ (State.setCtx_kept ..)
    exact Kept.refl _

theorem State.stallSync_kept (s : State) : Kept s (State.stallSync s) := by
  unfold State.stallSync
  refine Kept.trans ?_ (Kept.foldl (fun t0 x1 => ?_) _ _)
  · exact Kept.refl _
  · refine Kept.ite (fun z2 => ?_) (fun z2 => ?_)
    · refine Kept.trans ?_ (State.stallEnd_kept ..)
      exact Kept.refl _
    · exact Kept.refl _

theorem State.palWrite_kept (s : State) (key : Nat) (bs : List Byte) : Kept s (State.palWrite s key bs) :=
  ⟨rfl, fun i => ⟨i.mem, Memory.writeBytes_wf _ _ _ i.pal, i.regs⟩, Nat.le_refl _⟩

theorem State.palCheck_kept (s : State) (key n : Nat) : Kept s (State.palCheck s key n) := by
  unfold State.palCheck
  refine Kept.trans ?_ (Kept.foldl (fun t0 x1 => ?_) _ _)
  · exact Kept.refl _
  · refine Kept.ite (fun z2 => ?_) (fun z2 => ?_)
    · refine Kept.trans ?_ (State.raise_kept ..)
      refine Kept.trans ?_ (Kept.record ..)
      exact Kept.refl _
    · exact Kept.refl _

theorem State.palFound_kept (s : State) (key n : Nat) (who : Option Nat) : Kept s (State.palFound s key n who) := by
  unfold State.palFound
  lift_lets
  intro x0
  clear_value x0
  intro x1
  clear_value x1
  refine Kept.trans ?_ (Kept.foldl (fun t2 x3 => ?_) _ _)
  · refine Kept.trans ?_ (State.engError_kept ..)
    exact Kept.refl _
  · lift_lets
    intro x4
    clear_value x4
    split
    · rename_i z5 z6 z7
      refine Kept.ite (fun z8 => ?_) (fun z8 => ?_)
      · exact Kept.refl _
      · refine Kept.trans ?_ (State.postTargeted_kept ..)
        exact Kept.refl _
    · rename_i z9 z10
      exact Kept.refl _

theorem State.setTr_kept (s : State) (t : Nat) (f : TreeSt → TreeSt) : Kept s (State.setTr s t f) := by
  unfold State.setTr
  refine Kept.trans ?_ (Kept.record ..)
  exact Kept.refl _

theorem State.treeSend_kept (s : State) (t ptype dst inst : Nat) (c : Coll) (opmod seq off tag : Nat) (payload : List Byte)
    (flag : Bool) : Kept s (State.treeSend s t ptype dst inst c opmod seq off tag payload flag) := by
  unfold State.treeSend
  refine Kept.trans ?_ (State.launch_kept ..)
  exact Kept.refl _

theorem State.setInst_kept (s : State) (t : Nat) (k : Nat) (mc : Bool) (f : Inst → Inst) : Kept s (State.setInst s t k mc f) := by
  unfold State.setInst
  refine Kept.trans ?_ (State.setTr_kept ..)
  exact Kept.refl _

theorem State.openInst_kept (s : State) (t k : Nat) (mc : Bool) (c : Coll) (len : Nat) (loose : Bool) : Kept s (State.openInst s t k mc c len loose) := by
  unfold State.openInst
  refine Kept.ite (fun z0 => ?_) (fun z0 => ?_)
  · exact Kept.refl _
  · refine Kept.trans ?_ (State.setTr_kept ..)
    exact Kept.refl _

theorem State.kindSet_kept (s : State) (t k : Nat) (c : Coll) (loose : Bool) : Kept s (State.kindSet s t k c loose) := by
  unfold State.kindSet
  lift_lets
  intro x0
  clear_value x0
  refine Kept.ite (fun z1 => ?_) (fun z1 => ?_)
  · exact Kept.refl _
  · refine Kept.trans ?_ (State.setTr_kept ..)
    exact Kept.refl _

theorem State.prune_kept (s : State) (t : Nat) (k : Nat) (mc : Bool) : Kept s (State.prune s t k mc) := by
  unfold State.prune
  refine Kept.trans ?_ (Kept.foldl (fun t0 x1 => ?_) _ _)
  · exact Kept.refl _
  · split
    · rename_i z5 z6 z7
      refine Kept.ite (fun z8 => ?_) (fun z8 => ?_)
      · lift_lets
        intro x10
        have h11 : Kept t0 x10 := by
          unfold x10
          refine Kept.trans ?_ (State.count_kept ..)
          refine Kept.trans ?_ (State.setInst_kept ..)
          exact Kept.refl _
        clear_value x10
        refine Kept.trans ?_ (State.postEvent_kept ..)
        exact h11
      · exact Kept.refl _
    · rename_i z18 z19
      exact Kept.refl _

theorem State.sendDown_kept (s : State) (t : Nat) (ptype : Nat) (k : Nat) (mc : Bool) (c : Coll) (opmod : Nat) (seq : Nat) (off : Nat) (tag : Nat) (payload : List Byte)
    (flag : Bool) : Kept s (State.sendDown s t ptype k mc c opmod seq off tag payload flag) := by
  unfold State.sendDown
  lift_lets
  intro x0
  have h1 : Kept s x0 := by
    unfold x0
    refine Kept.trans ?_ (State.prune_kept ..)
    exact Kept.refl _
  clear_value x0
  refine Kept.trans ?_ (Kept.foldl (fun t4 x5 => ?_) _ _)
  · exact h1
  · refine Kept.trans ?_ (State.treeSend_kept ..)
    exact Kept.refl _

theorem State.relay_kept (s : State) (p : Packet) (sender : Option Nat) : Kept s (State.relay s p sender) := by
  unfold State.relay
  lift_lets
  intro x0
  clear_value x0
  intro x1
  clear_value x1
  intro x2
  clear_value x2
  intro x3
  clear_value x3
  refine Kept.trans ?_ (Kept.foldl (fun t4 x5 => ?_) _ _)
  · exact Kept.refl _
  · lift_lets
    intro x6
    clear_value x6
    refine Kept.trans ?_ (State.launch_kept ..)
    exact Kept.refl _

theorem State.passDown_kept (s : State) (t entry : Nat) (p : Packet) : Kept s (State.passDown s t entry p) := by
  unfold State.passDown
  lift_lets
  intro x0
  have h1 : Kept s x0 := by
    unfold x0
    refine Kept.trans ?_ (State.prune_kept ..)
    exact Kept.refl _
  clear_value x0
  refine Kept.ite (fun z2 => ?_) (fun z2 => ?_)
  · exact h1
  · refine Kept.trans ?_ (State.relay_kept ..)
    exact h1

theorem State.memberEnd_kept (s : State) (m : Member) (status : Nat) (result : Nat) : Kept s (State.memberEnd s m status result) := by
  unfold State.memberEnd
  split
  · rename_i z1 z2 z3
    refine Kept.trans ?_ (State.finishEntry_kept ..)
    exact Kept.refl _
  · rename_i z6 z7 z8
    refine Kept.trans ?_ (State.postTargeted_kept ..)
    exact Kept.refl _

theorem State.instEnd_kept (s : State) (t : Nat) (k : Nat) (status : Nat) (result : Nat) : Kept s (State.instEnd s t k status result) := by
  unfold State.instEnd
  lift_lets
  intro x0
  clear_value x0
  intro x1
  have h2 : Kept s x1 := by
    unfold x1
    refine Kept.trans ?_ (Kept.foldl (fun t3 x4 => ?_) _ _)
    · exact Kept.refl _
    · refine Kept.trans ?_ (State.memberEnd_kept ..)
      exact Kept.refl _
  clear_value x1
  refine Kept.trans ?_ (State.setTr_kept ..)
  exact h2

theorem State.placeResult_kept (s : State) (c : Contrib) (off : Nat) (bs : List Byte) : Kept s (State.placeResult s c off bs) := by
  unfold State.placeResult
  split
  · rename_i z1 z2 z3 z4
    exact Kept.refl _
  · rename_i z6 z7 z8 z9
    refine Kept.ite (fun z10 => ?_) (fun z10 => ?_)
    · exact Kept.refl _
    · refine Kept.ite (fun z13 => ?_) (fun z13 => ?_)
      · refine Kept.trans ?_ (State.devWrite_kept ..)
        exact Kept.refl _
      · refine Kept.trans ?_ (State.dma_kept ..)
        exact Kept.refl _

theorem State.placeAll_kept (s : State) (t : Nat) (k : Nat) (off : Nat) (bs : List Byte) : Kept s (State.placeAll s t k off bs) := by
  unfold State.placeAll
  refine Kept.trans ?_ (Kept.foldl (fun t0 x1 => ?_) _ _)
  · exact Kept.refl _
  · refine Kept.trans ?_ (State.placeResult_kept ..)
    exact Kept.refl _

theorem State.treeTouch_kept (s : State) (t : Nat) : Kept s (State.treeTouch s t) := by
  unfold State.treeTouch
  refine Kept.trans ?_ (State.setTr_kept ..)
  exact Kept.refl _

theorem State.slotGate_kept (s : State) (t n : Nat) (k : AccKind) : Kept s (State.slotGate s t n k).1 := by
  unfold State.slotGate
  refine Kept.trans ?_ (State.gate_kept ..)
  exact Kept.refl _

theorem State.slotWrite_kept (s : State) (t : Nat) (x : Slot) : Kept s (State.slotWrite s t x) := by
  unfold State.slotWrite
  split
  rename_i z0 z1 z2 z3
  lift_lets
  intro x4
  have h5 : Kept s x4 := by
    unfold x4
    refine Kept.trans ?_ (State.setTr_kept ..)
    refine Kept.eqn z3 ?_
    refine Kept.trans ?_ (State.slotGate_kept ..)
    exact Kept.refl _
  clear_value x4
  intro x6
  clear_value x6
  intro x7
  clear_value x7
  intro x8
  have h9 : Kept s x8 := by
    unfold x8
    refine Kept.ite (fun z10 => ?_) (fun z10 => ?_)
    · exact h5
    · refine Kept.trans ?_ (State.devWrite_kept ..)
      exact h5
  clear_value x8
  refine Kept.ite (fun z11 => ?_) (fun z11 => ?_)
  · exact h5
  · refine Kept.trans ?_ (State.drawn_kept ..)
    refine Kept.trans ?_ (State.devWrite_kept ..)
    exact h9

theorem State.instPoison_kept (s : State) (t : Nat) (k : Nat) : Kept s (State.instPoison s t k) := by
  unfold State.instPoison
  refine Kept.trans ?_ (State.setInst_kept ..)
  exact Kept.refl _

theorem State.residueError_kept (s : State) (t : Nat) : Kept s (State.residueError s t) := by
  unfold State.residueError
  refine Kept.trans ?_ (State.raise_kept ..)
  refine Kept.trans ?_ (State.count_kept ..)
  exact Kept.refl _

theorem State.slotRead_kept (s : State) (t : Nat) (x : Slot) : Kept s (State.slotRead s t x).1 := by
  unfold State.slotRead
  refine KeptFst.out ?_
  refine KeptFst.ite (fun z0 => ?_) (fun z0 => ?_)
  · refine KeptFst.pair ?_
    exact Kept.refl _
  · split
    · rename_i z1 z2 z3
      refine KeptFst.pair ?_
      refine Kept.eqn z3 ?_
      refine Kept.trans ?_ (State.slotGate_kept ..)
      exact Kept.refl _
    · rename_i z4 z5 z6
      split
      rename_i z7 z8 z9 z10 z11
      lift_lets
      intro x12
      clear_value x12
      intro x13
      clear_value x13
      refine KeptFst.pair ?_
      refine Kept.ite (fun z14 => ?_) (fun z14 => ?_)
      · refine Kept.eqn z11 ?_
        refine Kept.trans ?_ (State.devRead_kept ..)
        refine Kept.eqn z6 ?_
        refine Kept.trans ?_ (State.slotGate_kept ..)
        exact Kept.refl _
      · refine Kept.trans ?_ (State.residueError_kept ..)
        refine Kept.eqn z11 ?_
        refine Kept.trans ?_ (State.devRead_kept ..)
        refine Kept.eqn z6 ?_
        refine Kept.trans ?_ (State.slotGate_kept ..)
        exact Kept.refl _

theorem State.slotInput_kept (s : State) (t n k : Nat) (c : Coll) (len off input : Nat) (es : List Elem) (good poison : Bool) (loose : Bool) : Kept s (State.slotInput s t n k c len off input es good poison loose) := by
  unfold State.slotInput
  lift_lets
  intro x0
  have h1 : Kept s x0 := by
    unfold x0
    refine Kept.trans ?_ (State.kindSet_kept ..)
    refine Kept.trans ?_ (State.openInst_kept ..)
    exact Kept.refl _
  clear_value x0
  intro x2
  clear_value x2
  intro x3
  clear_value x3
  intro x4
  have h5 : Kept s x4 := by
    unfold x4
    refine Kept.trans ?_ (State.tally_kept ..)
    exact h1
  clear_value x4
  intro x6
  have h7 : Kept s x6 := by
    unfold x6
    refine Kept.ite (fun z8 => ?_) (fun z8 => ?_)
    · exact h5
    · refine Kept.trans ?_ (State.residueError_kept ..)
      exact h5
  clear_value x6
  intro x9
  clear_value x9
  split
  rename_i z10 z11 z12 z13
  lift_lets
  intro x14
  have h15 : Kept s x14 := by
    unfold x14
    refine Kept.trans ?_ (State.slotWrite_kept ..)
    refine Kept.eqn z13 ?_
    refine KeptFst.out ?_
    split
    · rename_i z16 z17
      refine KeptFst.pair ?_
      exact h7
    · rename_i z18 z19 z20
      split
      rename_i z21 z22 z23 z24 z25
      refine KeptFst.pair ?_
      refine Kept.eqn z25 ?_
      refine Kept.trans ?_ (State.slotRead_kept ..)
      exact h7
  clear_value x14
  refine Kept.ite (fun z26 => ?_) (fun z26 => ?_)
  · refine Kept.trans ?_ (State.instPoison_kept ..)
    refine Kept.trans ?_ (State.instPoison_kept ..)
    exact h15
  · exact h15

theorem State.slotFree_kept (s : State) (t : Nat) (x : Slot) : Kept s (State.slotFree s t x) := by
  unfold State.slotFree
  lift_lets
  intro x0
  have h1 : Kept s x0 := by
    unfold x0
    refine Kept.trans ?_ (State.setTr_kept ..)
    exact Kept.refl _
  clear_value x0
  refine Kept.trans ?_ (Kept.foldl (fun t4 x5 => ?_) _ _)
  · exact h1
  · refine Kept.trans ?_ (State.treeSend_kept ..)
    exact Kept.refl _

theorem State.feedOne_kept (s : State) (t : Nat) (c : Contrib) : Kept s (State.feedOne s t c) := by
  unfold State.feedOne
  split
  · rename_i z0 z1 z2 z3 z4 z5
    lift_lets
    intro x6
    clear_value x6
    intro x7
    clear_value x7
    intro x8
    have h9 : Kept s x8 := by
      unfold x8
      refine Kept.trans ?_ (State.setTr_kept ..)
      exact Kept.refl _
    clear_value x8
    refine Kept.ite (fun z10 => ?_) (fun z10 => ?_)
    · refine Kept.trans ?_ (State.slotInput_kept ..)
      exact h9
    · exact Kept.refl _
  · rename_i z11 z12 z13
    exact Kept.refl _

theorem State.feedAll_kept (s : State) (t : Nat) : Kept s (State.feedAll s t) := by
  unfold State.feedAll
  refine Kept.trans ?_ (Kept.foldl (fun t0 x1 => ?_) _ _)
  · exact Kept.refl _
  · refine Kept.trans ?_ (State.feedOne_kept ..)
    exact Kept.refl _

theorem State.tellPoison_kept (s : State) (t k : Nat) (p : Option Packet) : Kept s (State.tellPoison s t k p) := by
  unfold State.tellPoison
  split
  · rename_i z0 z1
    exact Kept.refl _
  · rename_i z2 z3 z4
    lift_lets
    intro x5
    have h6 : Kept s x5 := by
      unfold x5
      split
      · rename_i z7 z8
        refine Kept.trans ?_ (State.passDown_kept ..)
        exact Kept.refl _
      · rename_i z9
        refine Kept.trans ?_ (State.sendDown_kept ..)
        exact Kept.refl _
    clear_value x5
    refine Kept.ite (fun z10 => ?_) (fun z10 => ?_)
    · exact Kept.refl _
    · refine Kept.trans ?_ (State.instEnd_kept ..)
      refine Kept.trans ?_ (State.setInst_kept ..)
      exact h6

theorem State.chunkGo_kept (s : State) (t : Nat) : KeptOpt s (State.chunkGo s t) := by
  unfold State.chunkGo
  lift_lets
  intro x0
  clear_value x0
  split
  · rename_i z1 z2
    exact KeptOpt.none _
  · rename_i z3 z4 z5
    refine KeptOpt.ite (fun z6 => ?_) (fun z6 => ?_)
    · exact KeptOpt.none _
    · refine KeptOpt.ite (fun z7 => ?_) (fun z7 => ?_)
      · exact KeptOpt.none _
      · rcases e8 : (s.slotRead t z4) with ⟨z9, z10, z11⟩
        dsimp -zeta only
        lift_lets
        intro x12
        have h13 : ∀ y1, Kept y1 (x12 y1) := by
          intro y14
          unfold x12
          refine Kept.trans ?_ (State.setInst_kept ..)
          exact Kept.refl _
        clear_value x12
        intro x15
        clear_value x15
        intro x16
        clear_value x16
        intro x17
        clear_value x17
        intro x18
        clear_value x18
        intro x19
        clear_value x19
        intro x20
        have h21 : ∀ y1 y2, Kept y1 (x20 y1 y2) := by
          intro y22 y23
          unfold x20
          refine Kept.trans ?_ (State.setInst_kept ..)
          exact Kept.refl _
        clear_value x20
        dsimp -zeta only
        lift_lets
        intro x24
        have h25 : Kept s x24 := by
          unfold x24
          refine Kept.ite (fun z26 => ?_) (fun z26 => ?_)
          · refine Kept.trans ?_ (State.instPoison_kept ..)
            refine Kept.eqn e8 ?_
            refine Kept.trans ?_ (State.slotRead_kept ..)
            exact Kept.refl _
          · refine Kept.eqn e8 ?_
            refine Kept.trans ?_ (State.slotRead_kept ..)
            exact Kept.refl _
        clear_value x24
        intro x27
        clear_value x27
        intro x28
        clear_value x28
        intro x29
        have h30 : Kept s x29 := by
          unfold x29
          refine Kept.trans ?_ (State.treeSend_kept ..)
          exact h25
        clear_value x29
        intro x31
        have h32 : Kept s x31 := by
          unfold x31
          refine Kept.trans ?_ (State.wr_kept ..)
          exact h30
        clear_value x31
        intro x33
        have h34 : Kept s x33 := by
          unfold x33
          refine Kept.trans ?_ (State.wr_kept ..)
          exact h25
        clear_value x33
        intro x35
        have h36 : Kept s x35 := by
          unfold x35
          split
          · rename_i z37 z38
            refine Kept.trans ?_ (State.placeAll_kept ..)
            exact h34
          · rename_i z39 z40
            refine Kept.trans ?_ (State.placeAll_kept ..)
            refine Kept.trans ?_ (h21 ..)
            refine Kept.trans ?_ (State.sendDown_kept ..)
            exact h34
          · rename_i z41 z42
            refine Kept.trans ?_ (h21 ..)
            refine Kept.trans ?_ (State.sendDown_kept ..)
            exact h34
          · rename_i z43 z44 z45 z46
            split
            · rename_i z47 z48
              exact h34
            · rename_i z49 z50 z51
              refine Kept.trans ?_ (Kept.foldl (fun t52 x53 => ?_) _ _)
              · exact h34
              · lift_lets
                intro x54
                clear_value x54
                intro x55
                clear_value x55
                refine Kept.trans ?_ (State.placeAll_kept ..)
                refine Kept.trans ?_ (h21 ..)
                refine Kept.trans ?_ (State.sendDown_kept ..)
                exact Kept.refl _
        clear_value x35
        refine KeptOpt.ite (fun z56 => ?_) (fun z56 => ?_)
        · refine KeptOpt.some ?_
          refine Kept.trans ?_ (h13 ..)
          refine Kept.trans ?_ (State.slotFree_kept ..)
          exact h32
        · refine KeptOpt.ite (fun z57 => ?_) (fun z57 => ?_)
          · refine KeptOpt.some ?_
            refine Kept.trans ?_ (h13 ..)
            refine Kept.trans ?_ (State.slotFree_kept ..)
            refine Kept.trans ?_ (State.tellPoison_kept ..)
            exact h34
          · refine KeptOpt.some ?_
            refine Kept.trans ?_ (h13 ..)
            refine Kept.trans ?_ (State.slotFree_kept ..)
            exact h36

theorem State.instStep_kept (s : State) (t k : Nat) (mc : Bool) : Kept s (State.instStep s t k mc) := by
  unfold State.instStep
  lift_lets
  intro x0
  have h1 : Kept s x0 := by
    unfold x0
    split
    · rename_i z2 z3 z4
      refine Kept.ite (fun z5 => ?_) (fun z5 => ?_)
      · refine Kept.trans ?_ (State.prune_kept ..)
        exact Kept.refl _
      · exact Kept.refl _
    · rename_i z6 z7
      exact Kept.refl _
  clear_value x0
  intro x8
  clear_value x8
  intro x9
  clear_value x9
  split
  · rename_i z10 z11
    exact h1
  · rename_i z12 z13 z14
    lift_lets
    intro x15
    clear_value x15
    intro x16
    clear_value x16
    intro x17
    have h18 : Kept s x17 := by
      unfold x17
      refine Kept.ite (fun z19 => ?_) (fun z19 => ?_)
      · refine Kept.trans ?_ (State.instEnd_kept ..)
        exact h1
      · refine Kept.ite (fun z20 => ?_) (fun z20 => ?_)
        · exact h1
        · refine Kept.ite (fun z21 => ?_) (fun z21 => ?_)
          · split
            · rename_i z22 z23 z24
              refine Kept.trans ?_ (State.memberEnd_kept ..)
              exact h1
            · rename_i z25 z26
              refine Kept.trans ?_ (State.instEnd_kept ..)
              exact h1
          · refine Kept.ite (fun z27 => ?_) (fun z27 => ?_)
            · exact h1
            · refine Kept.trans ?_ (State.instEnd_kept ..)
              exact h1
    clear_value x17
    intro x28
    clear_value x28
    intro x29
    have h30 : Kept s x29 := by
      unfold x29
      refine Kept.ite (fun z31 => ?_) (fun z31 => ?_)
      · refine Kept.trans ?_ (State.setInst_kept ..)
        refine Kept.trans ?_ (State.treeSend_kept ..)
        exact h18
      · exact h18
    clear_value x29
    intro x32
    clear_value x32
    intro x33
    clear_value x33
    intro x34
    have h35 : Kept s x34 := by
      unfold x34
      refine Kept.trans ?_ (State.wr_kept ..)
      exact h30
    clear_value x34
    intro x36
    have h37 : Kept s x36 := by
      unfold x36
      refine Kept.ite (fun z38 => ?_) (fun z38 => ?_)
      · refine Kept.trans ?_ (State.setTr_kept ..)
        exact h35
      · exact h30
    clear_value x36
    refine Kept.ite (fun z39 => ?_) (fun z39 => ?_)
    · refine Kept.trans ?_ (State.setTr_kept ..)
      exact h37
    · exact h37

theorem State.instNext_kept (t n : Nat) (s : State) : Kept s (State.instNext t n s) := by
  induction n generalizing s with
  | zero => exact Kept.refl s
  | succ n ih =>
    unfold State.instNext
    lift_lets
    intro k
    clear_value k
    intro u
    have hu : Kept s u := State.instStep_kept ..
    clear_value u
    exact Kept.ite (fun _ => hu) (fun _ => hu.trans (ih _))

theorem State.instGo_kept (s : State) (t k : Nat) (mc : Bool) : Kept s (State.instGo s t k mc) := by
  unfold State.instGo
  lift_lets
  intro x0
  have h1 : Kept s x0 := by
    unfold x0
    refine Kept.trans ?_ (State.instStep_kept ..)
    exact Kept.refl _
  clear_value x0
  refine Kept.ite (fun z2 => ?_) (fun z2 => ?_)
  · exact h1
  · refine Kept.trans ?_ (State.instNext_kept ..)
    exact h1

theorem State.instsGo_kept (s : State) (t : Nat) : Kept s (State.instsGo s t) := by
  unfold State.instsGo
  refine Kept.trans ?_ (Kept.foldl (fun t0 x1 => ?_) _ _)
  · exact Kept.refl _
  · refine Kept.trans ?_ (State.instGo_kept ..)
    exact Kept.refl _

theorem State.treePump_kept (t n : Nat) (s : State) : Kept s (State.treePump t n s) := by
  induction n generalizing s with
  | zero => exact Kept.refl s
  | succ n ih =>
    unfold State.treePump
    refine (State.feedAll_kept s t).trans ?_
    dsimp only
    split
    · rename_i u h
      exact ((KeptOpt.get h (State.chunkGo_kept _ _)).trans (State.instsGo_kept ..)).trans (ih _)
    · exact State.instsGo_kept ..

theorem State.treeGo_kept (s : State) (t : Nat) : Kept s (State.treeGo s t) := by
  unfold State.treeGo
  refine Kept.trans ?_ (State.treePump_kept ..)
  refine Kept.trans ?_ (State.treeTouch_kept ..)
  exact Kept.refl _

theorem State.treeRoutes_kept (s : State) (t : Nat) : Kept s (State.treeRoutes s t) := by
  unfold State.treeRoutes
  refine Kept.ite (fun z0 => ?_) (fun z0 => ?_)
  · lift_lets
    intro x2
    clear_value x2
    intro x3
    have h4 : Kept s x3 := by
      unfold x3
      refine Kept.trans ?_ (Kept.foldl (fun t5 x6 => ?_) _ _)
      · exact Kept.refl _
      · refine Kept.trans ?_ (State.prune_kept ..)
        exact Kept.refl _
    clear_value x3
    refine Kept.ite (fun z11 => ?_) (fun z11 => ?_)
    · exact Kept.refl _
    · refine Kept.trans ?_ (Kept.foldl (fun t14 x15 => ?_) _ _)
      · exact h4
      · refine Kept.trans ?_ (State.instGo_kept ..)
        exact Kept.refl _
  · exact Kept.refl _

theorem State.treeSync_kept (s : State) : Kept s (State.treeSync s) := by
  unfold State.treeSync
  refine Kept.trans ?_ (Kept.foldl (fun t0 x1 => ?_) _ _)
  · exact Kept.refl _
  · refine Kept.ite (fun z2 => ?_) (fun z2 => ?_)
    · exact Kept.refl _
    · refine Kept.trans ?_ (State.treeRoutes_kept ..)
      exact Kept.refl _

theorem State.treeBreak_kept (s : State) (t : Nat) (cause : Nat) : Kept s (State.treeBreak s t cause) := by
  unfold State.treeBreak
  refine Kept.ite (fun z0 => ?_) (fun z0 => ?_)
  · lift_lets
    intro x2
    have h3 : Kept s x2 := by
      unfold x2
      refine Kept.trans ?_ (State.wr_kept ..)
      refine Kept.trans ?_ (State.wr_kept ..)
      exact Kept.refl _
    clear_value x2
    intro x7
    clear_value x7
    intro x8
    clear_value x8
    intro x9
    have h10 : Kept s x9 := by
      unfold x9
      refine Kept.trans ?_ (Kept.foldl (fun t11 x12 => ?_) _ _)
      · exact h3
      · refine Kept.trans ?_ (State.memberEnd_kept ..)
        exact Kept.refl _
    clear_value x9
    intro x17
    have h18 : Kept s x17 := by
      unfold x17
      refine Kept.trans ?_ (Kept.foldl (fun t19 x20 => ?_) _ _)
      · exact h10
      · split
        · rename_i z24 z25 z26
          refine Kept.trans ?_ (State.memberEnd_kept ..)
          exact Kept.refl _
        · rename_i z29 z30
          exact Kept.refl _
    clear_value x17
    intro x32
    clear_value x32
    intro x33
    clear_value x33
    intro x34
    have h35 : Kept s x34 := by
      unfold x34
      refine Kept.trans ?_ (Kept.foldl (fun t36 x37 => ?_) _ _)
      · exact h18
      · refine Kept.trans ?_ (State.treeSend_kept ..)
        exact Kept.refl _
    clear_value x34
    intro x42
    have h43 : Kept s x42 := by
      unfold x42
      refine Kept.ite (fun z44 => ?_) (fun z44 => ?_)
      · exact h35
      · refine Kept.trans ?_ (State.treeSend_kept ..)
        exact h35
    clear_value x42
    intro x49
    have h50 : Kept s x49 := by
      unfold x49
      refine Kept.trans ?_ (State.setTr_kept ..)
      exact h43
    clear_value x49
    refine Kept.trans ?_ (State.postEvent_kept ..)
    exact h50
  · exact Kept.refl _

theorem State.shpCharge_kept (s : State) (i : Nat) (cost : Nat) : Kept s (State.shpCharge s i cost) := by
  unfold State.shpCharge
  refine Kept.ite (fun z0 => ?_) (fun z0 => ?_)
  · refine Kept.trans ?_ (State.wr_kept ..)
    exact Kept.refl _
  · exact Kept.refl _

theorem State.schedSync_kept (s : State) : Kept s (State.schedSync s) := by
  unfold State.schedSync
  lift_lets
  intro x0
  clear_value x0
  intro x1
  clear_value x1
  intro x2
  clear_value x2
  intro x3
  clear_value x3
  intro x4
  clear_value x4
  intro x5
  clear_value x5
  intro x6
  clear_value x6
  intro x7
  clear_value x7
  intro x8
  clear_value x8
  intro x9
  clear_value x9
  refine Kept.trans ?_ (Kept.record ..)
  exact Kept.refl _

theorem State.postContained_kept (s : State) (kind : Nat) (unit : Nat) (src : Nat) : Kept s (State.postContained s kind unit src) := by
  unfold State.postContained
  refine Kept.ite (fun z0 => ?_) (fun z0 => ?_)
  · refine Kept.trans ?_ (State.postEvent_kept ..)
    exact Kept.refl _
  · exact Kept.refl _

theorem State.containCtx_kept (s : State) (c : Nat) : Kept s (State.containCtx s c) := by
  unfold State.containCtx
  lift_lets
  intro x0
  have h1 : Kept s x0 := by
    unfold x0
    refine Kept.trans ?_ (State.ctxReport_kept ..)
    exact Kept.refl _
  clear_value x0
  intro x2
  have h3 : Kept s x2 := by
    unfold x2
    refine Kept.trans ?_ (State.setCtx_kept ..)
    exact h1
  clear_value x2
  refine Kept.trans ?_ (State.wardenLost_kept ..)
  refine Kept.trans ?_ (State.semAbandon_kept ..)
  refine Kept.trans ?_ (State.wr_kept ..)
  exact h3

theorem State.containChannel_kept (s : State) (p : Nat) : Kept s (State.containChannel s p) := by
  unfold State.containChannel
  lift_lets
  intro x0
  have h1 : Kept s x0 := by
    unfold x0
    refine Kept.trans ?_ (State.copySync_kept ..)
    exact Kept.refl _
  clear_value x0
  intro x2
  clear_value x2
  intro x3
  clear_value x3
  refine Kept.trans ?_ (Kept.record ..)
  exact h1

theorem State.containPort_kept (s : State) (n : Nat) : Kept s (State.containPort s n) := by
  unfold State.containPort
  lift_lets
  intro x0
  have h1 : Kept s x0 := by
    unfold x0
    refine Kept.ite (fun z2 => ?_) (fun z2 => ?_)
    · exact Kept.refl _
    · refine Kept.trans ?_ (State.linkDown_kept ..)
      exact Kept.refl _
  clear_value x0
  intro x3
  clear_value x3
  refine Kept.trans ?_ (Kept.record ..)
  exact h1

theorem State.contain_kept (s : State) (kind unit src : Nat) : Kept s (State.contain s kind unit src) := by
  unfold State.contain
  lift_lets
  intro x0
  have h1 : Kept s x0 := by
    unfold x0
    split
    · rename_i z2
      refine Kept.trans ?_ (State.containPort_kept ..)
      exact Kept.refl _
    · rename_i z3
      refine Kept.trans ?_ (State.queueError_kept ..)
      exact Kept.refl _
    · rename_i z4
      refine Kept.trans ?_ (State.connBroken_kept ..)
      exact Kept.refl _
    · rename_i z5
      refine Kept.trans ?_ (State.containCtx_kept ..)
      exact Kept.refl _
    · rename_i z6
      refine Kept.trans ?_ (State.treeBreak_kept ..)
      exact Kept.refl _
    · rename_i z7
      refine Kept.trans ?_ (State.containChannel_kept ..)
      exact Kept.refl _
    · rename_i z8 z9 z10 z11 z12 z13 z14
      exact Kept.refl _
  clear_value x0
  refine Kept.ite (fun z15 => ?_) (fun z15 => ?_)
  · exact Kept.refl _
  · refine Kept.trans ?_ (State.postContained_kept ..)
    exact h1

theorem State.settleN_kept (n : Nat) (s : State) : Kept s (State.settleN n s) := by
  induction n generalizing s with
  | zero => exact Kept.refl s
  | succ n ih =>
    unfold State.settleN
    split
    · exact Kept.refl s
    · rename_i k u src t _
      have h : Kept s { s with faults := { s.faults with due := t } } := Kept.record ..
      exact (h.trans (State.contain_kept ..)).trans (ih _)

theorem State.settle_kept (s : State) : Kept s (State.settle s) := by
  unfold State.settle
  refine Kept.trans ?_ (State.settleN_kept ..)
  exact Kept.refl _

theorem State.sync_kept (s : State) : Kept s (State.sync s) := by
  unfold State.sync
  refine Kept.ite (fun z0 => ?_) (fun z0 => ?_)
  · refine Kept.trans ?_ (State.pinSync_kept ..)
    refine Kept.ite (fun z1 => ?_) (fun z1 => ?_)
    · refine Kept.trans ?_ (State.rtxWaits_kept ..)
      refine Kept.trans ?_ (State.looseSync_kept ..)
      refine Kept.trans ?_ (State.waitSync_kept ..)
      exact Kept.refl _
    · exact Kept.refl _
  · refine Kept.trans ?_ (State.pinSync_kept ..)
    refine Kept.trans ?_ (State.schedSync_kept ..)
    refine Kept.trans ?_ (State.rtxWaits_kept ..)
    refine Kept.trans ?_ (State.keySync_kept ..)
    refine Kept.trans ?_ (State.stallSync_kept ..)
    refine Kept.trans ?_ (State.occSync_kept ..)
    refine Kept.trans ?_ (State.looseSync_kept ..)
    refine Kept.trans ?_ (State.ctlSync_kept ..)
    refine Kept.trans ?_ (State.landSync_kept ..)
    refine Kept.trans ?_ (State.parkSync_kept ..)
    refine Kept.trans ?_ (State.treeSync_kept ..)
    refine Kept.trans ?_ (State.waitSync_kept ..)
    refine Kept.trans ?_ (State.copySync_kept ..)
    exact Kept.refl _

theorem State.ended_kept (s : State) : Kept s (State.ended s) := by
  unfold State.ended
  lift_lets
  intro x0
  have h1 : Kept s x0 := by
    unfold x0
    refine Kept.trans ?_ (State.sync_kept ..)
    refine Kept.trans ?_ (State.settle_kept ..)
    exact Kept.refl _
  clear_value x0
  intro x2
  have h3 : Kept s x2 := by
    unfold x2
    refine Kept.ite (fun z4 => ?_) (fun z4 => ?_)
    · exact h1
    · refine Kept.trans ?_ (State.sync_kept ..)
      refine Kept.trans ?_ (State.settle_kept ..)
      exact h1
  clear_value x2
  intro x5
  clear_value x5
  refine Kept.trans ?_ (Kept.record ..)
  exact h3

theorem fin_kept (s : State) : Sound s (fin s) := by
  unfold fin
  refine Sound.next ?_
  refine Kept.trans ?_ (State.ended_kept ..)
  exact Kept.refl _

end Sys2Proof.Machine
end

