-- ==== Sys2Proof/Laws/KeptRows1.lean ====
section
/-! SUPPORT. What the commands of register access, hosts, engines, queues and scheduling keep: the queue, a state in good form, and the lifecycle (`Kept`). -/

set_option linter.unusedVariables false

namespace Sys2Proof.Machine

theorem State.holdWrite_kept (s : State) (p : Nat) (w : HeldWrite) : Kept s (State.holdWrite s p w) := by
  unfold State.holdWrite
  refine Kept.trans ?_ (State.setHost_kept ..)
  exact Kept.refl _

theorem State.holdReg_kept (s : State) (m : Mst) (addr : Nat) (v : Option Word) : Kept s (State.holdReg s m addr v) := by
  unfold State.holdReg
  refine Kept.trans ?_ (State.holdWrite_kept ..)
  exact Kept.refl _

theorem State.askRec_kept (s : State) (m : Mst) (kind : Nat) (addr : Nat) (old : Word) (new : Word) : Kept s (State.askRec s m kind addr old new).1 := by
  refine KeptFst.out ?_
  unfold State.askRec
  refine KeptFst.of ?_
  refine Kept.trans ?_ (State.audAsk_kept ..)
  exact Kept.refl _

theorem State.debugGate_kept (s : State) (a : Nat) (n : Nat) (k : AccKind) : Kept s (State.debugGate s a n k).1 := by
  refine KeptFst.out ?_
  unfold State.debugGate
  lift_lets
  intro x0
  clear_value x0
  intro x1
  clear_value x1
  intro x2
  clear_value x2
  refine KeptFst.ite (fun z3 => ?_) (fun z3 => ?_)
  · refine KeptFst.of ?_
    refine Kept.trans ?_ (State.gate_kept ..)
    exact Kept.refl _
  · refine KeptFst.ite (fun z8 => ?_) (fun z8 => ?_)
    · split
      · rename_i z11 z12 z13
        refine KeptFst.pair ?_
        refine Kept.trans ?_ (State.raise_kept ..)
        refine Kept.trans ?_ (State.count_kept ..)
        refine Kept.eqn z13 ?_
        refine Kept.trans ?_ (State.askRec_kept ..)
        exact Kept.refl _
      · rename_i z20 z21 z22
        refine KeptFst.pair ?_
        refine Kept.trans ?_ (State.gateDeny_kept ..)
        refine Kept.eqn z22 ?_
        refine Kept.trans ?_ (State.askRec_kept ..)
        exact Kept.refl _
    · refine KeptFst.pair ?_
      refine Kept.trans ?_ (State.gateDeny_kept ..)
      exact Kept.refl _

theorem State.openReg_kept (s : State) (m : Mst) (addr : Nat) (k : AccKind) : Kept s (State.openReg s m addr k).1 := by
  refine KeptFst.out ?_
  unfold State.openReg
  refine KeptFst.ite (fun z0 => ?_) (fun z0 => ?_)
  · refine KeptFst.ite (fun z2 => ?_) (fun z2 => ?_)
    · refine KeptFst.of ?_
      refine Kept.trans ?_ (State.debugGate_kept ..)
      exact Kept.refl _
    · refine KeptFst.of ?_
      refine Kept.trans ?_ (State.gate_kept ..)
      exact Kept.refl _
  · refine KeptFst.pair ?_
    exact Kept.refl _

theorem State.answerOnes_kept (s : State) (m : Mst) : Kept s (State.answerOnes s m) := by
  unfold State.answerOnes
  refine Kept.ite (fun z0 => ?_) (fun z0 => ?_)
  · refine Kept.trans ?_ (State.emit_kept ..)
    exact Kept.refl _
  · refine Kept.trans ?_ (State.answer_kept ..)
    exact Kept.refl _

theorem State.writeLost_kept (s : State) (m : Mst) : Kept s (State.writeLost s m) := by
  unfold State.writeLost
  refine Kept.ite (fun z0 => ?_) (fun z0 => ?_)
  · refine Kept.trans ?_ (State.emit_kept ..)
    exact Kept.refl _
  · exact Kept.refl _

theorem regWriteRow_kept (m : Mst) (addr : Nat) (v : Word) (f : State → Word → State) (s : State) (h_f : ∀ u y1, Kept u (f u y1)) : Sound s (regWriteRow m addr v f s) := by
  unfold regWriteRow
  refine Sound.ite (fun z0 => ?_) (fun z0 => ?_)
  · refine Sound.of ?_ (fin_kept ..)
    refine Kept.trans ?_ (State.holdReg_kept ..)
    exact Kept.refl _
  · split
    · rename_i z1 z2 z3
      refine Sound.of ?_ (fin_kept ..)
      refine Kept.trans ?_ (h_f ..)
      refine Kept.eqn z3 ?_
      refine Kept.trans ?_ (State.openReg_kept ..)
      exact Kept.refl _
    · rename_i z4 z5 z6
      refine Sound.of ?_ (fin_kept ..)
      refine Kept.trans ?_ (State.writeLost_kept ..)
      refine Kept.eqn z6 ?_
      refine Kept.trans ?_ (State.openReg_kept ..)
      exact Kept.refl _

theorem regReadRow_kept (m : Mst) (addr : Nat) (f : State → State) (s : State) (h_f : ∀ u, Kept u (f u)) : Sound s (regReadRow m addr f s) := by
  unfold regReadRow
  refine Sound.ite (fun z0 => ?_) (fun z0 => ?_)
  · refine Sound.of ?_ (fin_kept ..)
    refine Kept.trans ?_ (State.holdReg_kept ..)
    exact Kept.refl _
  · split
    · rename_i z1 z2 z3
      refine Sound.of ?_ (fin_kept ..)
      refine Kept.trans ?_ (h_f ..)
      refine Kept.eqn z3 ?_
      refine Kept.trans ?_ (State.openReg_kept ..)
      exact Kept.refl _
    · rename_i z4 z5 z6
      refine Sound.of ?_ (fin_kept ..)
      refine Kept.trans ?_ (State.answerOnes_kept ..)
      refine Kept.eqn z6 ?_
      refine Kept.trans ?_ (State.openReg_kept ..)
      exact Kept.refl _

theorem State.clearSels_kept (s : State) (p : Nat → Bool) : Kept s (State.clearSels s p) := by
  unfold State.clearSels
  refine Kept.trans ?_ (State.resetRegs_kept ..)
  exact Kept.refl _

theorem State.cfgPut_kept (s : State) (m : Mst) (kind : Nat) (addr : Nat) (r : Reg) (new : Word) (force : Bool) : Kept s (State.cfgPut s m kind addr r new force).1 := by
  refine KeptFst.out ?_
  unfold State.cfgPut
  lift_lets
  intro x0
  clear_value x0
  refine KeptFst.ite (fun z1 => ?_) (fun z1 => ?_)
  · refine KeptFst.pair ?_
    refine Kept.trans ?_ (State.set_kept ..)
    exact Kept.refl _
  · split
    · rename_i z7 z8 z9
      refine KeptFst.pair ?_
      refine Kept.trans ?_ (State.set_kept ..)
      refine Kept.eqn z9 ?_
      refine Kept.trans ?_ (State.askRec_kept ..)
      exact Kept.refl _
    · rename_i z15 z16 z17
      refine KeptFst.pair ?_
      refine Kept.eqn z17 ?_
      refine Kept.trans ?_ (State.askRec_kept ..)
      exact Kept.refl _

theorem State.cfgWrite_kept (s : State) (m : Mst) (addr : Nat) (r : Reg) (v : Word) (locked : Bool) : Kept s (State.cfgWrite s m addr r v locked).1 := by
  refine KeptFst.out ?_
  unfold State.cfgWrite
  refine KeptFst.of ?_
  refine Kept.trans ?_ (State.cfgPut_kept ..)
  exact Kept.refl _

theorem State.winWrite_kept (s : State) (m : Mst) (win : Nat) (word : Nat) (sel : Nat) (r : Reg) (v : Word) : Kept s (State.winWrite s m win word sel r v).1 := by
  refine KeptFst.out ?_
  unfold State.winWrite
  refine KeptFst.of ?_
  refine Kept.trans ?_ (State.cfgPut_kept ..)
  exact Kept.refl _

theorem State.plainWrite_kept (s : State) (r : Reg) (v : Word) (locked : Bool) : Kept s (State.plainWrite s r v locked) := by
  unfold State.plainWrite
  refine Kept.trans ?_ (State.set_kept ..)
  exact Kept.refl _

theorem State.ringSlots_kept (func off k : Nat) (bs : List Byte) (s : State) : Kept s (State.ringSlots func off k bs s) := by
  induction k generalizing off bs s with
  | zero => exact Kept.refl s
  | succ k ih =>
    unfold State.ringSlots
    refine Kept.ite (fun _ => Kept.refl s) (fun _ => Kept.ite (fun _ => ?_) (fun _ => ih ..))
    exact (Kept.ite (fun _ => State.doorbell_kept ..) (fun _ => Kept.refl s)).trans (ih ..)

theorem State.doorbellWrite_kept (s : State) (func : Nat) (off : Nat) (bs : List Byte) : Kept s (State.doorbellWrite s func off bs) := by
  unfold State.doorbellWrite
  refine Kept.trans ?_ (State.ringSlots_kept ..)
  exact Kept.refl _

theorem State.easelExpire_kept (s : State) (p : Nat) : Kept s (State.easelExpire s p) := by
  unfold State.easelExpire
  lift_lets
  intro x0
  clear_value x0
  refine Kept.trans ?_ (Kept.foldl (fun t1 x2 => ?_) _ _)
  · refine Kept.trans ?_ (State.setHost_kept ..)
    exact Kept.refl _
  · refine Kept.trans ?_ (State.raise_kept ..)
    refine Kept.trans ?_ (State.count_kept ..)
    exact Kept.refl _

theorem State.easelApply_kept (s : State) (p f off : Nat) (bs : List Byte) : KeptOpt s (State.easelApply s p f off bs) := by
  unfold State.easelApply
  lift_lets
  intro x0
  have h1 : Kept s x0 := by
    unfold x0
    refine Kept.trans ?_ (State.easelExpire_kept ..)
    exact Kept.refl _
  clear_value x0
  intro x2
  clear_value x2
  intro x3
  clear_value x3
  intro x4
  clear_value x4
  intro x5
  clear_value x5
  intro x6
  have h7 : Kept s x6 := by
    unfold x6
    refine Kept.trans ?_ (State.setHost_kept ..)
    exact h1
  clear_value x6
  refine KeptOpt.ite (fun z8 => ?_) (fun z8 => ?_)
  · refine KeptOpt.some ?_
    refine Kept.trans ?_ (State.wmEval_kept ..)
    exact h7
  · exact KeptOpt.none _

theorem execDoorbellPageWrite_kept (p : Fin 4) (f : Fin 256) (off : Nat) (bytes : List Byte) (s : State) : Sound s (execDoorbellPageWrite p f off bytes s) := by
  unfold execDoorbellPageWrite
  lift_lets
  intro x0
  clear_value x0
  refine Sound.ite (fun z1 => ?_) (fun z1 => ?_)
  · refine Sound.of ?_ (fin_kept ..)
    exact Kept.refl _
  · refine Sound.ite (fun z5 => ?_) (fun z5 => ?_)
    · refine Sound.of ?_ (fin_kept ..)
      refine Kept.trans ?_ (State.holdWrite_kept ..)
      exact Kept.refl _
    · refine Sound.of ?_ (fin_kept ..)
      refine Kept.trans ?_ (State.doorbellWrite_kept ..)
      exact Kept.refl _

theorem execEaselWrite_kept (p : Fin 4) (f : Fin 256) (off : Nat) (bytes : List Byte) (s : State) : Sound s (execEaselWrite p f off bytes s) := by
  unfold execEaselWrite
  lift_lets
  intro x0
  clear_value x0
  refine Sound.ite (fun z1 => ?_) (fun z1 => ?_)
  · refine Sound.of ?_ (fin_kept ..)
    exact Kept.refl _
  · refine Sound.ite (fun z5 => ?_) (fun z5 => ?_)
    · refine Sound.of ?_ (fin_kept ..)
      refine Kept.trans ?_ (State.holdWrite_kept ..)
      exact Kept.refl _
    · split
      · rename_i z11 z12 z13
        refine Sound.of ?_ (fin_kept ..)
        refine KeptOpt.get z13 ?_
        refine KeptOpt.of ?_ (State.easelApply_kept _ _ _ _ _)
        exact Kept.refl _
      · rename_i z18 z19
        refine Sound.of ?_ (fin_kept ..)
        refine Kept.trans ?_ (State.holdWrite_kept ..)
        exact Kept.refl _

theorem execEaselAssemblyTimeout_kept (p : Fin 4) (f : Fin 256) (slot : Fin 64) (s : State) : Sound s (execEaselAssemblyTimeout p f slot s) := by
  unfold execEaselAssemblyTimeout
  split
  · rename_i z1 z2
    refine Sound.next ?_
    exact Kept.refl _
  · rename_i z5 z6 z7
    lift_lets
    intro x8
    have h9 : Kept s x8 := by
      unfold x8
      refine Kept.trans ?_ (State.setHost_kept ..)
      refine Kept.trans ?_ (State.passTo_kept ..)
      exact Kept.refl _
    clear_value x8
    refine Sound.of ?_ (fin_kept ..)
    refine Kept.trans ?_ (State.raise_kept ..)
    refine Kept.trans ?_ (State.count_kept ..)
    exact h9

theorem State.takeOnto_kept (s : State) (q : Nat) (t : Taken) (ilen : Option Nat) : Kept s (State.takeOnto s q t ilen) := by
  unfold State.takeOnto
  lift_lets
  intro x0
  have h1 : Kept s x0 := by
    unfold x0
    refine Kept.trans ?_ (State.reserve_kept ..)
    exact Kept.refl _
  clear_value x0
  split
  · rename_i z5 z6 z7
    refine Kept.trans ?_ (State.takeMalformed_kept ..)
    exact h1
  · rename_i z10 z11
    refine Kept.trans ?_ (State.pushTaken_kept ..)
    exact h1

theorem execEaselTake_kept (p : Fin 4) (s : State) : Sound s (execEaselTake p s) := by
  unfold execEaselTake
  split
  · rename_i z1 z2
    refine Sound.next ?_
    exact Kept.refl _
  · rename_i z5 z6 z7 z8
    lift_lets
    intro x9
    clear_value x9
    intro x10
    clear_value x10
    intro x11
    clear_value x11
    intro x12
    have h_x12 : ∀ y13, Kept y13 (x12 y13) := by
      intro y13
      unfold x12
      lift_lets
      intro x14
      have h15 : Kept y13 x14 := by
        unfold x14
        refine Kept.trans ?_ (State.setHost_kept ..)
        exact Kept.refl _
      clear_value x14
      refine Kept.trans ?_ (State.wmEval_kept ..)
      exact h15
    clear_value x12
    intro x20
    clear_value x20
    intro x21
    clear_value x21
    intro x22
    have h23 : Kept s x22 := by
      unfold x22
      refine Kept.trans ?_ (State.tally_kept ..)
      refine Kept.trans ?_ (h_x12 ..)
      exact Kept.refl _
    clear_value x22
    refine Sound.ite (fun z27 => ?_) (fun z27 => ?_)
    · refine Sound.next ?_
      exact Kept.refl _
    · refine Sound.ite (fun z31 => ?_) (fun z31 => ?_)
      · refine Sound.of ?_ (fin_kept ..)
        refine Kept.trans ?_ (State.raise_kept ..)
        refine Kept.trans ?_ (State.count_kept ..)
        refine Kept.trans ?_ (h_x12 ..)
        exact Kept.refl _
      · refine Sound.ite (fun z38 => ?_) (fun z38 => ?_)
        · refine Sound.of ?_ (fin_kept ..)
          refine Kept.trans ?_ (State.postEvent_kept ..)
          refine Kept.trans ?_ (h_x12 ..)
          exact Kept.refl _
        · refine Sound.ite (fun z44 => ?_) (fun z44 => ?_)
          · refine Sound.next ?_
            exact Kept.refl _
          · refine Sound.of ?_ (fin_kept ..)
            refine Kept.trans ?_ (State.takeOnto_kept ..)
            exact h23

theorem State.wmWrite_kept (s : State) (m : Mst) (i : Nat) (v : Word) : Kept s (State.wmWrite s m i v) := by
  unfold State.wmWrite
  lift_lets
  intro x0
  clear_value x0
  intro x1
  clear_value x1
  intro x2
  clear_value x2
  intro x3
  have h4 : Kept s x3 := by
    unfold x3
    refine Kept.ite (fun z5 => ?_) (fun z5 => ?_)
    · refine Kept.trans ?_ (State.count_kept ..)
      exact Kept.refl _
    · exact Kept.refl _
  clear_value x3
  intro x10
  have h11 : Kept s x10 := by
    unfold x10
    refine Kept.ite (fun z12 => ?_) (fun z12 => ?_)
    · refine Kept.trans ?_ (State.cfgWrite_kept ..)
      exact h4
    · refine Kept.trans ?_ (State.plainWrite_kept ..)
      exact h4
  clear_value x10
  refine Kept.trans ?_ (State.wmEval_kept ..)
  exact h11

theorem State.wmThrottleEnd_kept (s t : State) (i : Nat) (h_b : Kept s t) : Kept s (State.wmThrottleEnd s t i) := by
  unfold State.wmThrottleEnd
  refine Kept.ite (fun z0 => ?_) (fun z0 => ?_)
  · refine Kept.trans ?_ (State.evOverflow_kept ..)
    exact h_b
  · exact h_b

theorem execWatermarkWrite_kept (m : Mst) (i : Fin 22) (v : Word) (s : State) : Sound s (execWatermarkWrite m i v s) := by
  unfold execWatermarkWrite
  refine Sound.of ?_ (regWriteRow_kept (h_f := fun u0 y1 => ?_) ..)
  · exact Kept.refl _
  · refine Kept.trans ?_ (State.wmThrottleEnd_kept (h_b := ?_) ..)
    · exact Kept.refl _
    · refine Kept.trans ?_ (State.wmWrite_kept ..)
      exact Kept.refl _

theorem execPieEvtPop_kept (m : Mst) (v : Word) (s : State) : Sound s (execPieEvtPop m v s) := by
  unfold execPieEvtPop
  refine Sound.of ?_ (regWriteRow_kept (h_f := fun u0 y1 => ?_) ..)
  · exact Kept.refl _
  · refine Kept.ite (fun z2 => ?_) (fun z2 => ?_)
    · refine Kept.trans ?_ (State.evPop_kept ..)
      exact Kept.refl _
    · exact Kept.refl _

theorem State.islPop_kept (s : State) (m : Mst) (i : Nat) (v : Word) : Kept s (State.islPop s m i v) := by
  unfold State.islPop
  refine Kept.ite (fun z0 => ?_) (fun z0 => ?_)
  · refine Kept.trans ?_ (State.evPop_kept ..)
    exact Kept.refl _
  · exact Kept.refl _

theorem execIslEvtPop_kept (m : Mst) (i : Fin 16) (v : Word) (s : State) : Sound s (execIslEvtPop m i v s) := by
  unfold execIslEvtPop
  refine Sound.of ?_ (regWriteRow_kept (h_f := fun u0 y1 => ?_) ..)
  · exact Kept.refl _
  · refine Kept.trans ?_ (State.islPop_kept ..)
    exact Kept.refl _

theorem execOverflowEntryWrite_kept (k : Fin 17) (s : State) : Sound s (execOverflowEntryWrite k s) := by
  unfold execOverflowEntryWrite
  refine Sound.ite (fun z0 => ?_) (fun z0 => ?_)
  · refine Sound.next ?_
    exact Kept.refl _
  · refine Sound.of ?_ (fin_kept ..)
    refine Kept.trans ?_ (State.evOverflow_kept ..)
    exact Kept.refl _

theorem execAttentionPulse_kept (pin : Fin 5) (s : State) : Sound s (execAttentionPulse pin s) := by
  unfold execAttentionPulse
  lift_lets
  intro x0
  clear_value x0
  intro x1
  have h2 : Kept s x1 := by
    unfold x1
    refine Kept.trans ?_ (State.passTo_kept ..)
    exact Kept.refl _
  clear_value x1
  refine Sound.ite (fun z5 => ?_) (fun z5 => ?_)
  · refine Sound.of ?_ (fin_kept ..)
    refine Kept.trans ?_ (State.setPin_kept ..)
    exact h2
  · refine Sound.next ?_
    exact Kept.refl _

theorem execAttentionPulseEnd_kept (pin : Fin 5) (s : State) : Sound s (execAttentionPulseEnd pin s) := by
  unfold execAttentionPulseEnd
  lift_lets
  intro x0
  clear_value x0
  intro x1
  have h2 : Kept s x1 := by
    unfold x1
    refine Kept.trans ?_ (State.passTo_kept ..)
    exact Kept.refl _
  clear_value x1
  refine Sound.ite (fun z5 => ?_) (fun z5 => ?_)
  · refine Sound.of ?_ (fin_kept ..)
    refine Kept.trans ?_ (State.setPin_kept ..)
    exact h2
  · refine Sound.next ?_
    exact Kept.refl _

theorem execBusyPeriodMinEnd_kept (pin : Fin 5) (s : State) : Sound s (execBusyPeriodMinEnd pin s) := by
  unfold execBusyPeriodMinEnd
  lift_lets
  intro x0
  clear_value x0
  refine Sound.ite (fun z1 => ?_) (fun z1 => ?_)
  · refine Sound.next ?_
    exact Kept.refl _
  · refine Sound.of ?_ (fin_kept ..)
    refine Kept.trans ?_ (State.passTo_kept ..)
    exact Kept.refl _

theorem State.readClear_kept (s : State) (m : Mst) (r : Reg) : Kept s (State.readClear s m r) := by
  unfold State.readClear
  refine Kept.trans ?_ (State.set_kept ..)
  refine Kept.trans ?_ (State.answer_kept ..)
  exact Kept.refl _

theorem execPieAttnRead_kept (m : Mst) (s : State) : Sound s (execPieAttnRead m s) := by
  unfold execPieAttnRead
  refine Sound.of ?_ (regReadRow_kept _ _ _ _ ?_)
  · exact Kept.refl _
  · intro y2
    refine Kept.trans ?_ (State.readClear_kept ..)
    exact Kept.refl _

theorem execHptAttnRead_kept (m : Mst) (n : Fin 4) (s : State) : Sound s (execHptAttnRead m n s) := by
  unfold execHptAttnRead
  refine Sound.of ?_ (regReadRow_kept _ _ _ _ ?_)
  · exact Kept.refl _
  · intro y2
    refine Kept.trans ?_ (State.readClear_kept ..)
    exact Kept.refl _

theorem State.meterCycle_kept (s : State) (c : Nat) : Kept s (State.meterCycle s c) := by
  unfold State.meterCycle
  split
  · rename_i z0 z1 z2
    refine Kept.trans ?_ (State.setMeter_kept ..)
    exact Kept.refl _
  · rename_i z3 z4
    exact Kept.refl _

theorem State.tagCount_kept (s : State) (c : Nat) : Kept s (State.tagCount s c) := by
  unfold State.tagCount
  lift_lets
  intro x0
  clear_value x0
  intro x1
  clear_value x1
  intro x2
  clear_value x2
  intro x3
  clear_value x3
  intro x4
  have h5 : Kept s x4 := by
    unfold x4
    refine Kept.ite (fun z6 => ?_) (fun z6 => ?_)
    · refine Kept.trans ?_ (State.setCtx_kept ..)
      exact Kept.refl _
    · exact Kept.refl _
  clear_value x4
  refine Kept.ite (fun z7 => ?_) (fun z7 => ?_)
  · refine Kept.ite (fun z8 => ?_) (fun z8 => ?_)
    · refine Kept.trans ?_ (State.setEng_kept ..)
      exact Kept.refl _
    · refine Kept.trans ?_ (State.setEng_kept ..)
      exact h5
  · exact Kept.refl _

theorem State.issued_kept (s : State) (c : Nat) : Kept s (State.issued s c) := by
  unfold State.issued
  lift_lets
  intro x0
  have h1 : Kept s x0 := by
    unfold x0
    refine Kept.trans ?_ (State.setEng_kept ..)
    exact Kept.refl _
  clear_value x0
  intro x2
  have h3 : Kept s x2 := by
    unfold x2
    refine Kept.trans ?_ (State.wr_kept ..)
    exact h1
  clear_value x2
  intro x4
  have h5 : Kept s x4 := by
    unfold x4
    refine Kept.trans ?_ (State.setCtx_kept ..)
    exact h3
  clear_value x4
  intro x6
  have h7 : Kept s x6 := by
    unfold x6
    refine Kept.trans ?_ (Kept.record ..)
    exact h5
  clear_value x6
  intro x8
  clear_value x8
  intro x9
  have h10 : Kept s x9 := by
    unfold x9
    refine Kept.trans ?_ (Kept.record ..)
    exact h7
  clear_value x9
  refine Kept.trans ?_ (State.tally_kept ..)
  refine Kept.trans ?_ (State.meterCycle_kept ..)
  refine Kept.trans ?_ (State.tagCount_kept ..)
  exact h10

theorem State.codeCheck_kept (s : State) (c : Nat) : Kept s (State.codeCheck s c) := by
  unfold State.codeCheck
  lift_lets
  intro x0
  clear_value x0
  refine Kept.ite (fun z1 => ?_) (fun z1 => ?_)
  · refine Kept.trans ?_ (State.engError_kept ..)
    refine Kept.trans ?_ (State.setEng_kept ..)
    exact Kept.refl _
  · exact Kept.refl _

theorem State.codeFill_kept (s : State) (c : Nat) : Kept s (State.codeFill s c) := by
  unfold State.codeFill
  lift_lets
  intro x0
  clear_value x0
  refine Kept.ite (fun z1 => ?_) (fun z1 => ?_)
  · exact Kept.refl _
  · split
    rename_i z2 z3 z4 z5
    refine Kept.ite (fun z6 => ?_) (fun z6 => ?_)
    · refine Kept.eqn z5 ?_
      refine Kept.trans ?_ (State.gate_kept ..)
      exact Kept.refl _
    · split
      rename_i z7 z8 z9 z10 z11
      refine Kept.ite (fun z12 => ?_) (fun z12 => ?_)
      · refine Kept.trans ?_ (State.structRaise_kept ..)
        refine Kept.eqn z11 ?_
        refine Kept.trans ?_ (State.devRead_kept ..)
        refine Kept.eqn z5 ?_
        refine Kept.trans ?_ (State.gate_kept ..)
        exact Kept.refl _
      · refine Kept.trans ?_ (State.setEng_kept ..)
        refine Kept.eqn z11 ?_
        refine Kept.trans ?_ (State.devRead_kept ..)
        refine Kept.eqn z5 ?_
        refine Kept.trans ?_ (State.gate_kept ..)
        exact Kept.refl _

theorem State.insnAt_kept (s : State) (w : Option Nat) (c : Nat) (f : State → State → Out)
    (h_f : ∀ u t, Kept s u → Kept s t → Sound s (f u t)) : Sound s (State.insnAt s w c f) := by
  unfold State.insnAt
  have h := (State.codeCheck_kept s c).trans (State.codeFill_kept _ c)
  refine Sound.ite (fun _ => Sound.next (Kept.refl s)) (fun _ => ?_)
  lift_lets
  intro x
  have hx : Kept s x := h
  clear_value x
  intro v
  clear_value v
  refine Sound.ite (fun _ => Sound.next (Kept.refl s)) (fun _ => Sound.ite (fun _ => ?_) (fun _ => Sound.ite (fun _ => ?_) (fun _ => ?_)))
  · refine Sound.of ?_ (fin_kept ..)
    exact ((hx.trans (State.setCtx_kept ..)).trans (State.engError_kept ..)).trans (State.raise_kept ..)
  · refine Sound.of ?_ (fin_kept ..)
    refine Kept.trans ?_ (State.trap_kept ..)
    exact Kept.ite (fun _ => hx) (fun _ => hx.trans (State.tally_kept ..))
  · refine Sound.ite (fun _ => h_f _ _ hx (hx.trans (State.issued_kept ..))) (fun _ => ?_)
    exact Sound.of ((hx.trans (State.issued_kept ..)).trans (State.trap_kept ..)) (fin_kept ..)

theorem State.insn_kept (s : State) (i : Instr) (c : Nat) (f : State → Out) (h_f : ∀ u, Kept s u → Sound s (f u)) :
    Sound s (State.insn s i c f) :=
  State.insnAt_kept s _ c _ fun _ t _ h => h_f t h

theorem State.adv_kept (s : State) (c : Nat) : Kept s (State.adv s c) := by
  unfold State.adv
  refine Kept.trans ?_ (State.wr_kept ..)
  exact Kept.refl _

theorem State.res_kept (s : State) (c : Nat) (d : GReg) (v : Word) : Kept s (State.res s c d v) := by
  unfold State.res
  refine Kept.trans ?_ (State.adv_kept ..)
  refine Kept.trans ?_ (State.setG_kept ..)
  exact Kept.refl _

theorem State.alu2_kept (s : State) (i : Instr) (c : CtxNum) (d a b : GReg) (f : Word → Word → Word) : Sound s (State.alu2 s i c d a b f) := by
  unfold State.alu2
  refine Sound.of ?_ (State.insn_kept (h_f := fun u0 y1 => ?_) ..)
  · exact Kept.refl _
  · refine Sound.next ?_
    refine Kept.trans ?_ (State.res_kept ..)
    exact y1

theorem State.alu1_kept (s : State) (i : Instr) (c : CtxNum) (d a : GReg) (f : Word → Word) : Sound s (State.alu1 s i c d a f) := by
  unfold State.alu1
  refine Sound.of ?_ (State.insn_kept (h_f := fun u0 y1 => ?_) ..)
  · exact Kept.refl _
  · refine Sound.next ?_
    refine Kept.trans ?_ (State.res_kept ..)
    exact y1

theorem State.bfx_kept (s : State) (i : Instr) (c : CtxNum) (d a : GReg) (pos len1 : BitVec 6) (f : Word → Word → Nat → Nat → Word) : Sound s (State.bfx s i c d a pos len1 f) := by
  unfold State.bfx
  refine Sound.of ?_ (State.insn_kept (h_f := fun u0 y1 => ?_) ..)
  · exact Kept.refl _
  · refine Sound.ite (fun z2 => ?_) (fun z2 => ?_)
    · refine Sound.of ?_ (fin_kept ..)
      refine Kept.trans ?_ (State.trap_kept ..)
      exact y1
    · refine Sound.next ?_
      refine Kept.trans ?_ (State.res_kept ..)
      exact y1

theorem execAdd_kept (c : CtxNum) (d : GReg) (a : GReg) (b : GReg) (s : State) : Sound s (execAdd c d a b s) := by
  unfold execAdd
  refine Sound.of ?_ (State.alu2_kept ..)
  exact Kept.refl _

theorem execSub_kept (c : CtxNum) (d : GReg) (a : GReg) (b : GReg) (s : State) : Sound s (execSub c d a b s) := by
  unfold execSub
  refine Sound.of ?_ (State.alu2_kept ..)
  exact Kept.refl _

theorem execAnd_kept (c : CtxNum) (d : GReg) (a : GReg) (b : GReg) (s : State) : Sound s (execAnd c d a b s) := by
  unfold execAnd
  refine Sound.of ?_ (State.alu2_kept ..)
  exact Kept.refl _

theorem execOr_kept (c : CtxNum) (d : GReg) (a : GReg) (b : GReg) (s : State) : Sound s (execOr c d a b s) := by
  unfold execOr
  refine Sound.of ?_ (State.alu2_kept ..)
  exact Kept.refl _

theorem execXor_kept (c : CtxNum) (d : GReg) (a : GReg) (b : GReg) (s : State) : Sound s (execXor c d a b s) := by
  unfold execXor
  refine Sound.of ?_ (State.alu2_kept ..)
  exact Kept.refl _

theorem execSll_kept (c : CtxNum) (d : GReg) (a : GReg) (b : GReg) (s : State) : Sound s (execSll c d a b s) := by
  unfold execSll
  refine Sound.of ?_ (State.alu2_kept ..)
  exact Kept.refl _

theorem execSrl_kept (c : CtxNum) (d : GReg) (a : GReg) (b : GReg) (s : State) : Sound s (execSrl c d a b s) := by
  unfold execSrl
  refine Sound.of ?_ (State.alu2_kept ..)
  exact Kept.refl _

theorem execSra_kept (c : CtxNum) (d : GReg) (a : GReg) (b : GReg) (s : State) : Sound s (execSra c d a b s) := by
  unfold execSra
  refine Sound.of ?_ (State.alu2_kept ..)
  exact Kept.refl _

theorem execSlt_kept (c : CtxNum) (d : GReg) (a : GReg) (b : GReg) (s : State) : Sound s (execSlt c d a b s) := by
  unfold execSlt
  refine Sound.of ?_ (State.alu2_kept ..)
  exact Kept.refl _

theorem execSltu_kept (c : CtxNum) (d : GReg) (a : GReg) (b : GReg) (s : State) : Sound s (execSltu c d a b s) := by
  unfold execSltu
  refine Sound.of ?_ (State.alu2_kept ..)
  exact Kept.refl _

theorem execSeq_kept (c : CtxNum) (d : GReg) (a : GReg) (b : GReg) (s : State) : Sound s (execSeq c d a b s) := by
  unfold execSeq
  refine Sound.of ?_ (State.alu2_kept ..)
  exact Kept.refl _

theorem execSne_kept (c : CtxNum) (d : GReg) (a : GReg) (b : GReg) (s : State) : Sound s (execSne c d a b s) := by
  unfold execSne
  refine Sound.of ?_ (State.alu2_kept ..)
  exact Kept.refl _

theorem execMul_kept (c : CtxNum) (d : GReg) (a : GReg) (b : GReg) (s : State) : Sound s (execMul c d a b s) := by
  unfold execMul
  refine Sound.of ?_ (State.alu2_kept ..)
  exact Kept.refl _

theorem execMulh_kept (c : CtxNum) (d : GReg) (a : GReg) (b : GReg) (s : State) : Sound s (execMulh c d a b s) := by
  unfold execMulh
  refine Sound.of ?_ (State.alu2_kept ..)
  exact Kept.refl _

theorem execMulhu_kept (c : CtxNum) (d : GReg) (a : GReg) (b : GReg) (s : State) : Sound s (execMulhu c d a b s) := by
  unfold execMulhu
  refine Sound.of ?_ (State.alu2_kept ..)
  exact Kept.refl _

theorem execMin_kept (c : CtxNum) (d : GReg) (a : GReg) (b : GReg) (s : State) : Sound s (execMin c d a b s) := by
  unfold execMin
  refine Sound.of ?_ (State.alu2_kept ..)
  exact Kept.refl _

theorem execMax_kept (c : CtxNum) (d : GReg) (a : GReg) (b : GReg) (s : State) : Sound s (execMax c d a b s) := by
  unfold execMax
  refine Sound.of ?_ (State.alu2_kept ..)
  exact Kept.refl _

theorem execMinu_kept (c : CtxNum) (d : GReg) (a : GReg) (b : GReg) (s : State) : Sound s (execMinu c d a b s) := by
  unfold execMinu
  refine Sound.of ?_ (State.alu2_kept ..)
  exact Kept.refl _

theorem execMaxu_kept (c : CtxNum) (d : GReg) (a : GReg) (b : GReg) (s : State) : Sound s (execMaxu c d a b s) := by
  unfold execMaxu
  refine Sound.of ?_ (State.alu2_kept ..)
  exact Kept.refl _

theorem execClz_kept (c : CtxNum) (d : GReg) (a : GReg) (s : State) : Sound s (execClz c d a s) := by
  unfold execClz
  refine Sound.of ?_ (State.alu1_kept ..)
  exact Kept.refl _

theorem execCtz_kept (c : CtxNum) (d : GReg) (a : GReg) (s : State) : Sound s (execCtz c d a s) := by
  unfold execCtz
  refine Sound.of ?_ (State.alu1_kept ..)
  exact Kept.refl _

theorem execPopc_kept (c : CtxNum) (d : GReg) (a : GReg) (s : State) : Sound s (execPopc c d a s) := by
  unfold execPopc
  refine Sound.of ?_ (State.alu1_kept ..)
  exact Kept.refl _

theorem execAddi_kept (c : CtxNum) (d : GReg) (a : GReg) (imm : BitVec 16) (s : State) : Sound s (execAddi c d a imm s) := by
  unfold execAddi
  refine Sound.of ?_ (State.alu1_kept ..)
  exact Kept.refl _

theorem execAndi_kept (c : CtxNum) (d : GReg) (a : GReg) (imm : BitVec 16) (s : State) : Sound s (execAndi c d a imm s) := by
  unfold execAndi
  refine Sound.of ?_ (State.alu1_kept ..)
  exact Kept.refl _

theorem execOri_kept (c : CtxNum) (d : GReg) (a : GReg) (imm : BitVec 16) (s : State) : Sound s (execOri c d a imm s) := by
  unfold execOri
  refine Sound.of ?_ (State.alu1_kept ..)
  exact Kept.refl _

theorem execXori_kept (c : CtxNum) (d : GReg) (a : GReg) (imm : BitVec 16) (s : State) : Sound s (execXori c d a imm s) := by
  unfold execXori
  refine Sound.of ?_ (State.alu1_kept ..)
  exact Kept.refl _

theorem execSlti_kept (c : CtxNum) (d : GReg) (a : GReg) (imm : BitVec 16) (s : State) : Sound s (execSlti c d a imm s) := by
  unfold execSlti
  refine Sound.of ?_ (State.alu1_kept ..)
  exact Kept.refl _

theorem execSltiu_kept (c : CtxNum) (d : GReg) (a : GReg) (imm : BitVec 16) (s : State) : Sound s (execSltiu c d a imm s) := by
  unfold execSltiu
  refine Sound.of ?_ (State.alu1_kept ..)
  exact Kept.refl _

theorem execLsi_kept (c : CtxNum) (d : GReg) (a : GReg) (imm : BitVec 16) (s : State) : Sound s (execLsi c d a imm s) := by
  unfold execLsi
  refine Sound.of ?_ (State.alu1_kept ..)
  exact Kept.refl _

theorem execSlli_kept (c : CtxNum) (d : GReg) (a : GReg) (sh : BitVec 6) (s : State) : Sound s (execSlli c d a sh s) := by
  unfold execSlli
  refine Sound.of ?_ (State.alu1_kept ..)
  exact Kept.refl _

theorem execSrli_kept (c : CtxNum) (d : GReg) (a : GReg) (sh : BitVec 6) (s : State) : Sound s (execSrli c d a sh s) := by
  unfold execSrli
  refine Sound.of ?_ (State.alu1_kept ..)
  exact Kept.refl _

theorem execSrai_kept (c : CtxNum) (d : GReg) (a : GReg) (sh : BitVec 6) (s : State) : Sound s (execSrai c d a sh s) := by
  unfold execSrai
  refine Sound.of ?_ (State.alu1_kept ..)
  exact Kept.refl _

theorem execBfxU_kept (c : CtxNum) (d : GReg) (a : GReg) (pos : BitVec 6) (len1 : BitVec 6) (s : State) : Sound s (execBfxU c d a pos len1 s) := by
  unfold execBfxU
  refine Sound.of ?_ (State.bfx_kept ..)
  exact Kept.refl _

theorem execBfxS_kept (c : CtxNum) (d : GReg) (a : GReg) (pos : BitVec 6) (len1 : BitVec 6) (s : State) : Sound s (execBfxS c d a pos len1 s) := by
  unfold execBfxS
  refine Sound.of ?_ (State.bfx_kept ..)
  exact Kept.refl _

theorem execBfi_kept (c : CtxNum) (d : GReg) (a : GReg) (pos : BitVec 6) (len1 : BitVec 6) (s : State) : Sound s (execBfi c d a pos len1 s) := by
  unfold execBfi
  refine Sound.of ?_ (State.bfx_kept ..)
  exact Kept.refl _

theorem State.addrTrap_kept (s : State) (c : Nat) (a : Nat) (k : AccKind) (d : EngAddr) : Sound s (State.addrTrap s c a k d) := by
  unfold State.addrTrap
  split
  · rename_i z1
    refine Sound.of ?_ (fin_kept ..)
    refine Kept.trans ?_ (State.trap_kept ..)
    exact Kept.refl _
  · rename_i z5 z6
    refine Sound.of ?_ (fin_kept ..)
    refine Kept.trans ?_ (State.trap_kept ..)
    refine Kept.trans ?_ (State.gateDeny_kept ..)
    exact Kept.refl _
  · rename_i z11 z12 z13
    refine Sound.of ?_ (fin_kept ..)
    refine Kept.trans ?_ (State.trap_kept ..)
    exact Kept.refl _

theorem State.missStall_kept (s0 : State) (c l : Nat) (own : Bool) : Kept s0 (State.missStall s0 c l own) := by
  unfold State.missStall
  lift_lets
  intro x0
  clear_value x0
  intro x1
  have h2 : Kept s0 x1 := by
    unfold x1
    refine Kept.trans ?_ (State.setCtx_kept ..)
    exact Kept.refl _
  clear_value x1
  intro x3
  have h4 : Kept s0 x3 := by
    unfold x3
    refine Kept.trans ?_ (State.tally_kept ..)
    refine Kept.trans ?_ (State.setCtx_kept ..)
    exact h2
  clear_value x3
  intro x5
  clear_value x5
  refine Kept.ite (fun z6 => ?_) (fun z6 => ?_)
  · exact h2
  · refine Kept.ite (fun z7 => ?_) (fun z7 => ?_)
    · exact h4
    · refine Kept.trans ?_ (State.cohSend_kept ..)
      exact h4

theorem endAfter_kept (flawed : Bool) (t : State) : Sound t (endAfter flawed t) := by
  unfold endAfter
  refine Sound.ite (fun z0 => ?_) (fun z0 => ?_)
  · refine Sound.of ?_ (fin_kept ..)
    exact Kept.refl _
  · refine Sound.next ?_
    exact Kept.refl _

theorem State.load_kept (s : State) (i : Instr) (n : Nat) (f : Nat → Word) (c : CtxNum) (d a : GReg) (imm : BitVec 16) : Sound s (State.load s i n f c d a imm) := by
  unfold State.load
  refine Sound.of ?_ (State.insnAt_kept (h_f := fun u0 y1 y2 y3 => ?_) ..)
  · exact Kept.refl _
  · lift_lets
    intro x4
    clear_value x4
    refine Sound.ite (fun z5 => ?_) (fun z5 => ?_)
    · refine Sound.of ?_ (fin_kept ..)
      refine Kept.trans ?_ (State.trap_kept ..)
      exact y3
    · split
      · rename_i z6 z7 z8
        refine Sound.ite (fun z9 => ?_) (fun z9 => ?_)
        · refine Sound.of ?_ (fin_kept ..)
          refine Kept.trans ?_ (State.trap_kept ..)
          refine Kept.trans ?_ (State.raise_kept ..)
          refine Kept.trans ?_ (State.palFound_kept ..)
          exact y3
        · refine Sound.ite (fun z10 => ?_) (fun z10 => ?_)
          · refine Sound.of ?_ (fin_kept ..)
            refine Kept.trans ?_ (State.res_kept ..)
            refine Kept.trans ?_ (State.palCheck_kept ..)
            exact y3
          · refine Sound.next ?_
            refine Kept.trans ?_ (State.res_kept ..)
            exact y3
      · rename_i z11 z12 z13
        lift_lets
        intro x14
        clear_value x14
        intro x15
        have h16 : Kept s x15 := by
          unfold x15
          refine Kept.trans ?_ (State.l1Check_kept ..)
          exact y3
        clear_value x15
        split
        · rename_i z17 z18 z19
          refine Sound.ite (fun z20 => ?_) (fun z20 => ?_)
          · refine Sound.of ?_ (fin_kept ..)
            refine Kept.trans ?_ (State.trap_kept ..)
            exact h16
          · refine Sound.of ?_ (endAfter_kept ..)
            refine Kept.trans ?_ (State.res_kept ..)
            refine Kept.trans ?_ (State.l1Update_kept ..)
            exact h16
        · rename_i z21 z22
          refine Sound.of ?_ (endAfter_kept ..)
          refine Kept.trans ?_ (State.missStall_kept ..)
          refine Kept.trans ?_ (State.l1Check_kept ..)
          exact y2
      · rename_i z23 z24 z25
        refine Sound.of ?_ (State.addrTrap_kept ..)
        exact y3

theorem State.store_kept (s : State) (i : Instr) (n : Nat) (c : CtxNum) (d a : GReg) (imm : BitVec 16) : Sound s (State.store s i n c d a imm) := by
  unfold State.store
  refine Sound.of ?_ (State.insnAt_kept (h_f := fun u0 y1 y2 y3 => ?_) ..)
  · exact Kept.refl _
  · lift_lets
    intro x4
    clear_value x4
    intro x5
    clear_value x5
    refine Sound.ite (fun z6 => ?_) (fun z6 => ?_)
    · refine Sound.of ?_ (fin_kept ..)
      refine Kept.trans ?_ (State.trap_kept ..)
      exact y3
    · split
      · rename_i z7 z8 z9
        refine Sound.next ?_
        refine Kept.trans ?_ (State.adv_kept ..)
        refine Kept.trans ?_ (State.palWrite_kept ..)
        exact y3
      · rename_i z10 z11 z12
        lift_lets
        intro x13
        clear_value x13
        intro x14
        have h15 : Kept s x14 := by
          unfold x14
          refine Kept.trans ?_ (State.l1Check_kept ..)
          exact y3
        clear_value x14
        split
        · rename_i z16 z17 z18
          refine Sound.of ?_ (endAfter_kept ..)
          refine Kept.trans ?_ (State.adv_kept ..)
          refine Kept.trans ?_ (State.l1Update_kept ..)
          exact h15
        · rename_i z19 z20
          refine Sound.of ?_ (endAfter_kept ..)
          refine Kept.trans ?_ (State.missStall_kept ..)
          refine Kept.trans ?_ (State.l1Check_kept ..)
          exact y2
      · rename_i z21 z22 z23
        refine Sound.of ?_ (State.addrTrap_kept ..)
        exact y3

theorem execLdB_kept (c : CtxNum) (d : GReg) (a : GReg) (imm : BitVec 16) (s : State) : Sound s (execLdB c d a imm s) := by
  unfold execLdB
  refine Sound.of ?_ (State.load_kept ..)
  exact Kept.refl _

theorem execLdBu_kept (c : CtxNum) (d : GReg) (a : GReg) (imm : BitVec 16) (s : State) : Sound s (execLdBu c d a imm s) := by
  unfold execLdBu
  refine Sound.of ?_ (State.load_kept ..)
  exact Kept.refl _

theorem execLdH_kept (c : CtxNum) (d : GReg) (a : GReg) (imm : BitVec 16) (s : State) : Sound s (execLdH c d a imm s) := by
  unfold execLdH
  refine Sound.of ?_ (State.load_kept ..)
  exact Kept.refl _

theorem execLdHu_kept (c : CtxNum) (d : GReg) (a : GReg) (imm : BitVec 16) (s : State) : Sound s (execLdHu c d a imm s) := by
  unfold execLdHu
  refine Sound.of ?_ (State.load_kept ..)
  exact Kept.refl _

theorem execLdW_kept (c : CtxNum) (d : GReg) (a : GReg) (imm : BitVec 16) (s : State) : Sound s (execLdW c d a imm s) := by
  unfold execLdW
  refine Sound.of ?_ (State.load_kept ..)
  exact Kept.refl _

theorem execLdWu_kept (c : CtxNum) (d : GReg) (a : GReg) (imm : BitVec 16) (s : State) : Sound s (execLdWu c d a imm s) := by
  unfold execLdWu
  refine Sound.of ?_ (State.load_kept ..)
  exact Kept.refl _

theorem execLdD_kept (c : CtxNum) (d : GReg) (a : GReg) (imm : BitVec 16) (s : State) : Sound s (execLdD c d a imm s) := by
  unfold execLdD
  refine Sound.of ?_ (State.load_kept ..)
  exact Kept.refl _

theorem execStB_kept (c : CtxNum) (d : GReg) (a : GReg) (imm : BitVec 16) (s : State) : Sound s (execStB c d a imm s) := by
  unfold execStB
  refine Sound.of ?_ (State.store_kept ..)
  exact Kept.refl _

theorem execStH_kept (c : CtxNum) (d : GReg) (a : GReg) (imm : BitVec 16) (s : State) : Sound s (execStH c d a imm s) := by
  unfold execStH
  refine Sound.of ?_ (State.store_kept ..)
  exact Kept.refl _

theorem execStW_kept (c : CtxNum) (d : GReg) (a : GReg) (imm : BitVec 16) (s : State) : Sound s (execStW c d a imm s) := by
  unfold execStW
  refine Sound.of ?_ (State.store_kept ..)
  exact Kept.refl _

theorem execStD_kept (c : CtxNum) (d : GReg) (a : GReg) (imm : BitVec 16) (s : State) : Sound s (execStD c d a imm s) := by
  unfold execStD
  refine Sound.of ?_ (State.store_kept ..)
  exact Kept.refl _

theorem execHld_kept (c : CtxNum) (d : GReg) (i : Fin 16) (s : State) : Sound s (execHld c d i s) := by
  unfold execHld
  refine Sound.of ?_ (State.insn_kept (h_f := fun u0 y1 => ?_) ..)
  · exact Kept.refl _
  · refine Sound.next ?_
    refine Kept.trans ?_ (State.res_kept ..)
    exact y1

theorem execHst_kept (c : CtxNum) (a : GReg) (i : Fin 8) (s : State) : Sound s (execHst c a i s) := by
  unfold execHst
  refine Sound.of ?_ (State.insn_kept (h_f := fun u0 y1 => ?_) ..)
  · exact Kept.refl _
  · refine Sound.next ?_
    refine Kept.trans ?_ (State.adv_kept ..)
    refine Kept.trans ?_ (State.set_kept ..)
    exact y1

theorem State.jump_kept (s : State) (c : Nat) (off : Int) : Kept s (State.jump s c off) := by
  unfold State.jump
  refine Kept.trans ?_ (State.wr_kept ..)
  exact Kept.refl _

theorem State.branch_kept (s : State) (i : Instr) (c : CtxNum) (a b : GReg) (off : BitVec 16) (p : Word → Word → Bool) : Sound s (State.branch s i c a b off p) := by
  unfold State.branch
  refine Sound.of ?_ (State.insn_kept (h_f := fun u0 y1 => ?_) ..)
  · exact Kept.refl _
  · refine Sound.next ?_
    refine Kept.ite (fun z2 => ?_) (fun z2 => ?_)
    · refine Kept.trans ?_ (State.jump_kept ..)
      exact y1
    · refine Kept.trans ?_ (State.adv_kept ..)
      exact y1

theorem execBeq_kept (c : CtxNum) (a : GReg) (b : GReg) (off : BitVec 16) (s : State) : Sound s (execBeq c a b off s) := by
  unfold execBeq
  refine Sound.of ?_ (State.branch_kept ..)
  exact Kept.refl _

theorem execBne_kept (c : CtxNum) (a : GReg) (b : GReg) (off : BitVec 16) (s : State) : Sound s (execBne c a b off s) := by
  unfold execBne
  refine Sound.of ?_ (State.branch_kept ..)
  exact Kept.refl _

theorem execBlt_kept (c : CtxNum) (a : GReg) (b : GReg) (off : BitVec 16) (s : State) : Sound s (execBlt c a b off s) := by
  unfold execBlt
  refine Sound.of ?_ (State.branch_kept ..)
  exact Kept.refl _

theorem execBge_kept (c : CtxNum) (a : GReg) (b : GReg) (off : BitVec 16) (s : State) : Sound s (execBge c a b off s) := by
  unfold execBge
  refine Sound.of ?_ (State.branch_kept ..)
  exact Kept.refl _

theorem execBltu_kept (c : CtxNum) (a : GReg) (b : GReg) (off : BitVec 16) (s : State) : Sound s (execBltu c a b off s) := by
  unfold execBltu
  refine Sound.of ?_ (State.branch_kept ..)
  exact Kept.refl _

theorem execBgeu_kept (c : CtxNum) (a : GReg) (b : GReg) (off : BitVec 16) (s : State) : Sound s (execBgeu c a b off s) := by
  unfold execBgeu
  refine Sound.of ?_ (State.branch_kept ..)
  exact Kept.refl _

theorem execJal_kept (c : CtxNum) (d : GReg) (off : BitVec 21) (s : State) : Sound s (execJal c d off s) := by
  unfold execJal
  refine Sound.of ?_ (State.insn_kept (h_f := fun u0 y1 => ?_) ..)
  · exact Kept.refl _
  · refine Sound.next ?_
    refine Kept.trans ?_ (State.jump_kept ..)
    refine Kept.trans ?_ (State.setG_kept ..)
    exact y1

theorem execJalr_kept (c : CtxNum) (d a : GReg) (imm : BitVec 16) (s : State) : Sound s (execJalr c d a imm s) := by
  unfold execJalr
  refine Sound.of ?_ (State.insn_kept (h_f := fun u0 y1 => ?_) ..)
  · exact Kept.refl _
  · lift_lets
    intro x2
    clear_value x2
    refine Sound.next ?_
    refine Kept.trans ?_ (State.wr_kept ..)
    refine Kept.trans ?_ (State.setG_kept ..)
    exact y1

theorem execFenceR_kept (c : CtxNum) (s : State) : Sound s (execFenceR c s) := by
  unfold execFenceR
  refine Sound.of ?_ (State.insn_kept (h_f := fun u0 y1 => ?_) ..)
  · exact Kept.refl _
  · refine Sound.next ?_
    refine Kept.trans ?_ (State.adv_kept ..)
    exact y1

theorem execFenceW_kept (c : CtxNum) (s : State) : Sound s (execFenceW c s) := by
  unfold execFenceW
  refine Sound.of ?_ (State.insn_kept (h_f := fun u0 y1 => ?_) ..)
  · exact Kept.refl _
  · refine Sound.next ?_
    refine Kept.trans ?_ (State.adv_kept ..)
    exact y1

theorem execFenceAll_kept (c : CtxNum) (s : State) : Sound s (execFenceAll c s) := by
  unfold execFenceAll
  refine Sound.of ?_ (State.insn_kept (h_f := fun u0 y1 => ?_) ..)
  · exact Kept.refl _
  · refine Sound.next ?_
    refine Kept.trans ?_ (State.adv_kept ..)
    exact y1

theorem State.amo_kept (s : State) (i : Instr) (op : AtomOp) (c : CtxNum) (d a b : GReg) : Sound s (State.amo s i op c d a b) := by
  unfold State.amo
  refine Sound.of ?_ (State.insnAt_kept (h_f := fun u0 y1 y2 y3 => ?_) ..)
  · exact Kept.refl _
  · lift_lets
    intro x4
    clear_value x4
    refine Sound.ite (fun z5 => ?_) (fun z5 => ?_)
    · refine Sound.of ?_ (fin_kept ..)
      refine Kept.trans ?_ (State.trap_kept ..)
      exact y3
    · refine Sound.ite (fun z6 => ?_) (fun z6 => ?_)
      · refine Sound.of ?_ (fin_kept ..)
        refine Kept.trans ?_ (State.trap_kept ..)
        exact y3
      · split
        · rename_i z7 z8 z9
          lift_lets
          intro x10
          clear_value x10
          intro x11
          have h12 : Kept s x11 := by
            unfold x11
            refine Kept.trans ?_ (State.l1Check_kept ..)
            exact y3
          clear_value x11
          split
          · rename_i z13 z14 z15
            lift_lets
            intro x16
            clear_value x16
            intro x17
            clear_value x17
            refine Sound.ite (fun z18 => ?_) (fun z18 => ?_)
            · refine Sound.of ?_ (fin_kept ..)
              refine Kept.trans ?_ (State.trap_kept ..)
              exact h12
            · refine Sound.of ?_ (endAfter_kept ..)
              refine Kept.trans ?_ (State.res_kept ..)
              refine Kept.trans ?_ (State.l1Update_kept ..)
              exact h12
          · rename_i z19 z20
            refine Sound.of ?_ (endAfter_kept ..)
            refine Kept.trans ?_ (State.missStall_kept ..)
            refine Kept.trans ?_ (State.l1Check_kept ..)
            exact y2
        · rename_i z21 z22
          refine Sound.of ?_ (State.addrTrap_kept ..)
          exact y3

theorem execAmoAdd_kept (c : CtxNum) (d : GReg) (a : GReg) (b : GReg) (s : State) : Sound s (execAmoAdd c d a b s) := by
  unfold execAmoAdd
  refine Sound.of ?_ (State.amo_kept ..)
  exact Kept.refl _

theorem execAmoSwap_kept (c : CtxNum) (d : GReg) (a : GReg) (b : GReg) (s : State) : Sound s (execAmoSwap c d a b s) := by
  unfold execAmoSwap
  refine Sound.of ?_ (State.amo_kept ..)
  exact Kept.refl _

theorem execAmoCas_kept (c : CtxNum) (d : GReg) (a : GReg) (b : GReg) (s : State) : Sound s (execAmoCas c d a b s) := by
  unfold execAmoCas
  refine Sound.of ?_ (State.amo_kept ..)
  exact Kept.refl _

theorem execAmoAnd_kept (c : CtxNum) (d : GReg) (a : GReg) (b : GReg) (s : State) : Sound s (execAmoAnd c d a b s) := by
  unfold execAmoAnd
  refine Sound.of ?_ (State.amo_kept ..)
  exact Kept.refl _

theorem execAmoOr_kept (c : CtxNum) (d : GReg) (a : GReg) (b : GReg) (s : State) : Sound s (execAmoOr c d a b s) := by
  unfold execAmoOr
  refine Sound.of ?_ (State.amo_kept ..)
  exact Kept.refl _

theorem State.lockOp_kept (s : State) (i : Instr) (c : CtxNum) (d a : GReg) (view : Nat) (k : AccKind) (f : State → Nat → Out) (h_f : ∀ u y1, Sound u (f u y1)) : Sound s (State.lockOp s i c d a view k f) := by
  unfold State.lockOp
  refine Sound.of ?_ (State.insn_kept (h_f := fun u0 y1 => ?_) ..)
  · exact Kept.refl _
  · lift_lets
    intro x2
    clear_value x2
    refine Sound.ite (fun z3 => ?_) (fun z3 => ?_)
    · refine Sound.next ?_
      refine Kept.trans ?_ (State.res_kept ..)
      exact y1
    · split
      · rename_i z4 z5 z6
        refine Sound.of ?_ (h_f ..)
        refine Kept.eqn z6 ?_
        refine Kept.trans ?_ (State.gate_kept ..)
        exact y1
      · rename_i z7 z8 z9
        refine Sound.of ?_ (fin_kept ..)
        refine Kept.trans ?_ (State.trap_kept ..)
        refine Kept.eqn z9 ?_
        refine Kept.trans ?_ (State.gate_kept ..)
        exact y1

theorem execLockAcq_kept (c : CtxNum) (d a : GReg) (s : State) : Sound s (execLockAcq c d a s) := by
  unfold execLockAcq
  refine Sound.of ?_ (State.lockOp_kept (h_f := fun u0 y1 => ?_) ..)
  · exact Kept.refl _
  · split
    rename_i z2 z3 z4 z5
    refine Sound.ite (fun z6 => ?_) (fun z6 => ?_)
    · refine Sound.next ?_
      refine Kept.trans ?_ (State.setCtx_kept ..)
      refine Kept.trans ?_ (State.setClaims_kept ..)
      refine Kept.eqn z5 ?_
      refine Kept.trans ?_ (State.semTry_kept ..)
      exact Kept.refl _
    · refine Sound.next ?_
      refine Kept.trans ?_ (State.res_kept ..)
      refine Kept.eqn z5 ?_
      refine Kept.trans ?_ (State.semTry_kept ..)
      exact Kept.refl _

theorem execLockTry_kept (c : CtxNum) (d a : GReg) (s : State) : Sound s (execLockTry c d a s) := by
  unfold execLockTry
  refine Sound.of ?_ (State.lockOp_kept (h_f := fun u0 y1 => ?_) ..)
  · exact Kept.refl _
  · split
    rename_i z2 z3 z4 z5
    refine Sound.next ?_
    refine Kept.trans ?_ (State.res_kept ..)
    refine Kept.eqn z5 ?_
    refine Kept.trans ?_ (State.semTry_kept ..)
    exact Kept.refl _

theorem execLockRel_kept (c : CtxNum) (d a : GReg) (s : State) : Sound s (execLockRel c d a s) := by
  unfold execLockRel
  refine Sound.of ?_ (State.lockOp_kept (h_f := fun u0 y1 => ?_) ..)
  · exact Kept.refl _
  · split
    rename_i z2 z3 z4 z5
    refine Sound.of ?_ (fin_kept ..)
    refine Kept.trans ?_ (State.res_kept ..)
    refine Kept.eqn z5 ?_
    refine Kept.trans ?_ (State.semRelease_kept ..)
    exact Kept.refl _

theorem execWait_kept (c : CtxNum) (d a : GReg) (s : State) : Sound s (execWait c d a s) := by
  unfold execWait
  refine Sound.of ?_ (State.insn_kept (h_f := fun u0 y1 => ?_) ..)
  · exact Kept.refl _
  · lift_lets
    intro x2
    clear_value x2
    refine Sound.ite (fun z3 => ?_) (fun z3 => ?_)
    · refine Sound.of ?_ (fin_kept ..)
      refine Kept.trans ?_ (State.trap_kept ..)
      exact y1
    · refine Sound.next ?_
      refine Kept.trans ?_ (State.setCtx_kept ..)
      refine Kept.trans ?_ (State.wr_kept ..)
      refine Kept.trans ?_ (State.adv_kept ..)
      exact y1

theorem execYield_kept (c : CtxNum) (s : State) : Sound s (execYield c s) := by
  unfold execYield
  refine Sound.of ?_ (State.insn_kept (h_f := fun u0 y1 => ?_) ..)
  · exact Kept.refl _
  · lift_lets
    intro x2
    clear_value x2
    refine Sound.next ?_
    refine Kept.trans ?_ (State.setCtx_kept ..)
    refine Kept.trans ?_ (State.adv_kept ..)
    exact y1

theorem execDone_kept (c : CtxNum) (s : State) : Sound s (execDone c s) := by
  unfold execDone
  refine Sound.of ?_ (State.insn_kept (h_f := fun u0 y1 => ?_) ..)
  · exact Kept.refl _
  · refine Sound.of ?_ (fin_kept ..)
    refine Kept.trans ?_ (State.activationEnd_kept ..)
    exact y1

theorem execTrap_kept (c : CtxNum) (imm : BitVec 16) (s : State) : Sound s (execTrap c imm s) := by
  unfold execTrap
  refine Sound.of ?_ (State.insn_kept (h_f := fun u0 y1 => ?_) ..)
  · exact Kept.refl _
  · refine Sound.of ?_ (fin_kept ..)
    refine Kept.trans ?_ (State.trap_kept ..)
    exact y1

theorem execHalt_kept (c : CtxNum) (s : State) : Sound s (execHalt c s) := by
  unfold execHalt
  refine Sound.of ?_ (State.insn_kept (h_f := fun u0 y1 => ?_) ..)
  · exact Kept.refl _
  · refine Sound.ite (fun z2 => ?_) (fun z2 => ?_)
    · refine Sound.of ?_ (fin_kept ..)
      refine Kept.trans ?_ (State.ctxHalt_kept ..)
      exact y1
    · refine Sound.of ?_ (fin_kept ..)
      refine Kept.trans ?_ (State.trap_kept ..)
      exact y1

theorem execCsrRd_kept (c : CtxNum) (d : GReg) (n : BitVec 8) (s : State) : Sound s (execCsrRd c d n s) := by
  unfold execCsrRd
  refine Sound.of ?_ (State.insn_kept (h_f := fun u0 y1 => ?_) ..)
  · exact Kept.refl _
  · refine Sound.ite (fun z2 => ?_) (fun z2 => ?_)
    · refine Sound.of ?_ (fin_kept ..)
      refine Kept.trans ?_ (State.trap_kept ..)
      exact y1
    · refine Sound.next ?_
      refine Kept.trans ?_ (State.res_kept ..)
      exact y1

theorem State.csrWrite_kept (s : State) (c : Nat) (n : Nat) (v : Word) : Kept s (State.csrWrite s c n v) := by
  unfold State.csrWrite
  split
  · rename_i z1
    refine Kept.ite (fun z2 => ?_) (fun z2 => ?_)
    · refine Kept.trans ?_ (State.wr_kept ..)
      exact Kept.refl _
    · exact Kept.refl _
  · rename_i z7
    refine Kept.trans ?_ (State.wr_kept ..)
    exact Kept.refl _
  · rename_i z10
    refine Kept.trans ?_ (State.wr_kept ..)
    exact Kept.refl _
  · rename_i z13
    refine Kept.ite (fun z14 => ?_) (fun z14 => ?_)
    · exact Kept.refl _
    · refine Kept.trans ?_ (State.wr_kept ..)
      exact Kept.refl _
  · rename_i z19 z20 z21 z22 z23
    exact Kept.refl _

theorem execCsrWr_kept (c : CtxNum) (a : GReg) (n : BitVec 8) (s : State) : Sound s (execCsrWr c a n s) := by
  unfold execCsrWr
  refine Sound.of ?_ (State.insn_kept (h_f := fun u0 y1 => ?_) ..)
  · exact Kept.refl _
  · lift_lets
    intro x2
    clear_value x2
    refine Sound.ite (fun z3 => ?_) (fun z3 => ?_)
    · refine Sound.of ?_ (fin_kept ..)
      refine Kept.trans ?_ (State.trap_kept ..)
      exact y1
    · refine Sound.ite (fun z4 => ?_) (fun z4 => ?_)
      · refine Sound.of ?_ (fin_kept ..)
        refine Kept.trans ?_ (State.trap_kept ..)
        exact y1
      · refine Sound.next ?_
        refine Kept.trans ?_ (State.adv_kept ..)
        refine Kept.trans ?_ (State.csrWrite_kept ..)
        exact y1

theorem execIllegalInstruction_kept (c : CtxNum) (w : BitVec 32) (s : State) : Sound s (execIllegalInstruction c w s) := by
  unfold execIllegalInstruction
  refine Sound.ite (fun z0 => ?_) (fun z0 => ?_)
  · refine Sound.next ?_
    exact Kept.refl _
  · refine Sound.of ?_ (State.insnAt_kept (h_f := fun u1 y2 y3 y4 => ?_) ..)
    · exact Kept.refl _
    · refine Sound.of ?_ (fin_kept ..)
      refine Kept.trans ?_ (State.trap_kept ..)
      exact y4

theorem State.ures_kept (s : State) (c : Nat) (d : GReg) (value : Nat) (status : Nat) : Sound s (State.ures s c d value status) := by
  unfold State.ures
  lift_lets
  intro x0
  have h1 : Kept s x0 := by
    unfold x0
    refine Kept.ite (fun z2 => ?_) (fun z2 => ?_)
    · refine Kept.trans ?_ (State.raise_kept ..)
      exact Kept.refl _
    · exact Kept.refl _
  clear_value x0
  refine Sound.of ?_ (fin_kept ..)
  refine Kept.trans ?_ (State.res_kept ..)
  exact h1

theorem State.desc_kept (r s : State) (c : CtxNum) (d : GReg) (a : Nat) (n rd : Nat) (f : Nat → Out) (h_b : Kept r s) (h_f : ∀ u, Sound r (f u)) : Sound r (State.desc s c d a n rd f) := by
  unfold State.desc
  refine Sound.ite (fun z0 => ?_) (fun z0 => ?_)
  · refine Sound.of ?_ (fin_kept ..)
    refine Kept.trans ?_ (State.trap_kept ..)
    exact h_b
  · refine Sound.ite (fun z1 => ?_) (fun z1 => ?_)
    · refine Sound.ite (fun z2 => ?_) (fun z2 => ?_)
      · refine Sound.of ?_ (State.ures_kept ..)
        exact h_b
      · refine Sound.of ?_ (fin_kept ..)
        refine Kept.trans ?_ (State.trap_kept ..)
        exact h_b
    · split
      · rename_i z3 z4 z5
        refine Sound.ite (fun z6 => ?_) (fun z6 => ?_)
        · refine Sound.of ?_ (fin_kept ..)
          refine Kept.trans ?_ (State.trap_kept ..)
          refine Kept.trans ?_ (State.raise_kept ..)
          refine Kept.trans ?_ (State.palFound_kept ..)
          exact h_b
        · exact h_f ..
      · rename_i z7 z8 z9
        refine Sound.of ?_ (State.ures_kept ..)
        exact h_b
      · rename_i z10 z11 z12
        refine Sound.of ?_ (fin_kept ..)
        refine Kept.trans ?_ (State.trap_kept ..)
        exact h_b

theorem State.brushEndOk_kept (s : State) (c : Nat) (sp : Nat) (a : Nat) (len : Nat) (func : Nat) (k : AccKind) : Kept s (State.brushEndOk s c sp a len func k).1 := by
  refine KeptFst.out ?_
  unfold State.brushEndOk
  split
  · rename_i z1
    split
    · rename_i z3 z4 z5
      refine KeptFst.pair ?_
      exact Kept.refl _
    · rename_i z8 z9 z10
      refine KeptFst.pair ?_
      exact Kept.refl _
    · rename_i z13 z14 z15
      refine KeptFst.pair ?_
      exact Kept.refl _
  · rename_i z18
    refine KeptFst.ite (fun z19 => ?_) (fun z19 => ?_)
    · refine KeptFst.pair ?_
      exact Kept.refl _
    · refine KeptFst.ite (fun z23 => ?_) (fun z23 => ?_)
      · refine KeptFst.pair ?_
        exact Kept.refl _
      · split
        · rename_i z28 z29 z30
          refine KeptFst.pair ?_
          refine Kept.eqn z30 ?_
          refine Kept.trans ?_ (State.gate_kept ..)
          exact Kept.refl _
        · rename_i z35 z36 z37
          refine KeptFst.pair ?_
          refine Kept.eqn z37 ?_
          refine Kept.trans ?_ (State.gate_kept ..)
          exact Kept.refl _
  · rename_i z42
    refine KeptFst.ite (fun z43 => ?_) (fun z43 => ?_)
    · refine KeptFst.pair ?_
      exact Kept.refl _
    · refine KeptFst.pair ?_
      exact Kept.refl _
  · rename_i z49
    refine KeptFst.ite (fun z50 => ?_) (fun z50 => ?_)
    · refine KeptFst.pair ?_
      exact Kept.refl _
    · refine KeptFst.pair ?_
      exact Kept.refl _
  · rename_i z56 z57 z58 z59 z60
    refine KeptFst.ite (fun z61 => ?_) (fun z61 => ?_)
    · refine KeptFst.pair ?_
      exact Kept.refl _
    · refine KeptFst.pair ?_
      exact Kept.refl _

theorem State.brushStart_kept (r s0 s : State) (c : CtxNum) (d : GReg) (key : Nat) (fill : Option Word) (h_a : Kept r s0) (h_b : Kept r s) : Sound r (State.brushStart s0 s c d key fill) := by
  unfold State.brushStart
  lift_lets
  intro x0
  clear_value x0
  intro x1
  clear_value x1
  intro x2
  clear_value x2
  intro x3
  clear_value x3
  intro x4
  clear_value x4
  refine Sound.ite (fun z5 => ?_) (fun z5 => ?_)
  · refine Sound.of ?_ (State.ures_kept ..)
    exact h_b
  · split
    rename_i z6 z7 z8 z9
    split
    · rename_i z10
      rcases e11 : (z7.brushEndOk (↑c) (brDstSp x2) x1 x3 (brFunc x2) AccKind.write) with ⟨z12, z13⟩
      dsimp -zeta only
      lift_lets
      intro x14
      clear_value x14
      dsimp -zeta only
      refine Sound.ite (fun z15 => ?_) (fun z15 => ?_)
      · refine Sound.of ?_ (State.ures_kept ..)
        refine Kept.eqn e11 ?_
        refine Kept.trans ?_ (State.brushEndOk_kept ..)
        refine Kept.eqn z9 ?_
        refine KeptFst.out ?_
        split
        · rename_i z16 z17
          refine KeptFst.pair ?_
          exact h_b
        · rename_i z18
          refine KeptFst.trans ?_ (State.brushEndOk_kept ..)
          exact h_b
      · refine Sound.ite (fun z19 => ?_) (fun z19 => ?_)
        · refine Sound.next ?_
          refine Kept.trans ?_ (State.setCtx_kept ..)
          exact h_a
        · refine Sound.of ?_ (State.ures_kept ..)
          refine Kept.trans ?_ (State.takeId_kept ..)
          refine Kept.trans ?_ (State.setCtx_kept ..)
          refine Kept.eqn e11 ?_
          refine Kept.trans ?_ (State.brushEndOk_kept ..)
          refine Kept.eqn z9 ?_
          refine KeptFst.out ?_
          split
          · rename_i z20 z21
            refine KeptFst.pair ?_
            exact h_b
          · rename_i z22
            refine KeptFst.trans ?_ (State.brushEndOk_kept ..)
            exact h_b
    · rename_i z23
      cases z8
      · dsimp -zeta only
        lift_lets
        intro x25
        clear_value x25
        dsimp -zeta only
        refine Sound.ite (fun z26 => ?_) (fun z26 => ?_)
        · refine Sound.of ?_ (State.ures_kept ..)
          refine Kept.eqn z9 ?_
          refine KeptFst.out ?_
          split
          · rename_i z27 z28
            refine KeptFst.pair ?_
            exact h_b
          · rename_i z29
            refine KeptFst.trans ?_ (State.brushEndOk_kept ..)
            exact h_b
        · refine Sound.ite (fun z30 => ?_) (fun z30 => ?_)
          · refine Sound.next ?_
            refine Kept.trans ?_ (State.setCtx_kept ..)
            exact h_a
          · refine Sound.of ?_ (State.ures_kept ..)
            refine Kept.trans ?_ (State.takeId_kept ..)
            refine Kept.trans ?_ (State.setCtx_kept ..)
            refine Kept.eqn z9 ?_
            refine KeptFst.out ?_
            split
            · rename_i z31 z32
              refine KeptFst.pair ?_
              exact h_b
            · rename_i z33
              refine KeptFst.trans ?_ (State.brushEndOk_kept ..)
              exact h_b
      · rename_i z34
        dsimp -zeta only
        lift_lets
        intro x35
        clear_value x35
        dsimp -zeta only
        refine Sound.ite (fun z36 => ?_) (fun z36 => ?_)
        · refine Sound.of ?_ (State.ures_kept ..)
          refine Kept.eqn z9 ?_
          refine KeptFst.out ?_
          split
          · rename_i z37 z38
            refine KeptFst.pair ?_
            exact h_b
          · rename_i z39
            refine KeptFst.trans ?_ (State.brushEndOk_kept ..)
            exact h_b
        · refine Sound.ite (fun z40 => ?_) (fun z40 => ?_)
          · refine Sound.next ?_
            refine Kept.trans ?_ (State.setCtx_kept ..)
            exact h_a
          · refine Sound.of ?_ (State.ures_kept ..)
            refine Kept.trans ?_ (State.takeId_kept ..)
            refine Kept.trans ?_ (State.setCtx_kept ..)
            refine Kept.eqn z9 ?_
            refine KeptFst.out ?_
            split
            · rename_i z41 z42
              refine KeptFst.pair ?_
              exact h_b
            · rename_i z43
              refine KeptFst.trans ?_ (State.brushEndOk_kept ..)
              exact h_b

theorem execBrushCopy_kept (c : CtxNum) (d a b : GReg) (s : State) : Sound s (execBrushCopy c d a b s) := by
  unfold execBrushCopy
  lift_lets
  intro x0
  clear_value x0
  refine Sound.of ?_ (State.insnAt_kept (h_f := fun u1 y2 y3 y4 => ?_) ..)
  · exact Kept.refl _
  · refine (State.desc_kept (h_b := ?_) (h_f := fun u5 => ?_) ..)
    · exact y4
    · refine (State.brushStart_kept (h_a := ?_) (h_b := ?_) ..)
      · exact y3
      · exact y4

theorem execBrushFill_kept (c : CtxNum) (d a b : GReg) (s : State) : Sound s (execBrushFill c d a b s) := by
  unfold execBrushFill
  refine Sound.of ?_ (State.insnAt_kept (h_f := fun u0 y1 y2 y3 => ?_) ..)
  · exact Kept.refl _
  · refine (State.desc_kept (h_b := ?_) (h_f := fun u4 => ?_) ..)
    · exact y3
    · refine (State.brushStart_kept (h_a := ?_) (h_b := ?_) ..)
      · exact y2
      · exact y3

theorem State.drained_kept (s : State) (c : Nat) (d : Nat) : Kept s (State.drained s c d) := by
  unfold State.drained
  lift_lets
  intro x0
  clear_value x0
  intro x1
  have h2 : Kept s x1 := by
    unfold x1
    refine Kept.trans ?_ (State.setCtx_kept ..)
    exact Kept.refl _
  clear_value x1
  refine Kept.trans ?_ (State.adv_kept ..)
  refine Kept.trans ?_ (State.setG_kept ..)
  exact h2

theorem execBrushDrain_kept (c : CtxNum) (d a b : GReg) (s : State) : Sound s (execBrushDrain c d a b s) := by
  unfold execBrushDrain
  lift_lets
  intro x0
  clear_value x0
  refine Sound.of ?_ (State.insn_kept (h_f := fun u1 y2 => ?_) ..)
  · exact Kept.refl _
  · refine Sound.ite (fun z3 => ?_) (fun z3 => ?_)
    · refine Sound.next ?_
      refine Kept.trans ?_ (State.drained_kept ..)
      exact y2
    · refine Sound.next ?_
      refine Kept.trans ?_ (State.setCtx_kept ..)
      exact y2

theorem State.brushSource_kept (s : State) (c : Nat) (b : Brush) (host : List Byte) : Kept s (State.brushSource s c b host).1 := by
  unfold State.brushSource
  lift_lets
  intro x0
  clear_value x0
  refine KeptFst.out ?_
  split
  · rename_i z1 z2 z3
    refine KeptFst.pair ?_
    exact Kept.refl _
  · rename_i z4 z5
    split
    · rename_i z6 z7
      split
      · rename_i z8 z9 z10
        refine KeptFst.pair ?_
        refine Kept.ite (fun z11 => ?_) (fun z11 => ?_)
        · refine Kept.trans ?_ (State.palFound_kept ..)
          exact Kept.refl _
        · refine Kept.trans ?_ (State.palCheck_kept ..)
          exact Kept.refl _
      · rename_i z12 z13
        refine KeptFst.pair ?_
        exact Kept.refl _
    · rename_i z14 z15
      refine KeptFst.trans ?_ (State.devRead_kept ..)
      exact Kept.refl _
    · rename_i z16 z17
      refine KeptFst.pair ?_
      refine Kept.trans ?_ (State.cxlTouch_kept ..)
      exact Kept.refl _
    · rename_i z18 z19 z20 z21
      refine KeptFst.pair ?_
      exact Kept.refl _

theorem State.brushDest_kept (s : State) (c : Nat) (b : Brush) (bs : List Byte) : Kept s (State.brushDest s c b bs) := by
  unfold State.brushDest
  refine Kept.ite (fun z0 => ?_) (fun z0 => ?_)
  · exact Kept.refl _
  · split
    · rename_i z4 z5
      split
      · rename_i z7 z8 z9
        refine Kept.trans ?_ (State.palWrite_kept ..)
        exact Kept.refl _
      · rename_i z12 z13
        exact Kept.refl _
    · rename_i z15 z16
      refine Kept.trans ?_ (State.devWrite_kept ..)
      exact Kept.refl _
    · rename_i z19 z20
      refine Kept.trans ?_ (State.dma_kept ..)
      exact Kept.refl _
    · rename_i z23 z24 z25 z26
      refine Kept.trans ?_ (State.setCtx_kept ..)
      exact Kept.refl _

theorem State.brushHost_kept (s : State) (b : Brush) (e : BrushEnd) : Kept s (State.brushHost s b e) := by
  unfold State.brushHost
  split
  · rename_i z0 z1
    exact Kept.refl _
  · rename_i z2 z3 z4
    refine Kept.ite (fun z5 => ?_) (fun z5 => ?_)
    · refine Kept.trans ?_ (State.pcieBad_kept ..)
      exact Kept.refl _
    · exact Kept.refl _

theorem execBrushFinish_kept (c : CtxNum) (id : Nat) (e : BrushEnd) (s : State) : Sound s (execBrushFinish c id e s) := by
  unfold execBrushFinish
  split
  · rename_i z0 z1
    refine Sound.next ?_
    exact Kept.refl _
  · rename_i z2 z3 z4
    lift_lets
    intro x5
    have h6 : Kept s x5 := by
      unfold x5
      refine Kept.trans ?_ (State.setCtx_kept ..)
      exact Kept.refl _
    clear_value x5
    intro x7
    have h8 : Kept s x7 := by
      unfold x7
      refine Kept.trans ?_ (State.brushHost_kept ..)
      exact h6
    clear_value x7
    intro x9
    clear_value x9
    intro x10
    clear_value x10
    split
    rename_i z11 z12 z13 z14 z15
    lift_lets
    intro x16
    clear_value x16
    intro x17
    have h18 : Kept s x17 := by
      unfold x17
      refine Kept.trans ?_ (State.brushDest_kept ..)
      refine Kept.eqn z15 ?_
      refine KeptFst.out ?_
      split
      · rename_i z19 z20
        refine KeptFst.trans ?_ (State.brushSource_kept ..)
        exact h8
      · rename_i z21 z22 z23
        split
        rename_i z24 z25 z26 z27 z28
        refine KeptFst.pair ?_
        refine Kept.eqn z28 ?_
        refine Kept.trans ?_ (State.brushSource_kept ..)
        exact h8
    clear_value x17
    intro x29
    have h30 : Kept s x29 := by
      unfold x29
      refine Kept.ite (fun z31 => ?_) (fun z31 => ?_)
      · refine Kept.trans ?_ (State.setCtx_kept ..)
        exact h18
      · exact h18
    clear_value x29
    intro x32
    have h33 : Kept s x32 := by
      unfold x32
      refine Kept.ite (fun z34 => ?_) (fun z34 => ?_)
      · exact h18
      · refine Kept.ite (fun z35 => ?_) (fun z35 => ?_)
        · refine Kept.trans ?_ (State.postTargeted_kept ..)
          exact h30
        · refine Kept.ite (fun z36 => ?_) (fun z36 => ?_)
          · refine Kept.trans ?_ (State.postTargeted_kept ..)
            exact h30
          · exact h30
    clear_value x32
    split
    · rename_i z37 z38 z39
      refine Sound.of ?_ (fin_kept ..)
      refine Kept.ite (fun z40 => ?_) (fun z40 => ?_)
      · refine Kept.trans ?_ (State.drained_kept ..)
        exact h33
      · exact h33
    · rename_i z41 z42
      refine Sound.of ?_ (fin_kept ..)
      exact h33

theorem State.ringEntry_kept (s : State) (q : Nat) (src : Fetched) : Kept s (State.ringEntry s q src).1 := by
  refine KeptFst.out ?_
  unfold State.ringEntry
  refine KeptFst.ite (fun z0 => ?_) (fun z0 => ?_)
  · split
    rename_i z3 z4 z5 z6 z7
    refine KeptFst.pair ?_
    refine Kept.eqn z7 ?_
    refine Kept.trans ?_ (State.devRead_kept ..)
    exact Kept.refl _
  · split
    · rename_i z13 z14
      refine KeptFst.pair ?_
      exact Kept.refl _
    · rename_i z17
      refine KeptFst.pair ?_
      exact Kept.refl _

theorem State.ringFault_kept (s : State) (q iova : Nat) : Kept s (State.ringFault s q iova) := by
  unfold State.ringFault
  lift_lets
  intro x0
  have h1 : Kept s x0 := by
    unfold x0
    refine Kept.trans ?_ (State.queueError_kept ..)
    exact Kept.refl _
  clear_value x0
  refine Kept.ite (fun z2 => ?_) (fun z2 => ?_)
  · exact h1
  · refine Kept.trans ?_ (State.raise_kept ..)
    exact h1

theorem State.recvMalformed_kept (s : State) (q : Nat) (idx : Nat) (e : Octet) (why : Nat) : Kept s (State.recvMalformed s q idx e why) := by
  unfold State.recvMalformed
  lift_lets
  intro x0
  have h1 : Kept s x0 := by
    unfold x0
    refine Kept.trans ?_ (State.reserve_kept ..)
    refine Kept.trans ?_ (State.wr_kept ..)
    refine Kept.trans ?_ (State.count_kept ..)
    exact Kept.refl _
  clear_value x0
  intro x6
  clear_value x6
  refine Kept.trans ?_ (State.complete_kept ..)
  exact h1

theorem State.popTaken_kept (s : State) (q idx : Nat) (e : Octet) (slot : Bool) : Kept s (State.popTaken s q idx e slot) := by
  unfold State.popTaken
  lift_lets
  intro x0
  clear_value x0
  refine Kept.ite (fun z1 => ?_) (fun z1 => ?_)
  · refine Kept.trans ?_ (State.pushTaken_kept ..)
    exact Kept.refl _
  · refine Kept.trans ?_ (State.takeId_kept ..)
    refine Kept.trans ?_ (State.setQue_kept ..)
    exact Kept.refl _

theorem execQPop_kept (c : CtxNum) (d a b : GReg) (src : Fetched) (s : State) : Sound s (execQPop c d a b src s) := by
  unfold execQPop
  refine Sound.of ?_ (State.insn_kept (h_f := fun u0 y1 => ?_) ..)
  · exact Kept.refl _
  · lift_lets
    intro x2
    clear_value x2
    intro x3
    clear_value x3
    intro x4
    clear_value x4
    intro x5
    clear_value x5
    refine Sound.ite (fun z6 => ?_) (fun z6 => ?_)
    · refine Sound.of ?_ (State.ures_kept ..)
      exact y1
    · refine Sound.ite (fun z7 => ?_) (fun z7 => ?_)
      · refine Sound.of ?_ (State.ures_kept ..)
        exact y1
      · refine (State.desc_kept (h_b := ?_) (h_f := fun u8 => ?_) ..)
        · exact y1
        · refine Sound.ite (fun z9 => ?_) (fun z9 => ?_)
          · refine Sound.of ?_ (State.ures_kept ..)
            exact y1
          · refine Sound.ite (fun z10 => ?_) (fun z10 => ?_)
            · refine Sound.of ?_ (State.ures_kept ..)
              exact y1
            · refine Sound.ite (fun z11 => ?_) (fun z11 => ?_)
              · refine Sound.of ?_ (State.ures_kept ..)
                exact y1
              · refine Sound.ite (fun z12 => ?_) (fun z12 => ?_)
                · refine Sound.of ?_ (State.ures_kept ..)
                  refine Kept.trans ?_ (State.closeOpen_kept ..)
                  exact y1
                · refine Sound.ite (fun z13 => ?_) (fun z13 => ?_)
                  · refine Sound.of ?_ (State.ures_kept ..)
                    refine Kept.trans ?_ (State.stallRing_kept ..)
                    exact y1
                  · refine Sound.ite (fun z14 => ?_) (fun z14 => ?_)
                    · refine Sound.of ?_ (State.ures_kept ..)
                      exact y1
                    · split
                      · rename_i z15
                        rcases e16 : (u0.ringEntry x3 src) with ⟨z17, z18⟩
                        cases z18
                        · dsimp -zeta only
                          refine Sound.of ?_ (State.ures_kept ..)
                          refine Kept.trans ?_ (State.ringFault_kept ..)
                          refine Kept.eqn e16 ?_
                          refine Kept.trans ?_ (State.ringEntry_kept ..)
                          exact y1
                        · rename_i z20
                          dsimp -zeta only
                          lift_lets
                          intro x21
                          have h22 : Kept s x21 := by
                            unfold x21
                            refine Kept.trans ?_ (State.advanceCi_kept ..)
                            refine Kept.trans ?_ (State.reserve_kept ..)
                            refine Kept.eqn e16 ?_
                            refine Kept.trans ?_ (State.ringEntry_kept ..)
                            exact y1
                          clear_value x21
                          dsimp -zeta only
                          split
                          · rename_i z23 z24 z25
                            refine Sound.of ?_ (State.ures_kept ..)
                            refine Kept.trans ?_ (State.takeMalformed_kept ..)
                            exact h22
                          · rename_i z26 z27
                            refine Sound.of ?_ (State.ures_kept ..)
                            refine Kept.trans ?_ (State.palWrite_kept ..)
                            refine Kept.trans ?_ (State.popTaken_kept ..)
                            exact h22
                      · rename_i z28
                        rcases e29 : (u0.ringEntry x3 src) with ⟨z30, z31⟩
                        dsimp -zeta only
                        split
                        · rename_i z32 z33 z34
                          refine Sound.of ?_ (State.ures_kept ..)
                          refine Kept.trans ?_ (State.ringFault_kept ..)
                          refine Kept.eqn z34 ?_
                          dsimp -zeta only
                          refine Kept.eqn e29 ?_
                          refine Kept.trans ?_ (State.ringEntry_kept ..)
                          exact y1
                        · rename_i z35 z36 z37 z38
                          split
                          · rename_i z39 z40 z41
                            refine Sound.ite (fun z42 => ?_) (fun z42 => ?_)
                            · refine Sound.of ?_ (State.ures_kept ..)
                              refine Kept.trans ?_ (State.recvMalformed_kept ..)
                              refine Kept.trans ?_ (State.advanceCi_kept ..)
                              refine Kept.eqn z38 ?_
                              dsimp -zeta only
                              refine Kept.eqn e29 ?_
                              refine Kept.trans ?_ (State.ringEntry_kept ..)
                              exact y1
                            · refine Sound.of ?_ (State.ures_kept ..)
                              refine Kept.eqn z38 ?_
                              dsimp -zeta only
                              refine Kept.eqn e29 ?_
                              refine Kept.trans ?_ (State.ringEntry_kept ..)
                              exact y1
                          · rename_i z43 z44
                            refine Sound.of ?_ (State.ures_kept ..)
                            refine Kept.trans ?_ (State.palWrite_kept ..)
                            refine Kept.trans ?_ (State.popTaken_kept ..)
                            refine Kept.trans ?_ (State.advanceCi_kept ..)
                            refine Kept.eqn z38 ?_
                            dsimp -zeta only
                            refine Kept.eqn e29 ?_
                            refine Kept.trans ?_ (State.ringEntry_kept ..)
                            exact y1

theorem execQPush_kept (c : CtxNum) (d a b : GReg) (s : State) : Sound s (execQPush c d a b s) := by
  unfold execQPush
  refine Sound.of ?_ (State.insn_kept (h_f := fun u0 y1 => ?_) ..)
  · exact Kept.refl _
  · lift_lets
    intro x2
    clear_value x2
    intro x3
    clear_value x3
    intro x4
    clear_value x4
    refine Sound.ite (fun z5 => ?_) (fun z5 => ?_)
    · refine Sound.of ?_ (State.ures_kept ..)
      exact y1
    · refine Sound.ite (fun z6 => ?_) (fun z6 => ?_)
      · refine Sound.of ?_ (State.ures_kept ..)
        exact y1
      · refine (State.desc_kept (h_b := ?_) (h_f := fun u7 => ?_) ..)
        · exact y1
        · lift_lets
          intro x8
          clear_value x8
          refine Sound.of ?_ (State.ures_kept ..)
          refine Kept.trans ?_ (State.postEntry_kept ..)
          exact y1

theorem State.malCount_kept (s : State) (q : Nat) (t : Taken) (r : Result) : Kept s (State.malCount s q t r) := by
  unfold State.malCount
  refine Kept.ite (fun z0 => ?_) (fun z0 => ?_)
  · refine Kept.trans ?_ (State.wr_kept ..)
    refine Kept.trans ?_ (State.count_kept ..)
    exact Kept.refl _
  · exact Kept.refl _

theorem execQComplete_kept (c : CtxNum) (d a b : GReg) (s : State) : Sound s (execQComplete c d a b s) := by
  unfold execQComplete
  refine Sound.of ?_ (State.insn_kept (h_f := fun u0 y1 => ?_) ..)
  · exact Kept.refl _
  · lift_lets
    intro x2
    clear_value x2
    intro x3
    clear_value x3
    refine Sound.ite (fun z4 => ?_) (fun z4 => ?_)
    · refine Sound.of ?_ (State.ures_kept ..)
      exact y1
    · refine Sound.ite (fun z5 => ?_) (fun z5 => ?_)
      · refine Sound.of ?_ (State.ures_kept ..)
        exact y1
      · refine (State.desc_kept (h_b := ?_) (h_f := fun u6 => ?_) ..)
        · exact y1
        · lift_lets
          intro x7
          clear_value x7
          intro x8
          clear_value x8
          intro x9
          clear_value x9
          intro x10
          clear_value x10
          split
          · rename_i z11 z12 z13
            lift_lets
            intro x14
            have h15 : Kept s x14 := by
              unfold x14
              refine Kept.trans ?_ (State.setQue_kept ..)
              exact y1
            clear_value x14
            intro x16
            have h17 : Kept s x16 := by
              unfold x16
              refine Kept.ite (fun z18 => ?_) (fun z18 => ?_)
              · exact h15
              · refine Kept.trans ?_ (State.reserve_kept ..)
                exact h15
            clear_value x16
            intro x19
            clear_value x19
            refine Sound.ite (fun z20 => ?_) (fun z20 => ?_)
            · refine Sound.of ?_ (State.ures_kept ..)
              exact y1
            · refine Sound.ite (fun z21 => ?_) (fun z21 => ?_)
              · refine Sound.ite (fun z22 => ?_) (fun z22 => ?_)
                · refine Sound.of ?_ (State.ures_kept ..)
                  exact y1
                · refine Sound.ite (fun z23 => ?_) (fun z23 => ?_)
                  · refine Sound.of ?_ (State.ures_kept ..)
                    exact h17
                  · refine Sound.of ?_ (State.ures_kept ..)
                    refine Kept.trans ?_ (State.complete_kept ..)
                    refine Kept.trans ?_ (State.malCount_kept ..)
                    exact h17
              · refine Sound.of ?_ (State.ures_kept ..)
                refine Kept.trans ?_ (State.finishEntry_kept ..)
                refine Kept.trans ?_ (State.malCount_kept ..)
                exact y1
          · rename_i z24 z25
            refine Sound.of ?_ (State.ures_kept ..)
            exact y1

theorem execQBell_kept (c : CtxNum) (d a : GReg) (s : State) : Sound s (execQBell c d a s) := by
  unfold execQBell
  refine Sound.of ?_ (State.insn_kept (h_f := fun u0 y1 => ?_) ..)
  · exact Kept.refl _
  · lift_lets
    intro x2
    clear_value x2
    intro x3
    clear_value x3
    refine Sound.ite (fun z4 => ?_) (fun z4 => ?_)
    · refine Sound.of ?_ (State.ures_kept ..)
      exact y1
    · refine Sound.ite (fun z5 => ?_) (fun z5 => ?_)
      · refine Sound.of ?_ (State.ures_kept ..)
        exact y1
      · refine Sound.ite (fun z6 => ?_) (fun z6 => ?_)
        · refine Sound.of ?_ (State.ures_kept ..)
          exact y1
        · refine Sound.ite (fun z7 => ?_) (fun z7 => ?_)
          · refine Sound.of ?_ (State.ures_kept ..)
            refine Kept.trans ?_ (State.dbRefused_kept ..)
            exact y1
          · refine Sound.of ?_ (State.ures_kept ..)
            refine Kept.trans ?_ (State.bell_kept ..)
            exact y1

theorem execPktBuild_kept (c : CtxNum) (d a b : GReg) (s : State) : Sound s (execPktBuild c d a b s) := by
  unfold execPktBuild
  lift_lets
  intro x0
  clear_value x0
  refine Sound.of ?_ (State.insn_kept (h_f := fun u1 y2 => ?_) ..)
  · exact Kept.refl _
  · lift_lets
    intro x3
    clear_value x3
    intro x4
    clear_value x4
    intro x5
    clear_value x5
    intro x6
    clear_value x6
    refine Sound.ite (fun z7 => ?_) (fun z7 => ?_)
    · refine Sound.of ?_ (State.ures_kept ..)
      exact y2
    · refine Sound.ite (fun z8 => ?_) (fun z8 => ?_)
      · refine Sound.of ?_ (State.ures_kept ..)
        refine Kept.trans ?_ (State.drawn_kept ..)
        refine Kept.trans ?_ (State.setCtx_kept ..)
        exact y2
      · refine (State.desc_kept (h_b := ?_) (h_f := fun u9 => ?_) ..)
        · exact y2
        · refine Sound.of ?_ (State.ures_kept ..)
          refine Kept.trans ?_ (State.setCtx_kept ..)
          exact y2

theorem State.sketchAsked_kept (s : State) (n : Nat) (p : Packet) : Kept s (State.sketchAsked s n p) := by
  unfold State.sketchAsked
  lift_lets
  intro x0
  clear_value x0
  intro x1
  clear_value x1
  split
  · rename_i z2 z3 z4
    refine Kept.trans ?_ (State.setQue_kept ..)
    exact Kept.refl _
  · rename_i z5
    exact Kept.refl _

theorem State.engineSend_kept (s : State) (p : Packet) (id : Nat) : Kept s (State.engineSend s p id) := by
  unfold State.engineSend
  lift_lets
  intro x0
  clear_value x0
  intro x1
  clear_value x1
  intro x2
  clear_value x2
  intro x3
  clear_value x3
  refine Kept.ite (fun z4 => ?_) (fun z4 => ?_)
  · refine Kept.trans ?_ (State.ctlLeaves_kept ..)
    exact Kept.refl _
  · refine Kept.ite (fun z5 => ?_) (fun z5 => ?_)
    · refine Kept.trans ?_ (State.txHand_kept ..)
      refine Kept.trans ?_ (State.sketchAsked_kept ..)
      exact Kept.refl _
    · refine Kept.trans ?_ (State.launch_kept ..)
      exact Kept.refl _

theorem State.roomStall_kept (s : State) (c : Nat) (d : GReg) : Kept s (State.roomStall s c d) := by
  unfold State.roomStall
  refine Kept.trans ?_ (State.takeId_kept ..)
  refine Kept.trans ?_ (State.setCtx_kept ..)
  exact Kept.refl _

theorem execPktSend_kept (c : CtxNum) (d a b : GReg) (s : State) : Sound s (execPktSend c d a b s) := by
  unfold execPktSend
  lift_lets
  intro x0
  clear_value x0
  refine Sound.of ?_ (State.insnAt_kept (h_f := fun u1 y2 y3 y4 => ?_) ..)
  · exact Kept.refl _
  · split
    · rename_i z5 z6
      refine Sound.of ?_ (State.ures_kept ..)
      exact y4
    · rename_i z7 z8 z9
      lift_lets
      intro x10
      clear_value x10
      intro x11
      clear_value x11
      intro x12
      clear_value x12
      intro x13
      clear_value x13
      intro x14
      clear_value x14
      intro x15
      clear_value x15
      refine Sound.ite (fun z16 => ?_) (fun z16 => ?_)
      · refine Sound.of ?_ (State.ures_kept ..)
        exact y4
      · refine Sound.ite (fun z17 => ?_) (fun z17 => ?_)
        · refine Sound.of ?_ (State.ures_kept ..)
          exact y4
        · refine Sound.ite (fun z18 => ?_) (fun z18 => ?_)
          · refine Sound.next ?_
            refine Kept.trans ?_ (State.setCtx_kept ..)
            exact y3
          · refine Sound.of ?_ (fin_kept ..)
            refine Kept.trans ?_ (State.engineSend_kept ..)
            refine Kept.trans ?_ (State.roomStall_kept ..)
            refine Kept.trans ?_ (State.setCtx_kept ..)
            exact y4

theorem execPktFwd_kept (c : CtxNum) (d a b : GReg) (s : State) : Sound s (execPktFwd c d a b s) := by
  unfold execPktFwd
  lift_lets
  intro x0
  clear_value x0
  refine Sound.of ?_ (State.insnAt_kept (h_f := fun u1 y2 y3 y4 => ?_) ..)
  · exact Kept.refl _
  · lift_lets
    intro x5
    have h6 : Kept s x5 := by
      unfold x5
      refine Kept.trans ?_ (State.roomStall_kept ..)
      refine Kept.trans ?_ (State.setCtx_kept ..)
      exact y4
    clear_value x5
    refine Sound.ite (fun z7 => ?_) (fun z7 => ?_)
    · refine Sound.of ?_ (State.ures_kept ..)
      exact y4
    · split
      · rename_i z8 z9
        refine Sound.of ?_ (State.ures_kept ..)
        exact y4
      · rename_i z10 z11 z12
        lift_lets
        intro x13
        clear_value x13
        intro x14
        clear_value x14
        intro x15
        clear_value x15
        refine Sound.ite (fun z16 => ?_) (fun z16 => ?_)
        · refine Sound.of ?_ (State.ures_kept ..)
          exact y4
        · refine Sound.ite (fun z17 => ?_) (fun z17 => ?_)
          · refine Sound.next ?_
            refine Kept.trans ?_ (State.setCtx_kept ..)
            exact y3
          · refine Sound.of ?_ (fin_kept ..)
            refine Kept.ite (fun z18 => ?_) (fun z18 => ?_)
            · refine Kept.trans ?_ (State.relay_kept ..)
              exact h6
            · refine Kept.trans ?_ (State.launch_kept ..)
              exact h6

theorem execPktDrop_kept (c : CtxNum) (d a b : GReg) (s : State) : Sound s (execPktDrop c d a b s) := by
  unfold execPktDrop
  lift_lets
  intro x0
  clear_value x0
  refine Sound.of ?_ (State.insn_kept (h_f := fun u1 y2 => ?_) ..)
  · exact Kept.refl _
  · lift_lets
    intro x3
    clear_value x3
    intro x4
    have h5 : Kept s x4 := by
      unfold x4
      refine Kept.trans ?_ (State.count_kept ..)
      exact y2
    clear_value x4
    refine Sound.ite (fun z6 => ?_) (fun z6 => ?_)
    · refine Sound.of ?_ (State.ures_kept ..)
      exact y2
    · refine Sound.of ?_ (State.ures_kept ..)
      refine Kept.trans ?_ (State.ctxReport_kept ..)
      exact h5

theorem State.popPosted_kept (s : State) (q idx : Nat) : Kept s (State.popPosted s q idx) := by
  unfold State.popPosted
  split
  · rename_i z0 z1 z2
    refine Kept.trans ?_ (State.setQue_kept ..)
    exact Kept.refl _
  · rename_i z3 z4
    exact Kept.refl _

theorem execMatchPost_kept (c : CtxNum) (d a b : GReg) (s : State) : Sound s (execMatchPost c d a b s) := by
  unfold execMatchPost
  refine Sound.of ?_ (State.insn_kept (h_f := fun u0 y1 => ?_) ..)
  · exact Kept.refl _
  · lift_lets
    intro x2
    clear_value x2
    refine (State.desc_kept (h_b := ?_) (h_f := fun u3 => ?_) ..)
    · exact y1
    · lift_lets
      intro x4
      clear_value x4
      intro x5
      clear_value x5
      refine Sound.ite (fun z6 => ?_) (fun z6 => ?_)
      · refine Sound.of ?_ (State.ures_kept ..)
        exact y1
      · refine Sound.ite (fun z7 => ?_) (fun z7 => ?_)
        · refine Sound.of ?_ (State.ures_kept ..)
          exact y1
        · refine Sound.ite (fun z8 => ?_) (fun z8 => ?_)
          · refine Sound.of ?_ (State.ures_kept ..)
            exact y1
          · refine Sound.ite (fun z9 => ?_) (fun z9 => ?_)
            · refine Sound.of ?_ (State.ures_kept ..)
              refine Kept.trans ?_ (State.unboundOnce_kept ..)
              exact y1
            · split
              · rename_i z10 z11 z12
                refine Sound.ite (fun z13 => ?_) (fun z13 => ?_)
                · refine Sound.of ?_ (State.ures_kept ..)
                  exact y1
                · refine Sound.of ?_ (State.ures_kept ..)
                  refine Kept.trans ?_ (State.palWrite_kept ..)
                  refine Kept.trans ?_ (State.postRecv_kept ..)
                  refine Kept.trans ?_ (State.popPosted_kept ..)
                  exact y1
              · rename_i z14 z15
                refine Sound.ite (fun z16 => ?_) (fun z16 => ?_)
                · refine Sound.of ?_ (State.ures_kept ..)
                  exact y1
                · refine Sound.of ?_ (State.ures_kept ..)
                  refine Kept.trans ?_ (State.postRecv_kept ..)
                  refine Kept.trans ?_ (State.popPosted_kept ..)
                  exact y1

theorem execMatchProbe_kept (c : CtxNum) (d a b : GReg) (s : State) : Sound s (execMatchProbe c d a b s) := by
  unfold execMatchProbe
  lift_lets
  intro x0
  clear_value x0
  refine Sound.of ?_ (State.insn_kept (h_f := fun u1 y2 => ?_) ..)
  · exact Kept.refl _
  · refine (State.desc_kept (h_b := ?_) (h_f := fun u3 => ?_) ..)
    · exact y2
    · refine Sound.ite (fun z4 => ?_) (fun z4 => ?_)
      · refine Sound.of ?_ (State.ures_kept ..)
        exact y2
      · split
        · rename_i z5 z6 z7
          refine Sound.of ?_ (State.ures_kept ..)
          exact y2
        · rename_i z8 z9
          refine Sound.of ?_ (State.ures_kept ..)
          exact y2

theorem execMatchTake_kept (c : CtxNum) (d a b : GReg) (s : State) : Sound s (execMatchTake c d a b s) := by
  unfold execMatchTake
  refine Sound.of ?_ (State.insn_kept (h_f := fun u0 y1 => ?_) ..)
  · exact Kept.refl _
  · refine (State.desc_kept (h_b := ?_) (h_f := fun u2 => ?_) ..)
    · exact y1
    · refine (State.desc_kept (h_b := ?_) (h_f := fun u3 => ?_) ..)
      · exact y1
      · lift_lets
        intro x4
        clear_value x4
        refine Sound.ite (fun z5 => ?_) (fun z5 => ?_)
        · refine Sound.of ?_ (State.ures_kept ..)
          exact y1
        · split
          · rename_i z6 z7
            refine Sound.of ?_ (State.ures_kept ..)
            exact y1
          · rename_i z8 z9 z10
            lift_lets
            intro x11
            have h12 : Kept s x11 := by
              unfold x11
              refine Kept.trans ?_ (State.stallClear_kept ..)
              refine Kept.trans ?_ (State.reserve_kept ..)
              refine Kept.trans ?_ (State.unpost_kept ..)
              exact y1
            clear_value x11
            intro x13
            have h14 : Kept s x13 := by
              unfold x13
              refine Kept.trans ?_ (State.pushTaken_kept ..)
              exact h12
            clear_value x13
            intro x15
            clear_value x15
            refine Sound.ite (fun z16 => ?_) (fun z16 => ?_)
            · refine Sound.of ?_ (State.ures_kept ..)
              exact y1
            · refine Sound.of ?_ (State.ures_kept ..)
              refine Kept.trans ?_ (State.palWrite_kept ..)
              exact h14

theorem execMixOpen_kept (c : CtxNum) (d a b : GReg) (s : State) : Sound s (execMixOpen c d a b s) := by
  unfold execMixOpen
  refine Sound.of ?_ (State.insn_kept (h_f := fun u0 y1 => ?_) ..)
  · exact Kept.refl _
  · lift_lets
    intro x2
    clear_value x2
    intro x3
    clear_value x3
    intro x4
    clear_value x4
    intro x5
    clear_value x5
    intro x6
    clear_value x6
    intro x7
    intro x8
    clear_value x8
    intro x9
    clear_value x9
    intro x10
    clear_value x10
    intro x11
    have h12 : Kept s x11 := by
      unfold x11
      refine Kept.trans ?_ (State.takeId_kept ..)
      refine Kept.trans ?_ (State.setTr_kept ..)
      exact y1
    clear_value x11
    refine Sound.ite (fun z13 => ?_) (fun z13 => ?_)
    · refine Sound.of ?_ (State.ures_kept ..)
      exact y1
    · refine Sound.ite (fun z14 => ?_) (fun z14 => ?_)
      · refine Sound.of ?_ (State.ures_kept ..)
        exact y1
      · refine Sound.ite (fun z15 => ?_) (fun z15 => ?_)
        · refine Sound.of ?_ (State.ures_kept ..)
          exact y1
        · refine Sound.ite (fun z16 => ?_) (fun z16 => ?_)
          · refine Sound.of ?_ (State.ures_kept ..)
            exact y1
          · refine Sound.of ?_ (State.ures_kept ..)
            refine Kept.trans ?_ (State.treeGo_kept ..)
            exact h12

theorem execMixFeed_kept (c : CtxNum) (d a b : GReg) (s : State) : Sound s (execMixFeed c d a b s) := by
  unfold execMixFeed
  refine Sound.of ?_ (State.insn_kept (h_f := fun u0 y1 => ?_) ..)
  · exact Kept.refl _
  · split
    · rename_i z2 z3
      refine Sound.of ?_ (State.ures_kept ..)
      exact y1
    · rename_i z4 z5 z6 z7
      lift_lets
      intro x8
      clear_value x8
      intro x9
      clear_value x9
      intro x10
      clear_value x10
      refine Sound.ite (fun z11 => ?_) (fun z11 => ?_)
      · refine Sound.of ?_ (State.ures_kept ..)
        exact y1
      · refine Sound.ite (fun z12 => ?_) (fun z12 => ?_)
        · refine Sound.of ?_ (State.ures_kept ..)
          exact y1
        · refine (State.desc_kept (h_b := ?_) (h_f := fun u13 => ?_) ..)
          · exact y1
          · lift_lets
            intro x14
            clear_value x14
            intro x15
            have h16 : Kept s x15 := by
              unfold x15
              refine Kept.trans ?_ (State.setTr_kept ..)
              exact y1
            clear_value x15
            refine Sound.of ?_ (State.ures_kept ..)
            refine Kept.trans ?_ (State.treeGo_kept ..)
            exact h16

theorem execMixClose_kept (c : CtxNum) (d a b : GReg) (s : State) : Sound s (execMixClose c d a b s) := by
  unfold execMixClose
  lift_lets
  intro x0
  clear_value x0
  refine Sound.of ?_ (State.insn_kept (h_f := fun u1 y2 => ?_) ..)
  · exact Kept.refl _
  · split
    · rename_i z3 z4
      refine Sound.of ?_ (State.ures_kept ..)
      exact y2
    · rename_i z5 z6 z7 z8
      lift_lets
      intro x9
      have h10 : Kept s x9 := by
        unfold x9
        refine Kept.trans ?_ (State.setTr_kept ..)
        exact y2
      clear_value x9
      refine Sound.ite (fun z11 => ?_) (fun z11 => ?_)
      · refine Sound.of ?_ (State.ures_kept ..)
        exact y2
      · refine Sound.of ?_ (State.ures_kept ..)
        refine Kept.trans ?_ (State.treeGo_kept ..)
        exact h10

theorem execTmArm_kept (c : CtxNum) (d a b : GReg) (s : State) : Sound s (execTmArm c d a b s) := by
  unfold execTmArm
  refine Sound.of ?_ (State.insn_kept (h_f := fun u0 y1 => ?_) ..)
  · exact Kept.refl _
  · lift_lets
    intro x2
    clear_value x2
    intro x3
    clear_value x3
    refine Sound.of ?_ (State.ures_kept ..)
    refine Kept.trans ?_ (State.setCtx_kept ..)
    exact y1

theorem execTmStop_kept (c : CtxNum) (d a b : GReg) (s : State) : Sound s (execTmStop c d a b s) := by
  unfold execTmStop
  lift_lets
  intro x0
  clear_value x0
  refine Sound.of ?_ (State.insn_kept (h_f := fun u1 y2 => ?_) ..)
  · exact Kept.refl _
  · refine Sound.of ?_ (State.ures_kept ..)
    refine Kept.trans ?_ (State.setCtx_kept ..)
    exact y2

theorem execCntRd_kept (c : CtxNum) (d a b : GReg) (s : State) : Sound s (execCntRd c d a b s) := by
  unfold execCntRd
  lift_lets
  intro x0
  clear_value x0
  refine Sound.of ?_ (State.insn_kept (h_f := fun u1 y2 => ?_) ..)
  · exact Kept.refl _
  · refine Sound.next ?_
    refine Kept.trans ?_ (State.res_kept ..)
    exact y2

theorem execTimerFire_kept (c : CtxNum) (t : Fin 8) (s : State) : Sound s (execTimerFire c t s) := by
  unfold execTimerFire
  split
  · rename_i z1 z2
    refine Sound.next ?_
    exact Kept.refl _
  · rename_i z5 z6 z7
    lift_lets
    intro x8
    have h9 : Kept s x8 := by
      unfold x8
      refine Kept.trans ?_ (State.passTim_kept ..)
      exact Kept.refl _
    clear_value x8
    intro x12
    have h13 : Kept s x12 := by
      unfold x12
      refine Kept.trans ?_ (State.setCtx_kept ..)
      exact h9
    clear_value x12
    refine Sound.of ?_ (fin_kept ..)
    refine Kept.trans ?_ (State.postTargeted_kept ..)
    exact h13

theorem State.samplingStart_kept (s : State) (q : Nat) : Kept s (State.samplingStart s q) := by
  unfold State.samplingStart
  refine Kept.trans ?_ (State.set_kept ..)
  refine Kept.trans ?_ (State.set_kept ..)
  refine Kept.trans ?_ (State.set_kept ..)
  refine Kept.trans ?_ (State.set_kept ..)
  refine Kept.trans ?_ (State.set_kept ..)
  refine Kept.trans ?_ (State.set_kept ..)
  exact Kept.refl _

theorem State.queueStart_kept (s : State) (q : Nat) : Kept s (State.queueStart s q) := by
  unfold State.queueStart
  lift_lets
  intro x0
  have h1 : Kept s x0 := by
    unfold x0
    refine Kept.trans ?_ (State.set_kept ..)
    refine Kept.trans ?_ (State.set_kept ..)
    refine Kept.trans ?_ (State.set_kept ..)
    exact Kept.refl _
  clear_value x0
  intro x2
  have h3 : Kept s x2 := by
    unfold x2
    refine Kept.trans ?_ (State.set_kept ..)
    exact h1
  clear_value x2
  intro x4
  have h5 : Kept s x4 := by
    unfold x4
    refine Kept.trans ?_ (State.setQue_kept ..)
    refine Kept.trans ?_ (State.samplingStart_kept ..)
    exact h3
  clear_value x4
  refine Kept.trans ?_ (State.wr_kept ..)
  exact h5

theorem State.flushPosts_kept (q k : Nat) (s : State) : Kept s (State.flushPosts q k s) := by
  induction k generalizing s with
  | zero => exact Kept.refl s
  | succ k ih =>
    unfold State.flushPosts
    split
    · exact Kept.refl s
    · refine Kept.ite (fun _ => Kept.refl s) (fun _ => ?_)
      exact ((((State.unpost_kept ..).trans (State.stallClear_kept ..)).trans (State.reserve_kept ..)).trans
        (State.recvComplete_kept ..)).trans (ih _)

theorem State.writeAnswered_kept (s : State) (q : Nat) : Kept s (State.writeAnswered s q) := by
  unfold State.writeAnswered
  lift_lets
  intro x0
  have h1 : Kept s x0 := by
    unfold x0
    refine Kept.trans ?_ (State.writeCompletion_kept ..)
    exact Kept.refl _
  clear_value x0
  refine Kept.ite (fun z4 => ?_) (fun z4 => ?_)
  · refine Kept.trans ?_ (State.fwctlAnswer_kept ..)
    exact h1
  · exact h1

theorem State.drainGo_kept (s : State) (q : Nat) : Kept s (State.drainGo s q) := by
  unfold State.drainGo
  refine Kept.ite (fun z0 => ?_) (fun z0 => ?_)
  · lift_lets
    intro x2
    have h3 : Kept s x2 := by
      unfold x2
      refine Kept.trans ?_ (State.flushPosts_kept ..)
      exact Kept.refl _
    clear_value x2
    intro x6
    have h7 : Kept s x6 := by
      unfold x6
      refine Kept.trans ?_ (State.writeAnswered_kept ..)
      exact h3
    clear_value x6
    refine Kept.ite (fun z10 => ?_) (fun z10 => ?_)
    · exact h7
    · refine Kept.trans ?_ (State.queueDisabled_kept ..)
      exact h7
  · exact Kept.refl _

theorem State.queueStop_kept (s : State) (q : Nat) : Kept s (State.queueStop s q) := by
  unfold State.queueStop
  lift_lets
  intro x0
  clear_value x0
  refine Kept.ite (fun z1 => ?_) (fun z1 => ?_)
  · refine Kept.trans ?_ (State.drainGo_kept ..)
    refine Kept.trans ?_ (State.wr_kept ..)
    exact Kept.refl _
  · exact Kept.refl _

theorem State.qcwPut_kept (s : State) (m : Mst) (w : Nat) (v : Word) : Kept s (State.qcwPut s m w v) := by
  unfold State.qcwPut
  lift_lets
  intro x0
  clear_value x0
  intro x1
  clear_value x1
  intro x2
  have h3 : Kept s x2 := by
    unfold x2
    refine Kept.trans ?_ (State.plainWrite_kept ..)
    exact Kept.refl _
  clear_value x2
  refine Kept.ite (fun z6 => ?_) (fun z6 => ?_)
  · refine Kept.ite (fun z8 => ?_) (fun z8 => ?_)
    · refine Kept.trans ?_ (State.plainWrite_kept ..)
      exact Kept.refl _
    · exact Kept.refl _
  · refine Kept.ite (fun z13 => ?_) (fun z13 => ?_)
    · refine Kept.ite (fun z15 => ?_) (fun z15 => ?_)
      · refine Kept.ite (fun z17 => ?_) (fun z17 => ?_)
        · refine Kept.trans ?_ (State.queueStart_kept ..)
          exact h3
        · refine Kept.trans ?_ (State.count_kept ..)
          exact h3
      · exact h3
    · refine Kept.ite (fun z24 => ?_) (fun z24 => ?_)
      · refine Kept.trans ?_ (State.queueStop_kept ..)
        exact Kept.refl _
      · exact Kept.refl _

theorem execQcwWrite_kept (m : Mst) (w : Fin 16) (v : Word) (s : State) : Sound s (execQcwWrite m w v s) := by
  unfold execQcwWrite
  refine Sound.of ?_ (regWriteRow_kept (h_f := fun u0 y1 => ?_) ..)
  · exact Kept.refl _
  · refine Kept.trans ?_ (State.qcwPut_kept ..)
    exact Kept.refl _

theorem execQueueActivate_kept (m : Mst) (v : Word) (s : State) : Sound s (execQueueActivate m v s) := by
  unfold execQueueActivate
  refine Sound.of ?_ (regWriteRow_kept (h_f := fun u0 y1 => ?_) ..)
  · exact Kept.refl _
  · refine Kept.trans ?_ (State.qcwPut_kept ..)
    exact Kept.refl _

theorem execQueueDisable_kept (m : Mst) (v : Word) (s : State) : Sound s (execQueueDisable m v s) := by
  unfold execQueueDisable
  refine Sound.of ?_ (regWriteRow_kept (h_f := fun u0 y1 => ?_) ..)
  · exact Kept.refl _
  · refine Kept.trans ?_ (State.qcwPut_kept ..)
    exact Kept.refl _

theorem execQueueDrainEnd_kept (q : QNum) (s : State) : Sound s (execQueueDrainEnd q s) := by
  unfold execQueueDrainEnd
  refine Sound.of ?_ (fin_kept ..)
  refine Kept.trans ?_ (State.drainGo_kept ..)
  exact Kept.refl _

theorem State.flrQueue_kept (s : State) (q : Nat) : Kept s (State.flrQueue s q) := by
  unfold State.flrQueue
  refine Kept.trans ?_ (State.setQue_kept ..)
  refine Kept.trans ?_ (State.wr_kept ..)
  exact Kept.refl _

theorem State.flrBegin_kept (s : State) (func : Nat) : Kept s (State.flrBegin s func) := by
  unfold State.flrBegin
  lift_lets
  intro x0
  clear_value x0
  intro x1
  clear_value x1
  intro x2
  clear_value x2
  intro x3
  have h4 : Kept s x3 := by
    unfold x3
    refine Kept.trans ?_ (Kept.foldl (fun t5 x6 => ?_) _ _)
    · exact Kept.refl _
    · refine Kept.trans ?_ (State.flrQueue_kept ..)
      exact Kept.refl _
  clear_value x3
  intro x7
  clear_value x7
  intro x8
  have h9 : Kept s x8 := by
    unfold x8
    refine Kept.trans ?_ (Kept.foldl (fun t10 x11 => ?_) _ _)
    · exact h4
    · refine Kept.trans ?_ (State.stallClear_kept ..)
      refine Kept.trans ?_ (State.unpost_kept ..)
      exact Kept.refl _
  clear_value x8
  intro x12
  have h13 : Kept s x12 := by
    unfold x12
    refine Kept.trans ?_ (State.setMtch_kept ..)
    exact h9
  clear_value x12
  intro x14
  have h15 : Kept s x14 := by
    unfold x14
    refine Kept.trans ?_ (Kept.record ..)
    exact h13
  clear_value x14
  intro x16
  have h17 : Kept s x16 := by
    unfold x16
    refine Kept.trans ?_ (State.setHost_kept ..)
    exact h15
  clear_value x16
  intro x18
  have h19 : Kept s x18 := by
    unfold x18
    refine Kept.trans ?_ (State.wmEval_kept ..)
    exact h17
  clear_value x18
  intro x20
  have h21 : Kept s x20 := by
    unfold x20
    refine Kept.trans ?_ (State.clearSels_kept ..)
    exact h19
  clear_value x20
  refine Kept.trans ?_ (State.cohCancel_kept ..)
  refine Kept.trans ?_ (State.semAbandon_kept ..)
  exact h21

theorem execFunctionLevelReset_kept (p : Fin 4) (f : Fin 256) (s : State) : Sound s (execFunctionLevelReset p f s) := by
  unfold execFunctionLevelReset
  refine Sound.ite (fun z0 => ?_) (fun z0 => ?_)
  · refine Sound.next ?_
    exact Kept.refl _
  · refine Sound.of ?_ (fin_kept ..)
    refine Kept.trans ?_ (State.flrBegin_kept ..)
    exact Kept.refl _

theorem execFlrEnd_kept (p : Fin 4) (f : Fin 256) (s : State) : Sound s (execFlrEnd p f s) := by
  unfold execFlrEnd
  refine Sound.ite (fun z0 => ?_) (fun z0 => ?_)
  · refine Sound.of ?_ (fin_kept ..)
    refine Kept.trans ?_ (State.setHost_kept ..)
    exact Kept.refl _
  · refine Sound.next ?_
    exact Kept.refl _

theorem execTakeWorkEntry_kept (q : QNum) (e : Octet) (s : State) : Sound s (execTakeWorkEntry q e s) := by
  unfold execTakeWorkEntry
  lift_lets
  intro x0
  have h1 : Kept s x0 := by
    unfold x0
    refine Kept.trans ?_ (State.structSeen_kept ..)
    exact Kept.refl _
  clear_value x0
  intro x2
  clear_value x2
  refine Sound.ite (fun z3 => ?_) (fun z3 => ?_)
  · refine Sound.next ?_
    exact Kept.refl _
  · refine Sound.ite (fun z4 => ?_) (fun z4 => ?_)
    · refine Sound.of ?_ (fin_kept ..)
      refine Kept.trans ?_ (State.structRaise_kept ..)
      exact h1
    · refine Sound.ite (fun z5 => ?_) (fun z5 => ?_)
      · refine Sound.of ?_ (fin_kept ..)
        refine Kept.trans ?_ (State.closeOpen_kept ..)
        exact h1
      · refine Sound.ite (fun z6 => ?_) (fun z6 => ?_)
        · refine Sound.of ?_ (fin_kept ..)
          refine Kept.trans ?_ (State.stallRing_kept ..)
          exact h1
        · split
          · rename_i z7 z8 z9
            refine Sound.of ?_ (fin_kept ..)
            refine Kept.trans ?_ (State.ringFault_kept ..)
            refine Kept.eqn z9 ?_
            refine Kept.trans ?_ (State.ringEntry_kept ..)
            exact h1
          · rename_i z10 z11 z12 z13
            refine Sound.ite (fun z14 => ?_) (fun z14 => ?_)
            · refine Sound.of ?_ (fin_kept ..)
              refine Kept.trans ?_ (State.setQue_kept ..)
              refine Kept.eqn z13 ?_
              refine Kept.trans ?_ (State.ringEntry_kept ..)
              exact h1
            · refine Sound.of ?_ (fin_kept ..)
              refine Kept.trans ?_ (State.takeOnto_kept ..)
              refine Kept.trans ?_ (State.setQue_kept ..)
              refine Kept.trans ?_ (State.advanceCi_kept ..)
              refine Kept.eqn z13 ?_
              refine Kept.trans ?_ (State.ringEntry_kept ..)
              exact h1

theorem execRingAccessFault_kept (q : QNum) (iova : Word) (s : State) : Sound s (execRingAccessFault q iova s) := by
  unfold execRingAccessFault
  lift_lets
  intro x0
  clear_value x0
  refine Sound.ite (fun z1 => ?_) (fun z1 => ?_)
  · refine Sound.next ?_
    exact Kept.refl _
  · refine Sound.of ?_ (fin_kept ..)
    refine Kept.trans ?_ (State.ringFault_kept ..)
    exact Kept.refl _

theorem execWriteCompletion_kept (q : QNum) (s : State) : Sound s (execWriteCompletion q s) := by
  unfold execWriteCompletion
  refine Sound.of ?_ (fin_kept ..)
  refine Kept.trans ?_ (State.writeAnswered_kept ..)
  exact Kept.refl _

theorem execNop_kept (q : QNum) (id : Nat) (s : State) : Sound s (execNop q id s) := by
  unfold execNop
  split
  · rename_i z1 z2 z3
    refine Sound.ite (fun z4 => ?_) (fun z4 => ?_)
    · refine Sound.of ?_ (fin_kept ..)
      refine Kept.trans ?_ (State.finishEntry_kept ..)
      exact Kept.refl _
    · refine Sound.next ?_
      exact Kept.refl _
  · rename_i z11 z12
    refine Sound.next ?_
    exact Kept.refl _

theorem State.shpRefill_kept (s : State) (i : Nat) : Kept s (State.shpRefill s i) := by
  unfold State.shpRefill
  lift_lets
  intro x0
  clear_value x0
  intro x1
  have h2 : Kept s x1 := by
    unfold x1
    refine Kept.ite (fun z3 => ?_) (fun z3 => ?_)
    · refine Kept.trans ?_ (State.wr_kept ..)
      refine Kept.trans ?_ (State.set_kept ..)
      refine Kept.trans ?_ (State.set_kept ..)
      exact Kept.refl _
    · exact Kept.refl _
  clear_value x1
  intro x4
  clear_value x4
  intro x5
  have h6 : Kept s x5 := by
    unfold x5
    refine Kept.trans ?_ (State.wr_kept ..)
    exact h2
  clear_value x5
  refine Kept.ite (fun z7 => ?_) (fun z7 => ?_)
  · refine Kept.trans ?_ (State.wr_kept ..)
    exact h6
  · refine Kept.trans ?_ (State.wr_kept ..)
    exact h2

theorem execShaperRefill_kept (i : Fin 65536) (s : State) : Sound s (execShaperRefill i s) := by
  unfold execShaperRefill
  refine Sound.ite (fun z0 => ?_) (fun z0 => ?_)
  · refine Sound.of ?_ (fin_kept ..)
    refine Kept.trans ?_ (State.shpRefill_kept ..)
    refine Kept.trans ?_ (State.passTim_kept ..)
    exact Kept.refl _
  · refine Sound.next ?_
    exact Kept.refl _

theorem State.shpCatchUp_kept (i n : Nat) (s : State) : Kept s (State.shpCatchUp i n s) := by
  induction n generalizing s with
  | zero => exact Kept.refl s
  | succ n ih =>
    unfold State.shpCatchUp
    exact Kept.ite (fun _ => (State.shpRefill_kept ..).trans (ih _)) (fun _ => Kept.refl s)

theorem State.shpWrite_kept (s : State) (m : Mst) (w : Nat) (v : Word) : Kept s (State.shpWrite s m w v) := by
  unfold State.shpWrite
  lift_lets
  intro x0
  clear_value x0
  intro x1
  have h2 : Kept s x1 := by
    unfold x1
    refine Kept.trans ?_ (State.shpCatchUp_kept ..)
    exact Kept.refl _
  clear_value x1
  refine Kept.ite (fun z3 => ?_) (fun z3 => ?_)
  · exact Kept.refl _
  · refine Kept.ite (fun z4 => ?_) (fun z4 => ?_)
    · refine Kept.trans ?_ (State.count_kept ..)
      exact Kept.refl _
    · split
      · rename_i z5 z6 z7
        refine Kept.eqn z7 ?_
        refine Kept.trans ?_ (State.winWrite_kept ..)
        exact h2
      · rename_i z8 z9 z10
        lift_lets
        intro x11
        have h12 : Kept s x11 := by
          unfold x11
          refine Kept.trans ?_ (State.set_kept ..)
          refine Kept.trans ?_ (State.set_kept ..)
          refine Kept.eqn z10 ?_
          refine Kept.trans ?_ (State.winWrite_kept ..)
          exact h2
        clear_value x11
        refine Kept.ite (fun z13 => ?_) (fun z13 => ?_)
        · refine Kept.trans ?_ (State.wr_kept ..)
          refine Kept.eqn z10 ?_
          refine Kept.trans ?_ (State.winWrite_kept ..)
          exact h2
        · refine Kept.ite (fun z14 => ?_) (fun z14 => ?_)
          · refine Kept.trans ?_ (State.wr_kept ..)
            refine Kept.trans ?_ (State.wr_kept ..)
            exact h12
          · exact h12

theorem execShaperWrite_kept (m : Mst) (w : Fin 2) (v : Word) (s : State) : Sound s (execShaperWrite m w v s) := by
  unfold execShaperWrite
  refine Sound.of ?_ (regWriteRow_kept (h_f := fun u0 y1 => ?_) ..)
  · exact Kept.refl _
  · refine Kept.trans ?_ (State.shpWrite_kept ..)
    exact Kept.refl _

theorem State.setPolicer_kept (s : State) (t : Nat) (f : Policer → Policer) : Kept s (State.setPolicer s t f) := by
  unfold State.setPolicer
  refine Kept.trans ?_ (Kept.record ..)
  exact Kept.refl _

theorem State.policerLoad_kept (s : State) (t : Nat) : Kept s (State.policerLoad s t) := by
  unfold State.policerLoad
  refine Kept.trans ?_ (State.setPolicer_kept ..)
  exact Kept.refl _

theorem State.polRefill_kept (s : State) (t : Nat) : Kept s (State.polRefill s t) := by
  unfold State.polRefill
  lift_lets
  intro x0
  clear_value x0
  intro x1
  have h2 : Kept s x1 := by
    unfold x1
    refine Kept.ite (fun z3 => ?_) (fun z3 => ?_)
    · refine Kept.trans ?_ (State.policerLoad_kept ..)
      exact Kept.refl _
    · exact Kept.refl _
  clear_value x1
  intro x4
  clear_value x4
  intro x5
  have h6 : Kept s x5 := by
    unfold x5
    refine Kept.trans ?_ (State.wr_kept ..)
    exact h2
  clear_value x5
  refine Kept.ite (fun z7 => ?_) (fun z7 => ?_)
  · refine Kept.trans ?_ (State.setPolicer_kept ..)
    exact h6
  · refine Kept.trans ?_ (State.setPolicer_kept ..)
    exact h2

theorem execPolicerRefill_kept (t : Fin 4096) (s : State) : Sound s (execPolicerRefill t s) := by
  unfold execPolicerRefill
  refine Sound.ite (fun z0 => ?_) (fun z0 => ?_)
  · refine Sound.of ?_ (fin_kept ..)
    refine Kept.trans ?_ (State.polRefill_kept ..)
    refine Kept.trans ?_ (State.passTim_kept ..)
    exact Kept.refl _
  · refine Sound.next ?_
    exact Kept.refl _

theorem State.polCatchUp_kept (t n : Nat) (s : State) : Kept s (State.polCatchUp t n s) := by
  induction n generalizing s with
  | zero => exact Kept.refl s
  | succ n ih =>
    unfold State.polCatchUp
    exact Kept.ite (fun _ => (State.polRefill_kept ..).trans (ih _)) (fun _ => Kept.refl s)

theorem State.policerCharge_kept (s : State) (t : Nat) (cost : Nat) : Kept s (State.policerCharge s t cost) := by
  unfold State.policerCharge
  refine Kept.ite (fun z0 => ?_) (fun z0 => ?_)
  · refine Kept.trans ?_ (State.wr_kept ..)
    exact Kept.refl _
  · exact Kept.refl _

theorem State.tenWrite_kept (s : State) (m : Mst) (w : Nat) (v : Word) : Kept s (State.tenWrite s m w v) := by
  unfold State.tenWrite
  lift_lets
  intro x0
  clear_value x0
  intro x1
  have h2 : Kept s x1 := by
    unfold x1
    refine Kept.ite (fun z3 => ?_) (fun z3 => ?_)
    · refine Kept.trans ?_ (State.meterEdge_kept ..)
      exact Kept.refl _
    · exact Kept.refl _
  clear_value x1
  intro x4
  have h5 : Kept s x4 := by
    unfold x4
    refine Kept.trans ?_ (State.polCatchUp_kept ..)
    exact h2
  clear_value x4
  intro x6
  clear_value x6
  intro x7
  have h8 : Kept s x7 := by
    unfold x7
    refine Kept.ite (fun z9 => ?_) (fun z9 => ?_)
    · refine Kept.trans ?_ (State.count_kept ..)
      exact h5
    · exact h5
  clear_value x7
  intro x10
  clear_value x10
  intro x11
  clear_value x11
  refine Kept.ite (fun z12 => ?_) (fun z12 => ?_)
  · exact Kept.refl _
  · split
    · rename_i z13 z14 z15
      refine Kept.eqn z15 ?_
      refine Kept.trans ?_ (State.winWrite_kept ..)
      exact h8
    · rename_i z16 z17 z18
      lift_lets
      intro x19
      have h20 : Kept s x19 := by
        unfold x19
        refine Kept.trans ?_ (State.policerLoad_kept ..)
        refine Kept.eqn z18 ?_
        refine Kept.trans ?_ (State.winWrite_kept ..)
        exact h8
      clear_value x19
      refine Kept.ite (fun z21 => ?_) (fun z21 => ?_)
      · refine Kept.eqn z18 ?_
        refine Kept.trans ?_ (State.winWrite_kept ..)
        exact h8
      · refine Kept.ite (fun z22 => ?_) (fun z22 => ?_)
        · refine Kept.trans ?_ (State.setPolicer_kept ..)
          refine Kept.eqn z18 ?_
          refine Kept.trans ?_ (State.winWrite_kept ..)
          exact h8
        · refine Kept.ite (fun z23 => ?_) (fun z23 => ?_)
          · refine Kept.trans ?_ (State.setPolicer_kept ..)
            refine Kept.trans ?_ (State.wr_kept ..)
            exact h20
          · exact h20

theorem execTenantWindowWrite_kept (m : Mst) (w : Fin 5) (v : Word) (s : State) : Sound s (execTenantWindowWrite m w v s) := by
  unfold execTenantWindowWrite
  refine Sound.of ?_ (regWriteRow_kept (h_f := fun u0 y1 => ?_) ..)
  · exact Kept.refl _
  · refine Kept.trans ?_ (State.tenWrite_kept ..)
    exact Kept.refl _

theorem State.pickQueue_kept (k n : Nat) (s : State) : Kept s (State.pickQueue k n s).1 := by
  induction n generalizing s with
  | zero => exact Kept.refl s
  | succ n ih =>
    unfold State.pickQueue
    split
    · exact Kept.refl s
    · lift_lets
      intro x
      have h : Kept s x := Kept.ite (fun _ => State.setQue_kept ..) (fun _ => Kept.refl s)
      clear_value x
      intro y
      have g : Kept s y := h.trans (State.setQue_kept ..)
      clear_value y
      intro z
      clear_value z
      refine KeptFst.out (KeptFst.ite (fun _ => KeptFst.pair h) (fun _ => KeptFst.ite (fun _ => KeptFst.pair h) (fun _ => ?_)))
      exact (g.trans (Kept.record ..)).trans (ih _)

theorem State.setTnode_kept (s : State) (k : Nat) (f : DrrNode → DrrNode) : Kept s (State.setTnode s k f) := by
  unfold State.setTnode
  refine Kept.trans ?_ (Kept.record ..)
  exact Kept.refl _

theorem State.setPnode_kept (s : State) (p : Nat) (f : DrrNode → DrrNode) : Kept s (State.setPnode s p f) := by
  unfold State.setPnode
  refine Kept.trans ?_ (Kept.record ..)
  exact Kept.refl _

theorem State.pickTenant_kept (p n : Nat) (s : State) : Kept s (State.pickTenant p n s).1 := by
  induction n generalizing s with
  | zero => exact Kept.refl s
  | succ n ih =>
    unfold State.pickTenant
    split
    · exact Kept.refl s
    · rename_i k _ _
      have h : Kept s (if (s.tnode k).fresh = true then
          s.setTnode k fun d => { deficit := d.deficit + quantum (s.rd (F.ten_QUANTUM (k % 4096))), fresh := false }
        else s) := Kept.ite (fun _ => State.setTnode_kept ..) (fun _ => Kept.refl s)
      dsimp only
      split
      · rename_i e
        exact h.trans (Kept.eqn e (State.pickQueue_kept _ _ _))
      · rename_i e
        have g := h.trans (Kept.eqn e (State.pickQueue_kept _ _ _))
        refine KeptFst.out (KeptFst.ite (fun _ => KeptFst.pair g) (fun _ => ?_))
        exact (g.trans ((State.setTnode_kept ..).trans (Kept.record ..))).trans (ih _)

theorem State.pickPort_kept (n : Nat) (s : State) : Kept s (State.pickPort n s).1 := by
  induction n generalizing s with
  | zero => exact Kept.refl s
  | succ n ih =>
    unfold State.pickPort
    split
    · exact Kept.refl s
    · rename_i k _ _
      have h : Kept s (if (s.pnode k).fresh = true then
          s.setPnode k fun d => { deficit := d.deficit + quantum (s.rd (F.schHpCfg_QUANTUM k)), fresh := false }
        else s) := Kept.ite (fun _ => State.setPnode_kept ..) (fun _ => Kept.refl s)
      dsimp only
      split
      · rename_i e
        exact h.trans (Kept.eqn e (State.pickTenant_kept _ _ _))
      · rename_i e
        have g := h.trans (Kept.eqn e (State.pickTenant_kept _ _ _))
        refine KeptFst.out (KeptFst.ite (fun _ => KeptFst.pair g) (fun _ => ?_))
        exact (g.trans ((State.setPnode_kept ..).trans (Kept.record ..))).trans (ih _)

theorem State.schedCharge_kept (s : State) (q cost : Nat) : Kept s (State.schedCharge s q cost) := by
  unfold State.schedCharge
  lift_lets
  intro x0
  clear_value x0
  intro x1
  clear_value x1
  intro x2
  have h3 : Kept s x2 := by
    unfold x2
    refine Kept.trans ?_ (State.setQue_kept ..)
    exact Kept.refl _
  clear_value x2
  intro x4
  have h5 : Kept s x4 := by
    unfold x4
    refine Kept.trans ?_ (State.setPnode_kept ..)
    refine Kept.trans ?_ (State.setTnode_kept ..)
    exact h3
  clear_value x4
  intro x6
  clear_value x6
  intro x7
  clear_value x7
  refine Kept.trans ?_ (Kept.foldl (fun t8 x9 => ?_) _ _)
  · exact h5
  · refine Kept.trans ?_ (State.shpCharge_kept ..)
    exact Kept.refl _

theorem State.sendNext_kept (s : State) (q : Nat) : Kept s (State.sendNext s q) := by
  unfold State.sendNext
  split
  · rename_i z0 z1
    exact Kept.refl _
  · rename_i z2 z3 z4 z5
    lift_lets
    intro x6
    have h7 : Kept s x6 := by
      unfold x6
      refine Kept.trans ?_ (State.setQue_kept ..)
      exact Kept.refl _
    clear_value x6
    intro x8
    clear_value x8
    intro x9
    clear_value x9
    intro x10
    clear_value x10
    split
    · rename_i z11 z12 z13
      refine Kept.trans ?_ (State.txSend_kept ..)
      exact h7
    · rename_i z14 z15
      refine Kept.trans ?_ (State.launch_kept ..)
      refine Kept.trans ?_ (State.drawn_kept ..)
      exact h7

theorem execSchedulePacket_kept (s : State) : Sound s (execSchedulePacket s) := by
  unfold execSchedulePacket
  lift_lets
  intro x0
  have h1 : Kept s x0 := by
    unfold x0
    refine Kept.trans ?_ (State.schedSync_kept ..)
    exact Kept.refl _
  clear_value x0
  split
  · rename_i z2 z3 z4
    refine Sound.of ?_ (fin_kept ..)
    refine Kept.eqn z4 ?_
    refine Kept.trans ?_ (State.pickPort_kept ..)
    exact h1
  · rename_i z5 z6 z7 z8
    refine Sound.of ?_ (fin_kept ..)
    refine Kept.trans ?_ (State.sendNext_kept ..)
    refine Kept.trans ?_ (State.schedCharge_kept ..)
    refine Kept.eqn z8 ?_
    refine Kept.trans ?_ (State.pickPort_kept ..)
    exact h1

theorem State.visitQueue_kept (s : State) (q : Nat) : Kept s (State.visitQueue s q) := by
  unfold State.visitQueue
  lift_lets
  intro x0
  have h1 : Kept s x0 := by
    unfold x0
    refine Kept.ite (fun z2 => ?_) (fun z2 => ?_)
    · refine Kept.trans ?_ (State.setQue_kept ..)
      refine Kept.trans ?_ (State.samplingStart_kept ..)
      exact Kept.refl _
    · exact Kept.refl _
  clear_value x0
  intro x8
  clear_value x8
  intro x9
  clear_value x9
  intro x10
  clear_value x10
  intro x11
  have h12 : Kept s x11 := by
    unfold x11
    refine Kept.trans ?_ (State.wr_kept ..)
    refine Kept.trans ?_ (State.wr_kept ..)
    exact h1
  clear_value x11
  intro x16
  have h17 : Kept s x16 := by
    unfold x16
    refine Kept.trans ?_ (State.wr_kept ..)
    refine Kept.trans ?_ (State.wr_kept ..)
    exact h12
  clear_value x16
  intro x21
  have h22 : Kept s x21 := by
    unfold x21
    refine Kept.trans ?_ (State.wr_kept ..)
    refine Kept.trans ?_ (State.wr_kept ..)
    exact h17
  clear_value x21
  intro x26
  have h27 : Kept s x26 := by
    unfold x26
    refine Kept.trans ?_ (State.wr_kept ..)
    refine Kept.trans ?_ (State.count_kept ..)
    exact h22
  clear_value x26
  refine Kept.ite (fun z31 => ?_) (fun z31 => ?_)
  · refine Kept.trans ?_ (State.samplePush_kept ..)
    exact h27
  · exact h27

theorem execSamplerPeriod_kept (s : State) : Sound s (execSamplerPeriod s) := by
  unfold execSamplerPeriod
  lift_lets
  intro x0
  have h1 : Kept s x0 := by
    unfold x0
    refine Kept.ite (fun z2 => ?_) (fun z2 => ?_)
    · refine Kept.trans ?_ (State.count_kept ..)
      exact Kept.refl _
    · exact Kept.refl _
  clear_value x0
  intro x3
  have h4 : Kept s x3 := by
    unfold x3
    refine Kept.trans ?_ (State.passTo_kept ..)
    exact h1
  clear_value x3
  intro x5
  clear_value x5
  intro x6
  clear_value x6
  intro x7
  clear_value x7
  intro x8
  clear_value x8
  intro x9
  have h10 : Kept s x9 := by
    unfold x9
    refine Kept.trans ?_ (Kept.foldl (fun t11 x12 => ?_) _ _)
    · exact h4
    · refine Kept.trans ?_ (State.visitQueue_kept ..)
      exact Kept.refl _
  clear_value x9
  intro x13
  clear_value x13
  refine Sound.ite (fun z14 => ?_) (fun z14 => ?_)
  · refine Sound.of ?_ (fin_kept ..)
    refine Kept.trans ?_ (State.drawn_kept ..)
    refine Kept.trans ?_ (Kept.record ..)
    exact h10
  · refine Sound.next ?_
    exact Kept.refl _

theorem execSamplerResetQueue_kept (m : Mst) (v : Word) (s : State) : Sound s (execSamplerResetQueue m v s) := by
  unfold execSamplerResetQueue
  refine Sound.of ?_ (regWriteRow_kept (h_f := fun u0 y1 => ?_) ..)
  · exact Kept.refl _
  · refine Kept.trans ?_ (State.setQue_kept ..)
    exact Kept.refl _

theorem execMeterSnapshot_kept (s : State) : Sound s (execMeterSnapshot s) := by
  unfold execMeterSnapshot
  lift_lets
  intro x0
  have h1 : Kept s x0 := by
    unfold x0
    refine Kept.trans ?_ (State.meterEdge_kept ..)
    exact Kept.refl _
  clear_value x0
  intro x2
  clear_value x2
  refine Sound.ite (fun z3 => ?_) (fun z3 => ?_)
  · refine Sound.of ?_ (fin_kept ..)
    refine Kept.ite (fun z4 => ?_) (fun z4 => ?_)
    · refine Kept.trans ?_ (State.snapshot_kept ..)
      refine Kept.trans ?_ (State.meterEdge_kept ..)
      refine Kept.trans ?_ (State.passTim_kept ..)
      exact h1
    · refine Kept.trans ?_ (State.snapshot_kept ..)
      exact h1
  · refine Sound.next ?_
    exact Kept.refl _

theorem execMeterGddr6Sample_kept (s : State) : Sound s (execMeterGddr6Sample s) := by
  unfold execMeterGddr6Sample
  lift_lets
  intro x0
  have h1 : Kept s x0 := by
    unfold x0
    refine Kept.trans ?_ (State.passTo_kept ..)
    exact Kept.refl _
  clear_value x0
  intro x2
  have h3 : Kept s x2 := by
    unfold x2
    refine Kept.trans ?_ (Kept.foldl (fun t4 x5 => ?_) _ _)
    · exact h1
    · lift_lets
      intro x6
      clear_value x6
      refine Kept.ite (fun z7 => ?_) (fun z7 => ?_)
      · exact Kept.refl _
      · refine Kept.trans ?_ (State.setMeter_kept ..)
        exact Kept.refl _
  clear_value x2
  intro x8
  clear_value x8
  refine Sound.of ?_ (fin_kept ..)
  refine Kept.trans ?_ (Kept.record ..)
  exact h3

theorem State.steerIn_kept (s : State) (g : Nat) (e : Event) : Kept s (State.steerIn s g e) := by
  unfold State.steerIn
  lift_lets
  intro x0
  clear_value x0
  intro x1
  have h2 : Kept s x1 := by
    unfold x1
    refine Kept.trans ?_ (Kept.record ..)
    exact Kept.refl _
  clear_value x1
  refine Kept.trans ?_ (State.setSteerQ_kept ..)
  exact h2

theorem execSteeredEventArrival_kept (e : EngNum) (s : State) : Sound s (execSteeredEventArrival e s) := by
  unfold execSteeredEventArrival
  split
  · rename_i z1 z2 z3
    refine Sound.of ?_ (fin_kept ..)
    refine Kept.trans ?_ (State.steerIn_kept ..)
    exact Kept.refl _
  · rename_i z7 z8
    refine Sound.next ?_
    exact Kept.refl _

theorem State.discardEvent_kept (s : State) (g : Nat) (e : Event) : Kept s (State.discardEvent s g e) := by
  unfold State.discardEvent
  lift_lets
  intro x0
  have h1 : Kept s x0 := by
    unfold x0
    refine Kept.trans ?_ (State.count_kept ..)
    exact Kept.refl _
  clear_value x0
  split
  · rename_i z5 z6 z7
    refine Kept.trans ?_ (State.lateReport_kept ..)
    exact h1
  · rename_i z10 z11
    refine Kept.ite (fun z12 => ?_) (fun z12 => ?_)
    · refine Kept.trans ?_ (State.setCx_kept ..)
      exact h1
    · refine Kept.ite (fun z16 => ?_) (fun z16 => ?_)
      · refine Kept.trans ?_ (State.setCx_kept ..)
        exact h1
      · split
        · rename_i z21 z22 z23
          refine Kept.ite (fun z24 => ?_) (fun z24 => ?_)
          · refine Kept.trans ?_ (State.connReport_kept ..)
            exact h1
          · exact h1
        · rename_i z29 z30
          exact h1

theorem State.steerOne_kept (s : State) (g : Nat) : KeptOpt s (State.steerOne s g) := by
  unfold State.steerOne
  split
  · rename_i z1 z2
    exact KeptOpt.none _
  · rename_i z4 z5 z6
    lift_lets
    intro x7
    have h8 : Kept s x7 := by
      unfold x7
      refine Kept.trans ?_ (State.setSteerQ_kept ..)
      exact Kept.refl _
    clear_value x7
    refine KeptOpt.ite (fun z11 => ?_) (fun z11 => ?_)
    · refine KeptOpt.some ?_
      refine Kept.trans ?_ (State.discardEvent_kept ..)
      exact h8
    · split
      · rename_i z17 z18
        exact KeptOpt.none _
      · rename_i z20 z21 z22 z23
        lift_lets
        intro x24
        have h25 : Kept s x24 := by
          unfold x24
          refine Kept.ite (fun z26 => ?_) (fun z26 => ?_)
          · refine Kept.trans ?_ (State.setEng_kept ..)
            exact h8
          · exact h8
        clear_value x24
        refine KeptOpt.some ?_
        refine Kept.trans ?_ (State.giveEvent_kept ..)
        exact h25

theorem State.steerAll_kept (g k : Nat) (s : State) : Kept s (State.steerAll g k s) := by
  induction k generalizing s with
  | zero => exact Kept.refl s
  | succ k ih =>
    unfold State.steerAll
    split
    · rename_i h
      exact (KeptOpt.get h (State.steerOne_kept _ _)).trans (ih _)
    · exact Kept.refl s

theorem State.targetOne_kept (s : State) (c : Nat) : Kept s (State.targetOne s c) := by
  unfold State.targetOne
  split
  · rename_i z1 z2
    exact Kept.refl _
  · rename_i z4 z5 z6
    refine Kept.trans ?_ (State.eventsLost_kept ..)
    refine Kept.trans ?_ (State.giveEvent_kept ..)
    refine Kept.trans ?_ (State.setCtx_kept ..)
    exact Kept.refl _

theorem execEventDispatch_kept (e : EngNum) (s : State) : Sound s (execEventDispatch e s) := by
  unfold execEventDispatch
  refine Sound.ite (fun z0 => ?_) (fun z0 => ?_)
  · refine Sound.next ?_
    exact Kept.refl _
  · refine Sound.of ?_ (fin_kept ..)
    refine Kept.trans ?_ (State.steerAll_kept ..)
    refine Kept.trans ?_ (Kept.foldl (fun t6 x7 => ?_) _ _)
    · exact Kept.refl _
    · refine Kept.trans ?_ (State.targetOne_kept ..)
      exact Kept.refl _

theorem State.steerWrite_kept (s : State) (m : Mst) (v : Word) : Kept s (State.steerWrite s m v) := by
  unfold State.steerWrite
  lift_lets
  intro x0
  clear_value x0
  intro x1
  clear_value x1
  split
  · rename_i z3 z4 z5
    refine Kept.eqn z5 ?_
    refine Kept.trans ?_ (State.winWrite_kept ..)
    exact Kept.refl _
  · rename_i z9 z10 z11
    lift_lets
    intro x12
    clear_value x12
    refine Kept.ite (fun z13 => ?_) (fun z13 => ?_)
    · refine Kept.eqn z11 ?_
      refine Kept.trans ?_ (State.winWrite_kept ..)
      exact Kept.refl _
    · refine Kept.trans ?_ (Kept.record ..)
      refine Kept.eqn z11 ?_
      refine Kept.trans ?_ (State.winWrite_kept ..)
      exact Kept.refl _

theorem execSteeringWrite_kept (m : Mst) (v : Word) (s : State) : Sound s (execSteeringWrite m v s) := by
  unfold execSteeringWrite
  refine Sound.of ?_ (regWriteRow_kept (h_f := fun u0 y1 => ?_) ..)
  · exact Kept.refl _
  · refine Kept.trans ?_ (State.steerWrite_kept ..)
    exact Kept.refl _

theorem State.enSets_kept (s : State) (c : Nat) : Kept s (State.enSets s c) := by
  unfold State.enSets
  lift_lets
  intro x0
  clear_value x0
  refine Kept.trans ?_ (State.wr_kept ..)
  refine Kept.trans ?_ (State.wr_kept ..)
  exact Kept.refl _

theorem State.ctxCfgPut_kept (s : State) (m : Mst) (c : Nat) (v : Word) : Kept s (State.ctxCfgPut s m c v) := by
  unfold State.ctxCfgPut
  refine Kept.ite (fun z0 => ?_) (fun z0 => ?_)
  · exact Kept.refl _
  · lift_lets
    intro x3
    clear_value x3
    intro x4
    clear_value x4
    intro x5
    clear_value x5
    intro x6
    clear_value x6
    intro x7
    clear_value x7
    intro x8
    have h9 : Kept s x8 := by
      unfold x8
      refine Kept.ite (fun z10 => ?_) (fun z10 => ?_)
      · refine Kept.trans ?_ (State.count_kept ..)
        exact Kept.refl _
      · exact Kept.refl _
    clear_value x8
    intro x15
    clear_value x15
    split
    · rename_i z17 z18 z19
      refine Kept.eqn z19 ?_
      refine Kept.trans ?_ (State.cfgPut_kept ..)
      exact h9
    · rename_i z23 z24 z25
      refine Kept.ite (fun z26 => ?_) (fun z26 => ?_)
      · refine Kept.trans ?_ (State.ctxReset_kept ..)
        refine Kept.eqn z25 ?_
        refine Kept.trans ?_ (State.cfgPut_kept ..)
        exact h9
      · refine Kept.ite (fun z32 => ?_) (fun z32 => ?_)
        · refine Kept.trans ?_ (State.enSets_kept ..)
          refine Kept.eqn z25 ?_
          refine Kept.trans ?_ (State.cfgPut_kept ..)
          exact h9
        · refine Kept.eqn z25 ?_
          refine Kept.trans ?_ (State.cfgPut_kept ..)
          exact h9

theorem execCtxCfgWrite_kept (m : Mst) (c : CtxNum) (v : Word) (s : State) : Sound s (execCtxCfgWrite m c v s) := by
  unfold execCtxCfgWrite
  refine Sound.of ?_ (regWriteRow_kept (h_f := fun u0 y1 => ?_) ..)
  · exact Kept.refl _
  · refine Kept.trans ?_ (State.ctxCfgPut_kept ..)
    exact Kept.refl _

theorem execCtxEnable_kept (m : Mst) (c : CtxNum) (v : Word) (s : State) : Sound s (execCtxEnable m c v s) := by
  unfold execCtxEnable
  refine Sound.of ?_ (regWriteRow_kept (h_f := fun u0 y1 => ?_) ..)
  · exact Kept.refl _
  · refine Kept.trans ?_ (State.ctxCfgPut_kept ..)
    exact Kept.refl _

theorem execCtxDisable_kept (m : Mst) (c : CtxNum) (v : Word) (s : State) : Sound s (execCtxDisable m c v s) := by
  unfold execCtxDisable
  refine Sound.of ?_ (regWriteRow_kept (h_f := fun u0 y1 => ?_) ..)
  · exact Kept.refl _
  · refine Kept.trans ?_ (State.ctxCfgPut_kept ..)
    exact Kept.refl _

theorem execCtxReset_kept (m : Mst) (c : CtxNum) (v : Word) (s : State) : Sound s (execCtxReset m c v s) := by
  unfold execCtxReset
  refine Sound.of ?_ (regWriteRow_kept (h_f := fun u0 y1 => ?_) ..)
  · exact Kept.refl _
  · refine Kept.trans ?_ (State.ctxCfgPut_kept ..)
    exact Kept.refl _

theorem State.mailboxCmd_kept (s : State) (m : Mst) (v : Word) : Kept s (State.mailboxCmd s m v) := by
  unfold State.mailboxCmd
  refine Kept.ite (fun z0 => ?_) (fun z0 => ?_)
  · refine Kept.trans ?_ (State.count_kept ..)
    exact Kept.refl _
  · lift_lets
    intro x4
    clear_value x4
    intro x5
    clear_value x5
    intro x6
    have h7 : Kept s x6 := by
      unfold x6
      refine Kept.trans ?_ (State.wr_kept ..)
      refine Kept.trans ?_ (State.wr_kept ..)
      refine Kept.trans ?_ (State.wr_kept ..)
      exact Kept.refl _
    clear_value x6
    intro x12
    clear_value x12
    intro x13
    clear_value x13
    intro x14
    clear_value x14
    refine Kept.trans ?_ (Kept.record ..)
    exact h7

theorem execSketchLoad_kept (m : Mst) (v : Word) (s : State) : Sound s (execSketchLoad m v s) := by
  unfold execSketchLoad
  refine Sound.of ?_ (regWriteRow_kept (h_f := fun u0 y1 => ?_) ..)
  · exact Kept.refl _
  · refine Kept.trans ?_ (State.mailboxCmd_kept ..)
    exact Kept.refl _

theorem execSketchFree_kept (m : Mst) (v : Word) (s : State) : Sound s (execSketchFree m v s) := by
  unfold execSketchFree
  refine Sound.of ?_ (regWriteRow_kept (h_f := fun u0 y1 => ?_) ..)
  · exact Kept.refl _
  · refine Kept.trans ?_ (State.mailboxCmd_kept ..)
    exact Kept.refl _

theorem execKeyInstall_kept (m : Mst) (v : Word) (s : State) : Sound s (execKeyInstall m v s) := by
  unfold execKeyInstall
  refine Sound.of ?_ (regWriteRow_kept (h_f := fun u0 y1 => ?_) ..)
  · exact Kept.refl _
  · refine Kept.trans ?_ (State.mailboxCmd_kept ..)
    exact Kept.refl _

theorem execKeyLock_kept (m : Mst) (v : Word) (s : State) : Sound s (execKeyLock m v s) := by
  unfold execKeyLock
  refine Sound.of ?_ (regWriteRow_kept (h_f := fun u0 y1 => ?_) ..)
  · exact Kept.refl _
  · refine Kept.trans ?_ (State.mailboxCmd_kept ..)
    exact Kept.refl _

theorem State.setSlot_kept (s : State) (k : Nat) (x : Sketch) : Kept s (State.setSlot s k x) := by
  unfold State.setSlot
  refine Kept.trans ?_ (Kept.record ..)
  exact Kept.refl _

theorem State.sketchPlace_kept (s : State) (k : Nat) (bs : List Byte) : Kept s (State.sketchPlace s k bs) := by
  unfold State.sketchPlace
  lift_lets
  intro x0
  have h1 : Kept s x0 := by
    unfold x0
    refine Kept.trans ?_ (State.devWrite_kept ..)
    exact Kept.refl _
  clear_value x0
  refine Kept.trans ?_ (Kept.record ..)
  exact h1

theorem State.mailLoad_kept (s : State) (m : Mst) (a len k : Nat) : Kept s (State.mailLoad s m a len k).1 := by
  unfold State.mailLoad
  lift_lets
  intro x0
  clear_value x0
  intro x1
  have h2 : ∀ y1, Kept y1 (x1 y1) := by
    intro y3
    unfold x1
    refine Kept.trans ?_ (State.setSlot_kept ..)
    exact Kept.refl _
  clear_value x1
  refine KeptFst.out ?_
  refine KeptFst.ite (fun z4 => ?_) (fun z4 => ?_)
  · refine KeptFst.pair ?_
    exact Kept.refl _
  · refine KeptFst.ite (fun z5 => ?_) (fun z5 => ?_)
    · refine KeptFst.pair ?_
      exact h2 ..
    · rcases e6 : (s.devRead a len) with ⟨z7, z8, z9⟩
      dsimp -zeta only
      lift_lets
      intro x10
      clear_value x10
      intro x11
      clear_value x11
      dsimp -zeta only
      refine KeptFst.ite (fun z12 => ?_) (fun z12 => ?_)
      · refine KeptFst.pair ?_
        refine Kept.trans ?_ (h2 ..)
        refine Kept.eqn e6 ?_
        refine Kept.trans ?_ (State.devRead_kept ..)
        exact Kept.refl _
      · refine KeptFst.ite (fun z13 => ?_) (fun z13 => ?_)
        · refine KeptFst.pair ?_
          refine Kept.trans ?_ (h2 ..)
          refine Kept.eqn e6 ?_
          refine Kept.trans ?_ (State.devRead_kept ..)
          exact Kept.refl _
        · refine KeptFst.ite (fun z14 => ?_) (fun z14 => ?_)
          · refine KeptFst.pair ?_
            refine Kept.trans ?_ (h2 ..)
            refine Kept.eqn e6 ?_
            refine Kept.trans ?_ (State.devRead_kept ..)
            exact Kept.refl _
          · split
            · rename_i z15 z16 z17
              refine KeptFst.pair ?_
              refine Kept.trans ?_ (h2 ..)
              refine Kept.eqn z17 ?_
              refine Kept.trans ?_ (State.askRec_kept ..)
              refine Kept.eqn e6 ?_
              refine Kept.trans ?_ (State.devRead_kept ..)
              exact Kept.refl _
            · rename_i z18 z19 z20
              refine KeptFst.pair ?_
              refine Kept.trans ?_ (State.setSlot_kept ..)
              refine Kept.trans ?_ (State.sketchPlace_kept ..)
              refine Kept.eqn z20 ?_
              refine Kept.trans ?_ (State.askRec_kept ..)
              refine Kept.eqn e6 ?_
              refine Kept.trans ?_ (State.devRead_kept ..)
              exact Kept.refl _

theorem State.mailFree_kept (s : State) (m : Mst) (k : Nat) : Kept s (State.mailFree s m k).1 := by
  refine KeptFst.out ?_
  unfold State.mailFree
  refine KeptFst.ite (fun z0 => ?_) (fun z0 => ?_)
  · refine KeptFst.pair ?_
    exact Kept.refl _
  · refine KeptFst.ite (fun z4 => ?_) (fun z4 => ?_)
    · refine KeptFst.pair ?_
      exact Kept.refl _
    · split
      · rename_i z9 z10 z11
        refine KeptFst.pair ?_
        refine Kept.eqn z11 ?_
        refine Kept.trans ?_ (State.askRec_kept ..)
        exact Kept.refl _
      · rename_i z16 z17 z18
        refine KeptFst.pair ?_
        refine Kept.trans ?_ (State.setSlot_kept ..)
        refine Kept.eqn z18 ?_
        refine Kept.trans ?_ (State.askRec_kept ..)
        exact Kept.refl _

theorem State.mailInstall_kept (s : State) (m : Mst) (a : Nat) (k : Nat) : Kept s (State.mailInstall s m a k).1 := by
  refine KeptFst.out ?_
  unfold State.mailInstall
  refine KeptFst.ite (fun z0 => ?_) (fun z0 => ?_)
  · refine KeptFst.pair ?_
    exact Kept.refl _
  · refine KeptFst.ite (fun z4 => ?_) (fun z4 => ?_)
    · refine KeptFst.pair ?_
      exact Kept.refl _
    · refine KeptFst.ite (fun z8 => ?_) (fun z8 => ?_)
      · refine KeptFst.pair ?_
        exact Kept.refl _
      · split
        rename_i z13 z14 z15 z16 z17
        lift_lets
        intro x18
        clear_value x18
        refine KeptFst.ite (fun z19 => ?_) (fun z19 => ?_)
        · refine KeptFst.pair ?_
          refine Kept.eqn z17 ?_
          refine Kept.trans ?_ (State.devRead_kept ..)
          exact Kept.refl _
        · split
          · rename_i z26 z27 z28
            refine KeptFst.pair ?_
            refine Kept.eqn z28 ?_
            refine Kept.trans ?_ (State.askRec_kept ..)
            refine Kept.eqn z17 ?_
            refine Kept.trans ?_ (State.devRead_kept ..)
            exact Kept.refl _
          · rename_i z35 z36 z37
            lift_lets
            intro x38
            clear_value x38
            refine KeptFst.pair ?_
            refine Kept.trans ?_ (Kept.record ..)
            refine Kept.eqn z37 ?_
            refine Kept.trans ?_ (State.askRec_kept ..)
            refine Kept.eqn z17 ?_
            refine Kept.trans ?_ (State.devRead_kept ..)
            exact Kept.refl _

theorem State.mailLock_kept (s : State) (m : Mst) (k : Nat) : Kept s (State.mailLock s m k).1 := by
  refine KeptFst.out ?_
  unfold State.mailLock
  refine KeptFst.ite (fun z0 => ?_) (fun z0 => ?_)
  · refine KeptFst.pair ?_
    exact Kept.refl _
  · refine KeptFst.ite (fun z4 => ?_) (fun z4 => ?_)
    · refine KeptFst.pair ?_
      exact Kept.refl _
    · split
      · rename_i z9 z10 z11
        refine KeptFst.pair ?_
        refine Kept.eqn z11 ?_
        refine Kept.trans ?_ (State.askRec_kept ..)
        exact Kept.refl _
      · rename_i z16 z17 z18
        refine KeptFst.pair ?_
        refine Kept.trans ?_ (Kept.record ..)
        refine Kept.eqn z18 ?_
        refine Kept.trans ?_ (State.askRec_kept ..)
        exact Kept.refl _

theorem execMailboxCommandDone_kept (s : State) : Sound s (execMailboxCommandDone s) := by
  unfold execMailboxCommandDone
  split
  · rename_i z1 z2
    refine Sound.next ?_
    exact Kept.refl _
  · rename_i z5 z6 z7 z8
    refine Sound.ite (fun z9 => ?_) (fun z9 => ?_)
    · refine Sound.next ?_
      exact Kept.refl _
    · lift_lets
      intro x13
      clear_value x13
      intro x14
      clear_value x14
      intro x15
      have h16 : Kept s x15.1 := by
        unfold x15
        refine KeptFst.out ?_
        split
        · rename_i z19
          refine KeptFst.of ?_
          refine Kept.trans ?_ (State.mailLoad_kept ..)
          exact Kept.refl _
        · rename_i z23
          refine KeptFst.of ?_
          refine Kept.trans ?_ (State.mailFree_kept ..)
          exact Kept.refl _
        · rename_i z27
          refine KeptFst.of ?_
          refine Kept.trans ?_ (State.mailInstall_kept ..)
          exact Kept.refl _
        · rename_i z31
          refine KeptFst.of ?_
          refine Kept.trans ?_ (State.mailLock_kept ..)
          exact Kept.refl _
        · rename_i z35 z36 z37 z38 z39
          refine KeptFst.pair ?_
          exact Kept.refl _
      clear_value x15
      intro x42
      have h43 : Kept s x42 := by
        unfold x42
        exact h16
      clear_value x42
      intro x45
      clear_value x45
      intro x46
      have h47 : Kept s x46 := by
        unfold x46
        refine Kept.trans ?_ (Kept.record ..)
        exact h43
      clear_value x46
      refine Sound.of ?_ (fin_kept ..)
      refine Kept.trans ?_ (State.wr_kept ..)
      refine Kept.trans ?_ (State.wr_kept ..)
      exact h47

end Sys2Proof.Machine
end

