-- ==== Sys2Proof/Laws/KeptRows2.lean ====
section
/-! SUPPORT. What the commands of connections, matching, trees, routing, links and lanes keep: the queue, a state in good form, and the lifecycle (`Kept`). -/

set_option linter.unusedVariables false

namespace Sys2Proof.Machine

theorem State.entryRow_kept (s : State) (q : Nat) (id : Nat) (op : Nat) (f : State → Taken → Out) (h_f : ∀ u y1, Sound u (f u y1)) : Sound s (State.entryRow s q id op f) := by
  unfold State.entryRow
  split
  · rename_i z1 z2 z3
    refine Sound.ite (fun z4 => ?_) (fun z4 => ?_)
    · refine Sound.of ?_ (h_f ..)
      exact Kept.refl _
    · refine Sound.next ?_
      exact Kept.refl _
  · rename_i z10 z11
    refine Sound.next ?_
    exact Kept.refl _

theorem State.devPrefix_kept (k : Nat) (s : State) (a n : Nat) : Kept s (State.devPrefix k s a n).1 := by
  induction k generalizing s a n with
  | zero => exact Kept.refl s
  | succ k ih =>
    unfold State.devPrefix
    refine KeptFst.out (KeptFst.ite (fun _ => KeptFst.pair (Kept.refl s)) (fun _ => ?_))
    lift_lets
    intro x
    clear_value x
    rcases e : s.devRead a x with ⟨u, bs, b⟩
    have h : Kept s u := Kept.eqn e (State.devRead_kept ..)
    cases b with
    | true => exact KeptFst.pair h
    | false =>
      dsimp only
      rcases e2 : State.devPrefix k u (a + x) (n - x) with ⟨v, more, p⟩
      exact KeptFst.pair (h.trans (Kept.eqn e2 (ih ..)))

theorem State.source_kept (s : State) (q : Nat) (t : Taken) (n : Nat) (src : Fetched) : Kept s (State.source s q t n src).1 := by
  unfold State.source
  lift_lets
  intro x0
  clear_value x0
  refine KeptFst.out ?_
  refine KeptFst.ite (fun z1 => ?_) (fun z1 => ?_)
  · refine KeptFst.pair ?_
    exact Kept.refl _
  · refine KeptFst.ite (fun z2 => ?_) (fun z2 => ?_)
    · refine KeptFst.pair ?_
      exact Kept.refl _
    · refine KeptFst.ite (fun z3 => ?_) (fun z3 => ?_)
      · split
        · rename_i z4 z5 z6
          refine KeptFst.pair ?_
          refine Kept.eqn z6 ?_
          refine Kept.trans ?_ (State.devRange_kept ..)
          exact Kept.refl _
        · rename_i z7 z8 z9
          split
          rename_i z10 z11 z12 z13 z14
          refine KeptFst.pair ?_
          refine Kept.eqn z14 ?_
          refine Kept.trans ?_ (State.devPrefix_kept ..)
          refine Kept.eqn z9 ?_
          refine Kept.trans ?_ (State.devRange_kept ..)
          exact Kept.refl _
      · split
        · rename_i z15 z16
          refine KeptFst.pair ?_
          refine Kept.trans ?_ (State.pcieBad_kept ..)
          exact Kept.refl _
        · rename_i z17 z18
          refine KeptFst.ite (fun z19 => ?_) (fun z19 => ?_)
          · refine KeptFst.pair ?_
            exact Kept.refl _
          · refine KeptFst.pair ?_
            exact Kept.refl _

theorem State.sink_kept (s : State) (q : Nat) (t : Taken) (n : Nat) : Kept s (State.sink s q t n).1 := by
  refine KeptFst.out ?_
  unfold State.sink
  refine KeptFst.ite (fun z0 => ?_) (fun z0 => ?_)
  · refine KeptFst.of ?_
    refine Kept.trans ?_ (State.devRange_kept ..)
    exact Kept.refl _
  · refine KeptFst.pair ?_
    exact Kept.refl _

theorem State.queuePkts_kept (s : State) (q : Nat) (t : Taken) (conn : Option Nat) (ps : List Packet) : Kept s (State.queuePkts s q t conn ps) := by
  unfold State.queuePkts
  lift_lets
  intro x0
  clear_value x0
  intro x1
  clear_value x1
  refine Kept.trans ?_ (State.setQue_kept ..)
  refine Kept.trans ?_ (State.begin_kept ..)
  exact Kept.refl _

theorem State.cutShort_kept (s : State) (q : Nat) (t : Taken) (n status : Nat) (ps : List Packet) : Sound s (State.cutShort s q t n status ps) := by
  unfold State.cutShort
  lift_lets
  intro x0
  have h1 : Kept s x0 := by
    unfold x0
    refine Kept.trans ?_ (State.queuePkts_kept ..)
    exact Kept.refl _
  clear_value x0
  refine Sound.ite (fun z2 => ?_) (fun z2 => ?_)
  · refine Sound.of ?_ (fin_kept ..)
    refine Kept.trans ?_ (State.finishEntry_kept ..)
    exact Kept.refl _
  · refine Sound.of ?_ (fin_kept ..)
    refine Kept.trans ?_ (State.setQue_kept ..)
    exact h1

theorem State.connEntry_kept (s : State) (q : Nat) (id : Nat) (op : Nat) (f : State → Taken → Nat → Out) (h_f : ∀ u y1 y2, Sound u (f u y1 y2)) : Sound s (State.connEntry s q id op f) := by
  unfold State.connEntry
  refine Sound.of ?_ (State.entryRow_kept _ _ _ _ _ ?_)
  · exact Kept.refl _
  · intro y2 y3
    lift_lets
    intro x5
    clear_value x5
    refine Sound.ite (fun z6 => ?_) (fun z6 => ?_)
    · refine Sound.next ?_
      exact Kept.refl _
    · refine Sound.ite (fun z10 => ?_) (fun z10 => ?_)
      · refine Sound.of ?_ (h_f ..)
        exact Kept.refl _
      · refine Sound.of ?_ (fin_kept ..)
        refine Kept.trans ?_ (State.finishEntry_kept ..)
        exact Kept.refl _

theorem execPut_kept (q : QNum) (id : Nat) (src : Fetched) (s : State) : Sound s (execPut q id src s) := by
  unfold execPut
  refine Sound.of ?_ (State.connEntry_kept (h_f := fun u0 y1 y2 => ?_) ..)
  · exact Kept.refl _
  · split
    · rename_i z3 z4 z5
      refine Sound.next ?_
      exact Kept.refl _
    · rename_i z6 z7 z8 z9 z10
      refine Sound.of ?_ (State.cutShort_kept ..)
      refine Kept.eqn z10 ?_
      refine Kept.trans ?_ (State.source_kept ..)
      exact Kept.refl _
    · rename_i z11 z12 z13 z14
      refine Sound.of ?_ (fin_kept ..)
      refine Kept.trans ?_ (State.queuePkts_kept ..)
      refine Kept.eqn z14 ?_
      refine Kept.trans ?_ (State.source_kept ..)
      exact Kept.refl _

theorem State.oneRequest_kept (s : State) (q : Nat) (t : Taken) (n : Nat) (pt : Nat) (len : Nat) (f : Octet → Octet) (pay : List Byte) : Sound s (State.oneRequest s q t n pt len f pay) := by
  unfold State.oneRequest
  split
  · rename_i z1 z2 z3
    refine Sound.of ?_ (fin_kept ..)
    refine Kept.trans ?_ (State.finishEntry_kept ..)
    refine Kept.eqn z3 ?_
    refine Kept.trans ?_ (State.sink_kept ..)
    exact Kept.refl _
  · rename_i z9 z10 z11
    refine Sound.of ?_ (fin_kept ..)
    refine Kept.trans ?_ (State.queuePkts_kept ..)
    refine Kept.eqn z11 ?_
    refine Kept.trans ?_ (State.sink_kept ..)
    exact Kept.refl _

theorem execGet_kept (q : QNum) (id : Nat) (s : State) : Sound s (execGet q id s) := by
  unfold execGet
  refine Sound.of ?_ (State.connEntry_kept _ _ _ _ _ ?_)
  · exact Kept.refl _
  · intro y2 y3 y4
    lift_lets
    intro x6
    clear_value x6
    refine Sound.of ?_ (State.oneRequest_kept ..)
    exact Kept.refl _

theorem execAtomic_kept (q : QNum) (id : Nat) (s : State) : Sound s (execAtomic q id s) := by
  unfold execAtomic
  refine Sound.of ?_ (State.connEntry_kept _ _ _ _ _ ?_)
  · exact Kept.refl _
  · intro y2 y3 y4
    refine Sound.of ?_ (State.oneRequest_kept ..)
    exact Kept.refl _

theorem execFlush_kept (q : QNum) (id : Nat) (s : State) : Sound s (execFlush q id s) := by
  unfold execFlush
  refine Sound.of ?_ (State.connEntry_kept _ _ _ _ _ ?_)
  · exact Kept.refl _
  · intro y2 y3 y4
    refine Sound.of ?_ (State.oneRequest_kept ..)
    exact Kept.refl _

theorem State.keyStore_kept (s : State) (n : Nat) (slot : Nat) (key : List Byte) : Kept s (State.keyStore s n slot key) := by
  unfold State.keyStore
  refine Kept.ite (fun z0 => ?_) (fun z0 => ?_)
  · refine Kept.trans ?_ (State.wr_kept ..)
    refine Kept.trans ?_ (State.setCx_kept ..)
    exact Kept.refl _
  · refine Kept.trans ?_ (State.rekeyStart_kept ..)
    refine Kept.trans ?_ (State.wr_kept ..)
    refine Kept.trans ?_ (State.setCx_kept ..)
    exact Kept.refl _

theorem State.keyAsk_kept (s : State) (n : Nat) (slot : Nat) (priv : Nat) (m : Mst) : Kept s (State.keyAsk s n slot priv m).1 := by
  refine KeptFst.out ?_
  unfold State.keyAsk
  refine KeptFst.of ?_
  refine Kept.trans ?_ (State.audAsk_kept ..)
  exact Kept.refl _

theorem State.keyEntry_kept (s : State) (q : Nat) (id : Nat) (slot : Nat) (src : Fetched) : Sound s (State.keyEntry s q id slot src) := by
  unfold State.keyEntry
  refine Sound.of ?_ (State.entryRow_kept _ _ _ _ _ ?_)
  · exact Kept.refl _
  · intro y2 y3
    lift_lets
    intro x5
    clear_value x5
    refine Sound.ite (fun z6 => ?_) (fun z6 => ?_)
    · refine Sound.next ?_
      exact Kept.refl _
    · split
      · rename_i z11 z12 z13
        refine Sound.next ?_
        exact Kept.refl _
      · rename_i z16 z17 z18 z19
        refine Sound.of ?_ (fin_kept ..)
        refine Kept.trans ?_ (State.finishEntry_kept ..)
        refine Kept.eqn z19 ?_
        refine Kept.trans ?_ (State.source_kept ..)
        exact Kept.refl _
      · rename_i z25 z26 z27 z28
        refine Sound.ite (fun z29 => ?_) (fun z29 => ?_)
        · refine Sound.of ?_ (fin_kept ..)
          refine Kept.trans ?_ (State.finishEntry_kept ..)
          refine Kept.eqn z28 ?_
          refine Kept.trans ?_ (State.source_kept ..)
          exact Kept.refl _
        · split
          · rename_i z37 z38 z39
            refine Sound.of ?_ (fin_kept ..)
            refine Kept.trans ?_ (State.finishEntry_kept ..)
            refine Kept.eqn z39 ?_
            refine Kept.trans ?_ (State.keyAsk_kept ..)
            refine Kept.eqn z28 ?_
            refine Kept.trans ?_ (State.source_kept ..)
            exact Kept.refl _
          · rename_i z47 z48 z49
            refine Sound.of ?_ (fin_kept ..)
            refine Kept.trans ?_ (State.finishEntry_kept ..)
            refine Kept.trans ?_ (State.keyStore_kept ..)
            refine Kept.eqn z49 ?_
            refine Kept.trans ?_ (State.keyAsk_kept ..)
            refine Kept.eqn z28 ?_
            refine Kept.trans ?_ (State.source_kept ..)
            exact Kept.refl _

theorem execKeyNext_kept (q : QNum) (id : Nat) (src : Fetched) (s : State) : Sound s (execKeyNext q id src s) := by
  unfold execKeyNext
  refine Sound.of ?_ (State.keyEntry_kept ..)
  exact Kept.refl _

theorem execKeyCur_kept (q : QNum) (id : Nat) (src : Fetched) (s : State) : Sound s (execKeyCur q id src s) := by
  unfold execKeyCur
  refine Sound.of ?_ (State.keyEntry_kept ..)
  exact Kept.refl _

theorem State.keyCmd_kept (s : State) (m : Mst) (v : Word) : Kept s (State.keyCmd s m v) := by
  unfold State.keyCmd
  lift_lets
  intro x0
  clear_value x0
  intro x1
  clear_value x1
  intro x2
  have h3 : Kept s x2 := by
    unfold x2
    refine Kept.trans ?_ (State.plainWrite_kept ..)
    exact Kept.refl _
  clear_value x2
  intro x6
  have h7 : Kept s x6 := by
    unfold x6
    refine Kept.ite (fun z8 => ?_) (fun z8 => ?_)
    · refine Kept.ite (fun z10 => ?_) (fun z10 => ?_)
      · refine Kept.trans ?_ (State.wr_kept ..)
        exact h3
      · split
        · rename_i z15 z16 z17
          refine Kept.trans ?_ (State.wr_kept ..)
          refine Kept.eqn z17 ?_
          refine Kept.trans ?_ (State.keyAsk_kept ..)
          exact h3
        · rename_i z22 z23 z24
          lift_lets
          intro x25
          clear_value x25
          refine Kept.trans ?_ (State.keyStore_kept ..)
          refine Kept.trans ?_ (State.wr_kept ..)
          refine Kept.eqn z24 ?_
          refine Kept.trans ?_ (State.keyAsk_kept ..)
          exact h3
    · exact h3
  clear_value x6
  refine Kept.ite (fun z32 => ?_) (fun z32 => ?_)
  · refine Kept.trans ?_ (State.rekeyStart_kept ..)
    exact h7
  · exact h7

theorem execCnxKeyInstall_kept (m : Mst) (v : Word) (s : State) : Sound s (execCnxKeyInstall m v s) := by
  unfold execCnxKeyInstall
  refine Sound.of ?_ (regWriteRow_kept (h_f := fun u0 y1 => ?_) ..)
  · exact Kept.refl _
  · refine Kept.trans ?_ (State.keyCmd_kept ..)
    exact Kept.refl _

theorem execRekeyGo_kept (m : Mst) (v : Word) (s : State) : Sound s (execRekeyGo m v s) := by
  unfold execRekeyGo
  refine Sound.of ?_ (regWriteRow_kept (h_f := fun u0 y1 => ?_) ..)
  · exact Kept.refl _
  · refine Kept.trans ?_ (State.keyCmd_kept ..)
    exact Kept.refl _

theorem State.connStart_kept (s : State) (n : Nat) : Kept s (State.connStart s n) := by
  unfold State.connStart
  lift_lets
  intro x0
  clear_value x0
  intro x1
  have h2 : Kept s x1 := by
    unfold x1
    refine Kept.trans ?_ (State.setCx_kept ..)
    exact Kept.refl _
  clear_value x1
  intro x5
  have h6 : Kept s x5 := by
    unfold x5
    refine Kept.trans ?_ (State.setTx_kept ..)
    refine Kept.trans ?_ (State.setTx_kept ..)
    exact h2
  clear_value x5
  intro x10
  have h11 : Kept s x10 := by
    unfold x10
    refine Kept.trans ?_ (State.setRx_kept ..)
    refine Kept.trans ?_ (State.setRx_kept ..)
    exact h6
  clear_value x10
  refine Kept.trans ?_ (State.wr_kept ..)
  exact h11

theorem State.connEnd_kept (s : State) (n : Nat) : Kept s (State.connEnd s n) := by
  unfold State.connEnd
  lift_lets
  intro x0
  have h1 : Kept s x0 := by
    unfold x0
    refine Kept.trans ?_ (State.connDrop_kept ..)
    refine Kept.trans ?_ (State.wr_kept ..)
    exact Kept.refl _
  clear_value x0
  intro x5
  have h6 : Kept s x5 := by
    unfold x5
    refine Kept.trans ?_ (State.setCx_kept ..)
    exact h1
  clear_value x5
  refine Kept.trans ?_ (State.wr_kept ..)
  refine Kept.trans ?_ (State.wr_kept ..)
  refine Kept.trans ?_ (State.wr_kept ..)
  refine Kept.trans ?_ (State.wr_kept ..)
  exact h6

theorem State.connWrite_kept (s : State) (m : Mst) (w : Nat) (v : Word) : Kept s (State.connWrite s m w v) := by
  unfold State.connWrite
  lift_lets
  intro x0
  clear_value x0
  intro x1
  clear_value x1
  intro x2
  have h3 : Kept s x2 := by
    unfold x2
    refine Kept.trans ?_ (State.plainWrite_kept ..)
    exact Kept.refl _
  clear_value x2
  refine Kept.ite (fun z6 => ?_) (fun z6 => ?_)
  · refine Kept.ite (fun z8 => ?_) (fun z8 => ?_)
    · refine Kept.ite (fun z10 => ?_) (fun z10 => ?_)
      · refine Kept.ite (fun z12 => ?_) (fun z12 => ?_)
        · refine Kept.trans ?_ (State.connStart_kept ..)
          exact h3
        · refine Kept.trans ?_ (State.count_kept ..)
          exact h3
      · exact h3
    · refine Kept.trans ?_ (State.plainWrite_kept ..)
      exact Kept.refl _
  · refine Kept.ite (fun z21 => ?_) (fun z21 => ?_)
    · refine Kept.trans ?_ (State.connEnd_kept ..)
      exact Kept.refl _
    · exact Kept.refl _

theorem execConnActivate_kept (m : Mst) (v : Word) (s : State) : Sound s (execConnActivate m v s) := by
  unfold execConnActivate
  refine Sound.of ?_ (regWriteRow_kept (h_f := fun u0 y1 => ?_) ..)
  · exact Kept.refl _
  · refine Kept.trans ?_ (State.connWrite_kept ..)
    exact Kept.refl _

theorem execConnFree_kept (m : Mst) (v : Word) (s : State) : Sound s (execConnFree m v s) := by
  unfold execConnFree
  refine Sound.of ?_ (regWriteRow_kept (h_f := fun u0 y1 => ?_) ..)
  · exact Kept.refl _
  · refine Kept.trans ?_ (State.connWrite_kept ..)
    exact Kept.refl _

theorem State.cvsWrite_kept (s : State) (m : Mst) (w : Nat) (v : Word) : Kept s (State.cvsWrite s m w v) := by
  unfold State.cvsWrite
  lift_lets
  intro x0
  clear_value x0
  intro x1
  clear_value x1
  intro x2
  have h3 : Kept s x2 := by
    unfold x2
    refine Kept.trans ?_ (State.plainWrite_kept ..)
    exact Kept.refl _
  clear_value x2
  refine Kept.ite (fun z6 => ?_) (fun z6 => ?_)
  · exact Kept.refl _
  · refine Kept.ite (fun z9 => ?_) (fun z9 => ?_)
    · refine Kept.ite (fun z11 => ?_) (fun z11 => ?_)
      · refine Kept.ite (fun z13 => ?_) (fun z13 => ?_)
        · refine Kept.ite (fun z15 => ?_) (fun z15 => ?_)
          · refine Kept.trans ?_ (State.wr_kept ..)
            exact h3
          · refine Kept.trans ?_ (State.count_kept ..)
            exact h3
        · exact h3
      · refine Kept.trans ?_ (State.plainWrite_kept ..)
        exact Kept.refl _
    · refine Kept.ite (fun z24 => ?_) (fun z24 => ?_)
      · refine Kept.trans ?_ (State.canvasRevoke_kept ..)
        exact Kept.refl _
      · exact Kept.refl _

theorem execCanvasValidate_kept (m : Mst) (v : Word) (s : State) : Sound s (execCanvasValidate m v s) := by
  unfold execCanvasValidate
  refine Sound.of ?_ (regWriteRow_kept (h_f := fun u0 y1 => ?_) ..)
  · exact Kept.refl _
  · refine Kept.trans ?_ (State.cvsWrite_kept ..)
    exact Kept.refl _

theorem execCanvasRevoke_kept (m : Mst) (v : Word) (s : State) : Sound s (execCanvasRevoke m v s) := by
  unfold execCanvasRevoke
  refine Sound.of ?_ (regWriteRow_kept (h_f := fun u0 y1 => ?_) ..)
  · exact Kept.refl _
  · refine Kept.trans ?_ (State.cvsWrite_kept ..)
    exact Kept.refl _

theorem State.accepted_kept (s : State) (p : Packet) : Kept s (State.accepted s p) := by
  unfold State.accepted
  lift_lets
  intro x0
  have h1 : Kept s x0 := by
    unfold x0
    refine Kept.trans ?_ (State.unarrive_kept ..)
    exact Kept.refl _
  clear_value x0
  refine Kept.ite (fun z4 => ?_) (fun z4 => ?_)
  · refine Kept.trans ?_ (State.policerCharge_kept ..)
    exact h1
  · exact h1

theorem execConnPacketArrival_kept (p : Packet) (mark : Bool) (s : State) : Sound s (execConnPacketArrival p mark s) := by
  unfold execConnPacketArrival
  refine Sound.ite (fun z0 => ?_) (fun z0 => ?_)
  · refine Sound.next ?_
    exact Kept.refl _
  · refine Sound.of ?_ (fin_kept ..)
    refine Kept.trans ?_ (State.connArrive_kept ..)
    refine Kept.trans ?_ (State.accepted_kept ..)
    exact Kept.refl _

theorem execAckDelayExpiry_kept (n : Fin 262144) (reply : Bool) (s : State) : Sound s (execAckDelayExpiry n reply s) := by
  unfold execAckDelayExpiry
  split
  · rename_i z1 z2 z3
    refine Sound.ite (fun z4 => ?_) (fun z4 => ?_)
    · refine Sound.of ?_ (fin_kept ..)
      refine Kept.trans ?_ (State.sendAck_kept ..)
      refine Kept.trans ?_ (State.passTo_kept ..)
      exact Kept.refl _
    · refine Sound.next ?_
      exact Kept.refl _
  · rename_i z12 z13
    refine Sound.next ?_
    exact Kept.refl _

theorem execRtoExpiry_kept (n : Fin 262144) (reply : Bool) (s : State) : Sound s (execRtoExpiry n reply s) := by
  unfold execRtoExpiry
  split
  · rename_i z1 z2 z3
    refine Sound.ite (fun z4 => ?_) (fun z4 => ?_)
    · refine Sound.of ?_ (fin_kept ..)
      refine Kept.trans ?_ (State.rtoFire_kept ..)
      refine Kept.trans ?_ (State.passTo_kept ..)
      exact Kept.refl _
    · refine Sound.next ?_
      exact Kept.refl _
  · rename_i z12 z13
    refine Sound.next ?_
    exact Kept.refl _

theorem execNrBackoffExpiry_kept (n : Fin 262144) (seq : BitVec 32) (s : State) : Sound s (execNrBackoffExpiry n seq s) := by
  unfold execNrBackoffExpiry
  split
  · rename_i z1 z2 z3
    split
    · rename_i z5 z6 z7
      refine Sound.ite (fun z8 => ?_) (fun z8 => ?_)
      · refine Sound.of ?_ (fin_kept ..)
        refine Kept.trans ?_ (State.resend_kept ..)
        refine Kept.trans ?_ (State.passTo_kept ..)
        exact Kept.refl _
      · refine Sound.next ?_
        exact Kept.refl _
    · rename_i z16 z17
      refine Sound.next ?_
      exact Kept.refl _
  · rename_i z20 z21
    refine Sound.next ?_
    exact Kept.refl _

theorem execFlushReqDispatch_kept (n : Fin 262144) (s : State) : Sound s (execFlushReqDispatch n s) := by
  unfold execFlushReqDispatch
  refine Sound.ite (fun z0 => ?_) (fun z0 => ?_)
  · refine Sound.next ?_
    exact Kept.refl _
  · refine Sound.of ?_ (fin_kept ..)
    refine Kept.trans ?_ (State.flushGo_kept ..)
    exact Kept.refl _

theorem State.rndvGo_kept (s : State) (q : Nat) (n : Nat) (t : Taken) : KeptOpt s (State.rndvGo s q n t) := by
  unfold State.rndvGo
  refine KeptOpt.map ?_ (fun u0 => ?_)
  · refine KeptOpt.of ?_ (State.transientTake_kept _ _ _ _ _)
    exact Kept.refl _
  · refine Kept.trans ?_ (State.queuePkts_kept ..)
    exact Kept.refl _

theorem execSend_kept (q : QNum) (id : Nat) (src : Fetched) (s : State) : Sound s (execSend q id src s) := by
  unfold execSend
  refine Sound.of ?_ (State.connEntry_kept (h_f := fun u0 y1 y2 => ?_) ..)
  · exact Kept.refl _
  · lift_lets
    intro x3
    clear_value x3
    refine Sound.ite (fun z4 => ?_) (fun z4 => ?_)
    · split
      · rename_i z5 z6 z7
        refine Sound.next ?_
        exact Kept.refl _
      · rename_i z8 z9 z10 z11 z12
        refine Sound.of ?_ (State.cutShort_kept ..)
        refine Kept.eqn z12 ?_
        refine Kept.trans ?_ (State.source_kept ..)
        exact Kept.refl _
      · rename_i z13 z14 z15 z16
        refine Sound.of ?_ (fin_kept ..)
        refine Kept.trans ?_ (State.queuePkts_kept ..)
        refine Kept.eqn z16 ?_
        refine Kept.trans ?_ (State.source_kept ..)
        exact Kept.refl _
    · split
      · rename_i z17 z18 z19
        refine Sound.of ?_ (fin_kept ..)
        refine Kept.trans ?_ (State.finishEntry_kept ..)
        refine Kept.eqn z19 ?_
        refine KeptFst.out ?_
        refine KeptFst.ite (fun z20 => ?_) (fun z20 => ?_)
        · refine KeptFst.trans ?_ (State.devRange_kept ..)
          exact Kept.refl _
        · refine KeptFst.pair ?_
          exact Kept.refl _
      · rename_i z21 z22 z23
        lift_lets
        intro x24
        have h25 : Kept u0 x24 := by
          unfold x24
          refine Kept.trans ?_ (State.count_kept ..)
          refine Kept.trans ?_ (State.begin_kept ..)
          refine Kept.eqn z23 ?_
          refine KeptFst.out ?_
          refine KeptFst.ite (fun z26 => ?_) (fun z26 => ?_)
          · refine KeptFst.trans ?_ (State.devRange_kept ..)
            exact Kept.refl _
          · refine KeptFst.pair ?_
            exact Kept.refl _
        clear_value x24
        split
        · rename_i z27 z28 z29
          refine Sound.of ?_ (fin_kept ..)
          refine KeptOpt.get z29 ?_
          refine KeptOpt.of ?_ (State.rndvGo_kept _ _ _ _)
          refine Kept.eqn z23 ?_
          refine KeptFst.out ?_
          refine KeptFst.ite (fun z30 => ?_) (fun z30 => ?_)
          · refine KeptFst.trans ?_ (State.devRange_kept ..)
            exact Kept.refl _
          · refine KeptFst.pair ?_
            exact Kept.refl _
        · rename_i z31 z32
          refine Sound.of ?_ (fin_kept ..)
          refine Kept.trans ?_ (State.setMtch_kept ..)
          exact h25

theorem execRndvCanvasTake_kept (q : QNum) (id : Nat) (s : State) : Sound s (execRndvCanvasTake q id s) := by
  unfold execRndvCanvasTake
  refine Sound.ite (fun z0 => ?_) (fun z0 => ?_)
  · lift_lets
    intro x2
    have h_x2 : ∀ y3, Kept y3 (x2 y3) := by
      intro y3
      unfold x2
      refine Kept.trans ?_ (State.setMtch_kept ..)
      exact Kept.refl _
    clear_value x2
    split
    · rename_i z7 z8
      refine Sound.of ?_ (fin_kept ..)
      refine Kept.trans ?_ (h_x2 ..)
      exact Kept.refl _
    · rename_i z12 z13 z14
      refine Sound.ite (fun z15 => ?_) (fun z15 => ?_)
      · refine Sound.of ?_ (fin_kept ..)
        refine Kept.trans ?_ (h_x2 ..)
        exact Kept.refl _
      · split
        · rename_i z21 z22 z23
          refine Sound.of ?_ (fin_kept ..)
          refine Kept.trans ?_ (h_x2 ..)
          refine KeptOpt.get z23 ?_
          refine KeptOpt.of ?_ (State.rndvGo_kept _ _ _ _)
          exact Kept.refl _
        · rename_i z29 z30
          refine Sound.next ?_
          exact Kept.refl _
  · refine Sound.next ?_
    exact Kept.refl _

theorem execRecv_kept (q : QNum) (e : Octet) (s : State) : Sound s (execRecv q e s) := by
  unfold execRecv
  lift_lets
  intro x0
  have h1 : Kept s x0 := by
    unfold x0
    refine Kept.trans ?_ (State.setMtch_kept ..)
    exact Kept.refl _
  clear_value x0
  intro x2
  clear_value x2
  intro x3
  clear_value x3
  refine Sound.ite (fun z4 => ?_) (fun z4 => ?_)
  · refine Sound.next ?_
    exact Kept.refl _
  · refine Sound.ite (fun z5 => ?_) (fun z5 => ?_)
    · refine Sound.of ?_ (fin_kept ..)
      refine Kept.trans ?_ (State.unboundOnce_kept ..)
      exact Kept.refl _
    · split
      · rename_i z6 z7 z8
        refine Sound.ite (fun z9 => ?_) (fun z9 => ?_)
        · refine Sound.of ?_ (fin_kept ..)
          refine Kept.trans ?_ (State.recvMalformed_kept ..)
          refine Kept.trans ?_ (State.advanceCi_kept ..)
          exact h1
        · refine Sound.of ?_ (fin_kept ..)
          exact h1
      · rename_i z10 z11
        refine Sound.ite (fun z12 => ?_) (fun z12 => ?_)
        · refine Sound.of ?_ (fin_kept ..)
          refine Kept.trans ?_ (State.postRecv_kept ..)
          refine Kept.trans ?_ (State.advanceCi_kept ..)
          exact h1
        · refine Sound.of ?_ (fin_kept ..)
          exact h1

theorem State.zeroRead_kept (s : State) (u : Unexp) : Kept s (State.zeroRead s u) := by
  unfold State.zeroRead
  split
  · rename_i z1 z2
    exact Kept.refl _
  · rename_i z4 z5 z6
    refine Kept.ite (fun z7 => ?_) (fun z7 => ?_)
    · exact Kept.refl _
    · lift_lets
      intro x10
      clear_value x10
      refine Kept.trans ?_ (State.txHand_kept ..)
      exact Kept.refl _

theorem State.discardUnexp_kept (s : State) (u : Unexp) : Kept s (State.discardUnexp s u) := by
  unfold State.discardUnexp
  refine Kept.ite (fun z0 => ?_) (fun z0 => ?_)
  · refine Kept.trans ?_ (State.zeroRead_kept ..)
    refine Kept.trans ?_ (State.dropUnexp_kept ..)
    exact Kept.refl _
  · refine Kept.ite (fun z5 => ?_) (fun z5 => ?_)
    · refine Kept.trans ?_ (State.dropUnexp_kept ..)
      exact Kept.refl _
    · refine Kept.trans ?_ (State.mtcSync_kept ..)
      refine Kept.trans ?_ (State.setUnexp_kept ..)
      exact Kept.refl _

theorem State.mtcFree_kept (s : State) (m : Nat) : Kept s (State.mtcFree s m) := by
  unfold State.mtcFree
  refine Kept.ite (fun z0 => ?_) (fun z0 => ?_)
  · refine Kept.trans ?_ (State.count_kept ..)
    exact Kept.refl _
  · lift_lets
    intro x4
    clear_value x4
    refine Kept.trans ?_ (State.wr_kept ..)
    refine Kept.trans ?_ (Kept.foldl (fun t6 x7 => ?_) _ _)
    · exact Kept.refl _
    · refine Kept.trans ?_ (State.discardUnexp_kept ..)
      exact Kept.refl _

theorem State.mtcStart_kept (s : State) (m : Nat) : Kept s (State.mtcStart s m) := by
  unfold State.mtcStart
  refine Kept.ite (fun z0 => ?_) (fun z0 => ?_)
  · lift_lets
    intro x2
    have h3 : Kept s x2 := by
      unfold x2
      refine Kept.trans ?_ (State.wr_kept ..)
      refine Kept.trans ?_ (State.set_kept ..)
      refine Kept.trans ?_ (State.set_kept ..)
      refine Kept.trans ?_ (State.set_kept ..)
      refine Kept.trans ?_ (State.set_kept ..)
      exact Kept.refl _
    clear_value x2
    refine Kept.trans ?_ (State.setMtch_kept ..)
    exact h3
  · refine Kept.trans ?_ (State.count_kept ..)
    exact Kept.refl _

theorem State.mtcWrite_kept (s : State) (m : Mst) (w : Nat) (v : Word) : Kept s (State.mtcWrite s m w v) := by
  unfold State.mtcWrite
  lift_lets
  intro x0
  clear_value x0
  intro x1
  clear_value x1
  intro x2
  have h3 : Kept s x2 := by
    unfold x2
    refine Kept.trans ?_ (State.plainWrite_kept ..)
    exact Kept.refl _
  clear_value x2
  refine Kept.ite (fun z6 => ?_) (fun z6 => ?_)
  · refine Kept.trans ?_ (State.plainWrite_kept ..)
    exact Kept.refl _
  · refine Kept.ite (fun z10 => ?_) (fun z10 => ?_)
    · refine Kept.ite (fun z12 => ?_) (fun z12 => ?_)
      · refine Kept.trans ?_ (State.mtcFree_kept ..)
        exact Kept.refl _
      · exact Kept.refl _
    · refine Kept.ite (fun z17 => ?_) (fun z17 => ?_)
      · refine Kept.trans ?_ (State.mtcStart_kept ..)
        exact h3
      · exact h3

theorem execMctxActivate_kept (m : Mst) (v : Word) (s : State) : Sound s (execMctxActivate m v s) := by
  unfold execMctxActivate
  refine Sound.of ?_ (regWriteRow_kept (h_f := fun u0 y1 => ?_) ..)
  · exact Kept.refl _
  · refine Kept.trans ?_ (State.mtcWrite_kept ..)
    exact Kept.refl _

theorem execMctxFree_kept (m : Mst) (v : Word) (s : State) : Sound s (execMctxFree m v s) := by
  unfold execMctxFree
  refine Sound.of ?_ (regWriteRow_kept (h_f := fun u0 y1 => ?_) ..)
  · exact Kept.refl _
  · refine Kept.trans ?_ (State.mtcWrite_kept ..)
    exact Kept.refl _

theorem State.deliverOne_kept (s : State) (p : Packet) : Kept s (State.deliverOne s p).1 := by
  unfold State.deliverOne
  lift_lets
  intro x0
  clear_value x0
  intro x1
  clear_value x1
  intro x2
  clear_value x2
  intro x3
  have h4 : Kept s x3 := by
    unfold x3
    refine Kept.trans ?_ (State.setMtch_kept ..)
    exact Kept.refl _
  clear_value x3
  refine KeptFst.out ?_
  refine KeptFst.ite (fun z5 => ?_) (fun z5 => ?_)
  · refine KeptFst.pair ?_
    exact Kept.refl _
  · split
    · rename_i z6 z7 z8
      lift_lets
      intro x9
      clear_value x9
      intro x10
      clear_value x10
      intro x11
      have h12 : Kept s x11 := by
        unfold x11
        refine Kept.trans ?_ (State.count_kept ..)
        refine Kept.trans ?_ (State.stallClear_kept ..)
        refine Kept.trans ?_ (State.bindRecv_kept ..)
        refine Kept.trans ?_ (State.unpost_kept ..)
        exact Kept.refl _
      clear_value x11
      intro x13
      have h14 : Kept s x13 := by
        unfold x13
        refine Kept.trans ?_ (State.tally_kept ..)
        exact h12
      clear_value x13
      intro x15
      clear_value x15
      intro x16
      have h17 : Kept s x16 := by
        unfold x16
        refine Kept.ite (fun z18 => ?_) (fun z18 => ?_)
        · exact h14
        · refine Kept.ite (fun z19 => ?_) (fun z19 => ?_)
          · refine Kept.trans ?_ (State.devWrite_kept ..)
            exact h14
          · refine Kept.trans ?_ (State.dma_kept ..)
            exact h14
      clear_value x16
      refine KeptFst.ite (fun z20 => ?_) (fun z20 => ?_)
      · refine KeptFst.pair ?_
        exact Kept.refl _
      · refine KeptFst.pair ?_
        refine Kept.trans ?_ (State.boundDone_kept ..)
        exact h17
    · rename_i z21 z22
      refine KeptFst.ite (fun z23 => ?_) (fun z23 => ?_)
      · split
        · rename_i z24
          rcases e25 : (x3.addUnexp x0 p none) with ⟨z26, z27, z28⟩
          dsimp -zeta only
          lift_lets
          intro x29
          have h30 : Kept s x29 := by
            unfold x29
            refine Kept.eqn e25 ?_
            refine Kept.trans ?_ (State.addUnexp_kept ..)
            exact h4
          clear_value x29
          dsimp -zeta only
          refine KeptFst.pair ?_
          refine Kept.trans ?_ (State.setUnexp_kept ..)
          exact h30
        · rename_i z31
          rcases e32 : (x3.addUnexp x0 p none) with ⟨z33, z34, z35⟩
          dsimp -zeta only
          lift_lets
          intro x36
          have h37 : Kept s x36 := by
            unfold x36
            refine Kept.trans ?_ (State.devWrite_kept ..)
            refine Kept.eqn e32 ?_
            refine Kept.trans ?_ (State.addUnexp_kept ..)
            exact h4
          clear_value x36
          dsimp -zeta only
          refine KeptFst.pair ?_
          refine Kept.trans ?_ (State.setUnexp_kept ..)
          exact h37
      · refine KeptFst.pair ?_
        exact Kept.refl _

theorem State.mcDeliver_kept (s : State) (t : Nat) (tag : Word) (bs : List Byte) : Kept s (State.mcDeliver s t tag bs) := by
  unfold State.mcDeliver
  refine Kept.ite (fun z0 => ?_) (fun z0 => ?_)
  · lift_lets
    intro x2
    clear_value x2
    split
    · rename_i z4 z5 z6
      refine Kept.eqn z6 ?_
      refine Kept.trans ?_ (State.deliverOne_kept ..)
      exact Kept.refl _
    · rename_i z10 z11 z12
      refine Kept.trans ?_ (State.count_kept ..)
      refine Kept.eqn z12 ?_
      refine Kept.trans ?_ (State.deliverOne_kept ..)
      exact Kept.refl _
  · exact Kept.refl _

theorem State.multicast_kept (s : State) (t : Nat) (who : Member) (c : Coll) (tag : Word) (bs : List Byte) (flag : Bool) : Kept s (State.multicast s t who c tag bs flag) := by
  unfold State.multicast
  lift_lets
  intro x0
  clear_value x0
  intro x1
  have h2 : Kept s x1 := by
    unfold x1
    refine Kept.trans ?_ (State.openInst_kept ..)
    refine Kept.trans ?_ (State.wr_kept ..)
    exact Kept.refl _
  clear_value x1
  intro x6
  have h7 : Kept s x6 := by
    unfold x6
    refine Kept.trans ?_ (State.setInst_kept ..)
    exact h2
  clear_value x6
  intro x10
  have h11 : Kept s x10 := by
    unfold x10
    refine Kept.trans ?_ (State.sendDown_kept ..)
    refine Kept.trans ?_ (State.treeTouch_kept ..)
    exact h7
  clear_value x10
  refine Kept.trans ?_ (State.instGo_kept ..)
  refine Kept.trans ?_ (State.mcDeliver_kept ..)
  exact h11

theorem State.collSink_kept (s : State) (q : Nat) (t : Nat) (e : Octet) (c : Coll) (src : Bool) : Kept s (State.collSink s q t e c src).1 := by
  refine KeptFst.out ?_
  unfold State.collSink
  lift_lets
  intro x0
  clear_value x0
  refine KeptFst.ite (fun z1 => ?_) (fun z1 => ?_)
  · refine KeptFst.of ?_
    refine Kept.trans ?_ (State.devRange_kept ..)
    exact Kept.refl _
  · refine KeptFst.pair ?_
    exact Kept.refl _

theorem State.contribute_kept (s : State) (t : Nat) (z : Contrib) (poison : Bool) : Kept s (State.contribute s t z poison) := by
  unfold State.contribute
  lift_lets
  intro x0
  clear_value x0
  intro x1
  clear_value x1
  intro x2
  clear_value x2
  intro x3
  clear_value x3
  intro x4
  have h5 : Kept s x4 := by
    unfold x4
    refine Kept.trans ?_ (State.setTr_kept ..)
    exact Kept.refl _
  clear_value x4
  intro x6
  have h7 : Kept s x6 := by
    unfold x6
    refine Kept.trans ?_ (State.kindSet_kept ..)
    exact h5
  clear_value x6
  intro x8
  clear_value x8
  intro x9
  have h10 : Kept s x9 := by
    unfold x9
    refine Kept.ite (fun z11 => ?_) (fun z11 => ?_)
    · refine Kept.trans ?_ (State.instPoison_kept ..)
      refine Kept.trans ?_ (State.openInst_kept ..)
      exact h7
    · exact h7
  clear_value x9
  refine Kept.trans ?_ (State.treeGo_kept ..)
  exact h10

theorem execColl_kept (q : QNum) (id : Nat) (src : Fetched) (s : State) : Sound s (execColl q id src s) := by
  unfold execColl
  refine Sound.of ?_ (State.entryRow_kept (h_f := fun u0 y1 => ?_) ..)
  · exact Kept.refl _
  · lift_lets
    intro x2
    clear_value x2
    intro x3
    clear_value x3
    intro x4
    clear_value x4
    intro x5
    clear_value x5
    intro x6
    clear_value x6
    intro x7
    clear_value x7
    refine Sound.ite (fun z8 => ?_) (fun z8 => ?_)
    · refine Sound.of ?_ (fin_kept ..)
      refine Kept.trans ?_ (State.finishEntry_kept ..)
      exact Kept.refl _
    · refine Sound.ite (fun z9 => ?_) (fun z9 => ?_)
      · refine Sound.of ?_ (fin_kept ..)
        refine Kept.trans ?_ (State.finishEntry_kept ..)
        exact Kept.refl _
      · refine Sound.ite (fun z10 => ?_) (fun z10 => ?_)
        · refine Sound.ite (fun z11 => ?_) (fun z11 => ?_)
          · split
            · rename_i z12 z13 z14
              refine Sound.next ?_
              exact Kept.refl _
            · rename_i z15 z16 z17 z18 z19
              refine Sound.of ?_ (fin_kept ..)
              refine Kept.trans ?_ (State.finishEntry_kept ..)
              refine Kept.eqn z19 ?_
              refine Kept.trans ?_ (State.source_kept ..)
              exact Kept.refl _
            · rename_i z20 z21 z22 z23
              refine Sound.of ?_ (fin_kept ..)
              refine Kept.trans ?_ (State.multicast_kept ..)
              refine Kept.trans ?_ (State.begin_kept ..)
              refine Kept.eqn z23 ?_
              refine Kept.trans ?_ (State.source_kept ..)
              exact Kept.refl _
          · refine Sound.of ?_ (fin_kept ..)
            refine Kept.trans ?_ (State.finishEntry_kept ..)
            refine Kept.trans ?_ (State.drawn_kept ..)
            exact Kept.refl _
        · refine Sound.ite (fun z24 => ?_) (fun z24 => ?_)
          · refine Sound.next ?_
            exact Kept.refl _
          · split
            · rename_i z25 z26 z27
              refine Sound.of ?_ (fin_kept ..)
              refine Kept.trans ?_ (State.finishEntry_kept ..)
              refine Kept.eqn z27 ?_
              refine Kept.trans ?_ (State.collSink_kept ..)
              exact Kept.refl _
            · rename_i z28 z29 z30
              lift_lets
              intro x31
              clear_value x31
              refine Sound.ite (fun z32 => ?_) (fun z32 => ?_)
              · refine Sound.of ?_ (fin_kept ..)
                refine Kept.trans ?_ (State.contribute_kept ..)
                refine Kept.trans ?_ (State.begin_kept ..)
                refine Kept.eqn z30 ?_
                refine Kept.trans ?_ (State.collSink_kept ..)
                exact Kept.refl _
              · rcases e33 : (z29.source (↑q) y1 x6 src) with ⟨z34, z35⟩
                cases z35
                · rename_i z37
                  dsimp -zeta only
                  refine Sound.of ?_ (fin_kept ..)
                  refine Kept.trans ?_ (State.contribute_kept ..)
                  refine Kept.trans ?_ (State.begin_kept ..)
                  refine Kept.eqn e33 ?_
                  refine Kept.trans ?_ (State.source_kept ..)
                  refine Kept.eqn z30 ?_
                  refine Kept.trans ?_ (State.collSink_kept ..)
                  exact Kept.refl _
                · rename_i z38 z39
                  dsimp -zeta only
                  lift_lets
                  intro x40
                  clear_value x40
                  dsimp -zeta only
                  refine Sound.ite (fun z41 => ?_) (fun z41 => ?_)
                  · refine Sound.of ?_ (fin_kept ..)
                    refine Kept.trans ?_ (State.finishEntry_kept ..)
                    refine Kept.eqn e33 ?_
                    refine Kept.trans ?_ (State.source_kept ..)
                    refine Kept.eqn z30 ?_
                    refine Kept.trans ?_ (State.collSink_kept ..)
                    exact Kept.refl _
                  · refine Sound.of ?_ (fin_kept ..)
                    refine Kept.trans ?_ (State.contribute_kept ..)
                    refine Kept.trans ?_ (State.begin_kept ..)
                    refine Kept.trans ?_ (State.drawn_kept ..)
                    refine Kept.eqn e33 ?_
                    refine Kept.trans ?_ (State.source_kept ..)
                    refine Kept.eqn z30 ?_
                    refine Kept.trans ?_ (State.collSink_kept ..)
                    exact Kept.refl _
                · dsimp -zeta only
                  refine Sound.next ?_
                  refine Kept.eqn z30 ?_
                  refine Kept.trans ?_ (State.collSink_kept ..)
                  exact Kept.refl _

theorem State.treeStart_kept (s : State) (t : Nat) : Kept s (State.treeStart s t) := by
  unfold State.treeStart
  refine Kept.trans ?_ (State.treeTouch_kept ..)
  refine Kept.trans ?_ (State.setTr_kept ..)
  refine Kept.trans ?_ (State.set_kept ..)
  refine Kept.trans ?_ (State.set_kept ..)
  exact Kept.refl _

theorem State.treeEnd_kept (s : State) (t : Nat) : Kept s (State.treeEnd s t) := by
  unfold State.treeEnd
  lift_lets
  intro x0
  clear_value x0
  intro x1
  clear_value x1
  intro x2
  have h3 : Kept s x2 := by
    unfold x2
    refine Kept.trans ?_ (Kept.foldl (fun t4 x5 => ?_) _ _)
    · exact Kept.refl _
    · refine Kept.trans ?_ (State.memberEnd_kept ..)
      exact Kept.refl _
  clear_value x2
  intro x6
  have h7 : Kept s x6 := by
    unfold x6
    refine Kept.trans ?_ (Kept.foldl (fun t8 x9 => ?_) _ _)
    · exact h3
    · split
      · rename_i z10 z11 z12
        refine Kept.trans ?_ (State.memberEnd_kept ..)
        exact Kept.refl _
      · rename_i z13 z14
        exact Kept.refl _
  clear_value x6
  refine Kept.trans ?_ (State.setTr_kept ..)
  exact h7

theorem State.treeWrite_kept (s : State) (m : Mst) (w : Nat) (v : Word) : Kept s (State.treeWrite s m w v) := by
  unfold State.treeWrite
  lift_lets
  intro x0
  clear_value x0
  intro x1
  clear_value x1
  intro x2
  have h_x2 : ∀ y3 y4, Kept y3 (x2 y3 y4).1 := by
    intro y3 y4
    refine KeptFst.out ?_
    unfold x2
    refine KeptFst.of ?_
    refine Kept.trans ?_ (State.cfgPut_kept ..)
    exact Kept.refl _
  clear_value x2
  intro x8
  clear_value x8
  intro x9
  clear_value x9
  intro x10
  clear_value x10
  intro x11
  have h12 : Kept s x11 := by
    unfold x11
    refine Kept.ite (fun z13 => ?_) (fun z13 => ?_)
    · refine Kept.trans ?_ (State.count_kept ..)
      exact Kept.refl _
    · exact Kept.refl _
  clear_value x11
  refine Kept.ite (fun z18 => ?_) (fun z18 => ?_)
  · refine Kept.ite (fun z20 => ?_) (fun z20 => ?_)
    · split
      · rename_i z23 z24 z25
        refine Kept.trans ?_ (State.treeEnd_kept ..)
        refine Kept.eqn z25 ?_
        refine Kept.trans ?_ (h_x2 ..)
        exact Kept.refl _
      · rename_i z30 z31 z32
        refine Kept.eqn z32 ?_
        refine Kept.trans ?_ (h_x2 ..)
        exact Kept.refl _
    · exact Kept.refl _
  · refine Kept.ite (fun z37 => ?_) (fun z37 => ?_)
    · split
      · rename_i z40 z41 z42
        refine Kept.ite (fun z43 => ?_) (fun z43 => ?_)
        · refine Kept.trans ?_ (State.treeStart_kept ..)
          refine Kept.eqn z42 ?_
          refine Kept.trans ?_ (h_x2 ..)
          exact h12
        · refine Kept.eqn z42 ?_
          refine Kept.trans ?_ (h_x2 ..)
          exact h12
      · rename_i z52 z53 z54
        refine Kept.eqn z54 ?_
        refine Kept.trans ?_ (h_x2 ..)
        exact h12
    · refine Kept.trans ?_ (h_x2 ..)
      exact Kept.refl _

theorem execTreeActivate_kept (m : Mst) (v : Word) (s : State) : Sound s (execTreeActivate m v s) := by
  unfold execTreeActivate
  refine Sound.of ?_ (regWriteRow_kept (h_f := fun u0 y1 => ?_) ..)
  · exact Kept.refl _
  · refine Kept.trans ?_ (State.treeWrite_kept ..)
    exact Kept.refl _

theorem execTreeFree_kept (m : Mst) (v : Word) (s : State) : Sound s (execTreeFree m v s) := by
  unfold execTreeFree
  refine Sound.of ?_ (regWriteRow_kept (h_f := fun u0 y1 => ?_) ..)
  · exact Kept.refl _
  · refine Kept.trans ?_ (State.treeWrite_kept ..)
    exact Kept.refl _

theorem State.treeWords_kept (s : State) (t : Nat) (ws : List Word) : Kept s (State.treeWords s t ws).1 := by
  refine KeptFst.out ?_
  unfold State.treeWords
  lift_lets
  intro x0
  clear_value x0
  intro x1
  clear_value x1
  intro x2
  have h_x2 : ∀ y3 y4 y5, Kept y3 (x2 y3 y4 y5).1 := by
    intro y3 y4 y5
    refine KeptFst.out ?_
    unfold x2
    refine KeptFst.of ?_
    refine Kept.trans ?_ (State.askRec_kept ..)
    exact Kept.refl _
  clear_value x2
  intro x9
  clear_value x9
  intro x10
  clear_value x10
  intro x11
  clear_value x11
  intro x12
  have h_x12 : ∀ y13, Kept y13 (x12 y13) := by
    intro y13
    unfold x12
    refine Kept.trans ?_ (Kept.foldl (fun t14 x15 => ?_) _ _)
    · exact Kept.refl _
    · refine Kept.trans ?_ (State.set_kept ..)
      exact Kept.refl _
  clear_value x12
  intro x20
  clear_value x20
  intro x21
  clear_value x21
  intro x22
  have h23 : Kept s x22 := by
    unfold x22
    refine Kept.ite (fun z24 => ?_) (fun z24 => ?_)
    · refine Kept.trans ?_ (State.count_kept ..)
      exact Kept.refl _
    · exact Kept.refl _
  clear_value x22
  intro x29
  clear_value x29
  refine KeptFst.ite (fun z30 => ?_) (fun z30 => ?_)
  · refine KeptFst.ite (fun z32 => ?_) (fun z32 => ?_)
    · split
      · rename_i z35 z36 z37
        refine KeptFst.pair ?_
        refine Kept.trans ?_ (State.treeEnd_kept ..)
        refine Kept.trans ?_ (State.wr_kept ..)
        refine Kept.eqn z37 ?_
        refine Kept.trans ?_ (h_x2 ..)
        exact Kept.refl _
      · rename_i z44 z45 z46
        refine KeptFst.pair ?_
        refine Kept.eqn z46 ?_
        refine Kept.trans ?_ (h_x2 ..)
        exact Kept.refl _
    · refine KeptFst.pair ?_
      exact Kept.refl _
  · refine KeptFst.ite (fun z53 => ?_) (fun z53 => ?_)
    · refine KeptFst.pair ?_
      exact h23
    · split
      · rename_i z58 z59 z60
        refine KeptFst.pair ?_
        refine Kept.eqn z60 ?_
        refine Kept.trans ?_ (h_x2 ..)
        exact h23
      · rename_i z65 z66 z67
        lift_lets
        intro x68
        have h69 : Kept s x68 := by
          unfold x68
          refine Kept.trans ?_ (State.set_kept ..)
          refine Kept.trans ?_ (h_x12 ..)
          refine Kept.eqn z67 ?_
          refine Kept.trans ?_ (h_x2 ..)
          exact h23
        clear_value x68
        refine KeptFst.pair ?_
        refine Kept.ite (fun z76 => ?_) (fun z76 => ?_)
        · refine Kept.trans ?_ (State.treeStart_kept ..)
          exact h69
        · exact h69

theorem execTreeWrite_kept (id : Nat) (src : Fetched) (s : State) : Sound s (execTreeWrite id src s) := by
  unfold execTreeWrite
  lift_lets
  intro x0
  clear_value x0
  refine Sound.of ?_ (State.entryRow_kept _ _ _ _ _ ?_)
  · exact Kept.refl _
  · intro y3 y4
    split
    · rename_i z7 z8 z9 z10
      refine Sound.of ?_ (fin_kept ..)
      refine Kept.trans ?_ (State.finishEntry_kept ..)
      refine Kept.eqn z10 ?_
      refine Kept.trans ?_ (State.devRead_kept ..)
      exact Kept.refl _
    · rename_i z16 z17 z18 z19
      split
      rename_i z21 z22 z23 z24
      refine Sound.of ?_ (fin_kept ..)
      refine Kept.trans ?_ (State.finishEntry_kept ..)
      refine Kept.eqn z24 ?_
      refine Kept.trans ?_ (State.treeWords_kept ..)
      refine Kept.eqn z19 ?_
      refine Kept.trans ?_ (State.devRead_kept ..)
      exact Kept.refl _

theorem State.treeEvent_kept (s : State) (entry : Nat) (t : Nat) (p : Packet) (a0 : Nat) (a1 : Nat) (a2 : Nat) : Kept s (State.treeEvent s entry t p a0 a1 a2) := by
  unfold State.treeEvent
  refine Kept.trans ?_ (State.postSteered_kept ..)
  exact Kept.refl _

theorem State.treeArrive_kept (s : State) (p : Packet) (f : State → Nat → Out) (h_f : ∀ u y1, Sound u (f u y1)) : Sound s (State.treeArrive s p f) := by
  unfold State.treeArrive
  lift_lets
  intro x0
  clear_value x0
  intro x1
  have h2 : Kept s x1 := by
    unfold x1
    refine Kept.trans ?_ (State.accepted_kept ..)
    exact Kept.refl _
  clear_value x1
  refine Sound.ite (fun z3 => ?_) (fun z3 => ?_)
  · refine Sound.of ?_ (fin_kept ..)
    exact h2
  · refine Sound.ite (fun z4 => ?_) (fun z4 => ?_)
    · refine Sound.of ?_ (fin_kept ..)
      refine Kept.trans ?_ (State.latentRaise_kept ..)
      exact h2
    · refine Sound.ite (fun z5 => ?_) (fun z5 => ?_)
      · refine Sound.of ?_ (fin_kept ..)
        refine Kept.trans ?_ (State.count_kept ..)
        exact h2
      · refine Sound.of ?_ (h_f ..)
        exact h2

theorem State.mixUpEvent_kept (s : State) (t i : Nat) (p : Packet) (whole : Bool) (slot : Nat) : Kept s (State.mixUpEvent s t i p whole slot) := by
  unfold State.mixUpEvent
  refine Kept.trans ?_ (State.treeEvent_kept ..)
  exact Kept.refl _

theorem State.finalIn_kept (s : State) (t i : Nat) (p : Packet) : Kept s (State.finalIn s t i p) := by
  unfold State.finalIn
  lift_lets
  intro x0
  clear_value x0
  intro x1
  clear_value x1
  intro x2
  have h3 : Kept s x2 := by
    unfold x2
    refine Kept.trans ?_ (State.setInst_kept ..)
    exact Kept.refl _
  clear_value x2
  split
  · rename_i z4 z5
    refine Kept.trans ?_ (State.count_kept ..)
    exact Kept.refl _
  · rename_i z6 z7 z8
    refine Kept.ite (fun z9 => ?_) (fun z9 => ?_)
    · refine Kept.trans ?_ (State.count_kept ..)
      exact Kept.refl _
    · refine Kept.trans ?_ (State.treeGo_kept ..)
      refine Kept.trans ?_ (State.meterRx_kept ..)
      refine Kept.trans ?_ (State.mixUpEvent_kept ..)
      exact h3

theorem State.chunkIn_kept (s : State) (t : Nat) (i : Nat) (p : Packet) : Kept s (State.chunkIn s t i p) := by
  unfold State.chunkIn
  lift_lets
  intro x0
  clear_value x0
  intro x1
  clear_value x1
  intro x2
  clear_value x2
  intro x3
  clear_value x3
  intro x4
  clear_value x4
  intro x5
  clear_value x5
  intro x6
  clear_value x6
  intro x7
  clear_value x7
  intro x8
  clear_value x8
  refine Kept.ite (fun z9 => ?_) (fun z9 => ?_)
  · refine Kept.trans ?_ (State.count_kept ..)
    exact Kept.refl _
  · refine Kept.ite (fun z13 => ?_) (fun z13 => ?_)
    · refine Kept.trans ?_ (State.count_kept ..)
      exact Kept.refl _
    · split
      rename_i z18 z19 z20 z21
      lift_lets
      intro x22
      have h23 : Kept s x22 := by
        unfold x22
        refine Kept.trans ?_ (State.slotInput_kept ..)
        exact Kept.refl _
      clear_value x22
      intro x26
      clear_value x26
      intro x27
      have h28 : Kept s x27 := by
        unfold x27
        refine Kept.trans ?_ (State.treeEvent_kept ..)
        exact h23
      clear_value x27
      refine Kept.trans ?_ (State.treeGo_kept ..)
      refine Kept.trans ?_ (State.meterRx_kept ..)
      exact h28

theorem execMixUpArrival_kept (p : Packet) (s : State) : Sound s (execMixUpArrival p s) := by
  unfold execMixUpArrival
  refine Sound.ite (fun z0 => ?_) (fun z0 => ?_)
  · refine Sound.next ?_
    exact Kept.refl _
  · refine Sound.of ?_ (State.treeArrive_kept (h_f := fun u1 y2 => ?_) ..)
    · exact Kept.refl _
    · split
      · rename_i z3 z4
        refine Sound.of ?_ (fin_kept ..)
        refine Kept.trans ?_ (State.count_kept ..)
        exact Kept.refl _
      · rename_i z5 z6 z7
        lift_lets
        intro x8
        have h9 : Kept u1 x8 := by
          unfold x8
          refine Kept.trans ?_ (State.treeTouch_kept ..)
          exact Kept.refl _
        clear_value x8
        refine Sound.ite (fun z10 => ?_) (fun z10 => ?_)
        · refine Sound.of ?_ (fin_kept ..)
          refine Kept.trans ?_ (State.treeBreak_kept ..)
          refine Kept.trans ?_ (State.meterRx_kept ..)
          refine Kept.trans ?_ (State.mixUpEvent_kept ..)
          exact h9
        · refine Sound.ite (fun z11 => ?_) (fun z11 => ?_)
          · refine Sound.of ?_ (fin_kept ..)
            refine Kept.trans ?_ (State.finalIn_kept ..)
            exact h9
          · refine Sound.of ?_ (fin_kept ..)
            refine Kept.trans ?_ (State.chunkIn_kept ..)
            exact h9

theorem State.statusIn_kept (s : State) (t : Nat) (p : Packet) : Kept s (State.statusIn s t p) := by
  unfold State.statusIn
  lift_lets
  intro x0
  clear_value x0
  intro x1
  clear_value x1
  intro x2
  have h3 : Kept s x2 := by
    unfold x2
    refine Kept.trans ?_ (State.openInst_kept ..)
    exact Kept.refl _
  clear_value x2
  refine Kept.ite (fun z4 => ?_) (fun z4 => ?_)
  · refine Kept.trans ?_ (State.treeBreak_kept ..)
    exact Kept.refl _
  · refine Kept.ite (fun z5 => ?_) (fun z5 => ?_)
    · refine Kept.ite (fun z6 => ?_) (fun z6 => ?_)
      · refine Kept.trans ?_ (State.passDown_kept ..)
        exact Kept.refl _
      · refine Kept.trans ?_ (State.treeGo_kept ..)
        refine Kept.trans ?_ (State.tellPoison_kept ..)
        refine Kept.trans ?_ (State.instPoison_kept ..)
        exact h3
    · exact Kept.refl _

theorem execMixDownArrival_kept (p : Packet) (s : State) : Sound s (execMixDownArrival p s) := by
  unfold execMixDownArrival
  refine Sound.ite (fun z0 => ?_) (fun z0 => ?_)
  · refine Sound.next ?_
    exact Kept.refl _
  · refine Sound.of ?_ (State.treeArrive_kept (h_f := fun u1 y2 => ?_) ..)
    · exact Kept.refl _
    · lift_lets
      intro x3
      clear_value x3
      intro x4
      clear_value x4
      intro x5
      have h6 : Kept u1 x5 := by
        unfold x5
        refine Kept.trans ?_ (State.treeEvent_kept ..)
        refine Kept.trans ?_ (State.treeTouch_kept ..)
        refine Kept.trans ?_ (State.meterRx_kept ..)
        exact Kept.refl _
      clear_value x5
      refine Sound.ite (fun z7 => ?_) (fun z7 => ?_)
      · refine Sound.of ?_ (fin_kept ..)
        refine Kept.trans ?_ (State.count_kept ..)
        exact Kept.refl _
      · refine Sound.ite (fun z8 => ?_) (fun z8 => ?_)
        · refine Sound.of ?_ (fin_kept ..)
          refine Kept.trans ?_ (State.treeGo_kept ..)
          refine Kept.trans ?_ (State.setTr_kept ..)
          exact h6
        · refine Sound.of ?_ (fin_kept ..)
          refine Kept.trans ?_ (State.statusIn_kept ..)
          exact h6

theorem State.mcastDown_kept (s : State) (t : Nat) (p : Packet) : Kept s (State.mcastDown s t p) := by
  unfold State.mcastDown
  lift_lets
  intro x0
  clear_value x0
  intro x1
  clear_value x1
  intro x2
  clear_value x2
  intro x3
  clear_value x3
  intro x4
  have h5 : Kept s x4 := by
    unfold x4
    refine Kept.ite (fun z6 => ?_) (fun z6 => ?_)
    · exact Kept.refl _
    · refine Kept.trans ?_ (State.setTr_kept ..)
      refine Kept.trans ?_ (State.openInst_kept ..)
      refine Kept.trans ?_ (State.meterRx_kept ..)
      exact Kept.refl _
  clear_value x4
  intro x7
  have h8 : Kept s x7 := by
    unfold x7
    refine Kept.trans ?_ (State.passDown_kept ..)
    exact h5
  clear_value x7
  intro x9
  have h10 : Kept s x9 := by
    unfold x9
    refine Kept.trans ?_ (State.setInst_kept ..)
    exact h8
  clear_value x9
  refine Kept.trans ?_ (State.instGo_kept ..)
  refine Kept.trans ?_ (State.mcDeliver_kept ..)
  exact h10

theorem State.resultDown_kept (s : State) (t : Nat) (p : Packet) : Kept s (State.resultDown s t p) := by
  unfold State.resultDown
  lift_lets
  intro x0
  clear_value x0
  intro x1
  clear_value x1
  intro x2
  have h3 : Kept s x2 := by
    unfold x2
    refine Kept.trans ?_ (State.passDown_kept ..)
    exact Kept.refl _
  clear_value x2
  intro x4
  have h5 : Kept s x4 := by
    unfold x4
    refine Kept.trans ?_ (State.setInst_kept ..)
    exact h3
  clear_value x4
  split
  · rename_i z6 z7
    refine Kept.trans ?_ (State.count_kept ..)
    exact Kept.refl _
  · rename_i z8 z9 z10
    refine Kept.ite (fun z11 => ?_) (fun z11 => ?_)
    · refine Kept.trans ?_ (State.count_kept ..)
      exact Kept.refl _
    · refine Kept.trans ?_ (State.treeGo_kept ..)
      refine Kept.trans ?_ (State.meterRx_kept ..)
      refine Kept.ite (fun z12 => ?_) (fun z12 => ?_)
      · exact h5
      · refine Kept.trans ?_ (State.placeAll_kept ..)
        exact h5

theorem execMcastArrival_kept (p : Packet) (s : State) : Sound s (execMcastArrival p s) := by
  unfold execMcastArrival
  refine Sound.ite (fun z0 => ?_) (fun z0 => ?_)
  · refine Sound.next ?_
    exact Kept.refl _
  · refine Sound.of ?_ (State.treeArrive_kept _ _ _ ?_)
    · exact Kept.refl _
    · intro y6 y7
      refine Sound.ite (fun z9 => ?_) (fun z9 => ?_)
      · refine Sound.of ?_ (fin_kept ..)
        refine Kept.trans ?_ (State.count_kept ..)
        exact Kept.refl _
      · lift_lets
        intro x14
        clear_value x14
        intro x15
        have h16 : Kept y6 x15 := by
          unfold x15
          refine Kept.trans ?_ (State.treeEvent_kept ..)
          refine Kept.trans ?_ (State.treeTouch_kept ..)
          exact Kept.refl _
        clear_value x15
        refine Sound.ite (fun z20 => ?_) (fun z20 => ?_)
        · refine Sound.of ?_ (fin_kept ..)
          refine Kept.trans ?_ (State.mcastDown_kept ..)
          exact h16
        · refine Sound.of ?_ (fin_kept ..)
          refine Kept.trans ?_ (State.resultDown_kept ..)
          exact h16

theorem execTreeTimeout_kept (t : Fin 16384) (s : State) : Sound s (execTreeTimeout t s) := by
  unfold execTreeTimeout
  refine Sound.ite (fun z0 => ?_) (fun z0 => ?_)
  · refine Sound.of ?_ (fin_kept ..)
    refine Kept.trans ?_ (State.treeBreak_kept ..)
    refine Kept.trans ?_ (State.passTo_kept ..)
    exact Kept.refl _
  · refine Sound.next ?_
    exact Kept.refl _

theorem State.plainEntry_kept (s : State) (q : Nat) (id : Nat) (op : Nat) (pt : Nat) (dst : Octet → Nat) (src : Fetched) : Sound s (State.plainEntry s q id op pt dst src) := by
  unfold State.plainEntry
  refine Sound.of ?_ (State.entryRow_kept _ _ _ _ _ ?_)
  · exact Kept.refl _
  · intro y2 y3
    split
    · rename_i z6 z7 z8
      refine Sound.next ?_
      exact Kept.refl _
    · rename_i z11 z12 z13 z14
      refine Sound.of ?_ (fin_kept ..)
      refine Kept.trans ?_ (State.finishEntry_kept ..)
      refine Kept.eqn z14 ?_
      refine Kept.trans ?_ (State.source_kept ..)
      exact Kept.refl _
    · rename_i z20 z21 z22 z23
      refine Sound.of ?_ (fin_kept ..)
      refine Kept.trans ?_ (State.queuePkts_kept ..)
      refine Kept.eqn z23 ?_
      refine Kept.trans ?_ (State.source_kept ..)
      exact Kept.refl _

theorem execDgram_kept (q : QNum) (id : Nat) (src : Fetched) (s : State) : Sound s (execDgram q id src s) := by
  unfold execDgram
  refine Sound.of ?_ (State.plainEntry_kept ..)
  exact Kept.refl _

theorem execMgmt_kept (q : QNum) (id : Nat) (src : Fetched) (s : State) : Sound s (execMgmt q id src s) := by
  unfold execMgmt
  refine Sound.of ?_ (State.plainEntry_kept ..)
  exact Kept.refl _

theorem State.rteWrite_kept (s : State) (m : Mst) (w : Nat) (v : Word) : Kept s (State.rteWrite s m w v) := by
  unfold State.rteWrite
  lift_lets
  intro x0
  clear_value x0
  intro x1
  clear_value x1
  intro x2
  clear_value x2
  intro x3
  clear_value x3
  intro x4
  clear_value x4
  intro x5
  clear_value x5
  intro x6
  clear_value x6
  intro x7
  clear_value x7
  refine Kept.ite (fun z8 => ?_) (fun z8 => ?_)
  · exact Kept.refl _
  · refine Kept.ite (fun z9 => ?_) (fun z9 => ?_)
    · refine Kept.ite (fun z10 => ?_) (fun z10 => ?_)
      · refine Kept.trans ?_ (State.count_kept ..)
        exact Kept.refl _
      · refine Kept.ite (fun z11 => ?_) (fun z11 => ?_)
        · exact Kept.refl _
        · refine Kept.trans ?_ (State.winWrite_kept ..)
          exact Kept.refl _
    · refine Kept.trans ?_ (State.winWrite_kept ..)
      exact Kept.refl _

theorem execRouteTableWrite_kept (m : Mst) (w : Fin 2) (v : Word) (s : State) : Sound s (execRouteTableWrite m w v s) := by
  unfold execRouteTableWrite
  refine Sound.of ?_ (regWriteRow_kept (h_f := fun u0 y1 => ?_) ..)
  · exact Kept.refl _
  · refine Kept.trans ?_ (State.rteWrite_kept ..)
    exact Kept.refl _

theorem execWinOutput_kept (id : Nat) (s : State) : Sound s (execWinOutput id s) := by
  unfold execWinOutput
  split
  · rename_i z0 z1 z2
    lift_lets
    intro x3
    have h4 : Kept s x3 := by
      unfold x3
      refine Kept.trans ?_ (State.bufferRead_kept ..)
      exact Kept.refl _
    clear_value x3
    refine Sound.ite (fun z5 => ?_) (fun z5 => ?_)
    · refine Sound.next ?_
      exact Kept.refl _
    · split
      · rename_i z6 z7 z8
        refine Sound.of ?_ (fin_kept ..)
        refine Kept.trans ?_ (State.seekOutput_kept ..)
        exact h4
      · rename_i z9 z10
        refine Sound.of ?_ (fin_kept ..)
        exact h4
  · rename_i z11 z12
    refine Sound.next ?_
    exact Kept.refl _

theorem State.gainFerry_kept (s : State) (h : Held) : Kept s (State.gainFerry s h) := by
  unfold State.gainFerry
  lift_lets
  intro x0
  clear_value x0
  intro x1
  clear_value x1
  intro x2
  have h3 : Kept s x2 := by
    unfold x2
    refine Kept.trans ?_ (Kept.record ..)
    exact Kept.refl _
  clear_value x2
  refine Kept.ite (fun z6 => ?_) (fun z6 => ?_)
  · exact h3
  · split
    · rename_i z10 z11 z12
      refine Kept.ite (fun z13 => ?_) (fun z13 => ?_)
      · exact h3
      · refine Kept.trans ?_ (State.dropHeld_kept ..)
        exact h3
    · rename_i z18 z19
      exact h3

theorem execFerryWaitExpiry_kept (id : Nat) (s : State) : Sound s (execFerryWaitExpiry id s) := by
  unfold execFerryWaitExpiry
  split
  · rename_i z1 z2 z3
    refine Sound.ite (fun z4 => ?_) (fun z4 => ?_)
    · refine Sound.next ?_
      exact Kept.refl _
    · refine Sound.of ?_ (fin_kept ..)
      refine Kept.trans ?_ (State.gainFerry_kept ..)
      refine Kept.trans ?_ (State.passTo_kept ..)
      exact Kept.refl _
  · rename_i z12 z13
    refine Sound.next ?_
    exact Kept.refl _

theorem execTideReportSend_kept (n : PortNum) (s : State) : Sound s (execTideReportSend n s) := by
  unfold execTideReportSend
  refine Sound.ite (fun z0 => ?_) (fun z0 => ?_)
  · refine Sound.of ?_ (fin_kept ..)
    refine Kept.trans ?_ (State.ctlPeriods_kept ..)
    refine Kept.trans ?_ (State.passTo_kept ..)
    exact Kept.refl _
  · refine Sound.next ?_
    exact Kept.refl _

theorem State.windowStart_kept (s : State) (n : Nat) : Kept s (State.windowStart s n) := by
  unfold State.windowStart
  refine Kept.trans ?_ (State.setPort_kept ..)
  exact Kept.refl _

theorem State.loopWindow_kept (s : State) (n : Nat) : Kept s (State.loopWindow s n) := by
  unfold State.loopWindow
  lift_lets
  intro x0
  clear_value x0
  intro x1
  clear_value x1
  intro x2
  clear_value x2
  intro x3
  have h4 : Kept s x3 := by
    unfold x3
    refine Kept.trans ?_ (State.setPort_kept ..)
    exact Kept.refl _
  clear_value x3
  intro x7
  have h8 : Kept s x7 := by
    unfold x7
    refine Kept.trans ?_ (State.wr_kept ..)
    refine Kept.trans ?_ (State.wr_kept ..)
    refine Kept.trans ?_ (State.wr_kept ..)
    exact h4
  clear_value x7
  intro x13
  clear_value x13
  intro x14
  clear_value x14
  intro x15
  have h16 : Kept s x15 := by
    unfold x15
    refine Kept.ite (fun z17 => ?_) (fun z17 => ?_)
    · refine Kept.trans ?_ (State.wr_kept ..)
      exact h8
    · refine Kept.ite (fun z21 => ?_) (fun z21 => ?_)
      · refine Kept.trans ?_ (State.wr_kept ..)
        exact h8
      · exact h8
  clear_value x15
  refine Kept.ite (fun z26 => ?_) (fun z26 => ?_)
  · exact h8
  · refine Kept.ite (fun z29 => ?_) (fun z29 => ?_)
    · refine Kept.trans ?_ (State.wr_kept ..)
      exact h16
    · refine Kept.ite (fun z33 => ?_) (fun z33 => ?_)
      · refine Kept.trans ?_ (State.wr_kept ..)
        exact h16
      · exact h16

theorem execRteLoopWindow_kept (n : PortNum) (s : State) : Sound s (execRteLoopWindow n s) := by
  unfold execRteLoopWindow
  refine Sound.ite (fun z0 => ?_) (fun z0 => ?_)
  · refine Sound.of ?_ (fin_kept ..)
    refine Kept.trans ?_ (State.loopWindow_kept ..)
    refine Kept.trans ?_ (State.passTo_kept ..)
    exact Kept.refl _
  · refine Sound.next ?_
    exact Kept.refl _

theorem State.rteLoopPut_kept (s : State) (m : Mst) (n : Nat) (v : Word) : Kept s (State.rteLoopPut s m n v) := by
  unfold State.rteLoopPut
  lift_lets
  intro x0
  have h1 : Kept s x0 := by
    unfold x0
    refine Kept.ite (fun z2 => ?_) (fun z2 => ?_)
    · refine Kept.trans ?_ (State.windowStart_kept ..)
      exact Kept.refl _
    · exact Kept.refl _
  clear_value x0
  refine Kept.trans ?_ (State.cfgWrite_kept ..)
  exact h1

theorem execRteLoopWrite_kept (m : Mst) (n : PortNum) (v : Word) (s : State) : Sound s (execRteLoopWrite m n v s) := by
  unfold execRteLoopWrite
  refine Sound.of ?_ (regWriteRow_kept (h_f := fun u0 y1 => ?_) ..)
  · exact Kept.refl _
  · refine Kept.trans ?_ (State.rteLoopPut_kept ..)
    exact Kept.refl _

theorem State.releaseFlagged_kept (s : State) (h : Held) : Kept s (State.releaseFlagged s h) := by
  unfold State.releaseFlagged
  lift_lets
  intro x0
  clear_value x0
  intro x1
  have h2 : Kept s x1 := by
    unfold x1
    refine Kept.trans ?_ (Kept.record ..)
    exact Kept.refl _
  clear_value x1
  intro x3
  clear_value x3
  intro x4
  clear_value x4
  intro x5
  have h6 : Kept s x5 := by
    unfold x5
    refine Kept.trans ?_ (Kept.record ..)
    exact h2
  clear_value x5
  refine Kept.trans ?_ (State.inject_kept ..)
  exact h6

theorem execFlaggedRelease_kept (id : Nat) (s : State) : Sound s (execFlaggedRelease id s) := by
  unfold execFlaggedRelease
  split
  · rename_i z1 z2 z3
    refine Sound.ite (fun z4 => ?_) (fun z4 => ?_)
    · refine Sound.next ?_
      exact Kept.refl _
    · refine Sound.of ?_ (fin_kept ..)
      refine Kept.trans ?_ (State.releaseFlagged_kept ..)
      exact Kept.refl _
  · rename_i z11 z12
    refine Sound.next ?_
    exact Kept.refl _

theorem State.dgramIn_kept (s : State) (p : Packet) (mark : Bool) : Kept s (State.dgramIn s p mark) := by
  unfold State.dgramIn
  lift_lets
  intro x0
  have h1 : Kept s x0 := by
    unfold x0
    refine Kept.trans ?_ (State.policerCharge_kept ..)
    exact Kept.refl _
  clear_value x0
  intro x2
  have h3 : Kept s x2 := by
    unfold x2
    refine Kept.trans ?_ (State.postSteered_kept ..)
    exact h1
  clear_value x2
  refine Kept.ite (fun z4 => ?_) (fun z4 => ?_)
  · refine Kept.trans ?_ (State.meterRx_kept ..)
    exact h3
  · split
    · rename_i z5 z6 z7
      refine Kept.trans ?_ (State.meterRx_kept ..)
      refine Kept.eqn z7 ?_
      refine Kept.trans ?_ (State.deliverOne_kept ..)
      exact h3
    · rename_i z8 z9 z10
      refine Kept.trans ?_ (State.count_kept ..)
      refine Kept.eqn z10 ?_
      refine Kept.trans ?_ (State.deliverOne_kept ..)
      exact h3

theorem execDgramArrival_kept (p : Packet) (s : State) : Sound s (execDgramArrival p s) := by
  unfold execDgramArrival
  refine Sound.ite (fun z0 => ?_) (fun z0 => ?_)
  · refine Sound.next ?_
    exact Kept.refl _
  · lift_lets
    intro x4
    have h5 : Kept s x4 := by
      unfold x4
      refine Kept.trans ?_ (State.unarrive_kept ..)
      exact Kept.refl _
    clear_value x4
    intro x8
    clear_value x8
    refine Sound.ite (fun z9 => ?_) (fun z9 => ?_)
    · refine Sound.of ?_ (fin_kept ..)
      exact h5
    · refine Sound.ite (fun z13 => ?_) (fun z13 => ?_)
      · refine Sound.ite (fun z15 => ?_) (fun z15 => ?_)
        · refine Sound.of ?_ (fin_kept ..)
          refine Kept.trans ?_ (State.dgramIn_kept ..)
          refine Kept.trans ?_ (State.count_kept ..)
          exact h5
        · refine Sound.of ?_ (fin_kept ..)
          refine Kept.trans ?_ (State.count_kept ..)
          exact h5
      · refine Sound.of ?_ (fin_kept ..)
        refine Kept.trans ?_ (State.dgramIn_kept ..)
        exact h5

theorem execMgmtArrival_kept (p : Packet) (inPort : Option PortNum) (s : State) : Sound s (execMgmtArrival p inPort s) := by
  unfold execMgmtArrival
  lift_lets
  intro x0
  clear_value x0
  intro x1
  have h2 : Kept s x1 := by
    unfold x1
    refine Kept.trans ?_ (State.policerCharge_kept ..)
    refine Kept.trans ?_ (State.unarrive_kept ..)
    exact Kept.refl _
  clear_value x1
  intro x3
  have h4 : Kept s x3 := by
    unfold x3
    refine Kept.trans ?_ (State.postSteered_kept ..)
    refine Kept.trans ?_ (State.meterRx_kept ..)
    exact h2
  clear_value x3
  intro x5
  clear_value x5
  refine Sound.ite (fun z6 => ?_) (fun z6 => ?_)
  · refine Sound.next ?_
    exact Kept.refl _
  · refine Sound.ite (fun z7 => ?_) (fun z7 => ?_)
    · refine Sound.of ?_ (fin_kept ..)
      exact h2
    · split
      · rename_i z8 z9
        refine Sound.of ?_ (fin_kept ..)
        refine Kept.trans ?_ (State.count_kept ..)
        exact h2
      · rename_i z10 z11 z12
        lift_lets
        intro x13
        clear_value x13
        refine Sound.of ?_ (fin_kept ..)
        refine Kept.trans ?_ (Kept.record ..)
        exact h4

theorem State.unasked_kept (s : State) (a : MgmtAsk) : Kept s (State.unasked s a) := by
  unfold State.unasked
  lift_lets
  intro x0
  clear_value x0
  refine Kept.trans ?_ (Kept.record ..)
  exact Kept.refl _

theorem State.mgmtRow_kept (s : State) (r : MgmtReq) (spells : List Byte → Bool) (n : Nat) (f : State → State) (h_f : ∀ u, Kept u (f u)) : Sound s (State.mgmtRow s r spells n f) := by
  unfold State.mgmtRow
  split
  · rename_i z0 z1
    refine Sound.next ?_
    exact Kept.refl _
  · rename_i z2 z3 z4
    lift_lets
    intro x5
    have h6 : Kept s x5 := by
      unfold x5
      refine Kept.trans ?_ (State.unasked_kept ..)
      exact Kept.refl _
    clear_value x5
    refine Sound.ite (fun z7 => ?_) (fun z7 => ?_)
    · refine Sound.next ?_
      exact Kept.refl _
    · refine Sound.ite (fun z8 => ?_) (fun z8 => ?_)
      · refine Sound.of ?_ (fin_kept ..)
        refine Kept.trans ?_ (h_f ..)
        exact h6
      · refine Sound.next ?_
        exact h6

theorem State.drainStart_kept (s : State) : Kept s (State.drainStart s) := by
  unfold State.drainStart
  refine Kept.ite (fun z0 => ?_) (fun z0 => ?_)
  · lift_lets
    intro x2
    have h3 : Kept s x2 := by
      unfold x2
      refine Kept.trans ?_ (State.wr_kept ..)
      refine Kept.trans ?_ (State.wr_kept ..)
      exact Kept.refl _
    clear_value x2
    intro x7
    clear_value x7
    refine Kept.trans ?_ (Kept.record ..)
    exact h3
  · exact Kept.refl _

theorem State.drainSwitch_kept (s : State) : Kept s (State.drainSwitch s) := by
  unfold State.drainSwitch
  refine Kept.ite (fun z0 => ?_) (fun z0 => ?_)
  · refine Kept.trans ?_ (State.wr_kept ..)
    refine Kept.trans ?_ (State.wr_kept ..)
    exact Kept.refl _
  · exact Kept.refl _

theorem State.timersGo_kept (s : State) : Kept s (State.timersGo s) := by
  unfold State.timersGo
  lift_lets
  intro x0
  clear_value x0
  intro x1
  clear_value x1
  refine Kept.trans ?_ (Kept.record ..)
  exact Kept.refl _

theorem State.drainResume_kept (s : State) : Kept s (State.drainResume s) := by
  unfold State.drainResume
  lift_lets
  intro x0
  have h1 : Kept s x0 := by
    unfold x0
    refine Kept.trans ?_ (State.wr_kept ..)
    refine Kept.trans ?_ (State.timersGo_kept ..)
    exact Kept.refl _
  clear_value x0
  intro x2
  have h3 : Kept s x2 := by
    unfold x2
    refine Kept.trans ?_ (Kept.foldl (fun t4 x5 => ?_) _ _)
    · exact h1
    · refine Kept.trans ?_ (State.releaseFlagged_kept ..)
      exact Kept.refl _
  clear_value x2
  refine Kept.ite (fun z6 => ?_) (fun z6 => ?_)
  · refine Kept.trans ?_ (Kept.foldl (fun t7 x8 => ?_) _ _)
    · exact h3
    · refine Kept.trans ?_ (State.txWaiting_kept ..)
      exact Kept.refl _
  · exact Kept.refl _

theorem State.drainStep_kept (s : State) (o : Origin) (mcmd bit : Nat) (f : State → State) (h_f : ∀ u, Kept u (f u)) : Sound s (State.drainStep s o mcmd bit f) := by
  unfold State.drainStep
  split
  · rename_i z0 z1
    refine Sound.of ?_ (State.mgmtRow_kept (h_f := fun u2 => ?_) ..)
    · exact Kept.refl _
    · refine Kept.trans ?_ (State.mgmtAnswer_kept ..)
      exact h_f ..
  · rename_i z3 z4
    refine Sound.of ?_ (regWriteRow_kept (h_f := fun u5 y6 => ?_) ..)
    · exact Kept.refl _
    · exact h_f ..

theorem execDrain_kept (o : Origin) (s : State) : Sound s (execDrain o s) := by
  unfold execDrain
  refine Sound.of ?_ (State.drainStep_kept (h_f := fun u0 => ?_) ..)
  · exact Kept.refl _
  · refine Kept.trans ?_ (State.drainStart_kept ..)
    exact Kept.refl _

theorem execSwitch_kept (o : Origin) (s : State) : Sound s (execSwitch o s) := by
  unfold execSwitch
  refine Sound.of ?_ (State.drainStep_kept (h_f := fun u0 => ?_) ..)
  · exact Kept.refl _
  · refine Kept.trans ?_ (State.drainSwitch_kept ..)
    exact Kept.refl _

theorem execResume_kept (o : Origin) (s : State) : Sound s (execResume o s) := by
  unfold execResume
  refine Sound.of ?_ (State.drainStep_kept (h_f := fun u0 => ?_) ..)
  · exact Kept.refl _
  · refine Kept.trans ?_ (State.drainResume_kept ..)
    exact Kept.refl _

theorem State.drainWrite_kept (s : State) (v : Word) : Kept s (State.drainWrite s v) := by
  unfold State.drainWrite
  lift_lets
  intro x0
  have h1 : Kept s x0 := by
    unfold x0
    refine Kept.ite (fun z2 => ?_) (fun z2 => ?_)
    · refine Kept.trans ?_ (State.drainStart_kept ..)
      exact Kept.refl _
    · exact Kept.refl _
  clear_value x0
  intro x7
  have h8 : Kept s x7 := by
    unfold x7
    refine Kept.ite (fun z9 => ?_) (fun z9 => ?_)
    · refine Kept.trans ?_ (State.drainSwitch_kept ..)
      exact h1
    · exact h1
  clear_value x7
  refine Kept.ite (fun z14 => ?_) (fun z14 => ?_)
  · refine Kept.trans ?_ (State.drainResume_kept ..)
    exact h8
  · exact h8

theorem execStatus_kept (r : MgmtReq) (s : State) : Sound s (execStatus r s) := by
  unfold execStatus
  refine Sound.of ?_ (State.mgmtRow_kept (h_f := fun u0 => ?_) ..)
  · exact Kept.refl _
  · refine Kept.trans ?_ (State.mgmtAnswer_kept ..)
    exact Kept.refl _

theorem State.fwctlPlace_kept (s : State) (r : MgmtReq) (e : Octet) (data : List Byte) : Kept s (State.fwctlPlace s r e data) := by
  unfold State.fwctlPlace
  lift_lets
  intro x0
  clear_value x0
  intro x1
  have h2 : Kept s x1 := by
    unfold x1
    refine Kept.ite (fun z3 => ?_) (fun z3 => ?_)
    · exact Kept.refl _
    · refine Kept.trans ?_ (State.devWrite_kept ..)
      exact Kept.refl _
  clear_value x1
  intro x8
  have h9 : Kept s x8 := by
    unfold x8
    refine Kept.trans ?_ (State.devWrite_kept ..)
    exact h2
  clear_value x8
  intro x12
  clear_value x12
  intro x13
  have h14 : Kept s x13 := by
    unfold x13
    refine Kept.trans ?_ (Kept.record ..)
    exact h9
  clear_value x13
  refine Kept.trans ?_ (State.bell_kept ..)
  exact h14

theorem execFwctl_kept (r : MgmtReq) (e : Octet) (data : List Byte) (s : State) : Sound s (execFwctl r e data s) := by
  unfold execFwctl
  refine Sound.of ?_ (State.mgmtRow_kept (h_f := fun u0 => ?_) ..)
  · exact Kept.refl _
  · split
    · rename_i z1 z2 z3
      refine Kept.trans ?_ (State.mgmtAnswer_kept ..)
      exact Kept.refl _
    · rename_i z4 z5
      refine Kept.ite (fun z6 => ?_) (fun z6 => ?_)
      · refine Kept.trans ?_ (State.mgmtAnswer_kept ..)
        exact Kept.refl _
      · refine Kept.trans ?_ (State.fwctlPlace_kept ..)
        exact Kept.refl _

theorem execReceiveDataFrame_kept (n : PortNum) (bytes : List Byte) (seen : FrameSeen) (s : State) : Sound s (execReceiveDataFrame n bytes seen s) := by
  unfold execReceiveDataFrame
  split
  · rename_i z0 z1 z2
    refine Sound.ite (fun z3 => ?_) (fun z3 => ?_)
    · refine Sound.of ?_ (fin_kept ..)
      refine Kept.trans ?_ (State.receiveFrame_kept ..)
      exact Kept.refl _
    · refine Sound.next ?_
      exact Kept.refl _
  · rename_i z4 z5
    refine Sound.next ?_
    exact Kept.refl _

theorem State.frameOut_kept (s : State) (n : Nat) (i : TxItem) (rest : List TxItem) : Kept s (State.frameOut s n i rest) := by
  unfold State.frameOut
  lift_lets
  intro x0
  clear_value x0
  intro x1
  clear_value x1
  intro x2
  have h3 : Kept s x2 := by
    unfold x2
    refine Kept.ite (fun z4 => ?_) (fun z4 => ?_)
    · refine Kept.trans ?_ (State.raise_kept ..)
      exact Kept.refl _
    · exact Kept.refl _
  clear_value x2
  intro x5
  have h6 : Kept s x5 := by
    unfold x5
    refine Kept.trans ?_ (State.sendFrame_kept ..)
    refine Kept.trans ?_ (State.setPort_kept ..)
    exact h3
  clear_value x5
  intro x7
  have h8 : Kept s x7 := by
    unfold x7
    refine Kept.trans ?_ (State.wr_kept ..)
    exact h6
  clear_value x7
  intro x9
  have h10 : Kept s x9 := by
    unfold x9
    refine Kept.trans ?_ (State.setPort_kept ..)
    exact h8
  clear_value x9
  refine Kept.trans ?_ (State.ownerDone_kept ..)
  refine Kept.trans ?_ (State.tally_kept ..)
  refine Kept.trans ?_ (State.rbSync_kept ..)
  exact h10

theorem execSendDataFrame_kept (n : PortNum) (s : State) : Sound s (execSendDataFrame n s) := by
  unfold execSendDataFrame
  split
  · rename_i z1 z2
    refine Sound.next ?_
    exact Kept.refl _
  · rename_i z5 z6 z7 z8
    refine Sound.ite (fun z9 => ?_) (fun z9 => ?_)
    · refine Sound.of ?_ (fin_kept ..)
      refine Kept.trans ?_ (State.frameOut_kept ..)
      exact Kept.refl _
    · refine Sound.next ?_
      exact Kept.refl _

theorem execReplayTimerExpiry_kept (n : PortNum) (s : State) : Sound s (execReplayTimerExpiry n s) := by
  unfold execReplayTimerExpiry
  lift_lets
  intro x0
  clear_value x0
  refine Sound.ite (fun z1 => ?_) (fun z1 => ?_)
  · refine Sound.next ?_
    exact Kept.refl _
  · refine Sound.of ?_ (fin_kept ..)
    refine Kept.trans ?_ (State.replayDue_kept ..)
    refine Kept.ite (fun z2 => ?_) (fun z2 => ?_)
    · exact Kept.refl _
    · refine Kept.trans ?_ (State.passTo_kept ..)
      exact Kept.refl _

theorem execCreditFramePeriod_kept (n : PortNum) (s : State) : Sound s (execCreditFramePeriod n s) := by
  unfold execCreditFramePeriod
  lift_lets
  intro x0
  clear_value x0
  refine Sound.ite (fun z1 => ?_) (fun z1 => ?_)
  · refine Sound.next ?_
    exact Kept.refl _
  · refine Sound.ite (fun z2 => ?_) (fun z2 => ?_)
    · refine Sound.of ?_ (fin_kept ..)
      refine Kept.trans ?_ (State.ctlPeriods_kept ..)
      refine Kept.trans ?_ (State.ctlDue_kept ..)
      exact Kept.refl _
    · refine Sound.of ?_ (fin_kept ..)
      refine Kept.trans ?_ (State.ctlPeriods_kept ..)
      refine Kept.trans ?_ (State.passTo_kept ..)
      exact Kept.refl _

theorem State.controlRow_kept (s : State) (n : Nat) (ok : Nat → Bool) (f : Octet) : Sound s (State.controlRow s n ok f) := by
  unfold State.controlRow
  refine Sound.ite (fun z0 => ?_) (fun z0 => ?_)
  · refine Sound.next ?_
    exact Kept.refl _
  · refine Sound.of ?_ (fin_kept ..)
    refine Kept.trans ?_ (State.receiveControl_kept ..)
    exact Kept.refl _

theorem execCreditFrame_kept (n : PortNum) (f : Octet) (s : State) : Sound s (execCreditFrame n f s) := by
  unfold execCreditFrame
  refine Sound.of ?_ (State.controlRow_kept ..)
  exact Kept.refl _

theorem execTideFrame_kept (n : PortNum) (f : Octet) (s : State) : Sound s (execTideFrame n f s) := by
  unfold execTideFrame
  refine Sound.of ?_ (State.controlRow_kept ..)
  exact Kept.refl _

theorem execTimeFrame_kept (n : PortNum) (f : Octet) (s : State) : Sound s (execTimeFrame n f s) := by
  unfold execTimeFrame
  refine Sound.of ?_ (State.controlRow_kept ..)
  exact Kept.refl _

theorem execLaneFrame_kept (n : PortNum) (f : Octet) (s : State) : Sound s (execLaneFrame n f s) := by
  unfold execLaneFrame
  refine Sound.of ?_ (State.controlRow_kept ..)
  exact Kept.refl _

theorem execTimeFramePeriod_kept (n : PortNum) (s : State) : Sound s (execTimeFramePeriod n s) := by
  unfold execTimeFramePeriod
  refine Sound.ite (fun z0 => ?_) (fun z0 => ?_)
  · refine Sound.of ?_ (fin_kept ..)
    refine Kept.trans ?_ (State.ctlPeriods_kept ..)
    refine Kept.trans ?_ (State.passTo_kept ..)
    exact Kept.refl _
  · refine Sound.next ?_
    exact Kept.refl _

theorem State.parentLost_kept (s : State) (n : Nat) : Kept s (State.parentLost s n) := by
  unfold State.parentLost
  split
  · rename_i z1 z2 z3
    refine Kept.trans ?_ (State.elect_kept ..)
    exact Kept.refl _
  · rename_i z6 z7
    refine Kept.trans ?_ (State.raise_kept ..)
    refine Kept.trans ?_ (State.ownTime_kept ..)
    exact Kept.refl _

theorem execGmAnnounceLapse_kept (s : State) : Sound s (execGmAnnounceLapse s) := by
  unfold execGmAnnounceLapse
  lift_lets
  intro x0
  clear_value x0
  refine Sound.ite (fun z1 => ?_) (fun z1 => ?_)
  · refine Sound.next ?_
    exact Kept.refl _
  · split
    · rename_i z6 z7 z8
      refine Sound.of ?_ (fin_kept ..)
      refine Kept.trans ?_ (State.parentLost_kept ..)
      refine Kept.trans ?_ (State.passTim_kept ..)
      exact Kept.refl _
    · rename_i z13 z14
      refine Sound.of ?_ (fin_kept ..)
      refine Kept.trans ?_ (State.parentLost_kept ..)
      exact Kept.refl _

theorem State.retrainOk_kept (s : State) (n : Nat) : Kept s (State.retrainOk s n) := by
  unfold State.retrainOk
  lift_lets
  intro x0
  have h1 : Kept s x0 := by
    unfold x0
    refine Kept.trans ?_ (State.setPort_kept ..)
    exact Kept.refl _
  clear_value x0
  refine Kept.trans ?_ (State.needAgain_kept ..)
  refine Kept.trans ?_ (State.replayNow_kept ..)
  refine Kept.trans ?_ (State.setLstate_kept ..)
  refine Kept.trans ?_ (State.setPstate_kept ..)
  exact h1

theorem execFastRetrainEnd_kept (n : PortNum) (ok : Bool) (s : State) : Sound s (execFastRetrainEnd n ok s) := by
  unfold execFastRetrainEnd
  split
  · rename_i z0 z1 z2
    refine Sound.ite (fun z3 => ?_) (fun z3 => ?_)
    · refine Sound.next ?_
      exact Kept.refl _
    · refine Sound.ite (fun z4 => ?_) (fun z4 => ?_)
      · refine Sound.of ?_ (fin_kept ..)
        refine Kept.trans ?_ (State.retrainOk_kept ..)
        exact Kept.refl _
      · refine Sound.ite (fun z5 => ?_) (fun z5 => ?_)
        · refine Sound.next ?_
          exact Kept.refl _
        · refine Sound.of ?_ (fin_kept ..)
          refine Kept.trans ?_ (State.linkDown_kept ..)
          refine Kept.trans ?_ (State.passTo_kept ..)
          exact Kept.refl _
  · rename_i z6 z7
    refine Sound.next ?_
    exact Kept.refl _

theorem execRetrainAcceptTimeout_kept (n : PortNum) (s : State) : Sound s (execRetrainAcceptTimeout n s) := by
  unfold execRetrainAcceptTimeout
  split
  · rename_i z1 z2 z3
    refine Sound.ite (fun z4 => ?_) (fun z4 => ?_)
    · refine Sound.next ?_
      exact Kept.refl _
    · lift_lets
      intro x8
      have h9 : Kept s x8 := by
        unfold x8
        refine Kept.trans ?_ (State.passTo_kept ..)
        exact Kept.refl _
      clear_value x8
      refine Sound.of ?_ (fin_kept ..)
      refine Kept.trans ?_ (State.setPort_kept ..)
      exact h9
  · rename_i z15 z16
    refine Sound.next ?_
    exact Kept.refl _

theorem State.patternEnd_kept (s : State) (n t : Nat) : Kept s (State.patternEnd s n t) := by
  unfold State.patternEnd
  refine Kept.trans ?_ (State.bringUp_kept ..)
  refine Kept.trans ?_ (State.patternOut_kept ..)
  exact Kept.refl _

theorem execLinkDownPatternEnd_kept (n : PortNum) (s : State) : Sound s (execLinkDownPatternEnd n s) := by
  unfold execLinkDownPatternEnd
  split
  · rename_i z0 z1 z2
    refine Sound.ite (fun z3 => ?_) (fun z3 => ?_)
    · refine Sound.next ?_
      exact Kept.refl _
    · refine Sound.of ?_ (fin_kept ..)
      refine Kept.trans ?_ (State.patternEnd_kept ..)
      refine Kept.trans ?_ (State.passTo_kept ..)
      exact Kept.refl _
  · rename_i z4 z5
    refine Sound.next ?_
    exact Kept.refl _

theorem State.comeUp_kept (s : State) (n : Nat) : Kept s (State.comeUp s n) := by
  unfold State.comeUp
  lift_lets
  intro x0
  have h1 : Kept s x0 := by
    unfold x0
    refine Kept.trans ?_ (State.wr_kept ..)
    refine Kept.trans ?_ (State.wr_kept ..)
    refine Kept.trans ?_ (State.wr_kept ..)
    exact Kept.refl _
  clear_value x0
  intro x6
  have h7 : Kept s x6 := by
    unfold x6
    refine Kept.trans ?_ (Kept.foldl (fun t8 x9 => ?_) _ _)
    · exact h1
    · refine Kept.trans ?_ (State.wr_kept ..)
      exact Kept.refl _
  clear_value x6
  intro x14
  have h15 : Kept s x14 := by
    unfold x14
    refine Kept.trans ?_ (State.setPort_kept ..)
    exact h7
  clear_value x14
  refine Kept.trans ?_ (State.condClear_kept ..)
  refine Kept.trans ?_ (State.setLstate_kept ..)
  refine Kept.trans ?_ (State.wr_kept ..)
  exact h15

theorem execLinkUp_kept (n : PortNum) (s : State) : Sound s (execLinkUp n s) := by
  unfold execLinkUp
  refine Sound.ite (fun z0 => ?_) (fun z0 => ?_)
  · refine Sound.of ?_ (fin_kept ..)
    refine Kept.trans ?_ (State.comeUp_kept ..)
    exact Kept.refl _
  · refine Sound.next ?_
    exact Kept.refl _

theorem State.lockLost_kept (s : State) (n l : Nat) : Kept s (State.lockLost s n l) := by
  unfold State.lockLost
  lift_lets
  intro x0
  have h1 : Kept s x0 := by
    unfold x0
    refine Kept.ite (fun z2 => ?_) (fun z2 => ?_)
    · refine Kept.trans ?_ (State.setPort_kept ..)
      refine Kept.trans ?_ (State.count_kept ..)
      exact Kept.refl _
    · exact Kept.refl _
  clear_value x0
  refine Kept.trans ?_ (State.wr_kept ..)
  refine Kept.trans ?_ (State.wr_kept ..)
  exact h1

theorem State.lockGained_kept (s : State) (n l : Nat) (p : BitVec 128) : Kept s (State.lockGained s n l p) := by
  unfold State.lockGained
  lift_lets
  intro x0
  clear_value x0
  intro x1
  clear_value x1
  intro x2
  have h3 : Kept s x2 := by
    unfold x2
    refine Kept.trans ?_ (State.wr_kept ..)
    refine Kept.trans ?_ (State.wr_kept ..)
    refine Kept.trans ?_ (State.wr_kept ..)
    exact Kept.refl _
  clear_value x2
  refine Kept.trans ?_ (State.identitySync_kept ..)
  refine Kept.trans ?_ (State.setPort_kept ..)
  exact h3

theorem execAlignmentLockGain_kept (on : PhysLane) (seen : Vector (BitVec 128) 2) (s : State) : Sound s (execAlignmentLockGain on seen s) := by
  unfold execAlignmentLockGain
  refine Sound.ite (fun z0 => ?_) (fun z0 => ?_)
  · refine Sound.next ?_
    exact Kept.refl _
  · refine Sound.ite (fun z1 => ?_) (fun z1 => ?_)
    · refine Sound.of ?_ (fin_kept ..)
      refine Kept.trans ?_ (State.lockGained_kept ..)
      exact Kept.refl _
    · refine Sound.next ?_
      exact Kept.refl _

theorem execAlignmentLockLoss_kept (on : PhysLane) (seen : Vector (BitVec 128) 4) (s : State) : Sound s (execAlignmentLockLoss on seen s) := by
  unfold execAlignmentLockLoss
  refine Sound.ite (fun z0 => ?_) (fun z0 => ?_)
  · refine Sound.of ?_ (fin_kept ..)
    refine Kept.trans ?_ (State.lockLost_kept ..)
    exact Kept.refl _
  · refine Sound.next ?_
    exact Kept.refl _

theorem execBlockLockGain_kept (on : PhysLane) (headers : Vector (BitVec 2) 64) (s : State) : Sound s (execBlockLockGain on headers s) := by
  unfold execBlockLockGain
  lift_lets
  intro x0
  clear_value x0
  intro x1
  clear_value x1
  intro x2
  clear_value x2
  intro x3
  have h4 : Kept s x3 := by
    unfold x3
    refine Kept.trans ?_ (State.wr_kept ..)
    exact Kept.refl _
  clear_value x3
  refine Sound.ite (fun z5 => ?_) (fun z5 => ?_)
  · refine Sound.next ?_
    exact Kept.refl _
  · refine Sound.ite (fun z6 => ?_) (fun z6 => ?_)
    · refine Sound.of ?_ (fin_kept ..)
      refine Kept.ite (fun z7 => ?_) (fun z7 => ?_)
      · refine Kept.trans ?_ (State.wr_kept ..)
        exact h4
      · exact h4
    · refine Sound.next ?_
      exact Kept.refl _

theorem execBlockLockLoss_kept (on : PhysLane) (headers : Vector (BitVec 2) 64) (s : State) : Sound s (execBlockLockLoss on headers s) := by
  unfold execBlockLockLoss
  refine Sound.ite (fun z0 => ?_) (fun z0 => ?_)
  · refine Sound.next ?_
    exact Kept.refl _
  · refine Sound.ite (fun z1 => ?_) (fun z1 => ?_)
    · refine Sound.of ?_ (fin_kept ..)
      refine Kept.trans ?_ (State.lockLost_kept ..)
      exact Kept.refl _
    · refine Sound.next ?_
      exact Kept.refl _

theorem State.laneWindow_kept (s : State) (n l : Nat) (o : LaneObs) : Kept s (State.laneWindow s n l o) := by
  unfold State.laneWindow
  lift_lets
  intro x0
  clear_value x0
  intro x1
  clear_value x1
  intro x2
  have h3 : Kept s x2 := by
    unfold x2
    refine Kept.trans ?_ (State.count_kept ..)
    refine Kept.trans ?_ (State.count_kept ..)
    exact Kept.refl _
  clear_value x2
  intro x4
  have h5 : Kept s x4 := by
    unfold x4
    refine Kept.trans ?_ (State.set_kept ..)
    exact h3
  clear_value x4
  refine Kept.trans ?_ (State.wr_kept ..)
  refine Kept.trans ?_ (State.wr_kept ..)
  exact h5

theorem State.laneWindows_kept (s : State) (n : Nat) (obs : List LaneObs) : Kept s (State.laneWindows s n obs) := by
  unfold State.laneWindows
  lift_lets
  intro x0
  have h1 : Kept s x0 := by
    unfold x0
    refine Kept.trans ?_ (Kept.foldl (fun t2 x3 => ?_) _ _)
    · exact Kept.refl _
    · split
      · rename_i z4 z5 z6
        refine Kept.trans ?_ (State.laneWindow_kept ..)
        exact Kept.refl _
      · rename_i z7 z8
        exact Kept.refl _
  clear_value x0
  intro x9
  have h10 : Kept s x9 := by
    unfold x9
    refine Kept.trans ?_ (State.setPort_kept ..)
    exact h1
  clear_value x9
  intro x11
  clear_value x11
  intro x12
  have h13 : Kept s x12 := by
    unfold x12
    refine Kept.ite (fun z14 => ?_) (fun z14 => ?_)
    · refine Kept.trans ?_ (State.condRise_kept ..)
      exact h10
    · refine Kept.trans ?_ (State.condClear_kept ..)
      exact h10
  clear_value x12
  refine Kept.trans ?_ (State.widthCheck_kept ..)
  exact h13

theorem execLaneClassWindow_kept (n : PortNum) (obs : List LaneObs) (s : State) : Sound s (execLaneClassWindow n obs s) := by
  unfold execLaneClassWindow
  refine Sound.ite (fun z0 => ?_) (fun z0 => ?_)
  · refine Sound.next ?_
    exact Kept.refl _
  · refine Sound.of ?_ (fin_kept ..)
    refine Kept.trans ?_ (State.laneWindows_kept ..)
    exact Kept.refl _

theorem execTrainPhaseEnd_kept (n : PortNum) (s : State) : Sound s (execTrainPhaseEnd n s) := by
  unfold execTrainPhaseEnd
  lift_lets
  intro x0
  have h1 : Kept s x0 := by
    unfold x0
    refine Kept.trans ?_ (State.passTo_kept ..)
    exact Kept.refl _
  clear_value x0
  intro x2
  have h3 : Kept s x2 := by
    unfold x2
    refine Kept.trans ?_ (State.patternOut_kept ..)
    exact h1
  clear_value x2
  intro x4
  have h5 : Kept s x4 := by
    unfold x4
    refine Kept.trans ?_ (State.wr_kept ..)
    refine Kept.trans ?_ (State.wr_kept ..)
    exact h3
  clear_value x4
  refine Sound.ite (fun z6 => ?_) (fun z6 => ?_)
  · refine Sound.next ?_
    exact Kept.refl _
  · refine Sound.ite (fun z7 => ?_) (fun z7 => ?_)
    · refine Sound.of ?_ (fin_kept ..)
      refine Kept.trans ?_ (State.setPstate_kept ..)
      exact h5
    · refine Sound.next ?_
      exact Kept.refl _

theorem execPortAligned_kept (n : PortNum) (s : State) : Sound s (execPortAligned n s) := by
  unfold execPortAligned
  refine Sound.ite (fun z0 => ?_) (fun z0 => ?_)
  · refine Sound.of ?_ (fin_kept ..)
    refine Kept.trans ?_ (State.aligned_kept ..)
    exact Kept.refl _
  · refine Sound.next ?_
    exact Kept.refl _

theorem State.recordIn_kept (s : State) (n : Nat) (l : Nat) (r : Octet) : Kept s (State.recordIn s n l r) := by
  unfold State.recordIn
  lift_lets
  intro x0
  clear_value x0
  intro x1
  clear_value x1
  intro x2
  clear_value x2
  intro x3
  clear_value x3
  intro x4
  have h5 : Kept s x4 := by
    unfold x4
    refine Kept.trans ?_ (State.wr_kept ..)
    exact Kept.refl _
  clear_value x4
  intro x8
  have h9 : Kept s x8 := by
    unfold x8
    refine Kept.trans ?_ (State.setPort_kept ..)
    exact h5
  clear_value x8
  intro x12
  have h13 : Kept s x12 := by
    unfold x12
    refine Kept.ite (fun z14 => ?_) (fun z14 => ?_)
    · refine Kept.trans ?_ (State.wr_kept ..)
      exact h9
    · exact h9
  clear_value x12
  refine Kept.trans ?_ (State.peerWordsIn_kept ..)
  refine Kept.trans ?_ (State.identitySync_kept ..)
  exact h13

theorem execLaneRecordReceive_kept (on : PhysLane) (prev : BitVec 58) (blocks : List Block) (s : State) : Sound s (execLaneRecordReceive on prev blocks s) := by
  unfold execLaneRecordReceive
  refine Sound.ite (fun z0 => ?_) (fun z0 => ?_)
  · refine Sound.next ?_
    exact Kept.refl _
  · split
    · rename_i z1 z2 z3
      refine Sound.ite (fun z4 => ?_) (fun z4 => ?_)
      · refine Sound.of ?_ (fin_kept ..)
        refine Kept.trans ?_ (State.recordIn_kept ..)
        exact Kept.refl _
      · refine Sound.next ?_
        exact Kept.refl _
    · rename_i z5 z6
      refine Sound.next ?_
      exact Kept.refl _

theorem State.applyPeerMap_kept (s : State) (n : Nat) : Kept s (State.applyPeerMap s n) := by
  unfold State.applyPeerMap
  lift_lets
  intro x0
  clear_value x0
  refine Kept.ite (fun z1 => ?_) (fun z1 => ?_)
  · refine Kept.trans ?_ (State.wr_kept ..)
    exact Kept.refl _
  · exact Kept.refl _

theorem execMapChangeApply_kept (n : PortNum) (s : State) : Sound s (execMapChangeApply n s) := by
  unfold execMapChangeApply
  refine Sound.ite (fun z0 => ?_) (fun z0 => ?_)
  · refine Sound.next ?_
    exact Kept.refl _
  · refine Sound.ite (fun z4 => ?_) (fun z4 => ?_)
    · refine Sound.of ?_ (fin_kept ..)
      refine Kept.trans ?_ (State.applyMap_kept ..)
      exact Kept.refl _
    · refine Sound.of ?_ (fin_kept ..)
      refine Kept.trans ?_ (State.applyPeerMap_kept ..)
      exact Kept.refl _

theorem execLaneSpareSwap_kept (n : PortNum) (s : State) : Sound s (execLaneSpareSwap n s) := by
  unfold execLaneSpareSwap
  refine Sound.ite (fun z0 => ?_) (fun z0 => ?_)
  · refine Sound.of ?_ (fin_kept ..)
    refine Kept.trans ?_ (State.spareSwap_kept ..)
    exact Kept.refl _
  · refine Sound.next ?_
    exact Kept.refl _

theorem State.sendRecords_kept (s : State) (n : Nat) : Kept s (State.sendRecords s n) := by
  unfold State.sendRecords
  refine Kept.trans ?_ (Kept.foldl (fun t0 x1 => ?_) _ _)
  · exact Kept.refl _
  · refine Kept.trans ?_ (State.emit_kept ..)
    exact Kept.refl _

theorem State.sendLine_kept (s : State) (n l : Nat) (units : List Block) : Kept s (State.sendLine s n l units) := by
  unfold State.sendLine
  lift_lets
  intro x0
  clear_value x0
  intro x1
  clear_value x1
  intro x2
  clear_value x2
  refine Kept.trans ?_ (State.setPort_kept ..)
  refine Kept.trans ?_ (State.emit_kept ..)
  exact Kept.refl _

theorem State.sendPeriod_kept (s : State) (n : Nat) : Kept s (State.sendPeriod s n) := by
  unfold State.sendPeriod
  lift_lets
  intro x0
  clear_value x0
  intro x1
  clear_value x1
  intro x2
  have h3 : Kept s x2 := by
    unfold x2
    refine Kept.trans ?_ (State.setPort_kept ..)
    exact Kept.refl _
  clear_value x2
  refine Kept.trans ?_ (Kept.foldl (fun t4 x5 => ?_) _ _)
  · exact h3
  · refine Kept.trans ?_ (State.sendLine_kept ..)
    exact Kept.refl _

theorem State.sendPrbs_kept (s : State) (n : Nat) : Kept s (State.sendPrbs s n) := by
  unfold State.sendPrbs
  refine Kept.trans ?_ (Kept.foldl (fun t0 x1 => ?_) _ _)
  · exact Kept.refl _
  · refine Kept.trans ?_ (State.emit_kept ..)
    exact Kept.refl _

theorem State.retrainPeriod_kept (s : State) (n : Nat) : Kept s (State.retrainPeriod s n).1 := by
  unfold State.retrainPeriod
  refine KeptFst.out ?_
  split
  · rename_i z0 z1 z2
    refine KeptFst.ite (fun z3 => ?_) (fun z3 => ?_)
    · refine KeptFst.ite (fun z4 => ?_) (fun z4 => ?_)
      · refine KeptFst.pair ?_
        refine Kept.trans ?_ (State.setPort_kept ..)
        exact Kept.refl _
      · refine KeptFst.pair ?_
        exact Kept.refl _
    · refine KeptFst.ite (fun z5 => ?_) (fun z5 => ?_)
      · refine KeptFst.pair ?_
        refine Kept.trans ?_ (State.setPort_kept ..)
        exact Kept.refl _
      · refine KeptFst.pair ?_
        exact Kept.refl _
  · rename_i z6 z7
    refine KeptFst.pair ?_
    exact Kept.refl _

theorem State.periodStart_kept (s : State) (n : Nat) : Kept s (State.periodStart s n) := by
  unfold State.periodStart
  lift_lets
  intro x0
  clear_value x0
  intro x1
  have h2 : Kept s x1 := by
    unfold x1
    refine Kept.trans ?_ (State.wr_kept ..)
    exact Kept.refl _
  clear_value x1
  intro x3
  have h4 : Kept s x3 := by
    unfold x3
    split
    · rename_i z5 z6 z7
      refine Kept.ite (fun z8 => ?_) (fun z8 => ?_)
      · refine Kept.trans ?_ (State.applyMap_kept ..)
        exact h2
      · refine Kept.ite (fun z9 => ?_) (fun z9 => ?_)
        · refine Kept.trans ?_ (State.clearPend_kept ..)
          exact h2
        · refine Kept.trans ?_ (State.mirrorStart_kept ..)
          exact h2
    · rename_i z10 z11
      exact h2
  clear_value x3
  split
  rename_i z12 z13 z14 z15
  refine Kept.ite (fun z16 => ?_) (fun z16 => ?_)
  · refine Kept.trans ?_ (State.sendPrbs_kept ..)
    refine Kept.eqn z15 ?_
    refine Kept.trans ?_ (State.retrainPeriod_kept ..)
    exact h4
  · refine Kept.trans ?_ (State.sendPeriod_kept ..)
    refine Kept.trans ?_ (State.sendRecords_kept ..)
    refine Kept.trans ?_ (State.ctlFlush_kept ..)
    refine Kept.trans ?_ (State.ctlDue_kept ..)
    refine Kept.eqn z15 ?_
    refine Kept.trans ?_ (State.retrainPeriod_kept ..)
    exact h4

theorem execAlignmentPeriodStart_kept (n : PortNum) (s : State) : Sound s (execAlignmentPeriodStart n s) := by
  unfold execAlignmentPeriodStart
  refine Sound.ite (fun z0 => ?_) (fun z0 => ?_)
  · refine Sound.of ?_ (fin_kept ..)
    refine Kept.trans ?_ (State.periodStart_kept ..)
    exact Kept.refl _
  · refine Sound.next ?_
    exact Kept.refl _

theorem State.laneReset_kept (s : State) (n : Nat) : Kept s (State.laneReset s n) := by
  unfold State.laneReset
  lift_lets
  intro x0
  have h1 : Kept s x0 := by
    unfold x0
    refine Kept.trans ?_ (State.resetRegs_kept ..)
    exact Kept.refl _
  clear_value x0
  refine Kept.trans ?_ (State.identitySync_kept ..)
  refine Kept.trans ?_ (State.setPort_kept ..)
  exact h1

theorem State.portReset_kept (s : State) (n : Nat) : Kept s (State.portReset s n) := by
  unfold State.portReset
  lift_lets
  intro x0
  have h1 : Kept s x0 := by
    unfold x0
    refine Kept.trans ?_ (State.laneReset_kept ..)
    refine Kept.trans ?_ (State.linkDown_kept ..)
    exact Kept.refl _
  clear_value x0
  intro x2
  clear_value x2
  refine Kept.trans ?_ (Kept.record ..)
  exact h1

theorem State.askAction_kept (s : State) (m : Mst) (addr : Nat) (r : Reg) (v : Word) : Kept s (State.askAction s m addr r v).1 := by
  refine KeptFst.out ?_
  unfold State.askAction
  refine KeptFst.of ?_
  refine Kept.trans ?_ (State.askRec_kept ..)
  exact Kept.refl _

theorem State.lneCtl_kept (s : State) (m : Mst) (n : Nat) (v : Word) : Kept s (State.lneCtl s m n v) := by
  unfold State.lneCtl
  refine Kept.ite (fun z0 => ?_) (fun z0 => ?_)
  · exact Kept.refl _
  · split
    · rename_i z1 z2 z3
      refine Kept.eqn z3 ?_
      refine Kept.trans ?_ (State.askAction_kept ..)
      exact Kept.refl _
    · rename_i z4 z5 z6
      lift_lets
      intro x7
      have h8 : Kept s x7 := by
        unfold x7
        refine Kept.ite (fun z9 => ?_) (fun z9 => ?_)
        · refine Kept.trans ?_ (State.startRetrain_kept ..)
          refine Kept.eqn z6 ?_
          refine Kept.trans ?_ (State.askAction_kept ..)
          exact Kept.refl _
        · refine Kept.eqn z6 ?_
          refine Kept.trans ?_ (State.askAction_kept ..)
          exact Kept.refl _
      clear_value x7
      intro x10
      have h11 : Kept s x10 := by
        unfold x10
        refine Kept.ite (fun z12 => ?_) (fun z12 => ?_)
        · refine Kept.trans ?_ (State.requestWidth_kept ..)
          exact h8
        · exact h8
      clear_value x10
      refine Kept.ite (fun z13 => ?_) (fun z13 => ?_)
      · refine Kept.trans ?_ (State.linkDown_kept ..)
        exact h11
      · exact h11

theorem execLneRetrain_kept (m : Mst) (n : PortNum) (v : Word) (s : State) : Sound s (execLneRetrain m n v s) := by
  unfold execLneRetrain
  refine Sound.of ?_ (regWriteRow_kept (h_f := fun u0 y1 => ?_) ..)
  · exact Kept.refl _
  · refine Kept.trans ?_ (State.lneCtl_kept ..)
    exact Kept.refl _

theorem execLneWiden_kept (m : Mst) (n : PortNum) (v : Word) (s : State) : Sound s (execLneWiden m n v s) := by
  unfold execLneWiden
  refine Sound.of ?_ (regWriteRow_kept (h_f := fun u0 y1 => ?_) ..)
  · exact Kept.refl _
  · refine Kept.trans ?_ (State.lneCtl_kept ..)
    exact Kept.refl _

theorem execLneRestart_kept (m : Mst) (n : PortNum) (v : Word) (s : State) : Sound s (execLneRestart m n v s) := by
  unfold execLneRestart
  refine Sound.of ?_ (regWriteRow_kept (h_f := fun u0 y1 => ?_) ..)
  · exact Kept.refl _
  · refine Kept.trans ?_ (State.lneCtl_kept ..)
    exact Kept.refl _

theorem State.prtCfgPut_kept (s : State) (m : Mst) (n : Nat) (v : Word) : Kept s (State.prtCfgPut s m n v) := by
  unfold State.prtCfgPut
  lift_lets
  intro x0
  clear_value x0
  intro x1
  clear_value x1
  split
  · rename_i z3 z4 z5
    refine Kept.eqn z5 ?_
    refine Kept.trans ?_ (State.cfgWrite_kept ..)
    exact Kept.refl _
  · rename_i z9 z10 z11
    refine Kept.ite (fun z12 => ?_) (fun z12 => ?_)
    · refine Kept.trans ?_ (State.bringUp_kept ..)
      refine Kept.eqn z11 ?_
      refine Kept.trans ?_ (State.cfgWrite_kept ..)
      exact Kept.refl _
    · refine Kept.eqn z11 ?_
      refine Kept.trans ?_ (State.cfgWrite_kept ..)
      exact Kept.refl _

theorem execQuiesceWrite_kept (m : Mst) (n : PortNum) (v : Word) (s : State) : Sound s (execQuiesceWrite m n v s) := by
  unfold execQuiesceWrite
  refine Sound.of ?_ (regWriteRow_kept (h_f := fun u0 y1 => ?_) ..)
  · exact Kept.refl _
  · refine Kept.trans ?_ (State.prtCfgPut_kept ..)
    exact Kept.refl _

theorem execQuiesceDone_kept (n : PortNum) (s : State) : Sound s (execQuiesceDone n s) := by
  unfold execQuiesceDone
  refine Sound.ite (fun z0 => ?_) (fun z0 => ?_)
  · refine Sound.of ?_ (fin_kept ..)
    refine Kept.trans ?_ (State.setPstate_kept ..)
    refine Kept.trans ?_ (State.linkDown_kept ..)
    exact Kept.refl _
  · refine Sound.next ?_
    exact Kept.refl _

theorem State.setLamp_kept (s : State) (i : Nat) (f : Lamp → Lamp) : Kept s (State.setLamp s i f) := by
  unfold State.setLamp
  refine Kept.trans ?_ (Kept.record ..)
  exact Kept.refl _

theorem State.lampSync_kept (s : State) (i : Nat) : Kept s (State.lampSync s i) := by
  unfold State.lampSync
  lift_lets
  intro x0
  clear_value x0
  intro x1
  have h2 : Kept s x1 := by
    unfold x1
    refine Kept.trans ?_ (State.wr_kept ..)
    exact Kept.refl _
  clear_value x1
  intro x5
  have h6 : Kept s x5 := by
    unfold x5
    refine Kept.trans ?_ (State.wr_kept ..)
    exact h2
  clear_value x5
  refine Kept.trans ?_ (State.wr_kept ..)
  exact h6

theorem State.lampEvent_kept (s : State) (i : Nat) (cause : Nat) (e : Nat) : Kept s (State.lampEvent s i cause e) := by
  unfold State.lampEvent
  lift_lets
  intro x0
  clear_value x0
  refine Kept.trans ?_ (State.evPost_kept ..)
  refine Kept.trans ?_ (State.evPost_kept ..)
  exact Kept.refl _

theorem State.lampRecord_kept (s : State) (i : Nat) (cause : Nat) (e : Nat) : Kept s (State.lampRecord s i cause e) := by
  unfold State.lampRecord
  refine Kept.trans ?_ (State.audAppend_kept ..)
  exact Kept.refl _

theorem State.biasOut_kept (s : State) (i : Nat) (e : Nat) : Kept s (State.biasOut s i e) := by
  unfold State.biasOut
  refine Kept.trans ?_ (State.emit_kept ..)
  exact Kept.refl _

theorem State.lifeOut_kept (s : State) (i e : Nat) : Kept s (State.lifeOut s i e) := by
  unfold State.lifeOut
  refine Kept.trans ?_ (State.emit_kept ..)
  exact Kept.refl _

theorem State.emitterOn_kept (s : State) (i e p : Nat) : Kept s (State.emitterOn s i e p) := by
  unfold State.emitterOn
  lift_lets
  intro x0
  clear_value x0
  intro x1
  clear_value x1
  intro x2
  have h3 : Kept s x2 := by
    unfold x2
    refine Kept.trans ?_ (State.wr_kept ..)
    refine Kept.trans ?_ (State.wr_kept ..)
    refine Kept.trans ?_ (State.wr_kept ..)
    refine Kept.trans ?_ (State.drawn_kept ..)
    exact Kept.refl _
  clear_value x2
  intro x4
  have h5 : Kept s x4 := by
    unfold x4
    refine Kept.ite (fun z6 => ?_) (fun z6 => ?_)
    · refine Kept.trans ?_ (State.wr_kept ..)
      exact h3
    · exact h3
  clear_value x4
  refine Kept.trans ?_ (State.lifeOut_kept ..)
  refine Kept.trans ?_ (State.biasOut_kept ..)
  refine Kept.trans ?_ (State.setLamp_kept ..)
  exact h5

theorem State.lampPlaces_kept (s : State) (i : Nat) : Kept s (State.lampPlaces s i) := by
  unfold State.lampPlaces
  lift_lets
  intro x0
  clear_value x0
  intro x1
  clear_value x1
  intro x2
  clear_value x2
  intro x3
  clear_value x3
  intro x4
  clear_value x4
  intro x5
  have h6 : Kept s x5 := by
    unfold x5
    refine Kept.trans ?_ (Kept.foldl (fun t7 x8 => ?_) _ _)
    · exact Kept.refl _
    · refine Kept.trans ?_ (State.emitterOn_kept ..)
      exact Kept.refl _
  clear_value x5
  refine Kept.trans ?_ (Kept.foldl (fun t13 x14 => ?_) _ _)
  · exact h6
  · refine Kept.trans ?_ (State.emitterOn_kept ..)
    exact Kept.refl _

theorem State.islandUp_kept (s : State) (i : Nat) : Kept s (State.islandUp s i) := by
  unfold State.islandUp
  refine Kept.trans ?_ (Kept.foldl (fun t0 x1 => ?_) _ _)
  · exact Kept.refl _
  · lift_lets
    intro x4
    clear_value x4
    refine Kept.ite (fun z5 => ?_) (fun z5 => ?_)
    · refine Kept.trans ?_ (State.bringUp_kept ..)
      exact Kept.refl _
    · exact Kept.refl _

theorem State.lampLight_kept (s : State) (i : Nat) : Kept s (State.lampLight s i) := by
  unfold State.lampLight
  refine Kept.ite (fun z0 => ?_) (fun z0 => ?_)
  · refine Kept.trans ?_ (State.islandUp_kept ..)
    refine Kept.trans ?_ (State.wr_kept ..)
    exact Kept.refl _
  · lift_lets
    intro x5
    clear_value x5
    intro x6
    have h7 : Kept s x6 := by
      unfold x6
      refine Kept.trans ?_ (State.lampSync_kept ..)
      refine Kept.trans ?_ (State.wr_kept ..)
      refine Kept.trans ?_ (State.lampPlaces_kept ..)
      exact Kept.refl _
    clear_value x6
    intro x12
    have h13 : Kept s x12 := by
      unfold x12
      refine Kept.trans ?_ (State.setLamp_kept ..)
      exact h7
    clear_value x12
    intro x16
    have h17 : Kept s x16 := by
      unfold x16
      refine Kept.ite (fun z18 => ?_) (fun z18 => ?_)
      · refine Kept.trans ?_ (State.lampEvent_kept ..)
        refine Kept.trans ?_ (State.lampRecord_kept ..)
        exact h13
      · exact h13
    clear_value x16
    refine Kept.trans ?_ (State.islandUp_kept ..)
    exact h17

theorem State.lampOff_kept (s : State) (i : Nat) : Kept s (State.lampOff s i) := by
  unfold State.lampOff
  refine Kept.trans ?_ (State.setLamp_kept ..)
  exact Kept.refl _

theorem State.lifeIn_kept (s : State) (i : Nat) (bs : List Byte) (e : Nat) : Kept s (State.lifeIn s i bs e) := by
  unfold State.lifeIn
  lift_lets
  intro x0
  clear_value x0
  intro x1
  have h2 : Kept s x1 := by
    unfold x1
    refine Kept.trans ?_ (State.wr_kept ..)
    refine Kept.trans ?_ (State.wr_kept ..)
    exact Kept.refl _
  clear_value x1
  intro x6
  have h7 : Kept s x6 := by
    unfold x6
    refine Kept.trans ?_ (State.setLamp_kept ..)
    exact h2
  clear_value x6
  refine Kept.trans ?_ (State.wr_kept ..)
  exact h7

theorem State.eolSync_kept (s : State) (i : Nat) : Kept s (State.eolSync s i) := by
  unfold State.eolSync
  refine Kept.trans ?_ (Kept.foldl (fun t0 x1 => ?_) _ _)
  · exact Kept.refl _
  · refine Kept.trans ?_ (State.wr_kept ..)
    exact Kept.refl _

theorem State.lampFault_kept (s : State) (i : Nat) : Kept s (State.lampFault s i) := by
  unfold State.lampFault
  refine Kept.trans ?_ (State.raise_kept ..)
  refine Kept.trans ?_ (State.lampOff_kept ..)
  refine Kept.trans ?_ (State.wr_kept ..)
  exact Kept.refl _

theorem State.lampIdentity_kept (s : State) (i : Nat) (bs : List Byte) : Kept s (State.lampIdentity s i bs) := by
  unfold State.lampIdentity
  lift_lets
  intro x0
  have h1 : Kept s x0 := by
    unfold x0
    refine Kept.trans ?_ (State.set_kept ..)
    refine Kept.trans ?_ (State.set_kept ..)
    refine Kept.trans ?_ (State.set_kept ..)
    exact Kept.refl _
  clear_value x0
  intro x2
  have h3 : Kept s x2 := by
    unfold x2
    refine Kept.trans ?_ (State.setLamp_kept ..)
    exact h1
  clear_value x2
  intro x4
  have h5 : Kept s x4 := by
    unfold x4
    refine Kept.trans ?_ (State.eolSync_kept ..)
    refine Kept.trans ?_ (State.lampSync_kept ..)
    refine Kept.trans ?_ (Kept.foldl (fun t6 x7 => ?_) _ _)
    · exact h3
    · refine Kept.trans ?_ (State.lifeIn_kept ..)
      exact Kept.refl _
  clear_value x4
  intro x8
  clear_value x8
  intro x9
  clear_value x9
  intro x10
  have h11 : Kept s x10 := by
    unfold x10
    refine Kept.trans ?_ (State.setLamp_kept ..)
    refine Kept.trans ?_ (State.drawn_kept ..)
    exact h5
  clear_value x10
  refine Kept.ite (fun z12 => ?_) (fun z12 => ?_)
  · refine Kept.trans ?_ (State.lampFault_kept ..)
    exact h1
  · refine Kept.trans ?_ (State.emit_kept ..)
    exact h11

theorem execLampIdentify_kept (i : Fin 16) (id : Option (List Byte)) (s : State) : Sound s (execLampIdentify i id s) := by
  unfold execLampIdentify
  lift_lets
  intro x0
  have h1 : Kept s x0 := by
    unfold x0
    refine Kept.trans ?_ (State.wr_kept ..)
    refine Kept.trans ?_ (State.wr_kept ..)
    exact Kept.refl _
  clear_value x0
  refine Sound.ite (fun z2 => ?_) (fun z2 => ?_)
  · refine Sound.next ?_
    exact Kept.refl _
  · split
    · rename_i z3
      refine Sound.of ?_ (fin_kept ..)
      refine Kept.trans ?_ (State.lampFault_kept ..)
      exact h1
    · rename_i z4 z5
      refine Sound.ite (fun z6 => ?_) (fun z6 => ?_)
      · refine Sound.of ?_ (fin_kept ..)
        refine Kept.trans ?_ (State.lampFault_kept ..)
        exact h1
      · refine Sound.of ?_ (fin_kept ..)
        refine Kept.trans ?_ (State.lampIdentity_kept ..)
        exact h1

theorem State.lampAuth_kept (s : State) (i : Nat) (good : Bool) : Kept s (State.lampAuth s i good) := by
  unfold State.lampAuth
  lift_lets
  intro x0
  have h1 : Kept s x0 := by
    unfold x0
    refine Kept.trans ?_ (State.setLamp_kept ..)
    exact Kept.refl _
  clear_value x0
  intro x4
  have h5 : Kept s x4 := by
    unfold x4
    refine Kept.trans ?_ (State.wr_kept ..)
    exact h1
  clear_value x4
  intro x8
  have h9 : Kept s x8 := by
    unfold x8
    refine Kept.ite (fun z10 => ?_) (fun z10 => ?_)
    · exact h5
    · refine Kept.trans ?_ (State.lampEvent_kept ..)
      refine Kept.trans ?_ (State.raise_kept ..)
      exact h5
  clear_value x8
  refine Kept.ite (fun z16 => ?_) (fun z16 => ?_)
  · refine Kept.trans ?_ (State.lampLight_kept ..)
    exact h9
  · refine Kept.ite (fun z20 => ?_) (fun z20 => ?_)
    · exact h9
    · refine Kept.trans ?_ (State.lampOff_kept ..)
      exact h9

theorem execLampAuthResponse_kept (i : Fin 16) (resp : Option (List Byte)) (s : State) : Sound s (execLampAuthResponse i resp s) := by
  unfold execLampAuthResponse
  refine Sound.ite (fun z0 => ?_) (fun z0 => ?_)
  · refine Sound.next ?_
    exact Kept.refl _
  · split
    · rename_i z1 z2
      refine Sound.next ?_
      exact Kept.refl _
    · rename_i z3 z4 z5
      lift_lets
      intro x6
      have h7 : Kept s x6 := by
        unfold x6
        refine Kept.trans ?_ (State.passTo_kept ..)
        exact Kept.refl _
      clear_value x6
      split
      · rename_i z8
        refine Sound.of ?_ (fin_kept ..)
        refine Kept.trans ?_ (State.lampFault_kept ..)
        refine Kept.trans ?_ (State.setLamp_kept ..)
        exact h7
      · rename_i z9 z10
        refine Sound.of ?_ (fin_kept ..)
        refine Kept.trans ?_ (State.lampAuth_kept ..)
        exact h7

theorem State.lampGone_kept (s : State) (i : Nat) : Kept s (State.lampGone s i) := by
  unfold State.lampGone
  lift_lets
  intro x0
  have h1 : Kept s x0 := by
    unfold x0
    refine Kept.trans ?_ (State.resetRegs_kept ..)
    exact Kept.refl _
  clear_value x0
  refine Kept.trans ?_ (State.condClear_kept ..)
  exact h1

theorem execLampRemoved_kept (i : Fin 16) (s : State) : Sound s (execLampRemoved i s) := by
  unfold execLampRemoved
  refine Sound.ite (fun z0 => ?_) (fun z0 => ?_)
  · refine Sound.next ?_
    exact Kept.refl _
  · lift_lets
    intro x4
    clear_value x4
    intro x5
    have h6 : Kept s x5 := by
      unfold x5
      refine Kept.trans ?_ (State.setLamp_kept ..)
      refine Kept.trans ?_ (State.lampGone_kept ..)
      exact Kept.refl _
    clear_value x5
    refine Sound.of ?_ (fin_kept ..)
    refine Kept.ite (fun z11 => ?_) (fun z11 => ?_)
    · refine Kept.trans ?_ (State.lampEvent_kept ..)
      refine Kept.trans ?_ (State.raise_kept ..)
      exact h6
    · exact h6

theorem State.biasStep_kept (s : State) (i p : Nat) (r : LampReading) : Kept s (State.biasStep s i p r) := by
  unfold State.biasStep
  split
  · rename_i z0 z1
    exact Kept.refl _
  · rename_i z2 z3 z4
    lift_lets
    intro x5
    clear_value x5
    intro x6
    clear_value x6
    intro x7
    clear_value x7
    intro x8
    have h9 : Kept s x8 := by
      unfold x8
      refine Kept.ite (fun z10 => ?_) (fun z10 => ?_)
      · exact Kept.refl _
      · refine Kept.trans ?_ (State.biasOut_kept ..)
        refine Kept.trans ?_ (State.wr_kept ..)
        exact Kept.refl _
    clear_value x8
    refine Kept.trans ?_ (State.setLamp_kept ..)
    exact h9

theorem State.emitterSwitch_kept (s : State) (i e : Nat) : Kept s (State.emitterSwitch s i e) := by
  unfold State.emitterSwitch
  lift_lets
  intro x0
  clear_value x0
  intro x1
  have h2 : Kept s x1 := by
    unfold x1
    refine Kept.ite (fun z3 => ?_) (fun z3 => ?_)
    · refine Kept.trans ?_ (State.raise_kept ..)
      exact Kept.refl _
    · exact Kept.refl _
  clear_value x1
  intro x4
  clear_value x4
  intro x5
  clear_value x5
  split
  · rename_i z6 z7 z8
    lift_lets
    intro x9
    have h10 : Kept s x9 := by
      unfold x9
      refine Kept.trans ?_ (State.emitterOn_kept ..)
      exact h2
    clear_value x9
    intro x11
    have h12 : Kept s x11 := by
      unfold x11
      refine Kept.trans ?_ (State.wr_kept ..)
      refine Kept.trans ?_ (State.wr_kept ..)
      refine Kept.trans ?_ (State.wr_kept ..)
      exact h10
    clear_value x11
    intro x13
    have h14 : Kept s x13 := by
      unfold x13
      refine Kept.trans ?_ (State.setLamp_kept ..)
      refine Kept.trans ?_ (State.lifeOut_kept ..)
      refine Kept.trans ?_ (State.biasOut_kept ..)
      exact h12
    clear_value x13
    intro x15
    have h16 : Kept s x15 := by
      unfold x15
      refine Kept.trans ?_ (State.raise_kept ..)
      refine Kept.trans ?_ (State.lampSync_kept ..)
      exact h14
    clear_value x15
    refine Kept.trans ?_ (State.lampEvent_kept ..)
    refine Kept.trans ?_ (State.lampRecord_kept ..)
    exact h16
  · rename_i z17 z18
    refine Kept.ite (fun z19 => ?_) (fun z19 => ?_)
    · exact h2
    · refine Kept.trans ?_ (State.lampEvent_kept ..)
      refine Kept.trans ?_ (State.condRise_kept ..)
      refine Kept.trans ?_ (State.wr_kept ..)
      exact h2

theorem execBiasLoopIteration_kept (i : Fin 16) (r : List LampReading) (s : State) : Sound s (execBiasLoopIteration i r s) := by
  unfold execBiasLoopIteration
  lift_lets
  intro x0
  have h1 : Kept s x0 := by
    unfold x0
    refine Kept.trans ?_ (State.passTo_kept ..)
    exact Kept.refl _
  clear_value x0
  intro x2
  have h3 : Kept s x2 := by
    unfold x2
    refine Kept.trans ?_ (State.setLamp_kept ..)
    exact h1
  clear_value x2
  intro x4
  have h5 : Kept s x4 := by
    unfold x4
    refine Kept.trans ?_ (Kept.foldl (fun t6 x7 => ?_) _ _)
    · exact h3
    · split
      · rename_i z8 z9 z10
        refine Kept.trans ?_ (State.biasStep_kept ..)
        exact Kept.refl _
      · rename_i z11 z12
        exact Kept.refl _
  clear_value x4
  refine Sound.ite (fun z13 => ?_) (fun z13 => ?_)
  · refine Sound.next ?_
    exact Kept.refl _
  · refine Sound.ite (fun z14 => ?_) (fun z14 => ?_)
    · refine Sound.of ?_ (fin_kept ..)
      refine Kept.trans ?_ (Kept.foldl (fun t15 x16 => ?_) _ _)
      · exact h5
      · refine Kept.trans ?_ (State.emitterSwitch_kept ..)
        exact Kept.refl _
    · refine Sound.next ?_
      exact Kept.refl _

theorem State.emitterHour_kept (s : State) (i e : Nat) : Kept s (State.emitterHour s i e) := by
  unfold State.emitterHour
  lift_lets
  intro x0
  have h1 : Kept s x0 := by
    unfold x0
    refine Kept.trans ?_ (State.lifeOut_kept ..)
    refine Kept.trans ?_ (State.wr_kept ..)
    exact Kept.refl _
  clear_value x0
  intro x2
  clear_value x2
  refine Kept.ite (fun z3 => ?_) (fun z3 => ?_)
  · refine Kept.trans ?_ (State.emit_kept ..)
    exact h1
  · exact h1

theorem execLampHourTick_kept (i : Fin 16) (s : State) : Sound s (execLampHourTick i s) := by
  unfold execLampHourTick
  refine Sound.ite (fun z0 => ?_) (fun z0 => ?_)
  · lift_lets
    intro x2
    have h3 : Kept s x2 := by
      unfold x2
      refine Kept.trans ?_ (State.passTo_kept ..)
      exact Kept.refl _
    clear_value x2
    intro x6
    have h7 : Kept s x6 := by
      unfold x6
      refine Kept.trans ?_ (State.setLamp_kept ..)
      exact h3
    clear_value x6
    refine Sound.of ?_ (fin_kept ..)
    refine Kept.trans ?_ (Kept.foldl (fun t11 x12 => ?_) _ _)
    · exact h7
    · refine Kept.trans ?_ (State.emitterHour_kept ..)
      exact Kept.refl _
  · refine Sound.next ?_
    exact Kept.refl _

theorem State.lmpCtl_kept (s : State) (m : Mst) (i : Nat) (v : Word) : Kept s (State.lmpCtl s m i v) := by
  unfold State.lmpCtl
  refine Kept.ite (fun z0 => ?_) (fun z0 => ?_)
  · exact Kept.refl _
  · split
    · rename_i z4 z5 z6
      refine Kept.eqn z6 ?_
      refine Kept.trans ?_ (State.askAction_kept ..)
      exact Kept.refl _
    · rename_i z10 z11 z12
      lift_lets
      intro x13
      have h14 : Kept s x13 := by
        unfold x13
        refine Kept.ite (fun z15 => ?_) (fun z15 => ?_)
        · refine Kept.trans ?_ (State.lampLight_kept ..)
          refine Kept.eqn z12 ?_
          refine Kept.trans ?_ (State.askAction_kept ..)
          exact Kept.refl _
        · refine Kept.eqn z12 ?_
          refine Kept.trans ?_ (State.askAction_kept ..)
          exact Kept.refl _
      clear_value x13
      intro x24
      have h25 : Kept s x24 := by
        unfold x24
        refine Kept.ite (fun z26 => ?_) (fun z26 => ?_)
        · refine Kept.trans ?_ (State.wr_kept ..)
          refine Kept.trans ?_ (State.lampOff_kept ..)
          exact h14
        · exact h14
      clear_value x24
      refine Kept.ite (fun z32 => ?_) (fun z32 => ?_)
      · refine Kept.trans ?_ (State.wr_kept ..)
        exact h25
      · exact h25

theorem execLampEnable_kept (m : Mst) (i : Fin 16) (v : Word) (s : State) : Sound s (execLampEnable m i v s) := by
  unfold execLampEnable
  refine Sound.of ?_ (regWriteRow_kept (h_f := fun u0 y1 => ?_) ..)
  · exact Kept.refl _
  · refine Kept.trans ?_ (State.lmpCtl_kept ..)
    exact Kept.refl _

theorem execLampDisable_kept (m : Mst) (i : Fin 16) (v : Word) (s : State) : Sound s (execLampDisable m i v s) := by
  unfold execLampDisable
  refine Sound.of ?_ (regWriteRow_kept (h_f := fun u0 y1 => ?_) ..)
  · exact Kept.refl _
  · refine Kept.trans ?_ (State.lmpCtl_kept ..)
    exact Kept.refl _

theorem execLampReauth_kept (m : Mst) (i : Fin 16) (v : Word) (s : State) : Sound s (execLampReauth m i v s) := by
  unfold execLampReauth
  refine Sound.of ?_ (regWriteRow_kept (h_f := fun u0 y1 => ?_) ..)
  · exact Kept.refl _
  · refine Kept.trans ?_ (State.lmpCtl_kept ..)
    exact Kept.refl _

end Sys2Proof.Machine
end

