-- ==== Sys2Proof/Laws/KeptRows3.lean ====
section
/-! SUPPORT. What the commands of memory, guards, faults, counters, power, reset, registers, boot and coherence keep: the queue, a state in good form, and the lifecycle (`Kept`). -/

set_option linter.unusedVariables false

namespace Sys2Proof.Machine

theorem State.heal_kept (s : State) (l : Nat) (scrub : Bool) : Kept s (State.heal s l scrub) := by
  unfold State.heal
  lift_lets
  intro x0
  have h1 : Kept s x0 := by
    unfold x0
    refine Kept.trans ?_ (State.chHeld_kept ..)
    refine Kept.trans ?_ (State.tally_kept ..)
    exact Kept.refl _
  clear_value x0
  refine Kept.ite (fun z2 => ?_) (fun z2 => ?_)
  · exact h1
  · split
    · rename_i z3 z4 z5
      refine Kept.eqn z5 ?_
      refine Kept.trans ?_ (State.edcRead_kept ..)
      exact h1
    · rename_i z6 z7 z8
      lift_lets
      intro x9
      clear_value x9
      intro x10
      clear_value x10
      intro x11
      have h12 : Kept s x11 := by
        unfold x11
        refine Kept.trans ?_ (State.symUncorr_kept ..)
        refine Kept.trans ?_ (State.symCorr_kept ..)
        refine Kept.eqn z8 ?_
        refine Kept.trans ?_ (State.edcRead_kept ..)
        exact h1
      clear_value x11
      intro x13
      have h14 : Kept s x13 := by
        unfold x13
        refine Kept.ite (fun z15 => ?_) (fun z15 => ?_)
        · refine Kept.trans ?_ (State.rowYield_kept ..)
          exact h12
        · exact h12
      clear_value x13
      intro x16
      have h17 : Kept s x16 := by
        unfold x16
        refine Kept.trans ?_ (State.setBad_kept ..)
        refine Kept.trans ?_ (State.edcWrite_kept ..)
        refine Kept.trans ?_ (State.tally_kept ..)
        exact h14
      clear_value x16
      refine Kept.ite (fun z18 => ?_) (fun z18 => ?_)
      · refine Kept.eqn z8 ?_
        refine Kept.trans ?_ (State.edcRead_kept ..)
        exact h1
      · refine Kept.ite (fun z19 => ?_) (fun z19 => ?_)
        · exact h17
        · refine Kept.trans ?_ (Kept.record ..)
          exact h17

theorem State.scrubPass_kept (s : State) : Kept s (State.scrubPass s) := by
  unfold State.scrubPass
  refine Kept.ite (fun z0 => ?_) (fun z0 => ?_)
  · lift_lets
    intro x2
    have h3 : Kept s x2 := by
      unfold x2
      refine Kept.trans ?_ (State.count_kept ..)
      exact Kept.refl _
    clear_value x2
    intro x6
    clear_value x6
    refine Kept.trans ?_ (Kept.record ..)
    exact h3
  · exact Kept.refl _

theorem State.meet_kept (s : State) (g : Nat) (o : ScrubObs) : Kept s (State.meet s g o) := by
  unfold State.meet
  lift_lets
  intro x0
  have h1 : Kept s x0 := by
    unfold x0
    refine Kept.trans ?_ (Kept.foldl (fun t2 x3 => ?_) _ _)
    · exact Kept.refl _
    · lift_lets
      intro x4
      clear_value x4
      split
      · rename_i z5 z6 z7
        refine Kept.trans ?_ (State.setBad_kept ..)
        exact Kept.refl _
      · rename_i z8 z9
        exact Kept.refl _
  clear_value x0
  refine Kept.trans ?_ (Kept.foldl (fun t10 x11 => ?_) _ _)
  · exact h1
  · refine Kept.trans ?_ (Kept.record ..)
    exact Kept.refl _

theorem State.scrub_kept (s : State) (ch : Nat) (o : ScrubObs) : Kept s (State.scrub s ch o) := by
  unfold State.scrub
  lift_lets
  intro x0
  clear_value x0
  intro x1
  clear_value x1
  intro x2
  have h3 : Kept s x2 := by
    unfold x2
    refine Kept.trans ?_ (Kept.record ..)
    exact Kept.refl _
  clear_value x2
  intro x4
  have h5 : Kept s x4 := by
    unfold x4
    refine Kept.ite (fun z6 => ?_) (fun z6 => ?_)
    · exact h3
    · refine Kept.trans ?_ (Kept.foldl (fun t7 x8 => ?_) _ _)
      · refine Kept.trans ?_ (State.meet_kept ..)
        exact h3
      · refine Kept.trans ?_ (State.heal_kept ..)
        exact Kept.refl _
  clear_value x4
  refine Kept.trans ?_ (State.scrubPass_kept ..)
  exact h5

theorem execScrubVisit_kept (ch : Fin 16) (o : ScrubObs) (s : State) : Sound s (execScrubVisit ch o s) := by
  unfold execScrubVisit
  refine Sound.ite (fun z0 => ?_) (fun z0 => ?_)
  · refine Sound.next ?_
    exact Kept.refl _
  · refine Sound.ite (fun z1 => ?_) (fun z1 => ?_)
    · refine Sound.next ?_
      exact Kept.refl _
    · refine Sound.of ?_ (fin_kept ..)
      refine Kept.trans ?_ (State.scrub_kept ..)
      refine Kept.trans ?_ (State.passTo_kept ..)
      exact Kept.refl _

theorem State.remapIn_kept (s : State) (r : Remap) : Kept s (State.remapIn s r) := by
  unfold State.remapIn
  lift_lets
  intro x0
  clear_value x0
  intro x1
  clear_value x1
  intro x2
  have h3 : Kept s x2 := by
    unfold x2
    refine Kept.trans ?_ (Kept.record ..)
    exact Kept.refl _
  clear_value x2
  refine Kept.trans ?_ (State.wr_kept ..)
  refine Kept.trans ?_ (State.wr_kept ..)
  exact h3

theorem execRowRemap_kept (p : Fin 18) (bank : Fin 16) (row : Fin 32768) (s : State) : Sound s (execRowRemap p bank row s) := by
  unfold execRowRemap
  refine Sound.ite (fun z0 => ?_) (fun z0 => ?_)
  · refine Sound.next ?_
    exact Kept.refl _
  · lift_lets
    intro x4
    clear_value x4
    intro x5
    clear_value x5
    split
    · rename_i z7 z8 z9
      refine Sound.of ?_ (fin_kept ..)
      refine Kept.eqn z9 ?_
      refine Kept.trans ?_ (State.audRepair_kept ..)
      exact Kept.refl _
    · rename_i z14 z15 z16
      lift_lets
      intro x17
      have h18 : Kept s x17 := by
        unfold x17
        refine Kept.trans ?_ (Kept.foldl (fun t19 x20 => ?_) _ _)
        · refine Kept.eqn z16 ?_
          refine Kept.trans ?_ (State.audRepair_kept ..)
          exact Kept.refl _
        · refine Kept.trans ?_ (State.heal_kept ..)
          exact Kept.refl _
      clear_value x17
      intro x27
      have h28 : Kept s x27 := by
        unfold x27
        refine Kept.trans ?_ (State.remapIn_kept ..)
        exact h18
      clear_value x27
      intro x31
      clear_value x31
      intro x32
      have h33 : Kept s x32 := by
        unfold x32
        refine Kept.trans ?_ (Kept.record ..)
        exact h28
      clear_value x32
      refine Sound.of ?_ (fin_kept ..)
      refine Kept.trans ?_ (State.raise_kept ..)
      exact h33

theorem execChannelRetrainEnd_kept (p : Fin 18) (ok : Bool) (s : State) : Sound s (execChannelRetrainEnd p ok s) := by
  unfold execChannelRetrainEnd
  refine Sound.ite (fun z0 => ?_) (fun z0 => ?_)
  · refine Sound.next ?_
    exact Kept.refl _
  · refine Sound.of ?_ (fin_kept ..)
    refine Kept.trans ?_ (State.retrainEnd_kept ..)
    exact Kept.refl _

theorem State.migWrite_kept (s : State) (m : Mst) (v : Word) : Kept s (State.migWrite s m v) := by
  unfold State.migWrite
  lift_lets
  intro go lch new
  clear_value go lch new
  refine Kept.ite (fun _ => State.count_kept ..) (fun _ => ?_)
  have hr : ∀ (b : Bool) x, Kept s (if b = true then s.askRec m RK.reg 0x2F0008 (s.get .gdmMig) x
      else s.cfgPut m RK.reg 0x2F0008 .gdmMig (accWrite .gdmMig false (s.get .gdmMig) v)).1 := fun b x =>
    KeptFst.out (KeptFst.ite (fun _ => KeptFst.of (State.askRec_kept ..)) (fun _ => KeptFst.of (State.cfgPut_kept ..)))
  split
  · rename_i t e
    exact Kept.eqn e (hr _ _)
  · rename_i t e
    have h1 : Kept s (t.set .gdmMig (accWrite .gdmMig false (s.get .gdmMig) v)) :=
      (Kept.eqn e (hr _ _)).trans (State.set_kept ..)
    generalize t.set .gdmMig _ = u at h1 ⊢
    have h2 : ∀ (b : Bool) (w : State), Kept s w → Kept s (if b = true then w.migEnd CH.spare else w) :=
      fun _ w hw => Kept.ite (fun _ => hw.trans (State.migEnd_kept ..)) (fun _ => hw)
    refine h2 _ _ (Kept.ite (fun _ => h1.trans ?_) (fun _ => h1))
    exact ((((State.wr_kept ..).trans (State.wr_kept ..)).trans (State.setCh_kept ..)).trans (State.setCh_kept ..)).trans (Kept.record ..)

theorem execMigrationGo_kept (m : Mst) (v : Word) (s : State) : Sound s (execMigrationGo m v s) := by
  unfold execMigrationGo
  refine Sound.of ?_ (regWriteRow_kept (h_f := fun u0 y1 => ?_) ..)
  · exact Kept.refl _
  · refine Kept.trans ?_ (State.migWrite_kept ..)
    exact Kept.refl _

theorem execMigrationAbort_kept (m : Mst) (v : Word) (s : State) : Sound s (execMigrationAbort m v s) := by
  unfold execMigrationAbort
  refine Sound.of ?_ (regWriteRow_kept (h_f := fun u0 y1 => ?_) ..)
  · exact Kept.refl _
  · refine Kept.trans ?_ (State.migWrite_kept ..)
    exact Kept.refl _

theorem State.migrateWorn_kept (s : State) (p : Nat) : Kept s (State.migrateWorn s p) := by
  unfold State.migrateWorn
  split
  · rename_i z0 z1
    exact Kept.refl _
  · rename_i z2 z3 z4
    lift_lets
    intro x5
    clear_value x5
    refine Kept.ite (fun z6 => ?_) (fun z6 => ?_)
    · refine Kept.trans ?_ (State.migWrite_kept ..)
      exact Kept.refl _
    · exact Kept.refl _

theorem State.secondMet_kept (s : State) (p : Nat) (edc : List (Nat × Nat × Nat)) (sym : List (Nat × Sym)) : Kept s (State.secondMet s p edc sym) := by
  unfold State.secondMet
  lift_lets
  intro x0
  have h1 : Kept s x0 := by
    unfold x0
    refine Kept.trans ?_ (Kept.foldl (fun t2 x3 => ?_) _ _)
    · exact Kept.refl _
    · split
      · rename_i z4 z5 z6
        refine Kept.trans ?_ (State.retrainStart_kept ..)
        refine Kept.eqn z6 ?_
        refine Kept.trans ?_ (State.edcTry_kept ..)
        refine Kept.trans ?_ (State.edcTry_kept ..)
        exact Kept.refl _
      · rename_i z7 z8 z9
        refine Kept.eqn z9 ?_
        refine Kept.trans ?_ (State.edcTry_kept ..)
        refine Kept.trans ?_ (State.edcTry_kept ..)
        exact Kept.refl _
  clear_value x0
  refine Kept.trans ?_ (Kept.foldl (fun t10 x11 => ?_) _ _)
  · exact h1
  · refine Kept.trans ?_ (State.symCorr_kept ..)
    exact Kept.refl _

theorem State.showPins_kept (s : State) (p pin : Nat) (up : Bool) : Kept s (State.showPins s p pin up) := by
  unfold State.showPins
  lift_lets
  intro x0
  clear_value x0
  intro x1
  clear_value x1
  intro x2
  clear_value x2
  intro x3
  clear_value x3
  refine Kept.trans ?_ (State.wr_kept ..)
  refine Kept.trans ?_ (State.wr_kept ..)
  exact Kept.refl _

theorem execChannelWearWindow_kept (p : Fin 18) (edc : List (Nat × Nat × Nat)) (sym : List (Nat × Sym)) (pin : Fin 16) (up : Bool) (s : State) : Sound s (execChannelWearWindow p edc sym pin up s) := by
  unfold execChannelWearWindow
  lift_lets
  intro x0
  have h1 : Kept s x0 := by
    unfold x0
    refine Kept.trans ?_ (State.secondMet_kept ..)
    refine Kept.trans ?_ (State.secondNow_kept ..)
    exact Kept.refl _
  clear_value x0
  intro x2
  have h3 : Kept s x2 := by
    unfold x2
    refine Kept.trans ?_ (State.showPins_kept ..)
    refine Kept.trans ?_ (State.passTo_kept ..)
    exact h1
  clear_value x2
  intro x4
  clear_value x4
  intro x5
  have h6 : Kept s x5 := by
    unfold x5
    refine Kept.trans ?_ (State.second_kept ..)
    exact h3
  clear_value x5
  refine Sound.ite (fun z7 => ?_) (fun z7 => ?_)
  · refine Sound.next ?_
    exact Kept.refl _
  · refine Sound.ite (fun z8 => ?_) (fun z8 => ?_)
    · refine Sound.next ?_
      exact Kept.refl _
    · refine Sound.of ?_ (fin_kept ..)
      refine Kept.ite (fun z9 => ?_) (fun z9 => ?_)
      · refine Kept.trans ?_ (State.migrateWorn_kept ..)
        refine Kept.trans ?_ (State.raise_kept ..)
        exact h6
      · exact h6

theorem State.mapTo_kept (s : State) (lch : Nat) (old : Nat) (new : Nat) : Kept s (State.mapTo s lch old new) := by
  unfold State.mapTo
  lift_lets
  intro x0
  have h1 : Kept s x0 := by
    unfold x0
    refine Kept.trans ?_ (State.setCh_kept ..)
    refine Kept.trans ?_ (State.setCh_kept ..)
    refine Kept.trans ?_ (State.wr_kept ..)
    exact Kept.refl _
  clear_value x0
  refine Kept.trans ?_ (State.wr_kept ..)
  refine Kept.trans ?_ (State.wr_kept ..)
  exact h1

theorem State.takeNew_kept (s : State) (g : Migration) : Kept s (State.takeNew s g) := by
  unfold State.takeNew
  lift_lets
  intro x0
  clear_value x0
  intro x1
  clear_value x1
  intro x2
  have h3 : Kept s x2 := by
    unfold x2
    refine Kept.trans ?_ (Kept.record ..)
    exact Kept.refl _
  clear_value x2
  refine Kept.trans ?_ (Kept.foldl (fun t4 x5 => ?_) _ _)
  · exact h3
  · lift_lets
    intro x6
    have h7 : Kept t4 x6 := by
      unfold x6
      refine Kept.ite (fun z8 => ?_) (fun z8 => ?_)
      · exact Kept.refl _
      · refine Kept.trans ?_ (State.setBad_kept ..)
        exact Kept.refl _
    clear_value x6
    refine Kept.trans ?_ (Kept.record ..)
    exact h7

theorem execMigrationSwitch_kept (s : State) : Sound s (execMigrationSwitch s) := by
  unfold execMigrationSwitch
  split
  · rename_i z0 z1
    refine Sound.next ?_
    exact Kept.refl _
  · rename_i z2 z3 z4
    lift_lets
    intro x5
    have h6 : Kept s x5 := by
      unfold x5
      refine Kept.trans ?_ (State.copySync_kept ..)
      refine Kept.trans ?_ (State.passTo_kept ..)
      exact Kept.refl _
    clear_value x5
    intro x7
    clear_value x7
    refine Sound.ite (fun z8 => ?_) (fun z8 => ?_)
    · refine Sound.next ?_
      exact Kept.refl _
    · split
      · rename_i z9 z10 z11
        refine Sound.of ?_ (fin_kept ..)
        refine Kept.eqn z11 ?_
        refine Kept.trans ?_ (State.audRepair_kept ..)
        exact h6
      · rename_i z12 z13 z14
        lift_lets
        intro x15
        have h16 : Kept s x15 := by
          unfold x15
          refine Kept.trans ?_ (State.mapTo_kept ..)
          refine Kept.trans ?_ (State.wr_kept ..)
          refine Kept.trans ?_ (State.takeNew_kept ..)
          refine Kept.eqn z14 ?_
          refine Kept.trans ?_ (State.audRepair_kept ..)
          exact h6
        clear_value x15
        intro x17
        clear_value x17
        intro x18
        have h19 : Kept s x18 := by
          unfold x18
          refine Kept.trans ?_ (Kept.record ..)
          exact h16
        clear_value x18
        intro x20
        have h21 : Kept s x20 := by
          unfold x20
          refine Kept.trans ?_ (State.condClear_kept ..)
          exact h19
        clear_value x20
        intro x22
        have h23 : Kept s x22 := by
          unfold x22
          refine Kept.trans ?_ (State.evPost_kept ..)
          exact h21
        clear_value x22
        refine Sound.of ?_ (fin_kept ..)
        refine Kept.trans ?_ (State.raise_kept ..)
        refine Kept.trans ?_ (State.drawn_kept ..)
        exact h23

theorem State.errinjWrite_kept (s : State) (m : Mst) (p : Nat) (v : Word) : Kept s (State.errinjWrite s m p v) := by
  unfold State.errinjWrite
  lift_lets
  intro x0
  clear_value x0
  intro x1
  clear_value x1
  intro x2
  clear_value x2
  intro x3
  clear_value x3
  split
  · rename_i z5 z6 z7
    refine Kept.eqn z7 ?_
    refine Kept.trans ?_ (State.cfgPut_kept ..)
    exact Kept.refl _
  · rename_i z11 z12 z13
    lift_lets
    intro x14
    clear_value x14
    refine Kept.ite (fun z15 => ?_) (fun z15 => ?_)
    · refine Kept.trans ?_ (Kept.record ..)
      refine Kept.eqn z13 ?_
      refine Kept.trans ?_ (State.cfgPut_kept ..)
      exact Kept.refl _
    · refine Kept.eqn z13 ?_
      refine Kept.trans ?_ (State.cfgPut_kept ..)
      exact Kept.refl _

theorem execErrinjArm_kept (m : Mst) (p : Fin 18) (v : Word) (s : State) : Sound s (execErrinjArm m p v s) := by
  unfold execErrinjArm
  refine Sound.of ?_ (regWriteRow_kept (h_f := fun u0 y1 => ?_) ..)
  · exact Kept.refl _
  · refine Kept.trans ?_ (State.errinjWrite_kept ..)
    exact Kept.refl _

theorem State.allocWrite_kept (s : State) (m : Mst) (v : Word) : Kept s (State.allocWrite s m v) := by
  unfold State.allocWrite
  lift_lets
  intro x0
  clear_value x0
  intro x1
  clear_value x1
  intro x2
  clear_value x2
  intro x3
  clear_value x3
  intro x4
  clear_value x4
  intro x5
  have h6 : Kept s x5 := by
    unfold x5
    refine Kept.trans ?_ (State.cfgPut_kept ..)
    exact Kept.refl _
  clear_value x5
  refine Kept.ite (fun z7 => ?_) (fun z7 => ?_)
  · exact Kept.refl _
  · refine Kept.ite (fun z8 => ?_) (fun z8 => ?_)
    · refine Kept.trans ?_ (State.count_kept ..)
      exact h6
    · exact h6

theorem execAllocEntryWrite_kept (m : Mst) (v : Word) (s : State) : Sound s (execAllocEntryWrite m v s) := by
  unfold execAllocEntryWrite
  refine Sound.of ?_ (regWriteRow_kept (h_f := fun u0 y1 => ?_) ..)
  · exact Kept.refl _
  · refine Kept.trans ?_ (State.allocWrite_kept ..)
    exact Kept.refl _

theorem State.repin_kept (s : State) : Kept s (State.repin s) := by
  unfold State.repin
  lift_lets
  intro x0
  have h1 : Kept s x0 := by
    unfold x0
    refine Kept.trans ?_ (State.wr_kept ..)
    exact Kept.refl _
  clear_value x0
  intro x4
  clear_value x4
  refine Kept.trans ?_ (Kept.record ..)
  exact h1

theorem State.pinOne_kept (s : State) (c : Bool × Nat) : Kept s (State.pinOne s c) := by
  unfold State.pinOne
  refine Kept.ite (fun z0 => ?_) (fun z0 => ?_)
  · exact Kept.refl _
  · refine Kept.ite (fun z3 => ?_) (fun z3 => ?_)
    · refine Kept.trans ?_ (Kept.record ..)
      exact Kept.refl _
    · refine Kept.trans ?_ (State.count_kept ..)
      exact Kept.refl _

theorem execPlacementWindow_kept (obs : List (Bool × Nat × Nat)) (s : State) : Sound s (execPlacementWindow obs s) := by
  unfold execPlacementWindow
  refine Sound.ite (fun _ => Sound.next (Kept.refl s)) (fun _ => Sound.ite (fun _ => Sound.next (Kept.refl s)) (fun _ => ?_))
  refine Sound.of ?_ (fin_kept ..)
  refine Kept.trans ?_ (State.repin_kept ..)
  refine Kept.trans ?_ (Kept.foldl (fun t o => State.pinOne_kept ..) _ _)
  exact (State.passTo_kept ..).trans (Kept.record ..)

theorem State.placeWrite_kept (s : State) (m : Mst) (v : Word) : Kept s (State.placeWrite s m v) := by
  unfold State.placeWrite
  split
  · rename_i z1 z2 z3
    refine Kept.eqn z3 ?_
    refine Kept.trans ?_ (State.cfgWrite_kept ..)
    exact Kept.refl _
  · rename_i z7 z8 z9
    refine Kept.ite (fun z10 => ?_) (fun z10 => ?_)
    · refine Kept.eqn z9 ?_
      refine Kept.trans ?_ (State.cfgWrite_kept ..)
      exact Kept.refl _
    · refine Kept.trans ?_ (State.repin_kept ..)
      refine Kept.trans ?_ (Kept.record ..)
      refine Kept.eqn z9 ?_
      refine Kept.trans ?_ (State.cfgWrite_kept ..)
      exact Kept.refl _

theorem State.gatePut_kept (s : State) (m : Mst) (g : Nat) (addr : Nat) (r : Reg) (new : Word) (lock : Bool) : Kept s (State.gatePut s m g addr r new lock) := by
  unfold State.gatePut
  split
  · rename_i z1 z2 z3
    refine Kept.eqn z3 ?_
    refine Kept.trans ?_ (State.cfgPut_kept ..)
    exact Kept.refl _
  · rename_i z7 z8 z9
    refine Kept.trans ?_ (State.count_kept ..)
    refine Kept.eqn z9 ?_
    refine Kept.trans ?_ (State.cfgPut_kept ..)
    exact Kept.refl _

theorem State.gateEntryPut_kept (s : State) (m : Mst) (g : Nat) (e : Nat) (w : Nat) (v : Word) : Kept s (State.gateEntryPut s m g e w v) := by
  unfold State.gateEntryPut
  refine Kept.ite (fun z0 => ?_) (fun z0 => ?_)
  · exact Kept.refl _
  · lift_lets
    intro x3
    clear_value x3
    refine Kept.trans ?_ (State.gatePut_kept ..)
    exact Kept.refl _

theorem execGateEntryWrite_kept (m : Mst) (g : Fin 23) (e : Fin 64) (w : Fin 2) (v : Word) (s : State) : Sound s (execGateEntryWrite m g e w v s) := by
  unfold execGateEntryWrite
  refine Sound.of ?_ (regWriteRow_kept (h_f := fun u0 y1 => ?_) ..)
  · exact Kept.refl _
  · refine Kept.trans ?_ (State.gateEntryPut_kept ..)
    exact Kept.refl _

theorem State.gateCtlPut_kept (s : State) (m : Mst) (g : Nat) (v : Word) : Kept s (State.gateCtlPut s m g v) := by
  unfold State.gateCtlPut
  refine Kept.ite (fun z0 => ?_) (fun z0 => ?_)
  · exact Kept.refl _
  · lift_lets
    intro x3
    clear_value x3
    intro x4
    clear_value x4
    refine Kept.trans ?_ (State.gatePut_kept ..)
    exact Kept.refl _

theorem execGateCtlWrite_kept (m : Mst) (g : Fin 23) (v : Word) (s : State) : Sound s (execGateCtlWrite m g v s) := by
  unfold execGateCtlWrite
  refine Sound.of ?_ (regWriteRow_kept (h_f := fun u0 y1 => ?_) ..)
  · exact Kept.refl _
  · refine Kept.trans ?_ (State.gateCtlPut_kept ..)
    exact Kept.refl _

theorem State.reply_kept (s : State) (m : Mst) (req : Option MgmtReq) (v : Word) : Kept s (State.reply s m req v) := by
  unfold State.reply
  split
  · rename_i z1
    refine Kept.trans ?_ (State.answer_kept ..)
    exact Kept.refl _
  · rename_i z4 z5
    refine Kept.trans ?_ (State.mgmtAnswer_kept ..)
    exact Kept.refl _

theorem State.fenceRead_kept (s : State) (m : Mst) (g : Nat) (req : Option MgmtReq) : Kept s (State.fenceRead s m g req) := by
  unfold State.fenceRead
  refine Kept.ite (fun z0 => ?_) (fun z0 => ?_)
  · refine Kept.trans ?_ (Kept.record ..)
    exact Kept.refl _
  · refine Kept.trans ?_ (State.reply_kept ..)
    exact Kept.refl _

theorem execGateFenceRead_kept (m : Mst) (g : Fin 23) (s : State) : Sound s (execGateFenceRead m g s) := by
  unfold execGateFenceRead
  refine Sound.of ?_ (regReadRow_kept _ _ _ _ ?_)
  · exact Kept.refl _
  · intro y2
    refine Kept.trans ?_ (State.fenceRead_kept ..)
    exact Kept.refl _

theorem execGateFenceTimeout_kept (m : Mst) (g : Fin 23) (s : State) : Sound s (execGateFenceTimeout m g s) := by
  unfold execGateFenceTimeout
  split
  · rename_i z1 z2
    refine Sound.next ?_
    exact Kept.refl _
  · rename_i z5 z6 z7
    lift_lets
    intro x8
    clear_value x8
    intro x9
    have h10 : Kept s x9 := by
      unfold x9
      refine Kept.trans ?_ (Kept.record ..)
      exact Kept.refl _
    clear_value x9
    refine Sound.ite (fun z13 => ?_) (fun z13 => ?_)
    · refine Sound.of ?_ (fin_kept ..)
      refine Kept.trans ?_ (State.reply_kept ..)
      refine Kept.trans ?_ (State.passTo_kept ..)
      exact h10
    · refine Sound.of ?_ (fin_kept ..)
      refine Kept.trans ?_ (State.reply_kept ..)
      exact h10

theorem State.ownedReads_kept (s : State) (n : Nat) (m : Mst) : Kept s (State.ownedReads s n m) := by
  unfold State.ownedReads
  lift_lets
  intro x0
  clear_value x0
  intro x1
  clear_value x1
  refine Kept.ite (fun z2 => ?_) (fun z2 => ?_)
  · refine Kept.trans ?_ (Kept.foldl (fun t3 x4 => ?_) _ _)
    · refine Kept.trans ?_ (State.setClaims_kept ..)
      exact Kept.refl _
    · refine Kept.trans ?_ (State.reply_kept ..)
      exact Kept.refl _
  · exact Kept.refl _

theorem State.semAcq_kept (s : State) (m : Mst) (n : Nat) (req : Option MgmtReq) : Kept s (State.semAcq s m n req) := by
  unfold State.semAcq
  refine Kept.ite (fun z0 => ?_) (fun z0 => ?_)
  · refine Kept.trans ?_ (State.reply_kept ..)
    refine Kept.trans ?_ (State.count_kept ..)
    exact Kept.refl _
  · refine Kept.ite (fun z1 => ?_) (fun z1 => ?_)
    · refine Kept.trans ?_ (State.reply_kept ..)
      exact Kept.refl _
    · refine Kept.ite (fun z2 => ?_) (fun z2 => ?_)
      · refine Kept.trans ?_ (State.setClaims_kept ..)
        exact Kept.refl _
      · split
        rename_i z3 z4 z5 z6
        refine Kept.trans ?_ (State.reply_kept ..)
        refine Kept.eqn z6 ?_
        refine Kept.trans ?_ (State.semTake_kept ..)
        exact Kept.refl _

theorem execSemAcqRead_kept (m : Mst) (n : Fin 4096) (s : State) : Sound s (execSemAcqRead m n s) := by
  unfold execSemAcqRead
  refine Sound.of ?_ (regReadRow_kept _ _ _ _ ?_)
  · exact Kept.refl _
  · intro y2
    refine Kept.trans ?_ (State.semAcq_kept ..)
    exact Kept.refl _

theorem State.semTryWord_kept (s : State) (m : Mst) (n : Nat) (req : Option MgmtReq) : Kept s (State.semTryWord s m n req) := by
  unfold State.semTryWord
  split
  rename_i z0 z1 z2 z3
  refine Kept.trans ?_ (State.ownedReads_kept ..)
  refine Kept.trans ?_ (State.reply_kept ..)
  refine Kept.eqn z3 ?_
  refine Kept.trans ?_ (State.semTry_kept ..)
  exact Kept.refl _

theorem execSemTryRead_kept (m : Mst) (n : Fin 4096) (s : State) : Sound s (execSemTryRead m n s) := by
  unfold execSemTryRead
  refine Sound.of ?_ (regReadRow_kept _ _ _ _ ?_)
  · exact Kept.refl _
  · intro y2
    refine Kept.trans ?_ (State.semTryWord_kept ..)
    exact Kept.refl _

theorem State.semRelPut_kept (s : State) (m : Mst) (n : Nat) (v : Word) : Kept s (State.semRelPut s m n v) := by
  unfold State.semRelPut
  refine Kept.ite (fun z0 => ?_) (fun z0 => ?_)
  · refine Kept.trans ?_ (State.semRelease_kept ..)
    exact Kept.refl _
  · exact Kept.refl _

theorem execSemRelWrite_kept (m : Mst) (n : Fin 4096) (v : Word) (s : State) : Sound s (execSemRelWrite m n v s) := by
  unfold execSemRelWrite
  refine Sound.of ?_ (regWriteRow_kept (h_f := fun u0 y1 => ?_) ..)
  · exact Kept.refl _
  · refine Kept.trans ?_ (State.semRelPut_kept ..)
    exact Kept.refl _

theorem State.claimGo_kept (s : State) (n : Nat) (c : Claim) : Kept s (State.claimGo s n c) := by
  unfold State.claimGo
  split
  rename_i z0 z1 z2 z3
  lift_lets
  intro x4
  clear_value x4
  refine Kept.ite (fun z5 => ?_) (fun z5 => ?_)
  · split
    · rename_i z6 z7 z8 z9
      refine Kept.trans ?_ (State.setCtx_kept ..)
      refine Kept.trans ?_ (State.adv_kept ..)
      refine Kept.trans ?_ (State.setG_kept ..)
      refine Kept.eqn z3 ?_
      refine Kept.trans ?_ (State.semTake_kept ..)
      exact Kept.refl _
    · rename_i z10 z11
      refine Kept.eqn z3 ?_
      refine Kept.trans ?_ (State.semTake_kept ..)
      exact Kept.refl _
  · refine Kept.trans ?_ (State.ownedReads_kept ..)
    refine Kept.trans ?_ (State.reply_kept ..)
    refine Kept.eqn z3 ?_
    refine Kept.trans ?_ (State.semTake_kept ..)
    exact Kept.refl _

theorem State.semLate_kept (s : State) (n : Nat) : Kept s (State.semLate s n) := by
  unfold State.semLate
  lift_lets
  intro x0
  clear_value x0
  refine Kept.ite (fun z1 => ?_) (fun z1 => ?_)
  · exact Kept.refl _
  · refine Kept.trans ?_ (Kept.foldl (fun t2 x3 => ?_) _ _)
    · refine Kept.trans ?_ (State.setClaims_kept ..)
      exact Kept.refl _
    · refine Kept.trans ?_ (State.reply_kept ..)
      exact Kept.refl _

theorem execSemaphoreClaimGrant_kept (n : Fin 4096) (s : State) : Sound s (execSemaphoreClaimGrant n s) := by
  unfold execSemaphoreClaimGrant
  lift_lets
  intro x0
  have h1 : Kept s x0 := by
    unfold x0
    refine Kept.trans ?_ (State.semLate_kept ..)
    exact Kept.refl _
  clear_value x0
  intro x2
  clear_value x2
  intro x3
  clear_value x3
  refine Sound.ite (fun z4 => ?_) (fun z4 => ?_)
  · refine Sound.next ?_
    exact Kept.refl _
  · split
    · rename_i z5 z6
      refine Sound.of ?_ (fin_kept ..)
      exact h1
    · rename_i z7 z8 z9
      refine Sound.of ?_ (fin_kept ..)
      refine Kept.trans ?_ (State.claimGo_kept ..)
      refine Kept.trans ?_ (State.setClaims_kept ..)
      refine Kept.trans ?_ (State.semPoint_kept ..)
      exact h1

theorem execSemAcqTimeout_kept (m : Mst) (n : Fin 4096) (s : State) : Sound s (execSemAcqTimeout m n s) := by
  unfold execSemAcqTimeout
  refine Sound.ite (fun z0 => ?_) (fun z0 => ?_)
  · refine Sound.next ?_
    exact Kept.refl _
  · split
    · rename_i z5 z6
      refine Sound.next ?_
      exact Kept.refl _
    · rename_i z9 z10 z11
      lift_lets
      intro x12
      have h13 : Kept s x12 := by
        unfold x12
        refine Kept.trans ?_ (State.setClaims_kept ..)
        refine Kept.trans ?_ (State.passTo_kept ..)
        exact Kept.refl _
      clear_value x12
      refine Sound.of ?_ (fin_kept ..)
      refine Kept.trans ?_ (State.reply_kept ..)
      exact h13

theorem Kept.fusePending (s : State) (p : Option Nat) :
    Kept s { s with fuses := { s.fuses with pending := p } } :=
  ⟨rfl, fun i => ⟨i.mem, i.pal, i.regs⟩, Nat.le_refl _⟩

theorem State.lcsPut_kept (s : State) (m : Mst) (v : Word) : Kept s (State.lcsPut s m v) := by
  unfold State.lcsPut
  dsimp only
  refine Kept.ite (fun _ => Kept.refl s) (fun _ => ?_)
  split
  · rename_i e
    exact Kept.eqn e (State.askRec_kept _ _ _ _ _ _)
  · rename_i e
    have hk := Kept.eqn e (State.askRec_kept _ _ _ _ _ _)
    refine Kept.trans ?_ (Kept.fusePending _ _)
    refine Kept.trans ?_ (State.set_kept _ _ _)
    refine Kept.trans ?_ (State.wr_kept _ _ _)
    refine Kept.trans ?_ (State.wr_kept _ _ _)
    refine Kept.trans ?_ (State.evPost_kept _ _ _ _ _ _ _)
    exact hk

theorem execLcsAdvance_kept (m : Mst) (v : Word) (s : State) : Sound s (execLcsAdvance m v s) := by
  unfold execLcsAdvance
  refine Sound.of ?_ (regWriteRow_kept (h_f := fun u0 y1 => ?_) ..)
  · exact Kept.refl _
  · refine Kept.trans ?_ (State.lcsPut_kept ..)
    exact Kept.refl _

theorem State.forceRaise_kept (s : State) (m : Mst) (n : Nat) : Kept s (State.forceRaise s m n) := by
  unfold State.forceRaise
  lift_lets
  intro x0
  clear_value x0
  intro x1
  have h2 : Kept s x1 := by
    unfold x1
    refine Kept.trans ?_ (State.raise_kept ..)
    exact Kept.refl _
  clear_value x1
  refine Kept.ite (fun z5 => ?_) (fun z5 => ?_)
  · refine Kept.trans ?_ (State.chFail_kept ..)
    exact h2
  · exact h2

theorem State.fltSrcClear_kept (s : State) (n : Nat) (v : Word) : Kept s (State.fltSrcClear s n v) := by
  unfold State.fltSrcClear
  lift_lets
  intro x0
  have h1 : Kept s x0 := by
    unfold x0
    refine Kept.ite (fun z2 => ?_) (fun z2 => ?_)
    · refine Kept.trans ?_ (State.fltStatus_kept ..)
      refine Kept.trans ?_ (State.wr_kept ..)
      exact Kept.refl _
    · exact Kept.refl _
  clear_value x0
  refine Kept.ite (fun z3 => ?_) (fun z3 => ?_)
  · refine Kept.trans ?_ (State.wr_kept ..)
    exact h1
  · exact h1

theorem State.fltSrcPut_kept (s : State) (m : Mst) (n : Nat) (v : Word) : Kept s (State.fltSrcPut s m n v) := by
  unfold State.fltSrcPut
  lift_lets
  intro x0
  clear_value x0
  intro x1
  clear_value x1
  intro x2
  clear_value x2
  refine Kept.ite (fun z3 => ?_) (fun z3 => ?_)
  · exact Kept.refl _
  · refine Kept.ite (fun z4 => ?_) (fun z4 => ?_)
    · split
      · rename_i z5 z6 z7
        refine Kept.eqn z7 ?_
        refine Kept.trans ?_ (State.askRec_kept ..)
        exact Kept.refl _
      · rename_i z8 z9 z10
        lift_lets
        intro x11
        have h12 : Kept s x11 := by
          unfold x11
          refine Kept.trans ?_ (State.forceRaise_kept ..)
          refine Kept.trans ?_ (State.fltSrcClear_kept ..)
          refine Kept.eqn z10 ?_
          refine Kept.trans ?_ (State.askRec_kept ..)
          exact Kept.refl _
        clear_value x11
        refine Kept.ite (fun z13 => ?_) (fun z13 => ?_)
        · refine Kept.trans ?_ (State.wr_kept ..)
          exact h12
        · exact h12
    · refine Kept.ite (fun z14 => ?_) (fun z14 => ?_)
      · split
        · rename_i z15 z16 z17
          refine Kept.eqn z17 ?_
          refine Kept.trans ?_ (State.askRec_kept ..)
          exact Kept.refl _
        · rename_i z18 z19 z20
          refine Kept.trans ?_ (State.wr_kept ..)
          refine Kept.trans ?_ (State.fltSrcClear_kept ..)
          refine Kept.eqn z20 ?_
          refine Kept.trans ?_ (State.askRec_kept ..)
          exact Kept.refl _
      · refine Kept.trans ?_ (State.fltSrcClear_kept ..)
        exact Kept.refl _

theorem execFaultForce_kept (m : Mst) (n : Fin 1536) (v : Word) (s : State) : Sound s (execFaultForce m n v s) := by
  unfold execFaultForce
  refine Sound.of ?_ (regWriteRow_kept (h_f := fun u0 y1 => ?_) ..)
  · exact Kept.refl _
  · refine Kept.trans ?_ (State.fltSrcPut_kept ..)
    exact Kept.refl _

theorem execFltSrcSevWrite_kept (m : Mst) (n : Fin 1536) (v : Word) (s : State) : Sound s (execFltSrcSevWrite m n v s) := by
  unfold execFltSrcSevWrite
  refine Sound.of ?_ (regWriteRow_kept (h_f := fun u0 y1 => ?_) ..)
  · exact Kept.refl _
  · refine Kept.trans ?_ (State.fltSrcPut_kept ..)
    exact Kept.refl _

theorem execFaultClrcnt_kept (m : Mst) (n : Fin 1536) (v : Word) (s : State) : Sound s (execFaultClrcnt m n v s) := by
  unfold execFaultClrcnt
  refine Sound.of ?_ (regWriteRow_kept (h_f := fun u0 y1 => ?_) ..)
  · exact Kept.refl _
  · refine Kept.trans ?_ (State.fltSrcPut_kept ..)
    exact Kept.refl _

theorem State.fltDomPut_kept (s : State) (d : Nat) (v : Word) : Kept s (State.fltDomPut s d v) := by
  unfold State.fltDomPut
  refine Kept.ite (fun z0 => ?_) (fun z0 => ?_)
  · refine Kept.trans ?_ (Kept.foldl (fun t2 x3 => ?_) _ _)
    · exact Kept.refl _
    · refine Kept.trans ?_ (State.set_kept ..)
      exact Kept.refl _
  · exact Kept.refl _

theorem execFaultRecordClear_kept (m : Mst) (d : Fin 64) (v : Word) (s : State) : Sound s (execFaultRecordClear m d v s) := by
  unfold execFaultRecordClear
  refine Sound.of ?_ (regWriteRow_kept (h_f := fun u0 y1 => ?_) ..)
  · exact Kept.refl _
  · refine Kept.trans ?_ (State.fltDomPut_kept ..)
    exact Kept.refl _

theorem State.fltPinPut_kept (s : State) (m : Mst) (v : Word) : Kept s (State.fltPinPut s m v) := by
  unfold State.fltPinPut
  lift_lets
  intro x0
  clear_value x0
  intro x1
  clear_value x1
  split
  · rename_i z2 z3 z4
    refine Kept.eqn z4 ?_
    refine Kept.trans ?_ (State.cfgPut_kept ..)
    exact Kept.refl _
  · rename_i z5 z6 z7
    refine Kept.ite (fun z8 => ?_) (fun z8 => ?_)
    · refine Kept.trans ?_ (State.wr_kept ..)
      refine Kept.eqn z7 ?_
      refine Kept.trans ?_ (State.cfgPut_kept ..)
      exact Kept.refl _
    · refine Kept.eqn z7 ?_
      refine Kept.trans ?_ (State.cfgPut_kept ..)
      exact Kept.refl _

theorem execFaultRelease_kept (m : Mst) (v : Word) (s : State) : Sound s (execFaultRelease m v s) := by
  unfold execFaultRelease
  refine Sound.of ?_ (regWriteRow_kept (h_f := fun u0 y1 => ?_) ..)
  · exact Kept.refl _
  · refine Kept.trans ?_ (State.fltPinPut_kept ..)
    exact Kept.refl _

theorem State.fltCfgPut_kept (s : State) (m : Mst) (v : Word) : Kept s (State.fltCfgPut s m v) := by
  unfold State.fltCfgPut
  lift_lets
  intro x0
  clear_value x0
  intro x1
  clear_value x1
  refine Kept.trans ?_ (State.cfgPut_kept ..)
  exact Kept.refl _

theorem State.copyPalette_kept (s : State) (a b : Nat) : Kept s (State.copyPalette s a b) :=
  ⟨rfl, fun i => ⟨i.mem, Memory.copy_wf _ _ _ (Memory.filter_wf _ _ i.pal), i.regs⟩, Nat.le_refl _⟩

theorem swapCtxReg_swap (a b : Nat) (r : Reg) : swapCtxReg a b (swapCtxReg a b r) = r := by
  have f (c : Nat) : (let f := fun c : Nat => if c / 8 = a then 8 * b + c % 8 else if c / 8 = b then 8 * a + c % 8 else c
      f (f c)) = c := by
    dsimp only
    repeat' split
    all_goals omega
  have g (e : Nat) : (let f := fun e : Nat => if e = a then b else if e = b then a else e
      f (f e)) = e := by
    dsimp only
    repeat' split
    all_goals omega
  cases r with
  | csr c w => cases w with
    | zero => rfl
    | succ w => simpa [swapCtxReg] using f c
  | engStat e => simpa [swapCtxReg] using g e
  | _ => first
    | rfl
    | simpa [swapCtxReg] using f _

theorem State.swapRegs_kept (s : State) (a b : Nat) :
    Kept s { s with regs := s.regs.map fun (c : Reg × Word) => (swapCtxReg a b c.1, c.2) } := by
  refine ⟨rfl, fun i => ⟨i.mem, i.pal, ?_⟩, Nat.le_refl _⟩
  have h : (s.regs.map fun (c : Reg × Word) => (swapCtxReg a b c.1, c.2)).map Prod.fst
      = (s.regs.map Prod.fst).map (swapCtxReg a b) := by simp [List.map_map, Function.comp_def]
  rw [h]
  exact List.Pairwise.map _ (fun x y e g => e (by rw [← swapCtxReg_swap a b x, g, swapCtxReg_swap])) i.regs

theorem State.engSubstitute_kept (s : State) (i l : Nat) (ens : List Nat) : Kept s (State.engSubstitute s i l ens) := by
  have h := (State.copyPalette_kept s (17 * i + l) (17 * i + 16)).trans
    (State.swapRegs_kept _ (17 * i + l) (17 * i + 16))
  unfold State.engSubstitute
  refine Kept.trans ?_ (Kept.foldl (fun t c => (State.wr_kept ..).trans (State.enSets_kept _ _)) _ _)
  refine ((h.trans ((State.setEng_kept ..).trans ((State.setSteerQ_kept ..).trans (State.setSteerQ_kept ..)))).trans
    (Kept.foldl (fun t k => ?_) _ _)).trans ((State.wr_kept ..).trans ((State.wr_kept ..).trans (State.wr_kept ..)))
  exact State.set_kept _ _ _

theorem State.resteer_kept (s : State) (i : Nat) (l : Nat) : Kept s (State.resteer s i l) := by
  unfold State.resteer
  lift_lets
  intro x0
  clear_value x0
  intro x1
  clear_value x1
  refine Kept.ite (fun z2 => ?_) (fun z2 => ?_)
  · exact Kept.refl _
  · refine Kept.trans ?_ (Kept.foldl (fun t5 x6 => ?_) _ _)
    · exact Kept.refl _
    · lift_lets
      intro x9
      have h10 : Kept t5 x9 := by
        unfold x9
        refine Kept.trans ?_ (State.wr_kept ..)
        exact Kept.refl _
      clear_value x9
      intro x13
      clear_value x13
      refine Kept.trans ?_ (Kept.record ..)
      exact h10

theorem State.engSwitchOff_kept (s : State) (i : Nat) (l : Nat) : Kept s (State.engSwitchOff s i l) := by
  unfold State.engSwitchOff
  lift_lets
  intro x0
  clear_value x0
  intro x1
  have h2 : Kept s x1 := by
    unfold x1
    refine Kept.trans ?_ (State.wr_kept ..)
    exact Kept.refl _
  clear_value x1
  intro x5
  have h6 : Kept s x5 := by
    unfold x5
    refine Kept.trans ?_ (Kept.foldl (fun t7 x8 => ?_) _ _)
    · exact h2
    · refine Kept.trans ?_ (State.wr_kept ..)
      exact Kept.refl _
  clear_value x5
  refine Kept.trans ?_ (State.resteer_kept ..)
  exact h6

theorem State.retireGo_kept (s : State) (i l : Nat) (ens : List Nat) (spare : Bool) : Kept s (State.retireGo s i l ens spare) := by
  unfold State.retireGo
  lift_lets
  intro x0
  clear_value x0
  intro x1
  clear_value x1
  intro x2
  have h3 : Kept s x2 := by
    unfold x2
    refine Kept.trans ?_ (Kept.record ..)
    exact Kept.refl _
  clear_value x2
  intro x4
  have h5 : Kept s x4 := by
    unfold x4
    refine Kept.ite (fun z6 => ?_) (fun z6 => ?_)
    · refine Kept.trans ?_ (State.engSubstitute_kept ..)
      exact h3
    · refine Kept.trans ?_ (State.engSwitchOff_kept ..)
      exact h3
  clear_value x4
  refine Kept.ite (fun z7 => ?_) (fun z7 => ?_)
  · refine Kept.trans ?_ (State.raise_kept ..)
    exact h5
  · exact Kept.refl _

theorem execEngineRetire_kept (i : Fin 16) (l : Fin 17) (s : State) : Sound s (execEngineRetire i l s) := by
  unfold execEngineRetire
  lift_lets
  intro x0
  clear_value x0
  intro x1
  clear_value x1
  intro x2
  clear_value x2
  refine Sound.ite (fun z3 => ?_) (fun z3 => ?_)
  · refine Sound.next ?_
    exact Kept.refl _
  · split
    · rename_i z4 z5 z6 z7 z8
      refine Sound.of ?_ (fin_kept ..)
      refine Kept.trans ?_ (State.retireGo_kept ..)
      exact Kept.refl _
    · rename_i z9 z10
      refine Sound.ite (fun z11 => ?_) (fun z11 => ?_)
      · refine Sound.next ?_
        exact Kept.refl _
      · refine Sound.ite (fun z12 => ?_) (fun z12 => ?_)
        · refine Sound.of ?_ (fin_kept ..)
          refine Kept.trans ?_ (State.raise_kept ..)
          exact Kept.refl _
        · split
          · rename_i z13 z14 z15
            refine Sound.of ?_ (fin_kept ..)
            refine Kept.eqn z15 ?_
            refine Kept.trans ?_ (State.audRepair_kept ..)
            exact Kept.refl _
          · rename_i z16 z17 z18
            lift_lets
            intro x19
            clear_value x19
            intro x20
            clear_value x20
            intro x21
            have h22 : Kept s x21 := by
              unfold x21
              refine Kept.trans ?_ (Kept.record ..)
              refine Kept.eqn z18 ?_
              refine Kept.trans ?_ (State.audRepair_kept ..)
              exact Kept.refl _
            clear_value x21
            refine Sound.of ?_ (fin_kept ..)
            refine Kept.trans ?_ (State.retireGo_kept ..)
            refine Kept.trans ?_ (Kept.foldl (fun t23 x24 => ?_) _ _)
            · exact h22
            · refine Kept.trans ?_ (State.wr_kept ..)
              exact Kept.refl _

theorem execSoftRepairRecord_kept (addr : BitVec 16) (desc : Word) (s : State) : Sound s (execSoftRepairRecord addr desc s) := by
  unfold execSoftRepairRecord
  lift_lets
  intro x0
  clear_value x0
  intro x1
  clear_value x1
  refine Sound.ite (fun z2 => ?_) (fun z2 => ?_)
  · refine Sound.next ?_
    exact Kept.refl _
  · refine Sound.ite (fun z3 => ?_) (fun z3 => ?_)
    · split
      · rename_i z4 z5 z6
        refine Sound.of ?_ (fin_kept ..)
        refine Kept.eqn z6 ?_
        refine Kept.trans ?_ (State.audRepair_kept ..)
        exact Kept.refl _
      · rename_i z7 z8 z9
        lift_lets
        intro x10
        clear_value x10
        refine Sound.of ?_ (fin_kept ..)
        refine Kept.trans ?_ (Kept.record ..)
        refine Kept.eqn z9 ?_
        refine Kept.trans ?_ (State.audRepair_kept ..)
        exact Kept.refl _
    · split
      · rename_i z11 z12 z13
        refine Sound.next ?_
        refine Kept.trans ?_ (State.engError_kept ..)
        exact Kept.refl _
      · rename_i z14 z15
        refine Sound.next ?_
        exact Kept.refl _

theorem execCounterWrap_kept (b : Fin 17) (k : Fin 8) (s : State) : Sound s (execCounterWrap b k s) := by
  unfold execCounterWrap
  refine Sound.ite (fun z0 => ?_) (fun z0 => ?_)
  · refine Sound.next ?_
    refine Kept.trans ?_ (State.cntAdd_kept ..)
    exact Kept.refl _
  · refine Sound.next ?_
    exact Kept.refl _

theorem State.cntGlbPut_kept (s : State) (v : Word) : Kept s (State.cntGlbPut s v) := by
  unfold State.cntGlbPut
  lift_lets
  intro x0
  have h1 : Kept s x0 := by
    unfold x0
    refine Kept.trans ?_ (State.plainWrite_kept ..)
    exact Kept.refl _
  clear_value x0
  refine Kept.ite (fun z4 => ?_) (fun z4 => ?_)
  · refine Kept.trans ?_ (Kept.foldl (fun t6 x7 => ?_) _ _)
    · exact h1
    · refine Kept.trans ?_ (Kept.foldl (fun t10 x11 => ?_) _ _)
      · exact Kept.refl _
      · refine Kept.trans ?_ (State.set_kept ..)
        exact Kept.refl _
  · exact h1

theorem execCounterClear_kept (m : Mst) (v : Word) (s : State) : Sound s (execCounterClear m v s) := by
  unfold execCounterClear
  refine Sound.of ?_ (regWriteRow_kept (h_f := fun u0 y1 => ?_) ..)
  · exact Kept.refl _
  · refine Kept.trans ?_ (State.cntGlbPut_kept ..)
    exact Kept.refl _

theorem execSampleRingCopy_kept (s : State) : Sound s (execSampleRingCopy s) := by
  unfold execSampleRingCopy
  split
  · rename_i z1 z2
    refine Sound.next ?_
    exact Kept.refl _
  · rename_i z5 z6 z7 z8
    lift_lets
    intro x9
    clear_value x9
    intro x10
    clear_value x10
    intro x11
    have h12 : Kept s x11 := by
      unfold x11
      refine Kept.trans ?_ (Kept.record ..)
      exact Kept.refl _
    clear_value x11
    intro x15
    have h16 : Kept s x15 := by
      unfold x15
      refine Kept.trans ?_ (State.wmEval_kept ..)
      exact h12
    clear_value x15
    intro x19
    have h20 : Kept s x19 := by
      unfold x19
      refine Kept.trans ?_ (State.dma_kept ..)
      exact h16
    clear_value x19
    intro x23
    clear_value x23
    intro x24
    have h25 : Kept s x24 := by
      unfold x24
      refine Kept.trans ?_ (State.wr_kept ..)
      exact h20
    clear_value x24
    refine Sound.ite (fun z28 => ?_) (fun z28 => ?_)
    · refine Sound.next ?_
      exact Kept.refl _
    · refine Sound.of ?_ (fin_kept ..)
      refine Kept.ite (fun z33 => ?_) (fun z33 => ?_)
      · refine Kept.trans ?_ (State.msix_kept ..)
        exact h25
      · exact h25

theorem execInstructionTag_kept (c : CtxNum) (insn : BitVec 32) (stages : List Byte) (held : List Nat) (trapCode : Byte) (memlat : BitVec 16) (addr : Word) (s : State) : Sound s (execInstructionTag c insn stages held trapCode memlat addr s) := by
  unfold execInstructionTag
  split
  · rename_i z0 z1
    refine Sound.next ?_
    exact Kept.refl _
  · rename_i z2 z3 z4 z5
    lift_lets
    intro x6
    have h7 : Kept s x6 := by
      unfold x6
      refine Kept.trans ?_ (State.setCtx_kept ..)
      exact Kept.refl _
    clear_value x6
    refine Sound.ite (fun z8 => ?_) (fun z8 => ?_)
    · refine Sound.of ?_ (fin_kept ..)
      refine Kept.ite (fun z9 => ?_) (fun z9 => ?_)
      · exact h7
      · refine Kept.trans ?_ (State.samplePush_kept ..)
        exact h7
    · refine Sound.next ?_
      exact Kept.refl _

theorem State.bwShow_kept (s : State) : Kept s (State.bwShow s) := by
  unfold State.bwShow
  split
  · rename_i z0 z1
    exact Kept.refl _
  · rename_i z2 z3 z4 z5 z6 z7
    lift_lets
    intro x8
    clear_value x8
    intro x9
    have h10 : Kept s x9 := by
      unfold x9
      refine Kept.trans ?_ (Kept.record ..)
      exact Kept.refl _
    clear_value x9
    refine Kept.trans ?_ (Kept.foldl (fun t11 x12 => ?_) _ _)
    · exact h10
    · refine Kept.trans ?_ (State.wr_kept ..)
      refine Kept.trans ?_ (State.wr_kept ..)
      refine Kept.trans ?_ (State.wr_kept ..)
      exact Kept.refl _

theorem State.passMultiple_kept (s : State) (last : Nat) (p : Nat) : Kept s (State.passMultiple s last p) := by
  unfold State.passMultiple
  refine Kept.ite (fun z0 => ?_) (fun z0 => ?_)
  · exact Kept.refl _
  · refine Kept.trans ?_ (State.passTim_kept ..)
    exact Kept.refl _

theorem execBwWindowEnd_kept (s : State) : Sound s (execBwWindowEnd s) := by
  unfold execBwWindowEnd
  lift_lets
  intro x0
  have h1 : Kept s x0 := by
    unfold x0
    refine Kept.trans ?_ (State.bwEdge_kept ..)
    exact Kept.refl _
  clear_value x0
  intro x2
  have h3 : Kept s x2 := by
    unfold x2
    refine Kept.ite (fun z4 => ?_) (fun z4 => ?_)
    · refine Kept.trans ?_ (State.bwEdge_kept ..)
      refine Kept.trans ?_ (State.passTim_kept ..)
      exact h1
    · exact h1
  clear_value x2
  refine Sound.ite (fun z5 => ?_) (fun z5 => ?_)
  · refine Sound.next ?_
    exact Kept.refl _
  · refine Sound.ite (fun z6 => ?_) (fun z6 => ?_)
    · refine Sound.of ?_ (fin_kept ..)
      refine Kept.trans ?_ (State.bwShow_kept ..)
      exact h3
    · refine Sound.next ?_
      exact Kept.refl _

theorem execPpsOutRise_kept (s : State) : Sound s (execPpsOutRise s) := by
  unfold execPpsOutRise
  refine Sound.ite (fun z0 => ?_) (fun z0 => ?_)
  · lift_lets
    intro x2
    have h3 : Kept s x2 := by
      unfold x2
      refine Kept.trans ?_ (State.passMultiple_kept ..)
      exact Kept.refl _
    clear_value x2
    intro x6
    clear_value x6
    intro x7
    have h8 : Kept s x7 := by
      unfold x7
      refine Kept.trans ?_ (Kept.record ..)
      exact h3
    clear_value x7
    intro x11
    clear_value x11
    refine Sound.ite (fun z12 => ?_) (fun z12 => ?_)
    · refine Sound.of ?_ (fin_kept ..)
      exact h8
    · refine Sound.of ?_ (fin_kept ..)
      refine Kept.trans ?_ (Kept.record ..)
      exact h8
  · refine Sound.next ?_
    exact Kept.refl _

theorem execPpsOutFall_kept (s : State) : Sound s (execPpsOutFall s) := by
  unfold execPpsOutFall
  refine Sound.ite (fun z0 => ?_) (fun z0 => ?_)
  · lift_lets
    intro x2
    have h3 : Kept s x2 := by
      unfold x2
      refine Kept.trans ?_ (State.passTo_kept ..)
      exact Kept.refl _
    clear_value x2
    intro x6
    clear_value x6
    refine Sound.of ?_ (fin_kept ..)
    refine Kept.trans ?_ (Kept.record ..)
    exact h3
  · refine Sound.next ?_
    exact Kept.refl _

theorem execPpsInEdge_kept (s : State) : Sound s (execPpsInEdge s) := by
  unfold execPpsInEdge
  refine Sound.ite (fun z0 => ?_) (fun z0 => ?_)
  · lift_lets
    intro x2
    clear_value x2
    intro x3
    have h4 : Kept s x3 := by
      unfold x3
      refine Kept.trans ?_ (State.wr_kept ..)
      exact Kept.refl _
    clear_value x3
    intro x7
    clear_value x7
    intro x8
    have h9 : Kept s x8 := by
      unfold x8
      refine Kept.trans ?_ (State.condClear_kept ..)
      refine Kept.trans ?_ (Kept.record ..)
      exact h4
    clear_value x8
    intro x13
    clear_value x13
    intro x14
    have h15 : Kept s x14 := by
      unfold x14
      refine Kept.ite (fun z16 => ?_) (fun z16 => ?_)
      · refine Kept.trans ?_ (State.drawn_kept ..)
        exact h9
      · exact h9
    clear_value x14
    refine Sound.ite (fun z21 => ?_) (fun z21 => ?_)
    · refine Sound.of ?_ (fin_kept ..)
      refine Kept.trans ?_ (State.adjust_kept ..)
      exact h15
    · refine Sound.of ?_ (fin_kept ..)
      exact h9
  · refine Sound.next ?_
    exact Kept.refl _

theorem execPpsInTimeout_kept (s : State) : Sound s (execPpsInTimeout s) := by
  unfold execPpsInTimeout
  split
  · rename_i z1 z2 z3
    refine Sound.ite (fun z4 => ?_) (fun z4 => ?_)
    · refine Sound.of ?_ (fin_kept ..)
      refine Kept.trans ?_ (State.condRise_kept ..)
      refine Kept.trans ?_ (State.passTo_kept ..)
      exact Kept.refl _
    · refine Sound.next ?_
      exact Kept.refl _
  · rename_i z12 z13
    refine Sound.next ?_
    exact Kept.refl _

theorem State.timCfgPut_kept (s : State) (m : Mst) (v : Word) : Kept s (State.timCfgPut s m v) := by
  unfold State.timCfgPut
  lift_lets
  intro x0
  clear_value x0
  intro x1
  clear_value x1
  intro x2
  clear_value x2
  split
  · rename_i z3 z4 z5
    refine Kept.eqn z5 ?_
    refine Kept.trans ?_ (State.cfgPut_kept ..)
    exact Kept.refl _
  · rename_i z6 z7 z8
    lift_lets
    intro x9
    clear_value x9
    intro x10
    have h11 : Kept s x10 := by
      unfold x10
      refine Kept.ite (fun z12 => ?_) (fun z12 => ?_)
      · refine Kept.ite (fun z13 => ?_) (fun z13 => ?_)
        · refine Kept.eqn z8 ?_
          refine Kept.trans ?_ (State.cfgPut_kept ..)
          exact Kept.refl _
        · refine Kept.trans ?_ (Kept.record ..)
          refine Kept.eqn z8 ?_
          refine Kept.trans ?_ (State.cfgPut_kept ..)
          exact Kept.refl _
      · refine Kept.trans ?_ (Kept.record ..)
        refine Kept.eqn z8 ?_
        refine Kept.trans ?_ (State.cfgPut_kept ..)
        exact Kept.refl _
    clear_value x10
    intro x14
    clear_value x14
    refine Kept.ite (fun z15 => ?_) (fun z15 => ?_)
    · refine Kept.ite (fun z16 => ?_) (fun z16 => ?_)
      · exact h11
      · refine Kept.trans ?_ (Kept.record ..)
        exact h11
    · refine Kept.trans ?_ (State.condClear_kept ..)
      refine Kept.trans ?_ (Kept.record ..)
      exact h11

theorem execGapRecordCommit_kept (s : State) : Sound s (execGapRecordCommit s) := by
  unfold execGapRecordCommit
  refine Sound.of ?_ (fin_kept ..)
  refine Kept.trans ?_ (State.audPayGap_kept ..)
  exact Kept.refl _

theorem State.audExportPut_kept (s : State) (m : Mst) (v : Word) : Kept s (State.audExportPut s m v) := by
  unfold State.audExportPut
  lift_lets
  intro x0
  clear_value x0
  refine Kept.ite (fun z1 => ?_) (fun z1 => ?_)
  · refine Kept.trans ?_ (State.audPass_kept ..)
    exact Kept.refl _
  · refine Kept.trans ?_ (State.count_kept ..)
    exact Kept.refl _

theorem execAuditExport_kept (m : Mst) (v : Word) (s : State) : Sound s (execAuditExport m v s) := by
  unfold execAuditExport
  refine Sound.of ?_ (regWriteRow_kept (h_f := fun u0 y1 => ?_) ..)
  · exact Kept.refl _
  · refine Kept.trans ?_ (State.audExportPut_kept ..)
    exact Kept.refl _

theorem State.audCfgPut_kept (s : State) (m : Mst) (v : Word) : Kept s (State.audCfgPut s m v) := by
  unfold State.audCfgPut
  lift_lets
  intro x0
  clear_value x0
  intro x1
  clear_value x1
  intro x2
  clear_value x2
  intro x3
  clear_value x3
  intro x4
  clear_value x4
  refine Kept.ite (fun z5 => ?_) (fun z5 => ?_)
  · refine Kept.trans ?_ (State.cfgPut_kept ..)
    exact Kept.refl _
  · refine Kept.trans ?_ (State.cfgPut_kept ..)
    exact Kept.refl _

theorem execRailFault_kept (r : Fin 16) (s : State) : Sound s (execRailFault r s) := by
  unfold execRailFault
  refine Sound.ite (fun z0 => ?_) (fun z0 => ?_)
  · refine Sound.of ?_ (fin_kept ..)
    refine Kept.trans ?_ (State.condRise_kept ..)
    exact Kept.refl _
  · refine Sound.next ?_
    exact Kept.refl _

theorem execRailInRange_kept (r : Fin 16) (s : State) : Sound s (execRailInRange r s) := by
  unfold execRailInRange
  refine Sound.of ?_ (fin_kept ..)
  refine Kept.trans ?_ (State.condClear_kept ..)
  exact Kept.refl _

theorem execRootPllUnlock_kept (s : State) : Sound s (execRootPllUnlock s) := by
  unfold execRootPllUnlock
  refine Sound.of ?_ (fin_kept ..)
  refine Kept.trans ?_ (State.condRise_kept ..)
  refine Kept.trans ?_ (State.wr_kept ..)
  exact Kept.refl _

theorem execRootPllRelock_kept (s : State) : Sound s (execRootPllRelock s) := by
  unfold execRootPllRelock
  refine Sound.of ?_ (fin_kept ..)
  refine Kept.trans ?_ (State.condClear_kept ..)
  refine Kept.trans ?_ (State.wr_kept ..)
  exact Kept.refl _

theorem State.setBit_kept (s : State) (f : Fld) (i : Nat) (b : Bool) : Kept s (State.setBit s f i b) := by
  unfold State.setBit
  lift_lets
  intro x0
  clear_value x0
  refine Kept.trans ?_ (State.wr_kept ..)
  exact Kept.refl _

theorem execLanePllUnlock_kept (i : Fin 16) (s : State) : Sound s (execLanePllUnlock i s) := by
  unfold execLanePllUnlock
  lift_lets
  intro x0
  have h1 : Kept s x0 := by
    unfold x0
    refine Kept.trans ?_ (State.condRise_kept ..)
    refine Kept.trans ?_ (State.setBit_kept ..)
    exact Kept.refl _
  clear_value x0
  refine Sound.of ?_ (fin_kept ..)
  refine Kept.trans ?_ (Kept.foldl (fun t6 x7 => ?_) _ _)
  · exact h1
  · refine Kept.trans ?_ (State.linkDown_kept ..)
    exact Kept.refl _

theorem execLanePllRelock_kept (i : Fin 16) (s : State) : Sound s (execLanePllRelock i s) := by
  unfold execLanePllRelock
  refine Sound.of ?_ (fin_kept ..)
  refine Kept.trans ?_ (State.islandUp_kept ..)
  refine Kept.trans ?_ (State.condClear_kept ..)
  refine Kept.trans ?_ (State.setBit_kept ..)
  exact Kept.refl _

theorem execHostRefclkChange_kept (n : Fin 4) (run : Bool) (s : State) : Sound s (execHostRefclkChange n run s) := by
  unfold execHostRefclkChange
  refine Sound.of ?_ (fin_kept ..)
  refine Kept.trans ?_ (State.setBit_kept ..)
  exact Kept.refl _

theorem execPierRefclkChange_kept (run : Bool) (s : State) : Sound s (execPierRefclkChange run s) := by
  unfold execPierRefclkChange
  refine Sound.of ?_ (fin_kept ..)
  refine Kept.trans ?_ (State.wr_kept ..)
  exact Kept.refl _

theorem State.setIsle_kept (s : State) (i : Nat) (f : IslePower → IslePower) : Kept s (State.setIsle s i f) := by
  unfold State.setIsle
  refine Kept.trans ?_ (Kept.record ..)
  exact Kept.refl _

theorem State.setStep_kept (s : State) (i : Nat) (st : Nat) : Kept s (State.setStep s i st) := by
  unfold State.setStep
  refine Kept.ite (fun z0 => ?_) (fun z0 => ?_)
  · exact Kept.refl _
  · refine Kept.trans ?_ (State.wr_kept ..)
    refine Kept.trans ?_ (State.cycStore_kept ..)
    exact Kept.refl _

theorem State.stepDown_kept (s : State) (i : Nat) : Kept s (State.stepDown s i) := by
  unfold State.stepDown
  refine Kept.ite (fun z0 => ?_) (fun z0 => ?_)
  · refine Kept.trans ?_ (State.setStep_kept ..)
    exact Kept.refl _
  · exact Kept.refl _

theorem State.stepUp_kept (s : State) (i : Nat) : Kept s (State.stepUp s i) := by
  unfold State.stepUp
  refine Kept.ite (fun z0 => ?_) (fun z0 => ?_)
  · refine Kept.trans ?_ (State.setStep_kept ..)
    exact Kept.refl _
  · exact Kept.refl _

theorem State.holdSync_kept (s : State) (i : Nat) : Kept s (State.holdSync s i) := by
  unfold State.holdSync
  lift_lets
  intro x0
  clear_value x0
  intro x1
  have h2 : Kept s x1 := by
    unfold x1
    refine Kept.trans ?_ (State.wr_kept ..)
    refine Kept.trans ?_ (State.wr_kept ..)
    exact Kept.refl _
  clear_value x1
  refine Kept.ite (fun z6 => ?_) (fun z6 => ?_)
  · refine Kept.trans ?_ (State.condRise_kept ..)
    exact h2
  · refine Kept.trans ?_ (State.condClear_kept ..)
    exact h2

theorem State.avsRequest_kept (s : State) : Kept s (State.avsRequest s) := by
  unfold State.avsRequest
  lift_lets
  intro x0
  clear_value x0
  intro x1
  clear_value x1
  intro x2
  have h3 : Kept s x2 := by
    unfold x2
    refine Kept.trans ?_ (State.emit_kept ..)
    refine Kept.trans ?_ (State.wr_kept ..)
    exact Kept.refl _
  clear_value x2
  intro x7
  clear_value x7
  refine Kept.ite (fun z8 => ?_) (fun z8 => ?_)
  · refine Kept.trans ?_ (State.emit_kept ..)
    refine Kept.trans ?_ (State.wr_kept ..)
    exact Kept.refl _
  · refine Kept.ite (fun z13 => ?_) (fun z13 => ?_)
    · refine Kept.trans ?_ (Kept.record ..)
      exact h3
    · exact Kept.refl _

theorem State.voutMove_kept (s : State) (i : Nat) (vdd : Nat) : Kept s (State.voutMove s i vdd) := by
  unfold State.voutMove
  lift_lets
  intro x0
  clear_value x0
  intro x1
  clear_value x1
  intro x2
  clear_value x2
  refine Kept.ite (fun z3 => ?_) (fun z3 => ?_)
  · refine Kept.trans ?_ (State.wr_kept ..)
    exact Kept.refl _
  · refine Kept.ite (fun z7 => ?_) (fun z7 => ?_)
    · exact Kept.refl _
    · refine Kept.trans ?_ (State.wr_kept ..)
      exact Kept.refl _

theorem State.limitSync_kept (s : State) (i : Nat) : Kept s (State.limitSync s i) := by
  unfold State.limitSync
  lift_lets
  intro x0
  clear_value x0
  intro x1
  clear_value x1
  intro x2
  clear_value x2
  intro x3
  have h4 : Kept s x3 := by
    unfold x3
    refine Kept.trans ?_ (State.condClear_kept ..)
    exact Kept.refl _
  clear_value x3
  refine Kept.ite (fun z7 => ?_) (fun z7 => ?_)
  · refine Kept.trans ?_ (State.setIsle_kept ..)
    refine Kept.trans ?_ (State.condRise_kept ..)
    exact Kept.refl _
  · refine Kept.ite (fun z12 => ?_) (fun z12 => ?_)
    · refine Kept.trans ?_ (State.setIsle_kept ..)
      exact h4
    · exact h4

theorem execAvsLoopStep_kept (i : Fin 16) (r : AvsReading) (s : State) : Sound s (execAvsLoopStep i r s) := by
  unfold execAvsLoopStep
  lift_lets
  intro x0
  have h1 : Kept s x0 := by
    unfold x0
    refine Kept.trans ?_ (State.passTo_kept ..)
    exact Kept.refl _
  clear_value x0
  intro x2
  have h3 : Kept s x2 := by
    unfold x2
    refine Kept.trans ?_ (State.setIsle_kept ..)
    exact h1
  clear_value x2
  intro x4
  have h5 : Kept s x4 := by
    unfold x4
    refine Kept.trans ?_ (State.stepDown_kept ..)
    refine Kept.trans ?_ (State.limitSync_kept ..)
    refine Kept.trans ?_ (State.wr_kept ..)
    exact h3
  clear_value x4
  refine Sound.ite (fun z6 => ?_) (fun z6 => ?_)
  · refine Sound.next ?_
    exact Kept.refl _
  · refine Sound.of ?_ (fin_kept ..)
    refine Kept.trans ?_ (State.holdSync_kept ..)
    refine Kept.trans ?_ (State.avsRequest_kept ..)
    refine Kept.trans ?_ (State.stepUp_kept ..)
    refine Kept.trans ?_ (State.voutMove_kept ..)
    exact h5

theorem execDroopDetect_kept (i : Fin 16) (s : State) : Sound s (execDroopDetect i s) := by
  unfold execDroopDetect
  lift_lets
  intro x0
  have h1 : Kept s x0 := by
    unfold x0
    refine Kept.trans ?_ (State.setIsle_kept ..)
    exact Kept.refl _
  clear_value x0
  intro x2
  have h3 : Kept s x2 := by
    unfold x2
    refine Kept.trans ?_ (State.holdSync_kept ..)
    refine Kept.trans ?_ (State.stepDown_kept ..)
    exact h1
  clear_value x2
  refine Sound.ite (fun z4 => ?_) (fun z4 => ?_)
  · refine Sound.next ?_
    exact Kept.refl _
  · refine Sound.of ?_ (fin_kept ..)
    refine Kept.ite (fun z5 => ?_) (fun z5 => ?_)
    · exact h3
    · refine Kept.trans ?_ (State.raise_kept ..)
      exact h3

theorem execDroopRelax_kept (i : Fin 16) (s : State) : Sound s (execDroopRelax i s) := by
  unfold execDroopRelax
  lift_lets
  intro x0
  have h1 : Kept s x0 := by
    unfold x0
    refine Kept.trans ?_ (State.passTo_kept ..)
    exact Kept.refl _
  clear_value x0
  intro x2
  have h3 : Kept s x2 := by
    unfold x2
    refine Kept.trans ?_ (State.setIsle_kept ..)
    exact h1
  clear_value x2
  refine Sound.ite (fun z4 => ?_) (fun z4 => ?_)
  · refine Sound.next ?_
    exact Kept.refl _
  · refine Sound.ite (fun z5 => ?_) (fun z5 => ?_)
    · refine Sound.next ?_
      exact Kept.refl _
    · refine Sound.of ?_ (fin_kept ..)
      refine Kept.trans ?_ (State.holdSync_kept ..)
      refine Kept.trans ?_ (State.avsRequest_kept ..)
      refine Kept.trans ?_ (State.stepUp_kept ..)
      exact h3

theorem execPowerCapIteration_kept (pest : Nat) (busiest : Fin 16) (s : State) : Sound s (execPowerCapIteration pest busiest s) := by
  unfold execPowerCapIteration
  lift_lets
  intro x0
  have h1 : Kept s x0 := by
    unfold x0
    refine Kept.trans ?_ (State.passTo_kept ..)
    exact Kept.refl _
  clear_value x0
  intro x2
  clear_value x2
  intro x3
  have h4 : Kept s x3 := by
    unfold x3
    refine Kept.trans ?_ (State.wr_kept ..)
    exact h1
  clear_value x3
  intro x5
  clear_value x5
  intro x6
  have h7 : Kept s x6 := by
    unfold x6
    refine Kept.trans ?_ (Kept.record ..)
    exact h4
  clear_value x6
  intro x8
  clear_value x8
  intro x9
  clear_value x9
  intro x10
  have h11 : Kept s x10 := by
    unfold x10
    refine Kept.trans ?_ (State.setIsle_kept ..)
    exact h7
  clear_value x10
  refine Sound.ite (fun z12 => ?_) (fun z12 => ?_)
  · refine Sound.next ?_
    exact Kept.refl _
  · refine Sound.ite (fun z13 => ?_) (fun z13 => ?_)
    · refine Sound.ite (fun z14 => ?_) (fun z14 => ?_)
      · refine Sound.of ?_ (fin_kept ..)
        refine Kept.trans ?_ (State.holdSync_kept ..)
        refine Kept.trans ?_ (State.stepDown_kept ..)
        exact h11
      · refine Sound.ite (fun z15 => ?_) (fun z15 => ?_)
        · split
          · rename_i z16 z17
            refine Sound.of ?_ (fin_kept ..)
            exact h7
          · rename_i z18 z19 z20 z21
            lift_lets
            intro x22
            clear_value x22
            intro x23
            have h24 : Kept s x23 := by
              unfold x23
              refine Kept.trans ?_ (State.setIsle_kept ..)
              refine Kept.trans ?_ (State.drawn_kept ..)
              exact h7
            clear_value x23
            refine Sound.of ?_ (fin_kept ..)
            refine Kept.trans ?_ (State.holdSync_kept ..)
            refine Kept.trans ?_ (State.avsRequest_kept ..)
            refine Kept.trans ?_ (State.stepUp_kept ..)
            exact h24
        · refine Sound.of ?_ (fin_kept ..)
          exact h7
    · refine Sound.next ?_
      exact Kept.refl _

theorem State.pwrAvsPut_kept (s : State) (m : Mst) (v : Word) : Kept s (State.pwrAvsPut s m v) := by
  unfold State.pwrAvsPut
  lift_lets
  intro x0
  clear_value x0
  intro x1
  clear_value x1
  intro x2
  clear_value x2
  intro x3
  clear_value x3
  intro x4
  clear_value x4
  intro x5
  clear_value x5
  split
  · rename_i z7 z8 z9
    refine Kept.eqn z9 ?_
    refine Kept.trans ?_ (State.cfgPut_kept ..)
    exact Kept.refl _
  · rename_i z13 z14 z15
    refine Kept.trans ?_ (State.avsRequest_kept ..)
    refine Kept.eqn z15 ?_
    refine Kept.trans ?_ (State.cfgPut_kept ..)
    exact Kept.refl _

theorem State.pwrIslPut_kept (s : State) (m : Mst) (i : Nat) (v : Word) : Kept s (State.pwrIslPut s m i v) := by
  unfold State.pwrIslPut
  lift_lets
  intro x0
  clear_value x0
  intro x1
  clear_value x1
  intro x2
  clear_value x2
  split
  · rename_i z3 z4 z5
    refine Kept.eqn z5 ?_
    refine Kept.trans ?_ (State.cfgPut_kept ..)
    exact Kept.refl _
  · rename_i z6 z7 z8
    refine Kept.trans ?_ (State.avsRequest_kept ..)
    refine Kept.eqn z8 ?_
    refine Kept.trans ?_ (State.cfgPut_kept ..)
    exact Kept.refl _

theorem State.pwrDfsPut_kept (s : State) (m : Mst) (v : Word) : Kept s (State.pwrDfsPut s m v) := by
  unfold State.pwrDfsPut
  split
  · rename_i z0 z1 z2
    refine Kept.eqn z2 ?_
    refine Kept.trans ?_ (State.cfgWrite_kept ..)
    exact Kept.refl _
  · rename_i z3 z4 z5
    refine Kept.ite (fun z6 => ?_) (fun z6 => ?_)
    · refine Kept.eqn z5 ?_
      refine Kept.trans ?_ (State.cfgWrite_kept ..)
      exact Kept.refl _
    · refine Kept.trans ?_ (State.avsRequest_kept ..)
      refine Kept.trans ?_ (Kept.foldl (fun t7 x8 => ?_) _ _)
      · refine Kept.eqn z5 ?_
        refine Kept.trans ?_ (State.cfgWrite_kept ..)
        exact Kept.refl _
      · refine Kept.trans ?_ (State.holdSync_kept ..)
        refine Kept.trans ?_ (State.setIsle_kept ..)
        exact Kept.refl _

theorem State.thermSync_kept (s : State) (src : Nat) (limit : Nat) (sensor : Nat) : Kept s (State.thermSync s src limit sensor) := by
  unfold State.thermSync
  lift_lets
  intro x0
  clear_value x0
  intro x1
  clear_value x1
  refine Kept.ite (fun z2 => ?_) (fun z2 => ?_)
  · refine Kept.trans ?_ (State.condRise_kept ..)
    exact Kept.refl _
  · refine Kept.ite (fun z6 => ?_) (fun z6 => ?_)
    · refine Kept.trans ?_ (State.condClear_kept ..)
      exact Kept.refl _
    · exact Kept.refl _

theorem State.hotSync_kept (s : State) : Kept s (State.hotSync s) := by
  unfold State.hotSync
  lift_lets
  intro x0
  clear_value x0
  intro x1
  clear_value x1
  intro x2
  clear_value x2
  intro x3
  have h4 : Kept s x3 := by
    unfold x3
    refine Kept.trans ?_ (Kept.record ..)
    exact Kept.refl _
  clear_value x3
  refine Kept.trans ?_ (State.wr_kept ..)
  exact h4

theorem execThermalSensorRead_kept (n : Fin 24) (temp : BitVec 16) (s : State) : Sound s (execThermalSensorRead n temp s) := by
  unfold execThermalSensorRead
  lift_lets
  intro x0
  clear_value x0
  intro x1
  have h2 : Kept s x1 := by
    unfold x1
    refine Kept.trans ?_ (State.passTo_kept ..)
    exact Kept.refl _
  clear_value x1
  intro x3
  clear_value x3
  intro x4
  have h5 : Kept s x4 := by
    unfold x4
    refine Kept.trans ?_ (Kept.record ..)
    exact h2
  clear_value x4
  intro x6
  have h7 : Kept s x6 := by
    unfold x6
    refine Kept.trans ?_ (State.wr_kept ..)
    exact h5
  clear_value x6
  intro x8
  have h9 : Kept s x8 := by
    unfold x8
    refine Kept.ite (fun z10 => ?_) (fun z10 => ?_)
    · refine Kept.trans ?_ (State.wr_kept ..)
      exact h7
    · exact h7
  clear_value x8
  intro x11
  have h12 : Kept s x11 := by
    unfold x11
    refine Kept.trans ?_ (State.thermSync_kept ..)
    exact h9
  clear_value x11
  refine Sound.of ?_ (fin_kept ..)
  refine Kept.trans ?_ (State.hotSync_kept ..)
  refine Kept.trans ?_ (State.thermSync_kept ..)
  exact h12

theorem keep_keys (f : Reg × Word → Option (Reg × Word)) (hf : ∀ c d, f c = some d → d.1 = c.1)
    (l : List (Reg × Word)) (h : (l.map Prod.fst).Nodup) : ((l.filterMap f).map Prod.fst).Nodup := by
  refine List.Sublist.nodup ?_ h
  clear h
  induction l with
  | nil => exact List.Sublist.slnil
  | cons c l ih =>
    rw [List.filterMap_cons]
    split
    · exact List.Sublist.cons _ ih
    · rename_i d e
      rw [List.map_cons, List.map_cons, hf c d e]
      exact List.Sublist.cons_cons _ ih

theorem porKeep_key (c d : Reg × Word) (h : porKeep c = some d) : d.1 = c.1 := by
  unfold porKeep at h
  split at h <;> cases h <;> rfl

theorem warmKeep_key (c d : Reg × Word) (h : warmKeep c = some d) : d.1 = c.1 := by
  unfold warmKeep at h
  split at h <;> cases h <;> rfl

theorem State.rebuilt_kept (s t : State) (f : Reg × Word → Option (Reg × Word))
    (hf : ∀ c d, f c = some d → d.1 = c.1) (hq : t.pending = s.pending) (hm : t.mem = []) (hp : t.pal = [])
    (hr : t.regs = s.regs.filterMap f) (hl : t.fuses = s.fuses) : Kept s t :=
  ⟨hq, fun i => ⟨hm ▸ rfl, hp ▸ rfl, hr ▸ keep_keys f hf _ i.regs⟩, hl ▸ Nat.le_refl _⟩

theorem execPowerOnReset_kept (s : State) : Sound s (execPowerOnReset s) := by
  unfold execPowerOnReset
  refine Sound.of ?_ (fin_kept _)
  refine Kept.trans ?_ (State.wr_kept ..)
  exact State.rebuilt_kept s _ porKeep porKeep_key rfl rfl rfl rfl rfl

theorem State.warmCause_kept (s : State) (pin : Bool) (m : Nat) : Kept s (State.warmCause s pin m) := by
  unfold State.warmCause
  lift_lets
  intro x0
  have h1 : Kept s x0 := by
    unfold x0
    refine Kept.trans ?_ (State.wr_kept ..)
    refine Kept.trans ?_ (State.wr_kept ..)
    exact Kept.refl _
  clear_value x0
  refine Kept.trans ?_ (State.wr_kept ..)
  refine Kept.trans ?_ (State.wr_kept ..)
  exact h1

theorem State.warmReset_kept (s : State) (pin : Bool) (m : Nat) : Kept s (State.warmReset s pin m) := by
  unfold State.warmReset
  refine Kept.ite (fun _ => Kept.refl s) (fun _ => ?_)
  refine Kept.trans (Kept.foldl (fun t b => State.cycStore_kept t b) (List.range 17) s) ?_
  generalize (List.range 17).foldl (fun t b => State.cycStore t b) s = u
  refine Kept.trans ?_ (State.warmCause_kept _ _ _)
  exact State.rebuilt_kept u _ warmKeep warmKeep_key rfl rfl rfl rfl rfl

theorem execDeviceWarmReset_kept (s : State) : Sound s (execDeviceWarmReset s) := by
  unfold execDeviceWarmReset
  refine Sound.ite (fun z0 => ?_) (fun z0 => ?_)
  · refine Sound.next ?_
    exact Kept.refl _
  · refine Sound.of ?_ (fin_kept ..)
    refine Kept.trans ?_ (State.warmReset_kept ..)
    exact Kept.refl _

theorem execWarmRstShortPulse_kept (s : State) : Sound s (execWarmRstShortPulse s) := by
  unfold execWarmRstShortPulse
  refine Sound.ite (fun z0 => ?_) (fun z0 => ?_)
  · refine Sound.next ?_
    exact Kept.refl _
  · refine Sound.next ?_
    refine Kept.trans ?_ (State.count_kept ..)
    exact Kept.refl _

theorem State.condAgain_kept (s : State) (n : Nat) : Kept s (State.condAgain s n) := by
  unfold State.condAgain
  lift_lets
  intro x0
  have h1 : ∀ y1, Kept s (x0 y1) := by
    intro y2
    unfold x0
    refine Kept.trans ?_ (State.raise_kept ..)
    refine Kept.trans ?_ (State.fltStatus_kept ..)
    refine Kept.trans ?_ (State.wr_kept ..)
    exact Kept.refl _
  clear_value x0
  intro x3
  have h4 : ∀ y1, Kept s (x3 y1) := by
    intro y5
    unfold x3
    split
    · rename_i z6 z7 z8
      exact h1 ..
    · rename_i z9 z10
      refine Kept.trans ?_ (State.condClear_kept ..)
      exact Kept.refl _
  clear_value x3
  refine Kept.ite (fun z11 => ?_) (fun z11 => ?_)
  · exact h4 ..
  · refine Kept.ite (fun z12 => ?_) (fun z12 => ?_)
    · exact h4 ..
    · split
      · rename_i z13 z14 z15
        exact h1 ..
      · rename_i z16 z17
        exact Kept.refl _

theorem execWarmResetPhaseEnd_kept (s : State) : Sound s (execWarmResetPhaseEnd s) := by
  unfold execWarmResetPhaseEnd
  refine Sound.ite (fun z0 => ?_) (fun z0 => ?_)
  · lift_lets
    intro x2
    have h3 : Kept s x2 := by
      unfold x2
      refine Kept.trans ?_ (State.wr_kept ..)
      refine Kept.trans ?_ (State.passTo_kept ..)
      exact Kept.refl _
    clear_value x2
    intro x7
    have h8 : Kept s x7 := by
      unfold x7
      refine Kept.trans ?_ (State.wr_kept ..)
      exact h3
    clear_value x7
    intro x11
    clear_value x11
    intro x12
    have h13 : Kept s x12 := by
      unfold x12
      refine Kept.trans ?_ (Kept.record ..)
      exact h8
    clear_value x12
    refine Sound.of ?_ (fin_kept ..)
    refine Kept.trans ?_ (Kept.foldl (fun t17 x18 => ?_) _ _)
    · exact h13
    · refine Kept.trans ?_ (State.condAgain_kept ..)
      exact Kept.refl _
  · refine Sound.next ?_
    exact Kept.refl _

theorem State.hostFnsReset_kept (s : State) (n : Nat) : Kept s (State.hostFnsReset s n) := by
  unfold State.hostFnsReset
  lift_lets
  intro x0
  have h1 : Kept s x0 := by
    unfold x0
    refine Kept.trans ?_ (Kept.foldl (fun t2 x3 => ?_) _ _)
    · exact Kept.refl _
    · refine Kept.trans ?_ (State.flrBegin_kept ..)
      exact Kept.refl _
  clear_value x0
  intro x8
  have h9 : Kept s x8 := by
    unfold x8
    refine Kept.trans ?_ (State.setHost_kept ..)
    exact h1
  clear_value x8
  refine Kept.trans ?_ (State.wmEval_kept ..)
  exact h9

theorem State.hostLinkLost_kept (s : State) (n : Nat) : Kept s (State.hostLinkLost s n) := by
  unfold State.hostLinkLost
  refine Kept.ite (fun z0 => ?_) (fun z0 => ?_)
  · refine Kept.trans ?_ (State.condRise_kept ..)
    refine Kept.trans ?_ (State.setHost_kept ..)
    exact Kept.refl _
  · exact Kept.refl _

theorem State.hostRegReset_kept (s : State) (n : Nat) : Kept s (State.hostRegReset s n) := by
  unfold State.hostRegReset
  refine Kept.ite (fun z0 => ?_) (fun z0 => ?_)
  · exact Kept.refl _
  · refine Kept.trans ?_ (State.setHost_kept ..)
    refine Kept.trans ?_ (State.hostFnsReset_kept ..)
    exact Kept.refl _

theorem State.l1Flush_kept (s : State) (e : Nat) : Kept s (State.l1Flush s e) := by
  unfold State.l1Flush
  lift_lets
  intro x0
  clear_value x0
  refine Kept.trans ?_ (Kept.foldl (fun t1 x2 => ?_) _ _)
  · exact Kept.refl _
  · lift_lets
    intro x3
    have h4 : Kept t1 x3 := by
      unfold x3
      refine Kept.trans ?_ (State.l1Check_kept ..)
      exact Kept.refl _
    clear_value x3
    intro x5
    have h6 : Kept t1 x5 := by
      unfold x5
      split
      · rename_i z7 z8 z9
        refine Kept.trans ?_ (State.l1Evict_kept ..)
        exact h4
      · rename_i z10 z11
        exact h4
    clear_value x5
    split
    · rename_i z12 z13 z14
      refine Kept.trans ?_ (State.cohDeliver_kept ..)
      refine Kept.trans ?_ (State.cohTake_kept ..)
      exact h6
    · rename_i z15 z16
      exact h6

theorem State.dropQueue_kept (s : State) (e : Nat) : Kept s (State.dropQueue s e) := by
  unfold State.dropQueue
  lift_lets
  intro x0
  clear_value x0
  intro x1
  have h2 : Kept s x1 := by
    unfold x1
    refine Kept.trans ?_ (State.setEng_kept ..)
    refine Kept.trans ?_ (State.setSteerQ_kept ..)
    exact Kept.refl _
  clear_value x1
  refine Kept.trans ?_ (Kept.foldl (fun t6 x7 => ?_) _ _)
  · exact h2
  · refine Kept.trans ?_ (State.discardEvent_kept ..)
    exact Kept.refl _

theorem State.palDrop_kept (t : State) (p : Nat × Byte → Bool) (k e : KMap Unit) (b : Boot) :
    Kept t { t with pal := t.pal.filter p, palPoison := k, palEcc := e, boot := b } :=
  ⟨rfl, fun i => ⟨i.mem, Memory.filter_wf _ _ i.pal, i.regs⟩, Nat.le_refl _⟩

theorem State.islandReset_kept (s : State) (i : Nat) : Kept s (State.islandReset s i) := by
  unfold State.islandReset
  refine Kept.ite (fun _ => Kept.refl s) (fun _ => ?_)
  lift_lets
  intro engs trees bells
  clear_value engs trees bells
  intro s1
  have h1 : Kept s s1 := Kept.foldl (fun t e => State.l1Flush_kept t e) _ _
  clear_value s1
  intro s2
  have h2 : Kept s s2 := h1.trans (Kept.foldl (fun t k => State.ctxReset_kept t (136 * i + k)) _ _)
  clear_value s2
  intro b3
  clear_value b3
  intro s3
  have h3 : Kept s s3 := h2.trans (State.palDrop_kept ..)
  clear_value s3
  intro s4
  have h4 : Kept s s4 := h3.trans (Kept.foldl (fun t e => (State.dropQueue_kept t e).trans (State.setEng_kept ..)) _ _)
  clear_value s4
  intro s5
  have h5 : Kept s s5 := h4.trans (Kept.foldl (fun t k => State.setCtx_kept ..) _ _)
  clear_value s5
  intro s6
  have h6 : Kept s s6 :=
    h5.trans (Kept.foldl (fun t c => State.treeBreak_kept ..) _ _)
  clear_value s6
  intro mixer
  clear_value mixer
  intro s7
  have h7 : Kept s s7 := h6.trans ((State.semAbandon_kept ..).trans (State.cohCancel_kept ..))
  clear_value s7
  intro s8
  have h8 : Kept s s8 := h7.trans (Kept.foldl (fun t k => State.portReset_kept t (8 * i + k)) _ _)
  clear_value s8
  exact Kept.ite (fun _ => h8.trans ((State.hostFnsReset_kept ..).trans (State.setHost_kept ..))) (fun _ => h8)

theorem State.bellAgain_kept (s : State) (q : Nat) : Kept s (State.bellAgain s q) := by
  unfold State.bellAgain
  refine Kept.ite (fun z0 => ?_) (fun z0 => ?_)
  · exact Kept.refl _
  · refine Kept.trans ?_ (State.postSteered_kept ..)
    exact Kept.refl _

theorem execIslandResetEnd_kept (i : Fin 16) (s : State) : Sound s (execIslandResetEnd i s) := by
  unfold execIslandResetEnd
  refine Sound.ite (fun z0 => ?_) (fun z0 => ?_)
  · lift_lets
    intro x2
    clear_value x2
    intro x3
    clear_value x3
    intro x4
    clear_value x4
    intro x5
    have h6 : Kept s x5 := by
      unfold x5
      refine Kept.trans ?_ (Kept.record ..)
      exact Kept.refl _
    clear_value x5
    refine Sound.of ?_ (fin_kept ..)
    refine Kept.trans ?_ (Kept.foldl (fun t10 x11 => ?_) _ _)
    · exact h6
    · refine Kept.trans ?_ (State.bellAgain_kept ..)
      exact Kept.refl _
  · refine Sound.next ?_
    exact Kept.refl _

theorem State.glbRstPut_kept (s : State) (m : Mst) (v : Word) : Kept s (State.glbRstPut s m v) := by
  unfold State.glbRstPut
  lift_lets
  intro x0
  clear_value x0
  intro x1
  clear_value x1
  refine Kept.ite (fun z2 => ?_) (fun z2 => ?_)
  · exact Kept.refl _
  · split
    · rename_i z3 z4 z5
      refine Kept.eqn z5 ?_
      refine Kept.trans ?_ (State.askAction_kept ..)
      exact Kept.refl _
    · rename_i z6 z7 z8
      lift_lets
      intro x9
      have h10 : Kept s x9 := by
        unfold x9
        refine Kept.trans ?_ (Kept.foldl (fun t11 x12 => ?_) _ _)
        · refine Kept.eqn z8 ?_
          refine Kept.trans ?_ (State.askAction_kept ..)
          exact Kept.refl _
        · refine Kept.ite (fun z13 => ?_) (fun z13 => ?_)
          · refine Kept.trans ?_ (State.islandReset_kept ..)
            exact Kept.refl _
          · exact Kept.refl _
      clear_value x9
      refine Kept.ite (fun z14 => ?_) (fun z14 => ?_)
      · refine Kept.trans ?_ (State.warmReset_kept ..)
        refine Kept.eqn z8 ?_
        refine Kept.trans ?_ (State.askAction_kept ..)
        exact Kept.refl _
      · refine Kept.trans ?_ (Kept.foldl (fun t15 x16 => ?_) _ _)
        · exact h10
        · refine Kept.ite (fun z17 => ?_) (fun z17 => ?_)
          · refine Kept.trans ?_ (State.hostRegReset_kept ..)
            exact Kept.refl _
          · exact Kept.refl _

theorem execGlbRstWarm_kept (m : Mst) (v : Word) (s : State) : Sound s (execGlbRstWarm m v s) := by
  unfold execGlbRstWarm
  refine Sound.of ?_ (regWriteRow_kept (h_f := fun u0 y1 => ?_) ..)
  · exact Kept.refl _
  · refine Kept.trans ?_ (State.glbRstPut_kept ..)
    exact Kept.refl _

theorem execIslandReset_kept (m : Mst) (v : Word) (s : State) : Sound s (execIslandReset m v s) := by
  unfold execIslandReset
  refine Sound.of ?_ (regWriteRow_kept (h_f := fun u0 y1 => ?_) ..)
  · exact Kept.refl _
  · refine Kept.trans ?_ (State.glbRstPut_kept ..)
    exact Kept.refl _

theorem execHostPortReset_kept (n : Fin 4) (c : HostResetCause) (s : State) : Sound s (execHostPortReset n c s) := by
  unfold execHostPortReset
  split
  · rename_i z0 z1 z2
    refine Sound.of ?_ (regWriteRow_kept (h_f := fun u3 y4 => ?_) ..)
    · exact Kept.refl _
    · refine Kept.trans ?_ (State.glbRstPut_kept ..)
      exact Kept.refl _
  · rename_i z5
    lift_lets
    intro x6
    have h7 : Kept s x6 := by
      unfold x6
      refine Kept.trans ?_ (State.hostLinkLost_kept ..)
      refine Kept.trans ?_ (State.setHost_kept ..)
      exact Kept.refl _
    clear_value x6
    refine Sound.ite (fun z8 => ?_) (fun z8 => ?_)
    · refine Sound.next ?_
      exact Kept.refl _
    · refine Sound.of ?_ (fin_kept ..)
      refine Kept.ite (fun z9 => ?_) (fun z9 => ?_)
      · exact h7
      · refine Kept.trans ?_ (State.setHost_kept ..)
        refine Kept.trans ?_ (State.hostFnsReset_kept ..)
        exact h7
  · rename_i z10
    lift_lets
    intro x11
    have h12 : Kept s x11 := by
      unfold x11
      refine Kept.trans ?_ (State.hostLinkLost_kept ..)
      exact Kept.refl _
    clear_value x11
    refine Sound.ite (fun z13 => ?_) (fun z13 => ?_)
    · refine Sound.next ?_
      exact Kept.refl _
    · refine Sound.of ?_ (fin_kept ..)
      refine Kept.ite (fun z14 => ?_) (fun z14 => ?_)
      · exact h12
      · refine Kept.trans ?_ (State.setHost_kept ..)
        refine Kept.trans ?_ (State.hostFnsReset_kept ..)
        exact h12

theorem execHostPerstDeassert_kept (n : Fin 4) (s : State) : Sound s (execHostPerstDeassert n s) := by
  unfold execHostPerstDeassert
  refine Sound.of ?_ (fin_kept ..)
  refine Kept.trans ?_ (State.setHost_kept ..)
  exact Kept.refl _

theorem execHostLinkUp_kept (n : Fin 4) (link : HostLink) (s : State) : Sound s (execHostLinkUp n link s) := by
  unfold execHostLinkUp
  lift_lets
  intro x0
  have h1 : Kept s x0 := by
    unfold x0
    refine Kept.trans ?_ (State.setHost_kept ..)
    exact Kept.refl _
  clear_value x0
  refine Sound.ite (fun z2 => ?_) (fun z2 => ?_)
  · refine Sound.next ?_
    exact Kept.refl _
  · refine Sound.ite (fun z3 => ?_) (fun z3 => ?_)
    · refine Sound.next ?_
      exact Kept.refl _
    · refine Sound.of ?_ (fin_kept ..)
      refine Kept.trans ?_ (State.condClear_kept ..)
      exact h1

theorem State.glbPrtRstPut_kept (s : State) (m : Mst) (i : Nat) (v : Word) : Kept s (State.glbPrtRstPut s m i v) := by
  unfold State.glbPrtRstPut
  refine Kept.ite (fun z0 => ?_) (fun z0 => ?_)
  · exact Kept.refl _
  · split
    · rename_i z1 z2 z3
      refine Kept.eqn z3 ?_
      refine Kept.trans ?_ (State.askAction_kept ..)
      exact Kept.refl _
    · rename_i z4 z5 z6
      refine Kept.trans ?_ (Kept.foldl (fun t7 x8 => ?_) _ _)
      · refine Kept.eqn z6 ?_
        refine Kept.trans ?_ (State.askAction_kept ..)
        exact Kept.refl _
      · lift_lets
        intro x9
        clear_value x9
        refine Kept.ite (fun z10 => ?_) (fun z10 => ?_)
        · refine Kept.trans ?_ (State.portReset_kept ..)
          exact Kept.refl _
        · exact Kept.refl _

theorem execPortReset_kept (m : Mst) (i : Fin 2) (v : Word) (s : State) : Sound s (execPortReset m i v s) := by
  unfold execPortReset
  refine Sound.of ?_ (regWriteRow_kept (h_f := fun u0 y1 => ?_) ..)
  · exact Kept.refl _
  · refine Kept.trans ?_ (State.glbPrtRstPut_kept ..)
    exact Kept.refl _

theorem execPierReset_kept (s : State) : Sound s (execPierReset s) := by
  unfold execPierReset
  refine Sound.of ?_ (fin_kept ..)
  refine Kept.trans ?_ (State.semAbandon_kept ..)
  refine Kept.trans ?_ (State.clearSels_kept ..)
  refine Kept.trans ?_ (Kept.record ..)
  exact Kept.refl _

theorem execPierLinkDown_kept (s : State) : Sound s (execPierLinkDown s) := by
  unfold execPierLinkDown
  refine Sound.of ?_ (fin_kept ..)
  refine Kept.trans ?_ (State.condRise_kept ..)
  refine Kept.trans ?_ (Kept.record ..)
  exact Kept.refl _

theorem execPierLinkUp_kept (s : State) : Sound s (execPierLinkUp s) := by
  unfold execPierLinkUp
  lift_lets
  intro x0
  clear_value x0
  intro x1
  have h2 : Kept s x1 := by
    unfold x1
    refine Kept.trans ?_ (State.drawn_kept ..)
    exact Kept.refl _
  clear_value x1
  refine Sound.ite (fun z3 => ?_) (fun z3 => ?_)
  · refine Sound.next ?_
    exact Kept.refl _
  · refine Sound.of ?_ (fin_kept ..)
    refine Kept.trans ?_ (State.condClear_kept ..)
    refine Kept.trans ?_ (Kept.record ..)
    exact h2

theorem State.installStart_kept (s : State) : Kept s (State.installStart s) := by
  unfold State.installStart
  lift_lets
  intro n
  have h : Kept s (if n ≤ slotBytes then s.devRead firmwareArea n else (s, [], false)).1 :=
    KeptFst.out (KeptFst.ite (fun _ => KeptFst.of (State.devRead_kept ..)) (fun _ => KeptFst.pair (Kept.refl s)))
  rcases e : (if n ≤ slotBytes then s.devRead firmwareArea n else (s, [], false)) with ⟨t, bs, b⟩
  rw [e] at h
  exact h.trans ((State.wr_kept t F.glbBootCtl_BUSY 1).trans (Kept.record ..))

theorem State.bootCtlPut_kept (s : State) (m : Mst) (v : Word) : Kept s (State.bootCtlPut s m v) := by
  unfold State.bootCtlPut
  lift_lets
  intro x0
  have h1 : Kept s x0 := by
    unfold x0
    refine Kept.trans ?_ (State.plainWrite_kept ..)
    exact Kept.refl _
  clear_value x0
  refine Kept.ite (fun z2 => ?_) (fun z2 => ?_)
  · exact h1
  · refine Kept.ite (fun z3 => ?_) (fun z3 => ?_)
    · exact Kept.refl _
    · refine Kept.ite (fun z4 => ?_) (fun z4 => ?_)
      · refine Kept.trans ?_ (State.wr_kept ..)
        exact Kept.refl _
      · split
        · rename_i z5 z6 z7
          refine Kept.eqn z7 ?_
          refine Kept.trans ?_ (State.askAction_kept ..)
          exact Kept.refl _
        · rename_i z8 z9 z10
          refine Kept.trans ?_ (State.installStart_kept ..)
          refine Kept.trans ?_ (State.plainWrite_kept ..)
          refine Kept.eqn z10 ?_
          refine Kept.trans ?_ (State.askAction_kept ..)
          exact Kept.refl _

theorem execImageInstall_kept (m : Mst) (v : Word) (s : State) : Sound s (execImageInstall m v s) := by
  unfold execImageInstall
  refine Sound.of ?_ (regWriteRow_kept (h_f := fun u0 y1 => ?_) ..)
  · exact Kept.refl _
  · refine Kept.trans ?_ (State.bootCtlPut_kept ..)
    exact Kept.refl _

theorem execImageInstallEnd_kept (s : State) : Sound s (execImageInstallEnd s) := by
  unfold execImageInstallEnd
  split
  · rename_i z1 z2
    refine Sound.next ?_
    exact Kept.refl _
  · rename_i z5 z6 z7
    refine Sound.ite (fun z8 => ?_) (fun z8 => ?_)
    · refine Sound.next ?_
      exact Kept.refl _
    · lift_lets
      intro x12
      clear_value x12
      intro x13
      have h14 : Kept s x13 := by
        unfold x13
        refine Kept.trans ?_ (Kept.record ..)
        exact Kept.refl _
      clear_value x13
      intro x17
      have h18 : Kept s x17 := by
        unfold x17
        refine Kept.ite (fun z19 => ?_) (fun z19 => ?_)
        · refine Kept.trans ?_ (State.emit_kept ..)
          exact h14
        · exact h14
      clear_value x17
      refine Sound.of ?_ (fin_kept ..)
      refine Kept.trans ?_ (State.wr_kept ..)
      refine Kept.trans ?_ (State.wr_kept ..)
      exact h18

theorem State.palWinRead_kept (s : State) (m : Mst) (w : Nat) : Kept s (State.palWinRead s m w).1 := by
  unfold State.palWinRead
  refine KeptFst.out ?_
  split
  · rename_i z0 z1
    refine KeptFst.pair ?_
    exact Kept.refl _
  · rename_i z2 z3 z4
    refine KeptFst.ite (fun z5 => ?_) (fun z5 => ?_)
    · refine KeptFst.pair ?_
      refine Kept.trans ?_ (State.raise_kept ..)
      refine Kept.trans ?_ (State.palFound_kept ..)
      exact Kept.refl _
    · refine KeptFst.pair ?_
      refine Kept.trans ?_ (State.palCheck_kept ..)
      exact Kept.refl _

theorem State.palWinWrite_kept (s : State) (m : Mst) (w : Nat) (v : Word) : Kept s (State.palWinWrite s m w v) := by
  unfold State.palWinWrite
  split
  · rename_i z1 z2
    exact Kept.refl _
  · rename_i z4 z5 z6
    refine Kept.trans ?_ (State.palWrite_kept ..)
    exact Kept.refl _

theorem State.audCorrupt_kept (s : State) (i : Nat) : Kept s (State.audCorrupt s i) := by
  unfold State.audCorrupt
  refine Kept.trans ?_ (State.condRise_kept ..)
  exact Kept.refl _

theorem State.audCheck_kept (s : State) (m : Mst) (a : Nat) : Kept s (State.audCheck s m a) := by
  unfold State.audCheck
  split
  · rename_i z0 z1 z2
    refine Kept.ite (fun z3 => ?_) (fun z3 => ?_)
    · refine Kept.trans ?_ (State.audCorrupt_kept ..)
      exact Kept.refl _
    · exact Kept.refl _
  · rename_i z4 z5
    exact Kept.refl _

theorem State.readWord_kept (s : State) (m : Mst) (a : Nat) : Kept s (State.readWord s m a).1 := by
  unfold State.readWord
  refine KeptFst.out ?_
  refine KeptFst.ite (fun z0 => ?_) (fun z0 => ?_)
  · refine KeptFst.pair ?_
    exact Kept.refl _
  · split
    · rename_i z1 z2 z3
      refine KeptFst.pair ?_
      exact Kept.refl _
    · rename_i z4 z5
      refine KeptFst.ite (fun z6 => ?_) (fun z6 => ?_)
      · refine KeptFst.pair ?_
        exact Kept.refl _
      · split
        · rename_i z7 z8 z9
          refine KeptFst.trans ?_ (State.palWinRead_kept ..)
          exact Kept.refl _
        · rename_i z10 z11
          split
          · rename_i z12 z13 z14
            lift_lets
            intro x15
            clear_value x15
            refine KeptFst.pair ?_
            refine Kept.ite (fun z16 => ?_) (fun z16 => ?_)
            · exact Kept.refl _
            · refine Kept.trans ?_ (State.set_kept ..)
              exact Kept.refl _
          · rename_i z17 z18
            refine KeptFst.pair ?_
            exact Kept.refl _

theorem State.readReg_kept (s : State) (m : Mst) (a : Nat) (req : Option MgmtReq) : Kept s (State.readReg s m a req) := by
  unfold State.readReg
  refine Kept.ite (fun z0 => ?_) (fun z0 => ?_)
  · refine Kept.trans ?_ (State.reply_kept ..)
    exact Kept.refl _
  · split
    · rename_i z1 z2 z3 z4 z5 z6
      refine Kept.trans ?_ (State.semAcq_kept ..)
      exact Kept.refl _
    · rename_i z7 z8 z9 z10 z11 z12 z13
      refine Kept.trans ?_ (State.semTryWord_kept ..)
      exact Kept.refl _
    · rename_i z14 z15 z16 z17 z18 z19 z20 z21
      refine Kept.trans ?_ (State.reply_kept ..)
      exact Kept.refl _
    · rename_i z22 z23 z24 z25 z26 z27 z28 z29 z30
      refine Kept.trans ?_ (State.fenceRead_kept ..)
      exact Kept.refl _
    · rename_i z31 z32 z33 z34 z35 z36 z37 z38
      split
      rename_i z39 z40 z41 z42
      refine Kept.trans ?_ (State.reply_kept ..)
      refine Kept.eqn z42 ?_
      refine Kept.trans ?_ (State.readWord_kept ..)
      refine Kept.trans ?_ (State.audCheck_kept ..)
      exact Kept.refl _

theorem State.smpCfgPut_kept (s : State) (m : Mst) (v : Word) : Kept s (State.smpCfgPut s m v) := by
  unfold State.smpCfgPut
  lift_lets
  intro x0
  clear_value x0
  intro x1
  have h2 : Kept s x1 := by
    unfold x1
    refine Kept.ite (fun z3 => ?_) (fun z3 => ?_)
    · exact Kept.refl _
    · refine Kept.trans ?_ (State.count_kept ..)
      exact Kept.refl _
  clear_value x1
  refine Kept.trans ?_ (State.cfgWrite_kept ..)
  exact h2

theorem State.mtrCfgPut_kept (s : State) (m : Mst) (v : Word) : Kept s (State.mtrCfgPut s m v) := by
  unfold State.mtrCfgPut
  lift_lets
  intro x0
  have h1 : Kept s x0 := by
    unfold x0
    refine Kept.ite (fun z2 => ?_) (fun z2 => ?_)
    · exact Kept.refl _
    · refine Kept.trans ?_ (State.snapshots_kept ..)
      exact Kept.refl _
  clear_value x0
  intro x3
  clear_value x3
  intro x4
  clear_value x4
  intro x5
  clear_value x5
  split
  · rename_i z6 z7 z8
    refine Kept.eqn z8 ?_
    refine Kept.trans ?_ (State.cfgWrite_kept ..)
    exact h1
  · rename_i z9 z10 z11
    lift_lets
    intro x12
    clear_value x12
    refine Kept.ite (fun z13 => ?_) (fun z13 => ?_)
    · refine Kept.trans ?_ (Kept.record ..)
      refine Kept.eqn z11 ?_
      refine Kept.trans ?_ (State.cfgWrite_kept ..)
      exact h1
    · refine Kept.eqn z11 ?_
      refine Kept.trans ?_ (State.cfgWrite_kept ..)
      exact h1

theorem State.ringBasePut_kept (s : State) (m : Mst) (a : Nat) (r : Reg) (en : Bool) (v : Word) : Kept s (State.ringBasePut s m a r en v) := by
  unfold State.ringBasePut
  refine Kept.ite (fun z0 => ?_) (fun z0 => ?_)
  · exact Kept.refl _
  · refine Kept.trans ?_ (State.cfgWrite_kept ..)
    exact Kept.refl _

theorem State.mtcCfgPut_kept (s : State) (m : Mst) (v : Word) : Kept s (State.mtcCfgPut s m v) := by
  unfold State.mtcCfgPut
  lift_lets
  intro x0
  clear_value x0
  refine Kept.trans ?_ (State.cfgWrite_kept ..)
  exact Kept.refl _

theorem State.rteCfgPut_kept (s : State) (m : Mst) (v : Word) : Kept s (State.rteCfgPut s m v) := by
  unfold State.rteCfgPut
  lift_lets
  intro x0
  clear_value x0
  intro x1
  clear_value x1
  split
  · rename_i z2 z3 z4
    refine Kept.trans ?_ (State.elect_kept ..)
    refine Kept.eqn z4 ?_
    refine Kept.trans ?_ (State.cfgWrite_kept ..)
    exact Kept.refl _
  · rename_i z5 z6 z7
    refine Kept.eqn z7 ?_
    refine Kept.trans ?_ (State.cfgWrite_kept ..)
    exact Kept.refl _

theorem State.lnkGlbCfgPut_kept (s : State) (m : Mst) (a : Nat) (v : Word) : Kept s (State.lnkGlbCfgPut s m a v) := by
  unfold State.lnkGlbCfgPut
  split
  · rename_i z0 z1 z2
    refine Kept.trans ?_ (State.elect_kept ..)
    refine Kept.eqn z2 ?_
    refine Kept.trans ?_ (State.cfgWrite_kept ..)
    exact Kept.refl _
  · rename_i z3 z4 z5
    refine Kept.eqn z5 ?_
    refine Kept.trans ?_ (State.cfgWrite_kept ..)
    exact Kept.refl _

theorem State.ordinals_kept (s : State) : Kept s (State.ordinals s) := by
  unfold State.ordinals
  refine Kept.trans ?_ (Kept.foldl (fun t0 x1 => ?_) _ _)
  · exact Kept.refl _
  · lift_lets
    intro x4
    clear_value x4
    refine Kept.ite (fun z5 => ?_) (fun z5 => ?_)
    · exact Kept.refl _
    · refine Kept.trans ?_ (State.wr_kept ..)
      exact Kept.refl _

theorem State.rtePortPut_kept (s : State) (m : Mst) (n : Nat) (v : Word) : Kept s (State.rtePortPut s m n v) := by
  unfold State.rtePortPut
  refine Kept.ite (fun z0 => ?_) (fun z0 => ?_)
  · refine Kept.trans ?_ (State.count_kept ..)
    exact Kept.refl _
  · split
    · rename_i z5 z6 z7
      refine Kept.trans ?_ (State.ordinals_kept ..)
      refine Kept.eqn z7 ?_
      refine Kept.trans ?_ (State.cfgWrite_kept ..)
      exact Kept.refl _
    · rename_i z12 z13 z14
      refine Kept.eqn z14 ?_
      refine Kept.trans ?_ (State.cfgWrite_kept ..)
      exact Kept.refl _

theorem State.lneEqPut_kept (s : State) (m : Mst) (n l : Nat) (v : Word) : Kept s (State.lneEqPut s m n l v) := by
  unfold State.lneEqPut
  lift_lets
  intro x0
  clear_value x0
  split
  · rename_i z1 z2 z3
    refine Kept.trans ?_ (State.set_kept ..)
    refine Kept.eqn z3 ?_
    refine Kept.trans ?_ (State.cfgWrite_kept ..)
    exact Kept.refl _
  · rename_i z4 z5 z6
    refine Kept.eqn z6 ?_
    refine Kept.trans ?_ (State.cfgWrite_kept ..)
    exact Kept.refl _

theorem State.lmpCfgPut_kept (s : State) (m : Mst) (i : Nat) (v : Word) : Kept s (State.lmpCfgPut s m i v) := by
  unfold State.lmpCfgPut
  lift_lets
  intro x0
  clear_value x0
  intro x1
  clear_value x1
  intro x2
  clear_value x2
  intro x3
  clear_value x3
  intro x4
  clear_value x4
  split
  · rename_i z5 z6 z7
    lift_lets
    intro x8
    have h9 : Kept s x8 := by
      unfold x8
      refine Kept.trans ?_ (State.eolSync_kept ..)
      refine Kept.eqn z7 ?_
      refine Kept.trans ?_ (State.cfgPut_kept ..)
      exact Kept.refl _
    clear_value x8
    refine Kept.ite (fun z10 => ?_) (fun z10 => ?_)
    · refine Kept.trans ?_ (State.lampLight_kept ..)
      exact h9
    · exact h9
  · rename_i z11 z12 z13
    refine Kept.eqn z13 ?_
    refine Kept.trans ?_ (State.cfgPut_kept ..)
    exact Kept.refl _

theorem State.rangedPut_kept (s : State) (m : Mst) (a : Nat) (r : Reg) (hi : Nat) (lo : Nat) (least : Nat) (most : Nat) (v : Word) : Kept s (State.rangedPut s m a r hi lo least most v) := by
  unfold State.rangedPut
  refine Kept.trans ?_ (State.cfgWrite_kept ..)
  exact Kept.refl _

theorem State.bwCfgPut_kept (s : State) (m : Mst) (v : Word) : Kept s (State.bwCfgPut s m v) := by
  unfold State.bwCfgPut
  lift_lets
  intro x0
  have h1 : Kept s x0 := by
    unfold x0
    refine Kept.trans ?_ (State.rangedPut_kept ..)
    refine Kept.trans ?_ (State.bwEdge_kept ..)
    exact Kept.refl _
  clear_value x0
  intro x2
  clear_value x2
  refine Kept.ite (fun z3 => ?_) (fun z3 => ?_)
  · exact h1
  · refine Kept.trans ?_ (Kept.record ..)
    exact h1

theorem State.defaultPut_kept (s : State) (m : Mst) (a : Nat) (cfg : Bool) (v : Word) : Kept s (State.defaultPut s m a cfg v) := by
  unfold State.defaultPut
  split
  · rename_i z1 z2 z3
    refine Kept.ite (fun z4 => ?_) (fun z4 => ?_)
    · refine Kept.trans ?_ (State.cfgWrite_kept ..)
      exact Kept.refl _
    · refine Kept.trans ?_ (State.plainWrite_kept ..)
      exact Kept.refl _
  · rename_i z10 z11
    exact Kept.refl _

theorem State.globalPutA_kept (s : State) (m : Mst) (a : Nat) (v : Word) : Kept s (State.globalPutA s m a v) := by
  unfold State.globalPutA
  split
  · rename_i z0 z1 z2 z3 z4 z5
    refine Kept.trans ?_ (State.glbPrtRstPut_kept ..)
    exact Kept.refl _
  · rename_i z6 z7 z8 z9 z10 z11 z12
    refine Kept.trans ?_ (State.pwrIslPut_kept ..)
    exact Kept.refl _
  · rename_i z13 z14 z15 z16 z17 z18 z19 z20
    refine Kept.trans ?_ (State.shpWrite_kept ..)
    exact Kept.refl _
  · rename_i z21 z22 z23 z24 z25 z26 z27 z28 z29
    refine Kept.trans ?_ (State.tenWrite_kept ..)
    exact Kept.refl _
  · rename_i z30 z31 z32 z33 z34 z35 z36 z37
    refine Kept.ite (fun z38 => ?_) (fun z38 => ?_)
    · refine Kept.ite (fun z39 => ?_) (fun z39 => ?_)
      · refine Kept.trans ?_ (State.evPop_kept ..)
        exact Kept.refl _
      · exact Kept.refl _
    · refine Kept.ite (fun z40 => ?_) (fun z40 => ?_)
      · refine Kept.trans ?_ (State.wmThrottleEnd_kept (h_b := ?_) ..)
        · exact Kept.refl _
        · refine Kept.trans ?_ (State.wmWrite_kept ..)
          exact Kept.refl _
      · refine Kept.ite (fun z41 => ?_) (fun z41 => ?_)
        · refine Kept.trans ?_ (State.glbRstPut_kept ..)
          exact Kept.refl _
        · refine Kept.ite (fun z42 => ?_) (fun z42 => ?_)
          · refine Kept.trans ?_ (State.bootCtlPut_kept ..)
            exact Kept.refl _
          · refine Kept.ite (fun z43 => ?_) (fun z43 => ?_)
            · refine Kept.trans ?_ (State.timCfgPut_kept ..)
              exact Kept.refl _
            · refine Kept.ite (fun z44 => ?_) (fun z44 => ?_)
              · refine Kept.trans ?_ (State.pwrAvsPut_kept ..)
                exact Kept.refl _
              · refine Kept.ite (fun z45 => ?_) (fun z45 => ?_)
                · refine Kept.trans ?_ (State.pwrDfsPut_kept ..)
                  exact Kept.refl _
                · refine Kept.ite (fun z46 => ?_) (fun z46 => ?_)
                  · refine Kept.trans ?_ (State.smpCfgPut_kept ..)
                    exact Kept.refl _
                  · refine Kept.ite (fun z47 => ?_) (fun z47 => ?_)
                    · refine Kept.trans ?_ (State.setQue_kept ..)
                      exact Kept.refl _
                    · refine Kept.ite (fun z48 => ?_) (fun z48 => ?_)
                      · refine Kept.trans ?_ (State.mtrCfgPut_kept ..)
                        exact Kept.refl _
                      · refine Kept.ite (fun z49 => ?_) (fun z49 => ?_)
                        · refine Kept.trans ?_ (State.ringBasePut_kept ..)
                          exact Kept.refl _
                        · refine Kept.ite (fun z50 => ?_) (fun z50 => ?_)
                          · refine Kept.trans ?_ (State.steerWrite_kept ..)
                            exact Kept.refl _
                          · refine Kept.trans ?_ (State.defaultPut_kept ..)
                            exact Kept.refl _

theorem State.globalPutB_kept (s : State) (m : Mst) (a : Nat) (v : Word) : Kept s (State.globalPutB s m a v) := by
  unfold State.globalPutB
  split
  · rename_i z0 z1 z2 z3 z4 z5 z6
    refine Kept.trans ?_ (State.gateCtlPut_kept ..)
    exact Kept.refl _
  · rename_i z7 z8 z9 z10 z11 z12 z13 z14
    refine Kept.trans ?_ (State.gateEntryPut_kept ..)
    exact Kept.refl _
  · rename_i z15 z16 z17 z18 z19 z20 z21 z22 z23
    refine Kept.trans ?_ (State.fltSrcPut_kept ..)
    exact Kept.refl _
  · rename_i z24 z25 z26 z27 z28 z29 z30 z31 z32 z33
    refine Kept.ite (fun z34 => ?_) (fun z34 => ?_)
    · refine Kept.trans ?_ (State.fltDomPut_kept ..)
      exact Kept.refl _
    · exact Kept.refl _
  · rename_i z35 z36 z37 z38 z39 z40 z41 z42 z43 z44 z45
    refine Kept.trans ?_ (State.semRelPut_kept ..)
    exact Kept.refl _
  · rename_i z46 z47 z48 z49 z50 z51 z52 z53 z54 z55
    refine Kept.ite (fun z56 => ?_) (fun z56 => ?_)
    · refine Kept.trans ?_ (State.mtcCfgPut_kept ..)
      exact Kept.refl _
    · refine Kept.ite (fun z57 => ?_) (fun z57 => ?_)
      · refine Kept.trans ?_ (State.rteCfgPut_kept ..)
        exact Kept.refl _
      · refine Kept.ite (fun z58 => ?_) (fun z58 => ?_)
        · refine Kept.trans ?_ (State.drainWrite_kept ..)
          exact Kept.refl _
        · refine Kept.ite (fun z59 => ?_) (fun z59 => ?_)
          · refine Kept.trans ?_ (State.lnkGlbCfgPut_kept ..)
            exact Kept.refl _
          · refine Kept.ite (fun z60 => ?_) (fun z60 => ?_)
            · refine Kept.trans ?_ (State.lcsPut_kept ..)
              exact Kept.refl _
            · refine Kept.ite (fun z61 => ?_) (fun z61 => ?_)
              · refine Kept.trans ?_ (State.cntGlbPut_kept ..)
                exact Kept.refl _
              · refine Kept.ite (fun z62 => ?_) (fun z62 => ?_)
                · refine Kept.trans ?_ (State.cfgWrite_kept ..)
                  exact Kept.refl _
                · refine Kept.ite (fun z63 => ?_) (fun z63 => ?_)
                  · refine Kept.trans ?_ (State.ringBasePut_kept ..)
                    exact Kept.refl _
                  · refine Kept.ite (fun z64 => ?_) (fun z64 => ?_)
                    · refine (State.wmThrottleEnd_kept (h_b := ?_) ..)
                      refine Kept.trans ?_ (State.wmWrite_kept ..)
                      exact Kept.refl _
                    · refine Kept.ite (fun z65 => ?_) (fun z65 => ?_)
                      · refine Kept.trans ?_ (State.bwCfgPut_kept ..)
                        exact Kept.refl _
                      · refine Kept.ite (fun z66 => ?_) (fun z66 => ?_)
                        · refine Kept.trans ?_ (State.fltPinPut_kept ..)
                          exact Kept.refl _
                        · refine Kept.ite (fun z67 => ?_) (fun z67 => ?_)
                          · refine Kept.trans ?_ (State.fltCfgPut_kept ..)
                            exact Kept.refl _
                          · refine Kept.ite (fun z68 => ?_) (fun z68 => ?_)
                            · refine Kept.trans ?_ (State.audCfgPut_kept ..)
                              exact Kept.refl _
                            · refine Kept.ite (fun z69 => ?_) (fun z69 => ?_)
                              · refine Kept.trans ?_ (State.audExportPut_kept ..)
                                exact Kept.refl _
                              · refine Kept.trans ?_ (State.defaultPut_kept ..)
                                exact Kept.refl _

theorem State.portPut_kept (s : State) (m : Mst) (n : Nat) (o : Nat) (v : Word) : Kept s (State.portPut s m n o v) := by
  unfold State.portPut
  split
  · rename_i z1 z2 z3
    refine Kept.trans ?_ (State.lneEqPut_kept ..)
    exact Kept.refl _
  · rename_i z6 z7
    refine Kept.ite (fun z8 => ?_) (fun z8 => ?_)
    · refine Kept.trans ?_ (State.prtCfgPut_kept ..)
      exact Kept.refl _
    · refine Kept.ite (fun z12 => ?_) (fun z12 => ?_)
      · refine Kept.trans ?_ (State.lneCtl_kept ..)
        exact Kept.refl _
      · refine Kept.ite (fun z16 => ?_) (fun z16 => ?_)
        · refine Kept.trans ?_ (State.rtePortPut_kept ..)
          exact Kept.refl _
        · refine Kept.ite (fun z20 => ?_) (fun z20 => ?_)
          · refine Kept.trans ?_ (State.rteLoopPut_kept ..)
            exact Kept.refl _
          · refine Kept.trans ?_ (State.defaultPut_kept ..)
            exact Kept.refl _

theorem State.islandPut_kept (s : State) (m : Mst) (i o : Nat) (v : Word) : Kept s (State.islandPut s m i o v) := by
  unfold State.islandPut
  lift_lets
  intro x0
  clear_value x0
  refine Kept.ite (fun z1 => ?_) (fun z1 => ?_)
  · refine Kept.trans ?_ (State.wmThrottleEnd_kept (h_b := ?_) ..)
    · exact Kept.refl _
    · refine Kept.trans ?_ (State.wmWrite_kept ..)
      exact Kept.refl _
  · refine Kept.ite (fun z2 => ?_) (fun z2 => ?_)
    · refine Kept.trans ?_ (State.islPop_kept ..)
      exact Kept.refl _
    · refine Kept.ite (fun z3 => ?_) (fun z3 => ?_)
      · refine Kept.trans ?_ (State.portPut_kept ..)
        exact Kept.refl _
      · refine Kept.ite (fun z4 => ?_) (fun z4 => ?_)
        · refine Kept.trans ?_ (State.ctxCfgPut_kept ..)
          exact Kept.refl _
        · refine Kept.ite (fun z5 => ?_) (fun z5 => ?_)
          · refine Kept.trans ?_ (State.mailboxCmd_kept ..)
            exact Kept.refl _
          · refine Kept.ite (fun z6 => ?_) (fun z6 => ?_)
            · refine Kept.trans ?_ (State.lmpCfgPut_kept ..)
              exact Kept.refl _
            · refine Kept.ite (fun z7 => ?_) (fun z7 => ?_)
              · refine Kept.trans ?_ (State.lmpCtl_kept ..)
                exact Kept.refl _
              · refine Kept.ite (fun z8 => ?_) (fun z8 => ?_)
                · refine Kept.trans ?_ (State.plainWrite_kept ..)
                  exact Kept.refl _
                · refine Kept.trans ?_ (State.defaultPut_kept ..)
                  exact Kept.refl _

theorem State.windowPut_kept (s : State) (m : Mst) (a : Nat) (v : Word) : Kept s (State.windowPut s m a v) := by
  unfold State.windowPut
  split
  · rename_i z1 z2 z3 z4 z5 z6
    refine Kept.trans ?_ (State.qcwPut_kept ..)
    exact Kept.refl _
  · rename_i z9 z10 z11 z12 z13 z14 z15
    refine Kept.trans ?_ (State.connWrite_kept ..)
    exact Kept.refl _
  · rename_i z18 z19 z20 z21 z22 z23 z24 z25
    refine Kept.trans ?_ (State.set_kept ..)
    exact Kept.refl _
  · rename_i z28 z29 z30 z31 z32 z33 z34 z35 z36
    refine Kept.trans ?_ (State.cvsWrite_kept ..)
    exact Kept.refl _
  · rename_i z39 z40 z41 z42 z43 z44 z45 z46
    split
    · rename_i z48 z49 z50 z51 z52 z53
      refine Kept.trans ?_ (State.mtcWrite_kept ..)
      exact Kept.refl _
    · rename_i z56 z57 z58 z59 z60 z61 z62
      refine Kept.trans ?_ (State.rteWrite_kept ..)
      exact Kept.refl _
    · rename_i z65 z66 z67 z68 z69 z70 z71 z72
      refine Kept.trans ?_ (State.treeWrite_kept ..)
      exact Kept.refl _
    · rename_i z75 z76 z77 z78 z79 z80 z81 z82 z83
      refine Kept.trans ?_ (State.palWinWrite_kept ..)
      exact Kept.refl _
    · rename_i z86 z87 z88 z89 z90 z91 z92 z93
      refine Kept.ite (fun z94 => ?_) (fun z94 => ?_)
      · refine Kept.trans ?_ (State.keyCmd_kept ..)
        exact Kept.refl _
      · refine Kept.trans ?_ (State.defaultPut_kept ..)
        exact Kept.refl _

theorem State.writeReg_kept (s : State) (m : Mst) (a : Nat) (v : Word) : Kept s (State.writeReg s m a v) := by
  unfold State.writeReg
  lift_lets
  intro x0
  clear_value x0
  intro x1
  clear_value x1
  refine Kept.ite (fun z2 => ?_) (fun z2 => ?_)
  · exact Kept.refl _
  · refine Kept.ite (fun z3 => ?_) (fun z3 => ?_)
    · refine Kept.trans ?_ (State.globalPutA_kept ..)
      exact Kept.refl _
    · refine Kept.ite (fun z4 => ?_) (fun z4 => ?_)
      · refine Kept.trans ?_ (State.globalPutB_kept ..)
        exact Kept.refl _
      · refine Kept.ite (fun z5 => ?_) (fun z5 => ?_)
        · refine Kept.ite (fun z6 => ?_) (fun z6 => ?_)
          · refine Kept.trans ?_ (State.wmThrottleEnd_kept (h_b := ?_) ..)
            · exact Kept.refl _
            · refine Kept.trans ?_ (State.wmWrite_kept ..)
              exact Kept.refl _
          · refine Kept.trans ?_ (State.defaultPut_kept ..)
            exact Kept.refl _
        · refine Kept.ite (fun z7 => ?_) (fun z7 => ?_)
          · refine Kept.ite (fun z8 => ?_) (fun z8 => ?_)
            · refine Kept.trans ?_ (State.errinjWrite_kept ..)
              exact Kept.refl _
            · exact Kept.refl _
          · refine Kept.ite (fun z9 => ?_) (fun z9 => ?_)
            · refine Kept.ite (fun z10 => ?_) (fun z10 => ?_)
              · refine Kept.trans ?_ (State.rangedPut_kept ..)
                exact Kept.refl _
              · refine Kept.ite (fun z11 => ?_) (fun z11 => ?_)
                · refine Kept.trans ?_ (State.migWrite_kept ..)
                  exact Kept.refl _
                · refine Kept.ite (fun z12 => ?_) (fun z12 => ?_)
                  · refine Kept.trans ?_ (State.placeWrite_kept ..)
                    exact Kept.refl _
                  · refine Kept.ite (fun z13 => ?_) (fun z13 => ?_)
                    · refine Kept.trans ?_ (State.allocWrite_kept ..)
                      exact Kept.refl _
                    · refine Kept.ite (fun z14 => ?_) (fun z14 => ?_)
                      · refine Kept.trans ?_ (State.plainWrite_kept ..)
                        exact Kept.refl _
                      · exact Kept.refl _
            · refine Kept.ite (fun z15 => ?_) (fun z15 => ?_)
              · refine Kept.trans ?_ (State.islandPut_kept ..)
                exact Kept.refl _
              · refine Kept.ite (fun z16 => ?_) (fun z16 => ?_)
                · refine Kept.trans ?_ (State.windowPut_kept ..)
                  exact Kept.refl _
                · exact Kept.refl _

theorem State.masterRead_kept (s : State) (m : Mst) (a : Nat) : Kept s (State.masterRead s m a) := by
  unfold State.masterRead
  refine Kept.ite (fun z0 => ?_) (fun z0 => ?_)
  · refine Kept.trans ?_ (State.answer_kept ..)
    exact Kept.refl _
  · split
    · rename_i z5 z6 z7
      refine Kept.trans ?_ (State.readReg_kept ..)
      refine Kept.eqn z7 ?_
      refine Kept.trans ?_ (State.openReg_kept ..)
      exact Kept.refl _
    · rename_i z12 z13 z14
      refine Kept.trans ?_ (State.answerOnes_kept ..)
      refine Kept.eqn z14 ?_
      refine Kept.trans ?_ (State.openReg_kept ..)
      exact Kept.refl _

theorem State.masterWrite_kept (s : State) (m : Mst) (a : Nat) (v : Word) : Kept s (State.masterWrite s m a v) := by
  unfold State.masterWrite
  refine Kept.ite (fun z0 => ?_) (fun z0 => ?_)
  · refine Kept.ite (fun z1 => ?_) (fun z1 => ?_)
    · refine Kept.trans ?_ (State.plainWrite_kept ..)
      exact Kept.refl _
    · exact Kept.refl _
  · split
    · rename_i z2 z3 z4
      refine Kept.trans ?_ (State.writeReg_kept ..)
      refine Kept.eqn z4 ?_
      refine Kept.trans ?_ (State.openReg_kept ..)
      exact Kept.refl _
    · rename_i z5 z6 z7
      refine Kept.trans ?_ (State.writeLost_kept ..)
      refine Kept.eqn z7 ?_
      refine Kept.trans ?_ (State.openReg_kept ..)
      exact Kept.refl _

theorem execRegisterWrite_kept (m : Mst) (addr : BitVec 25) (v : Word) (s : State) : Sound s (execRegisterWrite m addr v s) := by
  unfold execRegisterWrite
  refine Sound.ite (fun z0 => ?_) (fun z0 => ?_)
  · refine Sound.of ?_ (fin_kept ..)
    refine Kept.trans ?_ (State.holdReg_kept ..)
    exact Kept.refl _
  · refine Sound.ite (fun z1 => ?_) (fun z1 => ?_)
    · refine Sound.of ?_ (fin_kept ..)
      exact Kept.refl _
    · refine Sound.of ?_ (fin_kept ..)
      refine Kept.trans ?_ (State.masterWrite_kept ..)
      exact Kept.refl _

theorem execRegisterReadClear_kept (m : Mst) (addr : BitVec 25) (s : State) : Sound s (execRegisterReadClear m addr s) := by
  unfold execRegisterReadClear
  refine Sound.ite (fun z0 => ?_) (fun z0 => ?_)
  · refine Sound.of ?_ (fin_kept ..)
    refine Kept.trans ?_ (State.holdReg_kept ..)
    exact Kept.refl _
  · refine Sound.ite (fun z1 => ?_) (fun z1 => ?_)
    · refine Sound.of ?_ (fin_kept ..)
      refine Kept.trans ?_ (State.answer_kept ..)
      exact Kept.refl _
    · refine Sound.of ?_ (fin_kept ..)
      refine Kept.trans ?_ (State.masterRead_kept ..)
      exact Kept.refl _

theorem State.longRead_kept (s : State) (m : Mst) (a : Nat) (n : Nat) : Kept s (State.longRead s m a n) := by
  unfold State.longRead
  refine Kept.trans ?_ (Kept.foldl (fun t0 x1 => ?_) _ _)
  · exact Kept.refl _
  · refine Kept.trans ?_ (State.masterRead_kept ..)
    exact Kept.refl _

theorem State.longWrite_kept (s : State) (m : Mst) (a n : Nat) (bs : List Byte) : Kept s (State.longWrite s m a n bs) := by
  unfold State.longWrite
  refine Kept.trans ?_ (Kept.foldl (fun t0 x1 => ?_) _ _)
  · exact Kept.refl _
  · refine Kept.trans ?_ (State.masterWrite_kept ..)
    exact Kept.refl _

theorem execRegisterOddAccess_kept (m : Mst) (addr : BitVec 25) (size : Nat) (write : Option (List Byte)) (s : State) : Sound s (execRegisterOddAccess m addr size write s) := by
  unfold execRegisterOddAccess
  lift_lets
  intro x0
  clear_value x0
  split
  · rename_i z1 z2
    refine Sound.ite (fun z3 => ?_) (fun z3 => ?_)
    · refine Sound.next ?_
      exact Kept.refl _
    · refine Sound.ite (fun z4 => ?_) (fun z4 => ?_)
      · refine Sound.of ?_ (fin_kept ..)
        refine Kept.trans ?_ (Kept.foldl (fun t5 x6 => ?_) _ _)
        · exact Kept.refl _
        · refine Kept.trans ?_ (State.holdReg_kept ..)
          exact Kept.refl _
      · refine Sound.of ?_ (fin_kept ..)
        refine Kept.trans ?_ (State.longWrite_kept ..)
        exact Kept.refl _
  · rename_i z7
    refine Sound.ite (fun z8 => ?_) (fun z8 => ?_)
    · refine Sound.ite (fun z9 => ?_) (fun z9 => ?_)
      · refine Sound.of ?_ (fin_kept ..)
        refine Kept.trans ?_ (Kept.foldl (fun t10 x11 => ?_) _ _)
        · exact Kept.refl _
        · refine Kept.trans ?_ (State.holdReg_kept ..)
          exact Kept.refl _
      · refine Sound.of ?_ (fin_kept ..)
        refine Kept.trans ?_ (State.longRead_kept ..)
        exact Kept.refl _
    · refine Sound.ite (fun z12 => ?_) (fun z12 => ?_)
      · refine Sound.of ?_ (fin_kept ..)
        refine Kept.trans ?_ (State.holdReg_kept ..)
        exact Kept.refl _
      · refine Sound.ite (fun z13 => ?_) (fun z13 => ?_)
        · refine Sound.next ?_
          exact Kept.refl _
        · refine Sound.of ?_ (fin_kept ..)
          refine Kept.trans ?_ (State.answer_kept ..)
          exact Kept.refl _

theorem execReadReg_kept (r : MgmtReq) (addr : BitVec 25) (s : State) : Sound s (execReadReg r addr s) := by
  unfold execReadReg
  refine Sound.of ?_ (State.mgmtRow_kept (h_f := fun u0 => ?_) ..)
  · exact Kept.refl _
  · split
    · rename_i z1 z2 z3
      refine Kept.trans ?_ (State.readReg_kept ..)
      refine Kept.eqn z3 ?_
      refine Kept.trans ?_ (State.openReg_kept ..)
      exact Kept.refl _
    · rename_i z4 z5 z6
      refine Kept.trans ?_ (State.mgmtAnswer_kept ..)
      refine Kept.eqn z6 ?_
      refine Kept.trans ?_ (State.openReg_kept ..)
      exact Kept.refl _

theorem execWriteReg_kept (r : MgmtReq) (addr : BitVec 25) (v : Word) (s : State) : Sound s (execWriteReg r addr v s) := by
  unfold execWriteReg
  refine Sound.of ?_ (State.mgmtRow_kept (h_f := fun u0 => ?_) ..)
  · exact Kept.refl _
  · split
    · rename_i z1 z2 z3
      lift_lets
      intro x4
      clear_value x4
      intro x5
      have h6 : Kept u0 x5 := by
        unfold x5
        refine Kept.trans ?_ (Kept.record ..)
        refine Kept.eqn z3 ?_
        refine Kept.trans ?_ (State.openReg_kept ..)
        exact Kept.refl _
      clear_value x5
      intro x7
      have h8 : Kept u0 x7 := by
        unfold x7
        refine Kept.trans ?_ (State.writeReg_kept ..)
        exact h6
      clear_value x7
      refine Kept.trans ?_ (State.mgmtAnswer_kept ..)
      exact h8
    · rename_i z9 z10 z11
      refine Kept.trans ?_ (State.mgmtAnswer_kept ..)
      refine Kept.eqn z11 ?_
      refine Kept.trans ?_ (State.openReg_kept ..)
      exact Kept.refl _

theorem State.debugDevice_kept (s : State) (a : Nat) (v : Option Word) : Kept s (State.debugDevice s a v) := by
  unfold State.debugDevice
  refine Kept.ite (fun z0 => ?_) (fun z0 => ?_)
  · refine Kept.trans ?_ (State.emit_kept ..)
    exact Kept.refl _
  · split
    · rename_i z5 z6
      refine Kept.trans ?_ (State.devWrite_kept ..)
      exact Kept.refl _
    · rename_i z9
      split
      rename_i z11 z12 z13 z14 z15
      refine Kept.ite (fun z16 => ?_) (fun z16 => ?_)
      · refine Kept.trans ?_ (State.answer_kept ..)
        refine Kept.trans ?_ (State.drawn_kept ..)
        refine Kept.eqn z15 ?_
        refine Kept.trans ?_ (State.devRead_kept ..)
        exact Kept.refl _
      · refine Kept.trans ?_ (State.answer_kept ..)
        refine Kept.eqn z15 ?_
        refine Kept.trans ?_ (State.devRead_kept ..)
        exact Kept.refl _

theorem State.answerBytes_kept (s : State) (m : Mst) (a n : Nat) : Kept s (State.answerBytes s m a n) := by
  unfold State.answerBytes
  split
  rename_i z0 z1 z2 z3 z4
  refine Kept.trans ?_ (Kept.foldl (fun t5 x6 => ?_) _ _)
  · refine Kept.eqn z4 ?_
    refine Kept.trans ?_ (State.devRead_kept ..)
    exact Kept.refl _
  · refine Kept.ite (fun z7 => ?_) (fun z7 => ?_)
    · refine Kept.trans ?_ (State.answer_kept ..)
      refine Kept.trans ?_ (State.drawn_kept ..)
      exact Kept.refl _
    · refine Kept.trans ?_ (State.answer_kept ..)
      exact Kept.refl _

theorem State.debugBlock_kept (s : State) (a : Nat) (data : List Byte) (write : Bool) : Kept s (State.debugBlock s a data write) := by
  unfold State.debugBlock
  refine Kept.ite (fun z0 => ?_) (fun z0 => ?_)
  · refine Kept.trans ?_ (State.emit_kept ..)
    exact Kept.refl _
  · refine Kept.ite (fun z1 => ?_) (fun z1 => ?_)
    · refine Kept.trans ?_ (State.devWrite_kept ..)
      exact Kept.refl _
    · refine Kept.trans ?_ (State.answerBytes_kept ..)
      exact Kept.refl _

theorem execDebugAccess_kept (a : DbgSpace) (v : Option Word) (s : State) : Sound s (execDebugAccess a v s) := by
  unfold execDebugAccess
  lift_lets
  intro x0
  clear_value x0
  refine Sound.ite (fun z1 => ?_) (fun z1 => ?_)
  · refine Sound.next ?_
    exact Kept.refl _
  · refine Sound.ite (fun z2 => ?_) (fun z2 => ?_)
    · refine Sound.next ?_
      exact Kept.refl _
    · split
      · rename_i z3 z4
        refine Sound.ite (fun z5 => ?_) (fun z5 => ?_)
        · refine Sound.of ?_ (fin_kept ..)
          refine Kept.ite (fun z6 => ?_) (fun z6 => ?_)
          · exact Kept.refl _
          · refine Kept.trans ?_ (State.answer_kept ..)
            exact Kept.refl _
        · split
          · rename_i z7 z8 z9 z10 z11
            refine Sound.of ?_ (fin_kept ..)
            refine Kept.trans ?_ (State.writeReg_kept ..)
            refine Kept.eqn z11 ?_
            refine Kept.trans ?_ (State.openReg_kept ..)
            exact Kept.refl _
          · rename_i z12 z13 z14 z15
            refine Sound.of ?_ (fin_kept ..)
            refine Kept.trans ?_ (State.readReg_kept ..)
            refine Kept.eqn z15 ?_
            refine Kept.trans ?_ (State.openReg_kept ..)
            exact Kept.refl _
          · rename_i z16 z17 z18 z19 z20
            refine Sound.of ?_ (fin_kept ..)
            refine Kept.trans ?_ (State.emit_kept ..)
            refine Kept.eqn z20 ?_
            refine Kept.trans ?_ (State.openReg_kept ..)
            exact Kept.refl _
      · rename_i z21 z22
        split
        · rename_i z23 z24 z25
          refine Sound.of ?_ (fin_kept ..)
          refine Kept.trans ?_ (State.debugDevice_kept ..)
          refine Kept.eqn z25 ?_
          refine Kept.trans ?_ (State.debugGate_kept ..)
          exact Kept.refl _
        · rename_i z26 z27 z28
          refine Sound.of ?_ (fin_kept ..)
          refine Kept.trans ?_ (State.emit_kept ..)
          refine Kept.eqn z28 ?_
          refine Kept.trans ?_ (State.debugGate_kept ..)
          exact Kept.refl _
      · rename_i z29 z30 z31
        split
        · rename_i z32 z33 z34
          refine Sound.of ?_ (fin_kept ..)
          refine Kept.trans ?_ (State.debugBlock_kept ..)
          refine Kept.eqn z34 ?_
          refine Kept.trans ?_ (State.debugGate_kept ..)
          exact Kept.refl _
        · rename_i z35 z36 z37
          refine Sound.of ?_ (fin_kept ..)
          refine Kept.trans ?_ (State.emit_kept ..)
          refine Kept.eqn z37 ?_
          refine Kept.trans ?_ (State.debugGate_kept ..)
          exact Kept.refl _

theorem execPaletteWindowAccess_kept (m : Mst) (w : Fin 16) (v : Option Word) (s : State) : Sound s (execPaletteWindowAccess m w v s) := by
  unfold execPaletteWindowAccess
  split
  · rename_i z0 z1
    refine Sound.of ?_ (regWriteRow_kept (h_f := fun u2 y3 => ?_) ..)
    · exact Kept.refl _
    · refine Kept.trans ?_ (State.palWinWrite_kept ..)
      exact Kept.refl _
  · rename_i z4
    refine Sound.of ?_ (regReadRow_kept (h_f := fun u5 => ?_) ..)
    · exact Kept.refl _
    · split
      rename_i z6 z7 z8 z9
      refine Kept.trans ?_ (State.answer_kept ..)
      refine Kept.eqn z9 ?_
      refine Kept.trans ?_ (State.palWinRead_kept ..)
      exact Kept.refl _

theorem State.barRead_kept (s : State) (func : Nat) (bar : Nat) (off : Nat) : Kept s (State.barRead s func bar off) := by
  unfold State.barRead
  lift_lets
  intro x0
  clear_value x0
  refine Kept.ite (fun z1 => ?_) (fun z1 => ?_)
  · refine Kept.trans ?_ (State.masterRead_kept ..)
    exact Kept.refl _
  · refine Kept.trans ?_ (State.answer_kept ..)
    exact Kept.refl _

theorem State.barWrite_kept (s : State) (func bar off : Nat) (v : Word) : Kept s (State.barWrite s func bar off v) := by
  unfold State.barWrite
  lift_lets
  intro x0
  clear_value x0
  intro x1
  clear_value x1
  intro x2
  clear_value x2
  refine Kept.ite (fun z3 => ?_) (fun z3 => ?_)
  · exact Kept.refl _
  · refine Kept.ite (fun z4 => ?_) (fun z4 => ?_)
    · refine Kept.ite (fun z5 => ?_) (fun z5 => ?_)
      · refine Kept.trans ?_ (State.holdWrite_kept ..)
        exact Kept.refl _
      · refine Kept.ite (fun z6 => ?_) (fun z6 => ?_)
        · refine Kept.trans ?_ (State.masterWrite_kept ..)
          exact Kept.refl _
        · exact Kept.refl _
    · refine Kept.ite (fun z7 => ?_) (fun z7 => ?_)
      · refine Kept.ite (fun z8 => ?_) (fun z8 => ?_)
        · refine Kept.trans ?_ (State.holdWrite_kept ..)
          exact Kept.refl _
        · refine Kept.trans ?_ (State.doorbellWrite_kept ..)
          exact Kept.refl _
      · refine Kept.ite (fun z9 => ?_) (fun z9 => ?_)
        · refine Kept.trans ?_ (State.holdWrite_kept ..)
          exact Kept.refl _
        · refine KeptOpt.getD ?_ ?_
          · refine KeptOpt.of ?_ (State.easelApply_kept _ _ _ _ _)
            exact Kept.refl _
          · refine Kept.trans ?_ (State.holdWrite_kept ..)
            exact Kept.refl _

theorem State.configPut_kept (s : State) (k off : Nat) (v : BitVec 32) : Kept s (State.configPut s k off v) := by
  unfold State.configPut
  lift_lets
  intro x0
  clear_value x0
  refine Kept.ite (fun z1 => ?_) (fun z1 => ?_)
  · refine Kept.trans ?_ (State.msixFlush_kept ..)
    refine Kept.trans ?_ (State.setFn_kept ..)
    exact Kept.refl _
  · refine Kept.ite (fun z2 => ?_) (fun z2 => ?_)
    · refine Kept.trans ?_ (State.setFn_kept ..)
      exact Kept.refl _
    · refine Kept.ite (fun z3 => ?_) (fun z3 => ?_)
      · refine Kept.trans ?_ (State.msixFlush_kept ..)
        refine Kept.trans ?_ (State.setFn_kept ..)
        exact Kept.refl _
      · refine Kept.ite (fun z4 => ?_) (fun z4 => ?_)
        · refine Kept.ite (fun z5 => ?_) (fun z5 => ?_)
          · exact Kept.refl _
          · refine Kept.trans ?_ (State.flrBegin_kept ..)
            exact Kept.refl _
        · refine Kept.ite (fun z6 => ?_) (fun z6 => ?_)
          · exact Kept.refl _
          · refine Kept.trans ?_ (State.setFn_kept ..)
            exact Kept.refl _

theorem State.msixPut_kept (s : State) (k vector : Nat) (e : MsixEntry) : Kept s (State.msixPut s k vector e) := by
  unfold State.msixPut
  refine Kept.ite (fun z0 => ?_) (fun z0 => ?_)
  · refine Kept.trans ?_ (State.msixFlush_kept ..)
    refine Kept.trans ?_ (State.setFn_kept ..)
    exact Kept.refl _
  · exact Kept.refl _

theorem State.barAtomic_kept (s : State) (func bar off size : Nat) (op : AtomOp) (y cmp : Nat) :
    Kept s (State.barAtomic s func bar off size op y cmp) := by
  unfold State.barAtomic
  lift_lets
  intro m a at' lo hi
  clear_value m a at' lo hi
  refine Kept.ite (fun _ => State.barRead_kept ..) (fun _ => Kept.ite (fun _ => State.answer_kept ..) (fun _ => ?_))
  have hp : Kept s (if isVf m then (s, s.fnAnswers func && !s.halted) else s.openReg m (at' 0) .atomic).1 :=
    KeptFst.out (KeptFst.ite (fun _ => KeptFst.pair (Kept.refl s)) (fun _ => KeptFst.of (State.openReg_kept ..)))
  rcases e : (if isVf m then (s, s.fnAnswers func && !s.halted) else s.openReg m (at' 0) .atomic) with ⟨t, b⟩
  rw [e] at hp
  cases b with
  | false => exact hp.trans (State.answerOnes_kept ..)
  | true =>
    dsimp only
    refine Kept.trans ?_ (Kept.foldl (fun t v => State.answer_kept ..) _ _)
    refine Kept.trans ?_ (Kept.foldl (fun t i => Kept.ite (fun _ => Kept.refl t)
      (fun _ => Kept.ite (fun _ => State.masterWrite_kept ..) (fun _ => State.writeReg_kept ..))) _ _)
    refine hp.trans (Kept.foldl_pair (f := fun (t : State × List Word) i =>
      ((if isVf m then (t.1, t.1.tspWord func (at' i)) else t.1.readWord m (at' i)).1,
        t.2 ++ [(if isVf m then (t.1, t.1.tspWord func (at' i)) else t.1.readWord m (at' i)).2])) (fun t b i => ?_) _ (t, []))
    exact KeptFst.out (KeptFst.ite (fun _ => KeptFst.pair (Kept.refl t)) (fun _ => KeptFst.of (State.readWord_kept t m (at' i))))

theorem State.hostPerform_kept (s : State) (func : Nat) (r : HostReq) : Kept s (State.hostPerform s func r) := by
  unfold State.hostPerform
  lift_lets
  intro x0
  clear_value x0
  intro x1
  clear_value x1
  split
  · rename_i z2 z3
    refine Kept.trans ?_ (State.emit_kept ..)
    exact Kept.refl _
  · rename_i z4 z5 z6
    refine Kept.ite (fun z7 => ?_) (fun z7 => ?_)
    · refine Kept.trans ?_ (State.configPut_kept ..)
      exact Kept.refl _
    · exact Kept.refl _
  · rename_i z8 z9
    refine Kept.trans ?_ (State.emit_kept ..)
    exact Kept.refl _
  · rename_i z10 z11 z12 z13 z14
    refine Kept.ite (fun z15 => ?_) (fun z15 => ?_)
    · refine Kept.trans ?_ (State.msixPut_kept ..)
      exact Kept.refl _
    · exact Kept.refl _
  · rename_i z16 z17 z18
    refine Kept.ite (fun z19 => ?_) (fun z19 => ?_)
    · refine Kept.trans ?_ (State.msixFlush_kept ..)
      refine Kept.trans ?_ (State.setFn_kept ..)
      exact Kept.refl _
    · exact Kept.refl _
  · rename_i z20 z21 z22 z23 z24 z25 z26
    refine Kept.trans ?_ (State.barAtomic_kept ..)
    exact Kept.refl _
  · rename_i z27 z28 z29 z30 z31 z32 z33
    exact Kept.refl _

theorem State.releaseHead_kept (s : State) (p : Nat) : KeptOpt s (State.releaseHead s p) := by
  unfold State.releaseHead
  split
  · rename_i z0 z1
    exact KeptOpt.none _
  · rename_i z2 z3 z4 z5
    lift_lets
    intro x6
    clear_value x6
    intro x7
    have h8 : Kept s x7 := by
      unfold x7
      refine Kept.trans ?_ (State.setHost_kept ..)
      exact Kept.refl _
    clear_value x7
    split
    · rename_i z9 z10 z11
      refine KeptOpt.ite (fun z12 => ?_) (fun z12 => ?_)
      · exact KeptOpt.none _
      · refine KeptOpt.some ?_
        refine Kept.trans ?_ (State.hostPerform_kept ..)
        exact h8
    · rename_i z13 z14
      refine KeptOpt.ite (fun z15 => ?_) (fun z15 => ?_)
      · refine KeptOpt.some ?_
        refine Kept.trans ?_ (State.barRead_kept ..)
        exact h8
      · refine KeptOpt.ite (fun z16 => ?_) (fun z16 => ?_)
        · refine KeptOpt.some ?_
          exact h8
        · refine KeptOpt.ite (fun z17 => ?_) (fun z17 => ?_)
          · exact KeptOpt.none _
          · refine KeptOpt.ite (fun z18 => ?_) (fun z18 => ?_)
            · refine KeptOpt.of ?_ (State.easelApply_kept _ _ _ _ _)
              exact h8
            · refine KeptOpt.ite (fun z19 => ?_) (fun z19 => ?_)
              · exact KeptOpt.none _
              · refine KeptOpt.ite (fun z20 => ?_) (fun z20 => ?_)
                · refine KeptOpt.some ?_
                  refine Kept.trans ?_ (State.doorbellWrite_kept ..)
                  exact h8
                · refine KeptOpt.some ?_
                  refine Kept.trans ?_ (State.masterWrite_kept ..)
                  exact h8

theorem State.releaseHeld_kept (p n : Nat) (s : State) : Kept s (State.releaseHeld p n s) := by
  induction n generalizing s with
  | zero => exact Kept.refl s
  | succ n ih =>
    unfold State.releaseHeld
    split
    · rename_i t e
      exact (KeptOpt.get e (State.releaseHead_kept _ _)).trans (ih _)
    · exact Kept.refl s

theorem execEaselWriteApply_kept (p : Fin 4) (s : State) : Sound s (execEaselWriteApply p s) := by
  unfold execEaselWriteApply
  refine Sound.of ?_ (fin_kept ..)
  refine Kept.trans ?_ (State.releaseHeld_kept ..)
  exact Kept.refl _

theorem State.configRow_kept (s : State) (port : Nat) (f : State → State) (h_f : ∀ u, Kept u (f u)) : Sound s (State.configRow s port f) := by
  unfold State.configRow
  refine Sound.ite (fun z0 => ?_) (fun z0 => ?_)
  · refine Sound.of ?_ (fin_kept ..)
    refine Kept.trans ?_ (State.emit_kept ..)
    exact Kept.refl _
  · refine Sound.of ?_ (fin_kept ..)
    exact h_f ..

theorem State.hostTurn_kept (s : State) (p f : Nat) (r : HostReq) : Kept s (State.hostTurn s p f r) := by
  unfold State.hostTurn
  refine Kept.ite (fun z0 => ?_) (fun z0 => ?_)
  · refine Kept.trans ?_ (State.holdWrite_kept ..)
    exact Kept.refl _
  · refine Kept.trans ?_ (State.hostPerform_kept ..)
    exact Kept.refl _

theorem State.pierRow_kept (s : State) (f : State → State) (h_f : ∀ u, Kept u (f u)) : Sound s (State.pierRow s f) := by
  unfold State.pierRow
  refine Sound.ite (fun z0 => ?_) (fun z0 => ?_)
  · refine Sound.of ?_ (State.configRow_kept (h_f := fun u1 => ?_) ..)
    · exact Kept.refl _
    · exact h_f ..
  · refine Sound.of ?_ (fin_kept ..)
    exact Kept.refl _

theorem State.pierMem_kept (s : State) (f : State → State) (h_f : ∀ u, Kept u (f u)) : Sound s (State.pierMem s f) := by
  unfold State.pierMem
  refine Sound.ite (fun z0 => ?_) (fun z0 => ?_)
  · refine Sound.of ?_ (fin_kept ..)
    exact h_f ..
  · refine Sound.of ?_ (fin_kept ..)
    exact Kept.refl _

theorem State.pierRead_kept (s : State) (a n : Nat) : Kept s (State.pierRead s a n) := by
  unfold State.pierRead
  lift_lets
  intro x0
  have h1 : ∀ y1, Kept y1 (x0 y1) := by
    intro y2
    unfold x0
    refine Kept.trans ?_ (Kept.foldl (fun t3 x4 => ?_) _ _)
    · exact Kept.refl _
    · refine Kept.trans ?_ (State.answer_kept ..)
      exact Kept.refl _
  clear_value x0
  refine Kept.ite (fun z5 => ?_) (fun z5 => ?_)
  · exact h1 ..
  · split
    · rename_i z6 z7 z8
      refine Kept.trans ?_ (State.answerBytes_kept ..)
      refine Kept.eqn z8 ?_
      refine Kept.trans ?_ (State.gate_kept ..)
      exact Kept.refl _
    · rename_i z9 z10 z11
      refine Kept.trans ?_ (h1 ..)
      refine Kept.eqn z11 ?_
      refine Kept.trans ?_ (State.gate_kept ..)
      exact Kept.refl _

theorem State.pierWrite_kept (s : State) (a : Nat) (bs : List Byte) : Kept s (State.pierWrite s a bs) := by
  unfold State.pierWrite
  refine Kept.ite (fun z0 => ?_) (fun z0 => ?_)
  · exact Kept.refl _
  · split
    · rename_i z1 z2 z3
      refine Kept.trans ?_ (State.devWrite_kept ..)
      refine Kept.eqn z3 ?_
      refine Kept.trans ?_ (State.gate_kept ..)
      exact Kept.refl _
    · rename_i z4 z5 z6
      refine Kept.eqn z6 ?_
      refine Kept.trans ?_ (State.gate_kept ..)
      exact Kept.refl _

theorem execHostRequestWhileBusy_kept (p : Fin 4) (f : Fin 256) (r : HostReq) (s : State) : Sound s (execHostRequestWhileBusy p f r s) := by
  unfold execHostRequestWhileBusy
  lift_lets
  intro x0
  clear_value x0
  split
  · rename_i z1 z2
    refine Sound.of ?_ (State.pierRow_kept (h_f := fun u3 => ?_) ..)
    · exact Kept.refl _
    · refine Kept.trans ?_ (State.emit_kept ..)
      exact Kept.refl _
  · rename_i z4 z5 z6
    refine Sound.of ?_ (State.pierRow_kept (h_f := fun u7 => ?_) ..)
    · exact Kept.refl _
    · refine Kept.trans ?_ (State.configPut_kept ..)
      exact Kept.refl _
  · rename_i z8 z9
    refine Sound.of ?_ (State.pierMem_kept (h_f := fun u10 => ?_) ..)
    · exact Kept.refl _
    · refine Kept.trans ?_ (State.emit_kept ..)
      exact Kept.refl _
  · rename_i z11 z12 z13 z14 z15
    refine Sound.of ?_ (State.pierMem_kept (h_f := fun u16 => ?_) ..)
    · exact Kept.refl _
    · refine Kept.ite (fun z17 => ?_) (fun z17 => ?_)
      · exact Kept.refl _
      · refine Kept.trans ?_ (State.msixPut_kept ..)
        exact Kept.refl _
  · rename_i z18 z19 z20
    refine Sound.of ?_ (State.pierRow_kept (h_f := fun u21 => ?_) ..)
    · exact Kept.refl _
    · refine Kept.trans ?_ (State.msixFlush_kept ..)
      refine Kept.trans ?_ (State.setFn_kept ..)
      exact Kept.refl _
  · rename_i z22 z23 z24
    refine Sound.of ?_ (State.pierMem_kept (h_f := fun u25 => ?_) ..)
    · exact Kept.refl _
    · refine Kept.trans ?_ (State.pierRead_kept ..)
      exact Kept.refl _
  · rename_i z26 z27 z28
    refine Sound.of ?_ (State.pierMem_kept (h_f := fun u29 => ?_) ..)
    · exact Kept.refl _
    · refine Kept.trans ?_ (State.pierWrite_kept ..)
      exact Kept.refl _
  · rename_i z30 z31 z32
    refine Sound.ite (fun z33 => ?_) (fun z33 => ?_)
    · refine Sound.of ?_ (fin_kept ..)
      refine Kept.trans ?_ (State.holdWrite_kept ..)
      exact Kept.refl _
    · refine Sound.of ?_ (fin_kept ..)
      refine Kept.trans ?_ (State.barRead_kept ..)
      exact Kept.refl _
  · rename_i z34 z35 z36 z37
    refine Sound.of ?_ (fin_kept ..)
    refine Kept.trans ?_ (State.barWrite_kept ..)
    exact Kept.refl _
  · rename_i z38 z39 z40 z41 z42 z43 z44
    refine Sound.of ?_ (fin_kept ..)
    refine Kept.trans ?_ (State.hostTurn_kept ..)
    exact Kept.refl _
  · rename_i z45 z46
    refine Sound.of ?_ (fin_kept ..)
    refine Kept.trans ?_ (State.hostTurn_kept ..)
    exact Kept.refl _
  · rename_i z47 z48 z49 z50 z51
    refine Sound.of ?_ (fin_kept ..)
    refine Kept.trans ?_ (State.hostTurn_kept ..)
    exact Kept.refl _
  · rename_i z52 z53 z54 z55 z56 z57 z58 z59 z60 z61 z62 z63 z64
    refine Sound.of ?_ (State.configRow_kept (h_f := fun u65 => ?_) ..)
    · exact Kept.refl _
    · refine Kept.trans ?_ (State.hostTurn_kept ..)
      exact Kept.refl _

theorem State.fuseState_kept (s : State) : Kept s (State.fuseState s) := by
  have h : ∀ n p k, s.fuses.state ≤ n → Kept s { s with fuses := { s.fuses with state := n, pending := p, killed := k } } :=
    fun n p k hn => ⟨rfl, fun i => ⟨i.mem, i.pal, i.regs⟩, hn⟩
  have g := (((h (max s.fuses.state (s.fuses.pending.getD 0)) none
    (s.fuses.killed || max s.fuses.state (s.fuses.pending.getD 0) == 3) (Nat.le_max_left _ _)).trans
    (State.wr_kept _ F.lcsState_STATE (max s.fuses.state (s.fuses.pending.getD 0)))).trans
    (State.wr_kept _ F.lcsState_PENDING 0)).trans (State.wr_kept _ F.lcsState_NEXT 0)
  unfold State.fuseState
  exact Kept.ite (fun _ => (g.trans (Kept.record ..)).trans (Kept.foldl (fun t n => State.hostLinkLost_kept t n) _ _)) (fun _ => g)

theorem State.fuseLoad_kept (s : State) : Kept s (State.fuseLoad s) := by
  unfold State.fuseLoad
  lift_lets
  intro x0
  have h1 : Kept s x0 := by
    unfold x0
    refine Kept.trans ?_ (State.fuseState_kept ..)
    exact Kept.refl _
  clear_value x0
  intro x4
  have h5 : Kept s x4 := by
    unfold x4
    refine Kept.ite (fun z6 => ?_) (fun z6 => ?_)
    · refine Kept.trans ?_ (State.wr_kept ..)
      exact h1
    · exact h1
  clear_value x4
  refine Kept.ite (fun z11 => ?_) (fun z11 => ?_)
  · exact h5
  · refine Kept.trans ?_ (State.raise_kept ..)
    exact h5

theorem State.repairOne_kept (s : State) (i : Nat) : Kept s (State.repairOne s i) := by
  unfold State.repairOne
  lift_lets
  intro x0
  clear_value x0
  intro x1
  clear_value x1
  intro x2
  clear_value x2
  intro x3
  clear_value x3
  intro x4
  clear_value x4
  intro x5
  clear_value x5
  refine Kept.ite (fun z6 => ?_) (fun z6 => ?_)
  · refine Kept.trans ?_ (State.audCorrupt_kept ..)
    exact Kept.refl _
  · refine Kept.ite (fun z7 => ?_) (fun z7 => ?_)
    · refine Kept.trans ?_ (Kept.record ..)
      exact Kept.refl _
    · refine Kept.ite (fun z8 => ?_) (fun z8 => ?_)
      · refine Kept.trans ?_ (State.remapIn_kept ..)
        exact Kept.refl _
      · refine Kept.ite (fun z9 => ?_) (fun z9 => ?_)
        · refine Kept.trans ?_ (State.mapTo_kept ..)
          exact Kept.refl _
        · refine Kept.ite (fun z10 => ?_) (fun z10 => ?_)
          · refine Kept.trans ?_ (State.set_kept ..)
            exact Kept.refl _
          · exact Kept.refl _

theorem State.softRepair_kept (s : State) : Kept s (State.softRepair s) := by
  unfold State.softRepair
  refine Kept.trans ?_ (Kept.foldl (fun t0 x1 => ?_) _ _)
  · exact Kept.refl _
  · refine Kept.trans ?_ (State.repairOne_kept ..)
    exact Kept.refl _

theorem State.bootRings_kept (s : State) : Kept s (State.bootRings s) := by
  unfold State.bootRings
  lift_lets
  intro x0
  have h1 : Kept s x0 := by
    unfold x0
    refine Kept.trans ?_ (State.wr_kept ..)
    refine Kept.trans ?_ (State.wr_kept ..)
    refine Kept.trans ?_ (State.wr_kept ..)
    exact Kept.refl _
  clear_value x0
  refine Kept.trans ?_ (State.wr_kept ..)
  exact h1

theorem State.memoryZero_kept (s : State) : Kept s (State.memoryZero s) := by
  have h : Kept s { s with mem := [], poison := [], coh := {},
                           gddr := { remaps := s.gddr.remaps, scrubAt := s.now, placeAt := s.now } } :=
    ⟨rfl, fun i => ⟨rfl, i.pal, i.regs⟩, Nat.le_refl _⟩
  exact h.trans ((State.set_kept ..).trans ((State.set_kept ..).trans ((State.wr_kept ..).trans (State.bootRings_kept ..))))

theorem State.rootKey_kept (s : State) (key : List Byte) : Kept s (State.rootKey s key) := by
  unfold State.rootKey
  lift_lets
  intro x0
  clear_value x0
  intro x1
  clear_value x1
  refine Kept.trans ?_ (Kept.record ..)
  exact Kept.refl _

theorem State.wardenStart_kept (s : State) (w : List Byte) : Kept s (State.wardenStart s w) := by
  unfold State.wardenStart
  lift_lets
  intro x0
  have h1 : Kept s x0 := by
    unfold x0
    refine Kept.trans ?_ (State.setSlot_kept ..)
    refine Kept.trans ?_ (State.sketchPlace_kept ..)
    exact Kept.refl _
  clear_value x0
  intro x2
  have h3 : Kept s x2 := by
    unfold x2
    refine Kept.trans ?_ (State.wr_kept ..)
    refine Kept.trans ?_ (State.wr_kept ..)
    exact h1
  clear_value x2
  refine Kept.trans ?_ (State.wr_kept ..)
  refine Kept.trans ?_ (State.enSets_kept ..)
  refine Kept.trans ?_ (State.wr_kept ..)
  exact h3

theorem State.gateRecord_kept (s : State) (r : List Byte) : Kept s (State.gateRecord s r) := by
  unfold State.gateRecord
  lift_lets
  intro x0
  clear_value x0
  intro x1
  clear_value x1
  refine Kept.ite (fun z2 => ?_) (fun z2 => ?_)
  · exact Kept.refl _
  · refine Kept.ite (fun z5 => ?_) (fun z5 => ?_)
    · refine Kept.trans ?_ (State.gateEntryPut_kept ..)
      refine Kept.trans ?_ (State.gateEntryPut_kept ..)
      exact Kept.refl _
    · refine Kept.ite (fun z10 => ?_) (fun z10 => ?_)
      · refine Kept.trans ?_ (State.gateCtlPut_kept ..)
        exact Kept.refl _
      · exact Kept.refl _

theorem State.cfgRecord_kept (s : State) (r : List Byte) : Kept s (State.cfgRecord s r) := by
  unfold State.cfgRecord
  refine Kept.ite (fun z0 => ?_) (fun z0 => ?_)
  · refine Kept.trans ?_ (State.writeReg_kept ..)
    exact Kept.refl _
  · exact Kept.refl _

theorem State.imageRecords_kept (s : State) (bs : List Byte) : Kept s (State.imageRecords s bs) := by
  unfold State.imageRecords
  lift_lets
  intro x0
  have h1 : Kept s x0 := by
    unfold x0
    refine Kept.trans ?_ (State.audAppend_kept ..)
    exact Kept.refl _
  clear_value x0
  intro x2
  have h3 : Kept s x2 := by
    unfold x2
    refine Kept.trans ?_ (State.wardenStart_kept ..)
    refine Kept.trans ?_ (State.rootKey_kept ..)
    exact h1
  clear_value x2
  intro x4
  clear_value x4
  intro x5
  have h6 : Kept s x5 := by
    unfold x5
    refine Kept.trans ?_ (Kept.record ..)
    exact h3
  clear_value x5
  intro x7
  have h8 : ∀ y1, Kept y1 (x7 y1) := by
    intro y9
    unfold x7
    refine Kept.trans ?_ (Kept.foldl (fun t10 x11 => ?_) _ _)
    · exact Kept.refl _
    · refine Kept.trans ?_ (State.gateRecord_kept ..)
      exact Kept.refl _
  clear_value x7
  intro x12
  have h13 : ∀ y1, Kept y1 (x12 y1) := by
    intro y14
    unfold x12
    refine Kept.trans ?_ (Kept.foldl (fun t15 x16 => ?_) _ _)
    · exact Kept.refl _
    · refine Kept.trans ?_ (State.cfgRecord_kept ..)
      exact Kept.refl _
  clear_value x12
  intro x17
  have h18 : Kept s x17 := by
    unfold x17
    refine Kept.ite (fun z19 => ?_) (fun z19 => ?_)
    · refine Kept.trans ?_ (h8 ..)
      refine Kept.trans ?_ (h13 ..)
      exact h6
    · refine Kept.trans ?_ (h13 ..)
      refine Kept.trans ?_ (h8 ..)
      exact h6
  clear_value x17
  intro x20
  clear_value x20
  refine Kept.trans ?_ (Kept.record ..)
  exact h18

theorem State.bootDone_kept (s : State) (slot : Nat) (bs : List Byte) : Kept s (State.bootDone s slot bs) := by
  unfold State.bootDone
  lift_lets
  intro x0
  have h1 : Kept s x0 := by
    unfold x0
    refine Kept.trans ?_ (State.wr_kept ..)
    refine Kept.trans ?_ (State.wr_kept ..)
    refine Kept.trans ?_ (State.wr_kept ..)
    exact Kept.refl _
  clear_value x0
  intro x2
  have h3 : Kept s x2 := by
    unfold x2
    refine Kept.trans ?_ (Kept.foldl (fun t4 x5 => ?_) _ _)
    · exact h1
    · refine Kept.trans ?_ (State.setHost_kept ..)
      exact Kept.refl _
  clear_value x2
  intro x6
  clear_value x6
  intro x7
  have h8 : Kept s x7 := by
    unfold x7
    refine Kept.trans ?_ (Kept.record ..)
    exact h3
  clear_value x7
  refine Kept.trans ?_ (State.elect_kept ..)
  refine Kept.trans ?_ (Kept.foldl (fun t9 x10 => ?_) _ _)
  · exact h8
  · refine Kept.ite (fun z11 => ?_) (fun z11 => ?_)
    · refine Kept.trans ?_ (State.islandUp_kept ..)
      exact Kept.refl _
    · exact Kept.refl _

theorem State.bootImage_kept (s : State) (slot : Nat) (bs : List Byte) : Kept s (State.bootImage s slot bs) := by
  unfold State.bootImage
  lift_lets
  intro x0
  have h1 : Kept s x0 := by
    unfold x0
    refine Kept.trans ?_ (State.imageRecords_kept ..)
    refine Kept.trans ?_ (State.memoryZero_kept ..)
    refine Kept.trans ?_ (State.softRepair_kept ..)
    refine Kept.trans ?_ (State.wr_kept ..)
    exact Kept.refl _
  clear_value x0
  refine Kept.ite (fun z7 => ?_) (fun z7 => ?_)
  · refine Kept.trans ?_ (State.bootDone_kept ..)
    exact h1
  · exact h1

theorem State.recovery_kept (s : State) (step : Nat) (result : Nat) (ares : Nat) (bres : Nat) : Kept s (State.recovery s step result ares bres) := by
  unfold State.recovery
  lift_lets
  intro x0
  have h1 : Kept s x0 := by
    unfold x0
    refine Kept.trans ?_ (State.memoryZero_kept ..)
    refine Kept.trans ?_ (State.softRepair_kept ..)
    exact Kept.refl _
  clear_value x0
  intro x5
  have h6 : Kept s x5 := by
    unfold x5
    refine Kept.trans ?_ (State.wr_kept ..)
    refine Kept.trans ?_ (State.wr_kept ..)
    exact h1
  clear_value x5
  intro x10
  have h11 : Kept s x10 := by
    unfold x10
    refine Kept.trans ?_ (State.wr_kept ..)
    refine Kept.trans ?_ (State.wr_kept ..)
    refine Kept.trans ?_ (State.wr_kept ..)
    exact h6
  clear_value x10
  intro x16
  have h17 : Kept s x16 := by
    unfold x16
    refine Kept.trans ?_ (State.wr_kept ..)
    refine Kept.trans ?_ (State.wr_kept ..)
    refine Kept.trans ?_ (State.wr_kept ..)
    exact h11
  clear_value x16
  intro x22
  have h23 : Kept s x22 := by
    unfold x22
    refine Kept.trans ?_ (State.wr_kept ..)
    refine Kept.trans ?_ (State.wr_kept ..)
    exact h17
  clear_value x22
  intro x27
  clear_value x27
  intro x28
  have h29 : Kept s x28 := by
    unfold x28
    refine Kept.trans ?_ (Kept.record ..)
    exact h23
  clear_value x28
  refine Kept.trans ?_ (State.evPost_kept ..)
  exact h29

theorem State.bootBegin_kept (s : State) (b : BootInputs) : Kept s (State.bootBegin s b).1 := by
  refine KeptFst.out ?_
  unfold State.bootBegin
  lift_lets
  intro x0
  have h1 : Kept s x0 := by
    unfold x0
    refine Kept.trans ?_ (State.fuseLoad_kept ..)
    refine Kept.trans ?_ (State.wr_kept ..)
    exact Kept.refl _
  clear_value x0
  refine KeptFst.ite (fun z5 => ?_) (fun z5 => ?_)
  · refine KeptFst.pair ?_
    exact h1
  · refine KeptFst.pair ?_
    refine Kept.trans ?_ (State.wr_kept ..)
    refine Kept.trans ?_ (State.wr_kept ..)
    exact h1

theorem State.bootSlots_kept (s : State) (b : BootInputs) : Kept s (State.bootSlots s b) := by
  unfold State.bootSlots
  lift_lets
  intro x0
  clear_value x0
  intro x1
  clear_value x1
  intro x2
  clear_value x2
  intro x3
  clear_value x3
  intro x4
  have h5 : Kept s x4 := by
    unfold x4
    refine Kept.trans ?_ (State.wr_kept ..)
    refine Kept.trans ?_ (State.wr_kept ..)
    exact Kept.refl _
  clear_value x4
  refine Kept.ite (fun z9 => ?_) (fun z9 => ?_)
  · refine Kept.trans ?_ (State.recovery_kept ..)
    exact Kept.refl _
  · refine Kept.ite (fun z13 => ?_) (fun z13 => ?_)
    · refine Kept.trans ?_ (State.bootImage_kept ..)
      exact h5
    · refine Kept.trans ?_ (State.bootImage_kept ..)
      exact h5

theorem execBoot_kept (b : BootInputs) (s : State) : Sound s (execBoot b s) := by
  unfold execBoot
  refine Sound.ite (fun z0 => ?_) (fun z0 => ?_)
  · refine Sound.next ?_
    exact Kept.refl _
  · refine Sound.ite (fun z1 => ?_) (fun z1 => ?_)
    · refine Sound.next ?_
      exact Kept.refl _
    · refine Sound.ite (fun z2 => ?_) (fun z2 => ?_)
      · split
        · rename_i z3 z4 z5
          refine Sound.of ?_ (fin_kept ..)
          refine Kept.eqn z5 ?_
          refine Kept.trans ?_ (State.bootBegin_kept ..)
          exact Kept.refl _
        · rename_i z6 z7 z8
          refine Sound.of ?_ (fin_kept ..)
          refine Kept.trans ?_ (State.recovery_kept ..)
          refine Kept.eqn z8 ?_
          refine Kept.trans ?_ (State.bootBegin_kept ..)
          exact Kept.refl _
      · split
        · rename_i z9 z10 z11
          refine Sound.of ?_ (fin_kept ..)
          refine Kept.eqn z11 ?_
          refine Kept.trans ?_ (State.bootBegin_kept ..)
          exact Kept.refl _
        · rename_i z12 z13 z14
          refine Sound.of ?_ (fin_kept ..)
          refine Kept.ite (fun z15 => ?_) (fun z15 => ?_)
          · refine Kept.trans ?_ (State.recovery_kept ..)
            refine Kept.eqn z14 ?_
            refine Kept.trans ?_ (State.bootBegin_kept ..)
            exact Kept.refl _
          · refine Kept.trans ?_ (State.bootSlots_kept ..)
            refine Kept.eqn z14 ?_
            refine Kept.trans ?_ (State.bootBegin_kept ..)
            exact Kept.refl _

theorem execBootStepTimeout_kept (step : Fin 5) (b : BootInputs) (s : State) : Sound s (execBootStepTimeout step b s) := by
  unfold execBootStepTimeout
  refine Sound.ite (fun z0 => ?_) (fun z0 => ?_)
  · refine Sound.next ?_
    exact Kept.refl _
  · split
    · rename_i z5 z6 z7
      refine Sound.of ?_ (fin_kept ..)
      refine Kept.eqn z7 ?_
      refine Kept.trans ?_ (State.bootBegin_kept ..)
      refine Kept.trans ?_ (State.passTo_kept ..)
      exact Kept.refl _
    · rename_i z13 z14 z15
      lift_lets
      intro x16
      clear_value x16
      intro x17
      clear_value x17
      refine Sound.of ?_ (fin_kept ..)
      refine Kept.trans ?_ (State.recovery_kept ..)
      refine Kept.eqn z15 ?_
      refine Kept.trans ?_ (State.bootBegin_kept ..)
      refine Kept.trans ?_ (State.passTo_kept ..)
      exact Kept.refl _

theorem execGets_kept (r : CohReq) (s : State) : Sound s (execGets r s) := by
  unfold execGets
  refine Sound.of ?_ (fin_kept ..)
  refine Kept.trans ?_ (State.homeArrive_kept ..)
  exact Kept.refl _

theorem execGetm_kept (r : CohReq) (s : State) : Sound s (execGetm r s) := by
  unfold execGetm
  refine Sound.of ?_ (fin_kept ..)
  refine Kept.trans ?_ (State.homeArrive_kept ..)
  exact Kept.refl _

theorem execRdu_kept (r : CohReq) (s : State) : Sound s (execRdu r s) := by
  unfold execRdu
  refine Sound.of ?_ (fin_kept ..)
  refine Kept.trans ?_ (State.homeArrive_kept ..)
  exact Kept.refl _

theorem execWru_kept (r : CohReq) (off : Fin 64) (bytes : List Byte) (s : State) : Sound s (execWru r off bytes s) := by
  unfold execWru
  lift_lets
  intro x0
  clear_value x0
  refine Sound.of ?_ (fin_kept ..)
  refine Kept.ite (fun z1 => ?_) (fun z1 => ?_)
  · refine Kept.ite (fun z2 => ?_) (fun z2 => ?_)
    · exact Kept.refl _
    · refine Kept.trans ?_ (State.cohSend_kept ..)
      exact Kept.refl _
  · refine Kept.trans ?_ (State.homeArrive_kept ..)
    exact Kept.refl _

theorem execAtu_kept (r : CohReq) (word : Fin 8) (op : AtomOp) (y cmp : Word) (s : State) : Sound s (execAtu r word op y cmp s) := by
  unfold execAtu
  refine Sound.of ?_ (fin_kept ..)
  refine Kept.trans ?_ (State.homeArrive_kept ..)
  exact Kept.refl _

theorem execPutm_kept (e : EngNum) (line : Fin 268435456) (s : State) : Sound s (execPutm e line s) := by
  unfold execPutm
  refine Sound.of ?_ (fin_kept ..)
  refine Kept.trans ?_ (State.homePut_kept ..)
  refine Kept.trans ?_ (State.cohTake_kept ..)
  exact Kept.refl _

theorem execPuto_kept (e : EngNum) (line : Fin 268435456) (s : State) : Sound s (execPuto e line s) := by
  unfold execPuto
  refine Sound.of ?_ (fin_kept ..)
  refine Kept.trans ?_ (State.homePut_kept ..)
  refine Kept.trans ?_ (State.cohTake_kept ..)
  exact Kept.refl _

theorem execPute_kept (e : EngNum) (line : Fin 268435456) (s : State) : Sound s (execPute e line s) := by
  unfold execPute
  refine Sound.of ?_ (fin_kept ..)
  refine Kept.trans ?_ (State.homePut_kept ..)
  refine Kept.trans ?_ (State.cohTake_kept ..)
  exact Kept.refl _

theorem execCohDone_kept (r : CohReq) (dirty : Bool) (s : State) : Sound s (execCohDone r dirty s) := by
  unfold execCohDone
  refine Sound.of ?_ (fin_kept ..)
  refine Kept.trans ?_ (State.homeDone_kept ..)
  refine Kept.trans ?_ (State.cohTake_kept ..)
  exact Kept.refl _

theorem execInvAck_kept (isl : Fin 16) (line : Fin 268435456) (data : Option (List Byte)) (poison : Bool) (s : State) : Sound s (execInvAck isl line data poison s) := by
  unfold execInvAck
  refine Sound.of ?_ (fin_kept ..)
  refine Kept.trans ?_ (State.homeAck_kept ..)
  refine Kept.trans ?_ (State.cohTake_kept ..)
  exact Kept.refl _

theorem execNackWb_kept (e : EngNum) (line : Fin 268435456) (s : State) : Sound s (execNackWb e line s) := by
  unfold execNackWb
  refine Sound.of ?_ (fin_kept ..)
  refine Kept.trans ?_ (State.homeNackWb_kept ..)
  refine Kept.trans ?_ (State.cohTake_kept ..)
  exact Kept.refl _

theorem execDataS_kept (e : EngNum) (line : Fin 268435456) (data : List Byte) (poison : Bool) (dirty : Bool) (s : State) : Sound s (execDataS e line data poison dirty s) := by
  unfold execDataS
  refine Sound.of ?_ (fin_kept ..)
  refine Kept.trans ?_ (State.l1Data_kept ..)
  refine Kept.trans ?_ (State.cohTake_kept ..)
  exact Kept.refl _

theorem execDataE_kept (e : EngNum) (line : Fin 268435456) (data : List Byte) (poison : Bool) (s : State) : Sound s (execDataE e line data poison s) := by
  unfold execDataE
  refine Sound.of ?_ (fin_kept ..)
  refine Kept.trans ?_ (State.l1Data_kept ..)
  refine Kept.trans ?_ (State.cohTake_kept ..)
  exact Kept.refl _

theorem execDataM_kept (e : EngNum) (line : Fin 268435456) (data : Option (List Byte)) (poison dirty : Bool) (s : State) : Sound s (execDataM e line data poison dirty s) := by
  unfold execDataM
  refine Sound.of ?_ (fin_kept ..)
  refine Kept.trans ?_ (State.l1DataM_kept ..)
  refine Kept.trans ?_ (State.cohTake_kept ..)
  exact Kept.refl _

theorem execFwdGets_kept (owner : EngNum) (r : CohReq) (s : State) : Sound s (execFwdGets owner r s) := by
  unfold execFwdGets
  refine Sound.of ?_ (fin_kept ..)
  refine Kept.trans ?_ (State.l1FwdGets_kept ..)
  refine Kept.trans ?_ (State.cohTake_kept ..)
  exact Kept.refl _

theorem execFwdGetm_kept (owner : EngNum) (r : CohReq) (s : State) : Sound s (execFwdGetm owner r s) := by
  unfold execFwdGetm
  refine Sound.of ?_ (fin_kept ..)
  refine Kept.trans ?_ (State.l1FwdGetm_kept ..)
  refine Kept.trans ?_ (State.cohTake_kept ..)
  exact Kept.refl _

theorem execFwdRdu_kept (owner : EngNum) (r : CohReq) (s : State) : Sound s (execFwdRdu owner r s) := by
  unfold execFwdRdu
  refine Sound.of ?_ (fin_kept ..)
  refine Kept.trans ?_ (State.l1FwdRdu_kept ..)
  refine Kept.trans ?_ (State.cohTake_kept ..)
  exact Kept.refl _

theorem execInv_kept (e : EngNum) (line : Fin 268435456) (s : State) : Sound s (execInv e line s) := by
  unfold execInv
  refine Sound.of ?_ (fin_kept ..)
  refine Kept.trans ?_ (State.l1Inval_kept ..)
  refine Kept.trans ?_ (State.cohTake_kept ..)
  exact Kept.refl _

theorem execBinv_kept (e : EngNum) (line : Fin 268435456) (s : State) : Sound s (execBinv e line s) := by
  unfold execBinv
  refine Sound.of ?_ (fin_kept ..)
  refine Kept.trans ?_ (State.l1Inval_kept ..)
  refine Kept.trans ?_ (State.cohTake_kept ..)
  exact Kept.refl _

theorem execRecall_kept (owner : EngNum) (line : Fin 268435456) (s : State) : Sound s (execRecall owner line s) := by
  unfold execRecall
  refine Sound.of ?_ (fin_kept ..)
  refine Kept.trans ?_ (State.l1Recall_kept ..)
  refine Kept.trans ?_ (State.cohTake_kept ..)
  exact Kept.refl _

theorem execCohNack_kept (r : CohReq) (s : State) : Sound s (execCohNack r s) := by
  unfold execCohNack
  refine Sound.of ?_ (fin_kept ..)
  refine Kept.trans ?_ (State.reqNack_kept ..)
  refine Kept.trans ?_ (State.cohTake_kept ..)
  exact Kept.refl _

theorem execCohRetry_kept (r : CohReq) (s : State) : Sound s (execCohRetry r s) := by
  unfold execCohRetry
  refine Sound.of ?_ (fin_kept ..)
  split
  · rename_i z0 z1 z2
    lift_lets
    intro x3
    have h4 : Kept s x3 := by
      unfold x3
      refine Kept.trans ?_ (State.passTo_kept ..)
      exact Kept.refl _
    clear_value x3
    intro x5
    clear_value x5
    intro x6
    clear_value x6
    intro x7
    have h8 : Kept s x7 := by
      unfold x7
      refine Kept.trans ?_ (Kept.record ..)
      exact h4
    clear_value x7
    intro x9
    clear_value x9
    refine Kept.ite (fun z10 => ?_) (fun z10 => ?_)
    · refine Kept.trans ?_ (Kept.record ..)
      exact h8
    · refine Kept.trans ?_ (State.cohSend_kept ..)
      exact h8
  · rename_i z11 z12
    exact Kept.refl _

theorem execWbAck_kept (e : EngNum) (line : Fin 268435456) (s : State) : Sound s (execWbAck e line s) := by
  unfold execWbAck
  refine Sound.of ?_ (fin_kept ..)
  refine Kept.trans ?_ (State.l1WbAck_kept ..)
  refine Kept.trans ?_ (State.cohTake_kept ..)
  exact Kept.refl _

theorem execReservationLapse_kept (line : Fin 268435456) (set : Bool) (s : State) : Sound s (execReservationLapse line set s) := by
  unfold execReservationLapse
  refine Sound.of ?_ (fin_kept ..)
  refine Kept.ite (fun z0 => ?_) (fun z0 => ?_)
  · split
    · rename_i z1 z2 z3
      lift_lets
      intro x4
      have h5 : Kept s x4 := by
        unfold x4
        refine Kept.trans ?_ (State.passTo_kept ..)
        exact Kept.refl _
      clear_value x4
      intro x6
      clear_value x6
      refine Kept.trans ?_ (Kept.record ..)
      exact h5
    · rename_i z7 z8
      exact Kept.refl _
  · refine Kept.trans ?_ (State.resvLapse_kept ..)
    exact Kept.refl _

end Sys2Proof.Machine
end

