-- ==== Sys2Proof/Laws/State.lean ====
section
/-! SUPPORT. What each update of State leaves of each field, and what a read of a unit's record gives after it: proofs over
these never unfold a record update. -/

namespace Sys2Proof.Machine

/-! ## State.set -/

@[simp] theorem State.set_regs (s : State) (r : Reg) (v : Word) : (s.set r v).regs = regPut s.regs r v := rfl
@[simp] theorem State.set_mem (s : State) (r : Reg) (v : Word) : (s.set r v).mem = s.mem := rfl
@[simp] theorem State.set_poison (s : State) (r : Reg) (v : Word) : (s.set r v).poison = s.poison := rfl
@[simp] theorem State.set_pal (s : State) (r : Reg) (v : Word) : (s.set r v).pal = s.pal := rfl
@[simp] theorem State.set_palPoison (s : State) (r : Reg) (v : Word) : (s.set r v).palPoison = s.palPoison := rfl
@[simp] theorem State.set_palEcc (s : State) (r : Reg) (v : Word) : (s.set r v).palEcc = s.palEcc := rfl
@[simp] theorem State.set_hosts (s : State) (r : Reg) (v : Word) : (s.set r v).hosts = s.hosts := rfl
@[simp] theorem State.set_fns (s : State) (r : Reg) (v : Word) : (s.set r v).fns = s.fns := rfl
@[simp] theorem State.set_pier (s : State) (r : Reg) (v : Word) : (s.set r v).pier = s.pier := rfl
@[simp] theorem State.set_pins (s : State) (r : Reg) (v : Word) : (s.set r v).pins = s.pins := rfl
@[simp] theorem State.set_evs (s : State) (r : Reg) (v : Word) : (s.set r v).evs = s.evs := rfl
@[simp] theorem State.set_samples (s : State) (r : Reg) (v : Word) : (s.set r v).samples = s.samples := rfl
@[simp] theorem State.set_queues (s : State) (r : Reg) (v : Word) : (s.set r v).queues = s.queues := rfl
@[simp] theorem State.set_sched (s : State) (r : Reg) (v : Word) : (s.set r v).sched = s.sched := rfl
@[simp] theorem State.set_metering (s : State) (r : Reg) (v : Word) : (s.set r v).metering = s.metering := rfl
@[simp] theorem State.set_ctxs (s : State) (r : Reg) (v : Word) : (s.set r v).ctxs = s.ctxs := rfl
@[simp] theorem State.set_engs (s : State) (r : Reg) (v : Word) : (s.set r v).engs = s.engs := rfl
@[simp] theorem State.set_sandbox (s : State) (r : Reg) (v : Word) : (s.set r v).sandbox = s.sandbox := rfl
@[simp] theorem State.set_conns (s : State) (r : Reg) (v : Word) : (s.set r v).conns = s.conns := rfl
@[simp] theorem State.set_mtch (s : State) (r : Reg) (v : Word) : (s.set r v).mtch = s.mtch := rfl
@[simp] theorem State.set_trees (s : State) (r : Reg) (v : Word) : (s.set r v).trees = s.trees := rfl
@[simp] theorem State.set_route (s : State) (r : Reg) (v : Word) : (s.set r v).route = s.route := rfl
@[simp] theorem State.set_ports (s : State) (r : Reg) (v : Word) : (s.set r v).ports = s.ports := rfl
@[simp] theorem State.set_lamps (s : State) (r : Reg) (v : Word) : (s.set r v).lamps = s.lamps := rfl
@[simp] theorem State.set_coh (s : State) (r : Reg) (v : Word) : (s.set r v).coh = s.coh := rfl
@[simp] theorem State.set_gddr (s : State) (r : Reg) (v : Word) : (s.set r v).gddr = s.gddr := rfl
@[simp] theorem State.set_guard (s : State) (r : Reg) (v : Word) : (s.set r v).guard = s.guard := rfl
@[simp] theorem State.set_fuses (s : State) (r : Reg) (v : Word) : (s.set r v).fuses = s.fuses := rfl
@[simp] theorem State.set_faults (s : State) (r : Reg) (v : Word) : (s.set r v).faults = s.faults := rfl
@[simp] theorem State.set_clock (s : State) (r : Reg) (v : Word) : (s.set r v).clock = s.clock := rfl
@[simp] theorem State.set_audit (s : State) (r : Reg) (v : Word) : (s.set r v).audit = s.audit := rfl
@[simp] theorem State.set_boot (s : State) (r : Reg) (v : Word) : (s.set r v).boot = s.boot := rfl
@[simp] theorem State.set_power (s : State) (r : Reg) (v : Word) : (s.set r v).power = s.power := rfl
@[simp] theorem State.set_nextId (s : State) (r : Reg) (v : Word) : (s.set r v).nextId = s.nextId := rfl
@[simp] theorem State.set_free (s : State) (r : Reg) (v : Word) : (s.set r v).free = s.free := rfl
@[simp] theorem State.set_pending (s : State) (r : Reg) (v : Word) : (s.set r v).pending = s.pending := rfl
@[simp] theorem State.set_out (s : State) (r : Reg) (v : Word) : (s.set r v).out = s.out := rfl

/-! ## State.wr -/

@[simp] theorem State.wr_regs (s : State) (f : Fld) (v : Nat) : (s.wr f v).regs = regPut s.regs f.reg (setBits (s.get f.reg) f.hi f.lo v) := rfl
@[simp] theorem State.wr_mem (s : State) (f : Fld) (v : Nat) : (s.wr f v).mem = s.mem := rfl
@[simp] theorem State.wr_poison (s : State) (f : Fld) (v : Nat) : (s.wr f v).poison = s.poison := rfl
@[simp] theorem State.wr_pal (s : State) (f : Fld) (v : Nat) : (s.wr f v).pal = s.pal := rfl
@[simp] theorem State.wr_palPoison (s : State) (f : Fld) (v : Nat) : (s.wr f v).palPoison = s.palPoison := rfl
@[simp] theorem State.wr_palEcc (s : State) (f : Fld) (v : Nat) : (s.wr f v).palEcc = s.palEcc := rfl
@[simp] theorem State.wr_hosts (s : State) (f : Fld) (v : Nat) : (s.wr f v).hosts = s.hosts := rfl
@[simp] theorem State.wr_fns (s : State) (f : Fld) (v : Nat) : (s.wr f v).fns = s.fns := rfl
@[simp] theorem State.wr_pier (s : State) (f : Fld) (v : Nat) : (s.wr f v).pier = s.pier := rfl
@[simp] theorem State.wr_pins (s : State) (f : Fld) (v : Nat) : (s.wr f v).pins = s.pins := rfl
@[simp] theorem State.wr_evs (s : State) (f : Fld) (v : Nat) : (s.wr f v).evs = s.evs := rfl
@[simp] theorem State.wr_samples (s : State) (f : Fld) (v : Nat) : (s.wr f v).samples = s.samples := rfl
@[simp] theorem State.wr_queues (s : State) (f : Fld) (v : Nat) : (s.wr f v).queues = s.queues := rfl
@[simp] theorem State.wr_sched (s : State) (f : Fld) (v : Nat) : (s.wr f v).sched = s.sched := rfl
@[simp] theorem State.wr_metering (s : State) (f : Fld) (v : Nat) : (s.wr f v).metering = s.metering := rfl
@[simp] theorem State.wr_ctxs (s : State) (f : Fld) (v : Nat) : (s.wr f v).ctxs = s.ctxs := rfl
@[simp] theorem State.wr_engs (s : State) (f : Fld) (v : Nat) : (s.wr f v).engs = s.engs := rfl
@[simp] theorem State.wr_sandbox (s : State) (f : Fld) (v : Nat) : (s.wr f v).sandbox = s.sandbox := rfl
@[simp] theorem State.wr_conns (s : State) (f : Fld) (v : Nat) : (s.wr f v).conns = s.conns := rfl
@[simp] theorem State.wr_mtch (s : State) (f : Fld) (v : Nat) : (s.wr f v).mtch = s.mtch := rfl
@[simp] theorem State.wr_trees (s : State) (f : Fld) (v : Nat) : (s.wr f v).trees = s.trees := rfl
@[simp] theorem State.wr_route (s : State) (f : Fld) (v : Nat) : (s.wr f v).route = s.route := rfl
@[simp] theorem State.wr_ports (s : State) (f : Fld) (v : Nat) : (s.wr f v).ports = s.ports := rfl
@[simp] theorem State.wr_lamps (s : State) (f : Fld) (v : Nat) : (s.wr f v).lamps = s.lamps := rfl
@[simp] theorem State.wr_coh (s : State) (f : Fld) (v : Nat) : (s.wr f v).coh = s.coh := rfl
@[simp] theorem State.wr_gddr (s : State) (f : Fld) (v : Nat) : (s.wr f v).gddr = s.gddr := rfl
@[simp] theorem State.wr_guard (s : State) (f : Fld) (v : Nat) : (s.wr f v).guard = s.guard := rfl
@[simp] theorem State.wr_fuses (s : State) (f : Fld) (v : Nat) : (s.wr f v).fuses = s.fuses := rfl
@[simp] theorem State.wr_faults (s : State) (f : Fld) (v : Nat) : (s.wr f v).faults = s.faults := rfl
@[simp] theorem State.wr_clock (s : State) (f : Fld) (v : Nat) : (s.wr f v).clock = s.clock := rfl
@[simp] theorem State.wr_audit (s : State) (f : Fld) (v : Nat) : (s.wr f v).audit = s.audit := rfl
@[simp] theorem State.wr_boot (s : State) (f : Fld) (v : Nat) : (s.wr f v).boot = s.boot := rfl
@[simp] theorem State.wr_power (s : State) (f : Fld) (v : Nat) : (s.wr f v).power = s.power := rfl
@[simp] theorem State.wr_nextId (s : State) (f : Fld) (v : Nat) : (s.wr f v).nextId = s.nextId := rfl
@[simp] theorem State.wr_free (s : State) (f : Fld) (v : Nat) : (s.wr f v).free = s.free := rfl
@[simp] theorem State.wr_pending (s : State) (f : Fld) (v : Nat) : (s.wr f v).pending = s.pending := rfl
@[simp] theorem State.wr_out (s : State) (f : Fld) (v : Nat) : (s.wr f v).out = s.out := rfl

/-! ## State.setHost -/

@[simp] theorem State.setHost_regs (s : State) (n : Nat) (f : HostPort → HostPort) : (s.setHost n f).regs = s.regs := rfl
@[simp] theorem State.setHost_mem (s : State) (n : Nat) (f : HostPort → HostPort) : (s.setHost n f).mem = s.mem := rfl
@[simp] theorem State.setHost_poison (s : State) (n : Nat) (f : HostPort → HostPort) : (s.setHost n f).poison = s.poison := rfl
@[simp] theorem State.setHost_pal (s : State) (n : Nat) (f : HostPort → HostPort) : (s.setHost n f).pal = s.pal := rfl
@[simp] theorem State.setHost_palPoison (s : State) (n : Nat) (f : HostPort → HostPort) : (s.setHost n f).palPoison = s.palPoison := rfl
@[simp] theorem State.setHost_palEcc (s : State) (n : Nat) (f : HostPort → HostPort) : (s.setHost n f).palEcc = s.palEcc := rfl
@[simp] theorem State.setHost_hosts (s : State) (n : Nat) (f : HostPort → HostPort) : (s.setHost n f).hosts = s.hosts.upd n {} f := rfl
@[simp] theorem State.setHost_fns (s : State) (n : Nat) (f : HostPort → HostPort) : (s.setHost n f).fns = s.fns := rfl
@[simp] theorem State.setHost_pier (s : State) (n : Nat) (f : HostPort → HostPort) : (s.setHost n f).pier = s.pier := rfl
@[simp] theorem State.setHost_pins (s : State) (n : Nat) (f : HostPort → HostPort) : (s.setHost n f).pins = s.pins := rfl
@[simp] theorem State.setHost_evs (s : State) (n : Nat) (f : HostPort → HostPort) : (s.setHost n f).evs = s.evs := rfl
@[simp] theorem State.setHost_samples (s : State) (n : Nat) (f : HostPort → HostPort) : (s.setHost n f).samples = s.samples := rfl
@[simp] theorem State.setHost_queues (s : State) (n : Nat) (f : HostPort → HostPort) : (s.setHost n f).queues = s.queues := rfl
@[simp] theorem State.setHost_sched (s : State) (n : Nat) (f : HostPort → HostPort) : (s.setHost n f).sched = s.sched := rfl
@[simp] theorem State.setHost_metering (s : State) (n : Nat) (f : HostPort → HostPort) : (s.setHost n f).metering = s.metering := rfl
@[simp] theorem State.setHost_ctxs (s : State) (n : Nat) (f : HostPort → HostPort) : (s.setHost n f).ctxs = s.ctxs := rfl
@[simp] theorem State.setHost_engs (s : State) (n : Nat) (f : HostPort → HostPort) : (s.setHost n f).engs = s.engs := rfl
@[simp] theorem State.setHost_sandbox (s : State) (n : Nat) (f : HostPort → HostPort) : (s.setHost n f).sandbox = s.sandbox := rfl
@[simp] theorem State.setHost_conns (s : State) (n : Nat) (f : HostPort → HostPort) : (s.setHost n f).conns = s.conns := rfl
@[simp] theorem State.setHost_mtch (s : State) (n : Nat) (f : HostPort → HostPort) : (s.setHost n f).mtch = s.mtch := rfl
@[simp] theorem State.setHost_trees (s : State) (n : Nat) (f : HostPort → HostPort) : (s.setHost n f).trees = s.trees := rfl
@[simp] theorem State.setHost_route (s : State) (n : Nat) (f : HostPort → HostPort) : (s.setHost n f).route = s.route := rfl
@[simp] theorem State.setHost_ports (s : State) (n : Nat) (f : HostPort → HostPort) : (s.setHost n f).ports = s.ports := rfl
@[simp] theorem State.setHost_lamps (s : State) (n : Nat) (f : HostPort → HostPort) : (s.setHost n f).lamps = s.lamps := rfl
@[simp] theorem State.setHost_coh (s : State) (n : Nat) (f : HostPort → HostPort) : (s.setHost n f).coh = s.coh := rfl
@[simp] theorem State.setHost_gddr (s : State) (n : Nat) (f : HostPort → HostPort) : (s.setHost n f).gddr = s.gddr := rfl
@[simp] theorem State.setHost_guard (s : State) (n : Nat) (f : HostPort → HostPort) : (s.setHost n f).guard = s.guard := rfl
@[simp] theorem State.setHost_fuses (s : State) (n : Nat) (f : HostPort → HostPort) : (s.setHost n f).fuses = s.fuses := rfl
@[simp] theorem State.setHost_faults (s : State) (n : Nat) (f : HostPort → HostPort) : (s.setHost n f).faults = s.faults := rfl
@[simp] theorem State.setHost_clock (s : State) (n : Nat) (f : HostPort → HostPort) : (s.setHost n f).clock = s.clock := rfl
@[simp] theorem State.setHost_audit (s : State) (n : Nat) (f : HostPort → HostPort) : (s.setHost n f).audit = s.audit := rfl
@[simp] theorem State.setHost_boot (s : State) (n : Nat) (f : HostPort → HostPort) : (s.setHost n f).boot = s.boot := rfl
@[simp] theorem State.setHost_power (s : State) (n : Nat) (f : HostPort → HostPort) : (s.setHost n f).power = s.power := rfl
@[simp] theorem State.setHost_nextId (s : State) (n : Nat) (f : HostPort → HostPort) : (s.setHost n f).nextId = s.nextId := rfl
@[simp] theorem State.setHost_free (s : State) (n : Nat) (f : HostPort → HostPort) : (s.setHost n f).free = s.free := rfl
@[simp] theorem State.setHost_pending (s : State) (n : Nat) (f : HostPort → HostPort) : (s.setHost n f).pending = s.pending := rfl
@[simp] theorem State.setHost_out (s : State) (n : Nat) (f : HostPort → HostPort) : (s.setHost n f).out = s.out := rfl
@[simp] theorem State.setHost_get (s : State) (n : Nat) (f : HostPort → HostPort) (r : Reg) : (s.setHost n f).get r = s.get r := rfl
@[simp] theorem State.setHost_rd (s : State) (n : Nat) (f : HostPort → HostPort) (g : Fld) : (s.setHost n f).rd g = s.rd g := rfl

theorem State.setHost_host (s : State) (n k : Nat) (f : _ → _) :
    (s.setHost n f).host k = if k = n then f (s.host n) else s.host k := KMap.at_upd _ _ _ _ _
@[simp] theorem State.setHost_host_same (s : State) (n : Nat) (f : _ → _) : (s.setHost n f).host n = f (s.host n) := by
  rw [State.setHost_host, if_pos rfl]

/-! ## State.setFn -/

@[simp] theorem State.setFn_regs (s : State) (n : Nat) (f : FnCfg → FnCfg) : (s.setFn n f).regs = s.regs := rfl
@[simp] theorem State.setFn_mem (s : State) (n : Nat) (f : FnCfg → FnCfg) : (s.setFn n f).mem = s.mem := rfl
@[simp] theorem State.setFn_poison (s : State) (n : Nat) (f : FnCfg → FnCfg) : (s.setFn n f).poison = s.poison := rfl
@[simp] theorem State.setFn_pal (s : State) (n : Nat) (f : FnCfg → FnCfg) : (s.setFn n f).pal = s.pal := rfl
@[simp] theorem State.setFn_palPoison (s : State) (n : Nat) (f : FnCfg → FnCfg) : (s.setFn n f).palPoison = s.palPoison := rfl
@[simp] theorem State.setFn_palEcc (s : State) (n : Nat) (f : FnCfg → FnCfg) : (s.setFn n f).palEcc = s.palEcc := rfl
@[simp] theorem State.setFn_hosts (s : State) (n : Nat) (f : FnCfg → FnCfg) : (s.setFn n f).hosts = s.hosts := rfl
@[simp] theorem State.setFn_fns (s : State) (n : Nat) (f : FnCfg → FnCfg) : (s.setFn n f).fns = s.fns.upd n {} f := rfl
@[simp] theorem State.setFn_pier (s : State) (n : Nat) (f : FnCfg → FnCfg) : (s.setFn n f).pier = s.pier := rfl
@[simp] theorem State.setFn_pins (s : State) (n : Nat) (f : FnCfg → FnCfg) : (s.setFn n f).pins = s.pins := rfl
@[simp] theorem State.setFn_evs (s : State) (n : Nat) (f : FnCfg → FnCfg) : (s.setFn n f).evs = s.evs := rfl
@[simp] theorem State.setFn_samples (s : State) (n : Nat) (f : FnCfg → FnCfg) : (s.setFn n f).samples = s.samples := rfl
@[simp] theorem State.setFn_queues (s : State) (n : Nat) (f : FnCfg → FnCfg) : (s.setFn n f).queues = s.queues := rfl
@[simp] theorem State.setFn_sched (s : State) (n : Nat) (f : FnCfg → FnCfg) : (s.setFn n f).sched = s.sched := rfl
@[simp] theorem State.setFn_metering (s : State) (n : Nat) (f : FnCfg → FnCfg) : (s.setFn n f).metering = s.metering := rfl
@[simp] theorem State.setFn_ctxs (s : State) (n : Nat) (f : FnCfg → FnCfg) : (s.setFn n f).ctxs = s.ctxs := rfl
@[simp] theorem State.setFn_engs (s : State) (n : Nat) (f : FnCfg → FnCfg) : (s.setFn n f).engs = s.engs := rfl
@[simp] theorem State.setFn_sandbox (s : State) (n : Nat) (f : FnCfg → FnCfg) : (s.setFn n f).sandbox = s.sandbox := rfl
@[simp] theorem State.setFn_conns (s : State) (n : Nat) (f : FnCfg → FnCfg) : (s.setFn n f).conns = s.conns := rfl
@[simp] theorem State.setFn_mtch (s : State) (n : Nat) (f : FnCfg → FnCfg) : (s.setFn n f).mtch = s.mtch := rfl
@[simp] theorem State.setFn_trees (s : State) (n : Nat) (f : FnCfg → FnCfg) : (s.setFn n f).trees = s.trees := rfl
@[simp] theorem State.setFn_route (s : State) (n : Nat) (f : FnCfg → FnCfg) : (s.setFn n f).route = s.route := rfl
@[simp] theorem State.setFn_ports (s : State) (n : Nat) (f : FnCfg → FnCfg) : (s.setFn n f).ports = s.ports := rfl
@[simp] theorem State.setFn_lamps (s : State) (n : Nat) (f : FnCfg → FnCfg) : (s.setFn n f).lamps = s.lamps := rfl
@[simp] theorem State.setFn_coh (s : State) (n : Nat) (f : FnCfg → FnCfg) : (s.setFn n f).coh = s.coh := rfl
@[simp] theorem State.setFn_gddr (s : State) (n : Nat) (f : FnCfg → FnCfg) : (s.setFn n f).gddr = s.gddr := rfl
@[simp] theorem State.setFn_guard (s : State) (n : Nat) (f : FnCfg → FnCfg) : (s.setFn n f).guard = s.guard := rfl
@[simp] theorem State.setFn_fuses (s : State) (n : Nat) (f : FnCfg → FnCfg) : (s.setFn n f).fuses = s.fuses := rfl
@[simp] theorem State.setFn_faults (s : State) (n : Nat) (f : FnCfg → FnCfg) : (s.setFn n f).faults = s.faults := rfl
@[simp] theorem State.setFn_clock (s : State) (n : Nat) (f : FnCfg → FnCfg) : (s.setFn n f).clock = s.clock := rfl
@[simp] theorem State.setFn_audit (s : State) (n : Nat) (f : FnCfg → FnCfg) : (s.setFn n f).audit = s.audit := rfl
@[simp] theorem State.setFn_boot (s : State) (n : Nat) (f : FnCfg → FnCfg) : (s.setFn n f).boot = s.boot := rfl
@[simp] theorem State.setFn_power (s : State) (n : Nat) (f : FnCfg → FnCfg) : (s.setFn n f).power = s.power := rfl
@[simp] theorem State.setFn_nextId (s : State) (n : Nat) (f : FnCfg → FnCfg) : (s.setFn n f).nextId = s.nextId := rfl
@[simp] theorem State.setFn_free (s : State) (n : Nat) (f : FnCfg → FnCfg) : (s.setFn n f).free = s.free := rfl
@[simp] theorem State.setFn_pending (s : State) (n : Nat) (f : FnCfg → FnCfg) : (s.setFn n f).pending = s.pending := rfl
@[simp] theorem State.setFn_out (s : State) (n : Nat) (f : FnCfg → FnCfg) : (s.setFn n f).out = s.out := rfl
@[simp] theorem State.setFn_get (s : State) (n : Nat) (f : FnCfg → FnCfg) (r : Reg) : (s.setFn n f).get r = s.get r := rfl
@[simp] theorem State.setFn_rd (s : State) (n : Nat) (f : FnCfg → FnCfg) (g : Fld) : (s.setFn n f).rd g = s.rd g := rfl

theorem State.setFn_fn (s : State) (n k : Nat) (f : _ → _) :
    (s.setFn n f).fn k = if k = n then f (s.fn n) else s.fn k := KMap.at_upd _ _ _ _ _
@[simp] theorem State.setFn_fn_same (s : State) (n : Nat) (f : _ → _) : (s.setFn n f).fn n = f (s.fn n) := by
  rw [State.setFn_fn, if_pos rfl]

/-! ## State.setPin -/

@[simp] theorem State.setPin_regs (s : State) (n : Nat) (f : ReadyPin → ReadyPin) : (s.setPin n f).regs = s.regs := rfl
@[simp] theorem State.setPin_mem (s : State) (n : Nat) (f : ReadyPin → ReadyPin) : (s.setPin n f).mem = s.mem := rfl
@[simp] theorem State.setPin_poison (s : State) (n : Nat) (f : ReadyPin → ReadyPin) : (s.setPin n f).poison = s.poison := rfl
@[simp] theorem State.setPin_pal (s : State) (n : Nat) (f : ReadyPin → ReadyPin) : (s.setPin n f).pal = s.pal := rfl
@[simp] theorem State.setPin_palPoison (s : State) (n : Nat) (f : ReadyPin → ReadyPin) : (s.setPin n f).palPoison = s.palPoison := rfl
@[simp] theorem State.setPin_palEcc (s : State) (n : Nat) (f : ReadyPin → ReadyPin) : (s.setPin n f).palEcc = s.palEcc := rfl
@[simp] theorem State.setPin_hosts (s : State) (n : Nat) (f : ReadyPin → ReadyPin) : (s.setPin n f).hosts = s.hosts := rfl
@[simp] theorem State.setPin_fns (s : State) (n : Nat) (f : ReadyPin → ReadyPin) : (s.setPin n f).fns = s.fns := rfl
@[simp] theorem State.setPin_pier (s : State) (n : Nat) (f : ReadyPin → ReadyPin) : (s.setPin n f).pier = s.pier := rfl
@[simp] theorem State.setPin_pins (s : State) (n : Nat) (f : ReadyPin → ReadyPin) : (s.setPin n f).pins = s.pins.upd n {} f := rfl
@[simp] theorem State.setPin_evs (s : State) (n : Nat) (f : ReadyPin → ReadyPin) : (s.setPin n f).evs = s.evs := rfl
@[simp] theorem State.setPin_samples (s : State) (n : Nat) (f : ReadyPin → ReadyPin) : (s.setPin n f).samples = s.samples := rfl
@[simp] theorem State.setPin_queues (s : State) (n : Nat) (f : ReadyPin → ReadyPin) : (s.setPin n f).queues = s.queues := rfl
@[simp] theorem State.setPin_sched (s : State) (n : Nat) (f : ReadyPin → ReadyPin) : (s.setPin n f).sched = s.sched := rfl
@[simp] theorem State.setPin_metering (s : State) (n : Nat) (f : ReadyPin → ReadyPin) : (s.setPin n f).metering = s.metering := rfl
@[simp] theorem State.setPin_ctxs (s : State) (n : Nat) (f : ReadyPin → ReadyPin) : (s.setPin n f).ctxs = s.ctxs := rfl
@[simp] theorem State.setPin_engs (s : State) (n : Nat) (f : ReadyPin → ReadyPin) : (s.setPin n f).engs = s.engs := rfl
@[simp] theorem State.setPin_sandbox (s : State) (n : Nat) (f : ReadyPin → ReadyPin) : (s.setPin n f).sandbox = s.sandbox := rfl
@[simp] theorem State.setPin_conns (s : State) (n : Nat) (f : ReadyPin → ReadyPin) : (s.setPin n f).conns = s.conns := rfl
@[simp] theorem State.setPin_mtch (s : State) (n : Nat) (f : ReadyPin → ReadyPin) : (s.setPin n f).mtch = s.mtch := rfl
@[simp] theorem State.setPin_trees (s : State) (n : Nat) (f : ReadyPin → ReadyPin) : (s.setPin n f).trees = s.trees := rfl
@[simp] theorem State.setPin_route (s : State) (n : Nat) (f : ReadyPin → ReadyPin) : (s.setPin n f).route = s.route := rfl
@[simp] theorem State.setPin_ports (s : State) (n : Nat) (f : ReadyPin → ReadyPin) : (s.setPin n f).ports = s.ports := rfl
@[simp] theorem State.setPin_lamps (s : State) (n : Nat) (f : ReadyPin → ReadyPin) : (s.setPin n f).lamps = s.lamps := rfl
@[simp] theorem State.setPin_coh (s : State) (n : Nat) (f : ReadyPin → ReadyPin) : (s.setPin n f).coh = s.coh := rfl
@[simp] theorem State.setPin_gddr (s : State) (n : Nat) (f : ReadyPin → ReadyPin) : (s.setPin n f).gddr = s.gddr := rfl
@[simp] theorem State.setPin_guard (s : State) (n : Nat) (f : ReadyPin → ReadyPin) : (s.setPin n f).guard = s.guard := rfl
@[simp] theorem State.setPin_fuses (s : State) (n : Nat) (f : ReadyPin → ReadyPin) : (s.setPin n f).fuses = s.fuses := rfl
@[simp] theorem State.setPin_faults (s : State) (n : Nat) (f : ReadyPin → ReadyPin) : (s.setPin n f).faults = s.faults := rfl
@[simp] theorem State.setPin_clock (s : State) (n : Nat) (f : ReadyPin → ReadyPin) : (s.setPin n f).clock = s.clock := rfl
@[simp] theorem State.setPin_audit (s : State) (n : Nat) (f : ReadyPin → ReadyPin) : (s.setPin n f).audit = s.audit := rfl
@[simp] theorem State.setPin_boot (s : State) (n : Nat) (f : ReadyPin → ReadyPin) : (s.setPin n f).boot = s.boot := rfl
@[simp] theorem State.setPin_power (s : State) (n : Nat) (f : ReadyPin → ReadyPin) : (s.setPin n f).power = s.power := rfl
@[simp] theorem State.setPin_nextId (s : State) (n : Nat) (f : ReadyPin → ReadyPin) : (s.setPin n f).nextId = s.nextId := rfl
@[simp] theorem State.setPin_free (s : State) (n : Nat) (f : ReadyPin → ReadyPin) : (s.setPin n f).free = s.free := rfl
@[simp] theorem State.setPin_pending (s : State) (n : Nat) (f : ReadyPin → ReadyPin) : (s.setPin n f).pending = s.pending := rfl
@[simp] theorem State.setPin_out (s : State) (n : Nat) (f : ReadyPin → ReadyPin) : (s.setPin n f).out = s.out := rfl
@[simp] theorem State.setPin_get (s : State) (n : Nat) (f : ReadyPin → ReadyPin) (r : Reg) : (s.setPin n f).get r = s.get r := rfl
@[simp] theorem State.setPin_rd (s : State) (n : Nat) (f : ReadyPin → ReadyPin) (g : Fld) : (s.setPin n f).rd g = s.rd g := rfl

theorem State.setPin_pin (s : State) (n k : Nat) (f : _ → _) :
    (s.setPin n f).pin k = if k = n then f (s.pin n) else s.pin k := KMap.at_upd _ _ _ _ _
@[simp] theorem State.setPin_pin_same (s : State) (n : Nat) (f : _ → _) : (s.setPin n f).pin n = f (s.pin n) := by
  rw [State.setPin_pin, if_pos rfl]

/-! ## State.setEv -/

@[simp] theorem State.setEv_regs (s : State) (n : Nat) (f : EvFifo → EvFifo) : (s.setEv n f).regs = s.regs := rfl
@[simp] theorem State.setEv_mem (s : State) (n : Nat) (f : EvFifo → EvFifo) : (s.setEv n f).mem = s.mem := rfl
@[simp] theorem State.setEv_poison (s : State) (n : Nat) (f : EvFifo → EvFifo) : (s.setEv n f).poison = s.poison := rfl
@[simp] theorem State.setEv_pal (s : State) (n : Nat) (f : EvFifo → EvFifo) : (s.setEv n f).pal = s.pal := rfl
@[simp] theorem State.setEv_palPoison (s : State) (n : Nat) (f : EvFifo → EvFifo) : (s.setEv n f).palPoison = s.palPoison := rfl
@[simp] theorem State.setEv_palEcc (s : State) (n : Nat) (f : EvFifo → EvFifo) : (s.setEv n f).palEcc = s.palEcc := rfl
@[simp] theorem State.setEv_hosts (s : State) (n : Nat) (f : EvFifo → EvFifo) : (s.setEv n f).hosts = s.hosts := rfl
@[simp] theorem State.setEv_fns (s : State) (n : Nat) (f : EvFifo → EvFifo) : (s.setEv n f).fns = s.fns := rfl
@[simp] theorem State.setEv_pier (s : State) (n : Nat) (f : EvFifo → EvFifo) : (s.setEv n f).pier = s.pier := rfl
@[simp] theorem State.setEv_pins (s : State) (n : Nat) (f : EvFifo → EvFifo) : (s.setEv n f).pins = s.pins := rfl
@[simp] theorem State.setEv_evs (s : State) (n : Nat) (f : EvFifo → EvFifo) : (s.setEv n f).evs = s.evs.upd n {} f := rfl
@[simp] theorem State.setEv_samples (s : State) (n : Nat) (f : EvFifo → EvFifo) : (s.setEv n f).samples = s.samples := rfl
@[simp] theorem State.setEv_queues (s : State) (n : Nat) (f : EvFifo → EvFifo) : (s.setEv n f).queues = s.queues := rfl
@[simp] theorem State.setEv_sched (s : State) (n : Nat) (f : EvFifo → EvFifo) : (s.setEv n f).sched = s.sched := rfl
@[simp] theorem State.setEv_metering (s : State) (n : Nat) (f : EvFifo → EvFifo) : (s.setEv n f).metering = s.metering := rfl
@[simp] theorem State.setEv_ctxs (s : State) (n : Nat) (f : EvFifo → EvFifo) : (s.setEv n f).ctxs = s.ctxs := rfl
@[simp] theorem State.setEv_engs (s : State) (n : Nat) (f : EvFifo → EvFifo) : (s.setEv n f).engs = s.engs := rfl
@[simp] theorem State.setEv_sandbox (s : State) (n : Nat) (f : EvFifo → EvFifo) : (s.setEv n f).sandbox = s.sandbox := rfl
@[simp] theorem State.setEv_conns (s : State) (n : Nat) (f : EvFifo → EvFifo) : (s.setEv n f).conns = s.conns := rfl
@[simp] theorem State.setEv_mtch (s : State) (n : Nat) (f : EvFifo → EvFifo) : (s.setEv n f).mtch = s.mtch := rfl
@[simp] theorem State.setEv_trees (s : State) (n : Nat) (f : EvFifo → EvFifo) : (s.setEv n f).trees = s.trees := rfl
@[simp] theorem State.setEv_route (s : State) (n : Nat) (f : EvFifo → EvFifo) : (s.setEv n f).route = s.route := rfl
@[simp] theorem State.setEv_ports (s : State) (n : Nat) (f : EvFifo → EvFifo) : (s.setEv n f).ports = s.ports := rfl
@[simp] theorem State.setEv_lamps (s : State) (n : Nat) (f : EvFifo → EvFifo) : (s.setEv n f).lamps = s.lamps := rfl
@[simp] theorem State.setEv_coh (s : State) (n : Nat) (f : EvFifo → EvFifo) : (s.setEv n f).coh = s.coh := rfl
@[simp] theorem State.setEv_gddr (s : State) (n : Nat) (f : EvFifo → EvFifo) : (s.setEv n f).gddr = s.gddr := rfl
@[simp] theorem State.setEv_guard (s : State) (n : Nat) (f : EvFifo → EvFifo) : (s.setEv n f).guard = s.guard := rfl
@[simp] theorem State.setEv_fuses (s : State) (n : Nat) (f : EvFifo → EvFifo) : (s.setEv n f).fuses = s.fuses := rfl
@[simp] theorem State.setEv_faults (s : State) (n : Nat) (f : EvFifo → EvFifo) : (s.setEv n f).faults = s.faults := rfl
@[simp] theorem State.setEv_clock (s : State) (n : Nat) (f : EvFifo → EvFifo) : (s.setEv n f).clock = s.clock := rfl
@[simp] theorem State.setEv_audit (s : State) (n : Nat) (f : EvFifo → EvFifo) : (s.setEv n f).audit = s.audit := rfl
@[simp] theorem State.setEv_boot (s : State) (n : Nat) (f : EvFifo → EvFifo) : (s.setEv n f).boot = s.boot := rfl
@[simp] theorem State.setEv_power (s : State) (n : Nat) (f : EvFifo → EvFifo) : (s.setEv n f).power = s.power := rfl
@[simp] theorem State.setEv_nextId (s : State) (n : Nat) (f : EvFifo → EvFifo) : (s.setEv n f).nextId = s.nextId := rfl
@[simp] theorem State.setEv_free (s : State) (n : Nat) (f : EvFifo → EvFifo) : (s.setEv n f).free = s.free := rfl
@[simp] theorem State.setEv_pending (s : State) (n : Nat) (f : EvFifo → EvFifo) : (s.setEv n f).pending = s.pending := rfl
@[simp] theorem State.setEv_out (s : State) (n : Nat) (f : EvFifo → EvFifo) : (s.setEv n f).out = s.out := rfl
@[simp] theorem State.setEv_get (s : State) (n : Nat) (f : EvFifo → EvFifo) (r : Reg) : (s.setEv n f).get r = s.get r := rfl
@[simp] theorem State.setEv_rd (s : State) (n : Nat) (f : EvFifo → EvFifo) (g : Fld) : (s.setEv n f).rd g = s.rd g := rfl

theorem State.setEv_ev (s : State) (n k : Nat) (f : _ → _) :
    (s.setEv n f).ev k = if k = n then f (s.ev n) else s.ev k := KMap.at_upd _ _ _ _ _
@[simp] theorem State.setEv_ev_same (s : State) (n : Nat) (f : _ → _) : (s.setEv n f).ev n = f (s.ev n) := by
  rw [State.setEv_ev, if_pos rfl]

/-! ## State.setQue -/

@[simp] theorem State.setQue_regs (s : State) (n : Nat) (f : QueueSt → QueueSt) : (s.setQue n f).regs = s.regs := rfl
@[simp] theorem State.setQue_mem (s : State) (n : Nat) (f : QueueSt → QueueSt) : (s.setQue n f).mem = s.mem := rfl
@[simp] theorem State.setQue_poison (s : State) (n : Nat) (f : QueueSt → QueueSt) : (s.setQue n f).poison = s.poison := rfl
@[simp] theorem State.setQue_pal (s : State) (n : Nat) (f : QueueSt → QueueSt) : (s.setQue n f).pal = s.pal := rfl
@[simp] theorem State.setQue_palPoison (s : State) (n : Nat) (f : QueueSt → QueueSt) : (s.setQue n f).palPoison = s.palPoison := rfl
@[simp] theorem State.setQue_palEcc (s : State) (n : Nat) (f : QueueSt → QueueSt) : (s.setQue n f).palEcc = s.palEcc := rfl
@[simp] theorem State.setQue_hosts (s : State) (n : Nat) (f : QueueSt → QueueSt) : (s.setQue n f).hosts = s.hosts := rfl
@[simp] theorem State.setQue_fns (s : State) (n : Nat) (f : QueueSt → QueueSt) : (s.setQue n f).fns = s.fns := rfl
@[simp] theorem State.setQue_pier (s : State) (n : Nat) (f : QueueSt → QueueSt) : (s.setQue n f).pier = s.pier := rfl
@[simp] theorem State.setQue_pins (s : State) (n : Nat) (f : QueueSt → QueueSt) : (s.setQue n f).pins = s.pins := rfl
@[simp] theorem State.setQue_evs (s : State) (n : Nat) (f : QueueSt → QueueSt) : (s.setQue n f).evs = s.evs := rfl
@[simp] theorem State.setQue_samples (s : State) (n : Nat) (f : QueueSt → QueueSt) : (s.setQue n f).samples = s.samples := rfl
@[simp] theorem State.setQue_queues (s : State) (n : Nat) (f : QueueSt → QueueSt) : (s.setQue n f).queues = s.queues.upd n {} f := rfl
@[simp] theorem State.setQue_sched (s : State) (n : Nat) (f : QueueSt → QueueSt) : (s.setQue n f).sched = s.sched := rfl
@[simp] theorem State.setQue_metering (s : State) (n : Nat) (f : QueueSt → QueueSt) : (s.setQue n f).metering = s.metering := rfl
@[simp] theorem State.setQue_ctxs (s : State) (n : Nat) (f : QueueSt → QueueSt) : (s.setQue n f).ctxs = s.ctxs := rfl
@[simp] theorem State.setQue_engs (s : State) (n : Nat) (f : QueueSt → QueueSt) : (s.setQue n f).engs = s.engs := rfl
@[simp] theorem State.setQue_sandbox (s : State) (n : Nat) (f : QueueSt → QueueSt) : (s.setQue n f).sandbox = s.sandbox := rfl
@[simp] theorem State.setQue_conns (s : State) (n : Nat) (f : QueueSt → QueueSt) : (s.setQue n f).conns = s.conns := rfl
@[simp] theorem State.setQue_mtch (s : State) (n : Nat) (f : QueueSt → QueueSt) : (s.setQue n f).mtch = s.mtch := rfl
@[simp] theorem State.setQue_trees (s : State) (n : Nat) (f : QueueSt → QueueSt) : (s.setQue n f).trees = s.trees := rfl
@[simp] theorem State.setQue_route (s : State) (n : Nat) (f : QueueSt → QueueSt) : (s.setQue n f).route = s.route := rfl
@[simp] theorem State.setQue_ports (s : State) (n : Nat) (f : QueueSt → QueueSt) : (s.setQue n f).ports = s.ports := rfl
@[simp] theorem State.setQue_lamps (s : State) (n : Nat) (f : QueueSt → QueueSt) : (s.setQue n f).lamps = s.lamps := rfl
@[simp] theorem State.setQue_coh (s : State) (n : Nat) (f : QueueSt → QueueSt) : (s.setQue n f).coh = s.coh := rfl
@[simp] theorem State.setQue_gddr (s : State) (n : Nat) (f : QueueSt → QueueSt) : (s.setQue n f).gddr = s.gddr := rfl
@[simp] theorem State.setQue_guard (s : State) (n : Nat) (f : QueueSt → QueueSt) : (s.setQue n f).guard = s.guard := rfl
@[simp] theorem State.setQue_fuses (s : State) (n : Nat) (f : QueueSt → QueueSt) : (s.setQue n f).fuses = s.fuses := rfl
@[simp] theorem State.setQue_faults (s : State) (n : Nat) (f : QueueSt → QueueSt) : (s.setQue n f).faults = s.faults := rfl
@[simp] theorem State.setQue_clock (s : State) (n : Nat) (f : QueueSt → QueueSt) : (s.setQue n f).clock = s.clock := rfl
@[simp] theorem State.setQue_audit (s : State) (n : Nat) (f : QueueSt → QueueSt) : (s.setQue n f).audit = s.audit := rfl
@[simp] theorem State.setQue_boot (s : State) (n : Nat) (f : QueueSt → QueueSt) : (s.setQue n f).boot = s.boot := rfl
@[simp] theorem State.setQue_power (s : State) (n : Nat) (f : QueueSt → QueueSt) : (s.setQue n f).power = s.power := rfl
@[simp] theorem State.setQue_nextId (s : State) (n : Nat) (f : QueueSt → QueueSt) : (s.setQue n f).nextId = s.nextId := rfl
@[simp] theorem State.setQue_free (s : State) (n : Nat) (f : QueueSt → QueueSt) : (s.setQue n f).free = s.free := rfl
@[simp] theorem State.setQue_pending (s : State) (n : Nat) (f : QueueSt → QueueSt) : (s.setQue n f).pending = s.pending := rfl
@[simp] theorem State.setQue_out (s : State) (n : Nat) (f : QueueSt → QueueSt) : (s.setQue n f).out = s.out := rfl
@[simp] theorem State.setQue_get (s : State) (n : Nat) (f : QueueSt → QueueSt) (r : Reg) : (s.setQue n f).get r = s.get r := rfl
@[simp] theorem State.setQue_rd (s : State) (n : Nat) (f : QueueSt → QueueSt) (g : Fld) : (s.setQue n f).rd g = s.rd g := rfl

theorem State.setQue_que (s : State) (n k : Nat) (f : _ → _) :
    (s.setQue n f).que k = if k = n then f (s.que n) else s.que k := KMap.at_upd _ _ _ _ _
@[simp] theorem State.setQue_que_same (s : State) (n : Nat) (f : _ → _) : (s.setQue n f).que n = f (s.que n) := by
  rw [State.setQue_que, if_pos rfl]

/-! ## State.setCtx -/

@[simp] theorem State.setCtx_regs (s : State) (n : Nat) (f : Ctx → Ctx) : (s.setCtx n f).regs = s.regs := rfl
@[simp] theorem State.setCtx_mem (s : State) (n : Nat) (f : Ctx → Ctx) : (s.setCtx n f).mem = s.mem := rfl
@[simp] theorem State.setCtx_poison (s : State) (n : Nat) (f : Ctx → Ctx) : (s.setCtx n f).poison = s.poison := rfl
@[simp] theorem State.setCtx_pal (s : State) (n : Nat) (f : Ctx → Ctx) : (s.setCtx n f).pal = s.pal := rfl
@[simp] theorem State.setCtx_palPoison (s : State) (n : Nat) (f : Ctx → Ctx) : (s.setCtx n f).palPoison = s.palPoison := rfl
@[simp] theorem State.setCtx_palEcc (s : State) (n : Nat) (f : Ctx → Ctx) : (s.setCtx n f).palEcc = s.palEcc := rfl
@[simp] theorem State.setCtx_hosts (s : State) (n : Nat) (f : Ctx → Ctx) : (s.setCtx n f).hosts = s.hosts := rfl
@[simp] theorem State.setCtx_fns (s : State) (n : Nat) (f : Ctx → Ctx) : (s.setCtx n f).fns = s.fns := rfl
@[simp] theorem State.setCtx_pier (s : State) (n : Nat) (f : Ctx → Ctx) : (s.setCtx n f).pier = s.pier := rfl
@[simp] theorem State.setCtx_pins (s : State) (n : Nat) (f : Ctx → Ctx) : (s.setCtx n f).pins = s.pins := rfl
@[simp] theorem State.setCtx_evs (s : State) (n : Nat) (f : Ctx → Ctx) : (s.setCtx n f).evs = s.evs := rfl
@[simp] theorem State.setCtx_samples (s : State) (n : Nat) (f : Ctx → Ctx) : (s.setCtx n f).samples = s.samples := rfl
@[simp] theorem State.setCtx_queues (s : State) (n : Nat) (f : Ctx → Ctx) : (s.setCtx n f).queues = s.queues := rfl
@[simp] theorem State.setCtx_sched (s : State) (n : Nat) (f : Ctx → Ctx) : (s.setCtx n f).sched = s.sched := rfl
@[simp] theorem State.setCtx_metering (s : State) (n : Nat) (f : Ctx → Ctx) : (s.setCtx n f).metering = s.metering := rfl
@[simp] theorem State.setCtx_ctxs (s : State) (n : Nat) (f : Ctx → Ctx) : (s.setCtx n f).ctxs = s.ctxs.upd n {} f := rfl
@[simp] theorem State.setCtx_engs (s : State) (n : Nat) (f : Ctx → Ctx) : (s.setCtx n f).engs = s.engs := rfl
@[simp] theorem State.setCtx_sandbox (s : State) (n : Nat) (f : Ctx → Ctx) : (s.setCtx n f).sandbox = s.sandbox := rfl
@[simp] theorem State.setCtx_conns (s : State) (n : Nat) (f : Ctx → Ctx) : (s.setCtx n f).conns = s.conns := rfl
@[simp] theorem State.setCtx_mtch (s : State) (n : Nat) (f : Ctx → Ctx) : (s.setCtx n f).mtch = s.mtch := rfl
@[simp] theorem State.setCtx_trees (s : State) (n : Nat) (f : Ctx → Ctx) : (s.setCtx n f).trees = s.trees := rfl
@[simp] theorem State.setCtx_route (s : State) (n : Nat) (f : Ctx → Ctx) : (s.setCtx n f).route = s.route := rfl
@[simp] theorem State.setCtx_ports (s : State) (n : Nat) (f : Ctx → Ctx) : (s.setCtx n f).ports = s.ports := rfl
@[simp] theorem State.setCtx_lamps (s : State) (n : Nat) (f : Ctx → Ctx) : (s.setCtx n f).lamps = s.lamps := rfl
@[simp] theorem State.setCtx_coh (s : State) (n : Nat) (f : Ctx → Ctx) : (s.setCtx n f).coh = s.coh := rfl
@[simp] theorem State.setCtx_gddr (s : State) (n : Nat) (f : Ctx → Ctx) : (s.setCtx n f).gddr = s.gddr := rfl
@[simp] theorem State.setCtx_guard (s : State) (n : Nat) (f : Ctx → Ctx) : (s.setCtx n f).guard = s.guard := rfl
@[simp] theorem State.setCtx_fuses (s : State) (n : Nat) (f : Ctx → Ctx) : (s.setCtx n f).fuses = s.fuses := rfl
@[simp] theorem State.setCtx_faults (s : State) (n : Nat) (f : Ctx → Ctx) : (s.setCtx n f).faults = s.faults := rfl
@[simp] theorem State.setCtx_clock (s : State) (n : Nat) (f : Ctx → Ctx) : (s.setCtx n f).clock = s.clock := rfl
@[simp] theorem State.setCtx_audit (s : State) (n : Nat) (f : Ctx → Ctx) : (s.setCtx n f).audit = s.audit := rfl
@[simp] theorem State.setCtx_boot (s : State) (n : Nat) (f : Ctx → Ctx) : (s.setCtx n f).boot = s.boot := rfl
@[simp] theorem State.setCtx_power (s : State) (n : Nat) (f : Ctx → Ctx) : (s.setCtx n f).power = s.power := rfl
@[simp] theorem State.setCtx_nextId (s : State) (n : Nat) (f : Ctx → Ctx) : (s.setCtx n f).nextId = s.nextId := rfl
@[simp] theorem State.setCtx_free (s : State) (n : Nat) (f : Ctx → Ctx) : (s.setCtx n f).free = s.free := rfl
@[simp] theorem State.setCtx_pending (s : State) (n : Nat) (f : Ctx → Ctx) : (s.setCtx n f).pending = s.pending := rfl
@[simp] theorem State.setCtx_out (s : State) (n : Nat) (f : Ctx → Ctx) : (s.setCtx n f).out = s.out := rfl
@[simp] theorem State.setCtx_get (s : State) (n : Nat) (f : Ctx → Ctx) (r : Reg) : (s.setCtx n f).get r = s.get r := rfl
@[simp] theorem State.setCtx_rd (s : State) (n : Nat) (f : Ctx → Ctx) (g : Fld) : (s.setCtx n f).rd g = s.rd g := rfl

theorem State.setCtx_ctx (s : State) (n k : Nat) (f : _ → _) :
    (s.setCtx n f).ctx k = if k = n then f (s.ctx n) else s.ctx k := KMap.at_upd _ _ _ _ _
@[simp] theorem State.setCtx_ctx_same (s : State) (n : Nat) (f : _ → _) : (s.setCtx n f).ctx n = f (s.ctx n) := by
  rw [State.setCtx_ctx, if_pos rfl]

/-! ## State.setEng -/

@[simp] theorem State.setEng_regs (s : State) (n : Nat) (f : Eng → Eng) : (s.setEng n f).regs = s.regs := rfl
@[simp] theorem State.setEng_mem (s : State) (n : Nat) (f : Eng → Eng) : (s.setEng n f).mem = s.mem := rfl
@[simp] theorem State.setEng_poison (s : State) (n : Nat) (f : Eng → Eng) : (s.setEng n f).poison = s.poison := rfl
@[simp] theorem State.setEng_pal (s : State) (n : Nat) (f : Eng → Eng) : (s.setEng n f).pal = s.pal := rfl
@[simp] theorem State.setEng_palPoison (s : State) (n : Nat) (f : Eng → Eng) : (s.setEng n f).palPoison = s.palPoison := rfl
@[simp] theorem State.setEng_palEcc (s : State) (n : Nat) (f : Eng → Eng) : (s.setEng n f).palEcc = s.palEcc := rfl
@[simp] theorem State.setEng_hosts (s : State) (n : Nat) (f : Eng → Eng) : (s.setEng n f).hosts = s.hosts := rfl
@[simp] theorem State.setEng_fns (s : State) (n : Nat) (f : Eng → Eng) : (s.setEng n f).fns = s.fns := rfl
@[simp] theorem State.setEng_pier (s : State) (n : Nat) (f : Eng → Eng) : (s.setEng n f).pier = s.pier := rfl
@[simp] theorem State.setEng_pins (s : State) (n : Nat) (f : Eng → Eng) : (s.setEng n f).pins = s.pins := rfl
@[simp] theorem State.setEng_evs (s : State) (n : Nat) (f : Eng → Eng) : (s.setEng n f).evs = s.evs := rfl
@[simp] theorem State.setEng_samples (s : State) (n : Nat) (f : Eng → Eng) : (s.setEng n f).samples = s.samples := rfl
@[simp] theorem State.setEng_queues (s : State) (n : Nat) (f : Eng → Eng) : (s.setEng n f).queues = s.queues := rfl
@[simp] theorem State.setEng_sched (s : State) (n : Nat) (f : Eng → Eng) : (s.setEng n f).sched = s.sched := rfl
@[simp] theorem State.setEng_metering (s : State) (n : Nat) (f : Eng → Eng) : (s.setEng n f).metering = s.metering := rfl
@[simp] theorem State.setEng_ctxs (s : State) (n : Nat) (f : Eng → Eng) : (s.setEng n f).ctxs = s.ctxs := rfl
@[simp] theorem State.setEng_engs (s : State) (n : Nat) (f : Eng → Eng) : (s.setEng n f).engs = s.engs.upd n {} f := rfl
@[simp] theorem State.setEng_sandbox (s : State) (n : Nat) (f : Eng → Eng) : (s.setEng n f).sandbox = s.sandbox := rfl
@[simp] theorem State.setEng_conns (s : State) (n : Nat) (f : Eng → Eng) : (s.setEng n f).conns = s.conns := rfl
@[simp] theorem State.setEng_mtch (s : State) (n : Nat) (f : Eng → Eng) : (s.setEng n f).mtch = s.mtch := rfl
@[simp] theorem State.setEng_trees (s : State) (n : Nat) (f : Eng → Eng) : (s.setEng n f).trees = s.trees := rfl
@[simp] theorem State.setEng_route (s : State) (n : Nat) (f : Eng → Eng) : (s.setEng n f).route = s.route := rfl
@[simp] theorem State.setEng_ports (s : State) (n : Nat) (f : Eng → Eng) : (s.setEng n f).ports = s.ports := rfl
@[simp] theorem State.setEng_lamps (s : State) (n : Nat) (f : Eng → Eng) : (s.setEng n f).lamps = s.lamps := rfl
@[simp] theorem State.setEng_coh (s : State) (n : Nat) (f : Eng → Eng) : (s.setEng n f).coh = s.coh := rfl
@[simp] theorem State.setEng_gddr (s : State) (n : Nat) (f : Eng → Eng) : (s.setEng n f).gddr = s.gddr := rfl
@[simp] theorem State.setEng_guard (s : State) (n : Nat) (f : Eng → Eng) : (s.setEng n f).guard = s.guard := rfl
@[simp] theorem State.setEng_fuses (s : State) (n : Nat) (f : Eng → Eng) : (s.setEng n f).fuses = s.fuses := rfl
@[simp] theorem State.setEng_faults (s : State) (n : Nat) (f : Eng → Eng) : (s.setEng n f).faults = s.faults := rfl
@[simp] theorem State.setEng_clock (s : State) (n : Nat) (f : Eng → Eng) : (s.setEng n f).clock = s.clock := rfl
@[simp] theorem State.setEng_audit (s : State) (n : Nat) (f : Eng → Eng) : (s.setEng n f).audit = s.audit := rfl
@[simp] theorem State.setEng_boot (s : State) (n : Nat) (f : Eng → Eng) : (s.setEng n f).boot = s.boot := rfl
@[simp] theorem State.setEng_power (s : State) (n : Nat) (f : Eng → Eng) : (s.setEng n f).power = s.power := rfl
@[simp] theorem State.setEng_nextId (s : State) (n : Nat) (f : Eng → Eng) : (s.setEng n f).nextId = s.nextId := rfl
@[simp] theorem State.setEng_free (s : State) (n : Nat) (f : Eng → Eng) : (s.setEng n f).free = s.free := rfl
@[simp] theorem State.setEng_pending (s : State) (n : Nat) (f : Eng → Eng) : (s.setEng n f).pending = s.pending := rfl
@[simp] theorem State.setEng_out (s : State) (n : Nat) (f : Eng → Eng) : (s.setEng n f).out = s.out := rfl
@[simp] theorem State.setEng_get (s : State) (n : Nat) (f : Eng → Eng) (r : Reg) : (s.setEng n f).get r = s.get r := rfl
@[simp] theorem State.setEng_rd (s : State) (n : Nat) (f : Eng → Eng) (g : Fld) : (s.setEng n f).rd g = s.rd g := rfl

theorem State.setEng_eng (s : State) (n k : Nat) (f : _ → _) :
    (s.setEng n f).eng k = if k = n then f (s.eng n) else s.eng k := KMap.at_upd _ _ _ _ _
@[simp] theorem State.setEng_eng_same (s : State) (n : Nat) (f : _ → _) : (s.setEng n f).eng n = f (s.eng n) := by
  rw [State.setEng_eng, if_pos rfl]

/-! ## State.setPort -/

@[simp] theorem State.setPort_regs (s : State) (n : Nat) (f : Port → Port) : (s.setPort n f).regs = s.regs := rfl
@[simp] theorem State.setPort_mem (s : State) (n : Nat) (f : Port → Port) : (s.setPort n f).mem = s.mem := rfl
@[simp] theorem State.setPort_poison (s : State) (n : Nat) (f : Port → Port) : (s.setPort n f).poison = s.poison := rfl
@[simp] theorem State.setPort_pal (s : State) (n : Nat) (f : Port → Port) : (s.setPort n f).pal = s.pal := rfl
@[simp] theorem State.setPort_palPoison (s : State) (n : Nat) (f : Port → Port) : (s.setPort n f).palPoison = s.palPoison := rfl
@[simp] theorem State.setPort_palEcc (s : State) (n : Nat) (f : Port → Port) : (s.setPort n f).palEcc = s.palEcc := rfl
@[simp] theorem State.setPort_hosts (s : State) (n : Nat) (f : Port → Port) : (s.setPort n f).hosts = s.hosts := rfl
@[simp] theorem State.setPort_fns (s : State) (n : Nat) (f : Port → Port) : (s.setPort n f).fns = s.fns := rfl
@[simp] theorem State.setPort_pier (s : State) (n : Nat) (f : Port → Port) : (s.setPort n f).pier = s.pier := rfl
@[simp] theorem State.setPort_pins (s : State) (n : Nat) (f : Port → Port) : (s.setPort n f).pins = s.pins := rfl
@[simp] theorem State.setPort_evs (s : State) (n : Nat) (f : Port → Port) : (s.setPort n f).evs = s.evs := rfl
@[simp] theorem State.setPort_samples (s : State) (n : Nat) (f : Port → Port) : (s.setPort n f).samples = s.samples := rfl
@[simp] theorem State.setPort_queues (s : State) (n : Nat) (f : Port → Port) : (s.setPort n f).queues = s.queues := rfl
@[simp] theorem State.setPort_sched (s : State) (n : Nat) (f : Port → Port) : (s.setPort n f).sched = s.sched := rfl
@[simp] theorem State.setPort_metering (s : State) (n : Nat) (f : Port → Port) : (s.setPort n f).metering = s.metering := rfl
@[simp] theorem State.setPort_ctxs (s : State) (n : Nat) (f : Port → Port) : (s.setPort n f).ctxs = s.ctxs := rfl
@[simp] theorem State.setPort_engs (s : State) (n : Nat) (f : Port → Port) : (s.setPort n f).engs = s.engs := rfl
@[simp] theorem State.setPort_sandbox (s : State) (n : Nat) (f : Port → Port) : (s.setPort n f).sandbox = s.sandbox := rfl
@[simp] theorem State.setPort_conns (s : State) (n : Nat) (f : Port → Port) : (s.setPort n f).conns = s.conns := rfl
@[simp] theorem State.setPort_mtch (s : State) (n : Nat) (f : Port → Port) : (s.setPort n f).mtch = s.mtch := rfl
@[simp] theorem State.setPort_trees (s : State) (n : Nat) (f : Port → Port) : (s.setPort n f).trees = s.trees := rfl
@[simp] theorem State.setPort_route (s : State) (n : Nat) (f : Port → Port) : (s.setPort n f).route = s.route := rfl
@[simp] theorem State.setPort_ports (s : State) (n : Nat) (f : Port → Port) : (s.setPort n f).ports = s.ports.upd n {} f := rfl
@[simp] theorem State.setPort_lamps (s : State) (n : Nat) (f : Port → Port) : (s.setPort n f).lamps = s.lamps := rfl
@[simp] theorem State.setPort_coh (s : State) (n : Nat) (f : Port → Port) : (s.setPort n f).coh = s.coh := rfl
@[simp] theorem State.setPort_gddr (s : State) (n : Nat) (f : Port → Port) : (s.setPort n f).gddr = s.gddr := rfl
@[simp] theorem State.setPort_guard (s : State) (n : Nat) (f : Port → Port) : (s.setPort n f).guard = s.guard := rfl
@[simp] theorem State.setPort_fuses (s : State) (n : Nat) (f : Port → Port) : (s.setPort n f).fuses = s.fuses := rfl
@[simp] theorem State.setPort_faults (s : State) (n : Nat) (f : Port → Port) : (s.setPort n f).faults = s.faults := rfl
@[simp] theorem State.setPort_clock (s : State) (n : Nat) (f : Port → Port) : (s.setPort n f).clock = s.clock := rfl
@[simp] theorem State.setPort_audit (s : State) (n : Nat) (f : Port → Port) : (s.setPort n f).audit = s.audit := rfl
@[simp] theorem State.setPort_boot (s : State) (n : Nat) (f : Port → Port) : (s.setPort n f).boot = s.boot := rfl
@[simp] theorem State.setPort_power (s : State) (n : Nat) (f : Port → Port) : (s.setPort n f).power = s.power := rfl
@[simp] theorem State.setPort_nextId (s : State) (n : Nat) (f : Port → Port) : (s.setPort n f).nextId = s.nextId := rfl
@[simp] theorem State.setPort_free (s : State) (n : Nat) (f : Port → Port) : (s.setPort n f).free = s.free := rfl
@[simp] theorem State.setPort_pending (s : State) (n : Nat) (f : Port → Port) : (s.setPort n f).pending = s.pending := rfl
@[simp] theorem State.setPort_out (s : State) (n : Nat) (f : Port → Port) : (s.setPort n f).out = s.out := rfl
@[simp] theorem State.setPort_get (s : State) (n : Nat) (f : Port → Port) (r : Reg) : (s.setPort n f).get r = s.get r := rfl
@[simp] theorem State.setPort_rd (s : State) (n : Nat) (f : Port → Port) (g : Fld) : (s.setPort n f).rd g = s.rd g := rfl

theorem State.setPort_port (s : State) (n k : Nat) (f : _ → _) :
    (s.setPort n f).port k = if k = n then f (s.port n) else s.port k := KMap.at_upd _ _ _ _ _
@[simp] theorem State.setPort_port_same (s : State) (n : Nat) (f : _ → _) : (s.setPort n f).port n = f (s.port n) := by
  rw [State.setPort_port, if_pos rfl]

/-! ## State.setCx -/

@[simp] theorem State.setCx_regs (s : State) (n : Nat) (f : Conn → Conn) : (s.setCx n f).regs = s.regs := rfl
@[simp] theorem State.setCx_mem (s : State) (n : Nat) (f : Conn → Conn) : (s.setCx n f).mem = s.mem := rfl
@[simp] theorem State.setCx_poison (s : State) (n : Nat) (f : Conn → Conn) : (s.setCx n f).poison = s.poison := rfl
@[simp] theorem State.setCx_pal (s : State) (n : Nat) (f : Conn → Conn) : (s.setCx n f).pal = s.pal := rfl
@[simp] theorem State.setCx_palPoison (s : State) (n : Nat) (f : Conn → Conn) : (s.setCx n f).palPoison = s.palPoison := rfl
@[simp] theorem State.setCx_palEcc (s : State) (n : Nat) (f : Conn → Conn) : (s.setCx n f).palEcc = s.palEcc := rfl
@[simp] theorem State.setCx_hosts (s : State) (n : Nat) (f : Conn → Conn) : (s.setCx n f).hosts = s.hosts := rfl
@[simp] theorem State.setCx_fns (s : State) (n : Nat) (f : Conn → Conn) : (s.setCx n f).fns = s.fns := rfl
@[simp] theorem State.setCx_pier (s : State) (n : Nat) (f : Conn → Conn) : (s.setCx n f).pier = s.pier := rfl
@[simp] theorem State.setCx_pins (s : State) (n : Nat) (f : Conn → Conn) : (s.setCx n f).pins = s.pins := rfl
@[simp] theorem State.setCx_evs (s : State) (n : Nat) (f : Conn → Conn) : (s.setCx n f).evs = s.evs := rfl
@[simp] theorem State.setCx_samples (s : State) (n : Nat) (f : Conn → Conn) : (s.setCx n f).samples = s.samples := rfl
@[simp] theorem State.setCx_queues (s : State) (n : Nat) (f : Conn → Conn) : (s.setCx n f).queues = s.queues := rfl
@[simp] theorem State.setCx_sched (s : State) (n : Nat) (f : Conn → Conn) : (s.setCx n f).sched = s.sched := rfl
@[simp] theorem State.setCx_metering (s : State) (n : Nat) (f : Conn → Conn) : (s.setCx n f).metering = s.metering := rfl
@[simp] theorem State.setCx_ctxs (s : State) (n : Nat) (f : Conn → Conn) : (s.setCx n f).ctxs = s.ctxs := rfl
@[simp] theorem State.setCx_engs (s : State) (n : Nat) (f : Conn → Conn) : (s.setCx n f).engs = s.engs := rfl
@[simp] theorem State.setCx_sandbox (s : State) (n : Nat) (f : Conn → Conn) : (s.setCx n f).sandbox = s.sandbox := rfl
@[simp] theorem State.setCx_conns (s : State) (n : Nat) (f : Conn → Conn) : (s.setCx n f).conns = s.conns.upd n {} f := rfl
@[simp] theorem State.setCx_mtch (s : State) (n : Nat) (f : Conn → Conn) : (s.setCx n f).mtch = s.mtch := rfl
@[simp] theorem State.setCx_trees (s : State) (n : Nat) (f : Conn → Conn) : (s.setCx n f).trees = s.trees := rfl
@[simp] theorem State.setCx_route (s : State) (n : Nat) (f : Conn → Conn) : (s.setCx n f).route = s.route := rfl
@[simp] theorem State.setCx_ports (s : State) (n : Nat) (f : Conn → Conn) : (s.setCx n f).ports = s.ports := rfl
@[simp] theorem State.setCx_lamps (s : State) (n : Nat) (f : Conn → Conn) : (s.setCx n f).lamps = s.lamps := rfl
@[simp] theorem State.setCx_coh (s : State) (n : Nat) (f : Conn → Conn) : (s.setCx n f).coh = s.coh := rfl
@[simp] theorem State.setCx_gddr (s : State) (n : Nat) (f : Conn → Conn) : (s.setCx n f).gddr = s.gddr := rfl
@[simp] theorem State.setCx_guard (s : State) (n : Nat) (f : Conn → Conn) : (s.setCx n f).guard = s.guard := rfl
@[simp] theorem State.setCx_fuses (s : State) (n : Nat) (f : Conn → Conn) : (s.setCx n f).fuses = s.fuses := rfl
@[simp] theorem State.setCx_faults (s : State) (n : Nat) (f : Conn → Conn) : (s.setCx n f).faults = s.faults := rfl
@[simp] theorem State.setCx_clock (s : State) (n : Nat) (f : Conn → Conn) : (s.setCx n f).clock = s.clock := rfl
@[simp] theorem State.setCx_audit (s : State) (n : Nat) (f : Conn → Conn) : (s.setCx n f).audit = s.audit := rfl
@[simp] theorem State.setCx_boot (s : State) (n : Nat) (f : Conn → Conn) : (s.setCx n f).boot = s.boot := rfl
@[simp] theorem State.setCx_power (s : State) (n : Nat) (f : Conn → Conn) : (s.setCx n f).power = s.power := rfl
@[simp] theorem State.setCx_nextId (s : State) (n : Nat) (f : Conn → Conn) : (s.setCx n f).nextId = s.nextId := rfl
@[simp] theorem State.setCx_free (s : State) (n : Nat) (f : Conn → Conn) : (s.setCx n f).free = s.free := rfl
@[simp] theorem State.setCx_pending (s : State) (n : Nat) (f : Conn → Conn) : (s.setCx n f).pending = s.pending := rfl
@[simp] theorem State.setCx_out (s : State) (n : Nat) (f : Conn → Conn) : (s.setCx n f).out = s.out := rfl
@[simp] theorem State.setCx_get (s : State) (n : Nat) (f : Conn → Conn) (r : Reg) : (s.setCx n f).get r = s.get r := rfl
@[simp] theorem State.setCx_rd (s : State) (n : Nat) (f : Conn → Conn) (g : Fld) : (s.setCx n f).rd g = s.rd g := rfl

theorem State.setCx_cx (s : State) (n k : Nat) (f : _ → _) :
    (s.setCx n f).cx k = if k = n then f (s.cx n) else s.cx k := KMap.at_upd _ _ _ _ _
@[simp] theorem State.setCx_cx_same (s : State) (n : Nat) (f : _ → _) : (s.setCx n f).cx n = f (s.cx n) := by
  rw [State.setCx_cx, if_pos rfl]

/-! ## State.setTr -/

@[simp] theorem State.setTr_regs (s : State) (n : Nat) (f : TreeSt → TreeSt) : (s.setTr n f).regs = s.regs := rfl
@[simp] theorem State.setTr_mem (s : State) (n : Nat) (f : TreeSt → TreeSt) : (s.setTr n f).mem = s.mem := rfl
@[simp] theorem State.setTr_poison (s : State) (n : Nat) (f : TreeSt → TreeSt) : (s.setTr n f).poison = s.poison := rfl
@[simp] theorem State.setTr_pal (s : State) (n : Nat) (f : TreeSt → TreeSt) : (s.setTr n f).pal = s.pal := rfl
@[simp] theorem State.setTr_palPoison (s : State) (n : Nat) (f : TreeSt → TreeSt) : (s.setTr n f).palPoison = s.palPoison := rfl
@[simp] theorem State.setTr_palEcc (s : State) (n : Nat) (f : TreeSt → TreeSt) : (s.setTr n f).palEcc = s.palEcc := rfl
@[simp] theorem State.setTr_hosts (s : State) (n : Nat) (f : TreeSt → TreeSt) : (s.setTr n f).hosts = s.hosts := rfl
@[simp] theorem State.setTr_fns (s : State) (n : Nat) (f : TreeSt → TreeSt) : (s.setTr n f).fns = s.fns := rfl
@[simp] theorem State.setTr_pier (s : State) (n : Nat) (f : TreeSt → TreeSt) : (s.setTr n f).pier = s.pier := rfl
@[simp] theorem State.setTr_pins (s : State) (n : Nat) (f : TreeSt → TreeSt) : (s.setTr n f).pins = s.pins := rfl
@[simp] theorem State.setTr_evs (s : State) (n : Nat) (f : TreeSt → TreeSt) : (s.setTr n f).evs = s.evs := rfl
@[simp] theorem State.setTr_samples (s : State) (n : Nat) (f : TreeSt → TreeSt) : (s.setTr n f).samples = s.samples := rfl
@[simp] theorem State.setTr_queues (s : State) (n : Nat) (f : TreeSt → TreeSt) : (s.setTr n f).queues = s.queues := rfl
@[simp] theorem State.setTr_sched (s : State) (n : Nat) (f : TreeSt → TreeSt) : (s.setTr n f).sched = s.sched := rfl
@[simp] theorem State.setTr_metering (s : State) (n : Nat) (f : TreeSt → TreeSt) : (s.setTr n f).metering = s.metering := rfl
@[simp] theorem State.setTr_ctxs (s : State) (n : Nat) (f : TreeSt → TreeSt) : (s.setTr n f).ctxs = s.ctxs := rfl
@[simp] theorem State.setTr_engs (s : State) (n : Nat) (f : TreeSt → TreeSt) : (s.setTr n f).engs = s.engs := rfl
@[simp] theorem State.setTr_sandbox (s : State) (n : Nat) (f : TreeSt → TreeSt) : (s.setTr n f).sandbox = s.sandbox := rfl
@[simp] theorem State.setTr_conns (s : State) (n : Nat) (f : TreeSt → TreeSt) : (s.setTr n f).conns = s.conns := rfl
@[simp] theorem State.setTr_mtch (s : State) (n : Nat) (f : TreeSt → TreeSt) : (s.setTr n f).mtch = s.mtch := rfl
@[simp] theorem State.setTr_trees (s : State) (n : Nat) (f : TreeSt → TreeSt) : (s.setTr n f).trees = s.trees.upd n {} f := rfl
@[simp] theorem State.setTr_route (s : State) (n : Nat) (f : TreeSt → TreeSt) : (s.setTr n f).route = s.route := rfl
@[simp] theorem State.setTr_ports (s : State) (n : Nat) (f : TreeSt → TreeSt) : (s.setTr n f).ports = s.ports := rfl
@[simp] theorem State.setTr_lamps (s : State) (n : Nat) (f : TreeSt → TreeSt) : (s.setTr n f).lamps = s.lamps := rfl
@[simp] theorem State.setTr_coh (s : State) (n : Nat) (f : TreeSt → TreeSt) : (s.setTr n f).coh = s.coh := rfl
@[simp] theorem State.setTr_gddr (s : State) (n : Nat) (f : TreeSt → TreeSt) : (s.setTr n f).gddr = s.gddr := rfl
@[simp] theorem State.setTr_guard (s : State) (n : Nat) (f : TreeSt → TreeSt) : (s.setTr n f).guard = s.guard := rfl
@[simp] theorem State.setTr_fuses (s : State) (n : Nat) (f : TreeSt → TreeSt) : (s.setTr n f).fuses = s.fuses := rfl
@[simp] theorem State.setTr_faults (s : State) (n : Nat) (f : TreeSt → TreeSt) : (s.setTr n f).faults = s.faults := rfl
@[simp] theorem State.setTr_clock (s : State) (n : Nat) (f : TreeSt → TreeSt) : (s.setTr n f).clock = s.clock := rfl
@[simp] theorem State.setTr_audit (s : State) (n : Nat) (f : TreeSt → TreeSt) : (s.setTr n f).audit = s.audit := rfl
@[simp] theorem State.setTr_boot (s : State) (n : Nat) (f : TreeSt → TreeSt) : (s.setTr n f).boot = s.boot := rfl
@[simp] theorem State.setTr_power (s : State) (n : Nat) (f : TreeSt → TreeSt) : (s.setTr n f).power = s.power := rfl
@[simp] theorem State.setTr_nextId (s : State) (n : Nat) (f : TreeSt → TreeSt) : (s.setTr n f).nextId = s.nextId := rfl
@[simp] theorem State.setTr_free (s : State) (n : Nat) (f : TreeSt → TreeSt) : (s.setTr n f).free = s.free := rfl
@[simp] theorem State.setTr_pending (s : State) (n : Nat) (f : TreeSt → TreeSt) : (s.setTr n f).pending = s.pending := rfl
@[simp] theorem State.setTr_out (s : State) (n : Nat) (f : TreeSt → TreeSt) : (s.setTr n f).out = s.out := rfl
@[simp] theorem State.setTr_get (s : State) (n : Nat) (f : TreeSt → TreeSt) (r : Reg) : (s.setTr n f).get r = s.get r := rfl
@[simp] theorem State.setTr_rd (s : State) (n : Nat) (f : TreeSt → TreeSt) (g : Fld) : (s.setTr n f).rd g = s.rd g := rfl

theorem State.setTr_tr (s : State) (n k : Nat) (f : _ → _) :
    (s.setTr n f).tr k = if k = n then f (s.tr n) else s.tr k := KMap.at_upd _ _ _ _ _
@[simp] theorem State.setTr_tr_same (s : State) (n : Nat) (f : _ → _) : (s.setTr n f).tr n = f (s.tr n) := by
  rw [State.setTr_tr, if_pos rfl]

/-! ## State.setLamp -/

@[simp] theorem State.setLamp_regs (s : State) (n : Nat) (f : Lamp → Lamp) : (s.setLamp n f).regs = s.regs := rfl
@[simp] theorem State.setLamp_mem (s : State) (n : Nat) (f : Lamp → Lamp) : (s.setLamp n f).mem = s.mem := rfl
@[simp] theorem State.setLamp_poison (s : State) (n : Nat) (f : Lamp → Lamp) : (s.setLamp n f).poison = s.poison := rfl
@[simp] theorem State.setLamp_pal (s : State) (n : Nat) (f : Lamp → Lamp) : (s.setLamp n f).pal = s.pal := rfl
@[simp] theorem State.setLamp_palPoison (s : State) (n : Nat) (f : Lamp → Lamp) : (s.setLamp n f).palPoison = s.palPoison := rfl
@[simp] theorem State.setLamp_palEcc (s : State) (n : Nat) (f : Lamp → Lamp) : (s.setLamp n f).palEcc = s.palEcc := rfl
@[simp] theorem State.setLamp_hosts (s : State) (n : Nat) (f : Lamp → Lamp) : (s.setLamp n f).hosts = s.hosts := rfl
@[simp] theorem State.setLamp_fns (s : State) (n : Nat) (f : Lamp → Lamp) : (s.setLamp n f).fns = s.fns := rfl
@[simp] theorem State.setLamp_pier (s : State) (n : Nat) (f : Lamp → Lamp) : (s.setLamp n f).pier = s.pier := rfl
@[simp] theorem State.setLamp_pins (s : State) (n : Nat) (f : Lamp → Lamp) : (s.setLamp n f).pins = s.pins := rfl
@[simp] theorem State.setLamp_evs (s : State) (n : Nat) (f : Lamp → Lamp) : (s.setLamp n f).evs = s.evs := rfl
@[simp] theorem State.setLamp_samples (s : State) (n : Nat) (f : Lamp → Lamp) : (s.setLamp n f).samples = s.samples := rfl
@[simp] theorem State.setLamp_queues (s : State) (n : Nat) (f : Lamp → Lamp) : (s.setLamp n f).queues = s.queues := rfl
@[simp] theorem State.setLamp_sched (s : State) (n : Nat) (f : Lamp → Lamp) : (s.setLamp n f).sched = s.sched := rfl
@[simp] theorem State.setLamp_metering (s : State) (n : Nat) (f : Lamp → Lamp) : (s.setLamp n f).metering = s.metering := rfl
@[simp] theorem State.setLamp_ctxs (s : State) (n : Nat) (f : Lamp → Lamp) : (s.setLamp n f).ctxs = s.ctxs := rfl
@[simp] theorem State.setLamp_engs (s : State) (n : Nat) (f : Lamp → Lamp) : (s.setLamp n f).engs = s.engs := rfl
@[simp] theorem State.setLamp_sandbox (s : State) (n : Nat) (f : Lamp → Lamp) : (s.setLamp n f).sandbox = s.sandbox := rfl
@[simp] theorem State.setLamp_conns (s : State) (n : Nat) (f : Lamp → Lamp) : (s.setLamp n f).conns = s.conns := rfl
@[simp] theorem State.setLamp_mtch (s : State) (n : Nat) (f : Lamp → Lamp) : (s.setLamp n f).mtch = s.mtch := rfl
@[simp] theorem State.setLamp_trees (s : State) (n : Nat) (f : Lamp → Lamp) : (s.setLamp n f).trees = s.trees := rfl
@[simp] theorem State.setLamp_route (s : State) (n : Nat) (f : Lamp → Lamp) : (s.setLamp n f).route = s.route := rfl
@[simp] theorem State.setLamp_ports (s : State) (n : Nat) (f : Lamp → Lamp) : (s.setLamp n f).ports = s.ports := rfl
@[simp] theorem State.setLamp_lamps (s : State) (n : Nat) (f : Lamp → Lamp) : (s.setLamp n f).lamps = s.lamps.upd n {} f := rfl
@[simp] theorem State.setLamp_coh (s : State) (n : Nat) (f : Lamp → Lamp) : (s.setLamp n f).coh = s.coh := rfl
@[simp] theorem State.setLamp_gddr (s : State) (n : Nat) (f : Lamp → Lamp) : (s.setLamp n f).gddr = s.gddr := rfl
@[simp] theorem State.setLamp_guard (s : State) (n : Nat) (f : Lamp → Lamp) : (s.setLamp n f).guard = s.guard := rfl
@[simp] theorem State.setLamp_fuses (s : State) (n : Nat) (f : Lamp → Lamp) : (s.setLamp n f).fuses = s.fuses := rfl
@[simp] theorem State.setLamp_faults (s : State) (n : Nat) (f : Lamp → Lamp) : (s.setLamp n f).faults = s.faults := rfl
@[simp] theorem State.setLamp_clock (s : State) (n : Nat) (f : Lamp → Lamp) : (s.setLamp n f).clock = s.clock := rfl
@[simp] theorem State.setLamp_audit (s : State) (n : Nat) (f : Lamp → Lamp) : (s.setLamp n f).audit = s.audit := rfl
@[simp] theorem State.setLamp_boot (s : State) (n : Nat) (f : Lamp → Lamp) : (s.setLamp n f).boot = s.boot := rfl
@[simp] theorem State.setLamp_power (s : State) (n : Nat) (f : Lamp → Lamp) : (s.setLamp n f).power = s.power := rfl
@[simp] theorem State.setLamp_nextId (s : State) (n : Nat) (f : Lamp → Lamp) : (s.setLamp n f).nextId = s.nextId := rfl
@[simp] theorem State.setLamp_free (s : State) (n : Nat) (f : Lamp → Lamp) : (s.setLamp n f).free = s.free := rfl
@[simp] theorem State.setLamp_pending (s : State) (n : Nat) (f : Lamp → Lamp) : (s.setLamp n f).pending = s.pending := rfl
@[simp] theorem State.setLamp_out (s : State) (n : Nat) (f : Lamp → Lamp) : (s.setLamp n f).out = s.out := rfl
@[simp] theorem State.setLamp_get (s : State) (n : Nat) (f : Lamp → Lamp) (r : Reg) : (s.setLamp n f).get r = s.get r := rfl
@[simp] theorem State.setLamp_rd (s : State) (n : Nat) (f : Lamp → Lamp) (g : Fld) : (s.setLamp n f).rd g = s.rd g := rfl

theorem State.setLamp_lamp (s : State) (n k : Nat) (f : _ → _) :
    (s.setLamp n f).lamp k = if k = n then f (s.lamp n) else s.lamp k := KMap.at_upd _ _ _ _ _
@[simp] theorem State.setLamp_lamp_same (s : State) (n : Nat) (f : _ → _) : (s.setLamp n f).lamp n = f (s.lamp n) := by
  rw [State.setLamp_lamp, if_pos rfl]

/-! ## State.setIsle -/

@[simp] theorem State.setIsle_regs (s : State) (n : Nat) (f : IslePower → IslePower) : (s.setIsle n f).regs = s.regs := rfl
@[simp] theorem State.setIsle_mem (s : State) (n : Nat) (f : IslePower → IslePower) : (s.setIsle n f).mem = s.mem := rfl
@[simp] theorem State.setIsle_poison (s : State) (n : Nat) (f : IslePower → IslePower) : (s.setIsle n f).poison = s.poison := rfl
@[simp] theorem State.setIsle_pal (s : State) (n : Nat) (f : IslePower → IslePower) : (s.setIsle n f).pal = s.pal := rfl
@[simp] theorem State.setIsle_palPoison (s : State) (n : Nat) (f : IslePower → IslePower) : (s.setIsle n f).palPoison = s.palPoison := rfl
@[simp] theorem State.setIsle_palEcc (s : State) (n : Nat) (f : IslePower → IslePower) : (s.setIsle n f).palEcc = s.palEcc := rfl
@[simp] theorem State.setIsle_hosts (s : State) (n : Nat) (f : IslePower → IslePower) : (s.setIsle n f).hosts = s.hosts := rfl
@[simp] theorem State.setIsle_fns (s : State) (n : Nat) (f : IslePower → IslePower) : (s.setIsle n f).fns = s.fns := rfl
@[simp] theorem State.setIsle_pier (s : State) (n : Nat) (f : IslePower → IslePower) : (s.setIsle n f).pier = s.pier := rfl
@[simp] theorem State.setIsle_pins (s : State) (n : Nat) (f : IslePower → IslePower) : (s.setIsle n f).pins = s.pins := rfl
@[simp] theorem State.setIsle_evs (s : State) (n : Nat) (f : IslePower → IslePower) : (s.setIsle n f).evs = s.evs := rfl
@[simp] theorem State.setIsle_samples (s : State) (n : Nat) (f : IslePower → IslePower) : (s.setIsle n f).samples = s.samples := rfl
@[simp] theorem State.setIsle_queues (s : State) (n : Nat) (f : IslePower → IslePower) : (s.setIsle n f).queues = s.queues := rfl
@[simp] theorem State.setIsle_sched (s : State) (n : Nat) (f : IslePower → IslePower) : (s.setIsle n f).sched = s.sched := rfl
@[simp] theorem State.setIsle_metering (s : State) (n : Nat) (f : IslePower → IslePower) : (s.setIsle n f).metering = s.metering := rfl
@[simp] theorem State.setIsle_ctxs (s : State) (n : Nat) (f : IslePower → IslePower) : (s.setIsle n f).ctxs = s.ctxs := rfl
@[simp] theorem State.setIsle_engs (s : State) (n : Nat) (f : IslePower → IslePower) : (s.setIsle n f).engs = s.engs := rfl
@[simp] theorem State.setIsle_sandbox (s : State) (n : Nat) (f : IslePower → IslePower) : (s.setIsle n f).sandbox = s.sandbox := rfl
@[simp] theorem State.setIsle_conns (s : State) (n : Nat) (f : IslePower → IslePower) : (s.setIsle n f).conns = s.conns := rfl
@[simp] theorem State.setIsle_mtch (s : State) (n : Nat) (f : IslePower → IslePower) : (s.setIsle n f).mtch = s.mtch := rfl
@[simp] theorem State.setIsle_trees (s : State) (n : Nat) (f : IslePower → IslePower) : (s.setIsle n f).trees = s.trees := rfl
@[simp] theorem State.setIsle_route (s : State) (n : Nat) (f : IslePower → IslePower) : (s.setIsle n f).route = s.route := rfl
@[simp] theorem State.setIsle_ports (s : State) (n : Nat) (f : IslePower → IslePower) : (s.setIsle n f).ports = s.ports := rfl
@[simp] theorem State.setIsle_lamps (s : State) (n : Nat) (f : IslePower → IslePower) : (s.setIsle n f).lamps = s.lamps := rfl
@[simp] theorem State.setIsle_coh (s : State) (n : Nat) (f : IslePower → IslePower) : (s.setIsle n f).coh = s.coh := rfl
@[simp] theorem State.setIsle_gddr (s : State) (n : Nat) (f : IslePower → IslePower) : (s.setIsle n f).gddr = s.gddr := rfl
@[simp] theorem State.setIsle_guard (s : State) (n : Nat) (f : IslePower → IslePower) : (s.setIsle n f).guard = s.guard := rfl
@[simp] theorem State.setIsle_fuses (s : State) (n : Nat) (f : IslePower → IslePower) : (s.setIsle n f).fuses = s.fuses := rfl
@[simp] theorem State.setIsle_faults (s : State) (n : Nat) (f : IslePower → IslePower) : (s.setIsle n f).faults = s.faults := rfl
@[simp] theorem State.setIsle_clock (s : State) (n : Nat) (f : IslePower → IslePower) : (s.setIsle n f).clock = s.clock := rfl
@[simp] theorem State.setIsle_audit (s : State) (n : Nat) (f : IslePower → IslePower) : (s.setIsle n f).audit = s.audit := rfl
@[simp] theorem State.setIsle_boot (s : State) (n : Nat) (f : IslePower → IslePower) : (s.setIsle n f).boot = s.boot := rfl
@[simp] theorem State.setIsle_power (s : State) (n : Nat) (f : IslePower → IslePower) : (s.setIsle n f).power = { s.power with isles := s.power.isles.upd n {} f } := rfl
@[simp] theorem State.setIsle_nextId (s : State) (n : Nat) (f : IslePower → IslePower) : (s.setIsle n f).nextId = s.nextId := rfl
@[simp] theorem State.setIsle_free (s : State) (n : Nat) (f : IslePower → IslePower) : (s.setIsle n f).free = s.free := rfl
@[simp] theorem State.setIsle_pending (s : State) (n : Nat) (f : IslePower → IslePower) : (s.setIsle n f).pending = s.pending := rfl
@[simp] theorem State.setIsle_out (s : State) (n : Nat) (f : IslePower → IslePower) : (s.setIsle n f).out = s.out := rfl
@[simp] theorem State.setIsle_get (s : State) (n : Nat) (f : IslePower → IslePower) (r : Reg) : (s.setIsle n f).get r = s.get r := rfl
@[simp] theorem State.setIsle_rd (s : State) (n : Nat) (f : IslePower → IslePower) (g : Fld) : (s.setIsle n f).rd g = s.rd g := rfl

/-! ## State.setMtch -/

@[simp] theorem State.setMtch_regs (s : State) (f : Matching → Matching) : (s.setMtch f).regs = s.regs := rfl
@[simp] theorem State.setMtch_mem (s : State) (f : Matching → Matching) : (s.setMtch f).mem = s.mem := rfl
@[simp] theorem State.setMtch_poison (s : State) (f : Matching → Matching) : (s.setMtch f).poison = s.poison := rfl
@[simp] theorem State.setMtch_pal (s : State) (f : Matching → Matching) : (s.setMtch f).pal = s.pal := rfl
@[simp] theorem State.setMtch_palPoison (s : State) (f : Matching → Matching) : (s.setMtch f).palPoison = s.palPoison := rfl
@[simp] theorem State.setMtch_palEcc (s : State) (f : Matching → Matching) : (s.setMtch f).palEcc = s.palEcc := rfl
@[simp] theorem State.setMtch_hosts (s : State) (f : Matching → Matching) : (s.setMtch f).hosts = s.hosts := rfl
@[simp] theorem State.setMtch_fns (s : State) (f : Matching → Matching) : (s.setMtch f).fns = s.fns := rfl
@[simp] theorem State.setMtch_pier (s : State) (f : Matching → Matching) : (s.setMtch f).pier = s.pier := rfl
@[simp] theorem State.setMtch_pins (s : State) (f : Matching → Matching) : (s.setMtch f).pins = s.pins := rfl
@[simp] theorem State.setMtch_evs (s : State) (f : Matching → Matching) : (s.setMtch f).evs = s.evs := rfl
@[simp] theorem State.setMtch_samples (s : State) (f : Matching → Matching) : (s.setMtch f).samples = s.samples := rfl
@[simp] theorem State.setMtch_queues (s : State) (f : Matching → Matching) : (s.setMtch f).queues = s.queues := rfl
@[simp] theorem State.setMtch_sched (s : State) (f : Matching → Matching) : (s.setMtch f).sched = s.sched := rfl
@[simp] theorem State.setMtch_metering (s : State) (f : Matching → Matching) : (s.setMtch f).metering = s.metering := rfl
@[simp] theorem State.setMtch_ctxs (s : State) (f : Matching → Matching) : (s.setMtch f).ctxs = s.ctxs := rfl
@[simp] theorem State.setMtch_engs (s : State) (f : Matching → Matching) : (s.setMtch f).engs = s.engs := rfl
@[simp] theorem State.setMtch_sandbox (s : State) (f : Matching → Matching) : (s.setMtch f).sandbox = s.sandbox := rfl
@[simp] theorem State.setMtch_conns (s : State) (f : Matching → Matching) : (s.setMtch f).conns = s.conns := rfl
@[simp] theorem State.setMtch_mtch (s : State) (f : Matching → Matching) : (s.setMtch f).mtch = f s.mtch := rfl
@[simp] theorem State.setMtch_trees (s : State) (f : Matching → Matching) : (s.setMtch f).trees = s.trees := rfl
@[simp] theorem State.setMtch_route (s : State) (f : Matching → Matching) : (s.setMtch f).route = s.route := rfl
@[simp] theorem State.setMtch_ports (s : State) (f : Matching → Matching) : (s.setMtch f).ports = s.ports := rfl
@[simp] theorem State.setMtch_lamps (s : State) (f : Matching → Matching) : (s.setMtch f).lamps = s.lamps := rfl
@[simp] theorem State.setMtch_coh (s : State) (f : Matching → Matching) : (s.setMtch f).coh = s.coh := rfl
@[simp] theorem State.setMtch_gddr (s : State) (f : Matching → Matching) : (s.setMtch f).gddr = s.gddr := rfl
@[simp] theorem State.setMtch_guard (s : State) (f : Matching → Matching) : (s.setMtch f).guard = s.guard := rfl
@[simp] theorem State.setMtch_fuses (s : State) (f : Matching → Matching) : (s.setMtch f).fuses = s.fuses := rfl
@[simp] theorem State.setMtch_faults (s : State) (f : Matching → Matching) : (s.setMtch f).faults = s.faults := rfl
@[simp] theorem State.setMtch_clock (s : State) (f : Matching → Matching) : (s.setMtch f).clock = s.clock := rfl
@[simp] theorem State.setMtch_audit (s : State) (f : Matching → Matching) : (s.setMtch f).audit = s.audit := rfl
@[simp] theorem State.setMtch_boot (s : State) (f : Matching → Matching) : (s.setMtch f).boot = s.boot := rfl
@[simp] theorem State.setMtch_power (s : State) (f : Matching → Matching) : (s.setMtch f).power = s.power := rfl
@[simp] theorem State.setMtch_nextId (s : State) (f : Matching → Matching) : (s.setMtch f).nextId = s.nextId := rfl
@[simp] theorem State.setMtch_free (s : State) (f : Matching → Matching) : (s.setMtch f).free = s.free := rfl
@[simp] theorem State.setMtch_pending (s : State) (f : Matching → Matching) : (s.setMtch f).pending = s.pending := rfl
@[simp] theorem State.setMtch_out (s : State) (f : Matching → Matching) : (s.setMtch f).out = s.out := rfl
@[simp] theorem State.setMtch_get (s : State) (f : Matching → Matching) (r : Reg) : (s.setMtch f).get r = s.get r := rfl
@[simp] theorem State.setMtch_rd (s : State) (f : Matching → Matching) (g : Fld) : (s.setMtch f).rd g = s.rd g := rfl

/-! ## State.emit -/

@[simp] theorem State.emit_regs (s : State) (o : Output) : (s.emit o).regs = s.regs := rfl
@[simp] theorem State.emit_mem (s : State) (o : Output) : (s.emit o).mem = s.mem := rfl
@[simp] theorem State.emit_poison (s : State) (o : Output) : (s.emit o).poison = s.poison := rfl
@[simp] theorem State.emit_pal (s : State) (o : Output) : (s.emit o).pal = s.pal := rfl
@[simp] theorem State.emit_palPoison (s : State) (o : Output) : (s.emit o).palPoison = s.palPoison := rfl
@[simp] theorem State.emit_palEcc (s : State) (o : Output) : (s.emit o).palEcc = s.palEcc := rfl
@[simp] theorem State.emit_hosts (s : State) (o : Output) : (s.emit o).hosts = s.hosts := rfl
@[simp] theorem State.emit_fns (s : State) (o : Output) : (s.emit o).fns = s.fns := rfl
@[simp] theorem State.emit_pier (s : State) (o : Output) : (s.emit o).pier = s.pier := rfl
@[simp] theorem State.emit_pins (s : State) (o : Output) : (s.emit o).pins = s.pins := rfl
@[simp] theorem State.emit_evs (s : State) (o : Output) : (s.emit o).evs = s.evs := rfl
@[simp] theorem State.emit_samples (s : State) (o : Output) : (s.emit o).samples = s.samples := rfl
@[simp] theorem State.emit_queues (s : State) (o : Output) : (s.emit o).queues = s.queues := rfl
@[simp] theorem State.emit_sched (s : State) (o : Output) : (s.emit o).sched = s.sched := rfl
@[simp] theorem State.emit_metering (s : State) (o : Output) : (s.emit o).metering = s.metering := rfl
@[simp] theorem State.emit_ctxs (s : State) (o : Output) : (s.emit o).ctxs = s.ctxs := rfl
@[simp] theorem State.emit_engs (s : State) (o : Output) : (s.emit o).engs = s.engs := rfl
@[simp] theorem State.emit_sandbox (s : State) (o : Output) : (s.emit o).sandbox = s.sandbox := rfl
@[simp] theorem State.emit_conns (s : State) (o : Output) : (s.emit o).conns = s.conns := rfl
@[simp] theorem State.emit_mtch (s : State) (o : Output) : (s.emit o).mtch = s.mtch := rfl
@[simp] theorem State.emit_trees (s : State) (o : Output) : (s.emit o).trees = s.trees := rfl
@[simp] theorem State.emit_route (s : State) (o : Output) : (s.emit o).route = s.route := rfl
@[simp] theorem State.emit_ports (s : State) (o : Output) : (s.emit o).ports = s.ports := rfl
@[simp] theorem State.emit_lamps (s : State) (o : Output) : (s.emit o).lamps = s.lamps := rfl
@[simp] theorem State.emit_coh (s : State) (o : Output) : (s.emit o).coh = s.coh := rfl
@[simp] theorem State.emit_gddr (s : State) (o : Output) : (s.emit o).gddr = s.gddr := rfl
@[simp] theorem State.emit_guard (s : State) (o : Output) : (s.emit o).guard = s.guard := rfl
@[simp] theorem State.emit_fuses (s : State) (o : Output) : (s.emit o).fuses = s.fuses := rfl
@[simp] theorem State.emit_faults (s : State) (o : Output) : (s.emit o).faults = s.faults := rfl
@[simp] theorem State.emit_clock (s : State) (o : Output) : (s.emit o).clock = s.clock := rfl
@[simp] theorem State.emit_audit (s : State) (o : Output) : (s.emit o).audit = s.audit := rfl
@[simp] theorem State.emit_boot (s : State) (o : Output) : (s.emit o).boot = s.boot := rfl
@[simp] theorem State.emit_power (s : State) (o : Output) : (s.emit o).power = s.power := rfl
@[simp] theorem State.emit_nextId (s : State) (o : Output) : (s.emit o).nextId = s.nextId := rfl
@[simp] theorem State.emit_free (s : State) (o : Output) : (s.emit o).free = s.free := rfl
@[simp] theorem State.emit_pending (s : State) (o : Output) : (s.emit o).pending = s.pending := rfl
@[simp] theorem State.emit_out (s : State) (o : Output) : (s.emit o).out = s.out ++ [o] := rfl
@[simp] theorem State.emit_get (s : State) (o : Output) (r : Reg) : (s.emit o).get r = s.get r := rfl
@[simp] theorem State.emit_rd (s : State) (o : Output) (g : Fld) : (s.emit o).rd g = s.rd g := rfl

/-! ## State.takeId -/

@[simp] theorem State.takeId_regs (s : State) : (s.takeId).regs = s.regs := rfl
@[simp] theorem State.takeId_mem (s : State) : (s.takeId).mem = s.mem := rfl
@[simp] theorem State.takeId_poison (s : State) : (s.takeId).poison = s.poison := rfl
@[simp] theorem State.takeId_pal (s : State) : (s.takeId).pal = s.pal := rfl
@[simp] theorem State.takeId_palPoison (s : State) : (s.takeId).palPoison = s.palPoison := rfl
@[simp] theorem State.takeId_palEcc (s : State) : (s.takeId).palEcc = s.palEcc := rfl
@[simp] theorem State.takeId_hosts (s : State) : (s.takeId).hosts = s.hosts := rfl
@[simp] theorem State.takeId_fns (s : State) : (s.takeId).fns = s.fns := rfl
@[simp] theorem State.takeId_pier (s : State) : (s.takeId).pier = s.pier := rfl
@[simp] theorem State.takeId_pins (s : State) : (s.takeId).pins = s.pins := rfl
@[simp] theorem State.takeId_evs (s : State) : (s.takeId).evs = s.evs := rfl
@[simp] theorem State.takeId_samples (s : State) : (s.takeId).samples = s.samples := rfl
@[simp] theorem State.takeId_queues (s : State) : (s.takeId).queues = s.queues := rfl
@[simp] theorem State.takeId_sched (s : State) : (s.takeId).sched = s.sched := rfl
@[simp] theorem State.takeId_metering (s : State) : (s.takeId).metering = s.metering := rfl
@[simp] theorem State.takeId_ctxs (s : State) : (s.takeId).ctxs = s.ctxs := rfl
@[simp] theorem State.takeId_engs (s : State) : (s.takeId).engs = s.engs := rfl
@[simp] theorem State.takeId_sandbox (s : State) : (s.takeId).sandbox = s.sandbox := rfl
@[simp] theorem State.takeId_conns (s : State) : (s.takeId).conns = s.conns := rfl
@[simp] theorem State.takeId_mtch (s : State) : (s.takeId).mtch = s.mtch := rfl
@[simp] theorem State.takeId_trees (s : State) : (s.takeId).trees = s.trees := rfl
@[simp] theorem State.takeId_route (s : State) : (s.takeId).route = s.route := rfl
@[simp] theorem State.takeId_ports (s : State) : (s.takeId).ports = s.ports := rfl
@[simp] theorem State.takeId_lamps (s : State) : (s.takeId).lamps = s.lamps := rfl
@[simp] theorem State.takeId_coh (s : State) : (s.takeId).coh = s.coh := rfl
@[simp] theorem State.takeId_gddr (s : State) : (s.takeId).gddr = s.gddr := rfl
@[simp] theorem State.takeId_guard (s : State) : (s.takeId).guard = s.guard := rfl
@[simp] theorem State.takeId_fuses (s : State) : (s.takeId).fuses = s.fuses := rfl
@[simp] theorem State.takeId_faults (s : State) : (s.takeId).faults = s.faults := rfl
@[simp] theorem State.takeId_clock (s : State) : (s.takeId).clock = s.clock := rfl
@[simp] theorem State.takeId_audit (s : State) : (s.takeId).audit = s.audit := rfl
@[simp] theorem State.takeId_boot (s : State) : (s.takeId).boot = s.boot := rfl
@[simp] theorem State.takeId_power (s : State) : (s.takeId).power = s.power := rfl
@[simp] theorem State.takeId_nextId (s : State) : (s.takeId).nextId = s.nextId + 1 := rfl
@[simp] theorem State.takeId_free (s : State) : (s.takeId).free = s.free := rfl
@[simp] theorem State.takeId_pending (s : State) : (s.takeId).pending = s.pending := rfl
@[simp] theorem State.takeId_out (s : State) : (s.takeId).out = s.out := rfl
@[simp] theorem State.takeId_get (s : State) (r : Reg) : (s.takeId).get r = s.get r := rfl
@[simp] theorem State.takeId_rd (s : State) (g : Fld) : (s.takeId).rd g = s.rd g := rfl

/-! ## State.drawn -/

@[simp] theorem State.drawn_regs (s : State) : (s.drawn).regs = s.regs := rfl
@[simp] theorem State.drawn_mem (s : State) : (s.drawn).mem = s.mem := rfl
@[simp] theorem State.drawn_poison (s : State) : (s.drawn).poison = s.poison := rfl
@[simp] theorem State.drawn_pal (s : State) : (s.drawn).pal = s.pal := rfl
@[simp] theorem State.drawn_palPoison (s : State) : (s.drawn).palPoison = s.palPoison := rfl
@[simp] theorem State.drawn_palEcc (s : State) : (s.drawn).palEcc = s.palEcc := rfl
@[simp] theorem State.drawn_hosts (s : State) : (s.drawn).hosts = s.hosts := rfl
@[simp] theorem State.drawn_fns (s : State) : (s.drawn).fns = s.fns := rfl
@[simp] theorem State.drawn_pier (s : State) : (s.drawn).pier = s.pier := rfl
@[simp] theorem State.drawn_pins (s : State) : (s.drawn).pins = s.pins := rfl
@[simp] theorem State.drawn_evs (s : State) : (s.drawn).evs = s.evs := rfl
@[simp] theorem State.drawn_samples (s : State) : (s.drawn).samples = s.samples := rfl
@[simp] theorem State.drawn_queues (s : State) : (s.drawn).queues = s.queues := rfl
@[simp] theorem State.drawn_sched (s : State) : (s.drawn).sched = s.sched := rfl
@[simp] theorem State.drawn_metering (s : State) : (s.drawn).metering = s.metering := rfl
@[simp] theorem State.drawn_ctxs (s : State) : (s.drawn).ctxs = s.ctxs := rfl
@[simp] theorem State.drawn_engs (s : State) : (s.drawn).engs = s.engs := rfl
@[simp] theorem State.drawn_sandbox (s : State) : (s.drawn).sandbox = s.sandbox := rfl
@[simp] theorem State.drawn_conns (s : State) : (s.drawn).conns = s.conns := rfl
@[simp] theorem State.drawn_mtch (s : State) : (s.drawn).mtch = s.mtch := rfl
@[simp] theorem State.drawn_trees (s : State) : (s.drawn).trees = s.trees := rfl
@[simp] theorem State.drawn_route (s : State) : (s.drawn).route = s.route := rfl
@[simp] theorem State.drawn_ports (s : State) : (s.drawn).ports = s.ports := rfl
@[simp] theorem State.drawn_lamps (s : State) : (s.drawn).lamps = s.lamps := rfl
@[simp] theorem State.drawn_coh (s : State) : (s.drawn).coh = s.coh := rfl
@[simp] theorem State.drawn_gddr (s : State) : (s.drawn).gddr = s.gddr := rfl
@[simp] theorem State.drawn_guard (s : State) : (s.drawn).guard = s.guard := rfl
@[simp] theorem State.drawn_fuses (s : State) : (s.drawn).fuses = s.fuses := rfl
@[simp] theorem State.drawn_faults (s : State) : (s.drawn).faults = s.faults := rfl
@[simp] theorem State.drawn_clock (s : State) : (s.drawn).clock = s.clock := rfl
@[simp] theorem State.drawn_audit (s : State) : (s.drawn).audit = s.audit := rfl
@[simp] theorem State.drawn_boot (s : State) : (s.drawn).boot = s.boot := rfl
@[simp] theorem State.drawn_power (s : State) : (s.drawn).power = s.power := rfl
@[simp] theorem State.drawn_nextId (s : State) : (s.drawn).nextId = s.nextId := rfl
@[simp] theorem State.drawn_free (s : State) : (s.drawn).free = s.free + 1 := rfl
@[simp] theorem State.drawn_pending (s : State) : (s.drawn).pending = s.pending := rfl
@[simp] theorem State.drawn_out (s : State) : (s.drawn).out = s.out := rfl
@[simp] theorem State.drawn_get (s : State) (r : Reg) : (s.drawn).get r = s.get r := rfl
@[simp] theorem State.drawn_rd (s : State) (g : Fld) : (s.drawn).rd g = s.rd g := rfl

end Sys2Proof.Machine
end

