-- ==== Sys2Proof/Tests/Slice0.lean ====
section
/-! SUPPORT. The witnesses of the hypotheses of the statements (test_hyp_...), clause by clause at small states, and a
few single steps whose results the tables of spec/ give (test_...). -/

open Sys2Proof Sys2Proof.Machine
namespace Sys2Proof.Tests

set_option maxRecDepth 20000

def put (s : State) (l : List (Fld × Nat)) : State := l.foldl (fun t x => t.wr x.1 x.2) s

/-- A device in service: ports booted and linked, with every VF of theirs, the pier in service, every ready pin high. -/
def up : State :=
  { boot := { phase := .running, pierBooted := true }
    pier := { gen := some .gen2, sideband := true, tunnel := true }
    pins := (List.range 5).map fun p => (p, ({ level := true, ready := true } : ReadyPin))
    fns := (List.range 4).map fun p => (256 * p, ({ ctl := [(82, 1), (84, 255)] } : FnCfg))
    hosts := (List.range 4).map fun p => (p, ({ booted := true, perst := false, linkUp := true } : HostPort)) }

/-- The pier's master, to which every port and gate is open there. -/
def pier : Mst := 0x4000

/-- Rings in service of function 0: work ring 5, completion ring 6, event ring 7. -/
def rings : State :=
  put up [(F.qctx_STATE 5, 1), (F.qctx_LOG2SIZE 5, 6), (F.qctx_CQ 5, 6), (F.qctx_EQ 5, 7), (F.qctx_PI 5, 1),
    (F.qctx_TYPE 6, 2), (F.qctx_STATE 6, 1), (F.qctx_LOG2SIZE 6, 6), (F.qctx_EQ 6, 7),
    (F.qctx_TYPE 7, 3), (F.qctx_STATE 7, 1), (F.qctx_LOG2SIZE 7, 6), (F.qctx_EQ 7, 7)]

theorem test_hyp_idle : State.reset.pending = [] ∧ State.reset.clock.hold = 0 ∧ State.reset.clock.slewUp = 0
    ∧ State.reset.clock.slewDown = 0 ∧ State.reset.on F.lnkGlbCfg_FREEZE = false := by decide

theorem test_hyp_invariant : up.Inv := ⟨by decide, by decide, by decide⟩

/-- Registers that the pier reaches. -/
theorem test_hyp_opens : ∀ k ∈ [AccKind.read, .write], ∀ a ∈ [0x20, 0x820, 0x830, 0x6080, 0x6140, 0x6210, 0x7008, 0x8308,
    0x9808, 0x20000, 0x25000, 0x2F0008, 0x430800, 0x1000080, 0x1010080, 0x1010220, 0x1020080, 0x1030080, 0x1050080,
    0x1060080], up.waitsBehind pier = false ∧ up.openReg pier a k = (up, true) := by decide

theorem test_hyp_doorbellPage :
    up.fnAnswers 0 = true ∧ up.halted = false ∧ up.withheld 0 = false
      ∧ (up.setHost 0 fun h => { h with held := [{ f := 0, bar := 2, off := 0 }] }).withheld 0 = true := by decide
theorem test_hyp_easelWrite : (up.host 0).held = [] ∧ up.throttled 0 = false
   ∧ (up.easelApply 0 0 0 [1]).isSome = true := by decide

theorem test_hyp_easelWaits :
    (up.setHost 0 fun h => { h with asm := (List.range 128).map fun i => ⟨1 + i, 0, [], 0⟩ }).easelApply 0 0 0 [1] = none := by decide

/-- Port 0 with an easel write of function 3 held, or a read that waits, and an assembly in progress. -/
def easel (read : Bool) : State :=
  up.setHost 0 fun h => { h with held := [{ f := 3, off := 0, bytes := [1], read := read }], asm := [⟨0, 5, [], 0⟩] }

theorem test_hyp_easelApply :
    ((easel false).host 0).held = [{ f := 3, off := 0, bytes := [1] }] ∧ (easel false).fnAnswers 3 = true
      ∧ (easel false).halted = false ∧ (easel false).throttled 0 = false ∧ ((easel false).releaseHead 0).isSome = true
      ∧ ((easel true).releaseHead 0).isSome = true ∧ up.releaseHead 0 = none
      ∧ (((easel true).host 0).held.map (·.read)) = [true]
      ∧ (((easel false).host 0).asm.find? fun a => a.f == 0 && a.slot == 5) = some ⟨0, 5, [], 0⟩ := by decide

/-- Port 0 with a request of function 3 that waits: one that PCI Express posts, or not. -/
def waits (r : HostReq) : State := up.setHost 0 fun h => { h with held := [{ f := 3, bar := 0, off := 0, req := some r }] }

theorem test_hyp_heldRequest :
    reqPosted (.configRead 0) = false ∧ reqPosted (.msixWrite 0 1 2 false) = true
      ∧ (∀ r ∈ [HostReq.configRead 0, .msixWrite 0 1 2 false], ((waits r).host 0).held.map (·.req) = [some r]
          ∧ ((waits r).releaseHead 0).isSome = true) := by decide

/-- Rings in service with one easel entry for ring 5. -/
def easelHead (after : Nat) : State :=
  rings.setHost 0 fun h => { h with easel := ⟨1, 0, [{ f := 0, after := after, ctl := 5, entry := Octet.zero, payload := [] }]⟩ }

theorem test_hyp_easelHead :
    ((easelHead 0).host 0).easel.items ≠ [] ∧ (easelHead 0).halted = false ∧ (easelHead 0).draining = false
      ∧ easelQueue 5 = 5 ∧ easelIlen 5 ≤ 256 ∧ (easelHead 0).owns 0 5 = true ∧ (easelHead 0).owns 1 5 = false
      ∧ (easelHead 0).rd (F.qctx_TYPE 5) = 0 ∧ (easelHead 0).qState 5 = QS.active
      ∧ (easelHead 0).cqActive 5 = true ∧ (easelHead 0).cqRoom 5 = true
      ∧ (easelHead 0).easelBehind 5 0 = false ∧ (easelHead 1).easelBehind 5 1 = true
      ∧ (put (easelHead 0) [(F.qctx_RSV 6, 64)]).cqRoom 5 = false := by decide

theorem test_hyp_watermarks : up.openReg pier (wmAddr 21) .write = (up, true)
    ∧ bits (0x0000010000FF0000 : Word) 28 16 < bits (0x0000010000FF0000 : Word) 44 32
    ∧ bits (0x0000010000FF0000 : Word) 44 32 ≤ 2 ^ fifoLog 5
    ∧ bits (0x0000010001000000 : Word) 44 32 ≤ bits (0x0000010001000000 : Word) 28 16
    ∧ 2 ^ fifoLog 5 < bits (0x0000010100000000 : Word) 44 32
    ∧ up.rd (F.wm_LO 5) < up.rd (F.wm_HI 5) := by decide

/-- An island's event FIFO full, and one with an entry lost and room. -/
def evFull : State := { up with evs := [(1, { fifo := ⟨256, 0, []⟩ }), (2, { fifo := ⟨1, 0, [⟨0, 0, 0, 0⟩]⟩, lost := 3 })] }

theorem test_hyp_events : (evFull.ev 1).fifo.full (fifoLog 5) = true ∧ (evFull.ev 2).lost ≠ 0
    ∧ (evFull.ev 2).fifo.full (fifoLog 6) = false ∧ evFull.throttled 6 = false
    ∧ ({ up with evs := [(2, { fifo := ⟨1, 0, [⟨0, 0, 0, 0⟩]⟩ })] } : State).ev 2 = { fifo := ⟨1, 0, [⟨0, 0, 0, 0⟩]⟩ }
    ∧ up.openReg pier 0x400028 .write = (up, true) := by decide

theorem test_hyp_pins :
    let s : State := { up with pins := [(4, { level := true }), (0, { pulsing := true, pulsedAt := some 5 })] }
    let t := put s [(F.pieAttn_EVTFLAG, 1)]
    t.faults.due = [] ∧ t.attnPending 4 = true ∧ (t.pin 4).level = true ∧ (t.pin 4).pulsing = false
      ∧ (t.pin 4).fallDue = none ∧ t.pinBusy 4 = false ∧ (t.pin 0).pulsing = true ∧ (t.pin 0).pulsedAt = some 5
      ∧ (t.pin 3).level = false ∧ (put t [(F.gteCtl_EN 3, 1)]).pinBusy 3 = false
      ∧ (put t [(F.gteCtl_EN 3, 1)]).on (F.gteCtl_EN 3) = true ∧ t.openReg pier 0x100018 .read = (t, true) := by decide

theorem test_hyp_doorbells : rings.qLog 5 ≤ 20 ∧ rings.qState 5 = QS.active ∧ rings.rd (F.qctx_TYPE 5) < 2
    ∧ ringDepth 6 1 0 ≤ ringDepth 6 64 0 ∧ ringDepth 6 64 0 ≤ 2 ^ 6 ∧ 2 ≤ rings.rd (F.qctx_TYPE 6)
    ∧ ringDepth 6 0 0 ≤ ringDepth 6 0 0 ∧ ¬(ringDepth 6 65 0 ≤ 2 ^ 6) ∧ ¬(ringDepth 6 0 1 ≤ ringDepth 6 0 0)
    ∧ (put rings [(F.qctx_STATE 5, 3)]).qState 5 = QS.draining := by decide

/-- The pier's select names ring 5. -/
def sel5 : State := rings.set (.sel 0x4000 .qcw) 5

theorem test_hyp_queueWindow :
    sel5.selOf pier .qcw = 5 ∧ sel5.qState 5 ≠ QS.disabled ∧ sel5.openReg pier 0x1000080 .write = (sel5, true)
      ∧ (let s := put sel5 [(F.qctx_STATE 5, 0)]
         s.qState 5 = QS.disabled ∧ bits (0x0260000000000000 : Word) 59 57 = 1
         ∧ (s.plainWrite (.qctx 5 0) (setBits 0x0260000000000000 59 57 0)).queueOk 5 = true
         ∧ (s.plainWrite (.qctx 5 0) (setBits 0x0210000000000000 59 57 0)).queueOk 5 = false) := by decide

theorem test_hyp_takes :
    rings.rd (F.qctx_TYPE 5) = 0 ∧ rings.serves 5 = true ∧ rings.qDepth 5 ≠ 0 ∧ rings.cqActive 5 = true
      ∧ rings.sketchServed 5 = false ∧ rings.structLost (queueLine 5) 2 = false ∧ rings.cqRoom 5 = true
      ∧ rings.collHeld 5 Octet.zero = false
      ∧ rings.malReason 5 Octet.zero none = none ∧ rings.malReason 5 ⟨0xFF00000000000000, 0, 0, 0, 0, 0, 0, 0⟩ none = some 1
      ∧ (put rings [(F.qctx_RSV 6, 64)]).cqRoom 5 = false
      ∧ (put rings [(F.qctx_RSV 6, 64)]).serves 5 = true := by decide

/-- An entry of ring 5 that has completed and closes its segment, and one that has only been taken. -/
def ended : State :=
  rings.setQue 5 fun v => { v with taken :=
    [{ id := 1, idx := 0, entry := Octet.zero, started := true, close := true, res := some { status := 0 } }] }
def fresh5 : State := rings.setQue 5 fun v => { v with taken := [{ id := 1, idx := 0, entry := Octet.zero }] }

theorem test_hyp_completion :
    (segment 64 (ended.que 5).live).2 = true ∧ ((segment 64 (ended.que 5).live).1.getLast?.bind (·.res)) = some { status := 0 }
      ∧ (∀ x ∈ (segment 64 (ended.que 5).live).1, x.res.isSome = true)
      ∧ (let s := put rings [(F.qctx_RSV 6, 64)]
        s.qLog 6 ≤ 20 ∧ 1 ≤ s.rd (F.qctx_RSV 6) ∧ s.qDepth 6 + s.rd (F.qctx_RSV 6) ≤ 2 ^ s.qLog 6
        ∧ s.qState 6 = QS.active ∧ s.inFlr 0 = false) := by decide

theorem test_hyp_queueEnds :
    (fresh5.fresh 5 1).isSome = true ∧ Octet.zero.get W.opcode = 0 ∧ fresh5.earlierDone 5 1 = true
      ∧ rings.qState 5 ≠ QS.error ∧ (let s := put rings [(F.qctx_STATE 5, 3)]
        s.qState 5 = QS.draining ∧ (s.que 5).taken = [] ∧ s.mtch.posts = [] ∧ s.mtch.bounds = [])
      ∧ rings.inFlr 0 = false ∧ rings.hostBusyBoot 0 = false
      ∧ (rings.setHost 0 fun h => { h with flr := [3] }).inFlr 3 = true := by decide

/-- Shaper 1 in force with ADD 64 and BURST 4,096, policer 2 likewise. -/
def buckets : State :=
  { (up.set (.shp 1 4) 0x8000006400000040).set (.shp 1 5) 4096 with
    metering := { policers := [(2, { en := true, period := 100, add := 64, burst := 4096, next := 50 })] } }

theorem test_hyp_refills : buckets.faults.due = [] ∧ buckets.shpOn 1 = true ∧ bits (buckets.get (.shp 1 4)) 63 63 = 1
    ∧ (let s := put buckets [(F.shp_PENDING 1, 1)]
       s.shpOn 1 = true ∧ s.on (F.shp_PENDING 1) = true ∧ bits (s.get (.shp 1 0)) 63 63 = 0)
    ∧ (buckets.policer 2).en = true ∧ (buckets.policer 2).next < 2 ^ 64 ∧ (buckets.policer 2).pending = false
    ∧ (buckets.policer 2).burst < 2 ^ 24 ∧ (buckets.policer 2).add < 2 ^ 24
    ∧ (let s : State := { buckets with metering := { policers := [(2, { en := true, pending := true })] } }
       (s.policer 2).pending = true ∧ s.on (F.ten_POL_EN 2) = false
         ∧ (put s [(F.ten_POL_EN 2, 1)]).on (F.ten_POL_EN 2) = true) := by decide

theorem test_hyp_shaperWrites :
    (bits (0x8000006300000040 : Word) 63 63 = 1 ∧ ¬(100 ≤ bits (0x8000006300000040 : Word) 51 32))
      ∧ periodOk true (bits (0x8000006400000040 : Word) 51 32) = true
      ∧ (up.winWrite pier 1 0 0 (.shp 0 0) 0x8000006400000040).2 = true
      ∧ ((up.winWrite pier 1 0 0 (.shp 0 0) 0x8000006400000040).1.shpOn 0 = false)
      ∧ ((put up [(F.shp_LIVE0 0, 2 ^ 63)]).winWrite pier 1 0 0 (.shp 0 0) 0x8000006400000040).2 = true
      ∧ ((put up [(F.shp_LIVE0 0, 2 ^ 63)]).winWrite pier 1 0 0 (.shp 0 0) 0x8000006400000040).1.shpOn 0 = true := by decide

theorem test_hyp_sampler : let s := put up [(F.smpCfg_EN, 1), (F.mtrCfg_EN, 1), (F.mtrCfg_INTERVAL, 1)]
    s.on F.smpCfg_EN = true ∧ s.halted = false ∧ s.metering.smpNext ≤ s.metering.smpEnd
      ∧ ({ s with metering := { smpNext := 5, smpEnd := 9 } } : State).metering.smpEnd = 9 ∧ (s.que 5).smpReset = false ∧ s.qDepth 5 < 2 ^ 21
      ∧ s.on F.mtrCfg_EN = true := by decide

/-- A full meter ring. -/
def meterFull : State := put up [(F.mtrCfg_LOG2SIZE, 6), (F.mtrPi_PI, 64)]

/-- A snapshot of tenant 3 captured at 1 s. -/
def caught (s : State) : State :=
  { s with metering := { s.metering with caught := [{ time := 1000000000, tenants := [3], meters := [] }] } }

theorem test_hyp_meterRing :
    (caught up).metering.caught = [{ time := 1000000000, tenants := [3], meters := [] }]
      ∧ (let s := put up [(F.mtrCfg_LOG2SIZE, 6), (F.mtrPi_PI, 62)]
         [3].length + 1 ≤ 2 ^ 6 - ringDepth 6 (s.rd F.mtrPi_PI) (s.rd F.mtrCi_CI) ∧ s.rd F.mtrCfg_LOG2SIZE = 6)
      ∧ 2 ^ 6 - ringDepth 6 (meterFull.rd F.mtrPi_PI) (meterFull.rd F.mtrCi_CI) < [3].length + 1 := by decide

/-- The meters run, and no boundary has been reached, or one is captured already. -/
def metering (s : State) : State := put s [(F.mtrCfg_EN, 1), (F.mtrCfg_INTERVAL, 1)]

theorem test_hyp_meterEdge :
    (metering up).on F.mtrCfg_EN = true ∧ (metering up).halted = false ∧ (metering up).meterEdge.metering.caught = []
      ∧ (metering (caught up)).meterEdge.metering.caught ≠ [] := by decide

/-- Context 0 of engine 0 runs at Firmware privilege, with a sketch of 16 instructions, an error handler at word 8, and
its engine's copies of the lines at offsets 0x40 (M) and 0x80 (M, poisoned). -/
def eng : State :=
  { put up [(F.ctxCfg_STATE 0, 1), (F.ctxCfg_LEVEL 0, 3), (F.ctxCfg_SKETCH 0, 5), (F.csr_REMAINING 0, 100), (F.csr_LIMIT 0, 200)]
    with sandbox := { slots := [(5, { valid := true, codeLen := 64, handlers := List.replicate 22 8 })] }
         coh := { l1 := [(1, [{ line := 1, st := .m, data := List.replicate 64 7 }]),
                         (2, [{ line := 2, st := .m, data := List.replicate 64 7, poison := true }])] } }

/-- The context's register 1 holds `x`, register 2 holds `y`. -/
def regs (s : State) (x y : Word) : State := (s.set (.g 0 1) x).set (.g 0 2) y

/-- `s` with the word of instruction `i` at the pc of context `c`, in the sketch cache of its engine. -/
def load (i : Instr) (s : State) (c : Nat := 0) : State :=
  s.setEng (ctxEng c) fun x => { x with
    code := [(s.codeAt c / 256, List.replicate (s.codeAt c % 256) 0 ++ bytesOf 4 ((insnWord i).getD 0))] }

/-- An instruction of each form of word (05 R144). -/
def forms : List Instr :=
  [.clz 0 3 1, .bfxS 0 3 1 31 32, .stB 0 2 1 0, .beq 0 1 2 3, .jal 0 3 5, .amoCas 0 3 1 2, .done 0, .hst 0 1 7, .csrWr 0 1 3,
    .qPop 0 3 1 2 (.failed []), .matchPost 0 3 1 2]

theorem test_hyp_issues : ∀ i ∈ forms,
    (load i eng).ctxRuns 0 = true ∧ (load i eng).codeWord 0 = insnWord i ∧ (insnWord i).isSome = true := by decide

theorem test_hyp_issues_add : (load (.add 0 3 1 2) (regs eng 1 5)).Issues 0 (insnWord (.add 0 3 1 2)) :=
  ⟨by decide, by decide, by decide, by decide⟩

theorem test_hyp_addresses :
    eng.engAddr 0 0x100 8 .read = .pal 0x100 ∧ eng.engAddr 0 0xFFFF 1 .write = .pal 0xFFFF ∧ eng.palBad 0x100 8 = false
      ∧ eng.engAddr 0 0x1000000000040 8 .read = .dev 0x40 ∧ eng.engAddr 0 0x1000000000040 8 .atomic = .dev 0x40
      ∧ (eng.l1Owned 0 1).isSome = true ∧ ((eng.l1Find 0 1).map (·.poison)) = some false
      ∧ ((eng.l1Find 0 2).map (·.poison)) = some true ∧ eng.engAddr 0 0x10000 1 .read = .bad
      ∧ eng.engAddr 0 0x10000 1 .write = .bad ∧ (0x101 : Nat) % 2 ≠ 0 ∧ eng.palFlawed 0x100 8 = false
      ∧ (∀ l ∈ [1, 2, 3], eng.l1Flawed 0 l = false) ∧ eng.l1Find 0 3 = none ∧ eng.l1Owned 0 3 = none := by decide

/-- The same with one bit in error in palette word 0x100, a correctable and an uncorrectable error in the lines, and a clean
line that an uncorrectable error takes away. -/
def flawed : State :=
  { eng with palEcc := [(0x100 / 8, ())]
             coh := { l1 := [(1, [{ line := 1, st := .m, data := List.replicate 64 7, ecc := 1 }]),
                             (2, [{ line := 2, st := .m, data := List.replicate 64 7, ecc := 2 }]),
                             (3, [{ line := 3, st := .e, data := List.replicate 64 7, ecc := 2 }])] } }

theorem test_hyp_flawed :
    flawed.palBad 0x100 8 = false ∧ flawed.palFlawed 0x100 8 = true ∧ (∀ l ∈ [1, 2, 3], flawed.l1Flawed 0 l = true)
      ∧ (((flawed.l1Check 0 1).l1Owned 0 1).map (·.poison)) = some false
      ∧ (((flawed.l1Check 0 2).l1Owned 0 2).map (·.poison)) = some true
      ∧ (flawed.l1Check 0 3).l1Find 0 3 = none ∧ (flawed.l1Check 0 3).l1Owned 0 3 = none := by decide

theorem test_hyp_fields : (31 : BitVec 6).toNat + (32 : BitVec 6).toNat < 64 ∧ 64 ≤ (32 : BitVec 6).toNat + (32 : BitVec 6).toNat := by
  decide

/-- Semaphore 7 held by context 0, semaphore 8 by another master. -/
def locks : State := put eng [(F.sem_HELD 7, 1), (F.sem_OWNER 7, 0x1000), (F.sem_HELD 8, 1), (F.sem_OWNER 8, 0x1008)]

theorem test_hyp_locks : locks.semHeld 6 = false ∧ locks.semClaims 6 = [] ∧ locks.semOwns 7 (ctxMst 0) = true
    ∧ locks.semHeld 8 = true ∧ locks.semOwns 8 (ctxMst 0) = false ∧ locks.faults.due = []
    ∧ (∀ a ∈ [0x40000 + 8 * 6, 0x48000 + 8 * 8, 0x40000 + 8 * 8], locks.gateOk (ctxMst 0) (regGateAddr a) 8 .read = true)
    ∧ locks.gateOk (ctxMst 0) (regGateAddr (0x50000 + 8 * 7)) 8 .write = true := by decide

theorem test_hyp_traps : eng.on (F.csr_TRAPPED 0) = false ∧ eng.handlerOf 0 20 = some 8
    ∧ (put eng [(F.csr_TRAPPED 0, 1)]).on (F.csr_TRAPPED 0) = true ∧ decodeInsn 0 (.failed []) 0 = none
    ∧ (put eng [(F.csr_REMAINING 0, 0)]).ctxRuns 0 = true ∧ (put eng [(F.csr_REMAINING 0, 0)]).rd (F.csr_REMAINING 0) = 0
    ∧ (put eng [(F.pc_PC 0, 64)]).rd (F.csr_REMAINING 0) ≠ 0 ∧ (put eng [(F.pc_PC 0, 64)]).ctxRuns 0 = true
    ∧ ((put eng [(F.pc_PC 0, 64)]).codeFill 0).codeWord 0 = none := by decide

/-- A fetch that misses fills from memory; a word there that is no instruction's. -/
theorem test_hyp_fetch : (eng.codeFill 0).codeWord 0 = some 0 ∧ (eng.codeFill 0).rd (F.csr_REMAINING 0) ≠ 0
    ∧ (put eng [(F.pc_PC 0, 64)]).pcOk 0 = false ∧ (load (.add 0 3 1 2) eng).codeWord 0 = insnWord (.add 0 3 1 2) := by decide

theorem test_hyp_levels : eng.ctxLevel 0 = 3 ∧ (put eng [(F.ctxCfg_LEVEL 0, 2)]).ctxLevel 0 = 2
    ∧ (∀ k ∈ List.range 8, 8 * (0 / 8) + k ≠ 0 → eng.ctxReady (8 * (0 / 8) + k) = false) := by decide

/-- A brush descriptor at palette key 0: 8 B from palette address 0x100 to palette address 0x200; with EV at key 32. -/
def brushes : State :=
  ((eng.palWrite 0 (bytesOf 8 0x100)).palWrite 8 (bytesOf 8 0x200)).palWrite 16 (bytesOf 8 8)

theorem test_hyp_finds : (brushes.issued 0).Finds 0 0 32 0 := ⟨by decide, by decide, by decide, by decide⟩

theorem test_hyp_brush :
    let u := brushes.issued 0
    let w := u.palWord 0 2
    brRes w = 0 ∧ brLen w = 8 ∧ brDstSp w ≠ 3 ∧ brSrcSp w ≤ 3
      ∧ u.brushEndOk 0 0 0x100 8 0 .read = (u, 0) ∧ u.brushEndOk 0 0 0x200 8 0 .write = (u, 0)
      ∧ (u.ctx 0).brushes.length < 16 ∧ ((brushes.ctx 0).brushes.all (·.quiet) = true) := by decide

/-- A brush of context 0 that runs: 8 B of a fill pattern to palette address 0x200. -/
def running (ev : Bool) (n : Nat) : State :=
  eng.setCtx 0 fun x => { x with brushes := (List.range n).map fun i =>
    { id := i, fill := some 5, src := 0, dst := 0x200, desc := if ev then 0x800000000008 else 8, tag := 9 } }

theorem test_hyp_brushFinish :
    (∀ ev ∈ [true, false],
      (((running ev 1).ctx 0).brushes.find? (·.id == 0)).map (fun b => (b.ending (.done []), b.quiet, brEv b.desc))
          = some (.done [], false, ev)
        ∧ ((running ev 1).ctx 0).stall = .none ∧ ((running ev 1).ctx 0).targeted.length < 32)
      ∧ 16 ≤ (((running true 16).issued 0).ctx 0).brushes.length := by decide

/-- A brush of context 0 from palette address 0x100, whose word there is sound or uncorrectable. -/
def reading (bad : Bool) : State :=
  { eng.setCtx 0 fun x => { x with brushes := [{ id := 0, fill := none, src := 0x100, dst := 0x200, desc := 8, tag := 9 }] }
    with palPoison := if bad then [(0x100 / 8, ())] else [] }

theorem test_hyp_brushFails :
    let b : Brush := { id := 0, fill := none, src := 0x100, dst := 0x200, desc := 8, tag := 9 }
    b.ending (.done []) = .done [] ∧ b.ending (.failed 3 []) = .failed 3 [] ∧ b.quiet = false
      ∧ ((reading true).ctx 0).brushes.find? (·.id == 0) = some b ∧ ((reading true).ctx 0).stall = .none
      ∧ ((reading true).brushSource 0 b []).2.2 = true ∧ ((reading false).brushSource 0 b []).2.2 = false := by decide

/-- The engine of `eng` beside the rings of `rings`, at Firmware privilege. -/
def engRings : State := { rings with regs := eng.regs ++ rings.regs, sandbox := eng.sandbox }

theorem test_hyp_queueUnit :
    let u := engRings.issued 0
    u.qRight 0 5 = true ∧ u.rd (F.qctx_TYPE 5) = 0 ∧ u.serves 5 = true ∧ u.qDepth 5 ≠ 0 ∧ u.cqActive 5 = true
      ∧ u.cqRoom 5 = true ∧ ((u.reserve (u.rd (F.qctx_CQ 5))).advanceCi 5).malReason 5 (Octet.ofByteList []) none = none
      ∧ u.ringEntry 5 (.data []) = (u, some (Octet.ofByteList []))
      ∧ u.rd (F.qctx_TYPE 7) = 3 ∧ ¬(u.qState 7 = QS.active ∧ u.qDepth 7 = 2 ^ u.qLog 7)
      ∧ bits (5 : Word) 63 41 = 0 ∧ u.qState (bits (5 : Word) 19 0) ≠ QS.disabled := by decide

theorem test_hyp_queueUnitStops :
    (put engRings [(F.qctx_PI 5, 0)]).qDepth 5 = 0 ∧ (put engRings [(F.qctx_RSV 6, 64)]).cqRoom 5 = false
      ∧ (let s := put engRings [(F.qctx_PI 7, 64)]
         s.qState 7 = QS.active ∧ s.qDepth 7 = 2 ^ s.qLog 7)
      ∧ ((put engRings [(F.qctx_STATE 5, QS.stalled)]).issued 0).qState 5 = QS.stalled
      ∧ (let u := (put engRings [(F.qctx_STATE 6, 0)]).issued 0
         u.serves 5 = true ∧ u.cqActive 5 = false) := by decide

/-- Ring 5 with an entry taken at index 3, for q.complete of the zero descriptor's index. -/
theorem test_hyp_complete :
    let u := (engRings.setQue 5 fun v => { v with taken := [{ id := 1, idx := 0, entry := Octet.zero }] }).issued 0
    bits (u.palWord 0x100 0) 47 21 = 0 ∧ bits (u.palWord 0x100 2) 63 52 = 0
      ∧ (((u.que 5).taken.find? fun t => t.idx == bits (u.palWord 0x100 0) 20 0 && t.res.isNone).isSome = true)
      ∧ u.rd (F.qctx_TYPE 5) ≠ 1 := by decide

/-- A DGRAM header of no payload, and a PUT header on connection 3. -/
def dgramHdr : Octet := { Octet.zero with w0 := 0xA500180000000000 }
def putHdr : Octet := { Octet.zero with w0 := 0xA500010000000000, w1 := 0xC000000000 }

theorem test_hyp_packets :
    headerOk dgramHdr = true ∧ ptOnConn (dgramHdr.get H.ptype) = false ∧ dgramHdr.get H.e2e ≠ 2
      ∧ headerOk putHdr = true ∧ ptOnConn (putHdr.get H.ptype) = true ∧ putHdr.get H.conn = 3
      ∧ (put eng [(F.conn_STATE 3, 1)]).connState 3 = CS.active
      ∧ (let u := (eng.setCtx 0 fun x => { x with outPkt := some { hdr := dgramHdr, payload := [], trailer := [] } }).issued 0
         (u.ctx 0).outPkt.isSome = true ∧ u.drainHolds { hdr := dgramHdr, payload := [], trailer := [] } = false ∧ u.sandboxOk 0 { hdr := dgramHdr, payload := [], trailer := [] } = true)
      ∧ ((eng.issued 0).ctx 0).outPkt = none ∧ ((eng.issued 0).window 0).get H.len ≤ 2048 := by decide

theorem test_hyp_inbound :
    let e : Event := { entry := 14, cls := 5, pkt := some { hdr := dgramHdr, payload := [], trailer := [] } }
    let s := ((eng.set (.h 0 0) dgramHdr.w0).setCtx 0 fun x => { x with inb := some e }).issued 0
    (s.ctx 0).inb = some e ∧ (s.ctx 0).handled = false ∧ s.isUser 0 = false ∧ headerOk (s.window 0) = true
      ∧ dgramHdr.get H.ptype ≠ PT.mixDown ∧ dgramHdr.get H.ptype ≠ PT.mcast
      ∧ ({ hdr := dgramHdr, payload := [], trailer := [] } : Packet).whole = true
      ∧ s.drainHolds { hdr := dgramHdr, payload := [], trailer := [] } = false := by decide

/-- A context stalled until the switch has room for its packet 7, which is still held, or no longer. -/
theorem test_hyp_room :
    let s := eng.setCtx 0 fun x => { x with stall := .room 3 7 }
    let t : State := { s with route := { held := [{ id := 4, pkt := { hdr := dgramHdr, payload := [], trailer := [] }, sender := some 7 }] } }
    (s.ctx 0).stall = .room 3 7 ∧ s.stallOver (s.ctx 0) = true ∧ s.carries 7 = false ∧ t.stallOver (t.ctx 0) = false
      ∧ t.carries 7 = true := by decide

/-- A packet of a tree that a context may forward down it. -/
theorem test_hyp_forwardTree :
    let h : Octet := (({ Octet.zero with w0 := BitVec.ofNat 64 (0xA5 * 2 ^ 56) } : Octet).set H.ptype PT.mixDown).set H.mclass 1
    let e : Event := { entry := 12, cls := 5, pkt := some { hdr := h, payload := [], trailer := [] } }
    let s := ((eng.set (.h 0 0) h.w0).setCtx 0 fun x => { x with inb := some e }).issued 0
    s.window 0 = h ∧ headerOk (s.window 0) = true ∧ h.get H.ptype = PT.mixDown ∧ (s.ctx 0).inb = some e := by decide

/-- A receive-post entry, and one of ring 4 as match.post reads it. -/
def recvE : Octet := { Octet.zero with w0 := 0x4000000000000000 }
def postE : Octet := { recvE with w6 := 4 }

/-- A posted receive of ring 4. -/
def posted : Post := { ord := 0, rq := 4, ridx := 0, mctx := 9, entry := recvE }

/-- Matching context 9 active, with one posted receive of receive-post ring 4 bound to completion ring 6; the ring holds
one more entry. -/
def matching : State :=
  (put engRings [(F.mtc_STATE 9, 1), (F.mtc_POSTED 9, 1), (F.qctx_TYPE 4, 1), (F.qctx_STATE 4, 1), (F.qctx_LOG2SIZE 4, 6),
      (F.qctx_CQ 4, 6), (F.qctx_EQ 4, 7), (F.qctx_MCTX 4, 9), (F.qctx_PI 4, 1)]).setMtch fun x => x.postsOf posted fun l => l ++ [posted]

/-- The key of matching context 9 at palette key 0, and an entry to post at palette key 256. -/
def keyed : State := (matching.palWrite 0 (bytesOf 8 0x900000000)).palWrite 256 postE.toByteList

theorem test_hyp_matching :
    let u := keyed.issued 0
    u.mctxRight 0 9 = true ∧ u.mtcActive 9 = true ∧ (u.keyWinner 0).isSome = true ∧ u.cqRoom 4 = true
      ∧ bits (u.palWord 0 0) 47 32 = 9 ∧ (eng.issued 0).keyWinner 0 = none := by decide

theorem test_hyp_matchPost :
    let u := keyed.issued 0
    let e := Octet.ofByteList (u.palRead 256 64)
    (256 % 8 = 0 ∧ u.palAddr 0 256 96 = .pal 256 ∧ u.palBad 256 64 = false)
      ∧ e.get RP.rq = 4 ∧ u.qRight 0 4 = true ∧ postEntryOk e = true ∧ u.rd (F.qctx_TYPE 4) = 1 ∧ u.qState 4 ≠ QS.disabled
      ∧ u.ringBound 4 = true ∧ u.rd (F.qctx_MCTX 4) = 9 ∧ u.ordStalled 9 = false ∧ u.firstUnexp 9 e = none ∧ u.postFree 9 = true
      ∧ u.cqActive 4 = true ∧ u.cqRoom 4 = true
      ∧ ({ u with mtch := { u.mtch with unexp := [{ u := 1, mctx := 9, hdr := Octet.zero, conn := none, rts := false }] } } : State).firstUnexp 9 e
          ≠ none := by decide

theorem test_hyp_popRecv :
    let u := matching.issued 0
    u.qRight 0 4 = true ∧ u.rd (F.qctx_TYPE 4) = 1 ∧ u.ringEntry 4 (.data recvE.toByteList) = (u, some recvE)
      ∧ recvReason recvE = none := by decide

theorem test_hyp_recv :
    matching.rd (F.qctx_TYPE 4) = 1 ∧ matching.serves 4 = true ∧ matching.qDepth 4 ≠ 0 ∧ matching.sketchServed 4 = false
      ∧ matching.ringBound 4 = true ∧ recvReason recvE = none ∧ (put matching [(F.mtc_TENANT 9, 5)]).ringBound 4 = false
      ∧ (matching.setMtch fun x => { x with unbound := x.unbound.filter (· ≠ 4) }).postRoom 4 (matching.rd (F.qctx_MCTX 4)) recvE = true := by
  decide

/-- Tree 3 active with one local contributor; it has an open contribution of a context of one 4 B element. -/
def mixing (data : List Byte) : State :=
  (put eng [(F.tree_STATE 3, 1), (F.tree_NLOCAL 3, 1), (F.tree_ROOT 3, 1)]).setTr 3 fun y => { y with
    taken := 1, contribs := [{ who := .ctx 0 17, inst := 0, idx := 0, coll := { kind := 0 }, len := 4, data := data, closed := false }] }

theorem test_hyp_mixer :
    let u := (mixing []).issued 0
    (3 : Nat) < 2 ^ 24 ∧ 1 * dtypeSize 0 = 4 ∧ u.isUser 0 = false ∧ u.treeActive 3 = true ∧ (u.tr 3).taken < 2 * u.nLocal 3
      ∧ (u.mixHandle 0 17).map (·.1) = some 3 ∧ (u.mixHandle 0 17).map (·.2.closed) = some false
      ∧ u.collPending 3 = 0 ∧ (0 : Nat) < ({ kind := 0 } : Coll).chunks 4
      ∧ (u.chunkNum 3 0 0).any (fun n => u.slotTakes 3 n) = true
      ∧ (((mixing [1, 2, 3, 4]).issued 0).mixHandle 0 17).map (fun x => decide (x.2.len ≤ x.2.data.length)) = some true := by decide

/-- The same of the next instance, whose chunk numbers are not known yet. -/
def mixingNext : State := (mixing []).setTr 3 fun y => { y with contribs := y.contribs.map fun z => { z with inst := 1 } }

/-- Every place of tree 3 is taken, a ring's contribution waits for one, or no chunk has a staging slot. -/
theorem test_hyp_mixerFull :
    let u := (mixing []).issued 0
    2 * u.nLocal 3 ≤ ((u.setTr 3 fun y => { y with taken := 2 }).tr 3).taken
      ∧ (u.setQue 5 fun v => { v with taken := [{ id := 1, idx := 0, entry := { Octet.zero with w0 := 0x0700000000000004, w7 := 3 } }] }).collPending 3 ≠ 0
      ∧ (let v := mixingNext.issued 0
         ((v.mixHandle 0 17).map fun x => (x.1, x.2.inst, x.2.closed)) = some (3, 1, false)
           ∧ (v.chunkNum 3 1 0).any (fun n => v.slotTakes 3 n) = false)
      ∧ ({ kind := 0 } : Coll).data = true ∧ ([] : List Byte).length < 4 := by decide

theorem test_hyp_timers :
    let s := eng.setCtx 0 fun x => { x with timers := [(2, 500)] }
    KMap.find (s.ctx 0).timers 2 = some 500 ∧ (s.ctx 0).targeted.length < 32 ∧ s.faults.due = []
      ∧ (put eng [(F.ctxCfg_LEVEL 0, 0)]).isUser 0 = true := by decide

theorem test_hyp_registers :
    up.waitsBehind pier = false ∧ isVf pier = false ∧ mstClass pier = 4
      ∧ (up.openReg 0x1000 0x20 .read).2 = false ∧ (up.openReg 0x1000 0x20 .write).2 = false
      ∧ up.palKey pier 3 = some 24 ∧ up.palBad 24 8 = false ∧ State.reset.hostBusyBoot 2 = true
      ∧ (∀ f ∈ [512, 513], State.reset.waitsBehind (fnMst f) = false) ∧ up.hostBusyBoot 2 = false ∧ up.pierBusy = false
      ∧ State.reset.pierBusy = true ∧ isVf (fnMst 513) = true ∧ up.fnAnswers 513 = true ∧ up.writeWaits (fnMst 513) = false
      ∧ (easel false).writeWaits (fnMst 3) = true ∧ (easel false).waitsBehind (fnMst 3) = true
      ∧ up.rd F.lcsState_STATE ≠ 3 ∧ up.openReg dbgMst 0x20 .read = (up, true) ∧ up.openReg dbgMst 0x20 .write = (up, true)
      ∧ up.debugGate 0x40 8 .write = (up, true)
      ∧ (let s := put up [(F.gteCtl_EN 5, 1)]
         (s.openReg dbgMst 0x20 .read).2 = false ∧ (s.openReg dbgMst 0x20 .write).2 = false ∧ (s.debugGate 0x40 8 .read).2 = false) := by
  decide

/-- Requests of a host port whose posted writes wait, on a port that takes them or is at a halt, and of the pier. -/
theorem test_hyp_hostRequests :
    (waits (.configRead 0)).hostBusyBoot 0 = false ∧ (waits (.configRead 0)).halted = false
      ∧ ((waits (.configRead 0)).host 0).held ≠ [] ∧ (up.host 0).held = [] ∧ up.halted = false ∧ up.fnAnswers 3 = true
      ∧ up.withheld 0 = false ∧ (waits (.configRead 0)).withheld 0 = true ∧ (put up [(F.fltHalt_HALTED, 1)]).halted = true
      ∧ (let s : State := { up with pier := { tunnel := true } }
         s.pier.tunnel = true ∧ s.pierBusy = false ∧ ({ s with boot := {} } : State).pierBusy = true) ∧ ({ up with pier := {} } : State).pier.tunnel = false := by
  decide

/-- HI of a watermark register is RW (02 R49), TRAPPED is W1C (05 R161), and FLAG is neither. -/
theorem test_hyp_accessCodes :
    let rw (r : Reg) := fieldMask r fun f => f.acc = .rw || (f.acc = .rwl && !false)
    let w1c (r : Reg) := fieldMask r fun f => f.acc = .w1c
    (rw (.wm 5)).getLsbD 32 = true ∧ (w1c (.wm 5)).getLsbD 32 = false ∧ (rw (.csr 0 0)).getLsbD 0 = false
      ∧ (w1c (.csr 0 0)).getLsbD 0 = true ∧ (rw (.csr 0 0)).getLsbD 63 = false ∧ (w1c (.csr 0 0)).getLsbD 63 = false := by
  decide

/-- Context 9 of engine 1 idle with sketch slot 5 loaded for Provider privilege. -/
def bindable : State := { up with sandbox := { slots := [(5, { valid := true, level := 2, codeLen := 64 })] } }

theorem test_hyp_context :
    let v : Word := 0x0800000500000000
    let on := setBits (setBits v 63 63 1) 62 62 0
    let new := accWrite (.ctxCfg 9) false (bindable.get (.ctxCfg 9)) on
    ctxEng 9 ≠ 16 ∧ bindable.on (F.ctxCfg_EN 9) = false ∧ bindable.ctxState 9 = XS.idle ∧ bindable.enRefused 9 new = false
      ∧ up.enRefused 9 new = true ∧ (bindable.cfgPut pier RK.reg (ctxCfgAddr 9) (.ctxCfg 9) (setBits new 63 63 1)).2 = true
      ∧ eng.ctxState 0 ≠ XS.idle ∧ ctxEng 128 = 16 ∧ up.atF 0x1008 = false ∧ up.openReg pier (ctxCfgAddr 9) .write = (up, true)
      ∧ (let w : Word := setBits v 62 62 1
         bits w 62 62 = 1 ∧ (bindable.cfgPut pier RK.reg (ctxCfgAddr 9) (.ctxCfg 9)
            (setBits (accWrite (.ctxCfg 9) false (bindable.get (.ctxCfg 9)) w) 63 63 0)).2 = true) := by decide

theorem test_hyp_mailbox :
    up.on F.wmbxStat_BUSY = false ∧ (put up [(F.wmbxStat_BUSY, 1)]).on F.wmbxStat_BUSY = true ∧ up.faults.due = []
      ∧ ({ up with sandbox := { running := some (9, []) } } : State).sandbox.running = some (9, []) := by decide

/-- An event of connection 3 waits for engine 51; the event stands in its queue; context 408 may take it. -/
def note : Event := { entry := 2, cls := 0, kind := 0, key := 3 }
def steered (s : State) : State := { s with sandbox := { s.sandbox with waiting := [note] } }
def queued (s : State) : State := s.setEng 51 fun x => { x with queue := [note] }
def taking : State :=
  put { up with sandbox := { slots := [(5, { valid := true, codeLen := 64, handlers := List.replicate 22 8 })] } }
    [(F.ctxCfg_EN 408, 1), (F.ctxCfg_LEVEL 408, 2), (F.ctxCfg_SKETCH 408, 5), (F.csr_MASK 408, 65535), (F.csr_LIMIT 408, 200)]

theorem test_hyp_steering :
    ((steered up).sandbox.waiting.find? fun x => (steered up).steerEngine x == 51 && (steered up).steerRoom 51 x) = some note
      ∧ up.halted = false ∧ (queued up).unservable 51 note = true ∧ (queued up).headOfKey 51 note = true
      ∧ (queued taking).unservable 51 note = false ∧ (queued taking).taker 51 note = some (408, false)
      ∧ (queued taking).headOfKey 51 note = true ∧ (taking.ctx 408).waitMask = none := by decide

/-- An entry of ring 5 for connection 3, taken and not started: of opcode `op` and OPMOD `mod`, 32 B. -/
def work (op mod : Nat) : Octet :=
  { Octet.zero with w0 := BitVec.ofNat 64 (op * 2 ^ 56 + mod * 2 ^ 40 + 32), w3 := 3 }
def working (s : State) (op mod : Nat) : State :=
  s.setQue 5 fun v => { v with taken := [{ id := 1, idx := 0, entry := work op mod }] }
def live : State := put rings [(F.conn_STATE 3, 1)]

theorem test_hyp_serves : ∀ op ∈ [1, 2, 3, 4, 5, 6, 7, 8], (working live op 0).Serves 5 1 op { id := 1, idx := 0, entry := work op 0 } := by
  intro op h
  simp only [List.mem_cons, List.not_mem_nil, or_false] at h
  obtain rfl | rfl | rfl | rfl | rfl | rfl | rfl | rfl := h <;> exact ⟨by decide, by decide, by decide, by decide⟩

theorem test_hyp_work :
    let t : Taken := { id := 1, idx := 0, entry := work 1 0 }
    let s := working live 1 0
    s.connLive 3 = true ∧ rings.connLive 3 = false ∧ (t.entry.get W.conn = 3)
      ∧ (s.source 5 t 32 (.data (List.replicate 32 1))).2 = .ready (List.replicate 32 1)
      ∧ (s.source 5 t 32 (.failed [1])).2 = .bad ST.localFault [1] ∧ 1 < s.connP 3
      ∧ (s.source 5 t 32 (.failed [])).2 = .bad ST.localFault [] ∧ (s.sink 5 t 32).2 = true ∧ s.sink 5 t 8 = (s, true)
      ∧ (s.keyAsk 3 1 2 (fnMst 0)).2 = true ∧ rings.connState 3 = CS.free ∧ live.connState 3 ≠ CS.free := by
  decide

/-- The four ways to read the local range of an entry (03 R84, R104). -/
theorem test_hyp_reads :
    let t (k : Nat) : Taken :=
      { id := 1, idx := 0, entry := { Octet.zero with w0 := BitVec.ofNat 64 (2 ^ 56 + k * 2 ^ 52 + 2), w4 := 0 }, pay := [7, 8, 9] }
    let s := put engRings [(F.alloc_EN 4096, 1), (F.alloc_LEN 4096, 16)]
    ((t 2).entry.get W.inline = 1 ∧ (t 2).pay.take 2 = [7, 8]) ∧ ((t 0).entry.get W.inline ≠ 1 ∧ (t 0).entry.get W.devmem ≠ 1)
      ∧ (t 1).entry.get W.inline ≠ 1 ∧ (t 1).entry.get W.devmem = 1
      ∧ s.devRange (s.rd (F.qctx_FUNC 5)) ((t 1).entry.get W.laddr) 2 .read = (s, true)
      ∧ (State.devPrefix (2 / 64 + 2) s ((t 1).entry.get W.laddr) 2).2 = ([0, 0], false) := by decide

/-- The device is number 7; function 0 serves tenant 0; event ring 7 stands; the pier's selects name connection 3,
canvas 900,000, matching context 9 and tree 3. -/
def sited : State :=
  { put rings [(F.rteCfg_DNV, 1), (F.rteCfg_DEVNUM, 7), (F.hptFnTen_EN 0 0, 1), (F.conn_LOCAL 3, 28), (F.conn_EQ 3, 7),
      (F.cvs_LENGTH 900000, 64), (F.tree_NLOCAL 3, 1), (F.tree_ROOT 3, 1), (F.tree_EQ 3, 7)]
    with pending := [] }
def picked (s : State) : State :=
  (((s.set (.sel 0x4000 .cnx) 3).set (.sel 0x4000 .cvs) 900000).set (.sel 0x4000 .mtc) 9).set (.sel 0x4000 .tree) 3

theorem test_hyp_windows :
    let s := picked sited
    let act : Word := setBits 0 63 61 CS.active
    s.selOf pier .cnx = 3 ∧ s.connState 3 = CS.free ∧ (s.plainWrite (.conn 3 1) 0).connState 3 = CS.free
      ∧ (s.plainWrite (.conn 3 0) (setBits act 63 61 0)).connOk 3 = true
      ∧ (up.plainWrite (.conn 3 0) (setBits act 63 61 0)).connOk 3 = false
      ∧ (put s [(F.conn_STATE 3, 1)]).connState 3 ≠ CS.free ∧ s.transientRange 900000 = false
      ∧ s.transientRange (s.rd F.mtcCfg_RNDV_BASE) = true ∧ s.rd (F.cvs_STATE 900000) = 0
      ∧ (s.plainWrite (.cvs 900000 0) (setBits (setBits 7 63 62 1) 63 62 0)).canvasOk 900000 = true
      ∧ (up.plainWrite (.cvs 900000 0) (setBits (setBits 7 63 62 1) 63 62 0)).canvasOk 900000 = false
      ∧ (put s [(F.cvs_STATE 900000, 1)]).rd (F.cvs_STATE 900000) ≠ 0 ∧ s.mtcActive 9 = false
      ∧ (let u := s.plainWrite (.mtc 9 0) (setBits (setBits 7 63 62 1) 63 62 0)
         u.eqOfTenant (u.rd (F.mtc_EQ 9)) (u.rd (F.mtc_TENANT 9)) = true ∧ u.eqOfTenant 6 0 = false)
      ∧ matching.mtcActive 9 = true ∧ matching.rd (F.mtc_POSTED 9) ≠ 0
      ∧ s.rd (F.tree_STATE 3) = 0 ∧ (mixing []).rd (F.tree_STATE 3) ≠ 0 := by decide

/-- The words of a connection at device 7 and of a tree of one local contributor are accepted as they stand. -/
theorem test_hyp_activations :
    (picked sited).connOk 3 = true ∧ (picked sited).treeOk 3 = true ∧ up.treeOk 3 = false
      ∧ ((picked sited).cfgPut pier RK.win (winAddr 5 0 3) (.tree 3 0) 0x4000000000000000).2 = true := by decide

/-- Connection 3 with an unacknowledged arrival since 5 ns and a packet sent at 7 ns that was refused. -/
def flowing : State :=
  live.setCx 3 fun c => { c with
    rx0 := { c.rx0 with fresh := 1, firstAt := some 5 }
    tx0 := { c.tx0 with rto := 100, copies := [{ seq := 4, pkt := { hdr := putHdr, payload := [], trailer := [] }, sentAt := 7, nrDue := some 90 }] } }

theorem test_hyp_connTimers :
    flowing.halted = false ∧ flowing.draining = false ∧ flowing.connLive 3 = true ∧ ((flowing.cx 3).rx false).firstAt = some 5
      ∧ flowing.rtoDue 3 false = some 107 ∧ ((flowing.cx 3).tx0.copies.find? fun x => x.seq == 4).bind (·.nrDue) = some 90
      ∧ ptOnConn (putHdr.get H.ptype) = true := by decide

theorem test_hyp_connArrival :
    let p : Packet := { hdr := putHdr, payload := [], trailer := [] }
    let h : Held := { id := 1, pkt := p, mark := true, inPort := some 127 }
    flowing.arrivedOf p = none ∧ ({ flowing with route := { flowing.route with arrived := [h] } } : State).arrivedOf p = some h
      ∧ ({ flowing with route := { flowing.route with arrived := [h] } } : State).arrivedBy p none = some 127 := by decide

/-- Connection 3 in service, with one transient canvas. -/
def wide : State := put live [(F.mtcCfg_RNDV_BASE, 40), (F.mtcCfg_RNDV_COUNT, 1)]

theorem test_hyp_sends :
    let t : Taken := { id := 1, idx := 0, entry := work 5 0 }
    let s := working wide 5 0
    t.entry.get W.len ≤ s.eagerLimit 3 ∧ ¬((work 5 1).get W.opmod = 0) ∧ (work 5 1).get W.devmem = 0
      ∧ (s.source 5 t 32 (.data (List.replicate 32 1))).2 = .ready (List.replicate 32 1)
      ∧ (working wide 5 1).fresh 5 1 = some { id := 1, idx := 0, entry := work 5 1 }
      ∧ ((working wide 5 1).rndvGo 5 3 { id := 1, idx := 0, entry := work 5 1 }).isSome = true := by decide

/-- No canvas is left for a transfer: the one of the range is in use. -/
theorem test_hyp_rndvWaits :
    let s := put wide [(F.cvs_STATE 40, 1)]
    let t : Taken := { id := 1, idx := 0, entry := work 5 1 }
    s.rndvGo 5 3 t = none
      ∧ (let w := (working wide 5 1).setMtch fun x => { x with waits := [(5, 1)] }
         (5, 1) ∈ w.mtch.waits ∧ w.halted = false ∧ w.taken 5 1 = some t ∧ t.res = none ∧ (w.rndvGo 5 3 t).isSome = true) := by
  decide

/-- A COLL entry of ring 5 on tree 3, of kind `k`. -/
def collE (k : Nat) : Octet := { Octet.zero with w0 := 0x0700000000000004, w7 := BitVec.ofNat 64 (k * 2 ^ 60 + 3) }
def colling (k : Nat) : State :=
  (put rings [(F.tree_STATE 3, 1), (F.tree_NLOCAL 3, 1), (F.tree_ROOT 3, 1)]).setQue 5 fun v => { v with
    taken := [{ id := 1, idx := 0, entry := collE k }] }

theorem test_hyp_coll :
    (∀ k ∈ [2, 4, 0], (colling k).fresh 5 1 = some { id := 1, idx := 0, entry := collE k } ∧ (collE k).get W.opcode = 7
      ∧ (colling k).turnOf 5 1 = true ∧ collTree (collE k).w7 = 3 ∧ collKind (collE k).w7 = k)
      ∧ (colling 2).treeActive 3 = true ∧ rings.treeActive 3 = false
      ∧ (colling 2).rd (F.tree_TENANT 3) = (colling 2).rd (F.qctx_TENANT 5)
      ∧ (put (colling 2) [(F.tree_TENANT 3, 9)]).rd (F.tree_TENANT 3) ≠ (colling 2).rd (F.qctx_TENANT 5)
      ∧ (colling 4).isRoot 3 = true ∧ (colling 2).nLocal 3 ≠ 0 ∧ ((colling 2).tr 3).taken < 2 * (colling 2).nLocal 3
      ∧ (colling 2).collTurn 3 1 = true ∧ (colling 2).collSink 5 3 (collE 2) { kind := 2 } false = (colling 2, true)
      ∧ ({ kind := 2 } : Coll).data = false ∧ ({ kind := 0 } : Coll).data = true := by decide

/-- A TREE_WRITE entry of the firmware control ring. -/
theorem test_hyp_treeWrite :
    let e : Octet := { Octet.zero with w0 := 0x8800000000000040, w2 := 0x400 }
    let s := (put up [(F.qctx_STATE 0, 1)]).setQue 0 fun v => { v with taken := [{ id := 1, idx := 0, entry := e }] }
    s.fresh 0 1 = some { id := 1, idx := 0, entry := e } ∧ e.get W.opcode = 0x88 ∧ s.turnOf 0 1 = true
      ∧ (s.devRead (e.get W.laddr) 64).2.2 = false := by decide

/-- A tree packet of type `t` and OPMOD `m` of tree 3 from endpoint 40, which is child 0, or the parent of a node that is no root. -/
def treeP (t m : Nat) : Packet :=
  { hdr := { Octet.zero with
      w0 := BitVec.ofNat 64 (0xA5 * 2 ^ 56 + t * 2 ^ 40 + 40 * 2 ^ 20), w1 := 3 * 2 ^ 12, w3 := BitVec.ofNat 64 (m * 2 ^ 48 + 4 * 2 ^ 12) }
    payload := [], trailer := [] }
def node (root : Bool) : State :=
  put up ([(F.tree_STATE 3, 1), (F.tree_NLOCAL 3, 1)] ++ if root then [(F.tree_ROOT 3, 1), (F.tree_NCHILD 3, 1)] else [(F.tree_PARENT 3, 40)])

theorem test_hyp_treePackets :
    (treeP PT.mixUp 0).get H.tree = 3 ∧ (treeP PT.mixUp 0).crcOk = true ∧ (node true).treeTakes 3 (treeP PT.mixUp 0) = true
      ∧ up.treeTakes 3 (treeP PT.mixUp 0) = false ∧ (node true).childOf 3 (treeP PT.mixUp 0) = none
      ∧ (treeP PT.mixUp 0xC0).get H.opmod / 64 = 3 ∧ (treeP PT.mixUp 0x10).get H.opmod / 16 % 2 = 1
      ∧ (node true).fromParent 3 (treeP PT.mixDown 0) = false ∧ (node false).fromParent 3 (treeP PT.mixDown 0) = true
      ∧ (treeP PT.mixDown 0x40).get H.opmod / 64 ≠ 0 ∧ (keyColl (treeP PT.mcast 0)).kind = 4 := by decide

theorem test_hyp_treeChild :
    let s := (node true).set (.tree 3 4) 0
    ((List.range 16).any fun w => ((node true).set (.tree 3 w) (BitVec.ofNat 64 40)).childOf 3 (treeP PT.mixUp 0) == some 0) = true
      ∧ s.halted = false ∧ s.draining = false ∧ (mixing []).treeOpen 3 = true ∧ (mixing []).treeActive 3 = true := by decide

/-- A held packet, a flagged packet, and an arrived datagram of tenant 2. -/
def heldP : Held := { id := 4, pkt := { hdr := dgramHdr, payload := [], trailer := [] } }

theorem test_hyp_routing :
    let s : State := { up with route := { held := [heldP], flagged := [heldP] } }
    s.heldOf 4 = some heldP ∧ heldP.ferry = false ∧ heldP.pkt.get H.ferry ≠ 1
      ∧ (s.route.flagged.find? (·.id == 4)) = some heldP ∧ heldP.behind.any s.unsacked = false ∧ s.mayInjectRequest = true
      ∧ heldP.pkt.get H.ptype = PT.dgram ∧ heldP.pkt.crcOk = true
      ∧ ({ heldP.pkt with hdr := heldP.pkt.hdr.set H.e2e 1, trailer := [1] } : Packet).crcOk = false
      ∧ (s.unarrive heldP.pkt).policed 0 = false
      ∧ (∀ a ∈ [1, 2], let u := put { s with metering := { policers := [(0, { en := true })] } } [(F.ten_DG_ACT 0, a)]
          (u.unarrive heldP.pkt).policed 0 = true ∧ (u.unarrive heldP.pkt).rd (F.ten_DG_ACT 0) = a) := by decide

/-- A packet held here for device 10, in this group by port 5, which has credit for it, or not. -/
def away : Held := { id := 4, pkt := { hdr := dgramHdr.set H.dst 40, payload := [], trailer := [] } }
def switching (credit : Nat) : State :=
  { put up [(F.rteCfg_DNV, 1), (F.rteMem_VALID 0 10, 1), (F.rteMem_NLOC 0 10, 1), (F.rteMem_LPORT0 0 10, 5), (F.rtePort_ROLE 5, 1),
      (F.rtePort_UP 5, 1), (F.lnkCredit_LIMIT 5 0, credit)] with route := { held := [away] } }

theorem test_hyp_winOutput :
    let s := switching 100
    let r := s.routeOf (s.phase2 away.pkt)
    s.heldOf 4 = some away ∧ away.twin = none ∧ s.on F.rteCfg_DNV = true ∧ s.here 0 = true ∧ s.here 40 = false
      ∧ r.2 = .out { port := 5, cost2 := 0 } 0 ∧ r.1.bestVc 5 0 = 0 ∧ r.1.mayWin away 5 0 away.pkt.units = some false
      ∧ r.1.rivals away 5 0 = [] ∧ r.1.landRivals away 5 0 = [] ∧ r.1.beaten away 5 0 = false ∧ away.pkt.get H.hops ≠ 7
      ∧ away.inPort = none ∧ s.behindFrame away = false
      ∧ ({ away with inPort := some 5, ecc := 2 } : Held).inPort = some 5
      ∧ (let t := switching 0
         (t.routeOf (t.phase2 away.pkt)).1.mayWin away 5 0 away.pkt.units = none) := by decide

/-- The pier's select names word 0 of member 10 of a bank: 1, which is not active, or 0, which is. -/
theorem test_hyp_routeTable :
    let s (b : Nat) : State := up.set (.sel 0x4000 .rte) (BitVec.ofNat 64 (b * 2 ^ 17 + 2 ^ 16 + 10))
    let sel (b : Nat) : Nat := (s b).selOf pier .rte
    (sel 1 = 0x3000A ∧ sel 0 = 0x1000A ∧ sel 0 % 4096 < 64 ∧ up.rd F.rteCfg_BANK = 0)
      ∧ ((s 1).winWrite pier 4 0 (sel 1) (.rteMem 1 10 0) (1 <<< 63)).2 = true
      ∧ (s 0).get (.rteMem 0 10 0) = accWrite (.rteMem 0 10 0) false ((s 0).get (.rteMem 0 10 0)) 0
      ∧ (s 0).get (.rteMem 0 10 0) ≠ accWrite (.rteMem 0 10 0) false ((s 0).get (.rteMem 0 10 0)) (1 <<< 63)
      ∧ bits (BitVec.ofNat 64 (sel 1)) 17 17 ≠ up.rd F.rteCfg_BANK := by decide

theorem test_hyp_mgmtArrival :
    (up.unarrive { hdr := { Octet.zero with w0 := 0xA500200000000000 }, payload := [], trailer := [] }).mgmtVia 0 (some 5) = none
      ∧ (put up [(F.rtePort_ROLE 5, 3)]).mgmtVia 0 (some 5) = some 8
      ∧ ({ Octet.zero with w0 := 0xA500200000000000 } : Octet).get H.ptype = PT.mgmt := by decide

theorem test_hyp_portLoop :
    let s := (put up [(F.rteLoop_EN 5, 1)]).setPort 5 fun p => { p with aligned := true }
    (s.port 5).aligned = true ∧ s.halted = false ∧ s.on (F.rteLoop_EN 5) = true
      ∧ (put s [(F.rteLoop_FREEZE 5, 1)]).on (F.rteLoop_FREEZE 5) = true ∧ s.mayControl 5 = true
      ∧ ((s.setPort 5 fun p => { p with ctl := [CD.tide] }).port 5).ctl = [CD.tide]
      ∧ s.rd (F.rteLoop_BIAS_MIN 5) ≤ s.rd (F.rteLoop_BIAS 5) ∧ s.rd (F.rteLoop_BIAS 5) ≤ s.rd (F.rteLoop_BIAS_MAX 5)
      ∧ bits (s.get (.rteLoop 5)) 57 54 ≤ bits (s.get (.rteLoop 5)) 53 50 := by decide

/-- Port 5 a SERVICE port that is up with credit on every VC. -/
def service : State :=
  put up ([(F.rtePort_ROLE 5, 3), (F.rtePort_UP 5, 1)] ++ (List.range 8).map fun v => (F.lnkCredit_LIMIT 5 v, 100))

/-- A management command that came by port 5, a SERVICE port that is up with credit on VC 0. -/
def asker : MgmtReq := { via := 8, port := some 5, src := 40, mtag := 9 }
def asked (body : List Byte) : State :=
  { service with
    route := { mgmt := [{ req := asker, body := body }] } }

/-- The state once the command has been taken. -/
def rest : State := { service with route := { mgmt := [] } }

/-- A payload that spells a command is its own. -/
theorem asked_some (spells : List Byte → Bool) (body : List Byte) (h : spells body = true) :
    (asked body).asked asker spells = some { req := asker, body := body } := by
  unfold State.asked
  have hm : (asked body).route.mgmt = [{ req := asker, body := body }] := rfl
  rw [hm]
  simp [h]

theorem asked_rest (spells : List Byte → Bool) (body : List Byte) (h : spells body = true) : (asked body).forgotten asker spells = rest := by
  unfold State.forgotten
  rw [asked_some spells body h]
  unfold State.unasked
  have hm : (asked body).route.mgmt.erase { req := asker, body := body } = [] := by
    show [({ req := asker, body := body } : MgmtAsk)].erase _ = []
    simp
  simp only [hm]
  rfl

theorem test_hyp_answers (spells : List Byte → Bool) (body : List Byte) (h : spells body = true) (n : Nat) :
    (asked body).Answers asker spells n := by
  refine ⟨by rw [asked_some spells body h]; rfl, (by decide : rest.halted = false), ?_⟩
  rw [asked_rest spells body h]
  have hp : rest.mgmtPort asker = some 5 := by decide
  have hu : rest.portUp 5 = true := by decide
  have hr : ∀ h v, rest.roomAt h 5 v = true := by
    intro h v
    unfold State.roomAt
    split <;> rfl
  have hv : ∀ v < 8, rest.credit 5 v = 100 := by decide
  have hc : ∀ k < 2, rest.credit 5 (rest.bestVc 5 k) = 100 := by
    intro k h
    refine hv _ ?_
    simp only [State.bestVc]
    split <;> (try split) <;> omega
  have hk : ∀ p : Packet, p.get H.mclass < 2 := by
    intro p
    unfold Packet.get Octet.get bits
    exact Nat.mod_lt _ (by decide)
  have hn : (rest.mgmtPacket asker 0 0 (List.replicate n 0)).units ≤ 100 := by unfold Packet.units; omega
  unfold State.leavesNow
  rw [hp]
  simp only [State.mayWin, hu, hr, State.mayCharge, hc _ (hk _), if_pos hn, if_true, Option.isSome_some, Bool.and_self]

/-- Payloads that spell READ_REG and WRITE_REG of address 0x20, the plain commands, and FWCTL with an entry (10 R348). -/
theorem test_hyp_says :
    saysReg 1 0x20 (bytesOf 8 (2 ^ 56) ++ bytesOf 8 0x20) = true
      ∧ saysWrite 0x20 5 (bytesOf 8 (2 * 2 ^ 56) ++ bytesOf 8 0x20 ++ bytesOf 8 5) = true
      ∧ (∀ c ∈ [3, 4, 5, 6], saysPlain c (bytesOf 8 (c * 2 ^ 56)) = true)
      ∧ saysEntry recvE [1] (bytesOf 8 (7 * 2 ^ 56) ++ bytesOf 8 0 ++ recvE.toByteList ++ [1]) = true := by decide

theorem test_hyp_fabricManager :
    let s := rest
    (s.openReg (mgmtMst asker) 0x20 .read).2 = true ∧ (s.openReg (mgmtMst asker) 0x20 .write).2 = true
      ∧ s.malReason 0 Octet.zero none = none ∧ (s.malReason 0 { Octet.zero with w0 := 0xFF00000000000000 } none).isSome = true
      ∧ s.qState 0 ≠ QS.active
      ∧ (let t := put s [(F.qctx_STATE 0, 1)]; t.qState 0 = QS.active ∧ t.qDepth 0 ≠ 2 ^ t.qLog 0)
      ∧ s.rd F.rteCfg_DSTATE = 0 ∧ (put s [(F.rteCfg_DSTATE, 1)]).rd F.rteCfg_DSTATE = 1 ∧ s.draining = false := by decide

/-- Port 5 up and aligned, with one packet that won it and one frame to be acknowledged. -/
def item : TxItem := { pkt := heldP.pkt, mark := false, pool := false, vc := 0, before := dgramHdr }
def linked : State :=
  (put up [(F.rtePort_UP 5, 1), (F.lnkStat_NEXT 5, 1), (F.lnkGlbCfg_TEN, 1)]).setPort 5 fun p => { p with
    aligned := true, txq := [item], creditDirty := true, replay := [{ fseq := 0, pkt := heldP.pkt, mark := false, pool := false }] }
def portWith (f : Port → Port) : State := linked.setPort 5 f

theorem test_hyp_links :
    linked.receives 5 = true ∧ (linked.port 5).txq = [item] ∧ linked.portUp 5 = true ∧ (linked.port 5).retrain = none
      ∧ linked.replayRoom 5 item.pkt = true ∧ 0 < serialSub 16 1 (linked.rd (F.lnkStat_RMARK 5))
      ∧ serialSub 16 1 (linked.rd (F.lnkStat_RMARK 5)) ≤ serialSub 16 (linked.rd (F.lnkStat_NEXT 5)) (linked.rd (F.lnkStat_RMARK 5))
      ∧ (linked.port 5).replay.isEmpty = false ∧ ((portWith fun p => { p with txq := [] }).port 5).creditDirty = true
      ∧ linked.on F.lnkGlbCfg_TEN = true
      ∧ ((portWith fun p => { p with retrain := some { rseq := 0, began := 3, initiator := true } }).port 5).retrain
          = some { rseq := 0, began := 3, initiator := true }
      ∧ ((portWith fun p => { p with patternAt := some 3 }).port 5).patternAt = some 3
      ∧ ((portWith fun p => { p with retrain := some { rseq := 0, began := 3, initiator := true, training := true } }).port 5).retrain.map (·.training)
          = some true
      ∧ (up.setPort 5 fun p => { p with aligned := true, creditSeen := true }).mayComeUp 5 = true := by decide

/-- Port 5 in phase `p`, with lane 0 in alignment and block lock. -/
def lanes (p : Nat) : State := put up [(F.prtStat_PSTATE 5, p), (F.lneStat_ALOCK 5 0, 1), (F.lneStat_BLOCK 5 0, 1)]

/-- The peer's record names width 1 on physical lane 0, which the alignment block of fibre 0 shows. -/
def placed : State := (lanes 2).setPort 5 fun p =>
  { p with peerWords := { w2 := 0x1000 }, aligns := [(0, alignOf (alignBlock 0 0 200).payload)] }

/-- A control frame's 60 B and its CRC, or the CRC's complement (11 R363, R364), with byte 7 that of a data frame. -/
def frame60 : List Byte := List.replicate 7 0 ++ [0xA5] ++ List.replicate 52 0
def frame64 (stomp : Bool) : List Byte := frame60 ++ bytesOf 4 (if stomp then ~~~crc32c frame60 else crc32c frame60).toNat

theorem test_hyp_frameSeen :
    (∀ e ∈ [true, false], seenFrame { err := e, cut := false } (frame64 false) = some (frame64 false))
      ∧ crcVerdict (frame64 false) = .good ∧ crcVerdict (frame64 true) = .stomped ∧ crcVerdict [] = .bad
      ∧ ((frame64 false).getD 7 0).toNat = 0xA5 ∧ ((frame64 true).getD 7 0).toNat = 0xA5 := by decide

/-- A timer that has expired or not, data ready or not, one control frame due, and a retrain at each point of its course. -/
theorem test_hyp_linkTimers :
    (linked.port 5).expired = false ∧ ((portWith fun p => { p with expired := true }).port 5).expired = true
      ∧ linked.dataReady 5 = true ∧ (portWith fun p => { p with txq := [] }).dataReady 5 = false ∧ (linked.port 5).aligned = true
      ∧ ((portWith fun p => { p with creditDirty := false }).port 5).creditDirty = false
      ∧ (∀ k ∈ [CD.lane, CD.nak, CD.time, CD.tide, CD.credit], CD.lane ≤ k ∧ k ≤ CD.credit
          ∧ ((portWith fun p => { p with ctl := [k], nakDue := true }).port 5).ctl = [k])
      ∧ ((portWith fun p => { p with nakDue := true }).port 5).nakDue = true
      ∧ (let r : Retrain := { rseq := 0, began := 3, initiator := true, accepted := true, training := true, prbs := 2 }
         let s := placed.setPort 5 fun p => { p with retrain := some r }
         (s.port 5).retrain = some r ∧ s.lanesReady 5 = true ∧ s.now ≤ s.retrainLimit 5 r
           ∧ s.retrainLimit 5 r < ({ s with clock := { now := 10 ^ 9 } } : State).now)
      ∧ (let r : Retrain := { rseq := 0, began := 3, initiator := true }
         r.training = false ∧ r.accepted = false ∧ r.initiator = true) := by decide

/-- Control frames of each kind (11 R369), and one of another mark. -/
theorem test_hyp_controlFrames :
    (∀ k ∈ [0, 1, 2, 3, 4, 15], bits (BitVec.ofNat 64 (0x5C * 2 ^ 56 + k * 2 ^ 52)) 55 52 = k)
      ∧ bits Octet.zero.w0 63 56 ≠ 0x5C ∧ controlVerdict Octet.zero = .bad
      ∧ (linked.port 5).creditDirty = true ∧ (linked.port 5).txq ≠ [] := by decide

theorem test_hyp_announcement :
    let s := put up [(F.lnkTimeStat_GM, 0), (F.lnkTimeStat_DIST, 1), (F.lnkTimeStat_PARENT, 5), (F.rtePort_UP 5, 1), (F.lnkTimeStat_FREERUN, 0)]
    let note : TimeNote := { tx := 0, atTim := 0, prio := 0, dist := 0, dnv := true, dev := 1, uid := 2 }
    s.on F.lnkTimeStat_GM = false ∧ s.on F.lnkTimeStat_FREERUN = false ∧ s.rd F.lnkTimeStat_DIST ≠ 0
      ∧ s.announcement (s.rd F.lnkTimeStat_PARENT) = none
      ∧ (s.setPort 5 fun p => { p with time := some note }).announcement 5 = some note := by decide

theorem test_hyp_lanes :
    (lanes 1).on (F.lneStat_ALOCK 5 0) = true ∧ (lanes 1).on (F.lneStat_BLOCK 5 0) = true ∧ (lanes 1).halted = false
      ∧ (put (lanes 1) [(F.lneStat_BLOCK 5 0, 0)]).on (F.lneStat_BLOCK 5 0) = false
      ∧ (lanes 1).rd (F.lneStat_RXHEALTH 5 0) = LC.none ∧ (put (lanes 1) [(F.lneStat_RXHEALTH 5 0, 2)]).rd (F.lneStat_RXHEALTH 5 0) ≠ LC.none
      ∧ (lanes 1).rd (F.prtStat_PSTATE 5) = 1 ∧ (lanes 2).rd (F.prtStat_PSTATE 5) = 2 ∧ ((lanes 2).port 5).pend = none
      ∧ placed.rd (F.prtStat_PSTATE 5) = 2 ∧ placed.lanesReady 5 = true ∧ (lanes 1).hunting = true
      ∧ (lanes 3).rd (F.prtStat_PSTATE 5) = 3 ∧ (lanes 4).rd (F.prtStat_PSTATE 5) = 4
      ∧ (let hs := Vector.replicate 64 (1 : BitVec 2)
         ((lanes 1).headersOn ⟨5, 0, []⟩ hs).length = 64 ∧ (∀ h ∈ (lanes 1).headersOn ⟨5, 0, []⟩ hs, headerValid h = true))
      ∧ 16 ≤ (((lanes 1).headersOn ⟨5, 0, []⟩ (Vector.replicate 64 0)).filter fun h => !headerValid h).length
      ∧ (let s := put (lanes 3) [(F.prtCfg_QUIESCE 5, 1)]
         s.on (F.prtCfg_QUIESCE 5) = true ∧ s.rd (F.lnkStat_RMARK 5) = s.rd (F.lnkStat_NEXT 5) ∧ (s.port 5).txq = []
           ∧ s.rd (F.prtStat_PSTATE 5) ≠ 5 ∧ s.route.landing = [] ∧ s.ferryAwaits 5 = false) := by decide

/-- AMARK is found with no bit or six bits in error, not with seven; headers 01 and 10 are valid. -/
theorem test_hyp_blocks :
    amarkFound (alignBlock 3 1 200).payload = true ∧ amarkFound ((alignBlock 3 1 200).payload ^^^ 0x3F00000000) = true
      ∧ amarkFound ((alignBlock 3 1 200).payload ^^^ 0x7F00000000) = false
      ∧ headerValid 1 = true ∧ headerValid 2 = true ∧ headerValid 0 = false ∧ headerValid 3 = false
      ∧ ((List.replicate 16 (0 : BitVec 2) ++ List.replicate 48 1).filter fun h => !headerValid h).length = 16 := by decide

/-- A lane record under its CRC, and the four blocks that carry it, scrambled behind a history of zeros. -/
def laneRec : Octet :=
  let r : Octet := { Octet.zero with w0 := 0x4C52000000000000, w1 := 9 }
  { r with w7 := BitVec.ofNat 64 ((crc32c (r.toByteList.take 56)).toNat * 2 ^ 32) }
def laneRecBlocks : List Block :=
  let d := (scramble 0 (bitsOf 512 (ofBytes laneRec.toByteList))).1
  (List.range 4).map fun k => { header := 2, payload := BitVec.ofNat 128 (bitsNat ((d.drop (128 * k)).take 128)) }

theorem test_hyp_laneRecord : recordOk laneRec = true ∧ recordOf 0 laneRecBlocks = some laneRec := by decide

/-- Module 2 present and lit, emitter 3 at position 4, challenged at 9 ns. -/
def lit : State :=
  (put up [(F.lmpStat_PRESENT 2, 1), (F.lmpCfg_LOOP_EN 2, 1), (F.lmpEmit_ESTATE 2 3, 1), (F.lmpEmit_POS 2 3, 4)]).setLamp 2 fun x =>
    { x with en := true, askedAt := some 9 }

theorem test_hyp_lamps :
    (lit.lamp 2).askedAt = some 9 ∧ (lit.lamp 2).en = true ∧ lit.on (F.lmpStat_PRESENT 2) = true
      ∧ ((lit.setLamp 2 fun x => { x with en := false }).lamp 2).en = false ∧ lit.on (F.lmpCfg_LOOP_EN 2) = true
      ∧ lit.on (F.lmpCfg_FREEZE 2) = false ∧ lit.emitterAt 2 4 = some 3 ∧ lit.rd (F.lmpEmit_BIAS 2 3) ≤ lit.biasRated 2 := by decide

/-- A request of engine 1's context 0 for line 6, and its home with a transaction open, or a reservation for another. -/
def req : CohReq := { line := 6, req := 0x1008, since := 0, nacks := 2 }
def other : CohReq := { line := 6, req := 0x1010, since := 0, nacks := 9 }
def homed (t : Option Txn) : State :=
  { up with coh := { dir := [(6, { line := 6, way := 0, st := some .x, owner := 1, txn := t })]
                     l1 := [(64 + 6, [{ line := 6, st := .m, data := List.replicate 64 3 }])]
                     lineResv := [(6, { req := other, made := 10 })], setResv := [(dirSetKey 6, { req := other, made := 20 })]
                     backoffs := [{ kind := .gets, req := req, due := 50 }]
                     wb := [{ eng := 1, line := 9, st := .m, data := [], poison := false }] } }

theorem test_hyp_coherence :
    let s := homed (some { kind := .gets, req := req, acks := 2 })
    barred (s.coh.lineResv.find 6) req = true ∧ barred (up.coh.lineResv.find 6) req = false
      ∧ (s.dir 6).map (fun d => (d.txn.isSome, d.evict, d.owner)) = some (true, 0, 1) ∧ (s.l1Find 1 6).isSome = true
      ∧ s.wbInFlight 1 6 = false ∧ s.wbInFlight 1 9 = true ∧ (s.coh.backoffs.find? fun b => sameReq b.req req).isSome = true
      ∧ ((homed (some { kind := .gets, req := req, acks := 1 })).dir 6).bind (fun d => d.txn.map fun t => (t.acks - 1, t.nackd)) = some (0, false)
      ∧ (s.coh.lineResv.find 6).isSome = true ∧ (s.coh.setResv.find (dirSetKey 6)).isSome = true := by decide

/-- A request on its way that another of the same line goes before, or with none; a write of host port 1 behind one that is
on its way, or with none; a request answered NACK; and a line of engine 1 with its recall. -/
theorem test_hyp_coherenceArrivals :
    let far : CohReq := { req with req := 0x1108 }
    let s : State := { up with coh := { msgs := [.gets other, .gets far] } }
    let w (n : Nat) : CohReq := { line := 6, req := BitVec.ofNat 16 n, since := 0, nacks := 0 }
    let h : State := { up with coh := { msgs := [.wru (w 0x100) 0 [1], .wru { w 0x101 with line := 7 } 0 [2]] } }
    s.cohOutbid far = true ∧ s.coh.lineResv.find 6 = none ∧ up.cohOutbid req = false
      ∧ h.wruWaits { w 0x101 with line := 7 } (.wru { w 0x101 with line := 7 } 0 [2]) = true
      ∧ up.wruWaits (w 0x100) (.wru (w 0x100) 0 [1]) = false
      ∧ (({ up with coh := { nacked := [(.gets, req)] } } : State).coh.nacked.find? fun x => sameReq x.2 req) = some (.gets, req)
      ∧ ((up.dirCheck 6).coh.lineResv.find 6) = none
      ∧ (let d := homed (some { kind := .gets, req := req, acks := 0 })
         (d.dirCheck 6).dir 6 = d.dir 6 ∧ (d.dir 6).map (fun x => (x.txn.isSome, x.ecc)) = some (true, 0)
           ∧ (d.dir 6).bind (fun x => x.txn.map fun t => (needsEntry t.kind, t.awaiting, t.nackd)) = some (true, none, false)
           ∧ (((d.cohTake (.fwdGets 1 req)).l1Check 1 6).l1Find 1 6).isSome = true
           ∧ ((d.cohTake (.fwdGets 1 req)).l1Check 1 6).wbInFlight 1 6 = false
           ∧ ((d.cohTake (.recall 1 9)).l1Check 1 9).wbInFlight 1 9 = true
           ∧ (d.cohTake (.fwdRdu 1 req)).l1Check 1 6 = d.cohTake (.fwdRdu 1 req)) := by decide

theorem test_hyp_gddr6 :
    let worn : State := { up with gddr := { rowCorr := [(rowKey 3 1 70, 100000)] } }
    up.halted = false ∧ up.scrubDone 3 = false ∧ worn.rowWorn 3 1 70 = true ∧ worn.freeSpare 3 1 < 32768
      ∧ up.gddr.contained.contains 3 = false ∧ up.gddr.retrain.find (up.rd (F.gdmMap_PCH 3)) = none
      ∧ ({ up with gddr := { retrain := [(3, CH.active)] } } : State).gddr.retrain.find 3 = some CH.active
      ∧ up.chWorn 3 = false ∧ (up.second 3 fun k => { k with edc := up.rd F.gdmCfg_EDCTH }).chWorn 3 = true
      ∧ up.rd (F.gdmChStat_CSTATE (bits (setBits (1 <<< 63) 54 50 4 : Word) 54 50)) ≠ CH.spare
      ∧ ({ up with gddr := { mig := some { lch := 2, old := 2, new := 16, at' := 0, part := 0 } } } : State).gddr.mig.isSome = true
      ∧ up.selOf pier .alloc = 0 ∧ up.on (F.alloc_EN 0) = false ∧ up.allocRefused 0 0 0 = true
      ∧ up.poison.find 9 = none ∧ (((up.tally 16 0x80).chHeld (up.lineCh 9)).edcRead 9 7).2 = false
      ∧ (((({ up with gddr := { edc := [(9, (10000, 0))] } } : State).tally 16 0x80).chHeld (up.lineCh 9)).edcRead 9 7).2 = true
      ∧ (((up.tally 16 0x80).chHeld (up.lineCh 9)).edcRead 9 7).1.lineBad 9 = []
      ∧ (({ up with gddr := { injected := [(9, [⟨2, 3, 1⟩])] } } : State).lineBad 9) = [⟨2, 3, 1⟩] ∧ uncWords 9 [⟨2, 3, 1⟩] = []
      ∧ uncWords 9 [⟨2, 3, 1⟩, ⟨2, 4, 1⟩] ≠ [] ∧ (put up [(F.gdmPlace_EN, 1)]).on F.gdmPlace_EN = true
      ∧ (put up [(F.gdmPlace_EN, 1)]).on F.gdmPlace_FREEZE = false := by decide

/-- The records of a remap and of a migration can be committed, or, with the store full, cannot. -/
theorem test_hyp_repair :
    (up.audRepair { kind := RK.row, master := 0x1080, addr := 35, old := 70, new := 32256 }).2 = true
      ∧ (up.audRepair { kind := RK.migrate, addr := 2, old := 2, new := 16 }).2 = true
      ∧ ((put up [(F.audPtr_WPTR, 131072)]).audRepair { kind := RK.migrate, addr := 2, old := 2, new := 16 }).2 = false := by decide

theorem test_hyp_gates :
    (put up [(F.gteEnt_LOCK 4 9, 1)]).on (F.gteEnt_LOCK 4 9) = true ∧ (put up [(F.gteCtl_CLOCK 4, 1)]).on (F.gteCtl_CLOCK 4) = true
      ∧ (let f : Fence := { m := 0x4000, gate := 4, since := 3, mark := 0 }
         let s : State := { up with guard := { fences := [f] } }
         (s.guard.fences.find? fun f => f.m == 0x4000 && f.gate == 4) = some f ∧ s.now ≤ f.since + 2000
           ∧ f.since + 2000 < ({ s with clock := { now := 10 ^ 6 } } : State).now
           ∧ ({ s with guard := { s.guard with fences := s.guard.fences.erase f } } : State).gateBusy 4 3 0 = false
           ∧ ({ s with guard := { claims := [(7, [{ m := 0x4000, since := 1, lock := false }])] } } : State).gateBusy 4 3 0 = true) := by
  decide

theorem test_hyp_claims :
    let c : Claim := { m := 0x4000, since := 3, lock := false }
    let s : State := { up with guard := { claims := [(6, [c])] } }
    s.semHeld 6 = false ∧ claimWinner s.now (s.guard.ptrs.at 6 0) (s.semClaims 6) = some c
      ∧ (s.semLate 6).semClaims 6 = [c]
      ∧ (let u : State := { s with clock := { now := 10 ^ 6 } }
         claimWinner (u.semLate 6).now ((u.semLate 6).guard.ptrs.at 6 0) ((u.semLate 6).semClaims 6) = none)
      ∧ (put s [(F.sem_HELD 6, 1)]).semHeld 6 = true
      ∧ ((s.semClaims 6).find? fun c => c.m == 0x4000 && !c.lock) = some c ∧ s.rd F.semStat_WAITING < 1024
      ∧ s.semOwns 6 pier = false := by decide

theorem test_hyp_lifecycle :
    up.atF 0x1008 = false ∧ up.openReg pier 0x9808 .write = (up, true) ∧ bits (0 : Word) 63 48 ≠ 0x4C43
      ∧ up.atF pier = true ∧ bits (0x4C43000000000003 : Word) 63 48 = 0x4C43 ∧ up.on F.lcsState_PENDING = false
      ∧ up.rd F.lcsState_STATE < bits (0x4C43000000000003 : Word) 1 0
      ∧ (up.askRec pier RK.lifecycle 0 (BitVec.ofNat 64 (up.rd F.lcsState_STATE)) 3).2 = true := by decide

/-- Ring 5 with a datagram that waits to be scheduled. -/
def ready5 : State := rings.setQue 5 fun v => { v with next := [{ id := 1, pkt := heldP.pkt }] }

theorem test_hyp_schedule :
    (State.pickPort (turns ready5.schedSync.sched.l3) ready5.schedSync).2 = some 5
      ∧ (State.pickPort (turns up.schedSync.sched.l3) up.schedSync).2 = none ∧ up.schedSync.sched.l3 = [] := by decide

/-- The same ring at the head of every list, with its quantum given. -/
theorem test_hyp_scheduleHead :
    let s := (((ready5.schedSync.setPnode 0 fun _ => { deficit := 4096, fresh := false }).setTnode (ready5.queueNode 5) fun _ =>
      { deficit := 4096, fresh := false }).setQue 5 fun v => { v with node := { deficit := 4096, fresh := false } })
    let u := s.schedSync
    u.sched.l3 = [0] ∧ u.sched.l2.at 0 [] = [ready5.queueNode 5] ∧ u.sched.l1.at (ready5.queueNode 5) [] = [5]
      ∧ (u.pnode 0).fresh = false ∧ (u.tnode (ready5.queueNode 5)).fresh = false ∧ (u.que 5).node.fresh = false
      ∧ (u.que 5).next = [{ id := 1, pkt := heldP.pkt }] ∧ heldP.pkt.cost ≤ 4096 ∧ (u.que 5).node.deficit = 4096 := by decide

/-- The correctable source of port 5's domain may take severity CONTAIN; a FIXED one may not. -/
theorem test_hyp_faults :
    (srcInfo (Src.LNK_CRC 5)).isSome = true ∧ up.sevAccepted (Src.LNK_CRC 5) 2 = true
      ∧ (up.askRec pier RK.reg (fltSrcAddr (Src.LNK_CRC 5)) (up.get (.fltSrc (Src.LNK_CRC 5)))
          (setBits (up.get (.fltSrc (Src.LNK_CRC 5))) 63 61 2)).2 = true
      ∧ up.on (F.fltSrc_FIXED Src.CLK_ROOT_UNLOCK) = true ∧ (put up [(F.fltCfg_SLOCK, 1)]).on F.fltCfg_SLOCK = true
      ∧ (up.cfgPut pier RK.reg 0x25000 .fltPin (keepField (up.get .fltPin)
          (accWrite .fltPin (up.on F.fltCfg_SLOCK) (up.get .fltPin) (setBits 0 61 61 1)) 2 0 fun k => decide (k ≤ 4))).2 = true
      ∧ up.halted = false ∧ (put up [(F.fltHalt_HALTED, 1)]).halted = true := by decide

theorem test_hyp_sparing :
    up.engOff (17 * 3 + 2) = false ∧ (∀ c ∈ engCtxs (17 * 3 + 2), up.ctxState c = XS.idle)
      ∧ (∃ c ∈ engCtxs 0, eng.ctxState c ≠ XS.idle) ∧ ¬((3 : Nat) = 0 ∧ (2 : Nat) = 16)
      ∧ (up.audRepair { kind := RK.engine, master := 0x1080, addr := 35, old := up.get (.islEngMap 3), new := up.retiredMap 3 2 true }).2 = true := by
  decide

theorem test_hyp_counters :
    let s := put up [(F.cntVal_VAL 2 3, 2 ^ 48 - 1), (F.cntCtl_EN 2 3, 1), (F.cntSmpCfg_EN, 1), (F.cntSmpCfg_LOG2SIZE, 6),
      (F.cntBwCfg_EN, 1), (F.timCfg_OUT_EN, 1), (F.timCfg_IN_EN, 1), (F.timCfg_DISC, 0)]
    s.rd (F.cntVal_VAL 2 3) = 2 ^ 48 - 1 ∧ s.cntCounts 2 3 = true ∧ s.audHeld < bits (1 : Word) 17 0
      ∧ mstClass pier = 4 ∧ bits (0 : Word) 17 0 ≤ s.audHeld ∧ bits (0 : Word) 17 0 ≤ audSlots ∧ s.on F.cntSmpCfg_EN = true
      ∧ ringDepth 6 (s.rd F.cntSmpPi_PI) (s.rd F.cntSmpCi_CI) ≠ 2 ^ 6 ∧ s.rd F.cntSmpCfg_LOG2SIZE = 6
      ∧ ({ s with samples := ⟨1, 0, [[1, 2, 3, 4, 5, 6, 7, 8]]⟩ } : State).samples.items ≠ []
      ∧ s.on F.cntBwCfg_EN = true ∧ s.bwEdge.clock.bwDone = []
      ∧ ({ s with clock := { bwDone := [([], [], 1)] } } : State).bwEdge.clock.bwDone = [([], [], 1)] ∧ s.on F.timCfg_OUT_EN = true ∧ s.clock.ppsOut = false ∧ s.on F.timCfg_IN_EN = true
      ∧ s.on F.timCfg_DISC = false ∧ s.faults.conds.contains (Src.PPS_LOST, 0) = false
      ∧ ({ s with clock := { ppsIn := some 4, ppsOut := true } } : State).clock.ppsIn = some 4
      ∧ ({ s with audit := { owed := some (1, 2) } } : State).audHeld < audSlots
      ∧ ((s.setCtx 0 fun x => { x with tags := [{ time := 0, pc := 0, tenant := 0, level := 0, insn := some 7 }] }).ctx 0).tags.head?.all
          fun g => g.spells 7 0 0 && !g.spells 8 0 0 && !g.spells 7 1 0 && !g.spells 7 0 1 := by decide

/-- The device in a warm reset. -/
def heldDown : State := { up with boot := { up.boot with phase := .warmHeld } }

theorem test_hyp_held :
    heldDown.held = true ∧ up.held = false ∧ lit.held = false ∧ (lanes 1).held = false ∧ heldDown.absorbed 3 = true
      ∧ up.absorbed 3 = false ∧ ({ up with boot := { up.boot with islands := [3] } } : State).absorbed 3 = true
      ∧ (∀ a ∈ [false, true], ({ up with boot := { up.boot with rstLow := a } } : State).boot.rstLow = a)
      ∧ (put up [(F.fltHalt_TERM, 1)]).on F.fltHalt_TERM = true ∧ up.on F.fltHalt_TERM = false := by decide

/-- The context of ring 5 with two symbols of a codeword in error. -/
theorem test_hyp_structLost :
    let s : State := { rings with gddr := { injected := [(queueLine 5, [⟨4, 3, 1⟩, ⟨4, 4, 1⟩])] } }
    s.rd (F.qctx_TYPE 5) = 0 ∧ s.serves 5 = true ∧ s.qDepth 5 ≠ 0 ∧ s.sketchServed 5 = false
      ∧ (s.structSeen (queueLine 5) 2).structLost (queueLine 5) 2 = true
      ∧ (rings.structSeen (queueLine 5) 2).structLost (queueLine 5) 2 = false := by decide

theorem test_hyp_parity :
    ((load (.add 0 3 1 2) (eng.setCtx 0 fun x => { x with parity := true })).ctx 0).parity = true
      ∧ ((eng.ctx 0).parity = false) ∧ (eng.eng 0).codeEcc = []
      ∧ ((load (.add 0 3 1 2) (eng.setCtx 0 fun x => { x with parity := true })).codeFill 0).codeWord 0 = insnWord (.add 0 3 1 2) := by
  decide

/-- A bell of a DISABLED queue, and one of a queue of another tenant by a User context; an entry that a sketch ends MALFORMED. -/
theorem test_hyp_bells :
    let u := engRings.issued 0
    u.qState 9 = QS.disabled ∧ u.qRight 0 9 = true
      ∧ (let v := put u [(F.ctxCfg_LEVEL 0, 0), (F.qctx_TENANT 5, 2)]
         v.qRight 0 5 = false ∧ bits (5 : Word) 63 41 = 0 ∧ 2 ≤ bits (5 : Word) 19 0)
      ∧ ({ status := ST.malformed, reason := 3 } : Result).status = ST.malformed
      ∧ ({ id := 1, idx := 0, entry := Octet.zero } : Taken).stale = false := by decide

/-- SLOCK is set, or not, and a write of FLT_CFG of each kind has its record. -/
theorem test_hyp_w1s :
    let s := put up [(F.fltCfg_SLOCK, 1)]
    let new (v : Word) : Word := accWrite .fltCfg false (up.get .fltCfg) v
    s.on F.fltCfg_SLOCK = true ∧ (s.cfgPut pier RK.reg 0x25008 .fltCfg (accWrite .fltCfg false (s.get .fltCfg) 0)).2 = true
      ∧ up.on F.fltCfg_SLOCK = false ∧ bits (1 <<< 63 : Word) 63 63 = 1
      ∧ (up.cfgPut pier RK.reg 0x25008 .fltCfg (new 0)).2 = true
      ∧ (up.cfgPut pier RK.lock 0x25008 .fltCfg (setBits (new (1 <<< 63)) 63 63 1) true).2 = true
      ∧ (∀ a ∈ [0x40000 + 8 * 6, 0x48000 + 8 * 6], up.openReg pier a .read = (up, true))
      ∧ (Reg.fltCfg.fields.any fun f => f.acc == .w1s) = true := by decide

/-- A drain holds a covered flagged datagram, and not one that a response packet carries. -/
theorem test_hyp_drains :
    let s := put up [(F.rteCfg_DSTATE, 1)]
    s.drainHolds heldP.pkt = true ∧ up.drainHolds heldP.pkt = false
      ∧ ({ heldP.pkt with hdr := heldP.pkt.hdr.set H.mclass 1 } : Packet).get H.mclass = 1
      ∧ (let h : Held := { heldP with pkt := { hdr := putHdr, payload := [], trailer := [] }, behind := [(3, 4)] }
         h.behind.any flowing.unsacked = true) := by decide

theorem test_hyp_retrains :
    let r : Retrain := { rseq := 0, began := 3, initiator := true, accepted := true, training := true, prbs := 1 }
    let s := placed.setPort 5 fun p => { p with retrain := some r }
    (s.port 5).retrain = some r ∧ (up.lanesReady 5 = false ∨ r.prbs ≠ 2) ∧ s.now ≤ s.retrainLimit 5 r
      ∧ ((up.setPort 5 fun p => { p with patternAt := some 5 }).port 5).patternAt = some 5
      ∧ ((up.setPort 5 fun p => { p with creditDirty := true }).port 5).creditDirty = true ∧ up.dataReady 5 = false
      ∧ (up.setPort 5 fun p => { p with aligned := true }).portUp 5 = false ∧ (put up [(F.rtePort_UP 5, 1)]).portUp 5 = true := by
  decide

/-- Requests for line 6 of two islands: as old as each other, so that the pointer decides, or one of them older; and with a
reservation, which decides instead. -/
theorem test_hyp_arbiter :
    let far : CohReq := { req with req := 0x1108 }
    let s (a : CohReq) : State := { up with coh := { msgs := [.gets req, .gets a] } }
    (s far).cohArbiter 6 = true ∧ (s far).cohTie req = true ∧ (s far).cohOutbid req = false ∧ (s far).cohOutbid far = true
      ∧ (let u : State := { s { far with nacks := 0 } with clock := { now := 100 } }
         u.cohTie req = false ∧ u.cohOutbid req = false)
      ∧ (s far).coh.ties.contains 6 = false ∧ (homed none).cohArbiter 6 = false
      ∧ reqMsg .gets req = .gets req ∧ hostWrite (.gets req) = false
      ∧ hostWrite (.wru { req with req := 0x100 } 0 [1]) = true := by decide

/-- A recall of a line that the engine does not hold and is not writing back; the directory's own entry on a bad DONE. -/
theorem test_hyp_recalls :
    let s := homed (some { kind := .rdu, req := req, acks := 1 })
    ((s.cohTake (.recall 1 70)).l1Check 1 70).l1Find 1 70 = none ∧ ((s.cohTake (.recall 1 70)).l1Check 1 70).wbInFlight 1 70 = false
      ∧ (s.dir 6).bind (fun d => d.txn.map fun t => (needsEntry t.kind, t.nackd, t.acks)) = some (false, false, 1)
      ∧ ((homed none).l1Find 1 70) = none := by decide

theorem test_hyp_channelDown :
    let s : State := { up with gddr := { contained := [up.lineCh 9] } }
    let h := (s.tally 16 0x80).chHeld (s.lineCh 9)
    h.chDown (h.lineCh 9) = true ∧ ((up.tally 16 0x80).chHeld (up.lineCh 9)).chDown (up.lineCh 9) = false
      ∧ (let g : Migration := { lch := 2, old := 2, new := 16, at' := 0, part := 0 }
         let m : State := { up with gddr := { mig := some g } }
         m.gddr.mig = some g ∧ m.gddr.retrain.find g.old = none ∧ m.gddr.retrain.find g.new = none) := by decide

/-- Every claim place is taken; and a master's stalled read beside the semaphore it has come to own. -/
theorem test_hyp_claimPlaces :
    (put up [(F.semStat_WAITING, 1024)]).rd F.semStat_WAITING = 1024
      ∧ (let c : Claim := { m := 0x1000, since := 3, lock := false }
         let s : State := { locks with guard := { claims := [(7, [c])] } }
         s.semOwns 7 0x1000 = true ∧ c ∈ s.semClaims 7 ∧ (s.ownedReads 7 0x1000).semClaims 7 = []) := by decide

/-- An engine that fails, one whose retirement waits, and the warden's; a soft repair with a spare left, and without. -/
theorem test_hyp_retires :
    let g := 17 * 3 + 2
    let s : State := { up with faults := { engErrs := [(g, 0), (g, 5), (16, 0), (16, 1)] } }
    s.engFailing g = true ∧ s.engFailing 16 = true ∧ s.retiring g = none ∧ up.engFailing g = false ∧ s.engOff g = false
      ∧ ({ up with faults := { retiring := [(g, [], true)] } } : State).retiring g = some (g, [], true)
      ∧ ((put up [(F.audPtr_WPTR, 131072)]).audRepair
          { kind := RK.engine, master := 0x1080, addr := 35, old := up.get (.islEngMap 3), new := up.retiredMap 3 2 true }).2 = false
      ∧ up.boot.spent.at 7 0 = 0 ∧ ({ up with boot := { up.boot with spent := [(7, 16)] } } : State).boot.spent.at 7 0 = 16 := by decide

theorem spareCount_pos (n : Nat) : 0 < spareCount n ∧ spareCount n ≤ 16 := by
  unfold spareCount
  split <;> omega

/-- FLT_SRC and FLT_PIN whose record is refused, the store being full under STRICT. -/
theorem test_hyp_refusals :
    let s := put up [(F.audPtr_WPTR, 131072)]
    s.sevAccepted (Src.LNK_CRC 5) 2 = true ∧ s.forceActs pier (Src.LNK_CRC 5) = true
      ∧ (s.askRec pier RK.reg (fltSrcAddr (Src.LNK_CRC 5)) (s.get (.fltSrc (Src.LNK_CRC 5)))
          (setBits (s.get (.fltSrc (Src.LNK_CRC 5))) 63 61 2)).2 = false
      ∧ (s.askRec pier RK.force (Src.LNK_CRC 5) 0 (s.get .fltForceArg)).2 = false
      ∧ (s.cfgPut pier RK.reg 0x25000 .fltPin (keepField (s.get .fltPin)
          (accWrite .fltPin (s.on F.fltCfg_SLOCK) (s.get .fltPin) 0) 2 0 fun k => decide (k ≤ 4))).2 = false
      ∧ (s.cfgWrite pier (wmAddr 21) (.wm 21) 0x0000010000FF0000).2 = false
      ∧ (up.cfgWrite pier (wmAddr 21) (.wm 21) 0x0000010000FF0000).2 = true
      ∧ up.on (F.fltDom_VALID (Src.LNK_CRC 5 / 24)) = false := by decide

/-- A chained counter, full below one that counts. -/
theorem test_hyp_chains :
    let s := put up [(F.cntVal_VAL 2 3, 2 ^ 48 - 1), (F.cntCtl_EN 2 3, 1), (F.cntCtl_EN 2 4, 1), (F.cntCtl_CHAIN 2 4, 1)]
    s.rd (F.cntVal_VAL 2 3) = 2 ^ 48 - 1 ∧ s.cntCounts 2 3 = true ∧ s.on (F.cntCtl_CHAIN 2 4) = true ∧ s.cntCounts 2 4 = true
      ∧ s.rd (F.cntVal_VAL 2 4) < 2 ^ 48 - 1 ∧ (put s [(F.cntCtl_CHAIN 2 4, 0)]).on (F.cntCtl_CHAIN 2 4) = false := by decide

/-- An island whose monitors told VNEED of another step, and the island that has issued most. -/
theorem test_hyp_powerLoops :
    let s : State := { up with power := { up.power with issued := [(2, 9), (7, 4)] } }
    (up.isle 3).needAt ≠ some (up.rd (F.pwrIsl_STEP 3)) ∧ s.busiest 5 = 2 ∧ up.busiest 5 = 5
      ∧ ((up.setIsle 3 fun x => { x with needUp := 10 ^ 9, needAt := some 0 }).isle 3).needUp = 10 ^ 9 := by decide

/-- What boot meets: both slots blank, the mode strap at 0 or 1. -/
def blank (mode : BitVec 2) : BootInputs := { mode := mode, slotA := .blank, slotB := .blank }

/-- Boot within its first step, or after that step's latest time; GDDR6 that trains, or does not. -/
theorem test_hyp_bootLate :
    ¬(State.reset.boot.began + 1000000 * bootLatest 0 < State.reset.now)
      ∧ (let s : State := { State.reset with clock := { now := 10 ^ 12 } }
         s.boot.began + 1000000 * bootLatest 0 < s.now ∧ s.boot.phase = .bootDue ∧ (s.bootBegin (blank 0)).2 = true)
      ∧ (blank 0).trains = true ∧ ({ blank 0 with trains := false } : BootInputs).trains = false
      ∧ State.reset.slotResult (blank 0).slotA ≠ 0
      ∧ (((State.reset.wr F.glbBootStat_STEP 5).softRepair.memoryZero).imageRecords []).boot.phase = .bootDue
      ∧ (((State.reset.wr F.glbBootStat_STEP 5).softRepair.memoryZero).imageRecords []).halted = false := by decide

theorem test_hyp_boot :
    State.reset.boot.phase = .bootDue ∧ State.reset.halted = false ∧ (State.reset.bootBegin (blank 1)).2 = true
      ∧ (State.reset.bootBegin (blank 0)).2 = true
      ∧ (∀ step ∈ List.range 5, ((State.reset.passTo (State.reset.boot.began + 1000000 * bootLatest step)).bootBegin (blank 0)).2 = true)
      ∧ ({ State.reset with fuses := { ok := false } } : State).fuses.ok = false := by decide

theorem test_hyp_resets :
    up.on F.fltHalt_TERM = false ∧ up.boot.phase ≠ .warmHeld
      ∧ (let s : State := { up with boot := { phase := .warmHeld, islands := [3], installing := some { slot := 0, image := [1], result := 0 } } }
         s.boot.phase = .warmHeld ∧ s.hostCovered 1 = true ∧ (s.host 1).perst = false ∧ 3 ∈ s.boot.islands
           ∧ s.boot.installing.isSome = true)
      ∧ (State.reset.setHost 2 fun h => { h with perst := false }).hostBusyBoot 2 = true
      ∧ bits ((State.reset.wr F.clkStat_HPCLK 15).get .clkStat) (43 + 2) (43 + 2) = 1 ∧ State.reset.rd F.lcsState_STATE ≠ 3
      ∧ (State.reset.host 2).linkUp = false := by decide

theorem test_hyp_power :
    let s := put up [(F.pwrAvs_EN, 1), (F.pwrDfs_EN, 1), (F.pwrDfs_CAP, 100)]
    s.on F.pwrAvs_EN = true ∧ s.on F.pwrAvs_FREEZE = false ∧ (put s [(F.pwrAvs_FREEZE, 1)]).on F.pwrAvs_FREEZE = true
      ∧ (put s [(F.pwrAvs_EN, 0)]).on F.pwrAvs_EN = false ∧ s.rd (F.pwrIsl_VOUT 3) ≤ min (s.rd (F.pwrIsl_VMAX 3)) (2000 - 20)
      ∧ ((s.setIsle 3 fun x => { x with droop := 2 }).isle 3).droop ≠ 0 ∧ (s.setIsle 3 fun x => { x with droop := 2, droopAt := 0 }).wantStep 3 < 4
      ∧ s.power.readAt.find 3 = none ∧ ({ s with power := { readAt := [(3, 1)] } } : State).power.readAt.find 3 ≠ none
      ∧ s.on F.pwrDfs_EN = true ∧ s.on F.pwrDfs_FREEZE = false ∧ (s.wr F.pwrDfs_PEST 200).rd F.pwrDfs_CAP < 200
      ∧ s.cappedIsles = [] ∧ (s.setIsle 3 fun x => { x with cap := 1 }).cappedIsles = [3] ∧ (94 : Nat) * 100 ≤ s.rd F.pwrDfs_CAP * 95
      ∧ 97 ≤ (s.wr F.pwrDfs_PEST 97).rd F.pwrDfs_CAP ∧ (s.wr F.pwrDfs_PEST 97).rd F.pwrDfs_CAP * 95 < 97 * 100 := by decide

/-! Single steps, with results from the spec's tables. -/

/-- The step of command `c` answers a next state with `p`. -/
def after (c : Instr) (s : State) (p : State → Bool) : Bool :=
  match step { s with pending := [c] } with
  | .next t => p t && t.pending == []
  | _ => false

/-- The step of an engine's instruction, fetched at the pc of context 0, answers a next state with `p`. -/
def runs (i : Instr) (s : State) (p : State → Bool) : Bool := after i (load i s) p

/-- 05 R146: sub wraps, and the pc and REMAINING move on (R159). -/
theorem test_sub_wraps :
    runs (.sub 0 3 1 2) (regs eng 3 5) (fun t => t.gv 0 3 == 0xFFFFFFFFFFFFFFFE && t.pcOf 0 == 4 && t.rd (F.csr_REMAINING 0) == 99) = true := by
  decide

/-- 05 R146: a shift takes y[5:0] only; sra keeps the sign. -/
theorem test_sra : runs (.sra 0 3 1 2) (regs eng 0x8000000000000000 65) (fun t => t.gv 0 3 == 0xC000000000000000) = true := by decide

/-- 05 R146: mulh takes both signed, mulhu both unsigned. -/
theorem test_mulh : runs (.mulh 0 3 1 2) (regs eng 0xFFFFFFFFFFFFFFFF 0xFFFFFFFFFFFFFFFF) (fun t => t.gv 0 3 == 0) = true
    ∧ runs (.mulhu 0 3 1 2) (regs eng 0xFFFFFFFFFFFFFFFF 0xFFFFFFFFFFFFFFFF) (fun t => t.gv 0 3 == 0xFFFFFFFFFFFFFFFE) = true := by
  decide

/-- 05 R146: clz and ctz of 0 are 64. -/
theorem test_clz_zero : runs (.clz 0 3 1) (regs eng 0 0) (fun t => t.gv 0 3 == 64) = true
    ∧ runs (.ctz 0 3 1) (regs eng 0 0) (fun t => t.gv 0 3 == 64) = true := by decide

/-- 05 R141: a write to g0 is discarded. -/
theorem test_g0 : runs (.add 0 0 1 2) (regs eng 3 5) (fun t => t.gv 0 0 == 0 && t.pcOf 0 == 4) = true := by decide

/-- 05 R145: a branch offset counts words from the branch itself. -/
theorem test_blt_back : runs (.blt 0 1 2 0xFFFF) (put (regs eng 3 5) [(F.pc_PC 0, 8)]) (fun t => t.pcOf 0 == 4) = true := by decide

/-- 05 R149, R157, R158: a misaligned load traps MISALIGNED (3) with the address; the pc goes to the error handler. -/
theorem test_misaligned : runs (.ldH 0 3 1 0) (regs eng 0x101 0) (fun t => t.rd (F.csr_CODE 0) == 3 && t.rd (F.csr_VALUE 0) == 0x101
    && t.on (F.csr_TRAPPED 0) && t.pcOf 0 == 32 && t.rd (F.csr_REMAINING 0) == 256 && t.gv 0 3 == 0) = true := by decide

/-- 05 R145: a store writes little-endian, and a signed load extends. -/
theorem test_store_load :
    runs (.stH 0 2 1 0) (regs eng 0x100 0xABCD) (fun t => t.pal.read 0x100 == 0xCD && t.pal.read 0x101 == 0xAB && t.pal.read 0x102 == 0) = true
      ∧ runs (.ldB 0 3 1 0) ((regs eng 0x100 0).palWrite 0x100 [0x80]) (fun t => t.gv 0 3 == 0xFFFFFFFFFFFFFF80) = true := by decide

/-- 05 R154: lock.rel by a master that does not own the semaphore answers NOT_OWNER (3). -/
theorem test_lock_rel : runs (.lockRel 0 3 1) (regs locks 8 0) (fun t => t.gv 0 3 == 3 && t.rd (F.sem_OWNER 8) == 0x1008) = true := by
  decide

/-- The four words of the worked example of 05. -/
theorem test_decode_example :
    [0x08A5FFF8, 0x58C50010, 0x04843000, 0x84C0FFFD].map (decodeInsn 0 (.failed []))
      = [some (.addi 0 5 5 0xFFF8), some (.ldD 0 6 5 16), some (.add 0 4 4 6), some (.bne 0 6 0 0xFFFD)] := rfl

/-- Words of the other formats and groups, by the tables of 05 R144 to R175: op, d, a, then b and fn, an immediate, or b, unit
and uop. -/
theorem test_decode_formats :
    decodeInsn 0 (.failed []) 0b000001_00011_00001_00000_00000100001 = some (.ctz 0 3 1)
      ∧ decodeInsn 0 (.failed []) 0b001101_00011_00001_0000_011111_100000 = some (.bfxS 0 3 1 31 32)
      ∧ decodeInsn 0 (.failed []) 0b011001_00010_00001_0000000000001000 = some (.stH 0 2 1 8)
      ∧ decodeInsn 0 (.failed []) 0b011101_00000_00001_0000000000000111 = some (.hst 0 1 7)
      ∧ decodeInsn 0 (.failed []) 0b100110_00011_111111111111111111111 = some (.jal 0 3 0x1FFFFF) := by
  refine ⟨?_, ?_, ?_, ?_, ?_⟩ <;> rfl

/-- Likewise. -/
theorem test_decode_groups :
    decodeInsn 0 (.failed []) 0b101000_00000_00000_00000_00000000011 = some (.fenceAll 0)
      ∧ decodeInsn 0 (.failed []) 0b101001_00011_00001_00010_00000000010 = some (.amoCas 0 3 1 2)
      ∧ decodeInsn 0 (.failed []) 0b101010_00011_00001_00000_00000000001 = some (.lockTry 0 3 1)
      ∧ decodeInsn 0 (.failed []) 0b101011_00011_00001_00000_00000000000 = some (.wait 0 3 1)
      ∧ decodeInsn 0 (.failed []) 0b101100_00000_00000_0000000000001001 = some (.trap 0 9) := by
  refine ⟨?_, ?_, ?_, ?_, ?_⟩ <;> rfl

/-- Likewise. -/
theorem test_decode_units :
    decodeInsn 0 (.failed []) 0b101101_00000_00000_0000000000000000 = some (.halt 0)
      ∧ decodeInsn 0 (.failed []) 0b101111_00000_00001_0000000000000011 = some (.csrWr 0 1 3)
      ∧ decodeInsn 0 (.failed []) 0b110000_00011_00001_00010_00001_000001 = some (.qPush 0 3 1 2)
      ∧ decodeInsn 0 (.failed []) 0b110000_00011_00001_00010_00100_000001 = some (.mixFeed 0 3 1 2)
      ∧ decodeInsn 0 (.failed []) 0b110000_00011_00001_00010_00110_000000 = some (.cntRd 0 3 1 2) := by
  refine ⟨?_, ?_, ?_, ?_, ?_⟩ <;> rfl

/-- Words that are no instruction (05 R143, R145): fields that are not zero, and numbers that are reserved. -/
theorem test_decode_refuses :
    decodeInsn 0 (.failed []) 0x00000000 = none
      ∧ decodeInsn 0 (.failed []) 0x3C000000 = none
      ∧ decodeInsn 0 (.failed []) 0xFC000000 = none
      ∧ decodeInsn 0 (.failed []) 0b000001_00011_00001_00010_00000100001 = none
      ∧ decodeInsn 0 (.failed []) 0b000110_00011_00001_0000000001_000101 = none
      ∧ decodeInsn 0 (.failed []) 0b011101_00000_00001_0000000000001000 = none
      ∧ decodeInsn 0 (.failed []) 0b101101_00001_00000_0000000000000000 = none
      ∧ decodeInsn 0 (.failed []) 0b110000_00011_00001_00010_00111_000000 = none := by
  refine ⟨?_, ?_, ?_, ?_, ?_, ?_, ?_, ?_⟩ <;> rfl

/-- 02 R34, 03 R80: a whole slot with INDEX 3 for queue 5 moves PI; half a slot rings nothing. -/
theorem test_doorbell :
    after (.doorbellPageWrite 0 0 0 (bytesOf 8 (3 * 2 ^ 20 + 5))) rings (fun t => t.rd (F.qctx_PI 5) == 3) = true
      ∧ after (.doorbellPageWrite 0 0 0 ((bytesOf 8 (3 * 2 ^ 20 + 5)).take 4)) rings (fun t => t.rd (F.qctx_PI 5) == 1) = true := by decide

/-- 03 R80: a doorbell that would shorten the ring is counted in DBDROP. -/
theorem test_doorbell_late :
    after (.doorbellPageWrite 0 0 0 (bytesOf 8 (0 * 2 ^ 20 + 5))) rings
      (fun t => t.rd (F.qctx_PI 5) == 1 && t.rd (F.qctx_DBDROP 5) == 1) = true := by decide

/-- 04 R119: 100 tokens and ADD 64 stay below BURST 4,096. -/
theorem test_refill : after (.shaperRefill 1) (put buckets [(F.shp_TOKENS 1, 100)]) (fun t => t.rd (F.shp_TOKENS 1) == 164) = true
    ∧ after (.shaperRefill 1) (put buckets [(F.shp_TOKENS 1, 4090)]) (fun t => t.rd (F.shp_TOKENS 1) == 4096) = true := by decide

/-- 15 R492, R493: a SEM_ACQ read of a free semaphore makes the reader its owner. -/
theorem test_sem_acq : after (.semAcqRead pier 6) up (fun t => t.semOwns 6 pier) = true := by decide

/-- 20 R605: a misaligned write has no effect. -/
theorem test_register_misaligned : after (.registerWrite pier 0x404 5) up (fun t => t.get (.wm 5) == up.get (.wm 5)) = true := by decide

/-- 11 R363: the check value of the CRC of iSCSI, over the digits 1 to 9. -/
theorem test_crc32c : crc32c [0x31, 0x32, 0x33, 0x34, 0x35, 0x36, 0x37, 0x38, 0x39] = 0xE3069283 := by decide

/-- 13 R430: the home of the line at offset 0x10000 is island A[9:6] XOR A[17:14]. -/
theorem test_home : lineHome (0x10000 / 64) = 4 := by decide

end Sys2Proof.Tests
end

section
/-! SUPPORT. Words bit by bit: single-bit fields, a replaced field, and the masks of the field tables (00 R4, R5). -/

namespace Sys2Proof.Machine

theorem bits_eq_getLsbD (w : Word) (k : Nat) : bits w k k = (w.getLsbD k).toNat := by
  simp [bits, BitVec.getLsbD, Nat.toNat_testBit]

theorem getLsbD_setBits (w : Word) {hi lo k : Nat} (v : Nat) (h : lo ≤ hi) (hk : k < 64) :
    (setBits w hi lo v).getLsbD k = if lo ≤ k ∧ k ≤ hi then v.testBit (k - lo) else w.getLsbD k := by
  have hlow : w.toNat % 2 ^ lo < 2 ^ lo := Nat.mod_lt _ (Nat.two_pow_pos lo)
  have hword : w.toNat / 2 ^ (hi + 1) * 2 ^ (hi + 1) + v % 2 ^ (hi + 1 - lo) * 2 ^ lo + w.toNat % 2 ^ lo
      = 2 ^ lo * (2 ^ (hi + 1 - lo) * (w.toNat / 2 ^ (hi + 1)) + v % 2 ^ (hi + 1 - lo)) + w.toNat % 2 ^ lo := by
    have hpow : 2 ^ (hi + 1) = 2 ^ lo * 2 ^ (hi + 1 - lo) := by rw [← Nat.pow_add]; congr 1; omega
    rw [hpow, Nat.mul_add]
    ac_rfl
  rw [setBits, hword, BitVec.getLsbD_ofNat, Nat.testBit_two_pow_mul_add _ hlow,
    Nat.testBit_two_pow_mul_add _ (Nat.mod_lt _ (Nat.two_pow_pos _))]
  by_cases h1 : k < lo
  · simp [h1, hk, BitVec.getLsbD, Nat.testBit_mod_two_pow, Nat.not_le.mpr h1]
  · by_cases h2 : k ≤ hi
    · have h3 : k - lo < hi + 1 - lo := by omega
      simp [h1, h2, h3, hk, Nat.testBit_mod_two_pow, Nat.le_of_not_lt h1]
    · have h3 : ¬ k - lo < hi + 1 - lo := by omega
      have h4 : hi + 1 + (k - lo - (hi + 1 - lo)) = k := by omega
      simp [h1, h2, h3, hk, Nat.testBit_div_two_pow, BitVec.getLsbD, h4, Nat.add_comm]

/-- The fields of a table lie below bit `top`, each below the one before. -/
def fieldsBelow : Nat → List FieldDesc → Bool
  | _, [] => true
  | top, f :: l => decide (f.lo ≤ f.hi) && decide (f.hi < top) && fieldsBelow f.lo l

theorem fieldsBelow_cons {top : Nat} {f : FieldDesc} {l : List FieldDesc} :
    fieldsBelow top (f :: l) = true ↔ f.lo ≤ f.hi ∧ f.hi < top ∧ fieldsBelow f.lo l = true := by
  simp [fieldsBelow, and_assoc]

theorem range_of_fieldsBelow {top : Nat} {l : List FieldDesc} (hl : fieldsBelow top l = true) {f : FieldDesc}
    (hf : f ∈ l) : f.lo ≤ f.hi ∧ f.hi < top := by
  induction l generalizing top with
  | nil => cases hf
  | cons g l ih =>
    obtain ⟨hg, htop, hrest⟩ := fieldsBelow_cons.mp hl
    rcases List.mem_cons.mp hf with rfl | hf
    · exact ⟨hg, htop⟩
    · have := ih hrest hf
      omega

/-- One field at most of such a table holds a bit. -/
theorem eq_of_fieldsBelow {top : Nat} {l : List FieldDesc} (hl : fieldsBelow top l = true) {f g : FieldDesc} {k : Nat}
    (hf : f ∈ l) (hg : g ∈ l) (hfk : f.lo ≤ k ∧ k ≤ f.hi) (hgk : g.lo ≤ k ∧ k ≤ g.hi) : f = g := by
  induction l generalizing top with
  | nil => cases hf
  | cons a l ih =>
    obtain ⟨-, -, hrest⟩ := fieldsBelow_cons.mp hl
    rcases List.mem_cons.mp hf with hfa | hfl <;> rcases List.mem_cons.mp hg with hga | hgl
    · exact hfa.trans hga.symm
    · have := range_of_fieldsBelow hrest hgl
      subst hfa
      omega
    · have := range_of_fieldsBelow hrest hfl
      subst hga
      omega
    · exact ih hrest hfl hgl

/-- The fields of every word of the spec's tables lie in its 64 bits and do not overlap. -/
theorem Reg.fields_below (r : Reg) : fieldsBelow 64 r.fields = true := by
  unfold Reg.fields
  split <;> rfl

theorem getLsbD_foldl_setBits (p : FieldDesc → Bool) {k : Nat} (hk : k < 64) (l : List FieldDesc)
    (hl : ∀ f ∈ l, f.lo ≤ f.hi) (w : Word) :
    (l.foldl (fun w f => if p f then setBits w f.hi f.lo (2 ^ (f.hi + 1 - f.lo) - 1) else w) w).getLsbD k
      = (w.getLsbD k || l.any fun f => p f && decide (f.lo ≤ k ∧ k ≤ f.hi)) := by
  induction l generalizing w with
  | nil => simp
  | cons f l ih =>
    obtain ⟨hf, hl⟩ := List.forall_mem_cons.mp hl
    have hhead : (if p f then setBits w f.hi f.lo (2 ^ (f.hi + 1 - f.lo) - 1) else w).getLsbD k
        = (w.getLsbD k || (p f && decide (f.lo ≤ k ∧ k ≤ f.hi))) := by
      by_cases hp : p f = true
      · rw [if_pos hp, getLsbD_setBits w _ hf hk, Nat.testBit_two_pow_sub_one]
        by_cases hin : f.lo ≤ k ∧ k ≤ f.hi
        · have : k - f.lo < f.hi + 1 - f.lo := by omega
          simp [hp, hin, this]
        · simp [hp, hin]
      · simp [hp]
    rw [List.foldl_cons, ih hl, hhead, List.any_cons, Bool.or_assoc]

/-- The mask of a table has the bits of the fields that satisfy `p`. -/
theorem getLsbD_fieldMask (r : Reg) (p : FieldDesc → Bool) {k : Nat} (hk : k < 64) :
    (fieldMask r p).getLsbD k = r.fields.any fun f => p f && decide (f.lo ≤ k ∧ k ≤ f.hi) := by
  rw [fieldMask, getLsbD_foldl_setBits p hk _ fun f hf => (range_of_fieldsBelow r.fields_below hf).1]
  simp

/-- A bit of a field is in a mask when its field is. -/
theorem getLsbD_fieldMask_of_mem {r : Reg} {f : FieldDesc} (hf : f ∈ r.fields) (p : FieldDesc → Bool) {k : Nat}
    (hlo : f.lo ≤ k) (hhi : k ≤ f.hi) : (fieldMask r p).getLsbD k = p f := by
  have hk : k < 64 := hhi.trans_lt (range_of_fieldsBelow r.fields_below hf).2
  rw [getLsbD_fieldMask r p hk, Bool.eq_iff_iff, List.any_eq_true]
  constructor
  · rintro ⟨g, hg, hpg⟩
    simp only [Bool.and_eq_true, decide_eq_true_eq] at hpg
    obtain ⟨hpg, hgk⟩ := hpg
    rwa [eq_of_fieldsBelow r.fields_below hf hg ⟨hlo, hhi⟩ hgk]
  · exact fun hpf => ⟨f, hf, by simp [hpf, hlo, hhi]⟩

/-! ## The access codes of a write and of a read -/

theorem getLsbD_accWrite (r : Reg) (locked : Bool) (old v : Word) {k : Nat} (hk : k < 64) :
    (accWrite r locked old v).getLsbD k
      = ((if (fieldMask r fun f => f.acc = .rw || (f.acc = .rwl && !locked)).getLsbD k then v.getLsbD k
          else old.getLsbD k) && !((fieldMask r fun f => f.acc = .w1c).getLsbD k && v.getLsbD k)) := by
  simp only [accWrite, BitVec.getLsbD_and, BitVec.getLsbD_or, BitVec.getLsbD_not, hk, decide_true, Bool.true_and]
  split <;> rename_i h <;> simp [h]

theorem getLsbD_accReadClear (r : Reg) (old : Word) {k : Nat} (hk : k < 64) :
    (accReadClear r old).getLsbD k = (old.getLsbD k && !(fieldMask r fun f => f.acc = .rc).getLsbD k) := by
  simp [accReadClear, hk]

/-- A write leaves the bits of a field that is neither RW, RWL nor W1C. -/
theorem getLsbD_accWrite_of_keeps {r : Reg} {f : FieldDesc} (hf : f ∈ r.fields)
    (hacc : f.acc ≠ .rw ∧ f.acc ≠ .rwl ∧ f.acc ≠ .w1c) (locked : Bool) (old v : Word) {k : Nat} (hlo : f.lo ≤ k)
    (hhi : k ≤ f.hi) : (accWrite r locked old v).getLsbD k = old.getLsbD k := by
  have hk : k < 64 := hhi.trans_lt (range_of_fieldsBelow r.fields_below hf).2
  obtain ⟨hrw, hrwl, hw1c⟩ := hacc
  rw [getLsbD_accWrite r locked old v hk, getLsbD_fieldMask_of_mem hf _ hlo hhi,
    getLsbD_fieldMask_of_mem hf _ hlo hhi]
  simp [hrw, hrwl, hw1c]

/-! ## SLOCK of FLT_CFG -/

theorem State.cfgPut_get {s u : State} {m : Mst} {kind addr : Nat} {r : Reg} {new : Word} {force : Bool}
    (h : s.cfgPut m kind addr r new force = (u, true)) : u.get r = new := by
  simp only [State.cfgPut] at h
  split at h
  · obtain ⟨rfl, -⟩ := Prod.mk.inj h
    exact s.get_set_same r new
  · split at h <;> obtain ⟨rfl, hdone⟩ := Prod.mk.inj h
    · exact State.get_set_same _ r new
    · cases hdone

/-- A plain write of FLT_CFG leaves SLOCK, its W1S bit. -/
theorem accWrite_fltCfg_slock (old v : Word) : bits (accWrite .fltCfg false old v) 63 63 = bits old 63 63 := by
  have hmem : fd 63 63 .w1s 0 ∈ Reg.fltCfg.fields := by simp [Reg.fields]
  rw [bits_eq_getLsbD, bits_eq_getLsbD,
    getLsbD_accWrite_of_keeps hmem (by decide) false old v (by decide) (by decide)]

/-- A write that does not set SLOCK is a change of configuration, which leaves it (16 R524). -/
theorem State.fltCfgPut_of_not_locks {s u : State} {m : Mst} {v : Word}
    (h : s.on F.fltCfg_SLOCK = true ∨ bits v 63 63 = 0)
    (hu : s.cfgPut m RK.reg 0x25008 .fltCfg (accWrite .fltCfg false (s.get .fltCfg) v) = (u, true)) :
    s.fltCfgPut m v = u ∧ u.rd F.fltCfg_SLOCK = s.rd F.fltCfg_SLOCK := by
  have hlocks : (bits v 63 63 == 1 && !s.on F.fltCfg_SLOCK) = false := by
    rcases h with h | h <;> simp [h]
  constructor
  · simp [State.fltCfgPut, hlocks, hu]
  · rw [State.rd, State.cfgPut_get hu, accWrite_fltCfg_slock]
    rfl

/-- A 1 sets SLOCK, under a LOCK record (16 R524). -/
theorem State.fltCfgPut_of_locks {s u : State} {m : Mst} {v : Word}
    (hoff : s.on F.fltCfg_SLOCK = false) (hv : bits v 63 63 = 1)
    (hu : s.cfgPut m RK.lock 0x25008 .fltCfg
      (setBits (accWrite .fltCfg false (s.get .fltCfg) v) 63 63 1) true = (u, true)) :
    s.fltCfgPut m v = u ∧ u.on F.fltCfg_SLOCK = true := by
  constructor
  · simp [State.fltCfgPut, hoff, hv, hu]
  · rw [State.on, State.rd, State.cfgPut_get hu, bits_setBits _ _ _ _ (by decide) (by decide)]
    rfl

/-! ## Reads of RSA words -/

theorem slotIn_of_lt {base n i : Nat} (h : i < n) : slotIn (base + 8 * i) base n = some i := by
  have : base ≤ base + 8 * i ∧ base + 8 * i < base + 8 * n := by omega
  simp [slotIn, this]

theorem slotIn_of_end_le {a base n : Nat} (h : base + 8 * n ≤ a) : slotIn a base n = none := by
  simp [slotIn, Nat.not_lt.mpr h]

/-- A VF reaches no register of the Provider register view (15 R479, 02 R54). -/
theorem State.Opens.not_isVf {s : State} {m : Mst} {addr : Nat} {k : AccKind} (h : s.Opens m addr k) :
    isVf m = false := by
  obtain ⟨-, hopen⟩ := h
  have hreach : s.reaches m addr k = true := by
    by_contra hn
    simp [State.openReg, hn] at hopen
  by_cases hhost : mstClass m = 0
  · have hpf : isPf (mstFunc m) = true := by
      simp only [State.reaches, hhost, Bool.and_eq_true] at hreach
      obtain ⟨⟨hpf, -⟩, -⟩ := hreach
      exact hpf
    simp [isVf, hpf]
  · simp [isVf, hhost]

theorem exec_registerReadClear (m : Mst) (addr : BitVec 25) (s : State) :
    exec (.registerReadClear m addr) s = execRegisterReadClear m addr s := rfl

/-- An aligned read of a register that opens is its read by address. -/
theorem exec_registerReadClear_opens {s : State} {m : Mst} {addr : BitVec 25} (h : s.Opens m addr.toNat .read)
    (haligned : addr.toNat % 8 = 0) : exec (.registerReadClear m addr) s = .next (s.readReg m addr.toNat).ended := by
  have hvf : isVf m = false := h.not_isVf
  obtain ⟨hwait, hopen⟩ := h
  have hwait : s.waitsBehind m = false := by simpa using hwait
  simp [exec_registerReadClear, execRegisterReadClear, State.masterRead, hwait, haligned, hvf, hopen, fin_next]

theorem State.readReg_semAcq (s : State) (m : Mst) (n : Fin 4096) :
    s.readReg m (0x40000 + 8 * n.val) = s.semAcq m n := by
  have haligned : (0x40000 + 8 * n.val) % 8 = 0 := by omega
  simp [State.readReg, haligned, slotIn_of_lt n.isLt]

theorem State.readReg_semTry (s : State) (m : Mst) (n : Fin 4096) :
    s.readReg m (0x48000 + 8 * n.val) = s.semTryWord m n := by
  have haligned : (0x48000 + 8 * n.val) % 8 = 0 := by omega
  have hacq : slotIn (0x48000 + 8 * n.val) 0x40000 4096 = none := slotIn_of_end_le (by omega)
  simp [State.readReg, haligned, hacq, slotIn_of_lt n.isLt]

end Sys2Proof.Machine
end

section
/-! PROOFS. The access codes of 00 R4 and R5. -/

namespace Sys2Proof.Machine

/-- Settles O39: each bit of a word is that of its one field, whose access code decides it; SLOCK is such a bit of
FLT_CFG, and a read of an RSA word is the read by address of its semaphore. -/
theorem accessCodes : Obligations.AccessCodes := by
  unfold Obligations.AccessCodes
  refine ⟨fun r old v => ⟨fun locked k hk => ?_, fun k hk => getLsbD_accReadClear r old hk, ?_, ?_⟩,
    fun m v s => ⟨fun h u hu => State.fltCfgPut_of_not_locks h hu,
      fun hoff hv u hu => State.fltCfgPut_of_locks hoff hv hu⟩,
    fun m n s => ⟨fun h => ?_, fun h => ?_⟩⟩
  · rw [getLsbD_accWrite r locked old v hk]
    refine ⟨?_, ?_, ?_⟩ <;> intro hrw hw1c <;> simp [hrw, hw1c]
  · intro f hf hacc k hlo hhi
    rw [getLsbD_fieldMask_of_mem hf _ hlo hhi]
    rcases hacc with hacc | hacc <;> simp [hacc]
  · intro f hf hacc k hlo hhi
    have hkeeps : f.acc ≠ .rw ∧ f.acc ≠ .rwl ∧ f.acc ≠ .w1c := by simp [hacc]
    exact ⟨getLsbD_accWrite_of_keeps hf hkeeps false old v hlo hhi,
      getLsbD_accWrite_of_keeps hf hkeeps true old v hlo hhi⟩
  · have haddr : (BitVec.ofNat 25 (0x40000 + 8 * n.val)).toNat = 0x40000 + 8 * n.val := by
      rw [BitVec.toNat_ofNat, Nat.mod_eq_of_lt (by omega)]
    rw [exec_registerReadClear_opens (by rwa [haddr]) (by omega), haddr, State.readReg_semAcq]
  · have haddr : (BitVec.ofNat 25 (0x48000 + 8 * n.val)).toNat = 0x48000 + 8 * n.val := by
      rw [BitVec.toNat_ofNat, Nat.mod_eq_of_lt (by omega)]
    rw [exec_registerReadClear_opens (by rwa [haddr]) (by omega), haddr, State.readReg_semTry]

end Sys2Proof.Machine
end

section
/-! SUPPORT. Fields of one word that do not overlap (00 R4). -/

namespace Sys2Proof.Machine

theorem testBit_bits (w : Word) {hi lo : Nat} (k : Nat) :
    (bits w hi lo).testBit k = (decide (k < hi + 1 - lo) && w.getLsbD (lo + k)) := by
  simp [bits, Nat.testBit_mod_two_pow, Nat.testBit_div_two_pow, BitVec.getLsbD, Nat.add_comm]

/-- A field is left by the replacement of one that does not overlap it. -/
theorem bits_setBits_apart (w : Word) {hi lo hi' lo' : Nat} (v : Nat) (h : lo ≤ hi) (h' : hi' < 64)
    (hapart : hi' < lo ∨ hi < lo') : bits (setBits w hi lo v) hi' lo' = bits w hi' lo' := by
  refine Nat.eq_of_testBit_eq fun k => ?_
  rw [testBit_bits, testBit_bits]
  by_cases hk : k < hi' + 1 - lo'
  · rw [getLsbD_setBits w v h (by omega), if_neg (by omega)]
  · simp [hk]

theorem bits_lt (w : Word) (hi lo : Nat) : bits w hi lo < 2 ^ (hi + 1 - lo) := Nat.mod_lt _ (Nat.two_pow_pos _)

/-- Two fields share no bit. -/
def Fld.Apart (f g : Fld) : Prop := g.reg ≠ f.reg ∨ g.hi < f.lo ∨ f.hi < g.lo

theorem State.rd_wr_apart (s : State) {f g : Fld} (v : Nat) (hf : f.lo ≤ f.hi) (hg : g.hi < 64) (h : f.Apart g) :
    (s.wr f v).rd g = s.rd g := by
  by_cases hreg : g.reg = f.reg
  · have hdisj : g.hi < f.lo ∨ f.hi < g.lo := h.resolve_left (not_not.mpr hreg)
    rw [State.rd, State.rd, State.wr, hreg, State.get_set_same, bits_setBits_apart _ v hf hg hdisj]
  · exact s.rd_wr_other v hreg

end Sys2Proof.Machine
end

section
/-! SUPPORT. Doorbell pages: the slots that a posted write rings (02 R34). -/

namespace Sys2Proof.Machine

theorem length_bytesOf (n v : Nat) : (bytesOf n v).length = n := by
  induction n generalizing v with
  | zero => rfl
  | succ n ih => simp [bytesOf, ih]

theorem ofBytes_bytesOf (n v : Nat) : ofBytes (bytesOf n v) = v % 256 ^ n := by
  induction n generalizing v with
  | zero => simp [bytesOf, ofBytes, Nat.mod_one]
  | succ n ih =>
    have hpow : 256 ^ (n + 1) = 256 * 256 ^ n := Nat.pow_succ'
    rw [bytesOf, ofBytes, ih, BitVec.toNat_ofNat, hpow, Nat.mod_mul]

/-- Eight bytes of a word at the front spell it. -/
theorem wordOfBytes_bytesOf_append (w : Word) (bs : List Byte) : wordOfBytes (bytesOf 8 w.toNat ++ bs) = w := by
  have hlen : (bytesOf 8 w.toNat).length = 8 := length_bytesOf 8 _
  have hword : w.toNat % 256 ^ 8 = w.toNat := Nat.mod_eq_of_lt w.isLt
  rw [wordOfBytes, List.take_left' hlen, ofBytes_bytesOf, hword, BitVec.ofNat_toNat, BitVec.setWidth_eq]

/-- A byte before the next aligned offset is passed over. -/
theorem State.ringSlots_misaligned {func off k : Nat} {bs : List Byte} (s : State) (h : off % 8 ≠ 0) :
    State.ringSlots func off (k + 1) bs s = State.ringSlots func (off + 1) k (bs.drop 1) s := by
  rw [State.ringSlots]
  split
  · subst bs
    cases k <;> simp [State.ringSlots]
  · rw [if_neg fun hslot => h hslot.1]

/-- Fewer than eight bytes ring nothing. -/
theorem State.ringSlots_short (func off k : Nat) (bs : List Byte) (s : State) (h : bs.length < 8) :
    State.ringSlots func off k bs s = s := by
  induction k generalizing off bs with
  | zero => rfl
  | succ k ih =>
    have hpart : ¬(off % 8 = 0 ∧ 8 ≤ bs.length) := fun hslot => Nat.not_le.mpr h hslot.2
    rw [State.ringSlots, if_neg hpart, ih _ _ (by simp; omega)]
    split <;> rfl

/-- A whole aligned slot inside the window rings its doorbell. -/
theorem State.ringSlots_slot {func off k : Nat} (w : Word) (bs : List Byte) (s : State) (halign : off % 8 = 0)
    (hin : off + 8 ≤ barSize 2 func) :
    State.ringSlots func off (k + 1) (bytesOf 8 w.toNat ++ bs) s
      = State.ringSlots func (off + 8) k bs (s.doorbell func w) := by
  have hlen : (bytesOf 8 w.toNat).length = 8 := length_bytesOf 8 _
  have hne : bytesOf 8 w.toNat ++ bs ≠ [] := List.ne_nil_of_length_pos (by simp [hlen])
  have hslot : off % 8 = 0 ∧ 8 ≤ (bytesOf 8 w.toNat ++ bs).length := ⟨halign, by simp [hlen]⟩
  rw [State.ringSlots, if_neg hne, if_pos hslot, if_pos hin, wordOfBytes_bytesOf_append, List.drop_left' hlen]

/-- The slots of an aligned write ring in ascending order; the bytes behind the last whole one ring nothing. -/
theorem State.ringSlots_slots {func : Nat} {tail : List Byte} (htail : tail.length < 8) (ws : List Word) (off k : Nat)
    (s : State) (halign : off % 8 = 0) (hin : off + 8 * ws.length ≤ barSize 2 func) (hk : ws.length ≤ k) :
    State.ringSlots func off k ((ws.flatMap fun w => bytesOf 8 w.toNat) ++ tail) s
      = ws.foldl (fun t w => t.doorbell func w) s := by
  induction ws generalizing off k s with
  | nil => exact State.ringSlots_short func off k tail s htail
  | cons w ws ih =>
    obtain ⟨k, rfl⟩ : ∃ m, k = m + 1 := ⟨k - 1, by simp at hk; omega⟩
    simp only [List.length_cons] at hin hk
    rw [List.flatMap_cons, List.append_assoc, State.ringSlots_slot w _ s halign (by omega),
      ih (off + 8) k _ (by omega) (by omega) (by omega), List.foldl_cons]

/-- The bytes up to the next aligned offset are passed over. -/
theorem State.ringSlots_lead {func : Nat} (lead bs : List Byte) (off k : Nat) (s : State)
    (hlead : lead.length = (8 - off % 8) % 8) :
    State.ringSlots func off (k + lead.length) (lead ++ bs) s = State.ringSlots func (off + lead.length) k bs s := by
  induction lead generalizing off with
  | nil => rfl
  | cons b lead ih =>
    simp only [List.length_cons] at hlead
    have hrest : lead.length = (8 - (off + 1) % 8) % 8 := by omega
    rw [List.length_cons, ← Nat.add_assoc, State.ringSlots_misaligned s (by omega), List.cons_append, List.drop_one,
      List.tail_cons, ih _ hrest]
    congr 1
    omega

/-- A posted write to a doorbell page rings its whole aligned slots (02 R34). -/
theorem State.doorbellWrite_slots {func off : Nat} (lead tail : List Byte) (ws : List Word) (s : State)
    (hlead : lead.length = (8 - off % 8) % 8) (htail : tail.length < 8)
    (hin : off + lead.length + 8 * ws.length ≤ barSize 2 func) :
    s.doorbellWrite func off (lead ++ (ws.flatMap fun w => bytesOf 8 w.toNat) ++ tail)
      = ws.foldl (fun t w => t.doorbell func w) s := by
  have hsum : ((ws.flatMap fun w => bytesOf 8 w.toNat) ++ tail).length = 8 * ws.length + tail.length := by
    simp [length_bytesOf, Nat.mul_comm]
  rw [State.doorbellWrite, List.append_assoc, List.length_append, Nat.add_comm, State.ringSlots_lead _ _ _ _ _ hlead]
  exact State.ringSlots_slots htail ws _ _ s (by omega) hin (by omega)

theorem exec_doorbellPageWrite (p : Fin 4) (f : Fin 256) (off : Nat) (bs : List Byte) (s : State) :
    exec (.doorbellPageWrite p f off bs) s = execDoorbellPageWrite p f off bs s := rfl

end Sys2Proof.Machine
end

section
/-! PROOFS. The doorbell pages (02 R34, R41). -/

namespace Sys2Proof.Machine

/-- Settles O5: the bytes before the first aligned slot are passed over, each slot rings once, and the bytes behind the
last whole slot ring nothing. -/
theorem doorbellPageWriteRingsWholeSlots : Obligations.DoorbellPageWriteRingsWholeSlots := by
  unfold Obligations.DoorbellPageWriteRingsWholeSlots
  intro p f off s hans hhalt
  refine ⟨fun bs hheld => ?_, fun lead tail ws hfree hlead htail hin => ?_⟩
  · simp [exec_doorbellPageWrite, execDoorbellPageWrite, hans, hhalt, hheld, fin_next]
  · rw [exec_doorbellPageWrite, execDoorbellPageWrite, ← State.doorbellWrite_slots lead tail ws s hlead htail hin]
    simp [hans, hhalt, hfree, fin_next]

end Sys2Proof.Machine
end

section
/-! PROOFS. What power-on reset leaves (02 R48, 20). -/

namespace Sys2Proof.Machine

/-- After power-on reset a field is that of the reset value of its word. -/
theorem State.rd_reset (f : Fld) : State.reset.rd f = bits f.reg.reset f.hi f.lo := rfl

/-- A field of a word whose fields all reset to zero is zero after power-on reset. -/
theorem State.rd_reset_eq_zero (f : Fld) (h : (f.reg.fields.all fun d => d.reset == 0) = true) :
    State.reset.rd f = 0 := by
  have fold (l : List FieldDesc) (hl : ∀ d ∈ l, d.reset = 0) :
      l.foldl (fun w d => if d.reset = 0 then w else setBits w d.hi d.lo d.reset) 0 = (0 : Word) := by
    induction l with
    | nil => rfl
    | cons d l ih =>
      obtain ⟨hd, hl⟩ := List.forall_mem_cons.mp hl
      rw [List.foldl_cons, if_pos hd, ih hl]
  have hreset : f.reg.reset = 0 := fold _ (by simpa using h)
  simp [State.rd_reset, hreset, bits]

/-- HI and LO of a watermark register after power-on reset are the defaults of 02 R48. -/
theorem State.rd_wm_reset (i : Nat) :
    State.reset.rd (F.wm_HI i) = wmHiReset i ∧ State.reset.rd (F.wm_LO i) = wmLoReset i := by
  have hhi : 0 < wmHiReset i ∧ wmHiReset i < 2 ^ 13 := by unfold wmHiReset; split_ifs <;> omega
  have hlo : 0 < wmLoReset i ∧ wmLoReset i < 2 ^ 13 := by unfold wmLoReset; split_ifs <;> omega
  have hword : State.reset.get (.wm i) = setBits (setBits 0 44 32 (wmHiReset i)) 28 16 (wmLoReset i) := by
    simp [State.get, State.reset, regFind, Reg.reset, Reg.fields, fd, hhi.1.ne', hlo.1.ne']
  constructor
  · rw [State.rd, hword, bits_setBits_apart _ _ (by decide) (by simp) (by simp),
      bits_setBits _ _ _ _ (by decide) (by decide)]
    exact Nat.mod_eq_of_lt hhi.2
  · rw [State.rd, hword, bits_setBits _ _ _ _ (by decide) (by decide)]
    exact Nat.mod_eq_of_lt hlo.2

/-- Settles O4: no word is stored after power-on reset, so each reads as the reset value of its table, and no unit holds
anything. -/
theorem resetValues : Obligations.ResetValues := by
  unfold Obligations.ResetValues
  simp only [State.rd_wm_reset]
  refine ⟨fun r => rfl, fun q => ?_, fun n => ?_, fun t => ?_, fun i => ?_, fun i w => rfl, fun k => rfl, rfl,
    fun i hi => ?_, rfl, rfl, fun i h5 h20 => ?_, rfl, rfl⟩
  · exact State.rd_reset_eq_zero (F.qctx_STATE q) rfl
  · exact State.rd_reset_eq_zero (F.conn_STATE n) rfl
  · exact State.rd_reset_eq_zero (F.tree_STATE t) rfl
  · exact State.rd_reset_eq_zero (F.cvs_STATE i) rfl
  · simp [wmHiReset, wmLoReset, hi]
  · have h4 : ¬ i < 4 ∧ i ≠ 4 ∧ i < 21 := by omega
    simp [wmHiReset, wmLoReset, h4]

end Sys2Proof.Machine
end

section
/-! SUPPORT. What the state of a host port leaves of the conditions that its commands ask (02 R38 to R44). -/

namespace Sys2Proof.Machine

theorem exec_easelWrite (p : Fin 4) (f : Fin 256) (off : Nat) (bs : List Byte) (s : State) :
    exec (.easelWrite p f off bs) s = execEaselWrite p f off bs s := rfl

theorem exec_easelWriteApply (p : Fin 4) (s : State) :
    exec (.easelWriteApply p) s = execEaselWriteApply p s := rfl

theorem exec_easelAssemblyTimeout (p : Fin 4) (f : Fin 256) (slot : Fin 64) (s : State) :
    exec (.easelAssemblyTimeout p f slot) s = execEaselAssemblyTimeout p f slot s := rfl

theorem exec_easelTake (p : Fin 4) (s : State) : exec (.easelTake p) s = execEaselTake p s := rfl

/-- The watermark flag follows without a change of a host port. -/
@[simp] theorem State.wmEval_hosts (s : State) (i depth : Nat) : (s.wmEval i depth).hosts = s.hosts := by
  unfold State.wmEval
  dsimp only
  split_ifs <;> rfl

@[simp] theorem State.wmEval_host (s : State) (i depth n : Nat) : (s.wmEval i depth).host n = s.host n := by
  rw [State.host, State.wmEval_hosts, State.host]

/-- An easel write that is applied leaves at most 128 assemblies in progress (02 R38). -/
theorem State.easelApply_asm_le {s t : State} {p f off : Nat} {bs : List Byte} (h : s.easelApply p f off bs = some t) :
    (t.host p).asm.length ≤ 128 := by
  unfold State.easelApply at h
  dsimp only at h
  split at h
  · rename_i hroom
    obtain rfl := Option.some.inj h
    rw [State.wmEval_host, State.setHost_host_same]
    exact (List.length_filter_le _ _).trans hroom.1
  · cases h

/-- The requests that a port holds are no part of what makes a function answer (02 R63). -/
theorem State.fnAnswers_setHeld (s : State) (p func : Nat) (l : List HeldWrite) :
    (s.setHost p fun h => { h with held := l }).fnAnswers func = s.fnAnswers func := by
  have hhost (n : Nat) : ∃ k, (s.setHost p fun h => { h with held := l }).host n = { s.host n with held := k } := by
    rw [State.setHost_host]
    split
    · next hn => exact ⟨l, by rw [hn]⟩
    · exact ⟨(s.host n).held, rfl⟩
  obtain ⟨k, hk⟩ := hhost (func / 256)
  have hthere : (s.setHost p fun h => { h with held := l }).fnThere func = s.fnThere func := rfl
  simp only [State.fnAnswers, State.hostBusyBoot, State.inFlr, hk, hthere]
  rfl

/-- While a request is held, those that may be performed are, in order, from the head (02 R38, R41). -/
theorem execEaselWriteApply_some {p : Fin 4} {s t : State} {w : HeldWrite} {rest : List HeldWrite}
    (hheld : (s.host p).held = w :: rest) (ht : s.releaseHead p = some t) :
    exec (.easelWriteApply p) s = .next (State.releaseHeld p rest.length t).ended := by
  simp [exec_easelWriteApply, execEaselWriteApply, hheld, State.releaseHeld, ht, fin_next]

theorem execEaselWriteApply_none {p : Fin 4} {s : State} (ht : s.releaseHead p = none) :
    exec (.easelWriteApply p) s = .next s.ended := by
  rw [exec_easelWriteApply, execEaselWriteApply, fin_next]
  cases (s.host p).held.length <;> simp [State.releaseHeld, ht]

end Sys2Proof.Machine
end

section
/-! PROOFS. Easel writes and the head of an easel FIFO (02 R38 to R44). -/

namespace Sys2Proof.Machine

/-- Settles O6: an easel write is applied or held, a held request is performed from the head of its port, and a late
assembly is discarded. -/
theorem easelWritesApplyWholeOrWait : Obligations.EaselWritesApplyWholeOrWait := by
  unfold Obligations.EaselWritesApplyWholeOrWait
  intro p f off bs s
  refine ⟨fun hans hhalt hheld hthr => ⟨fun t ht => ⟨?_, State.easelApply_asm_le ht⟩, fun ht => ?_⟩,
    fun w rest hheld hreq => ⟨fun t => execEaselWriteApply_some hheld, execEaselWriteApply_none, ?_, ?_⟩,
    fun w rest r hheld hreq => ⟨fun t => execEaselWriteApply_some hheld, ?_⟩, fun slot a hfind => ?_⟩
  · simp [exec_easelWrite, execEaselWrite, hans, hhalt, hheld, hthr, ht, fin_next]
  · simp [exec_easelWrite, execEaselWrite, hans, hhalt, hheld, hthr, ht, fin_next]
  · intro hread hbar hans hhalt hthr
    have hhalt' : (s.setHost p fun h => { h with held := rest }).halted = false := hhalt
    have hthr' : (s.setHost p fun h => { h with held := rest }).throttled p = false := hthr
    simp [State.releaseHead, hheld, hreq, hread, hbar, State.fnAnswers_setHeld, hans, hhalt', hthr']
  · intro hread
    simp [State.releaseHead, hheld, hreq, hread]
  · intro hposted
    simp [State.releaseHead, hheld, hreq, hposted]
  · simp only [exec_easelAssemblyTimeout, execEaselAssemblyTimeout, hfind, fin_next]

/-- Settles O7: the conditions of 02 R42 to R44 decide, in this order, whether the head is refused, dropped, waits or is
taken. -/
theorem easelHeadIsTakenDroppedOrRefused : Obligations.EaselHeadIsTakenDroppedOrRefused := by
  unfold Obligations.EaselHeadIsTakenDroppedOrRefused
  intro p s e rest hitems hhalt hdrain
  refine ⟨fun hbad => ?_, fun howns hlen htype hact => ⟨fun hroom => ?_, fun hcq hroom hbehind => ?_,
    fun hcq hroom hbehind hcoll => ?_⟩⟩
  all_goals
    simp only [exec_easelTake, execEaselTake, hitems, hhalt, hdrain]
  · rcases hbad with hbad | hbad <;> simp [hbad, fin_next, State.easelOut]
  · simp [howns, hlen, htype, hroom, fin_next, State.easelOut, Nat.not_lt.mpr]
  · simp [howns, hlen, htype, hroom, hact, hcq, hbehind, Nat.not_lt.mpr]
  · simp [howns, hlen, htype, hroom, hact, hcq, hbehind, hcoll, fin_next, State.easelOut, Nat.not_lt.mpr]

end Sys2Proof.Machine
end

section
/-! SUPPORT. The event FIFOs and the watermark flags, each operation said once (02 R45 to R59). -/

namespace Sys2Proof.Machine

@[simp] theorem State.wmEval_evs (s : State) (i depth : Nat) : (s.wmEval i depth).evs = s.evs := by
  unfold State.wmEval
  dsimp only
  split_ifs <;> rfl

@[simp] theorem State.wmEval_ev (s : State) (i depth n : Nat) : (s.wmEval i depth).ev n = s.ev n := by
  rw [State.ev, State.wmEval_evs, State.ev]

/-- An entry stamped with its sequence number, as it stands in an event FIFO (02 R56). -/
def Quad.stamped (e : Quad) (eseq : Nat) : Quad := { e with w3 := BitVec.ofNat 64 (eseq % 2 ^ 32 * 2 ^ 32) }

/-- An event FIFO that takes an entry stamps it and counts its sequence number on (02 R56). -/
theorem State.evPush_ev (s : State) (k : Nat) (e : Quad) :
    (s.evPush k e).ev k
      = { s.ev k with fifo := (s.ev k).fifo.push (fifoLog (4 + k)) (e.stamped (s.ev k).eseq)
                      eseq := ((s.ev k).eseq + 1) % 2 ^ 32 } := by
  rw [State.evPush, State.wmEval_ev, State.setEv_ev_same, Quad.stamped]

theorem State.evPush_items (s : State) (k : Nat) (e : Quad) :
    ((s.evPush k e).ev k).fifo.items = (s.ev k).fifo.items ++ [e.stamped (s.ev k).eseq] := by
  rw [State.evPush_ev, Fifo.push]

/-- An entry that is lost counts, and the entries held stay (02 R59). -/
theorem State.evLost_ev (s : State) (k : Nat) :
    (s.evLost k).ev k = { s.ev k with lost := satAdd 16 (s.ev k).lost 1 } := by
  have hcount (t : State) : ((if k = 0 then t.count F.pieAttn_LOST else t).ev k) = t.ev k := by split <;> rfl
  rw [State.evLost, hcount, State.setEv_ev_same]

/-- The overflow entry joins the FIFO that has a slot for it, and the count returns to zero (02 R59). -/
theorem State.evOverflow_of_lost {s : State} {k : Nat} (hlost : (s.ev k).lost ≠ 0)
    (hfull : (s.ev k).fifo.full (fifoLog (4 + k)) = false) :
    s.evOverflow k = (s.evPush k (evEntry s.tim 7 0 0 (s.ev k).lost)).setEv k fun v => { v with lost := 0 } := by
  simp [State.evOverflow, hlost, hfull]

theorem State.evOverflow_of_none {s : State} {k : Nat}
    (h : (s.ev k).lost = 0 ∨ (s.ev k).fifo.full (fifoLog (4 + k)) = true) : s.evOverflow k = s := by
  rcases h with h | h <;> simp [State.evOverflow, h]

/-- The overflow entry leaves the entries held at the front of the FIFO. -/
theorem State.evOverflow_front (s : State) (k : Nat) :
    (s.ev k).fifo.items <+: ((s.evOverflow k).ev k).fifo.items := by
  by_cases h : (s.ev k).lost = 0 ∨ (s.ev k).fifo.full (fifoLog (4 + k)) = true
  · rw [State.evOverflow_of_none h]
  · obtain ⟨hlost, hfull⟩ := not_or.mp h
    rw [State.evOverflow_of_lost hlost (Bool.eq_false_iff.mpr hfull), State.setEv_ev_same, State.evPush_items]
    exact ⟨_, rfl⟩

/-- What a post does (02 R51, R59): the entry is lost before or after the overflow entry, or joins behind that. -/
theorem State.evPost_cases (s : State) (k cls master detail arg : Nat) (low : Bool) :
    s.evPost k cls master detail arg low = s.evLost k
      ∨ (((s.evOverflow k).ev k).fifo.full (fifoLog (4 + k)) = true
          ∧ s.evPost k cls master detail arg low = (s.evOverflow k).evLost k)
      ∨ (((s.evOverflow k).ev k).fifo.full (fifoLog (4 + k)) = false
          ∧ ∃ e, s.evPost k cls master detail arg low = (s.evOverflow k).evPush k e) := by
  unfold State.evPost
  dsimp only
  split
  · exact .inl rfl
  · split
    · next hfull => exact .inr (.inl ⟨hfull, rfl⟩)
    · next hfull => exact .inr (.inr ⟨Bool.eq_false_iff.mpr hfull, _, rfl⟩)

/-- A post leaves the entries held, in order, at the front (02 R46). -/
theorem State.evPost_front (s : State) (k cls master detail arg : Nat) (low : Bool) :
    (s.ev k).fifo.items <+: ((s.evPost k cls master detail arg low).ev k).fifo.items := by
  rcases s.evPost_cases k cls master detail arg low with h | ⟨-, h⟩ | ⟨-, e, h⟩ <;> rw [h]
  · rw [State.evLost_ev]
  · rw [State.evLost_ev]
    exact s.evOverflow_front k
  · rw [State.evPush_items]
    exact (s.evOverflow_front k).trans (⟨_, rfl⟩)

/-- A post to a full FIFO is lost (02 R46, R59). -/
theorem State.evPost_full {s : State} {k : Nat} (hfull : (s.ev k).fifo.full (fifoLog (4 + k)) = true)
    (cls master detail arg : Nat) (low : Bool) : s.evPost k cls master detail arg low = s.evLost k := by
  have hover : s.evOverflow k = s := State.evOverflow_of_none (.inr hfull)
  rcases s.evPost_cases k cls master detail arg low with h | ⟨-, h⟩ | ⟨hfree, -⟩
  · exact h
  · rw [h, hover]
  · rw [hover, hfull] at hfree
    cases hfree

/-- A pop takes the oldest entry out (02 R56); the overflow entry follows only entries that were lost. -/
theorem State.evPop_items {s : State} {k : Nat} {e : Quad} {rest : List Quad}
    (hitems : (s.ev k).fifo.items = e :: rest) (hlost : (s.ev k).lost = 0) : ((s.evPop k).ev k).fifo.items = rest := by
  set t := s.setEv k fun v => { v with fifo := v.fifo.pop (fifoLog (4 + k)) } with ht
  have hpop (depth : Nat) : ((t.wmEval (4 + k) depth).ev k).fifo.items = rest
      ∧ ((t.wmEval (4 + k) depth).ev k).lost = 0 := by
    rw [State.wmEval_ev, ht, State.setEv_ev_same]
    exact ⟨by simp [Fifo.pop, hitems], hlost⟩
  unfold State.evPop
  dsimp only
  rw [← ht]
  obtain ⟨hrest, hzero⟩ := hpop ((t.ev k).fifo.depth (fifoLog (4 + k)))
  split
  · rw [State.evOverflow_of_none (.inl hzero), hrest]
  · exact hrest

/-- The fields of an overflow entry (02 R59). -/
theorem evEntry_overflow (time lost eseq : Nat) :
    let e := (evEntry time 7 0 0 lost).stamped eseq
    bits e.w1 63 48 = 7 ∧ bits e.w1 47 0 = 0 ∧ e.w2 = BitVec.ofNat 64 lost ∧ bits e.w3 63 32 = eseq % 2 ^ 32 := by
  refine ⟨by simp [Quad.stamped, evEntry, bits], by simp [Quad.stamped, evEntry, bits], rfl, ?_⟩
  simp only [Quad.stamped, bits, BitVec.toNat_ofNat]
  omega

theorem exec_overflowEntryWrite (k : Fin 17) (s : State) :
    exec (.overflowEntryWrite k) s = execOverflowEntryWrite k s := rfl

theorem exec_pieEvtPop (m : Mst) (v : Word) (s : State) : exec (.pieEvtPop m v) s = execPieEvtPop m v s := rfl

theorem exec_islEvtPop (m : Mst) (i : Fin 16) (v : Word) (s : State) :
    exec (.islEvtPop m i v) s = execIslEvtPop m i v s := rfl

end Sys2Proof.Machine
end

section
/-! PROOFS. The event FIFOs (02 R46, R56 to R59). -/

namespace Sys2Proof.Machine

/-- Settles O9: a post appends or is lost, the overflow entry appends, and a pop takes the head. -/
theorem eventFifosKeepUnreadEntries : Obligations.EventFifosKeepUnreadEntries := by
  unfold Obligations.EventFifosKeepUnreadEntries
  refine ⟨fun s k cls master detail arg low => ⟨s.evPost_front k cls master detail arg low, fun hfull => ?_⟩,
    fun s k hlost hfull hthr => ⟨?_, ?_, (evEntry s.tim 7 0 0 (s.ev k).lost).stamped (s.ev k).eseq, ?_, ?_⟩,
    fun s m v hopen => ?_, fun s m i v hopen => ?_, fun s k e rest hitems hlost => State.evPop_items hitems hlost⟩
  · rw [State.evPost_full hfull, State.evLost_ev]
    exact ⟨rfl, rfl⟩
  · simp [exec_overflowEntryWrite, execOverflowEntryWrite, hthr, fin_next]
  · rw [State.evOverflow_of_lost hlost hfull, State.setEv_ev_same]
  · rw [State.evOverflow_of_lost hlost hfull, State.setEv_ev_same, State.evPush_items]
  · exact evEntry_overflow s.tim (s.ev k).lost (s.ev k).eseq
  · rw [exec_pieEvtPop, execPieEvtPop, regWriteRow_opens hopen]
  · rw [exec_islEvtPop, execIslEvtPop, regWriteRow_opens hopen, State.islPop, State.atF]
    simp only [decide_eq_true_eq]

end Sys2Proof.Machine
end

section
/-! SUPPORT. What the record of a fault, its events and the counters leave (16 R515, 17 R539): the words of `Reg.steady`,
HI and LO of every watermark register, the ready pins, the clock and the boot unit (`Steady`). -/

namespace Sys2Proof.Machine

/-- The words that no count and no record of a fault touches: FLT_HALT, GLB_WM_REJECT, the controls of the gates, the
states of the links, and word 0 of queues, connections and trees. -/
def Reg.steady : Reg → Bool
  | .fltHalt | .glbWmReject | .gteCtl _ | .lnkStat _ | .qctx _ 0 | .conn _ 0 | .tree _ 0 => true
  | _ => false

/-- From `s` to `t` no steady word changes, no HI and no LO, and neither pins, clock nor boot. -/
structure Steady (s t : State) : Prop where
  reg : ∀ r, r.steady = true → t.get r = s.get r
  hi : ∀ i, t.rd (F.wm_HI i) = s.rd (F.wm_HI i)
  lo : ∀ i, t.rd (F.wm_LO i) = s.rd (F.wm_LO i)
  pins : t.pins = s.pins
  clock : t.clock = s.clock
  boot : t.boot = s.boot

theorem Steady.refl (s : State) : Steady s s := ⟨fun _ _ => rfl, fun _ => rfl, fun _ => rfl, rfl, rfl, rfl⟩

theorem Steady.trans {s t u : State} (h : Steady s t) (g : Steady t u) : Steady s u :=
  ⟨fun r hr => (g.reg r hr).trans (h.reg r hr), fun i => (g.hi i).trans (h.hi i), fun i => (g.lo i).trans (h.lo i),
    g.pins.trans h.pins, g.clock.trans h.clock, g.boot.trans h.boot⟩

/-- A change of other parts of the state. -/
theorem Steady.parts {s t : State} (hregs : t.regs = s.regs := by rfl) (hpins : t.pins = s.pins := by rfl)
    (hclock : t.clock = s.clock := by rfl) (hboot : t.boot = s.boot := by rfl) : Steady s t := by
  have hget (r : Reg) : t.get r = s.get r := by rw [State.get, State.get, hregs]
  exact ⟨fun r _ => hget r, fun i => by rw [State.rd, hget, State.rd], fun i => by rw [State.rd, hget, State.rd], hpins,
    hclock, hboot⟩

theorem Steady.set (s : State) {r : Reg} (v : Word) (hr : r.steady = false := by rfl)
    (hw : ∀ i, Reg.wm i ≠ r := by simp) : Steady s (s.set r v) := by
  have hword (k : Reg) (hk : k ≠ r) : (s.set r v).get k = s.get k := s.get_set_other v hk
  exact ⟨fun k hk => hword k fun h => by simp [h, hr] at hk, fun i => by rw [State.rd, hword _ (hw i), State.rd],
    fun i => by rw [State.rd, hword _ (hw i), State.rd], rfl, rfl, rfl⟩

theorem Steady.wr (s : State) {f : Fld} (v : Nat) (hr : f.reg.steady = false := by rfl)
    (hw : ∀ i, Reg.wm i ≠ f.reg := by simp) : Steady s (s.wr f v) := Steady.set s _ hr hw

theorem Steady.count (s : State) {f : Fld} (k : Nat := 1) (hr : f.reg.steady = false := by rfl)
    (hw : ∀ i, Reg.wm i ≠ f.reg := by simp) : Steady s (s.count f k) := Steady.set s _ hr hw

theorem Steady.ite {c : Prop} [Decidable c] {s t u : State} (ht : c → Steady s t) (hu : ¬c → Steady s u) :
    Steady s (if c then t else u) := by
  split
  · exact ht ‹_›
  · exact hu ‹_›

theorem Steady.foldl {α : Type} {f : State → α → State} (hf : ∀ t x, Steady t (f t x)) (l : List α) (s : State) :
    Steady s (l.foldl f s) := by
  induction l generalizing s with
  | nil => exact Steady.refl s
  | cons x l ih => exact (hf s x).trans (ih (f s x))

/-- A field of a watermark register other than HI and LO is written. -/
theorem Steady.wrWm (s : State) {i hi lo : Nat} (v : Nat) (h : lo ≤ hi)
    (hapart : 44 < lo ∨ hi < 16) : Steady s (s.wr ⟨.wm i, hi, lo⟩ v) := by
  refine ⟨fun r hr => s.get_set_other _ ?_, fun j => ?_, fun j => ?_, rfl, rfl, rfl⟩
  · rintro rfl
    cases hr
  · exact s.rd_wr_apart v h (by simp) (by simp [Fld.Apart]; omega)
  · exact s.rd_wr_apart v h (by simp) (by simp [Fld.Apart]; omega)

theorem State.wmEval_steady (s : State) (i depth : Nat) : Steady s (s.wmEval i depth) := by
  have hset (t : State) : Steady t ((t.wr (F.wm_FLAG i) 1).count (F.wm_SETS i)) :=
    (Steady.wrWm t 1 (by simp) (by simp)).trans (Steady.wrWm _ _ (by simp) (by simp))
  unfold State.wmEval
  refine (Steady.wrWm s (i := i) (hi := 60) (lo := 48) depth (by simp) (by simp)).trans ?_
  refine Steady.ite (fun _ => Steady.ite (fun _ => Steady.refl _) fun _ => ?_) fun _ =>
    Steady.ite (fun _ => Steady.wrWm _ _ (by simp) (by simp)) fun _ => Steady.refl _
  exact Steady.ite (fun _ => (hset _).trans (Steady.wr _ _)) fun _ => hset _

theorem State.evPush_steady (s : State) (k : Nat) (e : Quad) : Steady s (s.evPush k e) :=
  (Steady.parts : Steady s (s.setEv k _)).trans (State.wmEval_steady _ _ _)

theorem State.evLost_steady (s : State) (k : Nat) : Steady s (s.evLost k) :=
  (Steady.parts : Steady s (s.setEv k _)).trans (Steady.ite (fun _ => Steady.count _) fun _ => Steady.refl _)

theorem State.evOverflow_steady (s : State) (k : Nat) : Steady s (s.evOverflow k) :=
  Steady.ite (fun _ => Steady.refl s) fun _ => (s.evPush_steady k _).trans Steady.parts

theorem State.evPost_steady (s : State) (k cls master detail arg : Nat) (low : Bool) :
    Steady s (s.evPost k cls master detail arg low) :=
  Steady.ite (fun _ => s.evLost_steady k) fun _ => (s.evOverflow_steady k).trans <|
    Steady.ite (fun _ => State.evLost_steady _ k) fun _ => State.evPush_steady _ k _

/-- What the part drives on an interface changes nothing else. -/
theorem State.dma_steady (s : State) (o : Output) : Steady s (s.dma o) :=
  Steady.ite (fun _ => Steady.refl s) fun _ => Steady.parts

theorem State.msix_steady (s : State) (func vector : Nat) : Steady s (s.msix func vector) :=
  Steady.ite
    (fun _ => (((Steady.wr s _).trans (Steady.wr _ _)).trans (Steady.wr _ _)).trans (Steady.count _))
    fun _ => Steady.ite (fun _ => Steady.ite (fun _ => Steady.refl s) fun _ => Steady.parts) fun _ => s.dma_steady _

theorem State.advancePi_steady (s : State) (q : Nat) : Steady s (s.advancePi q) :=
  (Steady.ite (fun _ => Steady.wr s _) fun _ => Steady.refl s).trans (Steady.wr _ _)

theorem State.ringPut_steady (s : State) (q : Nat) (e : Quad) : Steady s (s.ringPut q e) :=
  Steady.ite (fun _ => Steady.refl s) fun _ =>
    (Steady.ite (fun _ => (s.dma_steady _).trans (State.dma_steady _ _)) fun _ => s.dma_steady _).trans
      (State.advancePi_steady _ q)

theorem State.postEntry_steady (s : State) (q : Nat) (e : Quad) : Steady s (s.postEntry q e) :=
  Steady.ite (fun _ => Steady.refl s) fun _ =>
    Steady.ite
      (fun _ => Steady.ite (fun _ => Steady.count s) fun _ =>
        (s.ringPut_steady q e).trans (Steady.ite (fun _ => State.msix_steady _ _ _) fun _ => Steady.refl _))
      fun _ => Steady.refl s

theorem State.postEvent_steady (s : State) (q code queue : Nat) (arg : Word) : Steady s (s.postEvent q code queue arg) :=
  s.postEntry_steady q _

theorem State.fltStatus_steady (s : State) (n : Nat) : Steady s (s.fltStatus n) := Steady.wr s _

theorem State.domCapture_steady (s : State) (d n : Nat) (a : RaiseArg) : Steady s (s.domCapture d n a) :=
  (((Steady.set s _).trans (Steady.set _ _)).trans (Steady.set _ _)).trans (Steady.set _ _)

theorem State.pairHold_steady (s : State) (sev : Nat) : Steady s (s.pairHold sev) :=
  (Steady.ite (fun _ => Steady.wr s _) fun _ => Steady.refl s).trans <|
    Steady.ite (fun _ => (Steady.wr _ _).trans (Steady.wr _ _)) fun _ => Steady.refl _

theorem State.raiseCount_steady (s : State) (n : Nat) :
    Steady s (((s.count (F.fltSrc_COUNT n)).wr (F.fltSrc_LATCHED n) 1).fltStatus n) :=
  ((Steady.count s).trans (Steady.wr _ _)).trans (State.fltStatus_steady _ n)

/-- The record of a raise (16 R515). -/
theorem State.raiseRec_steady (s : State) (n : Nat) (a : RaiseArg) : Steady s (s.raiseRec n a) := by
  unfold State.raiseRec
  split
  · exact Steady.refl s
  · refine Steady.trans ?_ (State.pairHold_steady _ _)
    refine Steady.trans ?_ (Steady.ite (fun _ => State.postEvent_steady _ _ _ _ _) fun _ => Steady.refl _)
    refine Steady.trans ?_ (Steady.ite (fun _ => State.evPost_steady _ _ _ _ _ _ _) fun _ => Steady.refl _)
    refine Steady.trans (State.raiseCount_steady s n) ?_
    refine Steady.ite (fun _ => ?_) fun _ => ?_
    · refine Steady.trans ?_ (Steady.ite (fun _ => State.evPost_steady _ _ _ _ _ _ _) fun _ => Steady.refl _)
      refine Steady.trans ?_ (Steady.count _)
      exact Steady.ite (fun _ => (State.domCapture_steady _ _ _ _).trans (Steady.wr _ _)) fun _ => Steady.refl _
    · refine Steady.trans ?_ (State.evPost_steady _ _ _ _ _ _ _)
      exact ((State.domCapture_steady _ _ _ a).trans (Steady.wr _ (f := F.pieAttn_FLTREC) 1)).trans Steady.parts

/-- A raise before it halts the device: recorded, and at CONTAIN its unit is owed a containment (16 R515, R528). -/
def State.raiseOwed (s : State) (n : Nat) (a : RaiseArg) : State :=
  let t := s.raiseRec n a
  if s.rd (F.fltSrc_SEV n) = 2 ∧ srcUnitK n ≠ 0 ∧ t.downAlready (srcUnitK n) a.unit = false then
    { t with faults := { t.faults with due := t.faults.due ++ [(srcUnitK n, a.unit, n)] } }
  else t

theorem State.raise_eq (s : State) (n : Nat) (a : RaiseArg) :
    s.raise n a
      = if (srcInfo n).isSome && (s.raiseOwed n a).haltsAt (s.rd (F.fltSrc_SEV n)) then
          ((s.raiseOwed n a).haltCore n (s.rd (F.fltSrc_SEV n))).audAppend (haltRec n (s.rd (F.fltSrc_SEV n)))
        else s.raiseOwed n a := rfl

theorem State.raiseOwed_steady (s : State) (n : Nat) (a : RaiseArg) : Steady s (s.raiseOwed n a) :=
  (s.raiseRec_steady n a).trans (Steady.ite (fun _ => Steady.parts) fun _ => Steady.refl _)

end Sys2Proof.Machine
end

section
/-! SUPPORT. What a change of configuration, its audit record and a halt that the record causes leave of the watermark
registers (02 R50, 17 R552 to R557, 16 R520). -/

namespace Sys2Proof.Machine

/-- From `s` to `t` no HI, no LO and not GLB_WM_REJECT changes. -/
structure WmHeld (s t : State) : Prop where
  hi : ∀ i, t.rd (F.wm_HI i) = s.rd (F.wm_HI i)
  lo : ∀ i, t.rd (F.wm_LO i) = s.rd (F.wm_LO i)
  rejects : t.rd F.glbWmReject_COUNT = s.rd F.glbWmReject_COUNT

theorem WmHeld.refl (s : State) : WmHeld s s := ⟨fun _ => rfl, fun _ => rfl, rfl⟩

theorem WmHeld.trans {s t u : State} (h : WmHeld s t) (g : WmHeld t u) : WmHeld s u :=
  ⟨fun i => (g.hi i).trans (h.hi i), fun i => (g.lo i).trans (h.lo i), g.rejects.trans h.rejects⟩

theorem Steady.wmHeld {s t : State} (h : Steady s t) : WmHeld s t :=
  ⟨h.hi, h.lo, by rw [State.rd, h.reg _ rfl, State.rd]⟩

/-- A change of other parts of the state. -/
theorem WmHeld.parts {s t : State} (hregs : t.regs = s.regs := by rfl) : WmHeld s t := by
  have hget (r : Reg) : t.get r = s.get r := by rw [State.get, State.get, hregs]
  exact ⟨fun i => by rw [State.rd, hget, State.rd], fun i => by rw [State.rd, hget, State.rd],
    by rw [State.rd, hget, State.rd]⟩

theorem WmHeld.set (s : State) {r : Reg} (v : Word) (hw : ∀ i, Reg.wm i ≠ r := by simp)
    (hr : Reg.glbWmReject ≠ r := by simp) : WmHeld s (s.set r v) := by
  have hword (k : Reg) (hk : k ≠ r) : (s.set r v).get k = s.get k := s.get_set_other v hk
  exact ⟨fun i => by rw [State.rd, hword _ (hw i), State.rd], fun i => by rw [State.rd, hword _ (hw i), State.rd],
    by rw [State.rd, hword _ hr, State.rd]⟩

theorem WmHeld.wr (s : State) {f : Fld} (v : Nat) (hw : ∀ i, Reg.wm i ≠ f.reg := by simp)
    (hr : Reg.glbWmReject ≠ f.reg := by simp) : WmHeld s (s.wr f v) := WmHeld.set s _ hw hr

theorem WmHeld.count (s : State) {f : Fld} (k : Nat := 1) (hw : ∀ i, Reg.wm i ≠ f.reg := by simp)
    (hr : Reg.glbWmReject ≠ f.reg := by simp) : WmHeld s (s.count f k) := WmHeld.set s _ hw hr

theorem WmHeld.ite {c : Prop} [Decidable c] {s t u : State} (ht : c → WmHeld s t) (hu : ¬c → WmHeld s u) :
    WmHeld s (if c then t else u) := by
  split
  · exact ht ‹_›
  · exact hu ‹_›

theorem WmHeld.foldl {α : Type} {f : State → α → State} (hf : ∀ t x, WmHeld t (f t x)) (l : List α) (s : State) :
    WmHeld s (l.foldl f s) := by
  induction l generalizing s with
  | nil => exact WmHeld.refl s
  | cons x l ih => exact (hf s x).trans (ih (f s x))

/-! ## The audit store (17 R551 to R558) -/

theorem State.audPut_wmHeld (s : State) (w0 w1 old new : Word) : WmHeld s (s.audPut w0 w1 old new) := by
  refine WmHeld.trans (u := State.audPut _ _ _ _ _) ?_ (WmHeld.ite (fun _ => WmHeld.count _) fun _ => WmHeld.refl _)
  refine WmHeld.trans ?_ (WmHeld.wr _ (f := F.audSeq_SEQ) _)
  refine WmHeld.trans ?_ (WmHeld.wr _ (f := F.audPtr_WPTR) _)
  exact ((((WmHeld.parts : WmHeld s { s with audit := _ }).trans (WmHeld.set _ _)).trans (WmHeld.set _ _)).trans
    (WmHeld.set _ _)).trans (WmHeld.set _ _)

theorem State.audCommit_wmHeld (s : State) (r : AudRec) : WmHeld s (s.audCommit r) := s.audPut_wmHeld _ _ _ _

theorem State.audPayGap_wmHeld (s : State) : WmHeld s s.audPayGap := by
  unfold State.audPayGap
  split
  · exact WmHeld.ite (fun _ => (s.audCommit_wmHeld _).trans WmHeld.parts) fun _ => WmHeld.refl s
  · exact WmHeld.refl s

theorem State.audPass_wmHeld (s : State) (n : Nat) : WmHeld s (s.audPass n) :=
  (WmHeld.wr s _).trans (WmHeld.foldl (fun t c => t.audPut_wmHeld _ _ _ _) _ _)

theorem State.audFree_wmHeld (need n : Nat) (s : State) : WmHeld s (State.audFree need n s) := by
  induction n generalizing s with
  | zero => exact WmHeld.refl s
  | succ n ih =>
    exact ((s.audPass_wmHeld 256).trans (WmHeld.count _ 256)).trans
      (WmHeld.ite (fun _ => WmHeld.refl _) fun _ => ih _)

theorem State.audMakeRoom_wmHeld (s : State) (r : AudRec) : WmHeld s (s.audMakeRoom r) :=
  (((State.audFree_wmHeld _ _ s).trans (State.audPayGap_wmHeld _)).trans (State.audCommit_wmHeld _ _)).trans
    (State.audCommit_wmHeld _ r)

/-! ## A halt and its record (16 R520, 17 R557) -/

theorem State.setLstate_wmHeld (s : State) (n v : Nat) : WmHeld s (s.setLstate n v) :=
  WmHeld.ite (fun _ => WmHeld.refl s) fun _ => (WmHeld.wr s _).trans (State.evPost_steady _ _ _ _ _ _ _).wmHeld

theorem State.setPstate_wmHeld (s : State) (n v : Nat) : WmHeld s (s.setPstate n v) :=
  WmHeld.ite (fun _ => WmHeld.refl s) fun _ => (WmHeld.wr s _).trans (State.evPost_steady _ _ _ _ _ _ _).wmHeld

theorem State.pinSync_wmHeld (s : State) : WmHeld s s.pinSync :=
  WmHeld.foldl (fun _ _ => WmHeld.parts) _ s

theorem State.haltCore_wmHeld (s : State) (n sev : Nat) : WmHeld s (s.haltCore n sev) := by
  have hports (t : State) (n : Nat) : WmHeld t
      (let t := if t.on (F.rtePort_UP n) then (t.wr (F.rtePort_UP n) 0).setLstate n 0 else t
       let t := (t.wr (F.lnkStat_RBUSE n) 0).wr (F.lnkStat_RMARK n) (t.rd (F.lnkStat_NEXT n))
       if t.on (F.prtStat_PSTATE n) then t.setPstate n 1 else t) :=
    ((WmHeld.ite (fun _ => (WmHeld.wr t _).trans (State.setLstate_wmHeld _ _ _)) fun _ => WmHeld.refl t).trans
      ((WmHeld.wr _ _).trans (WmHeld.wr _ _))).trans
      (WmHeld.ite (fun _ => State.setPstate_wmHeld _ _ _) fun _ => WmHeld.refl _)
  have hhalt : WmHeld s ((s.wr F.fltHalt_HALTED 1).wr F.fltHalt_SOURCE n) := (WmHeld.wr s _).trans (WmHeld.wr _ _)
  have hterm := hhalt.trans
    (WmHeld.ite (c := sev = 4) (fun _ => WmHeld.wr _ (f := F.fltHalt_TERM) 1) fun _ => WmHeld.refl _)
  have hdown := hterm.trans (WmHeld.foldl hports (List.range 128) _)
  exact (hdown.trans WmHeld.parts).trans (State.pinSync_wmHeld _)

theorem State.gapRaise_wmHeld (s : State) : WmHeld s s.gapRaise := by
  refine WmHeld.trans (u := State.gapRaise s) (s.raiseRec_steady Src.AUD_GAP {}).wmHeld ?_
  refine WmHeld.ite (fun _ => ?_) fun _ => WmHeld.refl _
  refine (State.haltCore_wmHeld _ _ _).trans (WmHeld.ite (fun _ => State.audCommit_wmHeld _ _) fun _ => ?_)
  exact (State.audMakeRoom_wmHeld _ _).trans (State.raiseRec_steady _ _ _).wmHeld

theorem State.audLossy_wmHeld (s : State) (r : AudRec) : WmHeld s (s.audLossy r) :=
  (s.audMakeRoom_wmHeld r).trans (State.gapRaise_wmHeld _)

theorem State.audAppend_wmHeld (s : State) (r : AudRec) : WmHeld s (s.audAppend r) := by
  refine s.audPayGap_wmHeld.trans (WmHeld.ite (fun _ => State.audCommit_wmHeld _ r) fun _ =>
    WmHeld.ite (fun _ => State.audLossy_wmHeld _ r) fun _ => ?_)
  exact ((WmHeld.count _ (f := F.audStat_MISSED)).trans (WmHeld.wr _ (f := F.audSeq_SEQ) _)).trans WmHeld.parts

theorem State.raise_wmHeld (s : State) (n : Nat) (a : RaiseArg) : WmHeld s (s.raise n a) := by
  rw [State.raise_eq]
  exact (s.raiseOwed_steady n a).wmHeld.trans
    (WmHeld.ite (fun _ => (State.haltCore_wmHeld _ _ _).trans (State.audAppend_wmHeld _ _)) fun _ => WmHeld.refl _)

theorem State.audAsk_wmHeld (s : State) (r : AudRec) : WmHeld s (s.audAsk r).1 := by
  unfold State.audAsk
  dsimp only
  split_ifs
  · exact WmHeld.refl s
  · exact s.audAppend_wmHeld r
  · exact s.audPayGap_wmHeld.trans (State.audCommit_wmHeld _ r)
  · have hcount := s.audPayGap_wmHeld.trans (WmHeld.count _ (f := F.audStat_REFUSED))
    exact (hcount.trans (State.raise_wmHeld _ _ _)).trans WmHeld.parts

/-! ## The write of a watermark register -/

/-- A change of configuration takes the new word, or is refused with its record (17 R554, R555). -/
theorem State.cfgPut_cases (s : State) (m : Mst) (kind addr : Nat) (r : Reg) (new : Word) (force : Bool) :
    ((s.cfgPut m kind addr r new force).2 = true
        ∧ ∃ t, WmHeld s t ∧ (s.cfgPut m kind addr r new force).1 = t.set r new)
      ∨ ((s.cfgPut m kind addr r new force).2 = false ∧ WmHeld s (s.cfgPut m kind addr r new force).1) := by
  have hask := s.audAsk_wmHeld
    { kind := kind, priv := s.priv m, master := m.toNat, addr := addr, old := s.get r, new := new }
  unfold State.cfgPut State.askRec
  dsimp only
  split
  · exact .inl ⟨rfl, s, WmHeld.refl s, rfl⟩
  · split
    · next t ht => exact .inl ⟨rfl, t, by rw [ht] at hask; exact hask, rfl⟩
    · next t ht => exact .inr ⟨rfl, by rw [ht] at hask; exact hask⟩

/-- A write takes the bits of an RW field. -/
theorem getLsbD_accWrite_of_rw {r : Reg} {f : FieldDesc} (hf : f ∈ r.fields) (hacc : f.acc = .rw) (locked : Bool)
    (old v : Word) {k : Nat} (hlo : f.lo ≤ k) (hhi : k ≤ f.hi) :
    (accWrite r locked old v).getLsbD k = v.getLsbD k := by
  have hk : k < 64 := hhi.trans_lt (range_of_fieldsBelow r.fields_below hf).2
  rw [getLsbD_accWrite r locked old v hk, getLsbD_fieldMask_of_mem hf _ hlo hhi, getLsbD_fieldMask_of_mem hf _ hlo hhi]
  simp [hacc]

theorem bits_accWrite_of_rw {r : Reg} {f : FieldDesc} (hf : f ∈ r.fields) (hacc : f.acc = .rw) (locked : Bool)
    (old v : Word) : bits (accWrite r locked old v) f.hi f.lo = bits v f.hi f.lo := by
  refine Nat.eq_of_testBit_eq fun k => ?_
  rw [testBit_bits, testBit_bits]
  by_cases hk : k < f.hi + 1 - f.lo
  · rw [getLsbD_accWrite_of_rw hf hacc locked old v (by omega) (by omega)]
  · simp [hk]

theorem accWrite_wm_hi (i : Nat) (locked : Bool) (old v : Word) :
    bits (accWrite (.wm i) locked old v) 44 32 = bits v 44 32 :=
  bits_accWrite_of_rw (f := fd 44 32 .rw (wmHiReset i)) (by simp [Reg.fields]) rfl locked old v

theorem accWrite_wm_lo (i : Nat) (locked : Bool) (old v : Word) :
    bits (accWrite (.wm i) locked old v) 28 16 = bits v 28 16 :=
  bits_accWrite_of_rw (f := fd 28 16 .rw (wmLoReset i)) (by simp [Reg.fields]) rfl locked old v

/-- The word that a write of a watermark register stores or offers: a refused HI and LO are those it holds (02 R50). -/
def wmValue (old v : Word) (bad : Bool) : Word :=
  if bad then setBits (setBits v 44 32 (bits old 44 32)) 28 16 (bits old 28 16) else v

theorem wmValue_bad_hi (old v : Word) : bits (wmValue old v true) 44 32 = bits old 44 32 := by
  rw [wmValue, if_pos rfl, bits_setBits_apart _ _ (by decide) (by decide) (by decide),
    bits_setBits _ _ _ _ (by decide) (by decide)]
  exact Nat.mod_eq_of_lt (bits_lt old 44 32)

theorem wmValue_bad_lo (old v : Word) : bits (wmValue old v true) 28 16 = bits old 28 16 := by
  rw [wmValue, if_pos rfl, bits_setBits _ _ _ _ (by decide) (by decide)]
  exact Nat.mod_eq_of_lt (bits_lt old 28 16)

/-- The registers of the device global block take a value under its audit record, the others at once (17 R552). -/
def State.wmPut (s : State) (m : Mst) (i : Nat) (v : Word) : State :=
  if i = 4 ∨ i = 21 then (s.cfgWrite m (wmAddr i) (.wm i) v).1 else s.plainWrite (.wm i) v

/-- LO at or above HI, or HI above the capacity (02 R50). -/
def wmBad (i : Nat) (v : Word) : Bool := decide (bits v 44 32 ≤ bits v 28 16) || decide (fifoCap i < bits v 44 32)

theorem State.wmWrite_eq (s : State) (m : Mst) (i : Nat) (v : Word) :
    s.wmWrite m i v
      = let t := (if wmBad i v then s.count F.glbWmReject_COUNT else s).wmPut m i (wmValue (s.get (.wm i)) v (wmBad i v))
        t.wmEval i (t.fifoDepth i) := rfl

/-- What is put is the value written, unless the record of a configuration register is refused. -/
theorem State.wmPut_cases (s : State) (m : Mst) (i : Nat) (v : Word) :
    ((i = 4 ∨ i = 21 → (s.cfgWrite m (wmAddr i) (.wm i) v).2 = true)
        ∧ ∃ t, WmHeld s t ∧ s.wmPut m i v = t.set (.wm i) (accWrite (.wm i) false (s.get (.wm i)) v))
      ∨ ((i = 4 ∨ i = 21) ∧ (s.cfgWrite m (wmAddr i) (.wm i) v).2 = false ∧ WmHeld s (s.wmPut m i v)) := by
  unfold State.wmPut
  split
  · next hi =>
    rcases s.cfgPut_cases m RK.reg (wmAddr i) (.wm i) (accWrite (.wm i) false (s.get (.wm i)) v) false with
      ⟨hyes, ht⟩ | ⟨hno, ht⟩
    · exact .inl ⟨fun _ => hyes, ht⟩
    · exact .inr ⟨hi, hno, ht⟩
  · next hi => exact .inl ⟨fun h => absurd h hi, s, WmHeld.refl s, rfl⟩

end Sys2Proof.Machine
end

section
/-! PROOFS. The watermark registers and their flags (02 R47, R50). -/

namespace Sys2Proof.Machine

/-- HI and LO of a watermark register after a write are the ones written, or those held where the record is refused. -/
theorem State.wmPut_hi_lo (s : State) (m : Mst) (i : Nat) (v : Word) :
    ((i = 4 ∨ i = 21 → (s.cfgWrite m (wmAddr i) (.wm i) v).2 = true)
        ∧ (s.wmPut m i v).rd (F.wm_HI i) = bits v 44 32 ∧ (s.wmPut m i v).rd (F.wm_LO i) = bits v 28 16)
      ∨ ((i = 4 ∨ i = 21) ∧ (s.cfgWrite m (wmAddr i) (.wm i) v).2 = false
          ∧ (s.wmPut m i v).rd (F.wm_HI i) = s.rd (F.wm_HI i) ∧ (s.wmPut m i v).rd (F.wm_LO i) = s.rd (F.wm_LO i)) := by
  rcases s.wmPut_cases m i v with ⟨hyes, t, -, ht⟩ | ⟨hi, hno, hheld⟩
  · refine .inl ⟨hyes, ?_, ?_⟩
    · rw [ht, State.rd, State.get_set_same, accWrite_wm_hi]
    · rw [ht, State.rd, State.get_set_same, accWrite_wm_lo]
  · exact .inr ⟨hi, hno, hheld.hi i, hheld.lo i⟩

/-- GLB_WM_REJECT counts refused values alone, not refused records. -/
theorem State.wmPut_rejects (s : State) (m : Mst) (i : Nat) (v : Word) :
    (s.wmPut m i v).rd F.glbWmReject_COUNT = s.rd F.glbWmReject_COUNT := by
  rcases s.wmPut_cases m i v with ⟨-, t, hheld, ht⟩ | ⟨-, -, hheld⟩
  · rw [ht, State.rd, State.get_set_other _ _ (by simp), ← State.rd, hheld.rejects]
  · exact hheld.rejects

/-- A refused value leaves HI and LO and is counted (02 R50). -/
theorem State.wmWrite_of_bad {s : State} {i : Nat} {v : Word} (m : Mst) (hbad : wmBad i v = true) :
    (s.wmWrite m i v).rd (F.wm_HI i) = s.rd (F.wm_HI i) ∧ (s.wmWrite m i v).rd (F.wm_LO i) = s.rd (F.wm_LO i)
      ∧ (s.wmWrite m i v).rd F.glbWmReject_COUNT = satAdd 16 (s.rd F.glbWmReject_COUNT) 1 := by
  have hword : (s.count F.glbWmReject_COUNT).get (.wm i) = s.get (.wm i) := State.get_set_other _ _ (by simp)
  have hcount : (s.count F.glbWmReject_COUNT).rd F.glbWmReject_COUNT = satAdd 16 (s.rd F.glbWmReject_COUNT) 1 := by
    rw [State.count, State.rd_wr _ _ _ (by simp) (by simp)]
    exact Nat.mod_eq_of_lt (by simp [satAdd])
  rw [State.wmWrite_eq, if_pos hbad, hbad]
  dsimp only
  set t := (s.count F.glbWmReject_COUNT).wmPut m i (wmValue (s.get (.wm i)) v true) with ht
  have hheld := (t.wmEval_steady i (t.fifoDepth i)).wmHeld
  rw [hheld.hi, hheld.lo, hheld.rejects, ht, State.wmPut_rejects, hcount]
  rcases (s.count F.glbWmReject_COUNT).wmPut_hi_lo m i (wmValue (s.get (.wm i)) v true) with
    ⟨-, hhi, hlo⟩ | ⟨-, -, hhi, hlo⟩
  · exact ⟨by rw [hhi, wmValue_bad_hi]; rfl, by rw [hlo, wmValue_bad_lo]; rfl, rfl⟩
  · exact ⟨by rw [hhi, State.rd, hword]; rfl, by rw [hlo, State.rd, hword]; rfl, rfl⟩

/-- HI and LO of an accepted value are those of the register after it is put. -/
theorem State.wmWrite_of_good {s : State} {i : Nat} {v : Word} (m : Mst) (hgood : wmBad i v = false) :
    (s.wmWrite m i v).rd (F.wm_HI i) = (s.wmPut m i v).rd (F.wm_HI i)
      ∧ (s.wmWrite m i v).rd (F.wm_LO i) = (s.wmPut m i v).rd (F.wm_LO i) := by
  rw [State.wmWrite_eq, hgood]
  exact ⟨(State.wmEval_steady _ i _).hi i, (State.wmEval_steady _ i _).lo i⟩

/-- The flag is set, which SETS counts and the pier's ready pin shows (02 R47, R64). -/
def State.wmSet (s : State) (i : Nat) : State :=
  let t := (s.wr (F.wm_FLAG i) 1).count (F.wm_SETS i)
  if i = 4 then t.wr F.pieAttn_EVTFLAG 1 else t

/-- DEPTH takes the depth, which with HI and LO decides on the flag (02 R47). -/
theorem State.wmEval_eq (s : State) (i depth : Nat) :
    s.wmEval i depth
      = let t := s.wr (F.wm_DEPTH i) depth
        if s.rd (F.wm_HI i) ≤ depth then (if s.rd (F.wm_FLAG i) ≠ 0 then t else t.wmSet i)
        else if depth ≤ s.rd (F.wm_LO i) then t.wr (F.wm_FLAG i) 0 else t := by
  have hother (g : Fld) (hg : g.hi < 64) (h : (F.wm_DEPTH i).Apart g) : (s.wr (F.wm_DEPTH i) depth).rd g = s.rd g :=
    s.rd_wr_apart depth (by simp) hg h
  have hhi := hother (F.wm_HI i) (by simp) (by simp [Fld.Apart])
  have hlo := hother (F.wm_LO i) (by simp) (by simp [Fld.Apart])
  have hflag := hother (F.wm_FLAG i) (by simp) (by simp [Fld.Apart])
  simp only [State.wmEval, State.wmSet, State.on, hhi, hlo, hflag, bne_iff_ne]

theorem State.rd_wmFlag_wr (s : State) (i v : Nat) : (s.wr (F.wm_FLAG i) v).rd (F.wm_FLAG i) = v % 2 :=
  State.rd_wr _ _ _ (by simp) (by simp)

/-- Of the fields of its register the setting of the flag changes FLAG and SETS alone. -/
theorem State.wmSet_rd (s : State) {i : Nat} {g : Fld} (hg : g.hi < 64) (hreg : g.reg = .wm i) (hsets : 14 < g.lo) :
    (s.wmSet i).rd g = (s.wr (F.wm_FLAG i) 1).rd g := by
  have hcount : ((s.wr (F.wm_FLAG i) 1).count (F.wm_SETS i)).rd g = (s.wr (F.wm_FLAG i) 1).rd g :=
    State.rd_wr_apart _ _ (by simp) hg (.inr (.inr hsets))
  unfold State.wmSet
  dsimp only
  split
  · rw [State.rd_wr_other _ _ (by simp [hreg]), hcount]
  · exact hcount

theorem State.wmSet_flag (s : State) (i : Nat) : (s.wmSet i).rd (F.wm_FLAG i) = 1 := by
  rw [State.wmSet_rd s (by simp) rfl (by simp), State.rd_wmFlag_wr]

/-- DEPTH shows the depth that the flag follows. -/
theorem State.wmEval_depth (s : State) (i : Nat) {depth : Nat} (h : depth ≤ 4096) :
    (s.wmEval i depth).rd (F.wm_DEPTH i) = depth := by
  have hdepth : (s.wr (F.wm_DEPTH i) depth).rd (F.wm_DEPTH i) = depth := by
    rw [State.rd_wr _ _ _ (by simp) (by simp)]
    exact Nat.mod_eq_of_lt (by simp; omega)
  have hflag (t : State) (v : Nat) : (t.wr (F.wm_FLAG i) v).rd (F.wm_DEPTH i) = t.rd (F.wm_DEPTH i) :=
    t.rd_wr_apart v (by simp) (by simp) (by simp [Fld.Apart])
  rw [State.wmEval_eq]
  dsimp only
  split_ifs
  · exact hdepth
  · rw [State.wmSet_rd _ (by simp) rfl (by simp), hflag, hdepth]
  · rw [hflag, hdepth]
  · exact hdepth

/-- The flag is set at or above HI, clear at or below LO, and held between (02 R47). -/
theorem State.wmEval_flag (s : State) (i depth : Nat) :
    (s.wmEval i depth).rd (F.wm_FLAG i)
      = if s.rd (F.wm_HI i) ≤ depth then 1 else if depth ≤ s.rd (F.wm_LO i) then 0 else s.rd (F.wm_FLAG i) := by
  have hbit : s.rd (F.wm_FLAG i) < 2 := bits_lt _ 63 63
  have hheld : (s.wr (F.wm_DEPTH i) depth).rd (F.wm_FLAG i) = s.rd (F.wm_FLAG i) :=
    s.rd_wr_apart depth (by simp) (by simp) (by simp [Fld.Apart])
  rw [State.wmEval_eq]
  dsimp only
  split_ifs
  · rw [hheld]
    omega
  · exact State.wmSet_flag _ i
  · exact State.rd_wmFlag_wr _ i 0
  · exact hheld

theorem exec_watermarkWrite (m : Mst) (i : Fin 22) (v : Word) (s : State) :
    exec (.watermarkWrite m i v) s = execWatermarkWrite m i v s := rfl

/-- Settles O8: a bad value is put with the HI and LO held, any other as it is unless its record is refused, and the flag
follows the depth. -/
theorem watermarkWritesAndFlags : Obligations.WatermarkWritesAndFlags := by
  unfold Obligations.WatermarkWritesAndFlags
  intro m i v s
  have hbad (h : bits v 44 32 ≤ bits v 28 16 ∨ 2 ^ fifoLog i < bits v 44 32) : wmBad i v = true := by
    rcases h with h | h <;> simp [wmBad, fifoCap, h]
  refine ⟨fun hopen => ?_, fun h => State.wmWrite_of_bad m (hbad h), fun hlo hcap htook => ?_, fun hi hno => ?_,
    fun depth hdepth hord => ⟨s.wmEval_depth i hdepth, s.wmEval_flag i depth⟩⟩
  · rw [exec_watermarkWrite, execWatermarkWrite, regWriteRow_opens hopen]
  · have hgood : wmBad i v = false := by simp [wmBad, fifoCap, hlo, Nat.not_lt.mpr hcap]
    obtain ⟨hwhi, hwlo⟩ := State.wmWrite_of_good (s := s) m hgood
    rcases s.wmPut_hi_lo m i v with ⟨-, hhi, hlo⟩ | ⟨hi, hno, -, -⟩
    · exact ⟨hwhi.trans hhi, hwlo.trans hlo⟩
    · exact absurd (htook hi) (by simp [hno])
  · cases hb : wmBad i v with
    | true =>
      obtain ⟨hhi, hlo, -⟩ := State.wmWrite_of_bad (s := s) m hb
      exact ⟨hhi, hlo⟩
    | false =>
      obtain ⟨hwhi, hwlo⟩ := State.wmWrite_of_good (s := s) m hb
      rcases s.wmPut_hi_lo m i v with ⟨hyes, -, -⟩ | ⟨-, -, hhi, hlo⟩
      · exact absurd (hyes hi) (by simp [hno])
      · exact ⟨hwhi.trans hhi, hwlo.trans hlo⟩

end Sys2Proof.Machine
end

section
/-! SUPPORT. A device at TERMINAL whose units have not begun: what carrying out a containment leaves (16 R519 to R521). -/

namespace Sys2Proof.Machine

/-- The device stands at TERMINAL, not for a malformed firmware entry, and no link, queue, connection or tree has begun. -/
structure State.Stopped (s : State) : Prop where
  halted : s.halted = true
  term : s.on F.fltHalt_TERM = true
  source : s.fwctlHalt = false
  links : ∀ n, s.rd (F.lnkStat_LSTATE n) = 0
  queues : ∀ q, s.qState q = QS.disabled
  conns : ∀ n, s.connState n = CS.free
  trees : ∀ t, s.treeActive t = false

/-- A field of a steady word stays. -/
theorem Steady.rd {s t : State} (h : Steady s t) (f : Fld) (hf : f.reg.steady = true := by rfl) : t.rd f = s.rd f := by
  rw [State.rd, h.reg _ hf, State.rd]

/-- A state with the same steady words is stopped as well. -/
theorem State.Stopped.of_steady_words {s t : State} (h : s.Stopped)
    (hreg : ∀ r, r.steady = true → t.get r = s.get r) : t.Stopped := by
  have hrd (f : Fld) (hf : f.reg.steady = true) : t.rd f = s.rd f := by rw [State.rd, hreg _ hf, State.rd]
  have hhalt : t.halted = s.halted := by rw [State.halted, State.on, hrd _ rfl, State.halted, State.on]
  refine ⟨by rw [hhalt, h.halted], ?_, ?_, fun n => (hrd _ rfl).trans (h.links n),
    fun q => (hrd _ rfl).trans (h.queues q), fun n => (hrd _ rfl).trans (h.conns n), fun k => ?_⟩
  · rw [State.on, hrd _ rfl, ← State.on, h.term]
  · rw [State.fwctlHalt, hhalt, hrd _ rfl, ← State.fwctlHalt, h.source]
  · rw [State.treeActive, hrd _ rfl, ← State.treeActive, h.trees]

theorem State.Stopped.steady {s t : State} (h : s.Stopped) (g : Steady s t) : t.Stopped := h.of_steady_words g.reg

/-- One steady step after another, the second from a stopped state. -/
theorem Steady.andThen {s t u : State} (h : s.Stopped) (g : Steady s t) (k : t.Stopped → Steady t u) : Steady s u :=
  g.trans (k (h.steady g))

theorem Steady.foldl_stopped {α : Type} {f : State → α → State} (hf : ∀ t x, t.Stopped → Steady t (f t x))
    (l : List α) {s : State} (h : s.Stopped) : Steady s (l.foldl f s) := by
  induction l generalizing s with
  | nil => exact Steady.refl s
  | cons x l ih => exact Steady.andThen h (hf s x h) fun h' => ih h'

/-- At TERMINAL no raise halts again (16 R521). -/
theorem State.Stopped.haltsAt {s : State} (h : s.Stopped) (sev : Nat) : s.haltsAt sev = false := by
  simp [State.haltsAt, h.halted, h.term]

theorem State.Stopped.raise {s : State} (h : s.Stopped) (n : Nat) (a : RaiseArg) : Steady s (s.raise n a) := by
  have howed := s.raiseOwed_steady n a
  rw [State.raise_eq, (h.steady howed).haltsAt]
  simpa using howed

/-! ## Counters and channels (17 R539, 14 R463 to R470) -/

theorem State.cntAdd_steady (b fuel k n : Nat) (s : State) : Steady s (State.cntAdd b fuel k n s) := by
  induction fuel generalizing k n s with
  | zero =>
    exact Steady.ite
      (fun _ => (Steady.wr s _).trans (Steady.ite (fun _ => Steady.refl _) fun _ => Steady.wr _ _)) fun _ => Steady.refl s
  | succ m ih =>
    exact Steady.ite
      (fun _ => (Steady.wr s _).trans (Steady.ite (fun _ => Steady.refl _) fun _ =>
        Steady.ite (fun _ => ih _ _ _) fun _ => Steady.wr _ _))
      fun _ => Steady.refl s

theorem State.tally_steady (s : State) (b code n : Nat) : Steady s (s.tally b code n) :=
  Steady.ite (fun _ => Steady.refl s) fun _ =>
    Steady.foldl (fun _ _ => Steady.ite (fun _ => State.cntAdd_steady _ _ _ _ _) fun _ => Steady.refl _) _ s

theorem State.setGddr_steady (s : State) (g : Gddr) : Steady s { s with gddr := g } := Steady.parts

theorem State.secondNow_steady (s : State) (p : Nat) : Steady s (s.secondNow p) := by
  unfold State.secondNow
  dsimp only
  split
  · exact Steady.refl s
  · exact s.setGddr_steady _

theorem State.second_steady (s : State) (p : Nat) (f : ChSecond → ChSecond) : Steady s (s.second p f) :=
  (s.secondNow_steady p).trans (State.setGddr_steady _ _)

theorem State.Stopped.symCorr {s : State} (h : s.Stopped) (l : Nat) (bad : List Sym) (k : Nat) :
    Steady s (s.symCorr l bad k) :=
  Steady.foldl_stopped (fun t _ ht =>
    Steady.andThen ht ((t.second_steady _ _).trans (Steady.count _)) fun h' => h'.raise _ _) bad h

theorem State.Stopped.symUncorr {s : State} (h : s.Stopped) (l : Nat) (bad : List (List Sym)) (k : Nat) :
    Steady s (s.symUncorr l bad k) :=
  Steady.foldl_stopped (fun t x ht =>
    (Steady.andThen ht (Steady.count t) fun h' => h'.raise _ _).trans
      (Steady.foldl (fun u _ => u.setGddr_steady _) x _)) bad h

theorem State.Stopped.edcRetries {s : State} (h : s.Stopped) (p n a k : Nat) : Steady s (s.edcRetries p n a k) :=
  Steady.andThen h (s.tally_steady 16 0x82 n) fun h' =>
    Steady.foldl_stopped (fun t _ ht =>
      Steady.andThen ht ((t.second_steady _ _).trans (Steady.count _)) fun h' => h'.raise _ _) _ h'

theorem State.Stopped.edcRead {s : State} (h : s.Stopped) (l k : Nat) : Steady s (s.edcRead l k).1 :=
  Steady.andThen h (s.setGddr_steady _) fun h' => h'.edcRetries _ _ _ _

theorem State.writeErrs_steady (s : State) (p l : Nat) : Steady s (s.writeErrs p l).1 := by
  unfold State.writeErrs
  split
  · exact (Steady.wr s (f := F.gdmErrinj_ARM p) 0).trans (State.setGddr_steady _ _)
  · exact Steady.refl s

theorem State.Stopped.copyLine {s : State} (h : s.Stopped) (l : Nat) : Steady s (s.copyLine l) := by
  unfold State.copyLine
  split
  · exact Steady.refl s
  · refine Steady.ite (fun _ => s.setGddr_steady _) fun _ => Steady.andThen h (h.edcRead l 7) fun h' => ?_
    refine Steady.trans (Steady.ite (fun _ => Steady.refl _) fun _ => ?_) (State.setGddr_steady _ _)
    exact Steady.andThen h' (h'.symCorr _ _ _) fun h' => h'.symUncorr _ _ _

theorem State.copyArmed_steady (s : State) (l : Nat) : Steady s (s.copyArmed l) := by
  unfold State.copyArmed
  split
  · exact Steady.refl s
  · exact Steady.ite (fun _ => s.writeErrs_steady _ _) fun _ =>
      (s.writeErrs_steady _ _).trans (State.setGddr_steady _ _)

/-- The copier walks its groups. -/
theorem State.Stopped.copySync {s : State} (h : s.Stopped) : Steady s s.copySync := by
  unfold State.copySync
  split
  · exact Steady.refl s
  · refine Steady.ite (fun _ => Steady.refl s) fun _ => Steady.ite (fun _ => s.setGddr_steady _) fun _ =>
      Steady.andThen h (s.setGddr_steady _) fun h' => Steady.ite (fun _ => Steady.refl _) fun _ => ?_
    refine Steady.trans ?_ (Steady.wr _ (f := F.gdmMig_COPIED) _)
    refine Steady.trans ?_ (State.tally_steady _ _ _ _)
    refine Steady.trans ?_ (State.tally_steady _ _ _ _)
    exact (Steady.foldl_stopped (fun _ _ ht => ht.copyLine _) _ h').trans (State.copyArmed_steady _ _)

theorem State.Stopped.containChannel {s : State} (h : s.Stopped) (p : Nat) : Steady s (s.containChannel p) :=
  h.copySync.trans (State.setGddr_steady _ _)

theorem State.setCtx_steady (s : State) (c : Nat) (f : Ctx → Ctx) : Steady s (s.setCtx c f) := Steady.parts

/-! ## The report of a packet (06 R200, 07 R219, 08 R274) -/

theorem State.openSync_steady (s : State) (q : Nat) : Steady s (s.openSync q) := Steady.wr s _

theorem State.finishEntry_steady (s : State) (q id : Nat) (r : Result) : Steady s (s.finishEntry q id r) :=
  (Steady.parts : Steady s (s.setQue q _)).trans (State.openSync_steady _ q)

theorem State.setMtch_steady (s : State) (m : Matching) : Steady s { s with mtch := m } := Steady.parts

theorem State.rndvSync_steady (s : State) : Steady s s.rndvSync := Steady.wr s _

theorem State.canvasEnd_steady (s : State) (i : Nat) : Steady s (s.canvasEnd i) := by
  refine Steady.ite (fun _ => Steady.trans (Steady.wr s (f := F.cvs_STATE i) 0) ?_) fun _ => Steady.refl s
  dsimp only
  split
  · exact ((State.setMtch_steady _ _).trans (State.rndvSync_steady _)).trans
      (Steady.ite (fun _ => State.finishEntry_steady _ _ _ _) fun _ => Steady.refl _)
  · exact State.postEvent_steady _ _ _ _ _

theorem State.canvasReport_steady (s : State) (i : Nat) : Steady s (s.canvasReport i) :=
  (Steady.wr s _).trans (State.canvasEnd_steady _ i)

/-- At the halt a completion releases its slot and is discarded (16 R520). -/
theorem State.Stopped.complete {s : State} (h : s.Stopped) (cq n : Nat) (e : Quad) (sol : Bool) :
    Steady s (s.complete cq n e sol) := by
  have hrsv : Steady s (s.wr (F.qctx_RSV cq) (s.rd (F.qctx_RSV cq) - n)) := Steady.wr s _
  have h' := h.steady hrsv
  unfold State.complete
  simpa [h'.halted, h'.source] using hrsv

theorem State.Stopped.recvComplete {s : State} (h : s.Stopped) (b : Bound) (status bytes : Nat) :
    Steady s (s.recvComplete b status bytes) :=
  Steady.ite (fun _ => Steady.refl s) fun _ =>
    Steady.andThen h (Steady.ite (fun _ => Steady.count s) fun _ => Steady.refl s) fun h' => h'.complete _ _ _ _

theorem State.Stopped.boundEnd {s : State} (h : s.Stopped) (id status bytes : Nat) :
    Steady s (s.boundEnd id status bytes) := by
  unfold State.boundEnd
  split
  · exact Steady.refl s
  · have hraise (n u : Nat) : Steady s (s.latentRaise n u) := Steady.andThen h Steady.parts fun h' => h'.raise _ _
    exact Steady.andThen h ((Steady.ite (fun _ => hraise _ _) fun _ => Steady.refl s).trans Steady.parts)
      fun h' => h'.recvComplete _ _ _

theorem State.Stopped.boundDone {s : State} (h : s.Stopped) (id : Nat) : Steady s (s.boundDone id) := by
  unfold State.boundDone
  split
  · exact Steady.refl s
  · exact Steady.ite (fun _ => h.boundEnd _ _ _) fun _ => Steady.ite (fun _ => h.boundEnd _ _ _) fun _ => h.boundEnd _ _ _

theorem State.dropUnexp_steady (s : State) (u : Nat) : Steady s (s.dropUnexp u) := by
  unfold State.dropUnexp
  split
  · exact Steady.refl s
  · exact (((((s.setMtch_steady _).trans (Steady.wr _ _)).trans (Steady.wr _ _)).trans
      (Steady.wr _ _)).trans (Steady.wr _ _)).trans (Steady.wr _ _)

theorem State.Stopped.lateReport {s : State} (h : s.Stopped) (id : Nat) (ok : Bool) : Steady s (s.lateReport id ok) := by
  unfold State.lateReport
  split
  · exact Steady.refl s
  · next b hb =>
    have hslot : Steady s (match b.late with
        | some u => (s.dropUnexp u).setBound id fun b => { b with late := none }
        | none => s) := by
      split
      · exact (s.dropUnexp_steady _).trans Steady.parts
      · exact Steady.refl s
    refine Steady.andThen h hslot fun h' => Steady.ite (fun _ => h'.boundEnd _ _ _) fun _ =>
      Steady.ite (fun _ => Steady.refl _) fun _ => ?_
    exact Steady.andThen h' Steady.parts fun h' => h'.boundDone _

/-- No connection is ACTIVE, so that a report ends with its canvas. -/
theorem State.Stopped.connReport {s : State} (h : s.Stopped) (e : Event) (p : Packet) (r : Report) :
    Steady s (s.connReport e p r) := by
  have hcvs : Steady s (if e.onCanvas then s.canvasReport (p.get H.ckey % 1048576) else s) :=
    Steady.ite (fun _ => s.canvasReport_steady _) fun _ => Steady.refl s
  have hfree := (h.steady hcvs).conns e.key
  unfold State.connReport
  simpa [hfree] using hcvs

theorem State.Stopped.ctxReport {s : State} (h : s.Stopped) (c : Nat) (r : Report) : Steady s (s.ctxReport c r) := by
  unfold State.ctxReport
  dsimp only
  split
  · exact Steady.refl s
  · refine Steady.ite (fun _ => Steady.refl s) fun _ => ?_
    refine Steady.andThen h (s.setCtx_steady c fun x => { x with handled := true }) fun h' => ?_
    split
    · exact h'.lateReport _ _
    · split
      · exact Steady.ite (fun _ => h'.connReport _ _ _) fun _ => Steady.refl _
      · exact Steady.refl _

/-! ## Containments (16 R519, R528) -/

theorem State.semAbandon_steady (s : State) (p : Mst → Bool) : Steady s (s.semAbandon p) := by
  have hfree (t : State) (n : Nat) : Steady t (((t.semFree n).wr (F.sem_ABANDONED n) 1).count F.semStat_ABANDONS) :=
    (((Steady.wr t _).trans (Steady.wr _ _)).trans (Steady.wr _ _)).trans (Steady.count _)
  have hclaims (t : State) (n : Nat) (l : List Claim) : Steady t (t.setClaims n l) :=
    Steady.trans (t := { t with guard := { t.guard with claims := _ } }) Steady.parts (Steady.wr _ _)
  refine Steady.trans (t := { s with guard := { s.guard with fences := _ } }) Steady.parts
    ((Steady.foldl (fun t n => ?_) (List.range 4096) _).trans (Steady.foldl (fun t c => ?_) _ _))
  · exact Steady.ite (fun _ => hfree t n) fun _ => Steady.refl t
  · exact Steady.ite (fun _ => hclaims t _ _) fun _ => Steady.refl t

theorem State.Stopped.wardenLost {s : State} (h : s.Stopped) (c : Nat) : Steady s (s.wardenLost c) :=
  Steady.ite (fun _ => h.raise _ _) fun _ => Steady.refl s

theorem State.Stopped.containCtx {s : State} (h : s.Stopped) (c : Nat) : Steady s (s.containCtx c) := by
  unfold State.containCtx
  refine Steady.andThen h (Steady.trans ?_ (State.semAbandon_steady _ _)) fun h' => h'.wardenLost c
  exact ((h.ctxReport c .notPlaced).trans (State.setCtx_steady _ c _)).trans (Steady.wr _ _)

theorem State.postContained_steady (s : State) (kind unit src : Nat) : Steady s (s.postContained kind unit src) :=
  Steady.ite (fun _ => s.postEvent_steady _ _ _ _) fun _ => Steady.refl s

/-- Where no link, queue, connection or tree has begun, only a context or a channel can be contained. -/
theorem State.Stopped.contain {s : State} (h : s.Stopped) (kind unit src : Nat) : Steady s (s.contain kind unit src) := by
  have hdown : s.downAlready 1 unit = true := by simp [State.downAlready, h.links]
  refine Steady.ite (fun _ => Steady.refl s) fun hopen => Steady.trans ?_ (State.postContained_steady _ _ _ _)
  split
  · have hport : s.containPort unit
        = { s with faults := { s.faults with due := s.faults.due.filter (· != (1, unit, Src.LNK_DOWN unit)) } } := by
      rw [State.containPort, if_pos hdown]
    rw [hport]
    exact Steady.parts
  · simp [State.isContained, h.queues] at hopen
  · simp [State.isContained, h.conns] at hopen
  · exact h.containCtx unit
  · simp [State.isContained, h.trees] at hopen
  · exact h.containChannel unit
  · exact Steady.refl s

theorem State.Stopped.settleN {s : State} (h : s.Stopped) (n : Nat) : Steady s (State.settleN n s) := by
  induction n generalizing s with
  | zero => exact Steady.refl s
  | succ n ih =>
    unfold State.settleN
    split
    · exact Steady.refl s
    · exact Steady.andThen h Steady.parts fun h' => Steady.andThen h' (h'.contain _ _ _) fun h' => ih h'

theorem State.Stopped.settle {s : State} (h : s.Stopped) : Steady s s.settle := h.settleN 300

/-- Of what follows a command only the ready pins move (16 R520). -/
theorem State.Stopped.sync {s : State} (h : s.Stopped) : s.sync = s.pinSync := by
  simp [State.sync, h.halted, h.source]

end Sys2Proof.Machine
end

section
/-! SUPPORT. The pier's ready pin at the end of a command of a stopped device (02 R61 to R67, 16 R519). -/

namespace Sys2Proof.Machine

/-- The pier's pin follows its busy cause (02 R61, R65, R67). -/
theorem State.pinSync_pier (s : State) :
    s.pinSync.pin 4
      = { pinNext s.pierBusy (s.on (F.gteCtl_EN 4)) s.now (s.pin 4) with
          ready := !s.pierBusy
            && ((pinNext s.pierBusy (s.on (F.gteCtl_EN 4)) s.now (s.pin 4)).ready
              || (pinNext s.pierBusy (s.on (F.gteCtl_EN 4)) s.now (s.pin 4)).level) } := by
  simp [State.pinSync, State.setPin_pin, State.pinBusy, State.pinBoot]

theorem State.pinSync_get (s : State) (r : Reg) : s.pinSync.get r = s.get r := by
  simp [State.pinSync]

theorem State.pinSync_boot (s : State) : s.pinSync.boot = s.boot := by simp [State.pinSync]

theorem State.pinSync_pierBusy (s : State) : s.pinSync.pierBusy = s.pierBusy := by
  rw [State.pierBusy, State.pinSync_boot, State.pierBusy]

/-- A pin without a busy cause that is up stays up. -/
theorem pinNext_level_of_level {p : ReadyPin} (h : p.level = true) (gateOn : Bool) (now : Nat) :
    (pinNext false gateOn now p).level = true := by
  simp [pinNext, h]

/-- The pier's pin will stand high once the pins have followed their causes, on a device that is stopped. -/
structure State.PierRises (s : State) : Prop where
  stopped : s.Stopped
  free : s.pierBusy = false
  rises : (s.pinSync.pin 4).level = true

theorem State.PierRises.steady {s t : State} (h : s.PierRises) (g : Steady s t) : t.PierRises := by
  have hbusy : t.pierBusy = s.pierBusy := by rw [State.pierBusy, g.boot, State.pierBusy]
  have hgate : t.on (F.gteCtl_EN 4) = s.on (F.gteCtl_EN 4) := by rw [State.on, g.rd _, State.on]
  have hnow : t.now = s.now := by rw [State.now, g.clock, State.now]
  have hpin : t.pin 4 = s.pin 4 := by rw [State.pin, g.pins, State.pin]
  refine ⟨h.stopped.steady g, hbusy.trans h.free, ?_⟩
  have hrises := h.rises
  rw [State.pinSync_pier] at hrises ⊢
  rwa [hbusy, hgate, hnow, hpin]

theorem State.PierRises.pinSync {s : State} (h : s.PierRises) : s.pinSync.PierRises := by
  refine ⟨h.stopped.of_steady_words fun r _ => s.pinSync_get r, s.pinSync_pierBusy.trans h.free, ?_⟩
  have hfree : s.pinSync.pierBusy = false := s.pinSync_pierBusy.trans h.free
  rw [State.pinSync_pier, hfree]
  exact pinNext_level_of_level h.rises _ _

/-- A command ends with one round of containments, or with two. -/
theorem State.ended_boot_pin (s : State) (k : Nat) :
    (s.ended.boot = s.settle.sync.boot ∧ s.ended.pin k = s.settle.sync.pin k)
      ∨ (s.ended.boot = s.settle.sync.settle.sync.boot ∧ s.ended.pin k = s.settle.sync.settle.sync.pin k) := by
  unfold State.ended
  generalize s.settle.sync = t
  by_cases hdue : t.faults.due = []
  · exact .inl ⟨by simp [hdue], by simp [hdue, State.pin]⟩
  · exact .inr ⟨by simp [hdue], by simp [hdue, State.pin]⟩

theorem State.Stopped.settle_sync {s : State} (h : s.Stopped) :
    s.settle.sync.Stopped ∧ s.settle.sync.boot = s.boot := by
  have hsettle : Steady s s.settle := h.settle
  have hstopped : s.settle.Stopped := h.steady hsettle
  rw [hstopped.sync]
  exact ⟨hstopped.of_steady_words fun r _ => State.pinSync_get _ r, (State.pinSync_boot _).trans hsettle.boot⟩

/-- The end of a command leaves the boot unit of a stopped device. -/
theorem State.Stopped.ended_boot {s : State} (h : s.Stopped) : s.ended.boot = s.boot := by
  obtain ⟨hstopped, hboot⟩ := h.settle_sync
  rcases s.ended_boot_pin 4 with ⟨hb, -⟩ | ⟨hb, -⟩
  · exact hb.trans hboot
  · exact hb.trans (hstopped.settle_sync.2.trans hboot)

theorem State.PierRises.settle_sync {s : State} (h : s.PierRises) :
    s.settle.sync.PierRises ∧ (s.settle.sync.pin 4).level = true := by
  have hrises : s.settle.PierRises := h.steady h.stopped.settle
  rw [hrises.stopped.sync]
  exact ⟨hrises.pinSync, hrises.rises⟩

/-- The end of a command, its containments and all, leaves the pier's pin high. -/
theorem State.PierRises.ended {s : State} (h : s.PierRises) : (s.ended.pin 4).level = true := by
  obtain ⟨hrises, hlevel⟩ := h.settle_sync
  rcases s.ended_boot_pin 4 with ⟨-, hp⟩ | ⟨-, hp⟩
  · exact hp ▸ hlevel
  · exact hp ▸ hrises.settle_sync.2

end Sys2Proof.Machine
end

section
/-! PROOFS. The ready pins (02 R64 to R67): a fall that waits at a pin which is low already. -/

namespace Sys2Proof.Machine

/-- While no counter counts, passing time makes no counts (17 R538). -/
theorem State.timeCounts_of_still {s : State} (h : ∀ b k, s.cntCounts b k = false) (d : Nat) : s.timeCounts d = s := by
  have hzero (b k : Nat) : s.timeCount b k d = 0 := by simp [State.timeCount, h]
  unfold State.timeCounts
  exact List.foldl_fixed' (fun b => List.foldl_fixed' (fun k => by simp [hzero]) (List.range 8)) (List.range 17)

/-- Passing time with no counter that counts: the pins' waiting falls come due, and no word but TIM_NOW changes. -/
theorem State.pass_of_still {s : State} {d : Nat} (hd : d ≠ 0) (h : ∀ b k, s.cntCounts b k = false) :
    (s.pass d).pins = (s.pins.map fun p => (p.1, pinFallDue (s.now + d) p.2)) ∧ (s.pass d).boot = s.boot
      ∧ (s.pass d).faults = s.faults ∧ ∀ r, r ≠ .timNow → (s.pass d).get r = s.get r := by
  have hget (v : Nat) (r : Reg) (hr : r ≠ .timNow) : (s.wr F.timNow_NOW v).get r = s.get r := s.get_set_other _ hr
  simp only [State.pass, if_neg hd, State.timeCounts_of_still h]
  exact ⟨rfl, rfl, rfl, fun r hr => hget _ r hr⟩

/-- A stopped device that owes no containment ends a command as its pins follow their causes. -/
theorem State.Stopped.ended_of_rests {s : State} (h : s.Stopped) (hrests : s.Rests) (k : Nat) :
    s.ended.boot = s.boot ∧ s.ended.pin k = s.pinSync.pin k := by
  have hsettle : s.settle = s := by simp only [State.settle, State.settleN, show s.faults.due = [] from hrests]
  have hdue : s.pinSync.faults.due = [] := by
    have hfaults : s.pinSync.faults = s.faults := by simp [State.pinSync]
    rw [hfaults]
    exact hrests
  unfold State.ended
  simp [hsettle, h.sync, hdue, State.pin, State.pinSync_boot]

/-- A device at TERMINAL whose pier is in service, its gate enabled: the pier's pin is low, and a fall still waits there
for 1 µs. -/
def waitingFall : State :=
  { regs := [(.fltHalt, 0xC000000000000001), (.gteCtl 4, 0x8000000000000000)]
    pins := [(4, { fallDue := some 1000 })]
    boot := { phase := .running, pierBooted := true } }

/-- Every word but two of the state stands at its reset value. -/
theorem waitingFall_rd {f : Fld} (hhalt : .fltHalt ≠ f.reg) (hgate : .gteCtl 4 ≠ f.reg) :
    waitingFall.rd f = State.reset.rd f := by
  simp [State.rd, State.get, waitingFall, State.reset, regFind, hhalt, hgate]

theorem waitingFall_stopped : waitingFall.Stopped where
  halted := by decide
  term := by decide
  source := by decide
  links n := (waitingFall_rd (by simp) (by simp)).trans (State.rd_reset_eq_zero _ rfl)
  queues q := (waitingFall_rd (by simp) (by simp)).trans (State.rd_reset_eq_zero _ rfl)
  conns n := (waitingFall_rd (by simp) (by simp)).trans (State.rd_reset_eq_zero _ rfl)
  trees t := by
    rw [State.treeActive, waitingFall_rd (by simp) (by simp), State.rd_reset_eq_zero _ rfl]
    rfl

theorem waitingFall_still (b k : Nat) : waitingFall.cntCounts b k = false := by
  have hen : waitingFall.rd (F.cntCtl_EN b k) = 0 :=
    (waitingFall_rd (by simp) (by simp)).trans (State.rd_reset_eq_zero _ rfl)
  simp [State.cntCounts, State.on, hen]

/-- At 2 µs the fall that waited has come due at 1 µs, so that the pin has been low for 1 µs only and stays low. -/
theorem waitingFall_ended :
    (waitingFall.passTo 2000).ended.boot = waitingFall.boot
      ∧ ((waitingFall.passTo 2000).ended.pin 4).level = false := by
  obtain ⟨hpins, hboot, hfaults, hget⟩ :=
    State.pass_of_still (s := waitingFall) (d := 2000 - waitingFall.now) (by decide) waitingFall_still
  rw [← State.passTo] at hpins hboot hfaults hget
  have hnow : (waitingFall.passTo 2000).now = 2000 := (State.passTo_now _ _).trans (by decide)
  have hpin : (waitingFall.passTo 2000).pin 4 = { fallAt := 1000 } := by
    rw [State.pin, hpins]
    decide
  have hstopped : (waitingFall.passTo 2000).Stopped :=
    waitingFall_stopped.of_steady_words fun r hr => hget r fun h => by simp [h, Reg.steady] at hr
  have hrests : (waitingFall.passTo 2000).Rests := by
    rw [State.Rests, hfaults]
    rfl
  obtain ⟨hboot', hpin'⟩ := hstopped.ended_of_rests hrests 4
  have hfree : (waitingFall.passTo 2000).pierBusy = false := by
    rw [State.pierBusy, hboot]
    decide
  refine ⟨hboot'.trans hboot, ?_⟩
  rw [hpin', State.pinSync_pier, hfree, hpin, hnow]
  simp [pinNext]

theorem exec_busyPeriodMinEnd_rises {pin : Fin 5} {s : State} (hlow : (s.pin pin).level = false)
    (hfree : s.pinBusy pin = false) :
    exec (.busyPeriodMinEnd pin) s = .next (s.passTo ((s.pin pin).fallAt + 2000)).ended := by
  have hexec : exec (.busyPeriodMinEnd pin) s = execBusyPeriodMinEnd pin s := rfl
  simp [hexec, execBusyPeriodMinEnd, hlow, hfree, fin_next]

/-- Refutes O10: of the pier's pin in `waitingFall`, low, not busy and its gate enabled, the end of the busy period does not
raise the pin, because the fall that still waits there comes due while the 2 µs pass and starts them anew. No state of
which the statement's clause holds ends as that command does. -/
theorem not_readyPinsAndAttention : ¬ Obligations.ReadyPinsAndAttention := by
  unfold Obligations.ReadyPinsAndAttention
  rintro ⟨hpins, -⟩
  obtain ⟨-, -, hrise⟩ := hpins 4 waitingFall
  obtain ⟨t, hexec, hlevel, -, -, hwords⟩ := hrise (by decide) (by decide) (by decide)
  have hlow : (waitingFall.pin 4).level = false := by decide
  have hended : (waitingFall.passTo 2000).ended = t.ended :=
    Host.Outcome.next.inj ((exec_busyPeriodMinEnd_rises (pin := 4) hlow (by decide)).symm.trans hexec)
  obtain ⟨hboot, hstays⟩ := waitingFall_ended
  have hstopped : t.Stopped := waitingFall_stopped.of_steady_words fun r hr =>
    hwords.reg r (by rintro (rfl | ⟨b, k, rfl | rfl⟩) <;> cases hr)
  have hboot' : t.boot = waitingFall.boot := by rw [← hstopped.ended_boot, ← hended, hboot]
  have hfree : t.pierBusy = false := by
    rw [State.pierBusy, hboot']
    decide
  have hup : (t.ended.pin 4).level = true := State.PierRises.ended ⟨hstopped, hfree, hlevel⟩
  rw [← hended, hstays] at hup
  cases hup

end Sys2Proof.Machine
end

section
/-! SUPPORT. The words of queue contexts: what entries written to rings, vectors, counters and stalls leave of them (03 R82). -/

namespace Sys2Proof.Machine

/-- The words of queue contexts. -/
def Reg.ofQueue : Reg → Bool
  | .qctx _ _ => true
  | _ => false

/-- A change of other parts of the state than the words of queue contexts. -/
abbrev LeavesQueues (s t : State) : Prop := Leaves (fun r => r.ofQueue = true) s t

theorem Leaves.rd {p : Reg → Prop} {s t : State} (h : Leaves p s t) (f : Fld) (hf : p f.reg) : t.rd f = s.rd f := by
  rw [State.rd, h.reg _ hf, State.rd]

theorem Leaves.mono {p p' : Reg → Prop} {s t : State} (h : Leaves p s t) (hp : ∀ r, p' r → p r) : Leaves p' s t :=
  ⟨h.mem, h.pal, h.palPoison, h.palEcc, fun r hr => h.reg r (hp r hr)⟩

theorem Leaves.ite {p : Reg → Prop} {c : Prop} [Decidable c] {s t u : State} (ht : c → Leaves p s t)
    (hu : ¬c → Leaves p s u) : Leaves p s (if c then t else u) := by
  split
  · exact ht ‹_›
  · exact hu ‹_›

theorem State.tally_leavesQueues (s : State) (b code n : Nat) : LeavesQueues s (s.tally b code n) := by
  refine (s.tally_leaves b code n).mono fun r hr => ?_
  cases r with
  | qctx q w => trivial
  | _ => cases hr

theorem State.dma_leavesQueues (s : State) (o : Output) : LeavesQueues s (s.dma o) :=
  Leaves.ite (fun _ => Leaves.refl _ s) fun _ => Leaves.of rfl rfl rfl rfl rfl

theorem State.msix_leavesQueues (s : State) (func vector : Nat) : LeavesQueues s (s.msix func vector) :=
  Leaves.ite
    (fun _ => (((Leaves.wr s _ _ nofun).trans (Leaves.wr _ _ _ nofun)).trans (Leaves.wr _ _ _ nofun)).trans
      (Leaves.wr _ _ _ nofun))
    fun _ => Leaves.ite (fun _ => Leaves.ite (fun _ => Leaves.refl _ s) fun _ => Leaves.of rfl rfl rfl rfl rfl)
      fun _ => s.dma_leavesQueues _

theorem State.bellEvent_leavesQueues (s : State) (q : Nat) : LeavesQueues s (s.bellEvent q) :=
  Leaves.ite (fun _ => Leaves.of rfl rfl rfl rfl rfl) fun _ => Leaves.refl _ s

/-- Work rings that return to ACTIVE change in word 0 only (03 R97). -/
theorem State.unstall_leaves (s : State) (cq : Nat) : Leaves (fun r => ∀ q, r ≠ .qctx q 0) s (s.unstall cq) :=
  Leaves.ite (fun _ => Leaves.refl _ s) fun _ =>
    Leaves.foldl (fun t _ => Leaves.ite (fun _ => Leaves.wr t _ _ fun h => h _ rfl) fun _ => Leaves.refl _ t) _ s

/-- A field of a queue context that an entry written to a ring leaves: any but PI, EVLOST and HEADSINCE. -/
def Fld.ringSteady (f : Fld) : Bool :=
  match f.reg with
  | .qctx _ w => decide (f.hi < 64) && decide (w ≠ 12) && decide (w = 2 → 20 < f.lo) && decide (w = 5 → 23 < f.lo)
  | _ => false

theorem Fld.ringSteady_cases {f : Fld} (h : f.ringSteady = true) :
    ∃ q w, f.reg = .qctx q w ∧ f.hi < 64 ∧ w ≠ 12 ∧ (w = 2 → 20 < f.lo) ∧ (w = 5 → 23 < f.lo) := by
  unfold Fld.ringSteady at h
  split at h
  · next q w hreg =>
    simp only [Bool.and_eq_true, decide_eq_true_eq] at h
    obtain ⟨⟨⟨hhi, h12⟩, h2⟩, h5⟩ := h
    exact ⟨q, w, hreg, hhi, h12, h2, h5⟩
  · cases h

/-- From `s` to `t` queue contexts change at most in PI, EVLOST and HEADSINCE. -/
def RingOnly (s t : State) : Prop := ∀ f : Fld, f.ringSteady = true → t.rd f = s.rd f

theorem RingOnly.refl (s : State) : RingOnly s s := fun _ _ => rfl

theorem RingOnly.trans {s t u : State} (h : RingOnly s t) (g : RingOnly t u) : RingOnly s u :=
  fun f hf => (g f hf).trans (h f hf)

theorem RingOnly.ite {c : Prop} [Decidable c] {s t u : State} (ht : c → RingOnly s t) (hu : ¬c → RingOnly s u) :
    RingOnly s (if c then t else u) := by
  split
  · exact ht ‹_›
  · exact hu ‹_›

theorem Leaves.ringOnly {s t : State} (h : LeavesQueues s t) : RingOnly s t := fun f hf => by
  obtain ⟨q, w, hreg, -⟩ := Fld.ringSteady_cases hf
  exact h.rd f (by rw [hreg]; rfl)

theorem RingOnly.wrPi (s : State) (q v : Nat) : RingOnly s (s.wr (F.qctx_PI q) v) := fun f hf => by
  obtain ⟨k, w, hreg, hhi, -, h2, -⟩ := Fld.ringSteady_cases hf
  refine s.rd_wr_apart v (by simp) hhi ?_
  by_cases hw : w = 2
  · exact .inr (.inr (h2 hw))
  · exact .inl (by simp [hreg, hw])

theorem RingOnly.wrEvlost (s : State) (q v : Nat) : RingOnly s (s.wr (F.qctx_EVLOST q) v) := fun f hf => by
  obtain ⟨k, w, hreg, hhi, -, -, h5⟩ := Fld.ringSteady_cases hf
  refine s.rd_wr_apart v (by simp) hhi ?_
  by_cases hw : w = 5
  · exact .inr (.inr (h5 hw))
  · exact .inl (by simp [hreg, hw])

theorem RingOnly.wrHeadsince (s : State) (q v : Nat) : RingOnly s (s.wr (F.qctx_HEADSINCE q) v) := fun f hf => by
  obtain ⟨k, w, hreg, -, h12, -⟩ := Fld.ringSteady_cases hf
  exact s.rd_wr_other v (by simp [hreg, h12])

theorem State.advancePi_ringOnly (s : State) (q : Nat) : RingOnly s (s.advancePi q) :=
  (RingOnly.ite (fun _ => RingOnly.wrHeadsince s q _) fun _ => RingOnly.refl s).trans (RingOnly.wrPi _ q _)

theorem State.ringPut_ringOnly (s : State) (q : Nat) (e : Quad) : RingOnly s (s.ringPut q e) :=
  RingOnly.ite (fun _ => RingOnly.refl s) fun _ =>
    RingOnly.trans
      (RingOnly.ite (fun _ => ((s.dma_leavesQueues _).trans (State.dma_leavesQueues _ _)).ringOnly)
        fun _ => (s.dma_leavesQueues _).ringOnly)
      (State.advancePi_ringOnly _ q)

theorem State.postEvent_ringOnly (s : State) (q code queue : Nat) (arg : Word) :
    RingOnly s (s.postEvent q code queue arg) :=
  RingOnly.ite (fun _ => RingOnly.refl s) fun _ =>
    RingOnly.ite
      (fun _ => RingOnly.ite (fun _ => RingOnly.wrEvlost s q _) fun _ =>
        (s.ringPut_ringOnly q _).trans
          (RingOnly.ite (fun _ => (State.msix_leavesQueues _ _ _).ringOnly) fun _ => RingOnly.refl _))
      fun _ => RingOnly.refl s

theorem State.postLost_ringOnly (s : State) (q : Nat) : RingOnly s (s.postLost q) :=
  RingOnly.ite (fun _ => RingOnly.refl s) fun _ => (s.postEvent_ringOnly q _ _ _).trans (RingOnly.wrEvlost _ q _)

end Sys2Proof.Machine
end

section
/-! SUPPORT. Doorbells (03 R77, R80): the depth of a ring, and what each branch of R80 answers. -/

namespace Sys2Proof.Machine

theorem ringDepth_pi_mod (k pi ci : Nat) : ringDepth k (pi % ringMod k) ci = ringDepth k pi ci := by
  have hlt : ci % ringMod k < ringMod k := Nat.mod_lt _ (Nat.two_pow_pos _)
  simp only [ringDepth, Nat.add_sub_assoc hlt.le, Nat.mod_add_mod]

theorem ringDepth_ci_mod (k pi ci : Nat) : ringDepth k pi (ci % ringMod k) = ringDepth k pi ci := by
  simp only [ringDepth, Nat.mod_mod]

/-- An index of a ring of at most 2^20 entries fits the 21 bits of PI and CI (03 R82). -/
theorem mod_ringMod_fits {k : Nat} (h : k ≤ 20) (i : Nat) : i % ringMod k % 2 ^ 21 = i % ringMod k := by
  have hmod : ringMod k ≤ 2 ^ 21 := Nat.pow_le_pow_right (by decide) (by omega)
  exact Nat.mod_eq_of_lt ((Nat.mod_lt _ (Nat.two_pow_pos _)).trans_le hmod)

/-- A doorbell to a queue that is DRAINING or in ERROR is dropped. -/
theorem State.bell_of_shut {s : State} {q : Nat} (hshut : s.qState q = QS.draining ∨ s.qState q = QS.error)
    (index : Nat) : (s.bell q index).1 = s.count (F.qctx_DBDROP q) := by
  simp [State.bell, hshut]

section

variable {s : State} {q index : Nat} (hopen : ¬(s.qState q = QS.draining ∨ s.qState q = QS.error))
include hopen

/-- A producer's doorbell that neither shortens nor overfills the ring moves PI alone of the indices. -/
theorem State.bell_of_producer (hlog : s.qLog q ≤ 20) (htype : s.rd (F.qctx_TYPE q) < 2)
    (hold : ringDepth (s.qLog q) (s.rd (F.qctx_PI q)) (s.rd (F.qctx_CI q))
      ≤ ringDepth (s.qLog q) index (s.rd (F.qctx_CI q)))
    (hfits : ringDepth (s.qLog q) index (s.rd (F.qctx_CI q)) ≤ 2 ^ s.qLog q) :
    (s.bell q index).1.rd (F.qctx_PI q) = index % ringMod (s.qLog q)
      ∧ (s.bell q index).1.rd (F.qctx_CI q) = s.rd (F.qctx_CI q) := by
  simp only [State.bell, if_neg hopen, if_pos htype, ringDepth_pi_mod, if_pos (And.intro hold hfits)]
  have hend (t : State) (f : Fld) (hf : f.reg.ofQueue = true) : ((t.tally 16 0x83).bellEvent q).rd f = t.rd f :=
    ((t.tally_leavesQueues _ _ _).trans (State.bellEvent_leavesQueues _ _)).rd f hf
  rw [hend _ _ rfl, hend _ _ rfl]
  constructor
  · rw [State.rd_wr _ _ _ (by simp) (by simp)]
    exact mod_ringMod_fits hlog index
  · exact RingOnly.trans (RingOnly.ite (fun _ => RingOnly.wrHeadsince s q _) fun _ => RingOnly.refl s)
      (RingOnly.wrPi _ q _) (F.qctx_CI q) rfl

/-- A producer's doorbell that shortens or overfills the ring is dropped. -/
theorem State.bell_of_producer_dropped (htype : s.rd (F.qctx_TYPE q) < 2)
    (hbad : ¬(ringDepth (s.qLog q) (s.rd (F.qctx_PI q)) (s.rd (F.qctx_CI q))
          ≤ ringDepth (s.qLog q) index (s.rd (F.qctx_CI q))
        ∧ ringDepth (s.qLog q) index (s.rd (F.qctx_CI q)) ≤ 2 ^ s.qLog q)) :
    (s.bell q index).1 = s.count (F.qctx_DBDROP q) := by
  simp only [State.bell, if_neg hopen, if_pos htype, ringDepth_pi_mod, if_neg hbad]

/-- A consumer's doorbell that does not lengthen the ring moves CI; what follows, the report of lost events or the end of
stalls, leaves it. -/
theorem State.bell_of_consumer (hlog : s.qLog q ≤ 20) (htype : ¬s.rd (F.qctx_TYPE q) < 2)
    (hold : ringDepth (s.qLog q) (s.rd (F.qctx_PI q)) index
      ≤ ringDepth (s.qLog q) (s.rd (F.qctx_PI q)) (s.rd (F.qctx_CI q))) :
    (s.bell q index).1.rd (F.qctx_CI q) = index % ringMod (s.qLog q) := by
  simp only [State.bell, if_neg hopen, if_neg htype, ringDepth_ci_mod, if_pos hold]
  have hend (t : State) :
      (if t.rd (F.qctx_TYPE q) = 3 then t.postLost q else t.unstall q).rd (F.qctx_CI q) = t.rd (F.qctx_CI q) := by
    split
    · exact t.postLost_ringOnly q (F.qctx_CI q) rfl
    · exact (t.unstall_leaves q).rd (F.qctx_CI q) (by simp)
  rw [hend, (State.tally_leavesQueues _ _ _ _).rd (F.qctx_CI q) rfl, State.rd_wr _ _ _ (by simp) (by simp)]
  exact mod_ringMod_fits hlog index

/-- A consumer's doorbell that lengthens the ring is dropped. -/
theorem State.bell_of_consumer_dropped (htype : ¬s.rd (F.qctx_TYPE q) < 2)
    (hbad : ¬ringDepth (s.qLog q) (s.rd (F.qctx_PI q)) index
      ≤ ringDepth (s.qLog q) (s.rd (F.qctx_PI q)) (s.rd (F.qctx_CI q))) :
    (s.bell q index).1 = s.count (F.qctx_DBDROP q) := by
  simp only [State.bell, if_neg hopen, if_neg htype, ringDepth_ci_mod, if_neg hbad]

end

theorem State.owns_iff (s : State) (func q : Nat) :
    s.owns func q = true ↔ 2 ≤ q ∧ s.qState q ≠ QS.disabled ∧ s.rd (F.qctx_FUNC q) = func := by
  simp [State.owns, and_assoc]

end Sys2Proof.Machine
end

section
/-! PROOFS. Doorbells (03 R80). -/

namespace Sys2Proof.Machine

/-- Settles O11: the state of the queue and its type decide which test of 03 R80 applies, and the test whether an index
moves. -/
theorem doorbellMovesAnIndexOrDrops : Obligations.DoorbellMovesAnIndexOrDrops := by
  unfold Obligations.DoorbellMovesAnIndexOrDrops
  refine ⟨fun s q index hlog => ⟨fun hopen htype hold hfits => State.bell_of_producer hopen hlog htype hold hfits,
    fun hopen htype hold => State.bell_of_consumer hopen hlog htype.not_gt hold, fun hdrop => ?_⟩, fun s func w => ?_⟩
  · by_cases hshut : s.qState q = QS.draining ∨ s.qState q = QS.error
    · exact State.bell_of_shut hshut index
    · rcases hdrop with hshut' | ⟨htype, hbad⟩ | ⟨htype, hbad⟩
      · exact absurd hshut' hshut
      · rw [← ringMod, ringDepth_pi_mod] at hbad
        exact State.bell_of_producer_dropped hshut htype hbad
      · exact State.bell_of_consumer_dropped hshut htype.not_gt hbad
  · simp only [State.doorbell, State.owns_iff]
    rfl

end Sys2Proof.Machine
end

section
/-! SUPPORT. The queue-context window (03 R71 to R74): the written word, an activation and a drain. -/

namespace Sys2Proof.Machine

theorem exec_qcwWrite (m : Mst) (w : Fin 16) (v : Word) (s : State) :
    exec (.qcwWrite m w v) s = execQcwWrite m w v s := rfl

theorem exec_queueActivate (m : Mst) (v : Word) (s : State) :
    exec (.queueActivate m v) s = execQueueActivate m v s := rfl

theorem exec_queueDisable (m : Mst) (v : Word) (s : State) :
    exec (.queueDisable m v) s = execQueueDisable m v s := rfl

theorem bits_setBits_state (v : Word) {x : Nat} (hx : x < 8) : bits (setBits v 59 57 x) 59 57 = x := by
  rw [bits_setBits _ _ _ _ (by decide) (by decide)]
  exact Nat.mod_eq_of_lt hx

/-- A write of word 0 that carries STATE 0 leaves the queue DISABLED, whatever its other fields. -/
theorem State.plainWrite_qState (s : State) (q : Nat) (v : Word) :
    (s.plainWrite (.qctx q 0) (setBits v 59 57 0)).qState q = QS.disabled := by
  have hmem : fd 59 57 .rw 0 ∈ (Reg.qctx q 0).fields := by simp [Reg.fields]
  rw [State.qState, State.rd, State.plainWrite, State.get_set_same]
  exact (bits_accWrite_of_rw hmem rfl false _ _).trans (bits_setBits_state v (by decide))

section

variable {s : State} {m : Mst} {v : Word}

theorem State.qcwPut_of_other_word {w : Nat} (hw : w ≠ 0) (hst : s.qState (s.selOf m .qcw) ≠ QS.disabled) :
    s.qcwPut m w v = s := by
  simp [State.qcwPut, hw, hst]

theorem State.qcwPut_of_refused_state (hst : s.qState (s.selOf m .qcw) ≠ QS.disabled) (hv : bits v 59 57 ≠ 0) :
    s.qcwPut m 0 v = s := by
  simp [State.qcwPut, hst, hv]

theorem State.qcwPut_of_not_active (hst : s.qState (s.selOf m .qcw) = QS.disabled) (hv : bits v 59 57 ≠ 1) :
    s.qcwPut m 0 v = s.plainWrite (.qctx (s.selOf m .qcw) 0) (setBits v 59 57 0) := by
  simp [State.qcwPut, hst, hv]

/-- An activation is checked against the context as the write leaves it (03 R73). -/
theorem State.qcwPut_of_active (hst : s.qState (s.selOf m .qcw) = QS.disabled) (hv : bits v 59 57 = 1) :
    s.qcwPut m 0 v
      = if (s.plainWrite (.qctx (s.selOf m .qcw) 0) (setBits v 59 57 0)).queueOk (s.selOf m .qcw) then
          (s.plainWrite (.qctx (s.selOf m .qcw) 0) (setBits v 59 57 0)).queueStart (s.selOf m .qcw)
        else (s.plainWrite (.qctx (s.selOf m .qcw) 0) (setBits v 59 57 0)).count F.qcwStat_REFUSED := by
  simp [State.qcwPut, hst, hv]

theorem State.qcwPut_of_disable
    (hst : s.qState (s.selOf m .qcw) = QS.active ∨ s.qState (s.selOf m .qcw) = QS.stalled
      ∨ s.qState (s.selOf m .qcw) = QS.error) :
    s.qcwPut m 0 (setBits v 59 57 0)
      = (s.wr (F.qctx_STATE (s.selOf m .qcw)) QS.draining).drainGo (s.selOf m .qcw) := by
  have hon : s.qState (s.selOf m .qcw) ≠ QS.disabled := by rcases hst with h | h | h <;> simp [h]
  simp [State.qcwPut, State.queueStop, hon, hst, bits_setBits_state v]

end

theorem State.queueStart_qState (s : State) (q : Nat) : (s.queueStart q).qState q = QS.active :=
  State.rd_wr _ _ _ (by simp) (by simp)

/-- The words of the indices, of RSV and OPEN, and of the counts start at zero (03 R73). -/
theorem State.queueStart_get (s : State) (q : Nat) {w : Nat} (hw : w = 2 ∨ w = 4 ∨ w = 5) :
    (s.queueStart q).get (.qctx q w) = 0 := by
  rcases hw with rfl | rfl | rfl <;> simp [State.queueStart, State.samplingStart, State.wr, State.get_set]

theorem State.queueStart_rd (s : State) (q : Nat) {w : Nat} (hw : w = 2 ∨ w = 4 ∨ w = 5) (hi lo : Nat) :
    (s.queueStart q).rd ⟨.qctx q w, hi, lo⟩ = 0 := by
  simp [State.rd, s.queueStart_get q hw, bits]

theorem State.queueStart_node (s : State) (q : Nat) : ((s.queueStart q).que q).node = {} := by
  have hque (t : State) (f : Fld) (v : Nat) : (t.wr f v).que q = t.que q := rfl
  rw [State.queueStart, hque, State.setQue_que_same]

theorem satAdd_lt (n v k : Nat) : satAdd n v k < 2 ^ n := by
  have := Nat.two_pow_pos n
  unfold satAdd
  omega

/-- A saturating count of a field. -/
theorem State.count_rd (s : State) {f : Fld} (k : Nat) (h : f.lo ≤ f.hi) (h' : f.hi < 64) :
    (s.count f k).rd f = satAdd (f.hi + 1 - f.lo) (s.rd f) k := by
  rw [State.count, State.rd_wr _ _ _ h h', Nat.mod_eq_of_lt (satAdd_lt _ _ _)]

theorem State.rd_plainWrite_other (s : State) {r : Reg} {g : Fld} (v : Word) (h : g.reg ≠ r) :
    (s.plainWrite r v).rd g = s.rd g := by
  rw [State.rd, State.plainWrite, State.get_set_other _ _ h, State.rd]

end Sys2Proof.Machine
end

section
/-! PROOFS. The queue-context window (03 R71, R73, R74). -/

namespace Sys2Proof.Machine

/-- Settles O12: STATE before the write and the STATE written decide what a write of the window does. -/
theorem queueContextWindow : Obligations.QueueContextWindow := by
  unfold Obligations.QueueContextWindow
  refine ⟨fun m w v s => ⟨fun hopen => ?_, fun hopen => ⟨?_, ?_⟩⟩, fun m w v s => ⟨State.qcwPut_of_other_word,
    State.qcwPut_of_refused_state, fun hst hv => ?_, fun hst hv => ⟨fun hok => ?_, fun hbad => ?_⟩,
    State.qcwPut_of_disable⟩⟩
  · rw [exec_qcwWrite, execQcwWrite, regWriteRow_opens hopen]
  · rw [exec_queueActivate, execQueueActivate, regWriteRow_opens hopen]
  · rw [exec_queueDisable, execQueueDisable, regWriteRow_opens hopen]
  · rw [State.qcwPut_of_not_active hst hv]
    exact s.plainWrite_qState _ v
  · rw [State.qcwPut_of_active hst hv, if_pos hok]
    refine ⟨State.queueStart_qState _ _, ?_, ?_, ?_, ?_, congrArg DrrNode.deficit (State.queueStart_node _ _), ?_, ?_, ?_,
      ?_⟩ <;> exact State.queueStart_rd _ _ (by simp) _ _
  · rw [State.qcwPut_of_active hst hv, if_neg (by simp [hbad])]
    constructor
    · exact (State.rd_wr_other _ _ (by simp)).trans (s.plainWrite_qState _ v)
    · rw [State.count_rd _ _ (by simp) (by simp), s.rd_plainWrite_other _ (by simp)]
      rfl

end Sys2Proof.Machine
end

section
/-! SUPPORT. Taking entries of a work ring (03 R96, R97, R106): the reservation, the entry taken, and the stall. -/

namespace Sys2Proof.Machine

theorem exec_takeWorkEntry (q : QNum) (e : Octet) (s : State) :
    exec (.takeWorkEntry q e) s = execTakeWorkEntry q e s := rfl

/-! ## The stall of a ring (03 R97) -/

@[simp] theorem State.dma_queues (s : State) (o : Output) : (s.dma o).queues = s.queues := by
  unfold State.dma
  split <;> rfl

@[simp] theorem State.msix_queues (s : State) (func vector : Nat) : (s.msix func vector).queues = s.queues := by
  unfold State.msix
  split
  · rfl
  · split
    · split <;> rfl
    · exact s.dma_queues _

@[simp] theorem State.ringPut_queues (s : State) (q : Nat) (e : Quad) : (s.ringPut q e).queues = s.queues := by
  have hadvance (t : State) : (t.advancePi q).queues = t.queues := by
    unfold State.advancePi
    dsimp only
    split <;> rfl
  unfold State.ringPut
  split
  · rfl
  · refine (hadvance _).trans ?_
    split <;> simp

/-- An event that is posted is no change of what queues hold. -/
@[simp] theorem State.postEvent_queues (s : State) (q code queue : Nat) (arg : Word) :
    (s.postEvent q code queue arg).queues = s.queues := by
  unfold State.postEvent State.postEntry
  split_ifs
  · rfl
  · rfl
  · dsimp only
    split <;> simp
  · rfl

theorem State.stallRing_qState (s : State) (q : Nat) : (s.stallRing q).qState q = QS.stalled := by
  have hsteady : Steady ((s.wr (F.qctx_STATE q) QS.stalled).closeOpen q) (s.stallRing q) :=
    (State.postEvent_steady _ _ _ _ _).trans (State.openSync_steady _ q)
  exact (hsteady.rd (F.qctx_STATE q)).trans (State.rd_wr _ _ _ (by simp) (by simp))

/-- The open segment closes at the last entry taken (03 R91, R97). -/
theorem State.closeOpen_last (s : State) (q : Nat) {t : Taken} (h : ((s.closeOpen q).que q).taken.getLast? = some t) :
    t.close = true := by
  rw [State.closeOpen, State.setQue_que_same] at h
  dsimp only at h
  split at h
  · cases h
  · simp only [List.reverse_cons, List.getLast?_concat, Option.some.injEq] at h
    rw [← h]

theorem State.stallRing_que (s : State) (q : Nat) :
    (s.stallRing q).que q = ((s.wr (F.qctx_STATE q) QS.stalled).closeOpen q).que q := by
  rw [State.que, State.que, State.stallRing, State.openSync, State.wr_queues, State.postEvent_queues]

/-! ## The entry taken (03 R96) -/

theorem Octet.ofByteList_toByteList (e : Octet) : Octet.ofByteList e.toByteList = e := by
  have hword (w : Word) : wordOfBytes (bytesOf 8 w.toNat) = w := by
    simpa using wordOfBytes_bytesOf_append w []
  simp [Octet.ofByteList, Octet.toByteList, Octet.toList, wordOfBytes_bytesOf_append, hword, length_bytesOf,
    List.drop_append, List.drop_eq_nil_of_le]

theorem State.ringEntry_data {q : Nat} (hq : q ≠ 0) (s : State) (e : Octet) :
    s.ringEntry q (.data e.toByteList) = (s, some e) := by
  simp [State.ringEntry, hq, Octet.ofByteList_toByteList]

/-- The next entry has left its ring: CI moves, and what was read ahead goes. -/
def State.entryOut (s : State) (q : Nat) : State := (s.advanceCi q).setQue q fun v => { v with ahead := none }

theorem State.setQue_steady (s : State) (q : Nat) (f : QueueSt → QueueSt) : Steady s (s.setQue q f) := Steady.parts

theorem State.entryOut_steady (s : State) (q : Nat) : Steady s (s.entryOut q) := by
  unfold State.entryOut State.advanceCi
  exact ((Steady.wr s _).trans (Steady.wr _ _)).trans (State.setQue_steady _ q _)

theorem State.entryOut_rd_other (s : State) (q : Nat) {g : Fld} (h2 : g.reg ≠ .qctx q 2) (h12 : g.reg ≠ .qctx q 12) :
    (s.entryOut q).rd g = s.rd g := by
  rw [State.entryOut, State.setQue_rd, State.advanceCi, State.rd_wr_other _ _ h12, State.rd_wr_other _ _ h2]

theorem State.entryOut_ci {s : State} {q : Nat} (hlog : s.qLog q ≤ 20) :
    (s.entryOut q).rd (F.qctx_CI q) = (s.rd (F.qctx_CI q) + 1) % ringMod (s.qLog q) := by
  rw [State.entryOut, State.setQue_rd, State.advanceCi, State.rd_wr_other _ _ (by simp),
    State.rd_wr _ _ _ (by simp) (by simp)]
  exact mod_ringMod_fits hlog _

theorem State.entryOut_taken (s : State) (q : Nat) : ((s.entryOut q).que q).taken = (s.que q).taken := by
  rw [State.entryOut, State.setQue_que_same]
  rfl

theorem State.reserve_rsv (s : State) (cq : Nat) :
    (s.reserve cq).rd (F.qctx_RSV cq) = (s.rd (F.qctx_RSV cq) + 1) % 2 ^ 21 :=
  State.rd_wr _ _ _ (by simp) (by simp)

/-- An entry as it joins the taken ones: with the state's next identity, and closing its segment as the 64th (03 R91). -/
def State.joining (s : State) (q : Nat) (t : Taken) : Taken :=
  { t with
    id := s.nextId
    close := t.close || (!(newestSegment (s.que q).live).2 && (newestSegment (s.que q).live).1 == 63) }

theorem State.pushTaken_taken (s : State) (q : Nat) (t : Taken) :
    ((s.pushTaken q t).que q).taken = (s.que q).taken ++ [s.joining q t] := by
  rw [State.que, State.pushTaken, State.openSync, State.wr_queues, State.takeId_queues, ← State.que,
    State.setQue_que_same]
  rfl

/-- An entry that joins the taken ones changes OPEN alone of the words. -/
theorem State.pushTaken_rd (s : State) (q : Nat) (t : Taken) {g : Fld} (hg : g.hi < 64)
    (hopen : (F.qctx_OPEN q).Apart g) : (s.pushTaken q t).rd g = s.rd g :=
  State.rd_wr_apart _ _ (by simp) hg hopen

/-- Whether an entry is malformed depends on steady words alone: those of its connection and word 0 of its queue. -/
theorem State.malReason_congr {s u : State} (h : ∀ r, r.steady = true → u.get r = s.get r) (q : Nat) (e : Octet)
    (ilen : Option Nat) : u.malReason q e ilen = s.malReason q e ilen := by
  have hrd (f : Fld) (hf : f.reg.steady = true) : u.rd f = s.rd f := by rw [State.rd, h _ hf, State.rd]
  have hconn : u.entryConnOk q e = s.entryConnOk q e := by
    simp only [State.entryConnOk, hrd (F.conn_STATE _) rfl, hrd (F.conn_TENANT _) rfl, hrd (F.qctx_TENANT q) rfl]
  have hpriv : u.entryPrivOk q e = s.entryPrivOk q e := by
    simp only [State.entryPrivOk, hrd (F.qctx_PRIV q) rfl]
  simp only [State.malReason, hconn, hpriv]

section

variable {s : State} {q : Nat} {t : Taken} {ilen : Option Nat}

theorem State.malReason_reserve (s : State) (cq q : Nat) (e : Octet) (ilen : Option Nat) :
    (s.reserve cq).malReason q e ilen = s.malReason q e ilen :=
  State.malReason_congr (Steady.wr s (f := F.qctx_RSV cq) _).reg q e ilen

theorem State.takeOnto_of_wellformed (h : s.malReason q t.entry ilen = none) :
    s.takeOnto q t ilen = (s.reserve (s.rd (F.qctx_CQ q))).pushTaken q t := by
  simp [State.takeOnto, State.malReason_reserve, h]

/-- A malformed entry is taken, counted and ended (03 R106). -/
theorem State.takeOnto_of_malformed (hq : q ≠ 0) {why : Nat} (h : s.malReason q t.entry ilen = some why) :
    s.takeOnto q t ilen
      = (((s.reserve (s.rd (F.qctx_CQ q))).count (F.qctx_MALCOUNT q)).wr (F.qctx_LASTREASON q) why).pushTaken q
          { t with started := true, res := some { status := ST.malformed, reason := why } } := by
  simp [State.takeOnto, State.malReason_reserve, h, State.takeMalformed, hq]

/-- A taken entry, malformed or not, changes of the words RSV of the completion ring, and OPEN and word 5 of its own
queue. -/
theorem State.takeOnto_rd (hq : q ≠ 0) {g : Fld} (hg : g.hi < 64) (hopen : (F.qctx_OPEN q).Apart g)
    (h5 : g.reg ≠ .qctx q 5) : (s.takeOnto q t ilen).rd g = (s.reserve (s.rd (F.qctx_CQ q))).rd g := by
  cases h : s.malReason q t.entry ilen with
  | none => rw [State.takeOnto_of_wellformed h, State.pushTaken_rd _ _ _ hg hopen]
  | some why =>
    rw [State.takeOnto_of_malformed hq h, State.pushTaken_rd _ _ _ hg hopen, State.rd_wr_other _ _ h5]
    exact State.rd_wr_other _ _ h5

theorem State.takeOnto_rsv (hq : q ≠ 0) :
    (s.takeOnto q t ilen).rd (F.qctx_RSV (s.rd (F.qctx_CQ q))) = (s.rd (F.qctx_RSV (s.rd (F.qctx_CQ q))) + 1) % 2 ^ 21 := by
  rw [State.takeOnto_rd hq (by simp) (by simp [Fld.Apart]) (by simp), State.reserve_rsv]

theorem State.takeOnto_ci (hq : q ≠ 0) : (s.takeOnto q t ilen).rd (F.qctx_CI q) = s.rd (F.qctx_CI q) := by
  rw [State.takeOnto_rd hq (by simp) (by simp [Fld.Apart]) (by simp), State.reserve, State.rd_wr_other _ _ (by simp)]

theorem State.takeOnto_taken_of_wellformed (h : s.malReason q t.entry ilen = none) :
    ∃ close, ((s.takeOnto q t ilen).que q).taken = (s.que q).taken ++ [{ t with id := s.nextId, close := close }] := by
  rw [State.takeOnto_of_wellformed h, State.pushTaken_taken]
  exact ⟨_, rfl⟩

theorem State.takeOnto_taken_of_malformed (hq : q ≠ 0) {why : Nat} (h : s.malReason q t.entry ilen = some why) :
    ∃ close, ((s.takeOnto q t ilen).que q).taken
      = (s.que q).taken ++ [{ t with
          id := s.nextId, close := close, started := true, res := some { status := ST.malformed, reason := why } }] := by
  rw [State.takeOnto_of_malformed hq h, State.pushTaken_taken]
  exact ⟨_, rfl⟩

/-- MALCOUNT and LASTREASON tell of a malformed entry (03 R106). -/
theorem State.takeOnto_counts (hq : q ≠ 0) {why : Nat} (h : s.malReason q t.entry ilen = some why) :
    (s.takeOnto q t ilen).rd (F.qctx_MALCOUNT q) = satAdd 16 (s.rd (F.qctx_MALCOUNT q)) 1
      ∧ (s.takeOnto q t ilen).rd (F.qctx_LASTREASON q) = why % 256 := by
  rw [State.takeOnto_of_malformed hq h, State.pushTaken_rd _ _ _ (by simp) (by simp [Fld.Apart]),
    State.pushTaken_rd _ _ _ (by simp) (by simp [Fld.Apart])]
  constructor
  · rw [State.rd_wr_apart _ _ (by simp) (by simp) (by simp [Fld.Apart]), State.count_rd _ _ (by simp) (by simp),
      State.reserve, State.rd_wr_other _ _ (by simp)]
    rfl
  · exact State.rd_wr _ _ _ (by simp) (by simp)

end

/-! ## What the command answers (03 R96, R97, 16 R511) -/

/-- A served ring reads its context before anything else. -/
theorem exec_takeWorkEntry_served {q : QNum} {e : Octet} {s u : State} (hu : u = s.structSeen (queueLine q) 2)
    (hq : 2 ≤ q.val) (htype : s.rd (F.qctx_TYPE q) = 0) (hserves : s.serves q = true) (hdepth : s.qDepth q ≠ 0)
    (hsketch : s.sketchServed q = false) :
    exec (.takeWorkEntry q e) s
      = if u.structLost (queueLine q) 2 then .next (u.structRaise Src.QCW_UNCORR (queueLine q) q).ended
        else if !u.cqActive q then .next (u.closeOpen q).ended
        else if !u.cqRoom q then .next (u.stallRing q).ended
        else if u.collHeld q e then .next (u.setQue q fun v => { v with ahead := some e }).ended
        else .next ((u.entryOut q).takeOnto q { id := 0, idx := u.rd (F.qctx_CI q), entry := e } none).ended := by
  have hzero : q.val ≠ 0 := by omega
  subst hu
  simp [exec_takeWorkEntry, execTakeWorkEntry, htype, hserves, hdepth, hsketch, State.ringEntry_data hzero, fin_next,
    State.entryOut]

end Sys2Proof.Machine
end

section
/-! PROOFS. Taking work entries (03 R96, R97, R105, R106, 16 R511). -/

namespace Sys2Proof.Machine

/-- Settles O13: the context, the completion ring and the entry are asked in this order; a taken entry reserves, advances
CI and joins the taken ones, malformed or not. -/
theorem workEntriesAreTakenUnderReservation : Obligations.WorkEntriesAreTakenUnderReservation := by
  unfold Obligations.WorkEntriesAreTakenUnderReservation
  intro q e s0 hq htype hserves hdepth hsketch s
  have hzero : q.val ≠ 0 := by omega
  have hexec := exec_takeWorkEntry_served (e := e) (u := s) rfl hq htype hserves hdepth hsketch
  clear_value s
  refine ⟨fun hlost => ?_, fun hread hactive hroom => ⟨?_, s.stallRing_qState q, fun t ht => ?_⟩,
    fun hread hactive hroom hheld => ?_⟩
  · simp [hexec, hlost]
  · simp [hexec, hread, hactive, hroom]
  · rw [State.stallRing_que] at ht
    exact State.closeOpen_last _ _ ht
  · have hmal : (s.entryOut q).malReason q e none = s.malReason q e none :=
      State.malReason_congr (s.entryOut_steady q).reg q e none
    refine ⟨?_, ?_, fun hlog => ?_, fun hok => ?_, fun why hbad => ?_⟩
    · simp [hexec, hread, hactive, hroom, hheld, State.entryOut]
    · rw [← State.entryOut, ← s.entryOut_rd_other q (g := F.qctx_CQ q) (by simp) (by simp), State.takeOnto_rsv hzero,
        s.entryOut_rd_other q (g := F.qctx_RSV _) (by simp) (by simp)]
    · rw [← State.entryOut, State.takeOnto_ci hzero, State.entryOut_ci hlog, ringMod]
    · obtain ⟨close, hjoin⟩ := State.takeOnto_taken_of_wellformed (s := s.entryOut q)
        (t := { id := 0, idx := s.rd (F.qctx_CI q), entry := e }) (hmal.trans hok)
      rw [State.entryOut_taken] at hjoin
      exact ⟨_, hjoin, rfl, rfl, rfl, rfl, rfl⟩
    · obtain ⟨close, hjoin⟩ := State.takeOnto_taken_of_malformed (s := s.entryOut q)
        (t := { id := 0, idx := s.rd (F.qctx_CI q), entry := e }) hzero (hmal.trans hbad)
      obtain ⟨hcount, hreason⟩ := State.takeOnto_counts (s := s.entryOut q)
        (t := { id := 0, idx := s.rd (F.qctx_CI q), entry := e }) hzero (hmal.trans hbad)
      rw [State.entryOut_taken] at hjoin
      rw [s.entryOut_rd_other q (by simp) (by simp)] at hcount
      exact ⟨⟨_, hjoin, rfl, rfl, rfl, rfl, rfl⟩, hcount, hreason⟩

end Sys2Proof.Machine
end

section
/-! SUPPORT. Completions (03 R90, R91, R96, R98): one for each closed segment, on a slot that was reserved. -/

namespace Sys2Proof.Machine

theorem exec_writeCompletion (q : QNum) (s : State) : exec (.writeCompletion q) s = execWriteCompletion q s := rfl

/-- The oldest segment, closed and with every entry completed, is written as one completion (03 R91). -/
theorem State.writeCompletion_of_closed {s : State} {q : Nat} {seg : List Taken} {t : Taken} {r : Result}
    (hseg : segment 64 (s.que q).live = (seg, true)) (hlast : seg.getLast? = some t) (hres : t.res = some r)
    (hall : ∀ x ∈ seg, x.res.isSome = true) :
    s.writeCompletion q
      = ((s.setQue q fun v => { v with taken := v.taken.filter fun x => !seg.any fun y => y.id == x.id }).complete
          (s.rd (F.qctx_CQ q)) seg.length
          (workCompletion q seg.length t r (seg.any (fun x => x.entry.get W.solicit == 1) || r.status != ST.ok))
          (seg.any (fun x => x.entry.get W.solicit == 1) || r.status != ST.ok)).openSync q := by
  have hdone : seg.all (fun x => x.res.isSome) = true := List.all_eq_true.mpr hall
  simp only [State.writeCompletion, hseg, hlast, hres, hdone, Bool.true_or, Bool.true_and, if_true, State.setQue_rd]

/-- An index of a ring that is not full moves its depth by one (03 R77). -/
theorem ringDepth_succ {k pi ci : Nat} (h : ringDepth k pi ci < 2 ^ k) :
    ringDepth k ((pi + 1) % ringMod k) ci = ringDepth k pi ci + 1 := by
  have hmod : ringMod k = 2 * 2 ^ k := by rw [ringMod, Nat.pow_succ, Nat.mul_comm]
  rw [ringDepth_pi_mod]
  have hci : ci % ringMod k < ringMod k := Nat.mod_lt _ (Nat.two_pow_pos _)
  have hstep : pi + 1 + ringMod k - ci % ringMod k = pi + ringMod k - ci % ringMod k + 1 := by omega
  unfold ringDepth at h ⊢
  rw [hstep, Nat.add_mod, Nat.mod_eq_of_lt (a := 1) (by have := Nat.two_pow_pos k; omega), Nat.mod_eq_of_lt (by omega)]

theorem State.qDepth_congr {s t : State} {q : Nat} (hlog : t.qLog q = s.qLog q)
    (hpi : t.rd (F.qctx_PI q) = s.rd (F.qctx_PI q)) (hci : t.rd (F.qctx_CI q) = s.rd (F.qctx_CI q)) :
    t.qDepth q = s.qDepth q := by
  rw [State.qDepth, State.qDepth, hlog, hpi, hci]

theorem State.advancePi_pi {s : State} {q : Nat} (hlog : s.qLog q ≤ 20) :
    (s.advancePi q).rd (F.qctx_PI q) = (s.rd (F.qctx_PI q) + 1) % ringMod (s.qLog q) := by
  rw [State.advancePi, State.rd_wr _ _ _ (by simp) (by simp)]
  exact mod_ringMod_fits hlog _

theorem State.ringPut_pi {s : State} {q : Nat} (hrun : s.halted = false) (hlog : s.qLog q ≤ 20) (e : Quad) :
    (s.ringPut q e).rd (F.qctx_PI q) = (s.rd (F.qctx_PI q) + 1) % ringMod (s.qLog q) := by
  have hput : ∃ u, LeavesQueues s u ∧ s.ringPut q e = u.advancePi q := by
    rw [State.ringPut, hrun, if_neg (by simp)]
    exact ⟨_, Leaves.ite (fun _ => (s.dma_leavesQueues _).trans (State.dma_leavesQueues _ _))
      fun _ => s.dma_leavesQueues _, rfl⟩
  obtain ⟨u, hu, hput⟩ := hput
  have hsize : u.qLog q = s.qLog q := hu.rd (F.qctx_LOG2SIZE q) rfl
  rw [hput, State.advancePi_pi (hsize ▸ hlog), hsize, hu.rd (F.qctx_PI q) rfl]

/-- An entry written to a ring with a free slot fills one. -/
theorem State.ringPut_qDepth {s : State} {q : Nat} (hrun : s.halted = false) (hlog : s.qLog q ≤ 20)
    (hroom : s.qDepth q < 2 ^ s.qLog q) (e : Quad) : (s.ringPut q e).qDepth q = s.qDepth q + 1 := by
  rw [State.qDepth, s.ringPut_pi hrun hlog, s.ringPut_ringOnly q e (F.qctx_CI q) rfl, State.qLog,
    s.ringPut_ringOnly q e (F.qctx_LOG2SIZE q) rfl]
  exact ringDepth_succ hroom

/-- The slots reserved for the entries of a completion are released (03 R96). -/
def State.released (s : State) (cq n : Nat) : State := s.wr (F.qctx_RSV cq) (s.rd (F.qctx_RSV cq) - n)

theorem State.released_rsv (s : State) (cq n : Nat) :
    (s.released cq n).rd (F.qctx_RSV cq) = s.rd (F.qctx_RSV cq) - n := by
  have hlt : s.rd (F.qctx_RSV cq) < 2 ^ 21 := bits_lt _ _ _
  rw [State.released, State.rd_wr _ _ _ (by simp) (by simp)]
  exact Nat.mod_eq_of_lt ((Nat.sub_le _ _).trans_lt hlt)

theorem State.released_rd_other (s : State) (cq n : Nat) {g : Fld} (h : g.reg ≠ .qctx cq 4) :
    (s.released cq n).rd g = s.rd g := s.rd_wr_other _ h

theorem State.released_qDepth (s : State) (cq n : Nat) : (s.released cq n).qDepth cq = s.qDepth cq :=
  State.qDepth_congr (s.released_rd_other cq n (by simp)) (s.released_rd_other cq n (by simp))
    (s.released_rd_other cq n (by simp))

/-- The service of a completion ring of a function has ended, and its completions are discarded (03 R98). -/
def State.cqEnded (s : State) (cq : Nat) : Bool :=
  s.halted || s.qState cq != QS.active || s.inFlr (s.rd (F.qctx_FUNC cq))

theorem State.released_halted (s : State) (cq n : Nat) : (s.released cq n).halted = s.halted := by
  rw [State.halted, State.on, s.released_rd_other cq n (by simp), ← State.on, ← State.halted]

theorem State.released_cqEnded (s : State) (cq n : Nat) : (s.released cq n).cqEnded cq = s.cqEnded cq := by
  rw [State.cqEnded, s.released_halted, State.qState, s.released_rd_other cq n (by simp),
    s.released_rd_other cq n (by simp)]
  rfl

/-- A completion of a function's ring releases its reservations; where the service of the ring has not ended, it is
written and signalled (03 R95, R96, R98). -/
theorem State.complete_eq {s : State} {cq : Nat} (hcq : 2 ≤ cq) (n : Nat) (e : Quad) (sol : Bool) :
    s.complete cq n e sol
      = if s.cqEnded cq then s.released cq n
        else
          let t := ((s.released cq n).ringPut cq e).tally 16 0x85
          if t.rd (F.qctx_IRQ_MODE cq) = 1 ∨ (t.rd (F.qctx_IRQ_MODE cq) = 2 ∧ sol = true) then
            t.msix ((s.released cq n).rd (F.qctx_FUNC cq)) (t.rd (F.qctx_VECTOR cq))
          else t := by
  have hone : cq ≠ 1 := by omega
  rw [← s.released_cqEnded cq n]
  simp [State.complete, State.cqEnded, State.cqPut, State.released, hone]
  rfl

theorem State.complete_of_ended {s : State} {cq : Nat} (hcq : 2 ≤ cq) (h : s.cqEnded cq = true) (n : Nat) (e : Quad)
    (sol : Bool) : s.complete cq n e sol = s.released cq n := by
  rw [State.complete_eq hcq, if_pos h]

/-- What follows a written completion changes no queue context. -/
theorem State.complete_of_served {s : State} {cq : Nat} (hcq : 2 ≤ cq) (h : s.cqEnded cq = false) (n : Nat) (e : Quad)
    (sol : Bool) : LeavesQueues ((s.released cq n).ringPut cq e) (s.complete cq n e sol) := by
  rw [State.complete_eq hcq, if_neg (by simp [h])]
  exact (State.tally_leavesQueues _ _ _ _).trans
    (Leaves.ite (fun _ => State.msix_leavesQueues _ _ _) fun _ => Leaves.refl _ _)

/-- A written completion fills one slot of a ring with room. -/
theorem State.complete_qDepth {s : State} {cq : Nat} (hcq : 2 ≤ cq) (h : s.cqEnded cq = false) (hlog : s.qLog cq ≤ 20)
    (hroom : s.qDepth cq < 2 ^ s.qLog cq) (n : Nat) (e : Quad) (sol : Bool) :
    (s.complete cq n e sol).qDepth cq = s.qDepth cq + 1 := by
  have hput := State.complete_of_served hcq h n e sol
  have hsize : (s.released cq n).qLog cq = s.qLog cq := s.released_rd_other cq n (by simp)
  have hdepth := s.released_qDepth cq n
  have hrun : (s.released cq n).halted = false := by
    simp only [State.cqEnded, Bool.or_eq_false_iff] at h
    obtain ⟨⟨hrun, -⟩, -⟩ := h
    rw [s.released_halted, hrun]
  rw [State.qDepth_congr (hput.rd _ rfl) (hput.rd _ rfl) (hput.rd _ rfl),
    State.ringPut_qDepth hrun (hsize ▸ hlog) (by rw [hdepth, hsize]; exact hroom), hdepth]

theorem State.complete_rsv {s : State} {cq : Nat} (hcq : 2 ≤ cq) (n : Nat) (e : Quad) (sol : Bool) :
    (s.complete cq n e sol).rd (F.qctx_RSV cq) = s.rd (F.qctx_RSV cq) - n := by
  cases hend : s.cqEnded cq with
  | true => rw [State.complete_of_ended hcq hend, State.released_rsv]
  | false =>
    have hput := State.complete_of_served hcq hend n e sol
    rw [hput.rd _ rfl, State.ringPut_ringOnly _ cq e (F.qctx_RSV cq) rfl, State.released_rsv]

end Sys2Proof.Machine
end

section
/-! PROOFS. Completions and their rings (03 R91, R96, R98). -/

namespace Sys2Proof.Machine

/-- Settles O14: a completion fills at most one slot, and releases at least one that was reserved for it. -/
theorem completionsNeverOverflowTheirRing : Obligations.CompletionsNeverOverflowTheirRing := by
  unfold Obligations.CompletionsNeverOverflowTheirRing
  refine ⟨fun q s seg t r hq hseg hlast hres hall => ?_, fun s cq n e sol hcq hlog hone hn hfits => ?_⟩
  · have hzero : q.val ≠ 0 := by omega
    rw [exec_writeCompletion, execWriteCompletion, State.writeAnswered, if_neg hzero, fin_next,
      State.writeCompletion_of_closed hseg hlast hres hall]
  · rw [State.complete_rsv hcq]
    cases hend : s.cqEnded cq with
    | true =>
      rw [State.complete_of_ended hcq hend, State.released_qDepth]
      refine ⟨rfl, by omega, fun hrun hactive hflr => ?_⟩
      simp [State.cqEnded, hrun, hactive, hflr] at hend
    | false =>
      rw [State.complete_qDepth hcq hend hlog (by omega)]
      exact ⟨rfl, by omega, fun _ _ _ => rfl⟩

end Sys2Proof.Machine
end

section
/-! SUPPORT. The end of a NOP, of a failed ring and of a drain (03 R74, R85, R103). -/

namespace Sys2Proof.Machine

theorem exec_nop (q : QNum) (id : Nat) (s : State) : exec (.nop q id) s = execNop q id s := rfl

theorem exec_ringAccessFault (q : QNum) (iova : Word) (s : State) :
    exec (.ringAccessFault q iova) s = execRingAccessFault q iova s := rfl

theorem exec_queueDrainEnd (q : QNum) (s : State) : exec (.queueDrainEnd q) s = execQueueDrainEnd q s := rfl

theorem State.queueError_func (s : State) (q : Nat) (arg : Word) :
    (s.queueError q arg).rd (F.qctx_FUNC q) = s.rd (F.qctx_FUNC q) := by
  rw [State.queueError, State.postEvent_ringOnly _ _ _ _ _ (F.qctx_FUNC q) rfl,
    State.rd_wr_apart _ _ (by simp) (by simp) (by simp [Fld.Apart])]

/-- The failed ring of a function raises at its host port (03 R103). -/
theorem State.ringFault_of_function {s : State} {q : Nat} (hq : 2 ≤ q) (iova : Word) :
    s.ringFault q iova.toNat
      = (s.queueError q iova).raise (Src.HPT_RING_FAULT (s.rd (F.qctx_FUNC q) / 256))
          { addr := iova.toNat, master := 0x7000, atype := 8, unit := q } := by
  simp [State.ringFault, State.qFunc, hq.not_gt, State.queueError_func]

/-- Nothing is flushed of a ring that has posted no receive. -/
theorem State.flushPosts_of_none {s : State} {q : Nat} (h : ∀ x ∈ s.mtch.posts, x.rq ≠ q) (n : Nat) :
    State.flushPosts q n s = s := by
  have hnone : s.mtch.posts.filter (·.rq == q) = [] := List.filter_eq_nil_iff.mpr fun x hx => by simpa using h x hx
  cases n with
  | zero => rfl
  | succ n => rw [State.flushPosts, hnone]; rfl

/-- A ring from which nothing is taken has no completion to write. -/
theorem State.writeAnswered_of_nothing_taken {s : State} {q : Nat} (hq : q ≠ 0) (h : (s.que q).taken = []) :
    s.writeAnswered q = s := by
  simp [State.writeAnswered, State.writeCompletion, QueueSt.live, hq, h, segment]

/-- The drain of a ring ends with nothing taken, posted or bound (03 R74). -/
theorem State.drainGo_ends {s : State} {q : Nat} (hq : q ≠ 0) (hst : s.qState q = QS.draining)
    (htaken : (s.que q).taken = []) (hposts : ∀ x ∈ s.mtch.posts, x.rq ≠ q)
    (hbounds : ∀ x ∈ s.mtch.bounds, x.post.rq ≠ q) : s.drainGo q = s.queueDisabled q := by
  have hfree : s.queueBusy q = false := by
    simp only [State.queueBusy, QueueSt.live, htaken, List.filter_nil, List.isEmpty_nil, Bool.not_true, Bool.false_or,
      Bool.or_eq_false_iff, List.any_eq_false, beq_iff_eq, Bool.and_eq_true, not_and]
    exact ⟨hposts, fun x hx h => absurd h (hbounds x hx)⟩
  simp [State.drainGo, hst, State.flushPosts_of_none hposts, State.writeAnswered_of_nothing_taken hq htaken, hfree]

end Sys2Proof.Machine
end

section
/-! SUPPORT. A Function Level Reset (03 R75, 02 R40): the states of the function's queues, and what its host port holds. -/

namespace Sys2Proof.Machine

theorem exec_functionLevelReset (p : Fin 4) (f : Fin 256) (s : State) :
    exec (.functionLevelReset p f) s = execFunctionLevelReset p f s := rfl

theorem exec_flrEnd (p : Fin 4) (f : Fin 256) (s : State) : exec (.flrEnd p f) s = execFlrEnd p f s := rfl

/-! ## The states of the queues -/

theorem mem_of_regFind {l : List (Reg × Word)} {r : Reg} {v : Word} (h : regFind l r = some v) : (r, v) ∈ l := by
  induction l with
  | nil => cases h
  | cons x l ih =>
    obtain ⟨k, w⟩ := x
    rw [regFind] at h
    split at h
    · next hk =>
      obtain rfl := Option.some.inj h
      exact hk ▸ List.mem_cons_self
    · exact List.mem_cons_of_mem _ (ih h)

theorem State.flrQueue_qState (s : State) (k q : Nat) :
    (s.flrQueue k).qState q = if q = k then QS.disabled else s.qState q := by
  rw [State.qState, State.flrQueue, State.setQue_rd]
  split
  · next h =>
    rw [h]
    exact State.rd_wr _ _ _ (by simp) (by simp)
  · next h => exact s.rd_wr_other _ (by simp [h])

/-- Each queue of a list that a reset takes is DISABLED, and no other changes its state. -/
theorem State.foldl_flrQueue_qState (l : List Nat) (s : State) (q : Nat) :
    (l.foldl (fun t k => t.flrQueue k) s).qState q = if q ∈ l then QS.disabled else s.qState q := by
  induction l generalizing s with
  | nil => rfl
  | cons k l ih =>
    rw [List.foldl_cons, ih, s.flrQueue_qState]
    by_cases hl : q ∈ l <;> by_cases hk : q = k <;> simp [hl, hk]

theorem State.mtcSync_steady (s : State) (m : Nat) : Steady s (s.mtcSync m) :=
  ((((Steady.wr s _).trans (Steady.wr _ _)).trans (Steady.wr _ _)).trans (Steady.wr _ _)).trans (Steady.wr _ _)

theorem State.unpost_steady (s : State) (x : Post) : Steady s (s.unpost x) :=
  (s.setMtch_steady _).trans (State.mtcSync_steady _ _)

theorem State.stallClear_steady (s : State) (m : Nat) : Steady s (s.stallClear m) :=
  Steady.ite (fun _ => Steady.refl s) fun _ => s.setMtch_steady _

theorem State.setHost_steady (s : State) (n : Nat) (f : HostPort → HostPort) : Steady s (s.setHost n f) := Steady.parts

theorem regFind_filter_of_kept {l : List (Reg × Word)} {p : Reg → Bool} {r : Reg} (h : p r = false) :
    regFind (l.filter fun c => !p c.1) r = regFind l r := by
  induction l with
  | nil => rfl
  | cons x l ih =>
    obtain ⟨k, v⟩ := x
    by_cases hk : k = r
    · simp [hk, h, regFind]
    · by_cases hp : p k = true <;> simp [hp, hk, regFind, ih]

theorem State.resetRegs_get (s : State) {p : Reg → Bool} {r : Reg} (h : p r = false) :
    (s.resetRegs p).get r = s.get r :=
  congrArg (fun o => o.getD r.reset) (regFind_filter_of_kept h)

theorem State.clearSels_get (s : State) (p : Nat → Bool) {r : Reg} (h : ∀ m k, r ≠ .sel m k) :
    (s.clearSels p).get r = s.get r := by
  refine s.resetRegs_get ?_
  split
  · next h => exact absurd rfl (h _ _)
  · rfl

theorem State.clearSels_steady (s : State) (p : Nat → Bool) : Steady s (s.clearSels p) := by
  have hword (i : Nat) : (s.clearSels p).get (.wm i) = s.get (.wm i) := s.clearSels_get p (by simp)
  refine ⟨fun r hr => s.clearSels_get p ?_, fun i => by rw [State.rd, hword, State.rd],
    fun i => by rw [State.rd, hword, State.rd], rfl, rfl, rfl⟩
  rintro m k rfl
  cases hr

theorem State.cohCancel_steady (s : State) (p : CohReq → Bool) : Steady s (s.cohCancel p) := Steady.parts

theorem State.setFns_steady (s : State) (l : KMap FnCfg) : Steady s { s with fns := l } := Steady.parts

/-- What a Function Level Reset leaves of the host port of its function: the function is in reset, and its assemblies
and easel entries are gone (02 R40). -/
def HostPort.flrBegun (p func : Nat) (h : HostPort) : HostPort :=
  let kept := h.easel.items.filter fun e => 256 * p + e.f != func
  { h with
    flr := if h.flr.contains (func % 256) then h.flr else (func % 256) :: h.flr
    asm := h.asm.filter fun a => 256 * p + a.f != func
    easel := { h.easel with items := kept, rp := (h.easel.wp + 1024 - kept.length) % 1024 } }

theorem HostPort.flrBegun_flr (p func : Nat) (h : HostPort) :
    (h.flrBegun p func).flr.contains (func % 256) = true := by
  simp only [HostPort.flrBegun]
  split
  · assumption
  · simp

theorem HostPort.ne_of_mem_flrBegun_asm {p f : Nat} {h : HostPort} {a : Assembly}
    (ha : a ∈ (h.flrBegun p (256 * p + f)).asm) : a.f ≠ f := by
  rintro rfl
  simp [HostPort.flrBegun] at ha

theorem HostPort.ne_of_mem_flrBegun_easel {p f : Nat} {h : HostPort} {e : EaselEntry}
    (he : e ∈ (h.flrBegun p (256 * p + f)).easel.items) : e.f ≠ f := by
  rintro rfl
  simp [HostPort.flrBegun] at he

/-- The host port of a function goes through its reset; the watermark of its easel FIFO follows. -/
def State.flrPort (s : State) (func : Nat) : State :=
  let t := s.setHost (func / 256) (HostPort.flrBegun (func / 256) func)
  t.wmEval (func / 256) ((t.host (func / 256)).easel.depth 9)

theorem State.flrPort_steady (s : State) (func : Nat) : Steady s (s.flrPort func) :=
  (s.setHost_steady _ _).trans (State.wmEval_steady _ _ _)

theorem State.flrPort_host (s : State) (func : Nat) :
    (s.flrPort func).host (func / 256) = (s.host (func / 256)).flrBegun (func / 256) func := by
  rw [State.flrPort, State.wmEval_host, State.setHost_host_same]

/-- A Function Level Reset disables the queues of its function that are not DISABLED, changes no steady word otherwise,
and resets the function at its host port. -/
theorem State.flrBegin_eq (s : State) (func : Nat) :
    ∃ (l : List Nat) (u : State),
      (∀ q v, (.qctx q 0, v) ∈ s.regs → 2 ≤ q → s.rd (F.qctx_FUNC q) = func → s.qState q ≠ QS.disabled → q ∈ l)
      ∧ Steady (l.foldl (fun t k => t.flrQueue k) s) u
      ∧ s.flrBegin func
        = (((u.flrPort func).clearSels fun k => k == func).semAbandon fun m => m == fnMst func).cohCancel
            fun r => r.req == fnMst func := by
  unfold State.flrBegin
  extract_lets p mine qs s1 gone s2 s3 s4 s5 s6 s7
  refine ⟨qs, s4, fun q v hmem hq hfunc hst => ?_, ?_, rfl⟩
  · have hmine : mine q = true := by simp [mine, hq, hfunc]
    exact List.mem_filter.mpr
      ⟨List.mem_filter.mpr ⟨List.mem_filterMap.mpr ⟨_, hmem, rfl⟩, hmine⟩, by simpa using hst⟩
  · have hposts : Steady s1 s2 :=
      Steady.foldl (fun t x => (t.unpost_steady x).trans (State.stallClear_steady _ _)) gone s1
    exact (hposts.trans (s2.setMtch_steady _)).trans (s3.setFns_steady _)

/-- A queue whose word 0 is not stored is DISABLED. -/
theorem State.mem_regs_of_qState {s : State} {q : Nat} (h : s.qState q ≠ QS.disabled) :
    ∃ v, (.qctx q 0, v) ∈ s.regs := by
  cases hfind : regFind s.regs (.qctx q 0) with
  | none =>
    have hreset : s.qState q = State.reset.rd (F.qctx_STATE q) := by
      rw [State.qState, State.rd, State.get, hfind]
      rfl
    exact absurd (hreset.trans (State.rd_reset_eq_zero _ rfl)) h
  | some v => exact ⟨v, mem_of_regFind hfind⟩

/-- A Function Level Reset leaves every queue of its function DISABLED (03 R75). -/
theorem State.flrBegin_qState {s : State} {func q : Nat} (hq : 2 ≤ q) (hfunc : s.rd (F.qctx_FUNC q) = func) :
    (s.flrBegin func).qState q = QS.disabled := by
  obtain ⟨l, u, hl, hsteady, hbegin⟩ := s.flrBegin_eq func
  have hrest : Steady u (s.flrBegin func) := by
    rw [hbegin]
    exact (((u.flrPort_steady func).trans (State.clearSels_steady _ _)).trans (State.semAbandon_steady _ _)).trans
      (State.cohCancel_steady _ _)
  have hstate := (hsteady.trans hrest).rd (F.qctx_STATE q)
  rw [State.qState, hstate, ← State.qState, State.foldl_flrQueue_qState]
  by_cases hst : s.qState q = QS.disabled
  · simp [hst]
  · obtain ⟨v, hmem⟩ := State.mem_regs_of_qState hst
    rw [if_pos (hl q v hmem hq hfunc hst)]

/-! ## The host port -/

/-- From `s` to `t` no host port changes. -/
def SameHosts (s t : State) : Prop := t.hosts = s.hosts

theorem SameHosts.refl (s : State) : SameHosts s s := rfl

theorem SameHosts.trans {s t u : State} (h : SameHosts s t) (g : SameHosts t u) : SameHosts s u := Eq.trans g h

theorem SameHosts.host {s t : State} (h : SameHosts s t) (n : Nat) : t.host n = s.host n := by
  rw [SameHosts] at h
  rw [State.host, h, State.host]

theorem SameHosts.ite {c : Prop} [Decidable c] {s t u : State} (ht : SameHosts s t) (hu : SameHosts s u) :
    SameHosts s (if c then t else u) := by
  split
  · exact ht
  · exact hu

theorem SameHosts.foldl {α : Type} {f : State → α → State} (hf : ∀ t x, SameHosts t (f t x)) (l : List α) (s : State) :
    SameHosts s (l.foldl f s) := by
  induction l generalizing s with
  | nil => exact SameHosts.refl s
  | cons x l ih => exact (hf s x).trans (ih (f s x))

theorem State.semAbandon_sameHosts (s : State) (p : Mst → Bool) : SameHosts s (s.semAbandon p) := by
  have hfree (t : State) (n : Nat) :
      SameHosts t (((t.semFree n).wr (F.sem_ABANDONED n) 1).count F.semStat_ABANDONS) := rfl
  have hclaims (t : State) (n : Nat) (l : List Claim) : SameHosts t (t.setClaims n l) := rfl
  have hfences (l : List Fence) : SameHosts s { s with guard := { s.guard with fences := l } } := rfl
  exact (hfences _).trans
    ((SameHosts.foldl (fun t n => SameHosts.ite (hfree t n) (SameHosts.refl t)) (List.range 4096) _).trans
      (SameHosts.foldl (fun t c => SameHosts.ite (hclaims t _ _) (SameHosts.refl t)) _ _))

theorem State.flrBegin_host (s : State) (func : Nat) :
    ∃ h, (s.flrBegin func).host (func / 256) = HostPort.flrBegun (func / 256) func h := by
  obtain ⟨l, u, -, -, hbegin⟩ := s.flrBegin_eq func
  have hcancel (t : State) (p : CohReq → Bool) (n : Nat) : (t.cohCancel p).host n = t.host n := rfl
  have hsels (t : State) (p : Nat → Bool) (n : Nat) : (t.clearSels p).host n = t.host n := rfl
  rw [hbegin, hcancel, (State.semAbandon_sameHosts _ _).host, hsels, State.flrPort_host]
  exact ⟨_, rfl⟩

end Sys2Proof.Machine
end

section
/-! PROOFS. NOP, ring faults, drains and Function Level Reset (03 R74, R75, R85, R103, 02 R40). -/

namespace Sys2Proof.Machine

/-- Settles O15: each command meets the one branch of its meaning that its rule names, and a reset disables by its list
every stored queue of the function. -/
theorem queuesEndAndAreReset : Obligations.QueuesEndAndAreReset := by
  unfold Obligations.QueuesEndAndAreReset
  refine ⟨⟨fun q id s t hfresh hop hearlier => ?_, fun q iova s hq hrun hon hok => ?_,
    fun q s hq hst htaken hposts hbounds => ?_⟩, fun p f s => ⟨fun hflr hbusy => ?_, fun hflr => ?_⟩⟩
  · simp [exec_nop, execNop, hfresh, hop, hearlier, fin_next]
  · rw [exec_ringAccessFault, execRingAccessFault, if_neg (by simp [hq.not_gt, hrun, hon, hok]), fin_next,
      State.ringFault_of_function hq, State.queueError]
  · rw [exec_queueDrainEnd, execQueueDrainEnd, fin_next, State.drainGo_ends (by omega) hst htaken hposts hbounds,
      State.queueDisabled]
  · have hport : (256 * p.val + f.val) / 256 = p.val := by omega
    obtain ⟨h, hhost⟩ := s.flrBegin_host (256 * p.val + f.val)
    rw [hport] at hhost
    refine ⟨?_, ?_, fun q hq hfunc => State.flrBegin_qState hq hfunc, ?_, ?_⟩
    · rw [exec_functionLevelReset, execFunctionLevelReset, if_neg (by simp [hflr, hbusy]), fin_next]
    · rw [State.inFlr, hport, hhost]
      exact HostPort.flrBegun_flr _ _ h
    · rw [hhost]
      exact fun a => HostPort.ne_of_mem_flrBegun_asm
    · rw [hhost]
      exact fun e => HostPort.ne_of_mem_flrBegun_easel
  · rw [exec_flrEnd, execFlrEnd, if_pos hflr, fin_next]

end Sys2Proof.Machine
end

section
/-! SUPPORT. The lists of the scheduler and its choice (04 R110 to R114): each list names nodes of its own, and every level
of the choice keeps to its deficits. -/

namespace Sys2Proof.Machine

theorem exec_schedulePacket (s : State) : exec .schedulePacket s = execSchedulePacket s := rfl

/-! ## The lists -/

theorem mem_of_mem_rejoin {old now : List Nat} {x : Nat} (h : x ∈ rejoin old now) : x ∈ now := by
  unfold rejoin at h
  rcases List.mem_append.mp h with h | h
  · simpa using (List.mem_filter.mp h).2
  · exact (List.mem_filter.mp h).1

theorem mem_rotate1 {l : List Nat} {x : Nat} : x ∈ rotate1 l ↔ x ∈ l := by
  cases l with
  | nil => rfl
  | cons a l => simp [rotate1, or_comm]

theorem KMap.at_foldl_put {α : Type} (g : Nat → α) (d : α) (k : Nat) (keys : List Nat) (m : KMap α) :
    (keys.foldl (fun m k => m.put k (g k)) m).at k d = if k ∈ keys then g k else m.at k d := by
  induction keys generalizing m with
  | nil => simp
  | cons a keys ih =>
    rw [List.foldl_cons, ih, KMap.at, KMap.find_put, KMap.at]
    by_cases hk : k ∈ keys
    · simp [hk]
    · by_cases ha : k = a
      · simp [ha]
      · simp [hk, ha]

theorem KMap.at_of_not_mem {α : Type} {m : KMap α} {k : Nat} (d : α) (h : k ∉ m.map (·.1)) : m.at k d = d := by
  induction m with
  | nil => rfl
  | cons a m ih =>
    obtain ⟨hne, hrest⟩ := not_or.mp (mt List.mem_cons.mpr h)
    exact (congrArg (Option.getD · d) (if_neg hne)).trans (ih hrest)

/-- A list that follows eligibility names no more than what is now in its place (04 R114). -/
theorem mem_of_mem_at_rejoined {m : KMap (List Nat)} {more : List Nat} {now : Nat → List Nat} {k x : Nat}
    (h : x ∈ ((m.map (·.1) ++ more).eraseDups.foldl (fun l k => l.put k (rejoin (m.at k []) (now k))) m).at k []) :
    x ∈ now k := by
  rw [KMap.at_foldl_put (fun k => rejoin (m.at k []) (now k))] at h
  split at h
  · exact mem_of_mem_rejoin h
  · next hk =>
    have hkeys : k ∉ m.map (·.1) := fun hm => hk (List.mem_eraseDups.mpr (List.mem_append_left _ hm))
    rw [KMap.at_of_not_mem _ hkeys] at h
    cases h

/-- Every list of the scheduler names nodes of its own: a tenant's list its queues, a host port's its tenants (04 R110). -/
structure State.Listed (s : State) : Prop where
  queues : ∀ k q, q ∈ s.sched.l1.at k [] → s.queueNode q = k
  tenants : ∀ p k, k ∈ s.sched.l2.at p [] → k / 4096 = p

theorem State.schedSync_listed (s : State) : s.schedSync.Listed where
  queues k q h := by
    have hq := mem_of_mem_at_rejoined (now := fun k => s.eligibleQueues.filter fun q => s.queueNode q == k) h
    exact beq_iff_eq.mp (List.mem_filter.mp hq).2
  tenants p k h := by
    have hk := mem_of_mem_at_rejoined
      (now := fun p => (((s.eligibleQueues.map s.queueNode).eraseDups).filter fun k => s.tenantShaped (k % 4096)).filter
        fun k => k / 4096 == p) h
    exact beq_iff_eq.mp (List.mem_filter.mp hk).2

theorem State.Listed.ite {c : Prop} [Decidable c] {s t : State} (hs : s.Listed) (ht : t.Listed) :
    (if c then s else t).Listed := by
  split
  · exact hs
  · exact ht

theorem mem_at_upd_rotate1 {m : KMap (List Nat)} {k j x : Nat} (h : x ∈ (m.upd k [] rotate1).at j []) :
    x ∈ m.at j [] := by
  rw [KMap.at_upd] at h
  split at h
  · next hj => exact hj ▸ mem_rotate1.mp h
  · exact h

/-! ## The turns (04 R113) -/

/-- The turn of a queue, of a tenant or of a host port begins: a node that has newly come gains its quantum. -/
def State.turnQueue (s : State) (q : Nat) : State :=
  if (s.que q).node.fresh then
    s.setQue q fun v => { v with node := { deficit := v.node.deficit + quantum (s.rd (F.qctx_QUANTUM q)), fresh := false } }
  else s
def State.turnTenant (s : State) (k : Nat) : State :=
  if (s.tnode k).fresh then
    s.setTnode k fun d => { deficit := d.deficit + quantum (s.rd (F.ten_QUANTUM (k % 4096))), fresh := false }
  else s
def State.turnPort (s : State) (p : Nat) : State :=
  if (s.pnode p).fresh then
    s.setPnode p fun d => { deficit := d.deficit + quantum (s.rd (F.schHpCfg_QUANTUM p)), fresh := false }
  else s

/-- A turn ends without a packet: the node counts as newly come and its list moves on. -/
def State.passQueue (s : State) (k q : Nat) : State :=
  let s := s.setQue q fun v => { v with node := { v.node with fresh := true } }
  { s with sched := { s.sched with l1 := s.sched.l1.upd k [] rotate1 } }
def State.passTenant (s : State) (p k : Nat) : State :=
  let s := s.setTnode k fun d => { d with fresh := true }
  { s with sched := { s.sched with l2 := s.sched.l2.upd p [] rotate1 } }
def State.passPort (s : State) (p : Nat) : State :=
  let s := s.setPnode p fun d => { d with fresh := true }
  { s with sched := { s.sched with l3 := rotate1 s.sched.l3 } }

section

variable {s : State} (h : s.Listed)
include h

theorem State.Listed.turnQueue (q : Nat) : (s.turnQueue q).Listed := State.Listed.ite ⟨h.queues, h.tenants⟩ h

theorem State.Listed.turnTenant (k : Nat) : (s.turnTenant k).Listed := State.Listed.ite ⟨h.queues, h.tenants⟩ h

theorem State.Listed.turnPort (p : Nat) : (s.turnPort p).Listed := State.Listed.ite ⟨h.queues, h.tenants⟩ h

theorem State.Listed.passQueue (k q : Nat) : (s.passQueue k q).Listed :=
  ⟨fun j x hx => h.queues j x (mem_at_upd_rotate1 hx), h.tenants⟩

theorem State.Listed.passTenant (p k : Nat) : (s.passTenant p k).Listed :=
  ⟨h.queues, fun j x hx => h.tenants j x (mem_at_upd_rotate1 hx)⟩

theorem State.Listed.passPort (p : Nat) : (s.passPort p).Listed := ⟨h.queues, h.tenants⟩

end

theorem State.turnQueue_queueNode (s : State) (q x : Nat) : (s.turnQueue q).queueNode x = s.queueNode x := by
  unfold State.turnQueue
  split <;> rfl

/-! ## The choice (04 R113) -/

theorem State.pickQueue_nil {s : State} {k : Nat} (h : s.sched.l1.at k [] = []) (n : Nat) :
    State.pickQueue k n s = (s, none) := by
  cases n with
  | zero => rfl
  | succ n => simp only [State.pickQueue, h]

theorem State.pickQueue_cons {s : State} {k q : Nat} {rest : List Nat} (h : s.sched.l1.at k [] = q :: rest) (n : Nat) :
    State.pickQueue k (n + 1) s
      = if ((s.turnQueue q).que q).next.isEmpty then (s.turnQueue q, none)
        else if (s.turnQueue q).nextCost q ≤ ((s.turnQueue q).que q).node.deficit then (s.turnQueue q, some q)
        else State.pickQueue k n ((s.turnQueue q).passQueue k q) := by
  simp only [State.pickQueue, h]
  rfl

theorem State.pickTenant_nil {s : State} {p : Nat} (h : s.sched.l2.at p [] = []) (n : Nat) :
    State.pickTenant p n s = (s, none) := by
  cases n with
  | zero => rfl
  | succ n => simp only [State.pickTenant, h]

/-- What a tenant's turn does with the queue that it chooses. -/
def State.offerTenant (p k n : Nat) : State × Option Nat → State × Option Nat
  | (s, none) => (s, none)
  | (s, some q) =>
    if s.nextCost q ≤ (s.tnode k).deficit then (s, some q) else State.pickTenant p n (s.passTenant p k)

theorem State.pickTenant_cons {s : State} {p k : Nat} {rest : List Nat} (h : s.sched.l2.at p [] = k :: rest) (n : Nat) :
    State.pickTenant p (n + 1) s
      = State.offerTenant p k n
          (State.pickQueue k (turns ((s.turnTenant k).sched.l1.at k [])) (s.turnTenant k)) := by
  simp only [State.pickTenant, h]
  rfl

theorem State.pickPort_nil {s : State} (h : s.sched.l3 = []) (n : Nat) : State.pickPort n s = (s, none) := by
  cases n with
  | zero => rfl
  | succ n => simp only [State.pickPort, h]

/-- What a host port's turn does with the queue that it chooses. -/
def State.offerPort (p n : Nat) : State × Option Nat → State × Option Nat
  | (s, none) => (s, none)
  | (s, some q) => if s.nextCost q ≤ (s.pnode p).deficit then (s, some q) else State.pickPort n (s.passPort p)

theorem State.pickPort_cons {s : State} {p : Nat} {rest : List Nat} (h : s.sched.l3 = p :: rest) (n : Nat) :
    State.pickPort (n + 1) s
      = State.offerPort p n
          (State.pickTenant p (turns ((s.turnPort p).sched.l2.at p [])) (s.turnPort p)) := by
  simp only [State.pickPort, h]
  rfl

/-- The queue that a tenant chooses is its own, and its next packet costs no more than its deficit. -/
theorem State.pickQueue_some {k n : Nat} {s t : State} {q : Nat} (hs : s.Listed)
    (h : State.pickQueue k n s = (t, some q)) :
    t.Listed ∧ t.queueNode q = k ∧ t.nextCost q ≤ (t.que q).node.deficit := by
  induction n generalizing s with
  | zero => cases h
  | succ n ih =>
    cases hlist : s.sched.l1.at k [] with
    | nil => simp [State.pickQueue_nil hlist] at h
    | cons x rest =>
      rw [State.pickQueue_cons hlist] at h
      split at h
      · cases h
      · split at h
        · next hcost =>
          cases h
          exact ⟨hs.turnQueue q, (s.turnQueue_queueNode q q).trans (hs.queues k q (by simp [hlist])), hcost⟩
        · exact ih ((hs.turnQueue x).passQueue k x) h

/-- The queue that a host port chooses is of one of its tenants, and its next packet costs no more than the deficits of
both. -/
theorem State.pickTenant_some {p n : Nat} {s t : State} {q : Nat} (hs : s.Listed)
    (h : State.pickTenant p n s = (t, some q)) :
    t.Listed ∧ t.queueNode q / 4096 = p ∧ t.nextCost q ≤ (t.que q).node.deficit
      ∧ t.nextCost q ≤ (t.tnode (t.queueNode q)).deficit := by
  induction n generalizing s with
  | zero => cases h
  | succ n ih =>
    cases hlist : s.sched.l2.at p [] with
    | nil => simp [State.pickTenant_nil hlist] at h
    | cons k rest =>
      have hport : k / 4096 = p := hs.tenants p k (by simp [hlist])
      rw [State.pickTenant_cons hlist] at h
      rcases hpick : State.pickQueue k (turns ((s.turnTenant k).sched.l1.at k [])) (s.turnTenant k) with ⟨u, _ | x⟩ <;>
        rw [hpick] at h
      · cases h
      · obtain ⟨hu, hnode, hcost⟩ := State.pickQueue_some (hs.turnTenant k) hpick
        rw [State.offerTenant] at h
        split at h
        · next htenant =>
          cases h
          exact ⟨hu, hnode.symm ▸ hport, hcost, hnode.symm ▸ htenant⟩
        · exact ih (hu.passTenant p k) h

/-- The queue that the device chooses has a next packet that costs no more than the deficits of all three levels. -/
theorem State.pickPort_some {n : Nat} {s t : State} {q : Nat} (hs : s.Listed)
    (h : State.pickPort n s = (t, some q)) :
    t.nextCost q ≤ (t.que q).node.deficit ∧ t.nextCost q ≤ (t.tnode (t.queueNode q)).deficit
      ∧ t.nextCost q ≤ (t.pnode (t.queueNode q / 4096)).deficit := by
  induction n generalizing s with
  | zero => cases h
  | succ n ih =>
    cases hlist : s.sched.l3 with
    | nil => simp [State.pickPort_nil hlist] at h
    | cons p rest =>
      rw [State.pickPort_cons hlist] at h
      rcases hpick : State.pickTenant p (turns ((s.turnPort p).sched.l2.at p [])) (s.turnPort p) with ⟨u, _ | x⟩ <;>
        rw [hpick] at h
      · cases h
      · obtain ⟨hu, hport, hcost, htenant⟩ := State.pickTenant_some (hs.turnPort p) hpick
        rw [State.offerPort] at h
        split at h
        · next hafford =>
          cases h
          exact ⟨hcost, htenant, hport.symm ▸ hafford⟩
        · exact ih (hu.passPort p) h

/-! ## The head of each list (04 R113) -/

theorem turns_eq_succ (l : List Nat) : turns l = 34 * l.length + 33 + 1 := by
  unfold turns
  omega

theorem State.turnQueue_of_begun {s : State} {q : Nat} (h : (s.que q).node.fresh = false) : s.turnQueue q = s := by
  simp [State.turnQueue, h]

theorem State.turnTenant_of_begun {s : State} {k : Nat} (h : (s.tnode k).fresh = false) : s.turnTenant k = s := by
  simp [State.turnTenant, h]

theorem State.turnPort_of_begun {s : State} {p : Nat} (h : (s.pnode p).fresh = false) : s.turnPort p = s := by
  simp [State.turnPort, h]

/-- The queue at the head of each list is chosen at once where no turn is to begin and every deficit is large enough. -/
theorem State.pickPort_heads {s : State} {p k q : Nat} {lp lk lq : List Nat} (hports : s.sched.l3 = p :: lp)
    (htenants : s.sched.l2.at p [] = k :: lk) (hqueues : s.sched.l1.at k [] = q :: lq)
    (hp : (s.pnode p).fresh = false) (hk : (s.tnode k).fresh = false) (hq : (s.que q).node.fresh = false)
    (hnext : (s.que q).next ≠ []) (hcost : s.nextCost q ≤ (s.que q).node.deficit)
    (htenant : s.nextCost q ≤ (s.tnode k).deficit) (hport : s.nextCost q ≤ (s.pnode p).deficit) :
    State.pickPort (turns s.sched.l3) s = (s, some q) := by
  have hpickq : State.pickQueue k (turns (s.sched.l1.at k [])) s = (s, some q) := by
    rw [turns_eq_succ, State.pickQueue_cons hqueues, State.turnQueue_of_begun hq,
      if_neg (by simpa using hnext), if_pos hcost]
  have hpickk : State.pickTenant p (turns (s.sched.l2.at p [])) s = (s, some q) := by
    rw [turns_eq_succ, State.pickTenant_cons htenants, State.turnTenant_of_begun hk, hpickq, State.offerTenant,
      if_pos htenant]
  rw [turns_eq_succ, State.pickPort_cons hports, State.turnPort_of_begun hp, hpickk, State.offerPort, if_pos hport]

theorem exec_schedulePacket_some {s t : State} {q : Nat}
    (h : State.pickPort (turns s.schedSync.sched.l3) s.schedSync = (t, some q)) :
    exec .schedulePacket s = .next ((t.schedCharge q (t.nextCost q)).sendNext q).ended := by
  simp only [exec_schedulePacket, execSchedulePacket, h, fin_next]

theorem exec_schedulePacket_none {s t : State}
    (h : State.pickPort (turns s.schedSync.sched.l3) s.schedSync = (t, none)) :
    exec .schedulePacket s = .next t.ended := by
  simp only [exec_schedulePacket, execSchedulePacket, h, fin_next]

/-! ## The charge (04 R113, R120) -/

theorem State.foldl_shpCharge_nodes (cost : Nat) (l : List Nat) (s : State) :
    (l.foldl (fun s i => s.shpCharge i cost) s).queues = s.queues
      ∧ (l.foldl (fun s i => s.shpCharge i cost) s).sched = s.sched := by
  have hone (t : State) (i : Nat) : (t.shpCharge i cost).queues = t.queues ∧ (t.shpCharge i cost).sched = t.sched := by
    unfold State.shpCharge
    split <;> simp
  induction l generalizing s with
  | nil => exact ⟨rfl, rfl⟩
  | cons i l ih =>
    obtain ⟨hq, hs⟩ := ih (s.shpCharge i cost)
    exact ⟨hq.trans (hone s i).1, hs.trans (hone s i).2⟩

/-- The nodes of the three levels, charged; the shapers' words are apart from them. -/
theorem State.schedCharge_nodes (s : State) (q cost : Nat) :
    (s.schedCharge q cost).queues
        = s.queues.upd q {} (fun v => { v with node := { v.node with deficit := v.node.deficit - cost } })
      ∧ (s.schedCharge q cost).sched.tenants
        = s.sched.tenants.upd (s.queueNode q) {} (fun d => { d with deficit := d.deficit - cost })
      ∧ (s.schedCharge q cost).sched.ports
        = s.sched.ports.upd (s.queueNode q / 4096) {} (fun d => { d with deficit := d.deficit - cost }) := by
  unfold State.schedCharge
  dsimp only
  refine ⟨?_, ?_, ?_⟩
  · rw [(State.foldl_shpCharge_nodes _ _ _).1]
    rfl
  · rw [(State.foldl_shpCharge_nodes _ _ _).2]
    rfl
  · rw [(State.foldl_shpCharge_nodes _ _ _).2]
    rfl

end Sys2Proof.Machine
end

section
/-! PROOFS. The scheduler (04 R113). -/

namespace Sys2Proof.Machine

/-- Settles O18: the lists name nodes of their own, which every turn keeps, so that the deficits that a choice asks are
those that its charge lowers. -/
theorem deficitRoundRobin : Obligations.DeficitRoundRobin := by
  unfold Obligations.DeficitRoundRobin
  refine ⟨fun s => ⟨fun hnone => exec_schedulePacket_none (State.pickPort_nil hnone _),
    fun p k q x lp lk lq lx hports htenants hqueues hp hk hq hnext hcost htenant hport => ?_⟩,
    fun s t q => exec_schedulePacket_some, fun s t => exec_schedulePacket_none,
    fun n s t q => State.pickPort_some s.schedSync_listed, fun s q cost => ?_⟩
  · have hhead : s.schedSync.nextCost q = x.pkt.cost := by simp [State.nextCost, hnext]
    rw [← hhead] at hcost htenant hport ⊢
    exact exec_schedulePacket_some
      (State.pickPort_heads hports htenants hqueues hp hk hq (by simp [hnext]) hcost htenant hport)
  · obtain ⟨hqueues, htenants, hports⟩ := s.schedCharge_nodes q cost
    simp [State.que, State.tnode, State.pnode, hqueues, htenants, hports, KMap.at_upd]

end Sys2Proof.Machine
end

section
/-! SUPPORT. What passing time leaves (17 R537 to R539, 19 R590): all but TIM_NOW, the counters, the clock and the pins. -/

namespace Sys2Proof.Machine

theorem OnlyWords.refl (p : Reg → Prop) (s : State) : OnlyWords p s s := ⟨fun _ _ => rfl, fun _ => rfl, fun _ => rfl⟩

theorem OnlyWords.trans {p : Reg → Prop} {s t u : State} (h : OnlyWords p s t) (g : OnlyWords p t u) :
    OnlyWords p s u :=
  ⟨fun r hr => (g.reg r hr).trans (h.reg r hr), fun a => (g.mem a).trans (h.mem a),
    fun a => (g.pal a).trans (h.pal a)⟩

theorem OnlyWords.parts {p : Reg → Prop} {s t : State} (hregs : t.regs = s.regs := by rfl)
    (hmem : t.mem = s.mem := by rfl) (hpal : t.pal = s.pal := by rfl) : OnlyWords p s t :=
  ⟨fun r _ => by rw [State.get, hregs, State.get], fun _ => by rw [hmem], fun _ => by rw [hpal]⟩

theorem OnlyWords.set {p : Reg → Prop} (s : State) {r : Reg} (v : Word) (hr : p r) : OnlyWords p s (s.set r v) :=
  ⟨fun _ hk => s.get_set_other v fun h => hk (h ▸ hr), fun _ => rfl, fun _ => rfl⟩

theorem OnlyWords.wr {p : Reg → Prop} (s : State) {f : Fld} (v : Nat) (hr : p f.reg) : OnlyWords p s (s.wr f v) :=
  OnlyWords.set s _ hr

theorem OnlyWords.ite {p : Reg → Prop} {c : Prop} [Decidable c] {s t u : State} (ht : c → OnlyWords p s t)
    (hu : ¬c → OnlyWords p s u) : OnlyWords p s (if c then t else u) := by
  split
  · exact ht ‹_›
  · exact hu ‹_›

theorem OnlyWords.foldl {α : Type} {p : Reg → Prop} {f : State → α → State} (hf : ∀ t x, OnlyWords p t (f t x))
    (l : List α) (s : State) : OnlyWords p s (l.foldl f s) := by
  induction l generalizing s with
  | nil => exact OnlyWords.refl p s
  | cons x l ih => exact (hf s x).trans (ih (f s x))

theorem OnlyWords.rd {p : Reg → Prop} {s t : State} (h : OnlyWords p s t) (f : Fld) (hf : ¬p f.reg) :
    t.rd f = s.rd f := by
  rw [State.rd, h.reg _ hf, State.rd]

/-- The words of the event counters. -/
def CounterReg (r : Reg) : Prop := ∃ b k, r = .cntVal b k ∨ r = .cntCtl b k

theorem State.cntAdd_onlyWords (b fuel k n : Nat) (s : State) : OnlyWords CounterReg s (State.cntAdd b fuel k n s) := by
  have hval (t : State) (k v : Nat) : OnlyWords CounterReg t (t.wr (F.cntVal_VAL b k) v) :=
    OnlyWords.wr t v ⟨b, k, .inl rfl⟩
  have hovf (t : State) (k : Nat) : OnlyWords CounterReg t (t.wr (F.cntCtl_OVF b k) 1) :=
    OnlyWords.wr t 1 ⟨b, k, .inr rfl⟩
  induction fuel generalizing k n s with
  | zero =>
    exact OnlyWords.ite (fun _ => (hval s _ _).trans (OnlyWords.ite (fun _ => OnlyWords.refl _ _) fun _ => hovf _ _))
      fun _ => OnlyWords.refl _ s
  | succ m ih =>
    exact OnlyWords.ite
      (fun _ => (hval s _ _).trans (OnlyWords.ite (fun _ => OnlyWords.refl _ _) fun _ =>
        OnlyWords.ite (fun _ => ih _ _ _) fun _ => hovf _ _))
      fun _ => OnlyWords.refl _ s

theorem State.timeCounts_onlyWords (s : State) (d : Nat) : OnlyWords CounterReg s (s.timeCounts d) :=
  OnlyWords.foldl (fun t _ => OnlyWords.foldl (fun t _ =>
    OnlyWords.ite (fun _ => OnlyWords.refl _ t) fun _ => State.cntAdd_onlyWords _ _ _ _ t) _ t) _ s

/-- From `s` to `t` only words change, and no other part of the state. -/
def WordsOnly (s t : State) : Prop := ∃ l, t = { s with regs := l }

theorem WordsOnly.refl (s : State) : WordsOnly s s := ⟨s.regs, rfl⟩

theorem WordsOnly.trans {s t u : State} (h : WordsOnly s t) (g : WordsOnly t u) : WordsOnly s u := by
  obtain ⟨l, rfl⟩ := h
  obtain ⟨m, rfl⟩ := g
  exact ⟨m, rfl⟩

theorem WordsOnly.wr (s : State) (f : Fld) (v : Nat) : WordsOnly s (s.wr f v) := ⟨_, rfl⟩

theorem WordsOnly.ite {c : Prop} [Decidable c] {s t u : State} (ht : WordsOnly s t) (hu : WordsOnly s u) :
    WordsOnly s (if c then t else u) := by
  split
  · exact ht
  · exact hu

theorem WordsOnly.foldl {α : Type} {f : State → α → State} (hf : ∀ t x, WordsOnly t (f t x)) (l : List α) (s : State) :
    WordsOnly s (l.foldl f s) := by
  induction l generalizing s with
  | nil => exact WordsOnly.refl s
  | cons x l ih => exact (hf s x).trans (ih (f s x))

theorem State.cntAdd_wordsOnly (b fuel k n : Nat) (s : State) : WordsOnly s (State.cntAdd b fuel k n s) := by
  induction fuel generalizing k n s with
  | zero =>
    exact WordsOnly.ite ((WordsOnly.wr s _ _).trans (WordsOnly.ite (WordsOnly.refl _) (WordsOnly.wr _ _ _)))
      (WordsOnly.refl s)
  | succ m ih =>
    exact WordsOnly.ite
      ((WordsOnly.wr s _ _).trans (WordsOnly.ite (WordsOnly.refl _) (WordsOnly.ite (ih _ _ _) (WordsOnly.wr _ _ _))))
      (WordsOnly.refl s)

theorem State.timeCounts_wordsOnly (s : State) (d : Nat) : WordsOnly s (s.timeCounts d) :=
  WordsOnly.foldl (fun t _ => WordsOnly.foldl (fun t _ =>
    WordsOnly.ite (WordsOnly.refl t) (State.cntAdd_wordsOnly _ _ _ _ t)) _ t) _ s

/-- Beside words, only the clock and the pins change while time passes. -/
theorem State.pass_parts (s : State) (d : Nat) :
    ∃ l c p, s.pass d = { s with regs := l, clock := c, pins := p } := by
  obtain ⟨l, hl⟩ := s.timeCounts_wordsOnly d
  unfold State.pass
  split
  · exact ⟨s.regs, s.clock, s.pins, rfl⟩
  · rw [hl]
    exact ⟨_, _, _, rfl⟩

theorem State.pass_onlyWords (s : State) (d : Nat) : OnlyWords TimeReg s (s.pass d) := by
  have hcounts : OnlyWords TimeReg s (s.timeCounts d) :=
    ⟨fun r hr => (s.timeCounts_onlyWords d).reg r fun h => hr (.inr h), (s.timeCounts_onlyWords d).mem,
      (s.timeCounts_onlyWords d).pal⟩
  unfold State.pass
  split
  · exact OnlyWords.refl _ s
  · exact (hcounts.trans (OnlyWords.wr _ (f := F.timNow_NOW) _ (.inl rfl))).trans OnlyWords.parts

theorem State.passTo_parts (s : State) (t : Nat) :
    ∃ l c p, s.passTo t = { s with regs := l, clock := c, pins := p } := s.pass_parts _

theorem State.passTo_onlyWords (s : State) (t : Nat) : OnlyWords TimeReg s (s.passTo t) := s.pass_onlyWords _

/-- TIM_NOW after time has passed: what 11 R392 makes of it, in its 64 bits. -/
theorem State.pass_tim {s : State} {d : Nat} (hd : d ≠ 0) : (s.pass d).tim = s.timAfter d % 2 ^ 64 := by
  have hword (f : Fld) (hf : ¬CounterReg f.reg) : (s.timeCounts d).rd f = s.rd f :=
    (s.timeCounts_onlyWords d).rd f hf
  have hafter : (s.timeCounts d).timAfter d = s.timAfter d := by
    simp only [State.timAfter, State.timMoves, State.tim, State.on, s.timeCounts_clock d,
      hword F.timNow_NOW (by simp [CounterReg]), hword F.lnkGlbCfg_FREEZE (by simp [CounterReg]),
      hword F.lnkGlbCfg_SLEW_MAX (by simp [CounterReg])]
    rfl
  rw [← hafter, State.pass, if_neg hd]
  exact State.rd_wr _ _ _ (by simp) (by simp)

end Sys2Proof.Machine
end

section
/-! SUPPORT. Tenant meters (04 R133 to R138): the captures, the meter ring, and the samples of GDDR6. -/

namespace Sys2Proof.Machine

theorem exec_meterSnapshot (s : State) : exec .meterSnapshot s = execMeterSnapshot s := rfl

theorem exec_meterGddr6Sample (s : State) : exec .meterGddr6Sample s = execMeterGddr6Sample s := rfl

/-! ## The captures (04 R135) -/

/-- The boundaries that TIM_NOW has reached are captured in order; nothing but the metering changes, and no meter. -/
theorem State.meterEdge_eq (s : State) :
    ∃ n now, s.meterEdge = { s with metering := { s.metering with lastBoundary := n, caught := s.metering.caught ++ now } }
      ∧ ∀ c ∈ now, (∃ k, c.time = k * (s.rd F.mtrCfg_INTERVAL * 1000000000) ∧ c.time ≤ s.tim)
          ∧ c.tenants = s.metered ∧ c.meters = s.metering.meters := by
  unfold State.meterEdge
  dsimp only
  generalize s.rd F.mtrCfg_INTERVAL * 1000000000 = i
  split
  · refine ⟨_, _, rfl, fun c hc => ?_⟩
    obtain ⟨k, hk, rfl⟩ := List.mem_map.mp hc
    have hreached : s.metering.lastBoundary / i + 1 + k ≤ s.tim / i := by
      have := List.mem_range.mp hk
      omega
    exact ⟨⟨_, rfl, (Nat.mul_le_mul_right _ hreached).trans (Nat.div_mul_le_self _ _)⟩, by dsimp only, by dsimp only⟩
  · exact ⟨s.metering.lastBoundary, [], by simp, by simp⟩

theorem State.meterEdge_rd (s : State) (f : Fld) : s.meterEdge.rd f = s.rd f := by
  obtain ⟨n, now, hedge, -⟩ := s.meterEdge_eq
  rw [hedge]
  rfl

theorem exec_meterSnapshot_running {s : State} (hon : s.on F.mtrCfg_EN = true) (hrun : s.halted = false) :
    exec .meterSnapshot s
      = .next (if s.meterEdge.metering.caught.isEmpty then
          (s.meterEdge.passTim ((s.meterEdge.tim / (s.meterEdge.rd F.mtrCfg_INTERVAL * 1000000000) + 1)
            * (s.meterEdge.rd F.mtrCfg_INTERVAL * 1000000000))).meterEdge.snapshot
        else s.meterEdge.snapshot).ended := by
  simp [exec_meterSnapshot, execMeterSnapshot, hon, hrun, fin_next]

/-! ## The meter ring (04 R136 to R138) -/

/-- From `s` to `t` records have gone to the meter ring: of the words only MTR_PI changes, and not the metering. -/
structure MeterWrites (s t : State) : Prop where
  words : ∀ f : Fld, f.reg ≠ .mtrPi → t.rd f = s.rd f
  metering : t.metering = s.metering

theorem MeterWrites.refl (s : State) : MeterWrites s s := ⟨fun _ _ => rfl, rfl⟩

theorem MeterWrites.trans {s t u : State} (h : MeterWrites s t) (g : MeterWrites t u) : MeterWrites s u :=
  ⟨fun f hf => (g.words f hf).trans (h.words f hf), g.metering.trans h.metering⟩

theorem State.dma_rd (s : State) (o : Output) (f : Fld) : (s.dma o).rd f = s.rd f := by
  unfold State.dma
  split <;> rfl

theorem State.dma_metering (s : State) (o : Output) : (s.dma o).metering = s.metering := by
  unfold State.dma
  split <;> rfl

theorem State.meterPut_writes (s : State) (ws : List Word) (rtype : Nat) : MeterWrites s (s.meterPut ws rtype) :=
  ⟨fun f hf => (State.rd_wr_other _ _ hf).trans (s.dma_rd _ f), s.dma_metering _⟩

theorem State.meterPut_pi {s : State} {k : Nat} (hk : s.rd F.mtrCfg_LOG2SIZE = k) (hfits : k ≤ 20) (ws : List Word)
    (rtype : Nat) : (s.meterPut ws rtype).rd F.mtrPi_PI = (s.rd F.mtrPi_PI + 1) % ringMod k := by
  subst hk
  exact (State.rd_wr _ _ _ (by simp) (by simp)).trans (mod_ringMod_fits hfits _)

/-- The records of the tenants follow one another in the ring. -/
theorem State.foldl_meterPut {k : Nat} (hfits : k ≤ 20) (words : Nat → List Word) (l : List Nat) {s : State} {x : Nat}
    (hk : s.rd F.mtrCfg_LOG2SIZE = k) (hpi : s.rd F.mtrPi_PI = x % ringMod k) :
    MeterWrites s (l.foldl (fun t n => t.meterPut (words n) 2) s)
      ∧ (l.foldl (fun t n => t.meterPut (words n) 2) s).rd F.mtrPi_PI = (x + l.length) % ringMod k := by
  induction l generalizing s x with
  | nil => exact ⟨MeterWrites.refl s, hpi⟩
  | cons n l ih =>
    have hone := s.meterPut_writes (words n) 2
    have hpi' : (s.meterPut (words n) 2).rd F.mtrPi_PI = (x + 1) % ringMod k := by
      rw [State.meterPut_pi hk hfits, hpi, Nat.mod_add_mod]
    obtain ⟨hrest, hend⟩ := ih ((hone.words _ (by simp)).trans hk) hpi'
    refine ⟨hone.trans hrest, hend.trans ?_⟩
    rw [List.length_cons, Nat.add_right_comm, Nat.add_assoc]

/-- A vector that is raised changes of the words at most HPT_ATTN, and not the metering. -/
theorem State.msix_meterWrites (s : State) (func vector : Nat) :
    (∀ f : Fld, (∀ n, f.reg ≠ .hptAttn n) → (s.msix func vector).rd f = s.rd f)
      ∧ (s.msix func vector).metering = s.metering := by
  unfold State.msix
  split
  · refine ⟨fun f hf => ?_, rfl⟩
    have hwr (t : State) (g : Fld) (hg : g.reg = .hptAttn (func / 256)) (v : Nat) : (t.wr g v).rd f = t.rd f :=
      t.rd_wr_other v (hg ▸ hf _)
    dsimp only
    rw [State.count, hwr _ _ rfl, hwr _ _ rfl, hwr _ _ rfl, hwr _ _ rfl]
  · split
    · split
      · exact ⟨fun _ _ => rfl, rfl⟩
      · exact ⟨fun _ _ => rfl, rfl⟩
    · exact ⟨fun f _ => s.dma_rd _ f, s.dma_metering _⟩

/-- The oldest capture leaves the list and takes its SNAPSEQ, written or skipped. -/
def State.uncaught (s : State) (rest : List Caught) : State :=
  { s with metering := { s.metering with snapSeq := s.metering.snapSeq + 1, caught := rest } }

/-- The words of the record of a captured snapshot, and of that of one of its tenants (04 R138). -/
def Caught.headWords (c : Caught) (seq skipped interval : Nat) : List Word :=
  [BitVec.ofNat 64 c.time, BitVec.ofNat 64 (seq * 2 ^ 32 + c.tenants.length), BitVec.ofNat 64 (skipped % 2 ^ 32),
    BitVec.ofNat 64 interval, 0, 0, 0]
def Caught.tenantWords (c : Caught) (seq t : Nat) : List Word :=
  let m := c.meters.at t {}
  [BitVec.ofNat 64 m.bytesTx, BitVec.ofNat 64 m.bytesRx, BitVec.ofNat 64 m.pktTx, BitVec.ofNat 64 m.pktRx,
    BitVec.ofNat 64 m.engCyc, BitVec.ofNat 64 (m.g6 / 1000), BitVec.ofNat 64 (seq * 2 ^ 32 + t)]

/-- The records of a captured snapshot. -/
def State.snapshotRecords (s : State) (c : Caught) (seq : Nat) : State :=
  c.tenants.foldl (fun t n => t.meterPut (c.tenantWords seq n) 2)
    (s.meterPut (c.headWords seq s.metering.skipped (s.rd F.mtrCfg_INTERVAL)) 1)

/-- A captured snapshot is written whole. -/
def State.snapshotPut (s : State) (c : Caught) (seq : Nat) : State :=
  let t := s.snapshotRecords c seq
  ({ t with metering := { t.metering with skipped := 0 } } : State).msix (t.rd F.mtrCfg_FUNC) (t.rd F.mtrCfg_VECTOR)

theorem State.snapshotRecords_writes {s : State} {k : Nat} (hk : s.rd F.mtrCfg_LOG2SIZE = k) (hfits : k ≤ 20) (c : Caught)
    (seq : Nat) :
    MeterWrites s (s.snapshotRecords c seq)
      ∧ (s.snapshotRecords c seq).rd F.mtrPi_PI = (s.rd F.mtrPi_PI + c.tenants.length + 1) % ringMod k := by
  have hhead := s.meterPut_writes (c.headWords seq s.metering.skipped (s.rd F.mtrCfg_INTERVAL)) 1
  obtain ⟨hrecords, hpi⟩ := State.foldl_meterPut hfits (c.tenantWords seq) c.tenants
    ((hhead.words F.mtrCfg_LOG2SIZE (by simp)).trans hk) (State.meterPut_pi hk hfits _ 1)
  exact ⟨hhead.trans hrecords, by rw [Nat.add_right_comm]; exact hpi⟩

section

variable {s : State} {c : Caught} {rest : List Caught} (hcaught : s.metering.caught = c :: rest)
include hcaught

/-- For want of slots nothing is written (04 R137). -/
theorem State.snapshot_of_full
    (hfull : 2 ^ s.rd F.mtrCfg_LOG2SIZE
      - ringDepth (s.rd F.mtrCfg_LOG2SIZE) (s.rd F.mtrPi_PI) (s.rd F.mtrCi_CI) < c.tenants.length + 1) :
    s.snapshot
      = { (s.uncaught rest).count F.schStat_MTR_SKIP with
          metering := { (s.uncaught rest).metering with skipped := s.metering.skipped + 1 } } := by
  unfold State.snapshot
  rw [hcaught]
  exact if_pos hfull

/-- With slots enough a record for the snapshot and one for each tenant go to the ring, and its vector is raised. -/
theorem State.snapshot_of_room
    (hroom : c.tenants.length + 1 ≤ 2 ^ s.rd F.mtrCfg_LOG2SIZE
      - ringDepth (s.rd F.mtrCfg_LOG2SIZE) (s.rd F.mtrPi_PI) (s.rd F.mtrCi_CI)) :
    s.snapshot = (s.uncaught rest).snapshotPut c (s.metering.snapSeq % 2 ^ 32) := by
  unfold State.snapshot
  rw [hcaught]
  exact if_neg hroom.not_gt

theorem State.snapshot_written
    (hroom : c.tenants.length + 1 ≤ 2 ^ s.rd F.mtrCfg_LOG2SIZE
      - ringDepth (s.rd F.mtrCfg_LOG2SIZE) (s.rd F.mtrPi_PI) (s.rd F.mtrCi_CI))
    (hfits : s.rd F.mtrCfg_LOG2SIZE ≤ 20) :
    s.snapshot.rd F.mtrPi_PI = (s.rd F.mtrPi_PI + c.tenants.length + 1) % ringMod (s.rd F.mtrCfg_LOG2SIZE)
      ∧ s.snapshot.metering.caught = rest ∧ s.snapshot.metering.skipped = 0
      ∧ s.snapshot.rd F.schStat_MTR_SKIP = s.rd F.schStat_MTR_SKIP := by
  have hk : (s.uncaught rest).rd F.mtrCfg_LOG2SIZE = s.rd F.mtrCfg_LOG2SIZE := rfl
  obtain ⟨hwrites, hpi⟩ := (s.uncaught rest).snapshotRecords_writes hk hfits c (s.metering.snapSeq % 2 ^ 32)
  rw [State.snapshot_of_room hcaught hroom, State.snapshotPut]
  generalize (s.uncaught rest).snapshotRecords c (s.metering.snapSeq % 2 ^ 32) = t at hwrites hpi
  obtain ⟨hwords, hmetering⟩ := State.msix_meterWrites
    { t with metering := { t.metering with skipped := 0 } } (t.rd F.mtrCfg_FUNC) (t.rd F.mtrCfg_VECTOR)
  rw [hmetering]
  refine ⟨?_, ?_, rfl, ?_⟩
  · rw [hwords _ (by simp)]
    exact hpi
  · exact congrArg Metering.caught hwrites.metering
  · rw [hwords _ (by simp)]
    exact hwrites.words F.schStat_MTR_SKIP (by simp)

end

/-! ## The samples of GDDR6 (04 R133, R134) -/

/-- A tenant's charged bytes, as they stand in `u`, are added to its meter. -/
def State.g6Add (u t : State) (i : Nat) : State :=
  if u.chargedBytes i = 0 then t else t.setMeter i fun m => { m with g6 := m.g6 + u.chargedBytes i }

/-- A sample changes the metering alone, and there the meter of one tenant. -/
theorem State.g6Add_eq (u t : State) (i : Nat) :
    ∃ m, u.g6Add t i = { t with metering := m } ∧ m.meters.at i {} = { t.meter i with g6 := (t.meter i).g6 + u.chargedBytes i }
      ∧ ∀ j, j ≠ i → m.meters.at j {} = t.meter j := by
  unfold State.g6Add
  split
  · next hzero => exact ⟨t.metering, rfl, by simp [hzero, State.meter], fun _ _ => rfl⟩
  · obtain ⟨n, now, hedge, -⟩ := t.meterEdge_eq
    rw [State.setMeter, hedge]
    exact ⟨_, rfl, by simp [KMap.at_upd, State.meter], fun j hj => by simp [KMap.at_upd, hj, State.meter]⟩

theorem State.foldl_g6Add (u : State) {l : List Nat} (hl : l.Nodup) (t : State) :
    ∃ m, l.foldl u.g6Add t = { t with metering := m } ∧
      ∀ i, m.meters.at i {} = if i ∈ l then { t.meter i with g6 := (t.meter i).g6 + u.chargedBytes i } else t.meter i := by
  induction l generalizing t with
  | nil => exact ⟨t.metering, rfl, fun i => by simp [State.meter]⟩
  | cons a l ih =>
    obtain ⟨hfirst, hrest⟩ := List.nodup_cons.mp hl
    obtain ⟨m, ht, hsame, hother⟩ := u.g6Add_eq t a
    obtain ⟨n, hfold, hmeters⟩ := ih hrest (u.g6Add t a)
    refine ⟨n, ?_, fun i => ?_⟩
    · rw [List.foldl_cons, hfold, ht]
    · have hmeter : (u.g6Add t a).meter i = m.meters.at i {} := by rw [ht, State.meter]
      rw [hmeters, hmeter]
      by_cases hi : i = a
      · subst hi
        simp [hfirst, hsame]
      · simp [hi, hother i hi]

/-- Time that passes charges a tenant with no byte more. -/
theorem State.passTo_chargedBytes (s : State) (d i : Nat) : (s.passTo d).chargedBytes i = s.chargedBytes i := by
  have hword (f : Fld) (hf : ¬TimeReg f.reg) : (s.passTo d).rd f = s.rd f := (s.passTo_onlyWords d).rd f hf
  have hparts : (s.passTo d).mtch = s.mtch ∧ (s.passTo d).conns = s.conns := by
    obtain ⟨l, c, p, hpass⟩ := s.passTo_parts d
    rw [hpass]
    exact ⟨rfl, rfl⟩
  obtain ⟨hmtch, hconns⟩ := hparts
  have hmtc (n : Nat) : (s.passTo d).rd (F.mtc_TENANT n) = s.rd (F.mtc_TENANT n) := hword _ (by simp [TimeReg])
  have hconn (n : Nat) : (s.passTo d).rd (F.conn_TENANT n) = s.rd (F.conn_TENANT n) := hword _ (by simp [TimeReg])
  simp only [State.chargedBytes, State.on, hmtch, hconns, hword (F.alloc_EN i) (by simp [TimeReg]),
    hword (F.alloc_LEN i) (by simp [TimeReg]), hmtc, hconn]
  rfl

theorem State.passTo_metering (s : State) (t : Nat) : (s.passTo t).metering = s.metering := by
  obtain ⟨l, c, p, hpass⟩ := s.passTo_parts t
  rw [hpass]

/-- The charged bytes of every tenant are added to its meter. -/
def State.g6Sampled (u : State) : State :=
  let t := (List.range 4096).foldl u.g6Add u
  { t with metering := { t.metering with g6At := t.now } }

theorem exec_meterGddr6Sample_eq (s : State) :
    exec .meterGddr6Sample s = .next (s.passTo (s.metering.g6At + 1000000)).g6Sampled.ended := by
  rw [exec_meterGddr6Sample, execMeterGddr6Sample, State.g6Sampled]
  generalize List.range 4096 = l
  rfl

theorem State.g6Sampled_eq (u : State) :
    ∃ m : Metering, u.g6Sampled = { u with metering := { m with g6At := u.now } }
      ∧ ∀ i, i < 4096 → m.meters.at i {} = { u.meter i with g6 := (u.meter i).g6 + u.chargedBytes i } := by
  obtain ⟨m, hfold, hmeters⟩ := u.foldl_g6Add (List.nodup_range (n := 4096)) u
  refine ⟨m, ?_, fun i hi => (hmeters i).trans (if_pos (List.mem_range.mpr hi))⟩
  rw [State.g6Sampled, hfold]
  rfl

/-- A sample adds the charged bytes of every tenant to its meter, and changes nothing else of it (04 R133). -/
theorem State.passTo_g6Sampled (s : State) (t : Nat) :
    t ≤ (s.passTo t).g6Sampled.now ∧ (s.passTo t).g6Sampled.metering.g6At = (s.passTo t).g6Sampled.now
      ∧ OnlyWords TimeReg s (s.passTo t).g6Sampled
      ∧ ∀ i, i < 4096 → (s.passTo t).g6Sampled.metering.meters.at i {} = { s.metering.meters.at i {} with
          g6 := (s.metering.meters.at i {}).g6 + s.chargedBytes i } := by
  obtain ⟨m, hsampled, hmeters⟩ := (s.passTo t).g6Sampled_eq
  have hnow : t ≤ (s.passTo t).now := by
    rw [State.passTo_now]
    exact le_max_right _ _
  rw [hsampled]
  refine ⟨hnow, rfl, (s.passTo_onlyWords t).trans OnlyWords.parts, fun i hi => ?_⟩
  rw [hmeters i hi, State.meter, State.passTo_metering, State.passTo_chargedBytes]

end Sys2Proof.Machine
end

section
/-! PROOFS. Tenant meters (04 R133 to R135, R137). -/

namespace Sys2Proof.Machine

/-- Settles O20: a capture is at a boundary, the records of a snapshot move MTR_PI one by one, and a sample goes once to
each tenant. -/
theorem tenantMeters : Obligations.TenantMeters := by
  unfold Obligations.TenantMeters
  refine ⟨fun s hon hrun => ⟨fun hcaught => ?_, fun hcaught => ?_, fun c hc => ?_⟩, fun s c rest hcaught hroom hfits => ?_,
    fun s c rest hcaught hfull => ?_, fun s => ?_⟩
  · rw [exec_meterSnapshot_running hon hrun, if_neg (by simpa using hcaught)]
  · rw [exec_meterSnapshot_running hon hrun, if_pos (by simpa using hcaught)]
  · obtain ⟨n, now, hedge, hnow⟩ := s.meterEdge_eq
    rw [hedge] at hc
    rw [s.meterEdge_rd]
    exact (List.mem_append.mp hc).imp_right (hnow c)
  · exact State.snapshot_written hcaught hroom hfits
  · rw [State.snapshot_of_full hcaught hfull]
    exact ⟨rfl, State.rd_wr_other _ _ (by simp), State.count_rd _ _ (by simp) (by simp), rfl⟩
  · exact ⟨_, exec_meterGddr6Sample_eq s, s.passTo_g6Sampled _⟩

end Sys2Proof.Machine
end

section
/-! SUPPORT. The sampler (04 R127 to R132): a period and its batch, and the sampling words after a visit. -/

namespace Sys2Proof.Machine

theorem exec_samplerPeriod (s : State) : exec .samplerPeriod s = execSamplerPeriod s := rfl

/-- A watermark flag that follows its depth changes its own register, and PIE_ATTN at most. -/
theorem State.wmEval_leaves {p : Reg → Prop} {i : Nat} (hwm : ¬p (.wm i)) (hattn : ¬p .pieAttn) (s : State) (depth : Nat) :
    Leaves p s (s.wmEval i depth) := by
  have hset (t : State) : Leaves p t ((t.wr (F.wm_FLAG i) 1).count (F.wm_SETS i)) :=
    (Leaves.wr t _ _ hwm).trans (Leaves.wr _ _ _ hwm)
  refine (Leaves.wr s (F.wm_DEPTH i) depth hwm).trans ?_
  refine Leaves.ite (fun _ => Leaves.ite (fun _ => Leaves.refl _ _) fun _ => ?_) fun _ =>
    Leaves.ite (fun _ => Leaves.wr _ _ _ hwm) fun _ => Leaves.refl _ _
  exact Leaves.ite (fun _ => (hset _).trans (Leaves.wr _ _ _ hattn)) fun _ => hset _

/-- A sample record leaves the queues' words (17 R541). -/
theorem State.samplePush_leavesQueues (s : State) (r : List Word) : LeavesQueues s (s.samplePush r) := by
  have hpush : LeavesQueues s { s with samples := s.samples.push 12 r } := Leaves.of rfl rfl rfl rfl rfl
  exact Leaves.ite (fun _ => Leaves.wr s _ _ nofun) fun _ => hpush.trans (State.wmEval_leaves nofun nofun _ _)

/-! ## The sampling words, written one step after another (04 R128) -/

/-- The extremes of depth and of delay, the means of both with shift `w`, and the count and time of a visit. -/
def State.sawDepth (s : State) (q depth : Nat) : State :=
  (s.wr (F.qctx_DEPTH_MIN q) (min (s.rd (F.qctx_DEPTH_MIN q)) depth)).wr (F.qctx_DEPTH_MAX q)
    (max (s.rd (F.qctx_DEPTH_MAX q)) depth)
def State.sawDelay (s : State) (q delay : Nat) : State :=
  (s.wr (F.qctx_DELAY_MIN q) (min (s.rd (F.qctx_DELAY_MIN q)) delay)).wr (F.qctx_DELAY_MAX q)
    (max (s.rd (F.qctx_DELAY_MAX q)) delay)
def State.sawMeans (s : State) (q depth delay w : Nat) : State :=
  (s.wr (F.qctx_DEPTH_EWMA q) (ewma (s.rd (F.qctx_DEPTH_EWMA q)) depth w)).wr (F.qctx_DELAY_EWMA q)
    (ewma (s.rd (F.qctx_DELAY_EWMA q)) delay w)
def State.sawVisit (s : State) (q : Nat) : State := (s.count (F.qctx_SAMPLES q)).wr (F.qctx_LASTSAMPLE q) s.tim

section

variable (s : State) (q depth delay w : Nat) {g : Fld}

theorem State.sawDepth_rd_other (h : g.reg ≠ .qctx q 8) : (s.sawDepth q depth).rd g = s.rd g := by
  rw [State.sawDepth, State.rd_wr_other _ _ h, State.rd_wr_other _ _ h]

theorem State.sawDelay_rd_other (h : g.reg ≠ .qctx q 10) : (s.sawDelay q delay).rd g = s.rd g := by
  rw [State.sawDelay, State.rd_wr_other _ _ h, State.rd_wr_other _ _ h]

theorem State.sawMeans_rd_other (h9 : g.reg ≠ .qctx q 9) (h11 : g.reg ≠ .qctx q 11) :
    (s.sawMeans q depth delay w).rd g = s.rd g := by
  rw [State.sawMeans, State.rd_wr_other _ _ h11, State.rd_wr_other _ _ h9]

theorem State.sawVisit_rd_other (h13 : g.reg ≠ .qctx q 13) (h14 : g.reg ≠ .qctx q 14) :
    (s.sawVisit q).rd g = s.rd g := by
  rw [State.sawVisit, State.rd_wr_other _ _ h13, State.count, State.rd_wr_other _ _ h14]

theorem State.rd_lt (f : Fld) : s.rd f < 2 ^ (f.hi + 1 - f.lo) := bits_lt _ _ _

theorem State.sawDepth_extremes (h : depth < 2 ^ 21) :
    (s.sawDepth q depth).rd (F.qctx_DEPTH_MIN q) = min (s.rd (F.qctx_DEPTH_MIN q)) depth
      ∧ (s.sawDepth q depth).rd (F.qctx_DEPTH_MAX q) = max (s.rd (F.qctx_DEPTH_MAX q)) depth := by
  have hmax : s.rd (F.qctx_DEPTH_MAX q) < 2 ^ 21 := s.rd_lt _
  constructor
  · rw [State.sawDepth, State.rd_wr_apart _ _ (by simp) (by simp) (by simp [Fld.Apart]),
      State.rd_wr _ _ _ (by simp) (by simp)]
    exact Nat.mod_eq_of_lt ((min_le_right _ _).trans_lt h)
  · rw [State.sawDepth, State.rd_wr _ _ _ (by simp) (by simp)]
    exact Nat.mod_eq_of_lt (max_lt hmax h)

theorem State.sawDelay_extremes (h : delay < 2 ^ 32) :
    (s.sawDelay q delay).rd (F.qctx_DELAY_MIN q) = min (s.rd (F.qctx_DELAY_MIN q)) delay
      ∧ (s.sawDelay q delay).rd (F.qctx_DELAY_MAX q) = max (s.rd (F.qctx_DELAY_MAX q)) delay := by
  have hmax : s.rd (F.qctx_DELAY_MAX q) < 2 ^ 32 := s.rd_lt _
  constructor
  · rw [State.sawDelay, State.rd_wr_apart _ _ (by simp) (by simp) (by simp [Fld.Apart]),
      State.rd_wr _ _ _ (by simp) (by simp)]
    exact Nat.mod_eq_of_lt ((min_le_right _ _).trans_lt h)
  · rw [State.sawDelay, State.rd_wr _ _ _ (by simp) (by simp)]
    exact Nat.mod_eq_of_lt (max_lt hmax h)

theorem State.sawMeans_depth :
    (s.sawMeans q depth delay w).rd (F.qctx_DEPTH_EWMA q) = ewma (s.rd (F.qctx_DEPTH_EWMA q)) depth w % 2 ^ 29 := by
  rw [State.sawMeans, State.rd_wr_other _ _ (by simp)]
  exact State.rd_wr _ _ _ (by simp) (by simp)

theorem State.sawVisit_samples : (s.sawVisit q).rd (F.qctx_SAMPLES q) = satAdd 32 (s.rd (F.qctx_SAMPLES q)) 1 := by
  rw [State.sawVisit, State.rd_wr_other _ _ (by simp)]
  exact State.count_rd _ _ (by simp) (by simp)

theorem State.sawVisit_last : (s.sawVisit q).rd (F.qctx_LASTSAMPLE q) = s.tim := by
  rw [State.sawVisit, State.rd_wr _ _ _ (by simp) (by simp)]
  exact Nat.mod_eq_of_lt (s.rd_lt F.timNow_NOW)

end

/-! ## A visit (04 R128, R132) -/

/-- How long the head of a queue's ring has waited, as a visit records it: nothing of an empty ring (04 R129). -/
def State.headDelay (s : State) (q : Nat) : Nat :=
  if 0 < s.qDepth q then min (s.tim - s.rd (F.qctx_HEADSINCE q)) (2 ^ 32 - 1) else 0

theorem State.headDelay_lt (s : State) (q : Nat) : s.headDelay q < 2 ^ 32 := by
  unfold State.headDelay
  split <;> omega

/-- What a visit writes to the sampling words of a queue. -/
def State.visited (s : State) (q : Nat) : State :=
  (((s.sawDepth q (s.qDepth q)).sawDelay q (s.headDelay q)).sawMeans q (s.qDepth q) (s.headDelay q)
    (s.rd F.smpCfg_SHIFT)).sawVisit q

/-- A visit that finds no reset due writes the sampling words, and a record where RAW is 1. -/
theorem State.visitQueue_eq {s : State} {q : Nat} (h : (s.que q).smpReset = false) :
    ∃ r, s.visitQueue q = if (s.visited q).on (F.qctx_RAW q) then (s.visited q).samplePush r else s.visited q := by
  unfold State.visitQueue
  rw [if_neg (show ¬(s.que q).smpReset = true by simp [h])]
  exact ⟨_, rfl⟩

theorem State.visitQueue_rd {s : State} {q : Nat} (h : (s.que q).smpReset = false) (f : Fld)
    (hf : f.reg.ofQueue = true) : (s.visitQueue q).rd f = (s.visited q).rd f := by
  obtain ⟨r, hvisit⟩ := State.visitQueue_eq h
  rw [hvisit]
  exact (Leaves.ite (fun _ => State.samplePush_leavesQueues _ r) fun _ => Leaves.refl _ _ :
    LeavesQueues (s.visited q) _).rd f hf

/-- A word of the queue that holds no sampling field stays. -/
theorem State.visited_rd_other (s : State) (q : Nat) {g : Fld} (h : ∀ w, 8 ≤ w → w ≤ 14 → g.reg ≠ .qctx q w) :
    (s.visited q).rd g = s.rd g := by
  rw [State.visited, State.sawVisit_rd_other _ _ (h 13 (by decide) (by decide)) (h 14 (by decide) (by decide)),
    State.sawMeans_rd_other _ _ _ _ _ (h 9 (by decide) (by decide)) (h 11 (by decide) (by decide)),
    State.sawDelay_rd_other _ _ _ (h 10 (by decide) (by decide)),
    State.sawDepth_rd_other _ _ _ (h 8 (by decide) (by decide))]

theorem State.visited_depth (s : State) (q : Nat) (h : s.qDepth q < 2 ^ 21) :
    (s.visited q).rd (F.qctx_DEPTH_MIN q) = min (s.rd (F.qctx_DEPTH_MIN q)) (s.qDepth q)
      ∧ (s.visited q).rd (F.qctx_DEPTH_MAX q) = max (s.rd (F.qctx_DEPTH_MAX q)) (s.qDepth q)
      ∧ (s.visited q).rd (F.qctx_DEPTH_EWMA q)
        = ewma (s.rd (F.qctx_DEPTH_EWMA q)) (s.qDepth q) (s.rd F.smpCfg_SHIFT) % 2 ^ 29 := by
  obtain ⟨hmin, hmax⟩ := s.sawDepth_extremes q _ h
  refine ⟨?_, ?_, ?_⟩
  · rw [State.visited, State.sawVisit_rd_other _ _ (by simp) (by simp),
      State.sawMeans_rd_other _ _ _ _ _ (by simp) (by simp), State.sawDelay_rd_other _ _ _ (by simp), hmin]
  · rw [State.visited, State.sawVisit_rd_other _ _ (by simp) (by simp),
      State.sawMeans_rd_other _ _ _ _ _ (by simp) (by simp), State.sawDelay_rd_other _ _ _ (by simp), hmax]
  · rw [State.visited, State.sawVisit_rd_other _ _ (by simp) (by simp), State.sawMeans_depth,
      State.sawDelay_rd_other _ _ _ (by simp), State.sawDepth_rd_other _ _ _ (by simp)]

theorem State.visited_delay (s : State) (q : Nat) :
    (s.visited q).rd (F.qctx_DELAY_MIN q) = min (s.rd (F.qctx_DELAY_MIN q)) (s.headDelay q)
      ∧ (s.visited q).rd (F.qctx_DELAY_MAX q) = max (s.rd (F.qctx_DELAY_MAX q)) (s.headDelay q) := by
  obtain ⟨hmin, hmax⟩ := (s.sawDepth q (s.qDepth q)).sawDelay_extremes q _ (s.headDelay_lt q)
  constructor
  · rw [State.visited, State.sawVisit_rd_other _ _ (by simp) (by simp),
      State.sawMeans_rd_other _ _ _ _ _ (by simp) (by simp), hmin, State.sawDepth_rd_other _ _ _ (by simp)]
  · rw [State.visited, State.sawVisit_rd_other _ _ (by simp) (by simp),
      State.sawMeans_rd_other _ _ _ _ _ (by simp) (by simp), hmax, State.sawDepth_rd_other _ _ _ (by simp)]

theorem State.visited_count (s : State) (q : Nat) :
    (s.visited q).rd (F.qctx_SAMPLES q) = satAdd 32 (s.rd (F.qctx_SAMPLES q)) 1
      ∧ (s.visited q).rd (F.qctx_LASTSAMPLE q) = s.tim := by
  constructor
  · rw [State.visited, State.sawVisit_samples, State.sawMeans_rd_other _ _ _ _ _ (by simp) (by simp),
      State.sawDelay_rd_other _ _ _ (by simp), State.sawDepth_rd_other _ _ _ (by simp)]
  · rw [State.visited, State.sawVisit_last, State.tim, State.sawMeans_rd_other _ _ _ _ _ (by simp) (by simp),
      State.sawDelay_rd_other _ _ _ (by simp), State.sawDepth_rd_other _ _ _ (by simp), State.tim]

/-! ## A period (04 R127, R131) -/

/-- A period begins: PERIOD after the one before, or, counted, when that one's batch has ended. -/
def State.samplerBegun (s : State) : State :=
  (if s.metering.smpNext < s.metering.smpEnd then s.count F.schStat_OVERRUN else s).passTo
    (max s.metering.smpNext s.metering.smpEnd)

theorem State.samplerCounted_metering (s : State) :
    (if s.metering.smpNext < s.metering.smpEnd then s.count F.schStat_OVERRUN else s).metering = s.metering := by
  split <;> rfl

theorem State.samplerBegun_now (s : State) : max s.metering.smpNext s.metering.smpEnd ≤ s.samplerBegun.now := by
  rw [State.samplerBegun, State.passTo_now]
  exact le_max_right _ _

theorem State.samplerBegun_overrun {s : State} (h : s.metering.smpNext < s.metering.smpEnd) :
    s.samplerBegun.rd F.schStat_OVERRUN = (s.count F.schStat_OVERRUN).rd F.schStat_OVERRUN := by
  rw [State.samplerBegun, if_pos h]
  exact (State.passTo_onlyWords _ _).rd _ (by simp [TimeReg])

end Sys2Proof.Machine
end

section
/-! PROOFS. The sampler (04 R127, R128, R131). -/

namespace Sys2Proof.Machine

/-- Settles O19: a period is the command's own fold of visits from `samplerBegun`, and a visit writes each sampling word
once. -/
theorem samplerVisits : Obligations.SamplerVisits := by
  unfold Obligations.SamplerVisits
  refine ⟨fun s hon hrun => ?_, fun s q hreset => ?_⟩
  · simp only [decide_eq_true_eq]
    rw [← State.samplerBegun]
    obtain ⟨hnext, hend⟩ := max_le_iff.mp s.samplerBegun_now
    refine ⟨?_, hnext, hend, State.samplerBegun_overrun⟩
    rw [exec_samplerPeriod, execSamplerPeriod, if_pos (by simp [hon, hrun]), fin_next]
    dsimp only
    rw [s.samplerCounted_metering]
    rfl
  · have hword := fun (f : Fld) (hf : f.reg.ofQueue = true) => State.visitQueue_rd hreset f hf
    have hkept (w hi lo : Nat) (hw : w < 8) : (s.visitQueue q).rd ⟨.qctx q w, hi, lo⟩ = s.rd ⟨.qctx q w, hi, lo⟩ :=
      (hword _ rfl).trans (s.visited_rd_other q fun v hv _ => by simp; omega)
    obtain ⟨hmin, hmax⟩ := s.visited_delay q
    obtain ⟨hsamples, hlast⟩ := s.visited_count q
    refine ⟨fun hdepth => ?_, (hword _ rfl).trans hmin, (hword _ rfl).trans hmax, (hword _ rfl).trans hsamples,
      (hword _ rfl).trans hlast, hkept 0 _ _ (by decide), ?_⟩
    · obtain ⟨hdmin, hdmax, hmean⟩ := s.visited_depth q hdepth
      exact ⟨(hword _ rfl).trans hdmin, (hword _ rfl).trans hdmax, (hword _ rfl).trans hmean⟩
    · exact State.qDepth_congr (hkept 0 _ _ (by decide)) (hkept 2 _ _ (by decide)) (hkept 2 _ _ (by decide))

end Sys2Proof.Machine
end

section
/-! SUPPORT. Writes of the shaper window (04 R118, R121 to R123): the refills that are due, the refused write, the staged
write and the write that acts at once. -/

namespace Sys2Proof.Machine

theorem exec_shaperWrite (m : Mst) (w : Fin 2) (v : Word) (s : State) :
    exec (.shaperWrite m w v) s = execShaperWrite m w v s := rfl

theorem exec_tenantWindowWrite (m : Mst) (w : Fin 5) (v : Word) (s : State) :
    exec (.tenantWindowWrite m w v) s = execTenantWindowWrite m w v s := rfl

theorem exec_samplerResetQueue (m : Mst) (v : Word) (s : State) :
    exec (.samplerResetQueue m v) s = execSamplerResetQueue m v s := rfl

theorem periodOk_on (p : Nat) : periodOk true p = decide (100 ≤ p ∧ p ≤ 1000000) := rfl

/-- A shaper that is disabled, or whose next refill lies ahead, has none to catch up with (04 R121). -/
theorem State.shpCatchUp_of_none_due {s : State} {i : Nat} (h : s.shpOn i = false ∨ s.tim < s.rd (F.shp_NEXT i))
    (n : Nat) : State.shpCatchUp i n s = s := by
  cases n with
  | zero => rfl
  | succ n =>
    have hnone : ¬(s.shpOn i && decide (s.rd (F.shp_NEXT i) ≤ s.tim)) = true := by
      rcases h with h | h
      · simp [h]
      · simp [h]
    exact if_neg hnone

/-- A period out of range is refused while EN is 1 (04 R123). -/
theorem State.shpWrite_of_bad_period {v : Word} (hen : bits v 63 63 = 1)
    (hbad : ¬(100 ≤ bits v 51 32 ∧ bits v 51 32 ≤ 1000000)) (s : State) (m : Mst) :
    s.shpWrite m 0 v = s.count F.schStat_REJECT := by
  have hok : periodOk (bits v 63 63 == 1) (bits v 51 32) = false := by simp [hen, periodOk_on, hbad]
  simp [State.shpWrite, hok]

/-- The staged words of a shaper become its live words. -/
def State.shpLoad (s : State) (i : Nat) : State :=
  (s.set (.shp i 4) (s.get (.shp i 0))).set (.shp i 5) (s.get (.shp i 1))

/-- A shaper that is enabled holds a full bucket, and its first refill is PERIOD ahead (04 R121). -/
def State.shpFill (s : State) (i : Nat) : State :=
  (s.wr (F.shp_TOKENS i) (s.rd (F.shp_BURST i))).wr (F.shp_NEXT i) (s.tim + s.rd (F.shp_PERIOD i))

/-- A write that is accepted is staged while the shaper is enabled, and acts at once while it is not (04 R121). -/
theorem State.shpWrite_of_accepted {s t : State} {m : Mst} {w : Fin 2} {v : Word} {i : Nat} (hi : s.selOf m .shp = i)
    (hperiod : w.val = 0 → periodOk (bits v 63 63 == 1) (bits v 51 32) = true)
    (ht : (State.shpCatchUp i (refillsDue (s.rd (F.shp_NEXT i)) s.tim 100) s).winWrite m 1 w i (.shp i w) v = (t, true)) :
    s.shpWrite m w v
      = if t.shpOn i then t.wr (F.shp_PENDING i) 1
        else if (t.shpLoad i).shpOn i then (t.shpLoad i).shpFill i else t.shpLoad i := by
  subst hi
  have hbad : ¬(w.val = 0 ∧ periodOk (bits v 63 63 == 1) (bits v 51 32) = false) := fun ⟨hw, h⟩ => by
    simp [hperiod hw] at h
  rw [State.shpWrite, if_neg w.isLt.not_ge, if_neg hbad]
  dsimp only
  rw [ht]
  rfl

section

variable (s : State) (i : Nat)

theorem State.shpLoad_rd_other {f : Fld} (h4 : f.reg ≠ .shp i 4) (h5 : f.reg ≠ .shp i 5) :
    (s.shpLoad i).rd f = s.rd f := by
  rw [State.rd, State.shpLoad, State.get_set_other _ _ h5, State.get_set_other _ _ h4, State.rd]

theorem State.shpLoad_get4 : (s.shpLoad i).get (.shp i 4) = s.get (.shp i 0) := by
  rw [State.shpLoad, State.get_set_other _ _ (by simp), State.get_set_same]

theorem State.shpLoad_get5 : (s.shpLoad i).get (.shp i 5) = s.get (.shp i 1) := by
  rw [State.shpLoad, State.get_set_same]

theorem State.shpLoad_shpOn : (s.shpLoad i).shpOn i = s.on (F.shp_EN i) := by
  rw [State.shpOn, State.shpLoad_get4, State.on, State.rd, Bool.eq_iff_iff]
  have hbit : bits (s.get (.shp i 0)) 63 63 < 2 := bits_lt _ 63 63
  simp only [beq_iff_eq, bne_iff_ne]
  omega

theorem State.shpFill_get {w : Nat} (h2 : w ≠ 2) (h3 : w ≠ 3) : (s.shpFill i).get (.shp i w) = s.get (.shp i w) := by
  rw [State.shpFill, State.wr, State.get_set_other _ _ (by simp [h3]), State.wr, State.get_set_other _ _ (by simp [h2])]

theorem State.shpFill_tokens : (s.shpFill i).rd (F.shp_TOKENS i) = s.rd (F.shp_BURST i) := by
  rw [State.shpFill, State.rd_wr_other _ _ (by simp), State.rd_wr _ _ _ (by simp) (by simp)]
  have hburst : s.rd (F.shp_BURST i) < 2 ^ 24 := bits_lt _ _ _
  exact Nat.mod_eq_of_lt (hburst.trans (Nat.pow_lt_pow_right (by decide) (by decide) : 2 ^ 24 < 2 ^ 25))

theorem State.shpFill_next : (s.shpFill i).rd (F.shp_NEXT i) = (s.tim + s.rd (F.shp_PERIOD i)) % 2 ^ 64 :=
  State.rd_wr _ _ _ (by simp) (by simp)

end

end Sys2Proof.Machine
end

section
/-! PROOFS. Writes of the shaper and tenant windows and of SCH_SMP_RST (04 R118, R121 to R123, R126, R130). -/

namespace Sys2Proof.Machine

/-- Settles O17: each write is its meaning on the register that opens, and EN before the write decides between staging and
acting at once. -/
theorem shaperAndTenantWindowWrites : Obligations.ShaperAndTenantWindowWrites := by
  unfold Obligations.ShaperAndTenantWindowWrites
  refine fun m v s => ⟨fun w hopen => ?_, fun w hopen => ?_, fun hopen => ?_,
    fun hen hbad => State.shpWrite_of_bad_period hen hbad s m, fun h => State.shpCatchUp_of_none_due h _,
    fun w t hperiod ht => ⟨fun hon => ?_, fun hoff => ?_⟩⟩
  · rw [exec_shaperWrite, execShaperWrite, regWriteRow_opens hopen]
  · rw [exec_tenantWindowWrite, execTenantWindowWrite, regWriteRow_opens hopen]
  · rw [exec_samplerResetQueue, execSamplerResetQueue, regWriteRow_opens hopen]
  · rw [State.shpWrite_of_accepted rfl hperiod ht, if_pos hon]
  · rw [State.shpWrite_of_accepted rfl hperiod ht, if_neg (by simp [hoff]), State.shpLoad_shpOn]
    generalize s.selOf m .shp = i
    by_cases hen : t.on (F.shp_EN i) = true
    · rw [if_pos hen]
      dsimp only
      rw [State.shpFill_get _ _ (by decide) (by decide), State.shpFill_get _ _ (by decide) (by decide),
        State.shpFill_tokens, State.shpFill_next]
      refine ⟨t.shpLoad_get4 i, t.shpLoad_get5 i, fun _ => ⟨t.shpLoad_rd_other i (by simp) (by simp), ?_⟩⟩
      rw [State.tim, t.shpLoad_rd_other i (by simp) (by simp), t.shpLoad_rd_other i (by simp) (by simp), State.tim]
    · rw [if_neg hen]
      exact ⟨t.shpLoad_get4 i, t.shpLoad_get5 i, fun h => absurd h hen⟩

end Sys2Proof.Machine
end

section
/-! SUPPORT. TIM_NOW at the end of a command of a device at TERMINAL: no containment moves it (16 R519, 17 R548). -/

namespace Sys2Proof.Machine

/-- A change of other words than TIM_NOW, and of no memory. -/
abbrev LeavesTim (s t : State) : Prop := Leaves (· = .timNow) s t

theorem Leaves.parts {p : Reg → Prop} {s t : State} (hregs : t.regs = s.regs := by rfl) (hmem : t.mem = s.mem := by rfl)
    (hpal : t.pal = s.pal := by rfl) (hpoison : t.palPoison = s.palPoison := by rfl)
    (hecc : t.palEcc = s.palEcc := by rfl) : Leaves p s t :=
  Leaves.of hmem hpal hpoison hecc hregs

theorem Leaves.foldl_stopped {α : Type} {p : Reg → Prop} {f : State → α → State}
    (hsteady : ∀ t x, t.Stopped → Steady t (f t x)) (hf : ∀ t x, t.Stopped → Leaves p t (f t x)) (l : List α) {s : State}
    (h : s.Stopped) : Leaves p s (l.foldl f s) := by
  induction l generalizing s with
  | nil => exact Leaves.refl p s
  | cons x l ih => exact (hf s x h).trans (ih (h.steady (hsteady s x h)))

/-! ## Events and records of faults (02 R59, 16 R515) -/

theorem State.evPush_leavesTim (s : State) (k : Nat) (e : Quad) : LeavesTim s (s.evPush k e) :=
  (Leaves.parts : LeavesTim s (s.setEv k _)).trans (State.wmEval_leaves nofun nofun _ _)

theorem State.evLost_leavesTim (s : State) (k : Nat) : LeavesTim s (s.evLost k) :=
  (Leaves.parts : LeavesTim s (s.setEv k _)).trans
    (Leaves.ite (fun _ => Leaves.wr _ _ _ nofun) fun _ => Leaves.refl _ _)

theorem State.evOverflow_leavesTim (s : State) (k : Nat) : LeavesTim s (s.evOverflow k) :=
  Leaves.ite (fun _ => Leaves.refl _ s) fun _ => (s.evPush_leavesTim k _).trans Leaves.parts

theorem State.evPost_leavesTim (s : State) (k cls master detail arg : Nat) (low : Bool) :
    LeavesTim s (s.evPost k cls master detail arg low) := by
  rcases s.evPost_cases k cls master detail arg low with h | ⟨-, h⟩ | ⟨-, e, h⟩ <;> rw [h]
  · exact s.evLost_leavesTim k
  · exact (s.evOverflow_leavesTim k).trans (State.evLost_leavesTim _ k)
  · exact (s.evOverflow_leavesTim k).trans (State.evPush_leavesTim _ k e)

theorem State.dma_leavesTim (s : State) (o : Output) : LeavesTim s (s.dma o) :=
  Leaves.ite (fun _ => Leaves.refl _ s) fun _ => Leaves.parts

theorem State.msix_leavesTim (s : State) (func vector : Nat) : LeavesTim s (s.msix func vector) :=
  Leaves.ite
    (fun _ => (((Leaves.wr s _ _ nofun).trans (Leaves.wr _ _ _ nofun)).trans (Leaves.wr _ _ _ nofun)).trans
      (Leaves.wr _ _ _ nofun))
    fun _ => Leaves.ite (fun _ => Leaves.ite (fun _ => Leaves.refl _ s) fun _ => Leaves.parts) fun _ => s.dma_leavesTim _

theorem State.ringPut_leavesTim (s : State) (q : Nat) (e : Quad) : LeavesTim s (s.ringPut q e) := by
  have hadvance (t : State) : LeavesTim t (t.advancePi q) :=
    (Leaves.ite (fun _ => Leaves.wr t _ _ nofun) fun _ => Leaves.refl _ t).trans (Leaves.wr _ _ _ nofun)
  exact Leaves.ite (fun _ => Leaves.refl _ s) fun _ =>
    (Leaves.ite (fun _ => (s.dma_leavesTim _).trans (State.dma_leavesTim _ _)) fun _ => s.dma_leavesTim _).trans
      (hadvance _)

theorem State.postEvent_leavesTim (s : State) (q code queue : Nat) (arg : Word) :
    LeavesTim s (s.postEvent q code queue arg) :=
  Leaves.ite (fun _ => Leaves.refl _ s) fun _ =>
    Leaves.ite
      (fun _ => Leaves.ite (fun _ => Leaves.wr s _ _ nofun) fun _ =>
        (s.ringPut_leavesTim q _).trans
          (Leaves.ite (fun _ => State.msix_leavesTim _ _ _) fun _ => Leaves.refl _ _))
      fun _ => Leaves.refl _ s

theorem State.domCapture_leavesTim (s : State) (d n : Nat) (a : RaiseArg) : LeavesTim s (s.domCapture d n a) :=
  (((Leaves.set s _ _ nofun).trans (Leaves.set _ _ _ nofun)).trans (Leaves.set _ _ _ nofun)).trans
    (Leaves.set _ _ _ nofun)

theorem State.pairHold_leavesTim (s : State) (sev : Nat) : LeavesTim s (s.pairHold sev) :=
  (Leaves.ite (fun _ => Leaves.wr s _ _ nofun) fun _ => Leaves.refl _ s).trans <|
    Leaves.ite (fun _ => (Leaves.wr _ _ _ nofun).trans (Leaves.wr _ _ _ nofun)) fun _ => Leaves.refl _ _

theorem State.raiseRec_leavesTim (s : State) (n : Nat) (a : RaiseArg) : LeavesTim s (s.raiseRec n a) := by
  unfold State.raiseRec
  split
  · exact Leaves.refl _ s
  · have hcount : LeavesTim s (((s.count (F.fltSrc_COUNT n)).wr (F.fltSrc_LATCHED n) 1).fltStatus n) :=
      ((Leaves.wr s _ _ nofun).trans (Leaves.wr _ _ _ nofun)).trans (Leaves.wr _ _ _ nofun)
    refine Leaves.trans ?_ (State.pairHold_leavesTim _ _)
    refine Leaves.trans ?_ (Leaves.ite (fun _ => State.postEvent_leavesTim _ _ _ _ _) fun _ => Leaves.refl _ _)
    refine Leaves.trans ?_ (Leaves.ite (fun _ => State.evPost_leavesTim _ _ _ _ _ _ _) fun _ => Leaves.refl _ _)
    refine hcount.trans (Leaves.ite (fun _ => ?_) fun _ => ?_)
    · refine Leaves.trans ?_ (Leaves.ite (fun _ => State.evPost_leavesTim _ _ _ _ _ _ _) fun _ => Leaves.refl _ _)
      refine Leaves.trans ?_ (Leaves.wr _ _ _ nofun)
      exact Leaves.ite (fun _ => (State.domCapture_leavesTim _ _ _ _).trans (Leaves.wr _ _ _ nofun)) fun _ =>
        Leaves.refl _ _
    · refine Leaves.trans ?_ (State.evPost_leavesTim _ _ _ _ _ _ _)
      exact ((State.domCapture_leavesTim _ _ _ a).trans (Leaves.wr _ F.pieAttn_FLTREC 1 nofun)).trans Leaves.parts

theorem State.Stopped.raise_leavesTim {s : State} (h : s.Stopped) (n : Nat) (a : RaiseArg) :
    LeavesTim s (s.raise n a) := by
  have howed : LeavesTim s (s.raiseOwed n a) :=
    (s.raiseRec_leavesTim n a).trans (Leaves.ite (fun _ => Leaves.parts) fun _ => Leaves.refl _ _)
  rw [State.raise_eq, (h.steady (s.raiseOwed_steady n a)).haltsAt]
  simpa using howed

/-! ## Channels (14 R466, R470) -/

theorem State.tally_leavesTim (s : State) (b code n : Nat) : LeavesTim s (s.tally b code n) :=
  (s.tally_leaves b code n).mono fun _ hr => hr ▸ trivial

theorem State.setGddr_leavesTim (s : State) (g : Gddr) : LeavesTim s { s with gddr := g } := Leaves.parts

theorem State.second_leavesTim (s : State) (p : Nat) (f : ChSecond → ChSecond) : LeavesTim s (s.second p f) := by
  have hnow : LeavesTim s (s.secondNow p) := by
    unfold State.secondNow
    dsimp only
    split
    · exact Leaves.refl _ s
    · exact s.setGddr_leavesTim _
  exact hnow.trans (State.setGddr_leavesTim _ _)

/-- A count of a channel's errors and the raise that it brings (14 R465, R466). -/
theorem State.Stopped.count_raise {s : State} (h : s.Stopped) {f : Fld} (hf : f.reg.steady = false)
    (hwm : ∀ i, Reg.wm i ≠ f.reg) (htim : f.reg ≠ .timNow) (n : Nat) (a : RaiseArg) :
    Steady s ((s.count f).raise n a) ∧ LeavesTim s ((s.count f).raise n a) := by
  have hcount : (s.count f).Stopped := h.steady (Steady.count s 1 hf hwm)
  exact ⟨(Steady.count s 1 hf hwm).trans (hcount.raise n a), (Leaves.wr s f _ htim).trans (hcount.raise_leavesTim n a)⟩

/-- The same with the error also in the second of its channel. -/
theorem State.Stopped.second_count_raise {s : State} (h : s.Stopped) {f : Fld} (hf : f.reg.steady = false)
    (hwm : ∀ i, Reg.wm i ≠ f.reg) (htim : f.reg ≠ .timNow) (p : Nat) (k : ChSecond → ChSecond) (n : Nat) (a : RaiseArg) :
    Steady s (((s.second p k).count f).raise n a) ∧ LeavesTim s (((s.second p k).count f).raise n a) := by
  obtain ⟨hsteady, hleaves⟩ := (h.steady (s.second_steady p k)).count_raise hf hwm htim n a
  exact ⟨(s.second_steady p k).trans hsteady, (s.second_leavesTim p k).trans hleaves⟩

theorem State.Stopped.symCorr_leavesTim {s : State} (h : s.Stopped) (l : Nat) (bad : List Sym) (k : Nat) :
    LeavesTim s (s.symCorr l bad k) :=
  Leaves.foldl_stopped (fun _ _ ht => (ht.second_count_raise rfl (by simp) (by simp) _ _ _ _).1)
    (fun _ _ ht => (ht.second_count_raise rfl (by simp) (by simp) _ _ _ _).2) bad h

theorem State.Stopped.symUncorr_leavesTim {s : State} (h : s.Stopped) (l : Nat) (bad : List (List Sym)) (k : Nat) :
    LeavesTim s (s.symUncorr l bad k) :=
  Leaves.foldl_stopped
    (fun _ x ht => (ht.count_raise rfl (by simp) (by simp) _ _).1.trans
      (Steady.foldl (fun u _ => u.setGddr_steady _) x _))
    (fun _ x ht => (ht.count_raise rfl (by simp) (by simp) _ _).2.trans
      (Leaves.foldl (fun u _ => u.setGddr_leavesTim _) x _)) bad h

theorem State.Stopped.edcRead_leavesTim {s : State} (h : s.Stopped) (l k : Nat) : LeavesTim s (s.edcRead l k).1 := by
  have hretries (t : State) (ht : t.Stopped) (p n a : Nat) : LeavesTim t (t.edcRetries p n a k) :=
    (t.tally_leavesTim 16 0x82 n).trans
      (Leaves.foldl_stopped (fun _ _ ht => (ht.second_count_raise rfl (by simp) (by simp) _ _ _ _).1)
        (fun _ _ ht => (ht.second_count_raise rfl (by simp) (by simp) _ _ _ _).2) _ (ht.steady (t.tally_steady 16 0x82 n)))
  exact (s.setGddr_leavesTim _).trans (hretries _ (h.steady (s.setGddr_steady _)) _ _ _)

theorem State.Stopped.copyLine_leavesTim {s : State} (h : s.Stopped) (l : Nat) : LeavesTim s (s.copyLine l) := by
  unfold State.copyLine
  split
  · exact Leaves.refl _ s
  · refine Leaves.ite (fun _ => s.setGddr_leavesTim _) fun _ => (h.edcRead_leavesTim l 7).trans ?_
    have hread : (s.edcRead l 7).1.Stopped := h.steady (h.edcRead l 7)
    refine Leaves.trans (Leaves.ite (fun _ => Leaves.refl _ _) fun _ => ?_) (State.setGddr_leavesTim _ _)
    exact (hread.symCorr_leavesTim _ _ _).trans ((hread.steady (hread.symCorr _ _ _)).symUncorr_leavesTim _ _ _)

theorem State.copyArmed_leavesTim (s : State) (l : Nat) : LeavesTim s (s.copyArmed l) := by
  have herrs (p : Nat) : LeavesTim s (s.writeErrs p l).1 := by
    unfold State.writeErrs
    split
    · exact (Leaves.wr s (F.gdmErrinj_ARM p) 0 nofun).trans (State.setGddr_leavesTim _ _)
    · exact Leaves.refl _ s
  unfold State.copyArmed
  split
  · exact Leaves.refl _ s
  · exact Leaves.ite (fun _ => herrs _) fun _ => (herrs _).trans (State.setGddr_leavesTim _ _)

theorem State.Stopped.copySync_leavesTim {s : State} (h : s.Stopped) : LeavesTim s s.copySync := by
  unfold State.copySync
  split
  · exact Leaves.refl _ s
  · refine Leaves.ite (fun _ => Leaves.refl _ s) fun _ => Leaves.ite (fun _ => s.setGddr_leavesTim _) fun _ =>
      (s.setGddr_leavesTim _).trans (Leaves.ite (fun _ => Leaves.refl _ _) fun _ => ?_)
    refine Leaves.trans ?_ (Leaves.wr _ F.gdmMig_COPIED _ nofun)
    refine Leaves.trans ?_ (State.tally_leavesTim _ _ _ _)
    refine Leaves.trans ?_ (State.tally_leavesTim _ _ _ _)
    exact (Leaves.foldl_stopped (fun _ _ ht => ht.copyLine _) (fun _ _ ht => ht.copyLine_leavesTim _) _
      (h.steady (s.setGddr_steady _))).trans (State.copyArmed_leavesTim _ _)

/-! ## Contexts and the reports of their packets (06 R200, R207) -/

theorem State.canvasReport_leavesTim (s : State) (i : Nat) : LeavesTim s (s.canvasReport i) := by
  have hfinish (t : State) (q id : Nat) (r : Result) : LeavesTim t (t.finishEntry q id r) :=
    (Leaves.parts : LeavesTim t (t.setQue q _)).trans (Leaves.wr _ _ _ nofun)
  have hend (t : State) : LeavesTim t (t.canvasEnd i) := by
    refine Leaves.ite (fun _ => (Leaves.wr t (F.cvs_STATE i) 0 nofun).trans ?_) fun _ => Leaves.refl _ t
    dsimp only
    split
    · exact (Leaves.trans Leaves.parts (Leaves.wr _ F.mtcUse_RNDV _ nofun)).trans
        (Leaves.ite (fun _ => hfinish _ _ _ _) fun _ => Leaves.refl _ _)
    · exact State.postEvent_leavesTim _ _ _ _ _
  exact (Leaves.wr s (F.cvs_INFLIGHT i) _ nofun).trans (hend _)

/-- At the halt a completion releases its slot and is discarded (16 R520). -/
theorem State.Stopped.recvComplete_leavesTim {s : State} (h : s.Stopped) (b : Bound) (status bytes : Nat) :
    LeavesTim s (s.recvComplete b status bytes) := by
  have hcomplete (t : State) (ht : t.Stopped) (cq n : Nat) (e : Quad) (sol : Bool) :
      LeavesTim t (t.complete cq n e sol) := by
    have hrsv : Steady t (t.wr (F.qctx_RSV cq) (t.rd (F.qctx_RSV cq) - n)) := Steady.wr t _
    have ht' := ht.steady hrsv
    unfold State.complete
    simpa [ht'.halted, ht'.source] using (Leaves.wr t (F.qctx_RSV cq) (t.rd (F.qctx_RSV cq) - n) nofun : LeavesTim t _)
  refine Leaves.ite (fun _ => Leaves.refl _ s) fun _ => Leaves.trans
    (Leaves.ite (fun _ => Leaves.wr s (F.mtc_TRUNC b.post.mctx) _ nofun) fun _ => Leaves.refl _ s)
    (hcomplete _ (h.steady (Steady.ite (fun _ => Steady.count s) fun _ => Steady.refl s)) _ _ _ _)

theorem State.Stopped.boundEnd_leavesTim {s : State} (h : s.Stopped) (id status bytes : Nat) :
    LeavesTim s (s.boundEnd id status bytes) := by
  unfold State.boundEnd
  split
  · exact Leaves.refl _ s
  · next b hb =>
    have hlatent (t : State) (l : List (Nat × Nat)) (ht : t.Stopped) :
        ({ t with faults := { t.faults with latent := l } } : State).Stopped := ht.steady Steady.parts
    have hraise (n u : Nat) : Steady s (s.latentRaise n u) ∧ LeavesTim s (s.latentRaise n u) :=
      ⟨(Steady.parts : Steady s _).trans ((hlatent s _ h).raise _ _),
        (Leaves.parts : LeavesTim s _).trans ((hlatent s _ h).raise_leavesTim _ _)⟩
    have hsteady : Steady s (if s.latent Src.MTC_UNCORR b.id then s.latentRaise Src.MTC_UNCORR b.id else s) :=
      Steady.ite (fun _ => (hraise _ _).1) fun _ => Steady.refl s
    have hleaves : LeavesTim s (if s.latent Src.MTC_UNCORR b.id then s.latentRaise Src.MTC_UNCORR b.id else s) :=
      Leaves.ite (fun _ => (hraise _ _).2) fun _ => Leaves.refl _ s
    exact (hleaves.trans Leaves.parts).trans
      (((h.steady hsteady).steady (State.setMtch_steady _ _)).recvComplete_leavesTim _ _ _)

theorem State.Stopped.lateReport_leavesTim {s : State} (h : s.Stopped) (id : Nat) (ok : Bool) :
    LeavesTim s (s.lateReport id ok) := by
  have hsync (t : State) (m : Nat) : LeavesTim t (t.mtcSync m) :=
    ((((Leaves.wr t (F.mtc_POSTED m) _ nofun).trans (Leaves.wr _ (F.mtc_WILD m) _ nofun)).trans
      (Leaves.wr _ (F.mtc_UNEXP m) _ nofun)).trans (Leaves.wr _ F.mtcUse_POSTED _ nofun)).trans
      (Leaves.wr _ F.mtcUse_UNEXP _ nofun)
  have hdrop (u : Nat) : LeavesTim s (s.dropUnexp u) := by
    unfold State.dropUnexp
    split
    · exact Leaves.refl _ s
    · exact (Leaves.parts : LeavesTim s (s.setMtch _)).trans (hsync _ _)
  have hdone (t : State) (ht : t.Stopped) : LeavesTim t (t.boundDone id) := by
    unfold State.boundDone
    split
    · exact Leaves.refl _ t
    · exact Leaves.ite (fun _ => ht.boundEnd_leavesTim _ _ _) fun _ =>
        Leaves.ite (fun _ => ht.boundEnd_leavesTim _ _ _) fun _ => ht.boundEnd_leavesTim _ _ _
  unfold State.lateReport
  split
  · exact Leaves.refl _ s
  · next b hb =>
    have hslot : Steady s (match b.late with
          | some u => (s.dropUnexp u).setBound id fun b => { b with late := none }
          | none => s)
        ∧ LeavesTim s (match b.late with
          | some u => (s.dropUnexp u).setBound id fun b => { b with late := none }
          | none => s) := by
      split
      · exact ⟨(s.dropUnexp_steady _).trans Steady.parts, (hdrop _).trans Leaves.parts⟩
      · exact ⟨Steady.refl s, Leaves.refl _ s⟩
    obtain ⟨hsteady, hleaves⟩ := hslot
    have hstopped := h.steady hsteady
    refine hleaves.trans (Leaves.ite (fun _ => hstopped.boundEnd_leavesTim _ _ _) fun _ =>
      Leaves.ite (fun _ => Leaves.refl _ _) fun _ => ?_)
    exact Leaves.trans Leaves.parts (hdone _ (hstopped.steady Steady.parts))

theorem State.Stopped.ctxReport_leavesTim {s : State} (h : s.Stopped) (c : Nat) (r : Report) :
    LeavesTim s (s.ctxReport c r) := by
  have hconn (t : State) (ht : t.Stopped) (e : Event) (p : Packet) : LeavesTim t (t.connReport e p r) := by
    have hcvs : Steady t (if e.onCanvas then t.canvasReport (p.get H.ckey % 1048576) else t)
        ∧ LeavesTim t (if e.onCanvas then t.canvasReport (p.get H.ckey % 1048576) else t) :=
      ⟨Steady.ite (fun _ => t.canvasReport_steady _) fun _ => Steady.refl t,
        Leaves.ite (fun _ => t.canvasReport_leavesTim _) fun _ => Leaves.refl _ t⟩
    have hfree := (ht.steady hcvs.1).conns e.key
    unfold State.connReport
    simpa [hfree] using hcvs.2
  unfold State.ctxReport
  dsimp only
  split
  · exact Leaves.refl _ s
  · refine Leaves.ite (fun _ => Leaves.refl _ s) fun _ => ?_
    have hhandled : (s.setCtx c fun x => { x with handled := true }).Stopped := h.steady (s.setCtx_steady c _)
    refine (Leaves.parts : LeavesTim s (s.setCtx c fun x => { x with handled := true })).trans ?_
    split
    · exact hhandled.lateReport_leavesTim _ _
    · split
      · exact Leaves.ite (fun _ => hconn _ hhandled _ _) fun _ => Leaves.refl _ _
      · exact Leaves.refl _ _

theorem State.semAbandon_leavesTim (s : State) (p : Mst → Bool) : LeavesTim s (s.semAbandon p) := by
  have hfree (t : State) (n : Nat) : LeavesTim t (((t.semFree n).wr (F.sem_ABANDONED n) 1).count F.semStat_ABANDONS) :=
    (((Leaves.wr t _ _ nofun).trans (Leaves.wr _ _ _ nofun)).trans (Leaves.wr _ _ _ nofun)).trans (Leaves.wr _ _ _ nofun)
  have hclaims (t : State) (n : Nat) (l : List Claim) : LeavesTim t (t.setClaims n l) :=
    Leaves.trans (t := { t with guard := { t.guard with claims := _ } }) Leaves.parts (Leaves.wr _ _ _ nofun)
  refine Leaves.trans (t := { s with guard := { s.guard with fences := _ } }) Leaves.parts
    ((Leaves.foldl (fun t n => ?_) (List.range 4096) _).trans (Leaves.foldl (fun t c => ?_) _ _))
  · exact Leaves.ite (fun _ => hfree t n) fun _ => Leaves.refl _ t
  · exact Leaves.ite (fun _ => hclaims t _ _) fun _ => Leaves.refl _ t

theorem State.Stopped.containCtx_leavesTim {s : State} (h : s.Stopped) (c : Nat) : LeavesTim s (s.containCtx c) := by
  have hwarden (t : State) (ht : t.Stopped) : LeavesTim t (t.wardenLost c) :=
    Leaves.ite (fun _ => ht.raise_leavesTim _ _) fun _ => Leaves.refl _ t
  unfold State.containCtx
  refine Leaves.trans ?_ (hwarden _ (h.steady (Steady.trans ?_ (State.semAbandon_steady _ _))))
  · refine Leaves.trans ?_ (State.semAbandon_leavesTim _ _)
    exact ((h.ctxReport_leavesTim c .notPlaced).trans Leaves.parts).trans (Leaves.wr _ _ _ nofun)
  · exact ((h.ctxReport c .notPlaced).trans (State.setCtx_steady _ c _)).trans (Steady.wr _ _)

/-! ## Containments and the end of a command (16 R519) -/

theorem State.Stopped.contain_leavesTim {s : State} (h : s.Stopped) (kind unit src : Nat) :
    LeavesTim s (s.contain kind unit src) := by
  have hdown : s.downAlready 1 unit = true := by simp [State.downAlready, h.links]
  refine Leaves.ite (fun _ => Leaves.refl _ s) fun hopen => Leaves.trans ?_
    (Leaves.ite (fun _ => State.postEvent_leavesTim _ _ _ _ _) fun _ => Leaves.refl _ _)
  split
  · rw [State.containPort, if_pos hdown]
    exact Leaves.parts
  · simp [State.isContained, h.queues] at hopen
  · simp [State.isContained, h.conns] at hopen
  · exact h.containCtx_leavesTim unit
  · simp [State.isContained, h.trees] at hopen
  · exact h.copySync_leavesTim.trans (State.setGddr_leavesTim _ _)
  · exact Leaves.refl _ s

theorem State.Stopped.settleN_leavesTim {s : State} (h : s.Stopped) (n : Nat) : LeavesTim s (State.settleN n s) := by
  induction n generalizing s with
  | zero => exact Leaves.refl _ s
  | succ n ih =>
    unfold State.settleN
    split
    · exact Leaves.refl _ s
    · next k u src l _ =>
      have howed : ({ s with faults := { s.faults with due := l } } : State).Stopped := h.steady Steady.parts
      exact (Leaves.trans Leaves.parts (howed.contain_leavesTim k u src)).trans (ih (howed.steady (howed.contain k u src)))

/-- The end of a command leaves TIM_NOW of a device at TERMINAL whose units have not begun. -/
theorem State.Stopped.ended_tim {s : State} (h : s.Stopped) : s.ended.tim = s.tim := by
  have hround (t : State) (ht : t.Stopped) : t.settle.sync.tim = t.tim := by
    have hsettle : t.settle.tim = t.tim := (ht.settleN_leavesTim 300).rd F.timNow_NOW rfl
    rw [(ht.steady ht.settle).sync, State.tim, State.rd, State.pinSync_get, ← State.rd, ← State.tim, hsettle]
  unfold State.ended
  dsimp only
  split
  · exact hround s h
  · exact (hround _ h.settle_sync.1).trans (hround s h)

end Sys2Proof.Machine
end

section
/-! PROOFS. A refill that falls due while TIM_NOW slews forward (04 R119, 11 R392, 17 R548). -/

namespace Sys2Proof.Machine

theorem exec_shaperRefill (i : Fin 65536) (s : State) : exec (.shaperRefill i) s = execShaperRefill i s := rfl

theorem State.passTim_onlyWords (s : State) (t : Nat) : OnlyWords TimeReg s (s.passTim t) :=
  OnlyWords.ite (fun _ => OnlyWords.refl _ s) fun _ => s.pass_onlyWords _

/-- A refill changes words of its shaper alone. -/
theorem State.shpRefill_onlyWords (s : State) (i : Nat) : OnlyWords (fun r => ∃ w, r = .shp i w) s (s.shpRefill i) := by
  have hload : OnlyWords (fun r => ∃ w, r = .shp i w) s
      (((s.set (.shp i 4) (s.get (.shp i 0))).set (.shp i 5) (s.get (.shp i 1))).wr (F.shp_PENDING i) 0) :=
    ((OnlyWords.set s _ ⟨4, rfl⟩).trans (OnlyWords.set _ _ ⟨5, rfl⟩)).trans (OnlyWords.wr _ _ ⟨2, rfl⟩)
  exact (OnlyWords.ite (fun _ => hload) fun _ => OnlyWords.refl _ s).trans
    (OnlyWords.ite (fun _ => (OnlyWords.wr _ _ ⟨2, rfl⟩).trans (OnlyWords.wr _ _ ⟨3, rfl⟩)) fun _ =>
      OnlyWords.wr _ _ ⟨3, rfl⟩)

/-- A device at TERMINAL one nanosecond before the last value of TIM_NOW, at which shaper 0, enabled with PERIOD 100, refills
next; the slew forward has one nanosecond left, which the next nanosecond of CLK_TIME adds. -/
def slewing : State :=
  { regs := [(.fltHalt, 0xC000000000000001), (.timNow, 0xFFFFFFFFFFFFFFFE), (.shp 0 0, 0x8000006400000000),
      (.shp 0 3, 0xFFFFFFFFFFFFFFFF), (.shp 0 4, 0x8000006400000000)]
    clock := { slewUp := 1, frac := 999999 } }

/-- The state as its refill leaves it. -/
def slewingRefilled : State := (slewing.passTim (slewing.rd (F.shp_NEXT 0))).shpRefill 0

theorem exec_shaperRefill_slewing : exec (.shaperRefill 0) slewing = .next slewingRefilled.ended := by
  rw [exec_shaperRefill, execShaperRefill, if_pos (by decide), fin_next]
  rfl

/-- Every word but those that the state lists stands at its reset value. -/
theorem slewing_rd {f : Fld} (hhalt : .fltHalt ≠ f.reg) (htim : .timNow ≠ f.reg) (hshp : ∀ w, .shp 0 w ≠ f.reg) :
    slewing.rd f = State.reset.rd f := by
  simp [State.rd, State.get, slewing, State.reset, regFind, hhalt, htim, hshp]

theorem slewing_stopped : slewing.Stopped where
  halted := by decide
  term := by decide
  source := by decide
  links n := (slewing_rd (by simp) (by simp) (by simp)).trans (State.rd_reset_eq_zero _ rfl)
  queues q := (slewing_rd (by simp) (by simp) (by simp)).trans (State.rd_reset_eq_zero _ rfl)
  conns n := (slewing_rd (by simp) (by simp) (by simp)).trans (State.rd_reset_eq_zero _ rfl)
  trees t := by
    rw [State.treeActive, slewing_rd (by simp) (by simp) (by simp), State.rd_reset_eq_zero _ rfl]
    rfl

/-- A command that changes words of time and of shapers alone leaves the device stopped. -/
theorem State.Stopped.of_onlyWords {p : Reg → Prop} {s t : State} (h : s.Stopped) (g : OnlyWords p s t)
    (hp : ∀ r, p r → TimeReg r ∨ ∃ i w, r = .shp i w) : t.Stopped := by
  refine h.of_steady_words fun r hr => g.reg r fun hpr => ?_
  rcases hp r hpr with (rfl | ⟨b, k, rfl | rfl⟩) | ⟨i, w, rfl⟩ <;> cases hr

theorem slewingRefilled_stopped : slewingRefilled.Stopped :=
  (slewing_stopped.of_onlyWords (slewing.passTim_onlyWords _) fun _ => .inl).of_onlyWords
    (State.shpRefill_onlyWords _ 0) fun _ ⟨w, hw⟩ => .inr ⟨0, w, hw⟩

/-- The nanosecond that brings the refill takes TIM_NOW two on, past its last value to 0. -/
theorem slewingRefilled_tim : slewingRefilled.tim = 0 := by
  have hwait : slewing.timWait (slewing.rd (F.shp_NEXT 0)) = 1 := by decide
  have hpass : (slewing.passTim (slewing.rd (F.shp_NEXT 0))).tim = 0 := by
    rw [State.passTim, if_neg (by decide), hwait, State.pass_tim (by decide)]
    decide
  exact ((State.shpRefill_onlyWords _ 0).rd F.timNow_NOW (by simp)).trans hpass

/-- Refutes O16: of `slewing`, whose shaper 0 refills at the last value of TIM_NOW, the refill is done with TIM_NOW at 0, as
its slew has taken it two on and past its 64 bits; so that it does not stand at NEXT or later, which the statement's first
clause asks. No state of which that clause holds ends as that command does. -/
theorem not_bucketRefills : ¬ Obligations.BucketRefills := by
  unfold Obligations.BucketRefills
  rintro ⟨hshapers, -⟩
  obtain ⟨t, hexec, -, -, -, hdue, -, -, hwords⟩ := hshapers 0 slewing (by decide)
  have hstopped : t.Stopped := slewing_stopped.of_onlyWords hwords fun r hr =>
    hr.imp_right fun ⟨w, _, _, hw⟩ => ⟨0, w, hw⟩
  have hended : slewingRefilled.ended = t.ended :=
    Host.Outcome.next.inj (exec_shaperRefill_slewing.symm.trans hexec)
  have htim : t.tim = 0 := by
    rw [← hstopped.ended_tim, ← hended, slewingRefilled_stopped.ended_tim, slewingRefilled_tim]
  have hnext : slewing.rd (F.shp_NEXT 0) = 2 ^ 64 - 1 := by decide
  rw [htim] at hdue
  exact absurd (hnext ▸ hdue) (by decide)

end Sys2Proof.Machine
end

section
/-! SUPPORT. The warden mailbox (06 R183 to R186): what an accepted command leaves, and how a command ends. -/

namespace Sys2Proof.Machine

/-- The commands of CMD and what is written to it (06 R184). -/
theorem exec_mailbox_write {m : Mst} {v : Word} {x : Nat × Instr}
    (hx : x ∈ [(1, Instr.sketchLoad m v), (2, .sketchFree m v), (3, .keyInstall m v), (4, .keyLock m v)]) (s : State) :
    exec x.2 s = regWriteRow m 0x430800 (setBits v 7 0 x.1) (fun s v => s.mailboxCmd m v) s ∧ x.1 < 2 ^ 8 := by
  simp only [List.mem_cons, List.not_mem_nil, or_false] at hx
  rcases hx with rfl | rfl | rfl | rfl <;> exact ⟨rfl, by simp⟩

/-- The words of an accepted command: CMD, BUSY and OWNER (06 R185). -/
def State.mailboxTaken (s : State) (m : Mst) (v : Word) : State :=
  ((s.wr F.wmbxCmd_CMD (bits v 7 0)).wr F.wmbxStat_BUSY 1).wr F.wmbxStat_OWNER m.toNat

theorem State.mailboxCmd_busy {s : State} (h : s.on F.wmbxStat_BUSY = true) (m : Mst) (v : Word) :
    s.mailboxCmd m v = s.count F.wmbxStat_COLLIDE := if_pos h

theorem State.mailboxTaken_fields (s : State) (m : Mst) (v : Word) :
    (s.mailboxTaken m v).rd F.wmbxCmd_CMD = bits v 7 0 ∧ (s.mailboxTaken m v).on F.wmbxStat_BUSY = true
      ∧ (s.mailboxTaken m v).rd F.wmbxStat_OWNER = m.toNat := by
  refine ⟨?_, ?_, ?_⟩
  · rw [State.mailboxTaken, State.rd_wr_other _ _ (by simp), State.rd_wr_other _ _ (by simp),
      State.rd_wr _ _ _ (by simp) (by simp)]
    exact Nat.mod_eq_of_lt (bits_lt v 7 0)
  · rw [State.on, State.mailboxTaken, State.rd_wr_apart _ _ (by simp) (by simp) (by simp [Fld.Apart]),
      State.rd_wr _ _ _ (by simp) (by simp)]
    rfl
  · rw [State.mailboxTaken, State.rd_wr _ _ _ (by simp) (by simp)]
    exact Nat.mod_eq_of_lt m.isLt

theorem State.mailboxTaken_onlyWords (s : State) (m : Mst) (v : Word) :
    OnlyWords (fun r => r = .wmbxCmd ∨ r = .wmbxStat) s (s.mailboxTaken m v) :=
  ((OnlyWords.wr s _ (.inl rfl)).trans (OnlyWords.wr _ _ (.inr rfl))).trans (OnlyWords.wr _ _ (.inr rfl))

/-- An accepted command writes CMD, BUSY and OWNER and is handed its arguments; a load of a slot of its range makes it
invalid. -/
theorem State.mailboxCmd_free {s : State} (h : s.on F.wmbxStat_BUSY = false) (m : Mst) (v : Word) :
    ∃ t box, s.mailboxCmd m v = { t with sandbox := box }
      ∧ t.on F.wmbxStat_BUSY = true ∧ t.rd F.wmbxCmd_CMD = bits v 7 0 ∧ t.rd F.wmbxStat_OWNER = m.toNat
      ∧ OnlyWords (fun r => r = .wmbxCmd ∨ r = .wmbxStat) s t
      ∧ box.running = some (bits v 7 0, (List.range 4).map fun i => s.get (.wmbxArg i))
      ∧ (bits v 7 0 = 1 → 1 ≤ (s.get (.wmbxArg 2)).toNat → (s.get (.wmbxArg 2)).toNat ≤ 4095 →
          (box.slots.at (s.get (.wmbxArg 2)).toNat {}).valid = false) := by
  obtain ⟨hcmd, hbusy, howner⟩ := s.mailboxTaken_fields m v
  refine ⟨s.mailboxTaken m v, _, if_neg (by simp [h]), hbusy, hcmd, howner, s.mailboxTaken_onlyWords m v, rfl,
    fun hload hlo hhi => ?_⟩
  have harg : (s.mailboxTaken m v).get (.wmbxArg 2) = s.get (.wmbxArg 2) := by
    simp [State.mailboxTaken, State.wr, State.get_set]
  have hslot := harg.symm ▸ And.intro hload (And.intro hlo hhi)
  rw [State.mailboxTaken] at harg hslot
  rw [if_pos hslot, harg, KMap.at_upd, if_pos rfl]

/-- The state and the RESULT of a command that ends (06 R184, R185). -/
def State.mailboxEnds (s : State) (m : Mst) (args : List Word) (cmd : Nat) : State × Nat :=
  let a (i : Nat) : Nat := ((args[i]?).getD 0).toNat
  match cmd with
  | 1 => s.mailLoad m (a 0) (a 1) (a 2)
  | 2 => s.mailFree m (a 0)
  | 3 => s.mailInstall m (a 0) (a 1)
  | 4 => s.mailLock m (a 0)
  | _ => (s, MB.badCmd)

theorem State.mailboxEnds_undefined (s : State) (m : Mst) (args : List Word) {cmd : Nat} (h : cmd = 0 ∨ 4 < cmd) :
    s.mailboxEnds m args cmd = (s, MB.badCmd) := by
  unfold State.mailboxEnds
  split
  · omega
  · omega
  · omega
  · omega
  · rfl

theorem exec_mailboxCommandDone (s : State) : exec .mailboxCommandDone s = execMailboxCommandDone s := rfl

/-- A command has ended: its RESULT is written and BUSY cleared (06 R185). -/
def State.mailboxClosed (r : State × Nat) : State :=
  (({ r.1 with sandbox := { r.1.sandbox with running := none } } : State).wr F.wmbxStat_RESULT r.2).wr F.wmbxStat_BUSY 0

theorem exec_mailboxCommandDone_runs {s : State} {cmd : Nat} {args : List Word}
    (hrun : s.sandbox.running = some (cmd, args)) (hhalt : s.halted = false) :
    exec .mailboxCommandDone s
      = fin (State.mailboxClosed (s.mailboxEnds (BitVec.ofNat 16 (s.rd F.wmbxStat_OWNER)) args cmd)) := by
  rw [exec_mailboxCommandDone, execMailboxCommandDone, hrun]
  simp only [hhalt, Bool.false_eq_true, if_false]
  rcases cmd with _ | _ | _ | _ | _ | n <;> rfl

end Sys2Proof.Machine
end

section
/-! PROOFS. The warden mailbox (06 R184 to R186). -/

namespace Sys2Proof.Machine

/-- Settles O41: BUSY decides between discarding and accepting, and the command that ran decides its result. -/
theorem wardenMailbox : Obligations.WardenMailbox := by
  unfold Obligations.WardenMailbox
  refine fun s => ⟨fun m v x hx hopens => ?_, fun cmd args hrun hhalt => ?_⟩
  · obtain ⟨hexec, hcmd⟩ := exec_mailbox_write hx s
    have hbits : bits (setBits v 7 0 x.1) 7 0 = x.1 :=
      (bits_setBits v 7 0 x.1 (by decide) (by decide)).trans (Nat.mod_eq_of_lt hcmd)
    rw [hexec, regWriteRow_opens hopens]
    refine ⟨fun hbusy => by rw [State.mailboxCmd_busy hbusy], fun hfree => ?_⟩
    obtain ⟨t, box, htaken, hBusy, hCmd, hOwner, hwords, hrunning, hload⟩ :=
      State.mailboxCmd_free hfree m (setBits v 7 0 x.1)
    rw [hbits] at hCmd hrunning hload
    exact ⟨{ t with sandbox := box }, by rw [htaken], hBusy, hCmd, hOwner, hrunning, hload,
      hwords.trans OnlyWords.parts⟩
  · have hends := exec_mailboxCommandDone_runs hrun hhalt
    rw [fin_next] at hends
    refine ⟨?_, ?_, ?_, ?_, fun hother => by rw [hends, s.mailboxEnds_undefined _ args hother, State.mailboxClosed]⟩
    all_goals
      rintro rfl
      exact hends

end Sys2Proof.Machine
end

section
/-! SUPPORT. Steered events and dispatch (06 R193 to R198): the queue of an engine, and an IDLE context that takes an event. -/

namespace Sys2Proof.Machine

/-! ## The queue of an engine (06 R193, R196) -/

theorem exec_steeredEventArrival (g : EngNum) (s : State) :
    exec (.steeredEventArrival g) s = execSteeredEventArrival g s := rfl

theorem exec_eventDispatch (g : EngNum) (s : State) : exec (.eventDispatch g) s = execEventDispatch g s := rfl

theorem exec_steeringWrite (m : Mst) (v : Word) (s : State) : exec (.steeringWrite m v) s = execSteeringWrite m v s := rfl

theorem State.setSteerQ_queue (s : State) (g : Nat) (f : List Event → List Event) :
    ((s.setSteerQ g f).eng g).queue = f (s.eng g).queue :=
  congrArg Eng.queue (s.setEng_eng_same g fun x => { x with queue := f x.queue })

/-- STEERQ shows the depth of the queue (06 R191). -/
theorem State.setSteerQ_steerq (s : State) (g : Nat) {f : List Event → List Event} (h : (f (s.eng g).queue).length ≤ 256) :
    (s.setSteerQ g f).rd (F.engStat_STEERQ g) = (f (s.eng g).queue).length := by
  rw [State.setSteerQ, State.rd_wr _ _ _ (by simp) (by simp), State.setEng_eng_same]
  exact Nat.mod_eq_of_lt (by simp; omega)

/-- An event for which there is room is queued behind the others. -/
theorem State.steerIn_queue (s : State) (g : Nat) (x : Event) :
    ((s.steerIn g x).eng g).queue.length = (s.eng g).queue.length + 1 := by
  rw [State.steerIn, State.setSteerQ_queue, List.length_append]
  rfl

theorem State.steerIn_steerq {s : State} {g : Nat} (x : Event) (h : (s.eng g).queue.length < 256) :
    (s.steerIn g x).rd (F.engStat_STEERQ g) = (s.eng g).queue.length + 1 := by
  rw [State.steerIn, State.setSteerQ_steerq _ _ (by rw [List.length_append]; exact h), List.length_append]
  rfl

/-- An event that waits is for this engine, whose queue has a free entry. -/
theorem State.room_of_find {s : State} {g : Nat} {l : List Event} {x : Event}
    (h : (l.find? fun x => s.steerEngine x == g && s.steerRoom g x) = some x) :
    s.steerEngine x = g ∧ (s.eng g).queue.length < 256 := by
  have hx := List.find?_some h
  simp only [State.steerRoom, Bool.and_eq_true, beq_iff_eq, decide_eq_true_eq] at hx
  exact ⟨hx.1, hx.2.1⟩

/-! ## One steered event (06 R195, R197) -/

section

variable {s : State} {g : Nat} {e : Event}
  (h : ((s.eng g).queue.find? fun e => s.headOfKey g e && (s.unservable g e || (s.taker g e).isSome)) = some e)
include h

theorem State.steerOne_unservable (hno : s.unservable g e = true) :
    s.steerOne g = some ((s.setSteerQ g fun q => q.erase e).discardEvent g e) := by
  simp [State.steerOne, h, hno]

theorem State.steerOne_taken {c : Nat} (hcan : s.unservable g e = false) (htaker : s.taker g e = some (c, false)) :
    s.steerOne g = some ((s.setSteerQ g fun q => q.erase e).giveEvent c e) := by
  simp [State.steerOne, h, hcan, htaker]

end

/-! ## What counting leaves (17 R539) -/

theorem OnlyWords.mono {p p' : Reg → Prop} {s t : State} (h : OnlyWords p s t) (hp : ∀ r, p r → p' r) : OnlyWords p' s t :=
  ⟨fun r hr => h.reg r fun hpr => hr (hp r hpr), h.mem, h.pal⟩

theorem State.tally_onlyWords (s : State) (b code n : Nat) : OnlyWords CounterReg s (s.tally b code n) :=
  OnlyWords.ite (fun _ => OnlyWords.refl _ s) fun _ =>
    OnlyWords.foldl (fun t _ => OnlyWords.ite (fun _ => State.cntAdd_onlyWords _ _ _ _ t) fun _ => OnlyWords.refl _ t) _ s

theorem State.tally_wordsOnly (s : State) (b code n : Nat) : WordsOnly s (s.tally b code n) :=
  WordsOnly.ite (WordsOnly.refl s)
    (WordsOnly.foldl (fun t _ => WordsOnly.ite (State.cntAdd_wordsOnly _ _ _ _ t) (WordsOnly.refl t)) _ s)

theorem WordsOnly.ctxs {s t : State} (h : WordsOnly s t) : t.ctxs = s.ctxs := by
  obtain ⟨l, rfl⟩ := h
  rfl

theorem WordsOnly.sandbox {s t : State} (h : WordsOnly s t) : t.sandbox = s.sandbox := by
  obtain ⟨l, rfl⟩ := h
  rfl

/-! ## The event at dispatch (06 R196, R198) -/

/-- At dispatch only the arguments of an event change, and of the state only the notices of connections. -/
theorem State.atDispatch_eq (s : State) (e : Event) :
    ∃ l a b d, s.atDispatch e = ({ s with conns := l }, { e with arg0 := a, arg1 := b, arg2 := d }) := by
  unfold State.atDispatch
  split
  · exact ⟨s.conns, e.arg0, _, e.arg2, rfl⟩
  · split
    · exact ⟨_, _, _, e.arg2, rfl⟩
    · split
      · split
        · exact ⟨_, _, _, _, rfl⟩
        · exact ⟨s.conns, e.arg0, e.arg1, e.arg2, rfl⟩
      · exact ⟨s.conns, e.arg0, e.arg1, e.arg2, rfl⟩

/-- Words h0 to h7 of a packet leave the descriptor in h8 to h15. -/
theorem State.foldl_set_h (c : Nat) (w : Nat → Word) (l : List Nat) (s : State) {k : Nat} (h : ∀ i ∈ l, k ≠ i) :
    (l.foldl (fun t i => t.set (.h c i) (w i)) s).get (.h c k) = s.get (.h c k) := by
  induction l generalizing s with
  | nil => rfl
  | cons i l ih =>
    obtain ⟨hi, hl⟩ := List.forall_mem_cons.mp h
    rw [List.foldl_cons, ih _ hl, State.get_set_other _ _ (by simp [hi])]

/-- The descriptor of an event in the window of a context: the word of h8, and the time in h9 (06 R198). -/
theorem State.loadWindow_h (s : State) (c : Nat) (e : Event) :
    (s.loadWindow c e).get (.h c 8) = e.h8 ∧ (s.loadWindow c e).get (.h c 9) = e.time := by
  unfold State.loadWindow
  dsimp only
  split
  · rw [State.foldl_set_h _ _ _ _ (by decide), State.foldl_set_h _ _ _ _ (by decide)]
    simp [State.get_set]
  · simp [State.get_set]

theorem State.loadWindow_onlyWords (s : State) (c : Nat) (e : Event) :
    OnlyWords (fun r => ∃ i, r = .h c i) s (s.loadWindow c e) := by
  have hset (t : State) (i : Nat) (v : Word) : OnlyWords (fun r => ∃ i, r = .h c i) t (t.set (.h c i) v) :=
    OnlyWords.set t v ⟨i, rfl⟩
  have hdesc := (((((((hset s 8 e.h8).trans (hset _ 9 e.time)).trans (hset _ 10 e.arg0)).trans (hset _ 11 e.arg1)).trans
    (hset _ 12 e.arg2)).trans (hset _ 13 0)).trans (hset _ 14 0)).trans (hset _ 15 0)
  unfold State.loadWindow
  dsimp only
  split
  · exact hdesc.trans (OnlyWords.foldl (fun t i => hset t i _) _ _)
  · exact hdesc

theorem State.loadWindow_sandbox (s : State) (c : Nat) (e : Event) : (s.loadWindow c e).sandbox = s.sandbox := by
  have hfold (w : Nat → Word) (l : List Nat) (t : State) :
      (l.foldl (fun t i => t.set (.h c i) (w i)) t).sandbox = t.sandbox := by
    induction l generalizing t with
    | nil => rfl
    | cons i l ih => exact ih _
  unfold State.loadWindow
  dsimp only
  split
  · exact hfold _ _ _
  · rfl

/-! ## The start of an activation (06 R198) -/

theorem State.handlerOf_congr {s t : State} {c : Nat} (hbox : t.sandbox = s.sandbox)
    (hcfg : t.get (.ctxCfg c) = s.get (.ctxCfg c)) (entry : Nat) : t.handlerOf c entry = s.handlerOf c entry := by
  simp only [State.handlerOf, State.ctxSketch, State.rd, hbox, hcfg]

/-- The window and the budget of a context that takes an event, before it stands at its handler. -/
def State.armed (s : State) (c : Nat) (e : Event) : State :=
  let s := (s.loadWindow c e).setCtx c fun x => { x.take e with issued := 0, stall := .none }
  s.wr (F.csr_REMAINING c) (s.rd (F.csr_LIMIT c))

/-- A context that does not wait starts an activation. -/
def State.starts (s : State) (c : Nat) (e : Event) : State :=
  (((s.armed c e).wr (F.pc_PC c) (4 * ((s.armed c e).handlerOf c e.entry).getD 0)).tally (ctxIsl c) 0x03).wr
    (F.ctxCfg_STATE c) XS.running

/-- The event that a context is given as it stands at dispatch, once it is counted: what a handler sees of it stays, and of
the state all words but counters, the contexts and the sandbox. -/
theorem State.giveEvent_starts {s : State} {c : Nat} (e : Event) (h : (s.ctx c).waitMask = none) :
    ∃ u x, s.giveEvent c e = u.starts c x ∧ OnlyWords CounterReg s u ∧ u.sandbox = s.sandbox
      ∧ x.h8 = e.h8 ∧ x.time = e.time ∧ x.entry = e.entry := by
  obtain ⟨l, a, b, d, hat⟩ := s.atDispatch_eq e
  let x : Event := { e with arg0 := a, arg1 := b, arg2 := d }
  let t : State := { s with conns := l }
  let u := if e.kind < 4 then t.tally (ctxIsl c) 0x0F else t
  have hcount : OnlyWords CounterReg t u := OnlyWords.ite (fun _ => t.tally_onlyWords _ _ _) fun _ => OnlyWords.refl _ t
  have hparts : WordsOnly t u := WordsOnly.ite (t.tally_wordsOnly _ _ _) (WordsOnly.refl t)
  have hwait : (u.ctx c).waitMask = none := by rw [State.ctx, hparts.ctxs]; exact h
  refine ⟨u, x, ?_, OnlyWords.trans (t := t) OnlyWords.parts hcount, hparts.sandbox, rfl, rfl, rfl⟩
  unfold State.giveEvent
  rw [hat]
  dsimp only
  split
  · next hsome => cases hsome.symm.trans hwait
  · rfl

theorem State.armed_onlyWords (s : State) (c : Nat) (e : Event) :
    OnlyWords (fun r => (∃ i, r = .h c i) ∨ r = .csr c 4) s (s.armed c e) := by
  have hload : OnlyWords (fun r => (∃ i, r = .h c i) ∨ r = .csr c 4) s (s.loadWindow c e) :=
    (s.loadWindow_onlyWords c e).mono fun _ => .inl
  exact (hload.trans OnlyWords.parts).trans (OnlyWords.wr _ (f := F.csr_REMAINING c) _ (.inr rfl))

theorem State.armed_sandbox (s : State) (c : Nat) (e : Event) : (s.armed c e).sandbox = s.sandbox :=
  s.loadWindow_sandbox c e

theorem State.armed_remaining (s : State) (c : Nat) (e : Event) :
    (s.armed c e).rd (F.csr_REMAINING c) = s.rd (F.csr_LIMIT c) := by
  rw [State.armed, State.rd_wr _ _ _ (by simp) (by simp), State.setCtx_rd,
    (s.loadWindow_onlyWords c e).rd (F.csr_LIMIT c) (by simp)]
  exact Nat.mod_eq_of_lt (bits_lt _ _ _)

/-- Of an armed context only its pc and STATE, and counters, change as it starts. -/
theorem State.starts_onlyWords (s : State) (c : Nat) (e : Event) :
    OnlyWords (fun r => r = .pc c ∨ r = .ctxCfg c ∨ CounterReg r) (s.armed c e) (s.starts c e) :=
  ((OnlyWords.wr _ (f := F.pc_PC c) _ (.inl rfl)).trans ((State.tally_onlyWords _ _ _ _).mono fun _ hr => .inr (.inr hr))).trans
    (OnlyWords.wr _ (f := F.ctxCfg_STATE c) _ (.inr (.inl rfl)))

theorem State.starts_pc (s : State) (c : Nat) (e : Event) :
    (s.starts c e).pcOf c = 4 * (s.handlerOf c e.entry).getD 0 % 2 ^ 32 := by
  have hhandler : (s.armed c e).handlerOf c e.entry = s.handlerOf c e.entry :=
    State.handlerOf_congr (s.armed_sandbox c e) ((s.armed_onlyWords c e).reg _ (by simp)) _
  rw [State.pcOf, State.starts, hhandler, State.rd_wr_other _ _ (by simp),
    (State.tally_onlyWords _ _ _ _).rd (F.pc_PC c) (by simp [CounterReg])]
  exact State.rd_wr _ _ _ (by simp) (by simp)

theorem State.starts_running (s : State) (c : Nat) (e : Event) : (s.starts c e).ctxState c = XS.running :=
  State.rd_wr _ _ _ (by simp) (by simp)

theorem State.starts_remaining (s : State) (c : Nat) (e : Event) :
    (s.starts c e).rd (F.csr_REMAINING c) = s.rd (F.csr_LIMIT c) :=
  ((s.starts_onlyWords c e).rd _ (by simp [CounterReg])).trans (s.armed_remaining c e)

theorem State.starts_window (s : State) (c : Nat) (e : Event) :
    (s.starts c e).get (.h c 8) = e.h8 ∧ (s.starts c e).get (.h c 9) = e.time := by
  have harmed (i : Nat) : (s.armed c e).get (.h c i) = (s.loadWindow c e).get (.h c i) := State.get_set_other _ _ (by simp)
  obtain ⟨h8, h9⟩ := s.loadWindow_h c e
  rw [(s.starts_onlyWords c e).reg _ (by simp [CounterReg]), (s.starts_onlyWords c e).reg _ (by simp [CounterReg]),
    harmed, harmed]
  exact ⟨h8, h9⟩

end Sys2Proof.Machine
end

section
/-! PROOFS. Steering and dispatch (06 R193 to R198). -/

namespace Sys2Proof.Machine

/-- Settles O42: an event that has room is queued, the head of the queue that can go is discarded or given to its context,
and a context that does not wait starts with the event's window, budget and handler. -/
theorem steeringAndDispatch : Obligations.SteeringAndDispatch := by
  unfold Obligations.SteeringAndDispatch
  refine fun g s => ⟨fun x hfind => ?_, fun hhalt => ?_,
    fun e hfind => ⟨State.steerOne_unservable hfind, fun c => State.steerOne_taken hfind⟩, fun c e hwait => ?_,
    fun m v hopens => ?_⟩
  · obtain ⟨hengine, hroom⟩ := State.room_of_find hfind
    refine ⟨?_, hengine, hroom, s.steerIn_queue g x, State.steerIn_steerq x hroom⟩
    simp only [exec_steeredEventArrival, execSteeredEventArrival, hfind, fin_next]
  · simp [exec_eventDispatch, execEventDispatch, hhalt, fin_next]
  · obtain ⟨u, x, hgives, hwords, hbox, h8, htime, hentry⟩ := State.giveEvent_starts e hwait
    have hhandler : u.handlerOf c e.entry = s.handlerOf c e.entry :=
      State.handlerOf_congr hbox (hwords.reg _ (by simp [CounterReg])) _
    obtain ⟨hx8, hx9⟩ := u.starts_window c x
    rw [hgives]
    refine ⟨?_, u.starts_running c x, ?_, hx8.trans h8, hx9.trans htime⟩
    · rw [State.starts_pc, hentry, hhandler]
    · rw [State.starts_remaining, hwords.rd _ (by simp [CounterReg])]
  · rw [exec_steeringWrite, execSteeringWrite, regWriteRow_opens hopens]

end Sys2Proof.Machine
end

section
/-! SUPPORT. The words that a raise, its events, its audit record and the halt that it may bring write (16 R515 to R521, 17
R551 to R558), and what they leave of contexts. -/

namespace Sys2Proof.Machine

/-- From `s` to `t` only words of `p` change, no byte of a memory, and of contexts at most the brushes in flight and the
packet that one hands over. -/
structure Touches (p : Reg → Prop) (s t : State) : Prop where
  words : OnlyWords p s t
  ctx : ∀ c, ∃ l x, t.ctx c = { s.ctx c with brushes := l, outPkt := x }

namespace Touches

variable {p : Reg → Prop} {s t u : State}

theorem refl (p : Reg → Prop) (s : State) : Touches p s s := ⟨OnlyWords.refl p s, fun _ => ⟨_, _, rfl⟩⟩

theorem trans (h : Touches p s t) (g : Touches p t u) : Touches p s u := by
  refine ⟨h.words.trans g.words, fun c => ?_⟩
  obtain ⟨l, x, hc⟩ := h.ctx c
  obtain ⟨k, y, gc⟩ := g.ctx c
  exact ⟨k, y, by rw [gc, hc]⟩

/-- A change of other parts of the state. -/
theorem parts (hregs : t.regs = s.regs := by rfl) (hmem : t.mem = s.mem := by rfl) (hpal : t.pal = s.pal := by rfl)
    (hctxs : t.ctxs = s.ctxs := by rfl) : Touches p s t :=
  ⟨OnlyWords.parts hregs hmem hpal, fun c => ⟨(s.ctx c).brushes, (s.ctx c).outPkt, by rw [State.ctx, hctxs]; rfl⟩⟩

theorem set (s : State) {r : Reg} (v : Word) (hr : p r := by trivial) : Touches p s (s.set r v) :=
  ⟨OnlyWords.set s v hr, fun _ => ⟨_, _, rfl⟩⟩

theorem wr (s : State) {f : Fld} (v : Nat) (hr : p f.reg := by trivial) : Touches p s (s.wr f v) := set s _ hr

theorem count (s : State) {f : Fld} (k : Nat := 1) (hr : p f.reg := by trivial) : Touches p s (s.count f k) := set s _ hr

theorem ite {c : Prop} [Decidable c] (ht : c → Touches p s t) (hu : ¬c → Touches p s u) :
    Touches p s (if c then t else u) := by
  split
  · exact ht ‹_›
  · exact hu ‹_›

theorem foldl {α : Type} {f : State → α → State} (hf : ∀ t x, Touches p t (f t x)) (l : List α) (s : State) :
    Touches p s (l.foldl f s) := by
  induction l generalizing s with
  | nil => exact refl p s
  | cons x l ih => exact (hf s x).trans (ih (f s x))

theorem mono {p' : Reg → Prop} (h : Touches p s t) (hp : ∀ r, p r → p' r) : Touches p' s t := ⟨h.words.mono hp, h.ctx⟩

theorem rd (h : Touches p s t) (f : Fld) (hf : ¬p f.reg) : t.rd f = s.rd f := h.words.rd f hf

end Touches

/-- The words of fault sources, domains and the fault pair, of the halt, of watermarks and attention, of queue contexts, of
links and ports, and of the audit log. -/
def FaultReg : Reg → Prop
  | .fltSrc _ | .fltDom _ _ | .fltPin | .fltHalt | .wm _ | .pieAttn | .hptAttn _ | .qctx _ _ | .rtePort _ | .lnkStat _
  | .prtStat _ | .audRec _ _ | .audPtr | .audSeq | .audWear | .audStat => True
  | _ => False

/-- From `s` to `t` only words of `FaultReg` change, and what `Touches` lets change of contexts. -/
abbrev Raised (s t : State) : Prop := Touches FaultReg s t

/-! ## Events (02 R45 to R59, 03 R93 to R101) -/

theorem State.wmEval_raised (s : State) (i depth : Nat) : Raised s (s.wmEval i depth) := by
  have hset (t : State) : Raised t ((t.wr (F.wm_FLAG i) 1).count (F.wm_SETS i)) :=
    (Touches.wr t (f := F.wm_FLAG i) 1).trans (Touches.count _)
  unfold State.wmEval
  refine (Touches.wr s (f := F.wm_DEPTH i) depth).trans ?_
  refine Touches.ite (fun _ => Touches.ite (fun _ => Touches.refl _ _) fun _ => ?_) fun _ =>
    Touches.ite (fun _ => Touches.wr _ (f := F.wm_FLAG i) _) fun _ => Touches.refl _ _
  exact Touches.ite (fun _ => (hset _).trans (Touches.wr _ (f := F.pieAttn_EVTFLAG) _)) fun _ => hset _

theorem State.evPush_raised (s : State) (k : Nat) (e : Quad) : Raised s (s.evPush k e) :=
  (Touches.parts : Raised s (s.setEv k _)).trans (State.wmEval_raised _ _ _)

theorem State.evLost_raised (s : State) (k : Nat) : Raised s (s.evLost k) :=
  (Touches.parts : Raised s (s.setEv k _)).trans (Touches.ite (fun _ => Touches.count _) fun _ => Touches.refl _ _)

theorem State.evOverflow_raised (s : State) (k : Nat) : Raised s (s.evOverflow k) :=
  Touches.ite (fun _ => Touches.refl _ s) fun _ => (s.evPush_raised k _).trans Touches.parts

theorem State.evPost_raised (s : State) (k cls master detail arg : Nat) (low : Bool) :
    Raised s (s.evPost k cls master detail arg low) := by
  rcases s.evPost_cases k cls master detail arg low with h | ⟨-, h⟩ | ⟨-, e, h⟩ <;> rw [h]
  · exact s.evLost_raised k
  · exact (s.evOverflow_raised k).trans (State.evLost_raised _ k)
  · exact (s.evOverflow_raised k).trans (State.evPush_raised _ k e)

theorem State.dma_raised (s : State) (o : Output) : Raised s (s.dma o) :=
  Touches.ite (fun _ => Touches.refl _ s) fun _ => Touches.parts

theorem State.msix_raised (s : State) (func vector : Nat) : Raised s (s.msix func vector) :=
  Touches.ite
    (fun _ => (((Touches.wr s (f := F.hptAttn_PEND _) _).trans (Touches.wr _ (f := F.hptAttn_VECTOR _) _)).trans
      (Touches.wr _ (f := F.hptAttn_FUNC _) _)).trans (Touches.count _ (f := F.hptAttn_COUNT _)))
    fun _ => Touches.ite (fun _ => Touches.ite (fun _ => Touches.refl _ s) fun _ => Touches.parts) fun _ => s.dma_raised _

theorem State.ringPut_raised (s : State) (q : Nat) (e : Quad) : Raised s (s.ringPut q e) := by
  have hadvance (t : State) : Raised t (t.advancePi q) :=
    (Touches.ite (fun _ => Touches.wr t (f := F.qctx_HEADSINCE q) _) fun _ => Touches.refl _ t).trans
      (Touches.wr _ (f := F.qctx_PI q) _)
  exact Touches.ite (fun _ => Touches.refl _ s) fun _ =>
    (Touches.ite (fun _ => (s.dma_raised _).trans (State.dma_raised _ _)) fun _ => s.dma_raised _).trans (hadvance _)

theorem State.postEvent_raised (s : State) (q code queue : Nat) (arg : Word) : Raised s (s.postEvent q code queue arg) :=
  Touches.ite (fun _ => Touches.refl _ s) fun _ =>
    Touches.ite
      (fun _ => Touches.ite (fun _ => Touches.count s (f := F.qctx_EVLOST q)) fun _ =>
        (s.ringPut_raised q _).trans (Touches.ite (fun _ => State.msix_raised _ _ _) fun _ => Touches.refl _ _))
      fun _ => Touches.refl _ s

/-! ## The record of a raise (16 R515, R516) -/

theorem State.domCapture_raised (s : State) (d n : Nat) (a : RaiseArg) : Raised s (s.domCapture d n a) :=
  (((Touches.set s _).trans (Touches.set _ _)).trans (Touches.set _ _)).trans (Touches.set _ _)

theorem State.pairHold_raised (s : State) (sev : Nat) : Raised s (s.pairHold sev) :=
  (Touches.ite (fun _ => Touches.wr s (f := F.fltPin_ASSERTED) _) fun _ => Touches.refl _ s).trans <|
    Touches.ite (fun _ => (Touches.wr _ (f := F.fltPin_ASSERTED) _).trans (Touches.wr _ (f := F.fltPin_TERMHOLD) _))
      fun _ => Touches.refl _ _

theorem State.raiseRec_raised (s : State) (n : Nat) (a : RaiseArg) : Raised s (s.raiseRec n a) := by
  unfold State.raiseRec
  split
  · exact Touches.refl _ s
  · have hcount : Raised s (((s.count (F.fltSrc_COUNT n)).wr (F.fltSrc_LATCHED n) 1).fltStatus n) :=
      ((Touches.count s).trans (Touches.wr _ (f := F.fltSrc_LATCHED n) _)).trans (Touches.wr _ (f := F.fltSrc_STATUS n) _)
    refine Touches.trans ?_ (State.pairHold_raised _ _)
    refine Touches.trans ?_ (Touches.ite (fun _ => State.postEvent_raised _ _ _ _ _) fun _ => Touches.refl _ _)
    refine Touches.trans ?_ (Touches.ite (fun _ => State.evPost_raised _ _ _ _ _ _ _) fun _ => Touches.refl _ _)
    refine hcount.trans (Touches.ite (fun _ => ?_) fun _ => ?_)
    · refine Touches.trans ?_ (Touches.ite (fun _ => State.evPost_raised _ _ _ _ _ _ _) fun _ => Touches.refl _ _)
      refine Touches.trans ?_ (Touches.count _)
      exact Touches.ite (fun _ => (State.domCapture_raised _ _ _ _).trans (Touches.wr _ _)) fun _ => Touches.refl _ _
    · refine Touches.trans ?_ (State.evPost_raised _ _ _ _ _ _ _)
      exact ((State.domCapture_raised _ _ _ a).trans (Touches.wr _ (f := F.pieAttn_FLTREC) 1)).trans Touches.parts

/-! ## The audit store (17 R551 to R558) -/

theorem State.audPut_raised (s : State) (w0 w1 old new : Word) : Raised s (s.audPut w0 w1 old new) := by
  refine Touches.trans ?_ (Touches.ite (fun _ => Touches.count _ (f := F.audWear_PASSES)) fun _ => Touches.refl _ _)
  refine Touches.trans ?_ (Touches.wr _ (f := F.audSeq_SEQ) _)
  refine Touches.trans ?_ (Touches.wr _ (f := F.audPtr_WPTR) _)
  exact ((((Touches.parts : Raised s { s with audit := _ }).trans (Touches.set _ _)).trans (Touches.set _ _)).trans
    (Touches.set _ _)).trans (Touches.set _ _)

theorem State.audCommit_raised (s : State) (r : AudRec) : Raised s (s.audCommit r) := s.audPut_raised _ _ _ _

theorem State.audPayGap_raised (s : State) : Raised s s.audPayGap := by
  unfold State.audPayGap
  split
  · exact Touches.ite (fun _ => (s.audCommit_raised _).trans Touches.parts) fun _ => Touches.refl _ s
  · exact Touches.refl _ s

theorem State.audFree_raised (need n : Nat) (s : State) : Raised s (State.audFree need n s) := by
  have hpass (t : State) : Raised t (t.audPass 256) :=
    (Touches.wr t (f := F.audPtr_EXPMARK) _).trans (Touches.foldl (fun t c => t.audPut_raised _ _ _ _) _ _)
  induction n generalizing s with
  | zero => exact Touches.refl _ s
  | succ n ih =>
    exact ((hpass s).trans (Touches.count _ (f := F.audStat_LOST) 256)).trans
      (Touches.ite (fun _ => Touches.refl _ _) fun _ => ih _)

theorem State.audMakeRoom_raised (s : State) (r : AudRec) : Raised s (s.audMakeRoom r) :=
  (((State.audFree_raised _ _ s).trans (State.audPayGap_raised _)).trans (State.audCommit_raised _ _)).trans
    (State.audCommit_raised _ r)

/-! ## The halt (16 R520) -/

theorem KMap.at_each {α : Type} (m : KMap α) {f : Nat → α → α} (i : Nat) {d : α} (h : f i d = d) :
    (m.each f).at i d = f i (m.at i d) := by
  have hfind : KMap.find (m.each f) i = (KMap.find m i).map (f i) := by
    induction m with
    | nil => rfl
    | cons x m ih =>
      rw [KMap.each, List.map_cons, KMap.find, KMap.find]
      split
      · next hi => rw [hi]; rfl
      · exact ih
  rw [KMap.at, KMap.at, hfind]
  cases KMap.find m i with
  | none => exact h.symm
  | some x => rfl

theorem State.setLstate_raised (s : State) (n v : Nat) : Raised s (s.setLstate n v) :=
  Touches.ite (fun _ => Touches.refl _ s) fun _ =>
    (Touches.wr s (f := F.lnkStat_LSTATE n) _).trans (State.evPost_raised _ _ _ _ _ _ _)

theorem State.setPstate_raised (s : State) (n v : Nat) : Raised s (s.setPstate n v) :=
  Touches.ite (fun _ => Touches.refl _ s) fun _ =>
    (Touches.wr s (f := F.prtStat_PSTATE n) _).trans (State.evPost_raised _ _ _ _ _ _ _)

/-- A context of a halted device has no brush in flight and hands no packet over (16 R520). -/
def Ctx.halted (x : Ctx) : Ctx := { x with brushes := [], outPkt := none }

theorem State.haltCore_raised (s : State) (n sev : Nat) : Raised s (s.haltCore n sev) := by
  have hports (t : State) (n : Nat) : Raised t
      (let t := if t.on (F.rtePort_UP n) then (t.wr (F.rtePort_UP n) 0).setLstate n 0 else t
       let t := (t.wr (F.lnkStat_RBUSE n) 0).wr (F.lnkStat_RMARK n) (t.rd (F.lnkStat_NEXT n))
       if t.on (F.prtStat_PSTATE n) then t.setPstate n 1 else t) :=
    ((Touches.ite (fun _ => (Touches.wr t (f := F.rtePort_UP n) _).trans (State.setLstate_raised _ _ _)) fun _ =>
      Touches.refl _ t).trans
        ((Touches.wr _ (f := F.lnkStat_RBUSE n) _).trans (Touches.wr _ (f := F.lnkStat_RMARK n) _))).trans
      (Touches.ite (fun _ => State.setPstate_raised _ _ _) fun _ => Touches.refl _ _)
  have hctxs (t : State) : Raised t { t with ctxs := t.ctxs.each fun _ => Ctx.halted } :=
    ⟨OnlyWords.parts, fun c => ⟨[], none, KMap.at_each t.ctxs (f := fun _ => Ctx.halted) c rfl⟩⟩
  have hhalt : Raised s ((s.wr F.fltHalt_HALTED 1).wr F.fltHalt_SOURCE n) := (Touches.wr s _).trans (Touches.wr _ _)
  have hterm := hhalt.trans
    (Touches.ite (c := sev = 4) (fun _ => Touches.wr _ (f := F.fltHalt_TERM) 1) fun _ => Touches.refl _ _)
  have hdown := hterm.trans (Touches.foldl hports (List.range 128) _)
  have hpins (t : State) : Raised t t.pinSync := Touches.foldl (fun _ _ => Touches.parts) _ t
  exact ((hdown.trans (hctxs _)).trans Touches.parts).trans (hpins _)

theorem State.gapRaise_raised (s : State) : Raised s s.gapRaise := by
  refine (s.raiseRec_raised Src.AUD_GAP {}).trans (Touches.ite (fun _ => ?_) fun _ => Touches.refl _ _)
  refine (State.haltCore_raised _ _ _).trans (Touches.ite (fun _ => State.audCommit_raised _ _) fun _ => ?_)
  exact (State.audMakeRoom_raised _ _).trans (State.raiseRec_raised _ _ _)

theorem State.audAppend_raised (s : State) (r : AudRec) : Raised s (s.audAppend r) := by
  refine s.audPayGap_raised.trans (Touches.ite (fun _ => State.audCommit_raised _ r) fun _ =>
    Touches.ite (fun _ => (State.audMakeRoom_raised _ r).trans (State.gapRaise_raised _)) fun _ => ?_)
  exact ((Touches.count _ (f := F.audStat_MISSED)).trans (Touches.wr _ (f := F.audSeq_SEQ) _)).trans Touches.parts

/-- A raise, whatever its severity, writes words of `FaultReg` alone. -/
theorem State.raise_raised (s : State) (n : Nat) (a : RaiseArg) : Raised s (s.raise n a) := by
  have howed : Raised s (s.raiseOwed n a) :=
    (s.raiseRec_raised n a).trans (Touches.ite (fun _ => Touches.parts) fun _ => Touches.refl _ _)
  rw [State.raise_eq]
  exact howed.trans
    (Touches.ite (fun _ => (State.haltCore_raised _ _ _).trans (State.audAppend_raised _ _)) fun _ => Touches.refl _ _)

/-- So does a record that is asked for, committed or refused. -/
theorem State.audAsk_raised (s : State) (r : AudRec) : Raised s (s.audAsk r).1 := by
  unfold State.audAsk
  dsimp only
  split_ifs
  · exact Touches.refl _ s
  · exact s.audAppend_raised r
  · exact s.audPayGap_raised.trans (State.audCommit_raised _ r)
  · have hcount := s.audPayGap_raised.trans (Touches.count _ (f := F.audStat_REFUSED))
    exact (hcount.trans (State.raise_raised _ _ _)).trans Touches.parts

/-- A change of configuration ends in a state that the log alone has touched, with the new word when it is accepted. -/
theorem State.cfgPut_raised (s : State) (m : Mst) (kind addr : Nat) (r : Reg) (new : Word) (force : Bool) :
    ∃ t, Raised s t ∧ (s.cfgPut m kind addr r new force = (t.set r new, true)
      ∨ s.cfgPut m kind addr r new force = (t, false)) := by
  have hask := s.audAsk_raised
    { kind := kind, priv := s.priv m, master := m.toNat, addr := addr, old := s.get r, new := new }
  unfold State.cfgPut State.askRec
  dsimp only
  split
  · exact ⟨s, Touches.refl _ s, .inl rfl⟩
  · split
    · next t ht => exact ⟨t, by rw [ht] at hask; exact hask, .inl rfl⟩
    · next t ht => exact ⟨t, by rw [ht] at hask; exact hask, .inr rfl⟩

end Sys2Proof.Machine
end

section
/-! SUPPORT. The configuration of a context (06 R187 to R190, R205): the branches of its write, and a context reset (05 R140). -/

namespace Sys2Proof.Machine

/-! ## The values written -/

/-- A write that sets EN, without RST. -/
def enOn (v : Word) : Word := setBits (setBits v 63 63 1) 62 62 0

/-- A write that clears EN, without RST. -/
def enOff (v : Word) : Word := setBits (setBits v 63 63 0) 62 62 0

theorem enOn_bits (v : Word) : bits (enOn v) 63 63 = 1 ∧ bits (enOn v) 62 62 = 0 :=
  ⟨(bits_setBits_apart _ _ (by decide) (by decide) (by decide)).trans (bits_setBits v 63 63 1 (by decide) (by decide)),
    bits_setBits _ 62 62 0 (by decide) (by decide)⟩

theorem enOff_bits (v : Word) : bits (enOff v) 63 63 = 0 ∧ bits (enOff v) 62 62 = 0 :=
  ⟨(bits_setBits_apart _ _ (by decide) (by decide) (by decide)).trans (bits_setBits v 63 63 0 (by decide) (by decide)),
    bits_setBits _ 62 62 0 (by decide) (by decide)⟩

/-! ## The write of ENG_CTX_CFG (06 R188, R205) -/

/-- What a write leaves in the fields other than EN and RST: all as they were while EN is 1 or the context is not IDLE. -/
def State.ctxCfgBase (s : State) (c : Nat) (v : Word) : Word :=
  if s.on (F.ctxCfg_EN c) || s.ctxState c != XS.idle then s.get (.ctxCfg c)
  else accWrite (.ctxCfg c) false (s.get (.ctxCfg c)) v

theorem State.ctxCfgBase_free {s : State} {c : Nat} (hoff : s.on (F.ctxCfg_EN c) = false) (hidle : s.ctxState c = XS.idle)
    (v : Word) : s.ctxCfgBase c v = accWrite (.ctxCfg c) false (s.get (.ctxCfg c)) v := by
  simp [State.ctxCfgBase, hoff, hidle]

theorem State.ctxCfgBase_bound {s : State} {c : Nat} (h : s.on (F.ctxCfg_EN c) = true ∨ s.ctxState c ≠ XS.idle) (v : Word) :
    s.ctxCfgBase c v = s.get (.ctxCfg c) := by
  rcases h with h | h <;> simp [State.ctxCfgBase, h]

section

variable {s : State} {m : Mst} {c : Nat} {v : Word} (hright : ctxEng c ≠ 16 ∨ s.atF m = true)
include hright

/-- A master of the right acts on the word, but with RST under a wider reset. -/
theorem State.ctxCfg_opens (h : bits v 62 62 = 0 ∨ s.absorbed (ctxIsl c) = false) :
    ¬((ctxEng c = 16 ∧ s.atF m = false) ∨ (bits v 62 62 = 1 ∧ s.absorbed (ctxIsl c) = true)) := by
  rcases hright with hright | hright <;> rcases h with h | h <;> simp [hright, h]

/-- A refused write of EN is counted, and leaves EN 0. -/
theorem State.ctxCfgPut_of_refused (hen : bits v 63 63 = 1) (hrst : bits v 62 62 = 0)
    (hoff : s.on (F.ctxCfg_EN c) = false) (hrefused : s.enRefused c (s.ctxCfgBase c v) = true) :
    s.ctxCfgPut m c v
      = ((s.count (F.engStat_REFUSED (ctxEng c))).cfgPut m RK.reg (ctxCfgAddr c) (.ctxCfg c)
          (setBits (s.ctxCfgBase c v) 63 63 0)).1 := by
  rw [State.ctxCfgPut, if_neg (State.ctxCfg_opens hright (.inl hrst))]
  dsimp only
  rw [← State.ctxCfgBase]
  rcases hput : (s.count (F.engStat_REFUSED (ctxEng c))).cfgPut m RK.reg (ctxCfgAddr c) (.ctxCfg c)
    (setBits (s.ctxCfgBase c v) 63 63 0) with ⟨u, _ | _⟩ <;> simp [hrst, hen, hoff, hrefused, hput]

/-- An accepted write of EN. -/
theorem State.ctxCfgPut_of_accepted (hen : bits v 63 63 = 1) (hrst : bits v 62 62 = 0)
    (hoff : s.on (F.ctxCfg_EN c) = false) (haccepted : s.enRefused c (s.ctxCfgBase c v) = false) {u : State}
    (hu : s.cfgPut m RK.reg (ctxCfgAddr c) (.ctxCfg c) (setBits (s.ctxCfgBase c v) 63 63 1) = (u, true)) :
    s.ctxCfgPut m c v = u.enSets c := by
  rw [State.ctxCfgPut, if_neg (State.ctxCfg_opens hright (.inl hrst))]
  dsimp only
  rw [← State.ctxCfgBase]
  simp [hrst, hen, hoff, haccepted, hu]

/-- A write that clears EN. -/
theorem State.ctxCfgPut_of_clears (hen : bits v 63 63 = 0) (hrst : bits v 62 62 = 0) :
    s.ctxCfgPut m c v
      = (s.cfgPut m RK.reg (ctxCfgAddr c) (.ctxCfg c) (setBits (s.ctxCfgBase c v) 63 63 0)).1 := by
  rw [State.ctxCfgPut, if_neg (State.ctxCfg_opens hright (.inl hrst))]
  dsimp only
  rw [← State.ctxCfgBase]
  rcases hput : s.cfgPut m RK.reg (ctxCfgAddr c) (.ctxCfg c) (setBits (s.ctxCfgBase c v) 63 63 0) with ⟨u, _ | _⟩ <;>
    simp [hrst, hen, hput]

/-- A write of RST, with EN as it is until the reset. -/
theorem State.ctxCfgPut_of_rst (hrst : bits v 62 62 = 1) (habs : s.absorbed (ctxIsl c) = false) {u : State}
    (hu : s.cfgPut m RK.reg (ctxCfgAddr c) (.ctxCfg c)
      (setBits (s.ctxCfgBase c v) 63 63 (bits (s.get (.ctxCfg c)) 63 63)) = (u, true)) :
    s.ctxCfgPut m c v = u.ctxReset c := by
  rw [State.ctxCfgPut, if_neg (State.ctxCfg_opens hright (.inr habs))]
  dsimp only
  rw [← State.ctxCfgBase]
  simp [hrst, hu]

end

/-- A refused write leaves EN 0 and is counted in REFUSED, whatever the audit log does. -/
theorem State.refused_fields (s : State) (m : Mst) (c : Nat) (w : Word) (hoff : s.on (F.ctxCfg_EN c) = false) :
    let t := ((s.count (F.engStat_REFUSED (ctxEng c))).cfgPut m RK.reg (ctxCfgAddr c) (.ctxCfg c) (setBits w 63 63 0)).1
    t.on (F.ctxCfg_EN c) = false
      ∧ t.rd (F.engStat_REFUSED (ctxEng c)) = satAdd 16 (s.rd (F.engStat_REFUSED (ctxEng c))) 1 := by
  have hcounted : (s.count (F.engStat_REFUSED (ctxEng c))).rd (F.engStat_REFUSED (ctxEng c))
      = satAdd 16 (s.rd (F.engStat_REFUSED (ctxEng c))) 1 := State.count_rd _ _ (by simp) (by simp)
  have hstays : (s.count (F.engStat_REFUSED (ctxEng c))).rd (F.ctxCfg_EN c) = s.rd (F.ctxCfg_EN c) :=
    State.rd_wr_other _ _ (by simp)
  obtain ⟨t, ht, hput | hput⟩ := (s.count (F.engStat_REFUSED (ctxEng c))).cfgPut_raised m RK.reg (ctxCfgAddr c)
    (.ctxCfg c) (setBits w 63 63 0) false
  all_goals
    have hrefused := ht.rd (F.engStat_REFUSED (ctxEng c)) (by simp [FaultReg])
    have hen := ht.rd (F.ctxCfg_EN c) (by simp [FaultReg])
    rw [hput]
  · refine ⟨?_, ?_⟩
    · rw [State.on, State.rd, State.get_set_same, bits_setBits _ _ _ _ (by decide) (by decide)]
      rfl
    · rw [State.rd, State.get_set_other _ _ (by simp), ← State.rd, hrefused, hcounted]
  · exact ⟨by rw [State.on, hen, hstays]; exact hoff, hrefused.trans hcounted⟩

/-- A write that clears EN leaves the other fields of a word that is put back as it was. -/
theorem State.cleared_rest (s : State) (m : Mst) (c : Nat) :
    bits ((s.cfgPut m RK.reg (ctxCfgAddr c) (.ctxCfg c) (setBits (s.get (.ctxCfg c)) 63 63 0)).1.get (.ctxCfg c)) 62 0
      = bits (s.get (.ctxCfg c)) 62 0 := by
  obtain ⟨t, ht, hput | hput⟩ :=
    s.cfgPut_raised m RK.reg (ctxCfgAddr c) (.ctxCfg c) (setBits (s.get (.ctxCfg c)) 63 63 0) false
  · rw [hput, State.get_set_same, bits_setBits_apart _ _ (by decide) (by decide) (by decide)]
  · rw [hput, ht.words.reg _ (by simp [FaultReg])]

/-- When EN sets, the event mask takes MASK (06 R189). -/
theorem State.enSets_mask (s : State) (c : Nat) : (s.enSets c).rd (F.csr_MASK c) = s.rd (F.ctxCfg_MASK c) := by
  rw [State.enSets, State.rd_wr_other _ _ (by simp), State.rd_wr _ _ _ (by simp) (by simp)]
  exact Nat.mod_eq_of_lt (bits_lt _ _ _)

/-! ## A context reset (05 R140, 06 R190) -/

/-- The words of semaphores and their counts. -/
def SemReg : Reg → Prop
  | .sem _ | .semStat => True
  | _ => False

theorem State.semAbandon_touches (s : State) (p : Mst → Bool) : Touches SemReg s (s.semAbandon p) := by
  have hfree (t : State) (n : Nat) :
      Touches SemReg t (((t.semFree n).wr (F.sem_ABANDONED n) 1).count F.semStat_ABANDONS) :=
    (((Touches.wr t (f := F.sem_HELD n) 0).trans (Touches.wr _ (f := F.sem_OWNER n) 0)).trans
      (Touches.wr _ (f := F.sem_ABANDONED n) 1)).trans (Touches.count _)
  have hclaims (t : State) (n : Nat) (l : List Claim) : Touches SemReg t (t.setClaims n l) :=
    Touches.trans (t := { t with guard := { t.guard with claims := _ } }) Touches.parts (Touches.wr _ _)
  refine Touches.trans (t := { s with guard := { s.guard with fences := _ } }) Touches.parts
    ((Touches.foldl (fun t n => ?_) (List.range 4096) _).trans (Touches.foldl (fun t c => ?_) _ _))
  · exact Touches.ite (fun _ => hfree t n) fun _ => Touches.refl _ t
  · exact Touches.ite (fun _ => hclaims t _ _) fun _ => Touches.refl _ t

theorem State.wardenLost_raised (s : State) (c : Nat) : Raised s (s.wardenLost c) :=
  Touches.ite (fun _ => s.raise_raised _ _) fun _ => Touches.refl _ s

theorem regFind_filter_of_dropped {l : List (Reg × Word)} {p : Reg → Bool} {r : Reg} (h : p r = true) :
    regFind (l.filter fun c => !p c.1) r = none := by
  induction l with
  | nil => rfl
  | cons x l ih =>
    obtain ⟨k, v⟩ := x
    by_cases hp : p k = true
    · simpa [hp] using ih
    · have hk : k ≠ r := fun hk => hp (hk ▸ h)
      simpa [hp, regFind, hk] using ih

theorem State.resetRegs_get_reset (s : State) {p : Reg → Bool} {r : Reg} (h : p r = true) :
    (s.resetRegs p).get r = r.reset :=
  congrArg (fun o => o.getD r.reset) (regFind_filter_of_dropped h)

/-- The words of a context's registers. -/
def Reg.ofCtx (c : Nat) (r : Reg) : Bool :=
  match r with
  | .g k _ => k == c
  | .h k _ => k == c
  | .pc k => k == c
  | .csr k _ => k == c
  | _ => false

/-- The registers of a context at their reset values, its record empty but for the brushes in flight, EN 0 and STATE IDLE. -/
def State.ctxCleared (s : State) (c : Nat) : State :=
  (((s.resetRegs (Reg.ofCtx c)).setCtx c fun x =>
    { tags := x.tags, brushes := x.brushes.map fun b => { b with quiet := true } }).wr (F.ctxCfg_EN c) 0).wr
    (F.ctxCfg_STATE c) XS.idle

theorem State.ctxReset_eq (s : State) (c : Nat) :
    ∃ p q, s.ctxReset c = ((((s.packetEnd c).ctxCleared c).semAbandon p).cohCancel q).wardenLost c := ⟨_, _, rfl⟩

/-- Once the context is cleared, a reset gives up its semaphores and its requests, and the loss of the warden is raised. -/
theorem State.ctxReset_touches (s : State) (c : Nat) :
    Touches (fun r => SemReg r ∨ FaultReg r) ((s.packetEnd c).ctxCleared c) (s.ctxReset c) := by
  obtain ⟨p, q, hreset⟩ := s.ctxReset_eq c
  have hcancel (t : State) : Touches (fun r => SemReg r ∨ FaultReg r) t (t.cohCancel q) := Touches.parts
  rw [hreset]
  exact (((State.semAbandon_touches _ p).mono fun _ => .inl).trans (hcancel _)).trans
    ((State.wardenLost_raised _ c).mono fun _ => .inr)

theorem State.ctxCleared_word (s : State) {c : Nat} {r : Reg} (hr : r.ofCtx c = true) :
    (s.ctxCleared c).get r = r.reset := by
  have hne : r ≠ .ctxCfg c := by
    rintro rfl
    cases hr
  rw [State.ctxCleared, State.wr, State.get_set_other _ _ hne, State.wr, State.get_set_other _ _ hne, State.setCtx_get,
    State.resetRegs_get_reset _ hr]

theorem State.ctxCleared_cfg (s : State) (c : Nat) :
    (s.ctxCleared c).rd (F.ctxCfg_EN c) = 0 ∧ (s.ctxCleared c).rd (F.ctxCfg_STATE c) = 0 := by
  refine ⟨?_, State.rd_wr _ _ _ (by simp) (by simp)⟩
  rw [State.ctxCleared, State.rd_wr_apart _ _ (by simp) (by simp) (by simp [Fld.Apart])]
  exact State.rd_wr _ _ _ (by simp) (by simp)

theorem State.ctxCleared_events (s : State) (c : Nat) :
    ((s.ctxCleared c).ctx c).targeted = [] ∧ ((s.ctxCleared c).ctx c).timers = [] := by
  have hctx := (s.resetRegs (Reg.ofCtx c)).setCtx_ctx_same c fun x =>
    { tags := x.tags, brushes := x.brushes.map fun b => { b with quiet := true } }
  exact ⟨congrArg Ctx.targeted hctx, congrArg Ctx.timers hctx⟩

/-- The words of a context and of its configuration are no words of semaphores or of faults. -/
theorem State.ctxReset_get (s : State) (c : Nat) {r : Reg} (hr : ¬(SemReg r ∨ FaultReg r)) :
    (s.ctxReset c).get r = ((s.packetEnd c).ctxCleared c).get r := (s.ctxReset_touches c).words.reg r hr

end Sys2Proof.Machine
end

section
/-! PROOFS. The configuration of a context (06 R187 to R190, R205, 18 R563). -/

namespace Sys2Proof.Machine

/-- After a context reset every register is zero, EN 0 and STATE IDLE, and no event or timer is pending. -/
theorem State.ctxReset_clears (s : State) (c : CtxNum) (d : GReg) :
    (s.ctxReset c).gv c d = 0 ∧ (s.ctxReset c).pcOf c = 0 ∧ (s.ctxReset c).on (F.ctxCfg_EN c) = false
      ∧ (s.ctxReset c).ctxState c = XS.idle ∧ ((s.ctxReset c).ctx c).targeted = [] ∧ ((s.ctxReset c).ctx c).timers = [] := by
  have hword (r : Reg) (hr : ¬(SemReg r ∨ FaultReg r)) (hctx : r.ofCtx c = true) : (s.ctxReset c).get r = r.reset := by
    rw [s.ctxReset_get c hr, State.ctxCleared_word _ hctx]
  have hcfg (f : Fld) (hf : f.reg = .ctxCfg c) : (s.ctxReset c).rd f = ((s.packetEnd c).ctxCleared c).rd f :=
    (s.ctxReset_touches c).rd f (by simp [hf, SemReg, FaultReg])
  obtain ⟨hen, hstate⟩ := (s.packetEnd c).ctxCleared_cfg c
  obtain ⟨htargeted, htimers⟩ := (s.packetEnd c).ctxCleared_events c
  obtain ⟨l, x, hrecord⟩ := (s.ctxReset_touches c).ctx c
  refine ⟨?_, ?_, ?_, (hcfg _ rfl).trans hstate, by rw [hrecord]; exact htargeted, by rw [hrecord]; exact htimers⟩
  · rw [State.gv, State.getG, hword _ (by simp [SemReg, FaultReg]) (by simp [Reg.ofCtx])]
    exact ite_self _
  · rw [State.pcOf, State.rd, hword _ (by simp [SemReg, FaultReg]) (by simp [Reg.ofCtx])]
    exact State.rd_reset_eq_zero (F.pc_PC c) rfl
  · rw [State.on, hcfg _ rfl, hen]
    rfl

/-- Settles O40: the right of the writer, EN and STATE before the write, and EN and RST of the value decide between the
branches; a reset clears the context before anything that it gives up or raises. -/
theorem contextConfiguration : Obligations.ContextConfiguration := by
  unfold Obligations.ContextConfiguration
  intro m c v s
  refine ⟨fun hopens => regWriteRow_opens hopens _ _, fun hopens => regWriteRow_opens hopens _ _,
    fun hopens => regWriteRow_opens hopens _ _, fun hopens => regWriteRow_opens hopens _ _,
    fun hwarden hlow => if_pos (.inl ⟨hwarden, hlow⟩),
    fun hright => ⟨fun hoff hidle => ⟨fun hrefused => ?_, fun haccepted u hu => ⟨?_, u.enSets_mask c⟩⟩, fun hbound => ?_,
      fun hrst habs => if_pos (.inr ⟨hrst, habs⟩), fun hrst habs u hu => ?_⟩, s.ctxReset_clears c⟩
  · rw [← State.ctxCfgBase_free hoff hidle] at hrefused
    have hput := State.ctxCfgPut_of_refused (m := m) (v := enOn v) hright (enOn_bits v).1 (enOn_bits v).2 hoff hrefused
    rw [← enOn, hput]
    exact s.refused_fields m c _ hoff
  · rw [← State.ctxCfgBase_free hoff hidle] at haccepted hu
    exact State.ctxCfgPut_of_accepted (v := enOn v) hright (enOn_bits v).1 (enOn_bits v).2 hoff haccepted hu
  · rw [← enOff, State.ctxCfgPut_of_clears hright (enOff_bits v).1 (enOff_bits v).2, State.ctxCfgBase_bound hbound]
    exact s.cleared_rest m c
  · exact State.ctxCfgPut_of_rst hright hrst habs hu

end Sys2Proof.Machine
end

section
/-! SUPPORT. Work entries of connections (07 R220 to R223): where an entry may act, each of its commands said once for each
end that it can take. -/

namespace Sys2Proof.Machine

theorem exec_put (q : QNum) (id : Nat) (src : Fetched) (s : State) : exec (.put q id src) s = execPut q id src s := rfl

theorem exec_get (q : QNum) (id : Nat) (s : State) : exec (.get q id) s = execGet q id s := rfl

theorem exec_atomic (q : QNum) (id : Nat) (s : State) : exec (.atomic q id) s = execAtomic q id s := rfl

theorem exec_flush (q : QNum) (id : Nat) (s : State) : exec (.flush q id) s = execFlush q id s := rfl

theorem exec_keyNext (q : QNum) (id : Nat) (src : Fetched) (s : State) :
    exec (.keyNext q id src) s = s.keyEntry q id 1 src := rfl

theorem exec_keyCur (q : QNum) (id : Nat) (src : Fetched) (s : State) :
    exec (.keyCur q id src) s = s.keyEntry q id 0 src := rfl

/-- The operations of connections share their front. -/
theorem exec_connEntry {q : QNum} {id : Nat} {src : Fetched} {x : Nat × Instr}
    (hx : x ∈ [(1, Instr.put q id src), (2, .get q id), (3, .atomic q id), (4, .flush q id)]) (s : State) :
    ∃ f, exec x.2 s = s.connEntry q id x.1 f := by
  simp only [List.mem_cons, List.not_mem_nil, or_false] at hx
  rcases hx with rfl | rfl | rfl | rfl
  · exact ⟨_, exec_put q id src s⟩
  · exact ⟨_, exec_get q id s⟩
  · exact ⟨_, exec_atomic q id s⟩
  · exact ⟨_, exec_flush q id s⟩

/-! ## The pieces of a range (07 R221) -/

/-- The first `k` pieces of a range are its first `k * P` bytes. -/
theorem flatMap_range_pieces (P : Nat) (bs : List Byte) (k : Nat) :
    ((List.range k).flatMap fun i => (bs.drop (i * P)).take P) = bs.take (k * P) := by
  induction k with
  | zero => simp
  | succ k ih => rw [List.range_succ, List.flatMap_append, ih, List.flatMap_singleton, ← List.take_add, Nat.succ_mul]

theorem length_le_pieces {P : Nat} (hP : 0 < P) (len : Nat) : len ≤ max 1 ((len + P - 1) / P) * P := by
  have hceil : len + P - 1 < P * ((len + P - 1) / P) + P := Nat.lt_mul_div_succ _ hP
  calc len ≤ (len + P - 1) / P * P := by rw [Nat.mul_comm]; omega
    _ ≤ max 1 ((len + P - 1) / P) * P := Nat.mul_le_mul_right _ (Nat.le_max_right _ _)

/-- The pieces together are the range. -/
theorem flatMap_pieces {P : Nat} (hP : 0 < P) (bs : List Byte) : ((pieces P bs).flatMap fun x => x.2) = bs := by
  rw [pieces, List.flatMap_map, flatMap_range_pieces, List.take_of_length_le (length_le_pieces hP _)]

theorem eq_of_mem_pieces {P : Nat} {bs : List Byte} {x : Nat × List Byte} (hx : x ∈ pieces P bs) :
    x.2 = (bs.drop x.1).take P := by
  obtain ⟨k, -, rfl⟩ := List.mem_map.mp hx
  rfl

theorem wholePieces_of_short {P : Nat} {bs : List Byte} (h : bs.length < P) : wholePieces P bs = [] := by
  simp [wholePieces, Nat.div_eq_of_lt h]

theorem wholePieces_ne_nil {P : Nat} {bs : List Byte} (hP : 0 < P) (h : P ≤ bs.length) : wholePieces P bs ≠ [] := by
  have hsome : bs.length / P ≠ 0 := (Nat.div_pos h hP).ne'
  simpa [wholePieces] using hsome

/-! ## Parts that the entries share -/

theorem State.cutShort_of_none (s : State) (q : Nat) (t : Taken) (n status : Nat) :
    s.cutShort q t n status [] = .next (s.finishEntry q t.id { status := status }).ended := if_pos rfl

theorem State.cutShort_of_some {ps : List Packet} (h : ps ≠ []) (s : State) (q : Nat) (t : Taken) (n status : Nat) :
    s.cutShort q t n status ps = .next ((s.queuePkts q t (some n) ps).setQue q fun v =>
      { v with taken := v.taken.map fun x => if x.id = t.id then { x with cut := some status } else x }).ended := if_neg h

/-- A request leaves once its result range may be written. -/
theorem State.oneRequest_of_sink {s : State} {q len : Nat} {t : Taken} (h : s.sink q t len = (s, true)) (n pt : Nat)
    (f : Octet → Octet) (pay : List Byte) :
    s.oneRequest q t n pt len f pay = .next (s.queuePkts q t (some n)
      [{ hdr := (f (s.connHeader n pt)).set H.len pay.length, payload := pay, trailer := [] }]).ended := by
  rw [State.oneRequest, h]
  rfl

/-- A request without a result range asks nothing. -/
theorem State.sink_nothing (s : State) (q : Nat) (t : Taken) : s.sink q t 0 = (s, true) := if_neg fun h => h.2 rfl

section

variable {s : State} {q : QNum} {id op : Nat} {t : Taken} (hserves : s.Serves q id op t)
include hserves

theorem State.Serves.id_eq : t.id = id := by
  obtain ⟨hfresh, -⟩ := hserves
  unfold State.fresh State.taken at hfresh
  split at hfresh
  · next x hx =>
    split at hfresh
    · cases hfresh
    · obtain rfl : x = t := Option.some.inj hfresh
      have hid : (x.id == id) = true := List.find?_some (p := fun y : Taken => y.id == id) hx
      exact beq_iff_eq.mp hid
  · cases hfresh

/-- On a connection out of service the entry ends BROKEN (07 R238). -/
theorem State.Serves.connEntry_broken (hmod : op = 1 → t.entry.get W.opmod = 0)
    (hdead : s.connLive (t.entry.get W.conn) = false) (f : State → Taken → Nat → Out) :
    s.connEntry q id op f = .next (s.finishEntry q id { status := ST.broken }).ended := by
  rw [State.connEntry, hserves.row]
  dsimp only
  rw [if_neg fun h => h.2 (hmod h.1), if_neg (by simp [hdead]), fin_next]

/-- On a connection in service the entry runs its meaning. -/
theorem State.Serves.connEntry_live (hmod : op = 1 → t.entry.get W.opmod = 0)
    (hlive : s.connLive (t.entry.get W.conn) = true) (f : State → Taken → Nat → Out) :
    s.connEntry q id op f = f s t (t.entry.get W.conn) := by
  rw [State.connEntry, hserves.row]
  dsimp only
  rw [if_neg fun h => h.2 (hmod h.1), if_pos hlive]

end

/-! ## PUT (07 R221) -/

section

variable {s u : State} {q : QNum} {id : Nat} {src : Fetched} {t : Taken} (hserves : s.Serves q id 1 t)
  (hmod : t.entry.get W.opmod = 0) (hlive : s.connLive (t.entry.get W.conn) = true)
include hserves hmod hlive

theorem exec_put_of_ready {bs : List Byte} (hsrc : s.source q t (t.entry.get W.len) src = (u, .ready bs)) :
    exec (.put q id src) s = .next (u.queuePkts q t (some (t.entry.get W.conn))
      ((pieces (u.connP (t.entry.get W.conn)) bs).map fun x => u.putPkt (t.entry.get W.conn) t.entry x)).ended := by
  rw [exec_put, execPut, hserves.connEntry_live (fun _ => hmod) hlive, hsrc]
  rfl

theorem exec_put_of_bad {status : Nat} {got : List Byte}
    (hsrc : s.source q t (t.entry.get W.len) src = (u, .bad status got)) :
    exec (.put q id src) s = u.cutShort q t (t.entry.get W.conn) status
      ((wholePieces (u.connP (t.entry.get W.conn)) got).map fun x => u.putPkt (t.entry.get W.conn) t.entry x) := by
  rw [exec_put, execPut, hserves.connEntry_live (fun _ => hmod) hlive, hsrc]

/-- Nothing that fills a packet was read: the entry ends at once. -/
theorem exec_put_of_bad_short {status : Nat} {got : List Byte}
    (hsrc : s.source q t (t.entry.get W.len) src = (u, .bad status got)) (h : got.length < u.connP (t.entry.get W.conn)) :
    exec (.put q id src) s = .next (u.finishEntry q id { status := status }).ended := by
  rw [exec_put_of_bad hserves hmod hlive hsrc, wholePieces_of_short h, List.map_nil, State.cutShort_of_none, hserves.id_eq]

/-- Whole packets were read: they leave, and the entry keeps the status of the failure (log entry 58). -/
theorem exec_put_of_bad_behind {status : Nat} {got : List Byte}
    (hsrc : s.source q t (t.entry.get W.len) src = (u, .bad status got)) (hP : 0 < u.connP (t.entry.get W.conn))
    (h : u.connP (t.entry.get W.conn) ≤ got.length) :
    exec (.put q id src) s = .next ((u.queuePkts q t (some (t.entry.get W.conn))
      ((wholePieces (u.connP (t.entry.get W.conn)) got).map fun x => u.putPkt (t.entry.get W.conn) t.entry x)).setQue q
        fun v => { v with taken := v.taken.map fun x => if x.id = id then { x with cut := some status } else x }).ended := by
  have hsome := (List.map_eq_nil_iff (f := fun x => u.putPkt (t.entry.get W.conn) t.entry x)).not.mpr
    (wholePieces_ne_nil hP h)
  rw [exec_put_of_bad hserves hmod hlive hsrc, State.cutShort_of_some hsome, hserves.id_eq]

end

/-! ## KEY_NEXT and KEY_CUR (07 R220) -/

section

variable {s u : State} {q : QNum} {id slot : Nat} {src : Fetched} {t : Taken} {bs : List Byte} (hserves : s.Serves q id 1 t)
  (hreads : s.Reads q t 32 src bs u) (hmod : t.entry.get W.opmod = 0x81 - slot)
include hserves hreads hmod

/-- The key is stored where the slot may be written and the record is granted. -/
theorem State.Serves.keyEntry_stored {w : State} (hslot : u.keySlotOk (t.entry.get W.conn) slot = true)
    (hask : u.keyAsk (t.entry.get W.conn) slot (u.rd (F.qctx_PRIV q)) (fnMst (u.qFunc q)) = (w, true)) :
    s.keyEntry q id slot src
      = .next ((w.keyStore (t.entry.get W.conn) slot bs).finishEntry q id { status := ST.ok }).ended := by
  rw [State.keyEntry, hserves.row]
  dsimp only
  rw [if_neg (not_not.mpr hmod), hreads.source]
  dsimp only
  rw [if_neg (by simp [hslot]), hask]
  rfl

theorem State.Serves.keyEntry_refused (hslot : u.keySlotOk (t.entry.get W.conn) slot = false) :
    s.keyEntry q id slot src = .next (u.finishEntry q id { status := ST.access }).ended := by
  rw [State.keyEntry, hserves.row]
  dsimp only
  rw [if_neg (not_not.mpr hmod), hreads.source]
  dsimp only
  rw [if_pos (by simp [hslot]), fin_next]

end

end Sys2Proof.Machine
end

section
/-! PROOFS. Work entries of connections (07 R220 to R223). -/

namespace Sys2Proof.Machine

/-- Settles O43: the connection, the source or the result range, and for the KEY entries the slot and its record, decide how
an entry goes on; the pieces of a range are its successive parts. -/
theorem connectionWorkEntries : Obligations.ConnectionWorkEntries := by
  unfold Obligations.ConnectionWorkEntries
  refine ⟨fun q id src t s => ⟨fun x hx hserves hmod hdead => ?_, fun hlive => ⟨fun hserves hmod => ⟨fun bs u hreads => ?_,
      fun u st got hsrc => ⟨fun hshort => ?_, fun hlong hP => ?_⟩⟩, fun hserves hsink => ?_, fun hserves hsink => ?_,
      fun hserves => ?_⟩, fun hserves bs u w hreads => ⟨fun hmod hask => ?_, fun hmod hfree hask => ?_, fun hmod hbusy => ?_⟩⟩,
    fun P bs hP => ⟨flatMap_pieces hP bs, fun x hx => ?_⟩⟩
  · obtain ⟨f, hexec⟩ := exec_connEntry hx s
    exact hexec.trans (hserves.connEntry_broken hmod hdead f)
  · exact exec_put_of_ready hserves hmod hlive hreads.source
  · exact exec_put_of_bad_short hserves hmod hlive hsrc hshort
  · exact exec_put_of_bad_behind hserves hmod hlive hsrc hP hlong
  · rw [exec_get, execGet, hserves.connEntry_live (by simp) hlive]
    exact State.oneRequest_of_sink hsink _ _ _ _
  · rw [exec_atomic, execAtomic, hserves.connEntry_live (by simp) hlive, State.oneRequest_of_sink hsink, List.length_append,
      length_bytesOf, length_bytesOf]
  · rw [exec_flush, execFlush, hserves.connEntry_live (by simp) hlive]
    exact State.oneRequest_of_sink (s.sink_nothing q t) _ _ _ _
  · exact hserves.keyEntry_stored hreads hmod rfl hask
  · exact hserves.keyEntry_stored hreads hmod (by simp [State.keySlotOk, hfree]) hask
  · exact hserves.keyEntry_refused hreads hmod (by simp [State.keySlotOk, hbusy])
  · have hpiece := eq_of_mem_pieces hx
    exact ⟨hpiece ▸ List.length_take_le _ _, hpiece⟩

end Sys2Proof.Machine
end

section
/-! SUPPORT. The connection and canvas windows (07 R210 to R218, R245): each branch of a write of word 0, and the end of a
connection. -/

namespace Sys2Proof.Machine

theorem State.rd_plainWrite_of_rw (s : State) {r : Reg} {f : FieldDesc} (hf : f ∈ r.fields) (hacc : f.acc = .rw) (v : Word) :
    (s.plainWrite r v).rd ⟨r, f.hi, f.lo⟩ = bits v f.hi f.lo := by
  rw [State.rd, State.plainWrite, State.get_set_same]
  exact bits_accWrite_of_rw hf hacc false _ v

theorem State.count_rd_other (s : State) {f g : Fld} (k : Nat) (h : g.reg ≠ f.reg) : (s.count f k).rd g = s.rd g :=
  s.rd_wr_other _ h

@[simp] theorem State.wr_cx (s : State) (f : Fld) (v n : Nat) : (s.wr f v).cx n = s.cx n := rfl

/-! ## The connection window (07 R212, R214) -/

/-- The write of an activation stores its fields with STATE 0, so that the connection is FREE yet. -/
theorem State.plainWrite_connState (s : State) (n : Nat) (v : Word) :
    (s.plainWrite (.conn n 0) (setBits v 63 61 0)).connState n = CS.free :=
  (s.rd_plainWrite_of_rw (f := fd 63 61 .rw 0) (by simp [Reg.fields]) rfl _).trans
    (bits_setBits v 63 61 0 (by decide) (by decide))

section

variable {s : State} {m : Mst} {v : Word}

theorem State.connWrite_of_accepted (hst : s.connState (s.selOf m .cnx) = CS.free) (hv : bits v 63 61 = 1)
    (hok : (s.plainWrite (.conn (s.selOf m .cnx) 0) (setBits v 63 61 0)).connOk (s.selOf m .cnx) = true) :
    s.connWrite m 0 v
      = (s.plainWrite (.conn (s.selOf m .cnx) 0) (setBits v 63 61 0)).connStart (s.selOf m .cnx) := by
  simp [State.connWrite, hst, hv, hok]

theorem State.connWrite_of_refused (hst : s.connState (s.selOf m .cnx) = CS.free) (hv : bits v 63 61 = 1)
    (hno : (s.plainWrite (.conn (s.selOf m .cnx) 0) (setBits v 63 61 0)).connOk (s.selOf m .cnx) = false) :
    s.connWrite m 0 v
      = (s.plainWrite (.conn (s.selOf m .cnx) 0) (setBits v 63 61 0)).count F.cnxStat_REFUSED := by
  simp [State.connWrite, hst, hv, hno]

theorem State.connWrite_of_other_state (hst : s.connState (s.selOf m .cnx) ≠ CS.free) (hv : bits v 63 61 ≠ 0) :
    s.connWrite m 0 v = s := by
  simp [State.connWrite, hst, hv]

theorem State.connWrite_of_free (hst : s.connState (s.selOf m .cnx) ≠ CS.free) (hv : bits v 63 61 = 0) :
    s.connWrite m 0 v = s.connEnd (s.selOf m .cnx) := by
  simp [State.connWrite, hst, hv]

end

theorem State.connStart_connState (s : State) (n : Nat) : (s.connStart n).connState n = CS.active :=
  State.rd_wr _ _ _ (by simp) (by simp)

/-- The end of a connection writes STATE and both key flags 0 and empties the key slots (07 R214). -/
theorem State.connEnd_fields (s : State) (n : Nat) :
    (s.connEnd n).connState n = CS.free ∧ (s.connEnd n).rd (F.conn_CURKEY n) = 0 ∧ (s.connEnd n).rd (F.conn_NEXTKEY n) = 0
      ∧ ((s.connEnd n).cx n).cur = none := by
  unfold State.connEnd
  refine ⟨State.rd_wr _ _ _ (by simp) (by simp), ?_, ?_, ?_⟩
  · rw [State.rd_wr_other _ _ (by simp), State.rd_wr_other _ _ (by simp),
      State.rd_wr_apart _ _ (by simp) (by simp) (.inr (by simp)), State.rd_wr _ _ _ (by simp) (by simp),
      Nat.zero_mod]
  · rw [State.rd_wr_other _ _ (by simp), State.rd_wr_other _ _ (by simp), State.rd_wr _ _ _ (by simp) (by simp),
      Nat.zero_mod]
  · rw [State.wr_cx, State.wr_cx, State.wr_cx, State.wr_cx, State.setCx_cx_same]

/-! ## The canvas window (07 R218, R245) -/

theorem State.plainWrite_cvsState (s : State) (i : Nat) (v : Word) :
    (s.plainWrite (.cvs i 0) (setBits v 63 62 0)).rd (F.cvs_STATE i) = 0 :=
  (s.rd_plainWrite_of_rw (f := fd 63 62 .rw 0) (by simp [Reg.fields]) rfl _).trans
    (bits_setBits v 63 62 0 (by decide) (by decide))

section

variable {s : State} {m : Mst} {v : Word}

/-- Software writes nothing of a transient canvas (08 R270). -/
theorem State.cvsWrite_of_transient (htrans : s.transientRange (s.selOf m .cvs) = true) (w : Nat) :
    s.cvsWrite m w v = s := if_pos htrans

variable (hown : s.transientRange (s.selOf m .cvs) = false)
include hown

theorem State.cvsWrite_of_accepted (hst : s.rd (F.cvs_STATE (s.selOf m .cvs)) = 0) (hv : bits v 63 62 = 1)
    (hok : (s.plainWrite (.cvs (s.selOf m .cvs) 0) (setBits v 63 62 0)).canvasOk (s.selOf m .cvs) = true) :
    s.cvsWrite m 0 v
      = (s.plainWrite (.cvs (s.selOf m .cvs) 0) (setBits v 63 62 0)).wr (F.cvs_STATE (s.selOf m .cvs)) 1 := by
  simp [State.cvsWrite, hown, hst, hv, hok]

theorem State.cvsWrite_of_refused (hst : s.rd (F.cvs_STATE (s.selOf m .cvs)) = 0) (hv : bits v 63 62 = 1)
    (hno : (s.plainWrite (.cvs (s.selOf m .cvs) 0) (setBits v 63 62 0)).canvasOk (s.selOf m .cvs) = false) :
    s.cvsWrite m 0 v
      = (s.plainWrite (.cvs (s.selOf m .cvs) 0) (setBits v 63 62 0)).count F.cnxStat_REFUSED := by
  simp [State.cvsWrite, hown, hst, hv, hno]

theorem State.cvsWrite_of_free (hst : s.rd (F.cvs_STATE (s.selOf m .cvs)) ≠ 0) (hv : bits v 63 62 = 0) :
    s.cvsWrite m 0 v = s.canvasRevoke (s.selOf m .cvs) := by
  simp [State.cvsWrite, hown, hst, hv]

end

end Sys2Proof.Machine
end

section
/-! PROOFS. The connection and canvas windows and the key commands (07 R210 to R218, R242, R245). -/

namespace Sys2Proof.Machine

/-- Settles O44: STATE before the write, the STATE written and the check of an activation decide between the branches. -/
theorem connectionAndCanvasWindows : Obligations.ConnectionAndCanvasWindows := by
  unfold Obligations.ConnectionAndCanvasWindows
  intro m v s n i act
  have hact : bits act 63 61 = 1 := bits_setBits v 63 61 CS.active (by decide) (by decide)
  have hfree : bits (setBits v 63 61 CS.free) 63 61 = 0 := bits_setBits v 63 61 CS.free (by decide) (by decide)
  have hvalid : bits (setBits v 63 62 1) 63 62 = 1 := bits_setBits v 63 62 1 (by decide) (by decide)
  have hrevoke : bits (setBits v 63 62 0) 63 62 = 0 := bits_setBits v 63 62 0 (by decide) (by decide)
  refine ⟨fun hopens => regWriteRow_opens hopens _ _, fun hopens => regWriteRow_opens hopens _ _,
    fun hopens => regWriteRow_opens hopens _ _, fun hopens => regWriteRow_opens hopens _ _,
    fun hopens => regWriteRow_opens hopens _ _, fun hopens => regWriteRow_opens hopens _ _,
    fun hst => ⟨fun hok => ?_, fun hno => ?_⟩, fun hst => ⟨State.connWrite_of_other_state hst (by simp [hact]), ?_⟩,
    fun htrans w => State.cvsWrite_of_transient htrans w, fun hown hst => ⟨fun hok => ?_, fun hno => ?_⟩,
    fun hown hst => State.cvsWrite_of_free hown hst hrevoke⟩
  · rw [State.connWrite_of_accepted hst hact hok]
    exact State.connStart_connState _ _
  · have hput := State.connWrite_of_refused hst hact hno
    refine ⟨?_, hput⟩
    rw [hput]
    exact (State.count_rd_other _ _ (by simp)).trans (s.plainWrite_connState n act)
  · rw [State.connWrite_of_free hst hfree]
    exact s.connEnd_fields n
  · rw [State.cvsWrite_of_accepted hown hst hvalid hok]
    exact State.rd_wr _ _ _ (by simp) (by simp)
  · have hput := State.cvsWrite_of_refused hown hst hvalid hno
    refine ⟨?_, hput⟩
    rw [hput]
    exact (State.count_rd_other _ _ (by simp)).trans (s.plainWrite_cvsState i _)

end Sys2Proof.Machine
end

section
/-! SUPPORT. Arrivals and timers of connections (07 R227 to R236): each command where its event can happen, and what an ACK
leaves of the receiving side. -/

namespace Sys2Proof.Machine

theorem exec_connPacketArrival (p : Packet) (mark : Bool) (s : State) :
    exec (.connPacketArrival p mark) s = execConnPacketArrival p mark s := rfl

theorem exec_ackDelayExpiry (n : Fin 262144) (reply : Bool) (s : State) :
    exec (.ackDelayExpiry n reply) s = execAckDelayExpiry n reply s := rfl

theorem exec_rtoExpiry (n : Fin 262144) (reply : Bool) (s : State) :
    exec (.rtoExpiry n reply) s = execRtoExpiry n reply s := rfl

theorem exec_nrBackoffExpiry (n : Fin 262144) (seq : BitVec 32) (s : State) :
    exec (.nrBackoffExpiry n seq) s = execNrBackoffExpiry n seq s := rfl

theorem exec_flushReqDispatch (n : Fin 262144) (s : State) :
    exec (.flushReqDispatch n) s = execFlushReqDispatch n s := rfl

theorem State.setRx_rx (s : State) (n : Nat) (reply : Bool) (f : Rx → Rx) :
    ((s.setRx n reply f).cx n).rx reply = f ((s.cx n).rx reply) := by
  cases reply <;> simp [State.setRx, Conn.rx]

/-- After an ACK nothing settled is unacknowledged (07 R231). -/
theorem State.sendAck_rx (s : State) (n : Nat) (reply : Bool) :
    (((s.sendAck n reply).cx n).rx reply).firstAt = none ∧ (((s.sendAck n reply).cx n).rx reply).fresh = 0 := by
  unfold State.sendAck
  dsimp only
  rw [State.setRx_rx]
  exact ⟨rfl, rfl⟩

section

variable {s : State} (hrun : s.halted = false)
include hrun

theorem State.entriesAct_of_running (q : Nat) : s.entriesAct q = true := by simp [State.entriesAct, hrun]

/-- The mark that counts is the one kept with the delivered packet, where there is one (log entry 9). -/
theorem exec_connPacketArrival_running {p : Packet} (hconn : ptOnConn (p.get H.ptype) = true) (mark : Bool) :
    exec (.connPacketArrival p mark) s
      = .next ((s.accepted p).connArrive (p.get H.conn) p (((s.arrivedOf p).map (·.mark)).getD mark)).ended := by
  rw [exec_connPacketArrival, execConnPacketArrival, if_neg (by simp [hconn, hrun]), fin_next]

theorem exec_flushReqDispatch_running (n : Fin 262144) : exec (.flushReqDispatch n) s = .next (s.flushGo n).ended := by
  rw [exec_flushReqDispatch, execFlushReqDispatch, hrun]
  rfl

variable {n : Fin 262144} (hlive : s.connLive n = true)
include hlive

theorem exec_ackDelayExpiry_armed {reply : Bool} {t : Nat} (harmed : ((s.cx n).rx reply).firstAt = some t) :
    exec (.ackDelayExpiry n reply) s = .next ((s.passTo (t + s.ackDelay)).sendAck n reply).ended := by
  simp [exec_ackDelayExpiry, execAckDelayExpiry, harmed, hlive, hrun, fin_next]

theorem exec_rtoExpiry_armed {reply : Bool} {t : Nat} (harmed : s.rtoDue n reply = some t) (hdrain : s.draining = false) :
    exec (.rtoExpiry n reply) s = .next ((s.passTo t).rtoFire n reply).ended := by
  simp [exec_rtoExpiry, execRtoExpiry, harmed, hlive, hdrain, State.entriesAct_of_running hrun, fin_next]

theorem exec_nrBackoffExpiry_armed {seq : BitVec 32} {x : TxCopy} {t : Nat}
    (hcopy : ((s.cx n).tx0.copies.find? fun x => x.seq == seq.toNat) = some x) (harmed : x.nrDue = some t) :
    exec (.nrBackoffExpiry n seq) s = .next ((s.passTo t).resend n false x).ended := by
  simp [exec_nrBackoffExpiry, execNrBackoffExpiry, hcopy, harmed, hlive, State.entriesAct_of_running hrun, fin_next]

end

end Sys2Proof.Machine
end

section
/-! PROOFS. Arrivals and timers of connections (07 R227 to R236). -/

namespace Sys2Proof.Machine

/-- Settles O45: on a device that runs each command does what its event asks, and time passes to the instant that is due. -/
theorem connectionArrivalsAndTimers : Obligations.ConnectionArrivalsAndTimers := by
  unfold Obligations.ConnectionArrivalsAndTimers
  intro n s hrun
  refine ⟨fun p mark hconn => ⟨fun hnew => ?_, fun h hkept => ?_⟩, exec_flushReqDispatch_running hrun n,
    fun hlive => ⟨fun reply t harmed => ⟨exec_ackDelayExpiry_armed hrun hlive harmed, State.sendAck_rx _ n reply⟩,
      fun reply t harmed hdrain => exec_rtoExpiry_armed hrun hlive harmed hdrain,
      fun seq x t hcopy harmed => exec_nrBackoffExpiry_armed hrun hlive hcopy harmed⟩, fun t => ?_⟩
  · rw [exec_connPacketArrival_running hrun hconn, hnew]
    rfl
  · rw [exec_connPacketArrival_running hrun hconn, hkept]
    rfl
  · rw [State.passTo_now]
    exact ⟨Nat.le_max_left _ _, Nat.le_max_right _ _⟩

end Sys2Proof.Machine
end

section
/-! SUPPORT. SEND entries and the wait for a transient canvas (08 R262 to R265, R270): each end that a SEND on a connection in
service can take. -/

namespace Sys2Proof.Machine

theorem exec_send (q : QNum) (id : Nat) (src : Fetched) (s : State) : exec (.send q id src) s = execSend q id src s := rfl

theorem exec_rndvCanvasTake (q : QNum) (id : Nat) (s : State) :
    exec (.rndvCanvasTake q id) s = execRndvCanvasTake q id s := rfl

/-- A local range that is not of device memory, is empty, or is passed by the window and the gate may be read later. -/
theorem State.sendRange_passes {s : State} {q : Nat} {t : Taken}
    (hrange : t.entry.get W.devmem = 0 ∨ t.entry.get W.len = 0
      ∨ s.devRange (s.qFunc q) (t.entry.get W.laddr) (t.entry.get W.len) .read = (s, true)) :
    (if t.entry.get W.devmem = 1 ∧ t.entry.get W.len ≠ 0 then
      s.devRange (s.qFunc q) (t.entry.get W.laddr) (t.entry.get W.len) .read else (s, true)) = (s, true) := by
  rcases hrange with hhost | hempty | hpass
  · exact if_neg fun h => by simp [hhost] at h
  · exact if_neg fun h => h.2 hempty
  · rw [hpass, ite_self]

section

variable {s : State} {q : QNum} {id : Nat} {src : Fetched} {t : Taken} (hserves : s.Serves q id 5 t)
include hserves

theorem exec_send_broken (hdead : s.connLive (t.entry.get W.conn) = false) :
    exec (.send q id src) s = .next (s.finishEntry q id { status := ST.broken }).ended := by
  rw [exec_send, execSend, hserves.connEntry_broken (by simp) hdead]

variable (hlive : s.connLive (t.entry.get W.conn) = true)
include hlive

/-- An eager SEND reads its range and its packets wait to be scheduled (08 R264). -/
theorem exec_send_eager {u : State} {bs : List Byte} (hmod : t.entry.get W.opmod = 0)
    (hlen : t.entry.get W.len ≤ s.eagerLimit (t.entry.get W.conn)) (hreads : s.Reads q t (t.entry.get W.len) src bs u) :
    exec (.send q id src) s = .next (u.queuePkts q t (some (t.entry.get W.conn))
      (u.eagerPkts (t.entry.get W.conn) t.entry bs)).ended := by
  rw [exec_send, execSend, hserves.connEntry_live (by simp) hlive]
  dsimp only
  rw [if_pos ⟨hmod, hlen⟩, hreads.source]
  rfl

variable (hrndv : t.entry.get W.opmod ≠ 0 ∨ s.eagerLimit (t.entry.get W.conn) < t.entry.get W.len)
  (hrange : t.entry.get W.devmem = 0 ∨ t.entry.get W.len = 0
    ∨ s.devRange (s.qFunc q) (t.entry.get W.laddr) (t.entry.get W.len) .read = (s, true))
include hrndv hrange

/-- What a rendezvous SEND does is decided by whether a transient canvas is FREE (08 R265, R270). -/
theorem exec_send_rndv : exec (.send q id src) s = (s.rndvGo q (t.entry.get W.conn) t).elim
    (fin (((s.begin q id).count F.mtcStat_RNDV_WAIT).setMtch fun x => { x with waits := x.waits ++ [(q.val, id)] })) fin := by
  have hlate : ¬(t.entry.get W.opmod = 0 ∧ t.entry.get W.len ≤ s.eagerLimit (t.entry.get W.conn)) := by omega
  rw [exec_send, execSend, hserves.connEntry_live (by simp) hlive]
  dsimp only
  rw [if_neg hlate, State.sendRange_passes hrange]
  dsimp only
  cases s.rndvGo q (t.entry.get W.conn) t with
  | none => rfl
  | some u => rfl

theorem exec_send_rndv_takes {u : State} (hcanvas : s.rndvGo q (t.entry.get W.conn) t = some u) :
    exec (.send q id src) s = .next u.ended := by
  rw [exec_send_rndv hserves hlive hrndv hrange, hcanvas, Option.elim_some, fin_next]

theorem exec_send_rndv_waits (hnone : s.rndvGo q (t.entry.get W.conn) t = none) :
    exec (.send q id src) s = .next (((s.begin q id).count F.mtcStat_RNDV_WAIT).setMtch fun x =>
      { x with waits := x.waits ++ [(q.val, id)] }).ended := by
  rw [exec_send_rndv hserves hlive hrndv hrange, hnone, Option.elim_none, fin_next]

end

/-- A waiting SEND that has not ended takes its canvas and waits no more (08 R270). -/
theorem exec_rndvCanvasTake_takes {q : QNum} {id : Nat} {t : Taken} {s u : State} (hwaits : (q.val, id) ∈ s.mtch.waits)
    (hrun : s.halted = false) (htaken : s.taken q id = some t) (hopen : t.res = none)
    (hcanvas : s.rndvGo q (t.entry.get W.conn) t = some u) :
    exec (.rndvCanvasTake q id) s
      = .next (u.setMtch fun x => { x with waits := x.waits.filter (· ≠ (q.val, id)) }).ended := by
  rw [exec_rndvCanvasTake, execRndvCanvasTake, if_pos ⟨hwaits, State.entriesAct_of_running hrun q⟩]
  simp only [htaken, hopen, hcanvas, Option.isSome_none, Bool.false_eq_true, if_false, fin_next]

end Sys2Proof.Machine
end

section
/-! SUPPORT. RECV entries (08 R254 to R256): a receive-post ring that serves, with and without its context. -/

namespace Sys2Proof.Machine

theorem exec_recv (q : QNum) (e : Octet) (s : State) : exec (.recv q e) s = execRecv q e s := rfl

section

variable {q : QNum} {e : Octet} {s : State} (htype : s.rd (F.qctx_TYPE q) = 1) (hserves : s.serves q = true)
  (hdepth : s.qDepth q ≠ 0) (hown : s.sketchServed q = false)
include htype hserves hdepth hown

theorem exec_recv_unbound (hunbound : s.ringBound q = false) :
    exec (.recv q e) s = .next (s.unboundOnce q).ended := by
  simp [exec_recv, execRecv, htype, hserves, hdepth, hown, hunbound, fin_next]

/-- The next entry of a ring with its context is posted or bound where there is room for it (08 R255, R256). -/
theorem exec_recv_posts (hbound : s.ringBound q = true) (hgood : recvReason e = none)
    (hroom : (s.setMtch fun x => { x with unbound := x.unbound.filter (· ≠ q.val) }).postRoom q (s.rd (F.qctx_MCTX q)) e = true) :
    exec (.recv q e) s = .next (((s.setMtch fun x => { x with unbound := x.unbound.filter (· ≠ q.val) }).advanceCi q).postRecv
      q (s.rd (F.qctx_CI q)) (s.rd (F.qctx_MCTX q)) e).ended := by
  rw [exec_recv, execRecv, if_neg (by simp [htype, hserves, hdepth, hown]), if_neg (by simp [hbound])]
  simp only [hgood, State.setMtch_rd, hroom, if_true, fin_next]

end

end Sys2Proof.Machine
end

section
/-! SUPPORT. The matching-context window (08 R251 to R253): each branch of a write of word 0. -/

namespace Sys2Proof.Machine

theorem State.mtcActive_iff (s : State) (k : Nat) : s.mtcActive k = true ↔ s.rd (F.mtc_STATE k) = 1 := beq_iff_eq

/-- A context that starts is ACTIVE with its counts zero (08 R252). -/
theorem State.mtcStart_accepted {s : State} {k : Nat}
    (hok : s.eqOfTenant (s.rd (F.mtc_EQ k)) (s.rd (F.mtc_TENANT k)) = true) :
    (s.mtcStart k).mtcActive k = true ∧ (s.mtcStart k).rd (F.mtc_POSTED k) = 0 := by
  rw [State.mtcStart, if_pos hok, State.mtcActive_iff, State.setMtch_rd, State.setMtch_rd]
  refine ⟨State.rd_wr _ _ _ (by simp) (by simp), ?_⟩
  rw [State.rd_wr_other _ _ (by simp), State.rd, State.get_set_other _ _ (by simp), State.get_set_other _ _ (by simp),
    State.get_set_same]
  simp [bits]

theorem State.mtcStart_refused {s : State} {k : Nat}
    (hno : s.eqOfTenant (s.rd (F.mtc_EQ k)) (s.rd (F.mtc_TENANT k)) = false) :
    s.mtcStart k = s.count F.mtcStat_REFUSED := if_neg (by simp [hno])

/-- A context with posted receives is not freed (08 R253). -/
theorem State.mtcFree_posted {s : State} {k : Nat} (hposted : s.rd (F.mtc_POSTED k) ≠ 0) :
    s.mtcFree k = s.count F.mtcStat_REFUSED := if_pos hposted

theorem State.mtcFree_state {s : State} {k : Nat} (hposted : s.rd (F.mtc_POSTED k) = 0) :
    (s.mtcFree k).rd (F.mtc_STATE k) = 0 := by
  rw [State.mtcFree, if_neg (not_not.mpr hposted)]
  exact State.rd_wr _ _ _ (by simp) (by simp)

section

variable {s : State} {m : Mst} {v : Word}

/-- An activation of a context that is not ACTIVE stores its fields with STATE 0 and then starts it. -/
theorem State.mtcWrite_of_activation (hst : s.mtcActive (s.selOf m .mtc) = false) (hv : bits v 63 62 = 1) :
    s.mtcWrite m 0 v = (s.plainWrite (.mtc (s.selOf m .mtc) 0) (setBits v 63 62 0)).mtcStart (s.selOf m .mtc) := by
  simp [State.mtcWrite, hst, hv]

theorem State.mtcWrite_of_other_state (hst : s.mtcActive (s.selOf m .mtc) = true) (hv : bits v 63 62 ≠ 0) :
    s.mtcWrite m 0 v = s := by
  simp [State.mtcWrite, hst, hv]

theorem State.mtcWrite_of_free (hst : s.mtcActive (s.selOf m .mtc) = true) (hv : bits v 63 62 = 0) :
    s.mtcWrite m 0 v = s.mtcFree (s.selOf m .mtc) := by
  simp [State.mtcWrite, hst, hv]

end

end Sys2Proof.Machine
end

section
/-! PROOFS. SEND and RECV entries, transient canvases and the matching-context window (08 R252 to R255, R262 to R270). -/

namespace Sys2Proof.Machine

/-- Settles O46: the connection, the eager limit and the canvases decide how a SEND goes on, the context of its ring how a
RECV does, and STATE before the write, the STATE written and POSTED what a write of the window does. -/
theorem matchingEntriesAndContexts : Obligations.MatchingEntriesAndContexts := by
  unfold Obligations.MatchingEntriesAndContexts
  refine ⟨fun q id src t s hserves => ⟨exec_send_broken hserves, fun hlive => ⟨fun hmod hlen bs u hreads => ?_,
      fun hrndv hrange => ⟨fun u hcanvas => ?_, fun hnone => ?_⟩⟩⟩,
    fun q id t s u hwaits hrun htaken hopen hcanvas => exec_rndvCanvasTake_takes hwaits hrun htaken hopen hcanvas,
    fun q e s htype hserves hdepth hown => ⟨exec_recv_unbound htype hserves hdepth hown,
      exec_recv_posts htype hserves hdepth hown⟩, ?_⟩
  · exact exec_send_eager hserves hlive hmod hlen hreads
  · exact exec_send_rndv_takes hserves hlive hrndv hrange hcanvas
  · exact exec_send_rndv_waits hserves hlive hrndv hrange hnone
  intro m v s k act free
  have hact : bits (setBits v 63 62 1) 63 62 = 1 := bits_setBits v 63 62 1 (by decide) (by decide)
  have hfree : bits (setBits v 63 62 0) 63 62 = 0 := bits_setBits v 63 62 0 (by decide) (by decide)
  refine ⟨fun hopens => regWriteRow_opens hopens _ _, fun hopens => regWriteRow_opens hopens _ _,
    fun hst => ?_, fun hst => ⟨State.mtcWrite_of_other_state hst (by simp [hact]), ?_⟩⟩
  · have hstart : act = _ := State.mtcWrite_of_activation hst hact
    rw [hstart]
    exact ⟨State.mtcStart_accepted, State.mtcStart_refused⟩
  · have hend : free = s.mtcFree k := State.mtcWrite_of_free hst hfree
    rw [hend]
    exact ⟨State.mtcFree_posted, State.mtcFree_state⟩

end Sys2Proof.Machine
end

section
/-! SUPPORT. COLL and TREE_WRITE entries (09 R285, R287 to R290): each end that an entry for a tree can take. -/

namespace Sys2Proof.Machine

theorem exec_coll (q : QNum) (id : Nat) (src : Fetched) (s : State) : exec (.coll q id src) s = execColl q id src s := rfl

theorem exec_treeWrite (id : Nat) (src : Fetched) (s : State) : exec (.treeWrite id src) s = execTreeWrite id src s := rfl

/-- The tree of a COLL entry (09 R287). -/
abbrev Taken.tree (x : Taken) : Nat := collTree x.entry.w7

/-- The operation that a COLL entry names (09 R287, R288). -/
abbrev Taken.coll (x : Taken) : Coll :=
  ({ kind := collKind x.entry.w7, dtype := collDtype x.entry.w7, op := collOp x.entry.w7 } : Coll).plain

/-- The contribution of a COLL entry, before its bytes are read and its place is known (09 R288, R289). -/
abbrev State.collContrib (s : State) (q : QNum) (x : Taken) (id : Nat) : Contrib :=
  { who := .entry q id, inst := 0, idx := 0, coll := x.coll, source := x.coll.kind == 3 && collSource x.entry.w7
    len := x.entry.get W.len, result := x.entry.w6.toNat, func := s.qFunc q, devmem := x.entry.get W.devmem == 1
    flag := x.entry.get W.flagged == 1 }

section

variable {s : State} {q : QNum} {id : Nat} {src : Fetched} {x : Taken} (hserves : s.Serves q id 7 x)
include hserves

theorem exec_coll_broken (hst : s.treeActive x.tree = false) :
    exec (.coll q id src) s = .next (s.finishEntry q id { status := ST.treeBroken }).ended := by
  rw [exec_coll, execColl, hserves.row]
  dsimp only
  rw [if_pos (by simp [hst]), fin_next]

variable (hst : s.treeActive x.tree = true)
include hst

theorem exec_coll_access (hother : s.rd (F.tree_TENANT x.tree) ≠ s.rd (F.qctx_TENANT q)) :
    exec (.coll q id src) s = .next (s.finishEntry q id { status := ST.access }).ended := by
  rw [exec_coll, execColl, hserves.row]
  dsimp only
  rw [if_neg (by simp [hst]), if_pos hother, fin_next]

variable (hten : s.rd (F.tree_TENANT x.tree) = s.rd (F.qctx_TENANT q))
include hten

/-- A multicast leaves the root once its bytes are read (09 R290). -/
theorem exec_coll_multicast (hkind : x.coll.kind = 4) (hroot : s.isRoot x.tree = true) {bs : List Byte} {u : State}
    (hreads : s.Reads q x (x.entry.get W.len) src bs u) :
    exec (.coll q id src) s = .next ((u.begin q id).multicast x.tree (.entry q id) x.coll x.entry.w6 bs
      (x.entry.get W.flagged == 1)).ended := by
  rw [exec_coll, execColl, hserves.row]
  dsimp only
  rw [if_neg (by simp [hst]), if_neg (not_not.mpr hten), if_pos hkind, if_pos hroot, hreads.source]
  rfl

/-- A contribution in its turn, for which the node has a place, joins: at once, or when it has bytes as soon as they are
read (09 R289). -/
theorem exec_coll_contributes (hkind : x.coll.kind ≠ 4) (hlocal : s.nLocal x.tree ≠ 0)
    (hroom : (s.tr x.tree).taken < 2 * s.nLocal x.tree) (hturn : s.collTurn x.tree id = true)
    (hsink : s.collSink q x.tree x.entry x.coll (s.collContrib q x id).source = (s, true)) :
    (x.coll.data = false → (s.collContrib q x id).source = false →
      exec (.coll q id src) s = .next ((s.begin q id).contribute x.tree (s.collContrib q x id) false).ended)
    ∧ (x.coll.data = true ∨ (s.collContrib q x id).source = true →
      ∀ bs u, s.Reads q x (x.entry.get W.len) src bs u → exec (.coll q id src) s
        = .next ((u.begin q id).contribute x.tree { s.collContrib q x id with data := bs } false).ended) := by
  have hplace : ¬(s.nLocal x.tree = 0 ∨ 2 * s.nLocal x.tree ≤ (s.tr x.tree).taken ∨ s.collTurn x.tree id = false) := by
    simp [hlocal, hroom, hturn]
  have hmulti : (x.coll.kind == 4) = false := beq_false_of_ne hkind
  rw [exec_coll, execColl, hserves.row]
  dsimp only at hsink hmulti ⊢
  rw [if_neg (by simp [hst]), if_neg (not_not.mpr hten), if_neg hkind, if_neg hplace, hsink, hmulti]
  dsimp only
  refine ⟨fun hdata hsource => ?_, fun hbytes bs u hreads => ?_⟩
  · rw [if_pos (by rw [hdata, hsource]; rfl), fin_next]
  · rw [if_neg (by rw [Bool.or_false, Bool.or_eq_true_iff.mpr hbytes]; decide), hreads.source]
    rfl

end

/-- TREE_WRITE reads its words from device memory and writes them as one (09 R285). -/
theorem exec_treeWrite_reads {id : Nat} {src : Fetched} {x : Taken} {bs : List Byte} {bad : Bool} {s u v : State}
    (hserves : s.Serves 0 id 0x88 x) (hread : s.devRead (x.entry.get W.laddr) 64 = (u, bs, false))
    (hwords : u.treeWords (bits x.entry.w6 13 0) (Octet.ofByteList bs).toList = (v, bad)) :
    exec (.treeWrite id src) s = .next (v.finishEntry 0 id { status := if bad then ST.access else ST.ok }).ended := by
  rw [exec_treeWrite, execTreeWrite, hserves.row]
  dsimp only
  rw [hread]
  dsimp only
  rw [hwords]
  rfl

end Sys2Proof.Machine
end

section
/-! SUPPORT. The tree window (09 R283, R284): each branch of a write of word 0, and a tree entry that starts. -/

namespace Sys2Proof.Machine

theorem State.treeActive_iff (s : State) (t : Nat) : s.treeActive t = true ↔ s.rd (F.tree_STATE t) = 1 := beq_iff_eq

/-- A change of one word leaves the fields of the others, but for those that the log writes. -/
theorem State.cfgPut_rd_other (s : State) (m : Mst) (kind addr : Nat) (r : Reg) (new : Word) {f : Fld} (hr : f.reg ≠ r)
    (hf : ¬FaultReg f.reg) : (s.cfgPut m kind addr r new).1.rd f = s.rd f := by
  obtain ⟨t, hraised, h | h⟩ := s.cfgPut_raised m kind addr r new false
  · rw [h, State.rd, State.get_set_other _ _ hr, ← State.rd, hraised.rd f hf]
  · rw [h, hraised.rd f hf]

/-- A field of the word that is changed ends as that of the new word, or stays when the record is refused. -/
theorem State.cfgPut_rd_same (s : State) (m : Mst) (kind addr : Nat) {r : Reg} (new : Word) (hi lo : Nat) (hr : ¬FaultReg r) :
    (s.cfgPut m kind addr r new).1.rd ⟨r, hi, lo⟩ = bits new hi lo
      ∨ (s.cfgPut m kind addr r new).1.rd ⟨r, hi, lo⟩ = s.rd ⟨r, hi, lo⟩ := by
  obtain ⟨t, hraised, h | h⟩ := s.cfgPut_raised m kind addr r new false
  · exact .inl (by rw [h, State.rd, State.get_set_same])
  · exact .inr (by rw [h, hraised.rd _ hr])

/-- A tree entry that starts counts from 0, with nothing open. -/
theorem State.treeStart_fresh (s : State) (t : Nat) :
    (s.treeStart t).rd (F.tree_INST t) = 0 ∧ (s.treeStart t).rd (F.tree_MSEQ t) = 0
      ∧ ((s.treeStart t).tr t).contribs = [] := by
  simp only [State.treeStart, State.treeTouch, State.setTr_rd, State.setTr_tr_same, and_true]
  simp [State.rd, State.get_set_other, bits]

theorem State.treeStart_get (s : State) {t : Nat} : (s.treeStart t).get (.tree t 0) = s.get (.tree t 0) :=
  (State.get_set_other _ _ (by simp)).trans (State.get_set_other _ _ (by simp))

/-- Word 0 of a tree entry after a write of its fields. -/
abbrev State.treeWord (s : State) (t : Nat) (v : Word) : Word := accWrite (.tree t 0) false (s.get (.tree t 0)) v

section

variable {s : State} {m : Mst} {t : Nat} {v : Word} (hsel : s.selOf m .tree = t)
include hsel

/-- Of a tree entry that is not FREE only a write that frees it changes anything (09 R284). -/
theorem State.treeWrite_of_taken {w : Nat} (hst : s.rd (F.tree_STATE t) ≠ 0) (hkeep : ¬(w = 0 ∧ bits v 63 62 = 0)) :
    s.treeWrite m w v = s := by
  subst hsel
  rw [State.treeWrite]
  dsimp only
  rw [if_pos hst, if_neg hkeep]

variable (hst : s.rd (F.tree_STATE t) = 0) (hv : bits v 63 62 = 1)
include hst hv

/-- A refused activation is counted and stores its fields with STATE 0 (09 R284). -/
theorem State.treeWrite_of_refused (hno : (s.set (.tree t 0) (s.treeWord t v)).treeOk t = false) :
    s.treeWrite m 0 v = ((s.count F.mixStat_REFUSED).cfgPut m RK.win (winAddr 5 0 t) (.tree t 0)
      (setBits (s.treeWord t v) 63 62 0)).1 := by
  simp only [State.treeWrite, hsel, hst, hv, hno, ne_eq, not_true_eq_false, if_false, if_true, beq_self_eq_true,
    Bool.and_false, Bool.false_eq_true, and_self, Bool.toNat_false]
  split <;> next hput => rw [hput]

/-- An accepted activation whose record is granted starts the tree entry (09 R284). -/
theorem State.treeWrite_of_accepted (hok : (s.set (.tree t 0) (s.treeWord t v)).treeOk t = true) {u : State}
    (hput : s.cfgPut m RK.win (winAddr 5 0 t) (.tree t 0) (setBits (s.treeWord t v) 63 62 1) = (u, true)) :
    s.treeWrite m 0 v = u.treeStart t := by
  simp [State.treeWrite, hsel, hst, hv, hok, hput]

end

end Sys2Proof.Machine
end

section
/-! PROOFS. COLL and TREE_WRITE entries and the tree window (09 R283 to R290). -/

namespace Sys2Proof.Machine

/-- Settles O47: the tree, the tenant and the kind decide how a COLL entry goes on, and STATE before the write, the STATE
written and the check of an activation what a write of the window does. -/
theorem treeEntriesAndWindow : Obligations.TreeEntriesAndWindow := by
  unfold Obligations.TreeEntriesAndWindow
  refine ⟨fun q id src x s hserves => ⟨exec_coll_broken hserves, fun hst => ⟨exec_coll_access hserves hst, fun hten =>
      ⟨fun hkind hroot bs u hreads => exec_coll_multicast hserves hst hten hkind hroot hreads,
        exec_coll_contributes hserves hst hten⟩⟩⟩,
    fun id src x bs bad s u v hserves hread hwords => exec_treeWrite_reads hserves hread hwords, ?_⟩
  intro m v s t act new
  have hact : bits (setBits v 63 62 1) 63 62 = 1 := bits_setBits v 63 62 1 (by decide) (by decide)
  refine ⟨fun hopens => regWriteRow_opens hopens _ _, fun hopens => regWriteRow_opens hopens _ _,
    fun hst => ⟨State.treeWrite_of_taken rfl hst (by simp [hact]),
      fun w hw => State.treeWrite_of_taken rfl hst (by simp [hw])⟩,
    fun hst => ⟨fun hno => ?_, fun hok u hput => ?_⟩⟩
  · have hrefused : act = _ := State.treeWrite_of_refused rfl hst hact hno
    have hcount : (s.count F.mixStat_REFUSED).rd (F.tree_STATE t) = 0 := (State.count_rd_other _ _ (by simp)).trans hst
    have hfree : bits (setBits new 63 62 0) 63 62 = 0 := bits_setBits new 63 62 0 (by decide) (by decide)
    rw [hrefused]
    refine ⟨?_, State.cfgPut_rd_other _ _ _ _ _ _ (by simp) nofun⟩
    rcases State.cfgPut_rd_same (s.count F.mixStat_REFUSED) m RK.win (winAddr 5 0 t) (r := .tree t 0)
      (setBits new 63 62 0) 63 62 nofun with h | h
    · exact h.trans hfree
    · exact h.trans hcount
  · have hstart : act = _ := State.treeWrite_of_accepted rfl hst hact hok hput
    have hone : bits (setBits new 63 62 1) 63 62 = 1 := bits_setBits new 63 62 1 (by decide) (by decide)
    rw [hstart]
    refine ⟨?_, State.treeStart_fresh u t⟩
    rw [State.treeActive_iff, State.rd, State.treeStart_get, State.cfgPut_get hput]
    exact hone

end Sys2Proof.Machine
end

section
/-! SUPPORT. A tree packet at a tree entry that cannot be read (16 R511). -/

namespace Sys2Proof.Machine

theorem exec_mixUpArrival (p : Packet) (s : State) : exec (.mixUpArrival p) s = execMixUpArrival p s := rfl

/-- The error is raised before the node looks at the packet. -/
theorem State.treeArrive_latent {s : State} {p : Packet} (hcrc : p.crcOk = true)
    (hlost : (s.accepted p).latent Src.TREE_UNCORR (p.get H.tree) = true) (f : State → Nat → Out) :
    s.treeArrive p f = .next ((s.accepted p).latentRaise Src.TREE_UNCORR (p.get H.tree)).ended := by
  rw [State.treeArrive, if_neg (by simp [hcrc]), if_pos hlost, fin_next]

theorem exec_mixUpArrival_latent {s : State} {p : Packet} (hrun : s.halted = false) (htype : p.get H.ptype = PT.mixUp)
    (hcrc : p.crcOk = true) (hlost : (s.accepted p).latent Src.TREE_UNCORR (p.get H.tree) = true) :
    exec (.mixUpArrival p) s = .next ((s.accepted p).latentRaise Src.TREE_UNCORR (p.get H.tree)).ended := by
  rw [exec_mixUpArrival, execMixUpArrival, if_neg (by simp [htype, hrun]), State.treeArrive_latent hcrc hlost]

/-- A device after reset, but that the cells of tree entry 0, which is FREE, hold an uncorrectable error. -/
def treeEntryLost : State := { faults := { latent := [(Src.TREE_UNCORR, 0)] } }

/-- A MIX_UP for tree 0, which carries no end-to-end check. -/
def treeEntryLostPkt : Packet := { hdr := mkHeader PT.mixUp 0 0 0, payload := [], trailer := [] }

/-- A packet counted in BADTREE leaves the error in the cells. -/
theorem treeEntryLost_counted :
    ((treeEntryLost.accepted treeEntryLostPkt).count F.mixStat_BADTREE).ended.faults.latent = [(Src.TREE_UNCORR, 0)] := by
  decide

/-- The raise writes the cells anew. -/
theorem treeEntryLost_raised :
    ((treeEntryLost.accepted treeEntryLostPkt).latentRaise Src.TREE_UNCORR (treeEntryLostPkt.get H.tree)).ended.faults.latent
      = [] := by
  decide

end Sys2Proof.Machine
end

section
/-! PROOFS. Tree packets as they arrive (09 R286, 16 R511). -/

namespace Sys2Proof.Machine

/-- Refutes O48: a MIX_UP that the node of `treeEntryLost` does not accept is not counted in BADTREE, because the read of
its tree entry meets an uncorrectable error first (16 R511), which is raised instead; the statement leaves that case out. -/
theorem not_treePacketsAndTimeout : ¬ Obligations.TreePacketsAndTimeout := by
  unfold Obligations.TreePacketsAndTimeout
  rintro ⟨harrivals, -⟩
  obtain ⟨hunaccepted, -⟩ := harrivals treeEntryLostPkt treeEntryLost (by decide)
  obtain ⟨-, hbadtree⟩ := hunaccepted (PT.mixUp, .mixUpArrival treeEntryLostPkt) (List.mem_cons_self ..) (by decide)
  have hcounted := hbadtree (by decide) (by decide)
  have hraised := exec_mixUpArrival_latent (s := treeEntryLost) (p := treeEntryLostPkt) (by decide) (by decide) (by decide)
    (by decide)
  have hended := Host.Outcome.next.inj (hcounted.symm.trans hraised)
  have hcells := treeEntryLost_counted
  rw [hended, treeEntryLost_raised] at hcells
  cases hcells

end Sys2Proof.Machine
end

section
/-! SUPPORT. The commands of the fabric manager and the drain (10 R348 to R353): each end that a command that can be answered
takes, and the words that each step of a drain writes. -/

namespace Sys2Proof.Machine

theorem exec_readReg (r : MgmtReq) (a : BitVec 25) (s : State) : exec (.readReg r a) s = execReadReg r a s := rfl

theorem exec_writeReg (r : MgmtReq) (a : BitVec 25) (v : Word) (s : State) :
    exec (.writeReg r a v) s = execWriteReg r a v s := rfl

theorem exec_drain (o : Origin) (s : State) : exec (.drain o) s = s.drainStep o 3 63 State.drainStart := rfl

theorem exec_switch (o : Origin) (s : State) : exec (.switch o) s = s.drainStep o 4 62 State.drainSwitch := rfl

theorem exec_resume (o : Origin) (s : State) : exec (.resume o) s = s.drainStep o 5 61 State.drainResume := rfl

theorem exec_status (r : MgmtReq) (s : State) : exec (.status r) s = execStatus r s := rfl

theorem exec_fwctl (r : MgmtReq) (e : Octet) (data : List Byte) (s : State) :
    exec (.fwctl r e data) s = execFwctl r e data s := rfl

/-! ## What a payload spells (10 R348) -/

theorem saysPlain_iff (c : Nat) (bs : List Byte) : saysPlain c bs = true ↔ bits (wordOfBytes bs) 63 56 = c := by
  rw [saysPlain, mcmdOf, beq_iff_eq]

theorem saysReg_iff (c : Nat) (a : BitVec 25) (bs : List Byte) :
    saysReg c a bs = true ↔ saysPlain c bs = true ∧ bits (wordOfBytes (bs.drop 8)) 24 0 = a.toNat := by
  rw [saysReg, saysPlain, Bool.and_eq_true, beq_iff_eq (b := a.toNat)]

theorem saysWrite_iff (a : BitVec 25) (v : Word) (bs : List Byte) :
    saysWrite a v bs = true ↔ saysReg 2 a bs = true ∧ wordOfBytes (bs.drop 16) = v := by
  rw [saysWrite, Bool.and_eq_true, beq_iff_eq]

/-! ## Commands that can be answered (10 R348, R349) -/

section

variable {s : State} {r : MgmtReq}

/-- READ_REG is refused where the port or the gate denies its master, and else is a read by address (10 R348). -/
theorem exec_readReg_answers {a : BitVec 25} (h : s.Answers r (saysReg 1 a) 8) (w : State) :
    ((s.forgotten r (saysReg 1 a)).openReg (mgmtMst r) a.toNat .read = (w, true) →
      exec (.readReg r a) s = .next (w.readReg (mgmtMst r) a.toNat (some r)).ended)
    ∧ ((s.forgotten r (saysReg 1 a)).openReg (mgmtMst r) a.toNat .read = (w, false) →
      exec (.readReg r a) s = .next (w.mgmtAnswer r 1 MS.refused (bytesOf 8 (2 ^ 64 - 1))).ended) := by
  rw [exec_readReg, execReadReg, h.row]
  constructor <;> intro hopen <;> rw [hopen]

/-- WRITE_REG is refused where the port, the gate or the audit log denies it (10 R348). -/
theorem exec_writeReg_answers {a : BitVec 25} {v : Word} (h : s.Answers r (saysWrite a v) 0) (w : State) :
    ((s.forgotten r (saysWrite a v)).openReg (mgmtMst r) a.toNat .write = (w, true) →
      let x := ({ w with audit := { w.audit with deny := false } } : State).writeReg (mgmtMst r) a.toNat v
      exec (.writeReg r a v) s = .next (x.mgmtAnswer r 2 (if x.audit.deny then MS.refused else MS.ok) []).ended)
    ∧ ((s.forgotten r (saysWrite a v)).openReg (mgmtMst r) a.toNat .write = (w, false) →
      exec (.writeReg r a v) s = .next (w.mgmtAnswer r 2 MS.refused []).ended) := by
  rw [exec_writeReg, execWriteReg, h.row]
  constructor <;> intro hopen <;> rw [hopen]

/-- A step of a drain that the fabric manager asks for is answered OK (10 R351, R353). -/
theorem State.drainStep_answers {mcmd : Nat} (h : s.Answers r (saysPlain mcmd) 0) (bit : Nat) (f : State → State) :
    s.drainStep (.mgmt r) mcmd bit f = .next ((f (s.forgotten r (saysPlain mcmd))).mgmtAnswer r mcmd MS.ok []).ended := by
  rw [State.drainStep, h.row]

theorem exec_status_answers (h : s.Answers r (saysPlain 6) 8) :
    exec (.status r) s = .next ((s.forgotten r (saysPlain 6)).mgmtAnswer r 6 MS.ok
      (bytesOf 8 (s.forgotten r (saysPlain 6)).drainWord.toNat)).ended := by
  rw [exec_status, execStatus, h.row]

section

variable {e : Octet} {data : List Byte} (h : s.Answers r (saysEntry e data) 1)
include h

theorem exec_fwctl_malformed {why : Nat} (hmal : (s.forgotten r (saysEntry e data)).malReason 0 e none = some why) :
    exec (.fwctl r e data) s
      = .next ((s.forgotten r (saysEntry e data)).mgmtAnswer r 7 MS.refused [BitVec.ofNat 8 why]).ended := by
  rw [exec_fwctl, execFwctl, h.row, hmal]

variable (hmal : (s.forgotten r (saysEntry e data)).malReason 0 e none = none)
include hmal

theorem exec_fwctl_busy (hfull : (s.forgotten r (saysEntry e data)).qState 0 ≠ QS.active
      ∨ (s.forgotten r (saysEntry e data)).qDepth 0 = 2 ^ (s.forgotten r (saysEntry e data)).qLog 0) :
    exec (.fwctl r e data) s = .next ((s.forgotten r (saysEntry e data)).mgmtAnswer r 7 MS.busy []).ended := by
  rw [exec_fwctl, execFwctl, h.row, hmal]
  dsimp only
  rw [if_pos hfull]

theorem exec_fwctl_places (hact : (s.forgotten r (saysEntry e data)).qState 0 = QS.active)
    (hroom : (s.forgotten r (saysEntry e data)).qDepth 0 ≠ 2 ^ (s.forgotten r (saysEntry e data)).qLog 0) :
    exec (.fwctl r e data) s = .next ((s.forgotten r (saysEntry e data)).fwctlPlace r e data).ended := by
  rw [exec_fwctl, execFwctl, h.row, hmal]
  dsimp only
  rw [if_neg (not_or.mpr ⟨not_not.mpr hact, hroom⟩)]

end

end

/-! ## The steps of a drain (10 R351, R353) -/

/-- A write of RTE_DRAIN that opens takes the step. -/
theorem State.drainStep_opens {s : State} {m : Mst} (h : s.Opens m 0x8308 .write) (mcmd bit : Nat) (f : State → State) :
    s.drainStep (.reg m) mcmd bit f = .next (f s).ended := by
  rw [State.drainStep, regWriteRow_opens h]

theorem State.drainStart_of_draining {s : State} (h : s.rd F.rteCfg_DSTATE ≠ 0) : s.drainStart = s := if_neg h

/-- The state of a drain that START has begun, before its time is noted. -/
theorem State.drainStart_of_idle {s : State} (h : s.rd F.rteCfg_DSTATE = 0) :
    s.drainStart = { (s.wr F.rteCfg_DSTATE 1).wr F.rteDrain_ACTIVITY 0 with
      route := { s.route with drainAt := s.now } } := if_pos h

theorem State.drainStart_fields {s : State} (h : s.rd F.rteCfg_DSTATE = 0) :
    s.drainStart.rd F.rteCfg_DSTATE = 1 ∧ s.drainStart.rd F.rteDrain_ACTIVITY = 0 := by
  have hwords (f : Fld) : s.drainStart.rd f = ((s.wr F.rteCfg_DSTATE 1).wr F.rteDrain_ACTIVITY 0).rd f := by
    rw [State.drainStart_of_idle h]
    exact OnlyWords.rd (p := fun _ => False) OnlyWords.parts f not_false
  rw [hwords, hwords, State.rd_wr_other _ _ (by simp), State.rd_wr _ _ _ (by decide) (by decide),
    State.rd_wr _ _ _ (by decide) (by decide)]
  exact ⟨rfl, Nat.zero_mod _⟩

theorem State.drainStart_onlyWords {s : State} (h : s.rd F.rteCfg_DSTATE = 0) :
    OnlyWords (fun r => r = .rteCfg ∨ r = .rteDrain) s s.drainStart := by
  rw [State.drainStart_of_idle h]
  exact ((OnlyWords.wr s (f := F.rteCfg_DSTATE) _ (.inl rfl)).trans
    (OnlyWords.wr _ (f := F.rteDrain_ACTIVITY) _ (.inr rfl))).trans OnlyWords.parts

theorem State.drainSwitch_of_other {s : State} (h : s.rd F.rteCfg_DSTATE ≠ 1) : s.drainSwitch = s := if_neg h

theorem State.drainSwitch_of_draining {s : State} (h : s.rd F.rteCfg_DSTATE = 1) :
    s.drainSwitch = (s.wr F.rteCfg_BANK (1 - s.rd F.rteCfg_BANK)).wr F.rteCfg_DSTATE 2 := if_pos h

theorem State.drainSwitch_fields {s : State} (h : s.rd F.rteCfg_DSTATE = 1) :
    s.drainSwitch.rd F.rteCfg_DSTATE = 2 ∧ s.drainSwitch.rd F.rteCfg_BANK = 1 - s.rd F.rteCfg_BANK := by
  have hapart : F.rteCfg_DSTATE.Apart F.rteCfg_BANK := .inr (.inr (by decide))
  have hbank : (s.wr F.rteCfg_BANK (1 - s.rd F.rteCfg_BANK)).rd F.rteCfg_BANK = 1 - s.rd F.rteCfg_BANK := by
    rw [State.rd_wr _ _ _ (by decide) (by decide)]
    exact Nat.mod_eq_of_lt (Nat.lt_succ_of_le (Nat.sub_le _ _))
  rw [State.drainSwitch_of_draining h]
  exact ⟨State.rd_wr _ _ 2 (by decide) (by decide),
    (State.rd_wr_apart _ 2 (by decide) (by decide) hapart).trans hbank⟩

theorem State.drainSwitch_onlyWords {s : State} (h : s.rd F.rteCfg_DSTATE = 1) :
    OnlyWords (· = .rteCfg) s s.drainSwitch := by
  rw [State.drainSwitch_of_draining h]
  exact (OnlyWords.wr (p := (· = .rteCfg)) s _ rfl).trans (OnlyWords.wr _ _ rfl)

theorem State.drainResume_of_idle {s : State} (h : s.draining = false) : s.drainResume = s :=
  if_neg (Bool.eq_false_iff.mp h)

end Sys2Proof.Machine
end

section
/-! PROOFS. The drain and the commands of the fabric manager (10 R348 to R353). -/

namespace Sys2Proof.Machine

/-- Settles O50: a command that can be answered is carried out on the state that has forgotten it, and DSTATE decides which step
of a drain acts. -/
theorem drainAndFabricManager : Obligations.DrainAndFabricManager := by
  unfold Obligations.DrainAndFabricManager
  refine ⟨fun r s => ⟨fun a v => ⟨fun h => ⟨fun w => (exec_readReg_answers h w).1, fun w => (exec_readReg_answers h w).2⟩,
        fun h => ⟨fun w => (exec_writeReg_answers h w).1, fun w => (exec_writeReg_answers h w).2⟩⟩,
      fun h => State.drainStep_answers h 63 _, fun h => State.drainStep_answers h 62 _,
      fun h => State.drainStep_answers h 61 _, exec_status_answers,
      fun c a v bs => ⟨saysPlain_iff c bs, saysReg_iff c a bs, saysWrite_iff a v bs⟩,
      fun e data h => ⟨fun why => exec_fwctl_malformed h, fun hmal =>
        ⟨exec_fwctl_busy h hmal, exec_fwctl_places h hmal⟩⟩⟩,
    fun m s => ⟨fun h => State.drainStep_opens h 3 63 _, fun h => State.drainStep_opens h 4 62 _,
      fun h => State.drainStep_opens h 5 61 _, fun h => ?_, State.drainStart_of_draining, fun h => ?_,
      State.drainSwitch_of_other, State.drainResume_of_idle⟩⟩
  · obtain ⟨hstate, hactivity⟩ := State.drainStart_fields h
    exact ⟨hstate, hactivity, State.drainStart_onlyWords h⟩
  · obtain ⟨hstate, hbank⟩ := State.drainSwitch_fields h
    exact ⟨hstate, hbank, State.drainSwitch_onlyWords h⟩

end Sys2Proof.Machine
end

section
/-! SUPPORT. What a raise, its records and the end of a held packet's entry leave of the packets that wait for outputs (16 R515,
R520): the routing unit keeps them all, or the halt loses them. -/

namespace Sys2Proof.Machine

theorem State.foldl_route {α : Type} {f : State → α → State} (hf : ∀ t x, (f t x).route = t.route) (l : List α) (s : State) :
    (l.foldl f s).route = s.route := by
  induction l generalizing s with
  | nil => rfl
  | cons x l ih => exact (ih (f s x)).trans (hf s x)

theorem State.ite_route {c : Prop} [Decidable c] {s t u : State} (ht : t.route = s.route) (hu : u.route = s.route) :
    (if c then t else u).route = s.route := by
  rw [apply_ite State.route, ht, hu, ite_self]

@[simp] theorem State.count_route (s : State) (f : Fld) (k : Nat) : (s.count f k).route = s.route := rfl

/-! ## Events and the record of a raise (02 R59, 16 R515) -/

@[simp] theorem State.wmEval_route (s : State) (i depth : Nat) : (s.wmEval i depth).route = s.route := by
  simp only [State.wmEval, apply_ite State.route, State.wr_route, State.count_route, ite_self]

@[simp] theorem State.evPush_route (s : State) (k : Nat) (e : Quad) : (s.evPush k e).route = s.route := by
  simp only [State.evPush, State.wmEval_route, State.setEv_route]

@[simp] theorem State.evLost_route (s : State) (k : Nat) : (s.evLost k).route = s.route := by
  simp only [State.evLost, apply_ite State.route, State.count_route, State.setEv_route, ite_self]

@[simp] theorem State.evOverflow_route (s : State) (k : Nat) : (s.evOverflow k).route = s.route := by
  simp only [State.evOverflow, apply_ite State.route, State.setEv_route, State.evPush_route, ite_self]

@[simp] theorem State.evPost_route (s : State) (k cls master detail arg : Nat) (low : Bool) :
    (s.evPost k cls master detail arg low).route = s.route := by
  rcases s.evPost_cases k cls master detail arg low with h | ⟨-, h⟩ | ⟨-, e, h⟩ <;> simp only [h, State.evLost_route,
    State.evPush_route, State.evOverflow_route]

@[simp] theorem State.dma_route (s : State) (o : Output) : (s.dma o).route = s.route := by
  simp only [State.dma, apply_ite State.route, State.emit_route, ite_self]

@[simp] theorem State.msix_route (s : State) (func vector : Nat) : (s.msix func vector).route = s.route := by
  simp only [State.msix, apply_ite State.route, State.wr_route, State.count_route, State.setFn_route, State.dma_route,
    ite_self]

@[simp] theorem State.ringPut_route (s : State) (q : Nat) (e : Quad) : (s.ringPut q e).route = s.route := by
  simp only [State.ringPut, State.advancePi, apply_ite State.route, State.wr_route, State.dma_route, ite_self]

@[simp] theorem State.postEvent_route (s : State) (q code queue : Nat) (arg : Word) :
    (s.postEvent q code queue arg).route = s.route := by
  simp only [State.postEvent, State.postEntry, apply_ite State.route, State.count_route, State.msix_route,
    State.ringPut_route, ite_self]

@[simp] theorem State.pairHold_route (s : State) (sev : Nat) : (s.pairHold sev).route = s.route := by
  simp only [State.pairHold, apply_ite State.route, State.wr_route, ite_self]

@[simp] theorem State.domCapture_route (s : State) (d n : Nat) (a : RaiseArg) : (s.domCapture d n a).route = s.route := rfl

@[simp] theorem State.raiseRec_route (s : State) (n : Nat) (a : RaiseArg) : (s.raiseRec n a).route = s.route := by
  unfold State.raiseRec
  split
  · rfl
  · have hcount : (((s.count (F.fltSrc_COUNT n)).wr (F.fltSrc_LATCHED n) 1).fltStatus n).route = s.route := rfl
    refine (State.pairHold_route _ _).trans ?_
    refine (State.ite_route (State.postEvent_route _ _ _ _ _) rfl).trans ?_
    refine (State.ite_route (State.evPost_route _ _ _ _ _ _ _) rfl).trans ?_
    refine State.ite_route ?_ ?_
    · refine (State.ite_route (State.evPost_route _ _ _ _ _ _ _) rfl).trans ((State.count_route _ _ _).trans ?_)
      exact State.ite_route hcount hcount
    · exact (State.evPost_route _ _ _ _ _ _ _).trans hcount

/-! ## The audit store (17 R551 to R558) -/

@[simp] theorem State.audPut_route (s : State) (w0 w1 old new : Word) : (s.audPut w0 w1 old new).route = s.route := by
  simp only [State.audPut, apply_ite State.route, State.wr_route, State.set_route, State.count_route, ite_self]

@[simp] theorem State.audCommit_route (s : State) (r : AudRec) : (s.audCommit r).route = s.route := s.audPut_route _ _ _ _

@[simp] theorem State.audPayGap_route (s : State) : s.audPayGap.route = s.route := by
  unfold State.audPayGap
  split
  · simp only [apply_ite State.route, State.audCommit_route, ite_self]
  · rfl

@[simp] theorem State.audFree_route (need n : Nat) (s : State) : (State.audFree need n s).route = s.route := by
  have hpass (t : State) : ((t.audPass 256).count F.audStat_LOST 256).route = t.route :=
    State.foldl_route (fun t c => t.audPut_route _ _ _ _) _ _
  induction n generalizing s with
  | zero => rfl
  | succ n ih => simp only [State.audFree, apply_ite State.route, ih, hpass, ite_self]

@[simp] theorem State.audMakeRoom_route (s : State) (r : AudRec) : (s.audMakeRoom r).route = s.route := by
  simp only [State.audMakeRoom, State.audCommit_route, State.audPayGap_route, State.audFree_route]

/-! ## The halt and the raise (16 R515, R520) -/

@[simp] theorem State.setLstate_route (s : State) (n v : Nat) : (s.setLstate n v).route = s.route := by
  simp only [State.setLstate, apply_ite State.route, State.evPost_route, State.wr_route, ite_self]

/-- The packets that wait for outputs in `t` waited in `s`. -/
structure HeldWithin (s t : State) : Prop where
  held : t.route.held ⊆ s.route.held

theorem HeldWithin.of_route {s t : State} (h : t.route = s.route) : HeldWithin s t :=
  ⟨h ▸ List.Subset.refl _⟩

theorem HeldWithin.trans {s t u : State} (h : HeldWithin s t) (g : HeldWithin t u) : HeldWithin s u :=
  ⟨List.Subset.trans g.held h.held⟩

theorem HeldWithin.ite {c : Prop} [Decidable c] {s t u : State} (ht : HeldWithin s t) (hu : HeldWithin s u) :
    HeldWithin s (if c then t else u) := by
  split
  · exact ht
  · exact hu

/-- A halt loses the packets inside the device (16 R520). -/
theorem State.haltCore_heldWithin (s : State) (n sev : Nat) : HeldWithin s (s.haltCore n sev) := by
  have hnone : (s.haltCore n sev).route.held = [] := rfl
  exact ⟨hnone ▸ List.nil_subset _⟩

theorem State.gapRaise_heldWithin (s : State) : HeldWithin s s.gapRaise := by
  have hrec : HeldWithin s (s.raiseRec Src.AUD_GAP {}) := .of_route (s.raiseRec_route _ _)
  refine HeldWithin.ite (hrec.trans ((State.haltCore_heldWithin _ Src.AUD_GAP (s.rd (F.fltSrc_SEV Src.AUD_GAP))).trans ?_)) hrec
  exact HeldWithin.ite (.of_route (State.audCommit_route _ _))
    (.of_route ((State.raiseRec_route _ _ _).trans (State.audMakeRoom_route _ _)))

theorem State.audAppend_heldWithin (s : State) (r : AudRec) : HeldWithin s (s.audAppend r) := by
  have hgap : HeldWithin s s.audPayGap := .of_route s.audPayGap_route
  unfold State.audAppend State.audLossy
  exact HeldWithin.ite (.of_route (by simp only [State.audCommit_route, State.audPayGap_route])) <| HeldWithin.ite
    (hgap.trans ((HeldWithin.of_route (State.audMakeRoom_route _ _)).trans (State.gapRaise_heldWithin _)))
    (.of_route (by simp only [State.wr_route, State.count_route, State.audPayGap_route]))

/-- A raise adds no packet to those that wait. -/
theorem State.raise_heldWithin (s : State) (n : Nat) (a : RaiseArg) : HeldWithin s (s.raise n a) := by
  have howed : HeldWithin s (s.raiseOwed n a) := by
    refine .of_route ?_
    simp only [State.raiseOwed, apply_ite State.route, State.raiseRec_route, ite_self]
  rw [State.raise_eq]
  exact HeldWithin.ite (howed.trans ((State.haltCore_heldWithin _ _ _).trans (State.audAppend_heldWithin _ _))) howed

end Sys2Proof.Machine
end

section
/-! SUPPORT. Commands of the routing unit (10 R324 to R347), each named by its meaning. -/

namespace Sys2Proof.Machine

theorem exec_dgram (q : QNum) (id : Nat) (src : Fetched) (s : State) :
    exec (.dgram q id src) s = s.plainEntry q id 6 PT.dgram (fun e => e.get W.dstep) src := rfl

theorem exec_mgmt (q : QNum) (id : Nat) (src : Fetched) (s : State) :
    exec (.mgmt q id src) s = s.plainEntry q id 8 PT.mgmt (fun e => e.get W.dstep / 4 * 4) src := rfl

theorem exec_winOutput (id : Nat) (s : State) : exec (.winOutput id) s = execWinOutput id s := rfl

theorem exec_ferryWaitExpiry (id : Nat) (s : State) : exec (.ferryWaitExpiry id) s = execFerryWaitExpiry id s := rfl

theorem exec_flaggedRelease (id : Nat) (s : State) : exec (.flaggedRelease id) s = execFlaggedRelease id s := rfl

theorem exec_dgramArrival (p : Packet) (s : State) : exec (.dgramArrival p) s = execDgramArrival p s := rfl

theorem exec_mgmtArrival (p : Packet) (said : Option PortNum) (s : State) :
    exec (.mgmtArrival p said) s = execMgmtArrival p said s := rfl

theorem exec_routeTableWrite (m : Mst) (w : Fin 2) (v : Word) (s : State) :
    exec (.routeTableWrite m w v) s = execRouteTableWrite m w v s := rfl

theorem exec_tideReportSend (n : PortNum) (s : State) : exec (.tideReportSend n) s = execTideReportSend n s := rfl

theorem exec_rteLoopWindow (n : PortNum) (s : State) : exec (.rteLoopWindow n) s = execRteLoopWindow n s := rfl

theorem exec_rteLoopWrite (m : Mst) (n : PortNum) (v : Word) (s : State) :
    exec (.rteLoopWrite m n v) s = execRteLoopWrite m n v s := rfl

end Sys2Proof.Machine
end

section
/-! SUPPORT. Datagrams and management packets at their source and at their destination (10 R345 to R347). -/

namespace Sys2Proof.Machine

/-- A DGRAM or MGMT entry that may act, and whose bytes are read, becomes one packet. -/
theorem State.plainEntry_reads {s u : State} {q id op : Nat} {src : Fetched} {t : Taken} {bs : List Byte}
    (hreads : s.Reads q t (t.entry.get W.len) src bs u) (hserves : s.Serves q id op t) (pt : Nat) (dst : Octet → Nat) :
    s.plainEntry q id op pt dst src = .next (u.queuePkts q t none [u.plainPacket q pt (dst t.entry) t.entry bs]).ended := by
  rw [State.plainEntry, hserves.row, hreads.source]
  rfl

section

variable {p : Packet} {s : State} (hrun : s.halted = false)
include hrun

section

variable (htype : p.get H.ptype = PT.dgram)
include htype

theorem exec_dgramArrival_discarded (hcrc : p.crcOk = false) :
    exec (.dgramArrival p) s = .next (s.unarrive p).ended := by
  simp [exec_dgramArrival, execDgramArrival, htype, hrun, hcrc, fin_next]

variable (hcrc : p.crcOk = true)
include hcrc

theorem exec_dgramArrival_passes
    (hpass : (s.unarrive p).policed (p.get H.tenant) = false ∨ (s.unarrive p).rd (F.ten_DG_ACT (p.get H.tenant)) = 0) :
    exec (.dgramArrival p) s = .next ((s.unarrive p).dgramIn p false).ended := by
  rcases hpass with hpass | hpass <;> simp [exec_dgramArrival, execDgramArrival, htype, hrun, hcrc, hpass, fin_next]

theorem exec_dgramArrival_policed (hpol : (s.unarrive p).policed (p.get H.tenant) = true) :
    ((s.unarrive p).rd (F.ten_DG_ACT (p.get H.tenant)) = 1 → exec (.dgramArrival p) s
      = .next (((s.unarrive p).count (F.ten_POL_MARKED (p.get H.tenant))).dgramIn p true).ended)
    ∧ (1 < (s.unarrive p).rd (F.ten_DG_ACT (p.get H.tenant)) → exec (.dgramArrival p) s
      = .next ((s.unarrive p).count (F.ten_POL_DROPPED (p.get H.tenant))).ended) := by
  constructor <;> intro hact
  · simp [exec_dgramArrival, execDgramArrival, htype, hrun, hcrc, hpol, hact, fin_next]
  · have hzero : (s.unarrive p).rd (F.ten_DG_ACT (p.get H.tenant)) ≠ 0 := by omega
    have hone : (s.unarrive p).rd (F.ten_DG_ACT (p.get H.tenant)) ≠ 1 := by omega
    simp [exec_dgramArrival, execDgramArrival, htype, hrun, hcrc, hpol, hzero, hone, fin_next]

end

section

variable (htype : p.get H.ptype = PT.mgmt) (said : Option PortNum)
include htype

theorem exec_mgmtArrival_discarded (hcrc : p.crcOk = false) :
    exec (.mgmtArrival p said) s = .next ((s.unarrive p).policerCharge (p.get H.tenant) p.cost).ended := by
  simp [exec_mgmtArrival, execMgmtArrival, htype, hrun, hcrc, fin_next]

variable (hcrc : p.crcOk = true)
include hcrc

theorem exec_mgmtArrival_refused (hnone : ((s.unarrive p).policerCharge (p.get H.tenant) p.cost).mgmtVia (p.get H.src)
      (s.arrivedBy p said) = none) :
    exec (.mgmtArrival p said) s
      = .next (((s.unarrive p).policerCharge (p.get H.tenant) p.cost).count F.rteStat_MGMT_REFUSED).ended := by
  simp [exec_mgmtArrival, execMgmtArrival, htype, hrun, hcrc, hnone, fin_next]

/-- An accepted command is kept, with its payload, its requester and its port (10 R347, R349). -/
theorem exec_mgmtArrival_kept {i : Fin 9} (hvia : ((s.unarrive p).policerCharge (p.get H.tenant) p.cost).mgmtVia
      (p.get H.src) (s.arrivedBy p said) = some i) :
    Gives (exec (.mgmtArrival p said) s) fun v => ∃ a ∈ v.route.mgmt, a.req.via = i ∧ a.req.port = s.arrivedBy p said
      ∧ a.req.src.toNat = p.get H.src % 2 ^ 20 ∧ a.body = p.payload := by
  rw [exec_mgmtArrival, execMgmtArrival, if_neg (by simp [htype, hrun])]
  dsimp only
  rw [if_neg (by simp [hcrc]), hvia]
  exact gives_fin ⟨_, List.mem_append_right _ (List.mem_cons_self ..), rfl, rfl, BitVec.toNat_ofNat _ _, rfl⟩

end

end

/-- The port kept with a delivered packet counts, not the one told (10 R347). -/
theorem State.arrivedBy_of_arrived {s : State} {p : Packet} {h : Held} {k : PortNum} (hfind : s.arrivedOf p = some h)
    (hport : h.inPort = some k.val) (said : Option PortNum) : s.arrivedBy p said = some k := by
  simp [State.arrivedBy, hfind, hport]

end Sys2Proof.Machine
end

section
/-! SUPPORT. A held packet that asks for an output, and flagged packets (10 R329, R330, R340 to R344, 16 R511). -/

namespace Sys2Proof.Machine

/-! ## What leaves the list of held packets -/

theorem State.unhold_held (s : State) (h : Held) :
    (s.unhold h).route.held = s.route.held.filter (·.id ≠ h.id) := by
  have hgive (t : State) : (t.giveBack h).route = t.route := by
    unfold State.giveBack
    split
    · rfl
    · exact State.ite_route rfl rfl
  have hend (t : State) (n : Nat) : (t.failoverEnd n).route = t.route := by
    refine State.ite_route ?_ rfl
    split
    · rfl
    · exact State.setLstate_route _ _ _
  unfold State.unhold
  dsimp only
  split
  · rw [hend, State.rbSync, State.wr_route, hgive]
  · rw [hgive]

theorem State.ownerDone_route (s : State) (o : Option (Nat × Nat)) : (s.ownerDone o).route = s.route := by
  cases o <;> rfl

theorem State.id_of_heldOf {s : State} {id : Nat} {h : Held} (hheld : s.heldOf id = some h) : h.id = id := by
  simpa using List.find?_some hheld

/-! ## The word of the input buffer (16 R511) -/

theorem State.bufferRead_of_clean {s : State} {h : Held} (hclean : h.inPort = none ∨ h.ecc = 0) : s.bufferRead h = s := by
  unfold State.bufferRead
  split
  · rfl
  · next hport => simp [hclean.resolve_left (by simp [hport])]

/-- The state in which a held packet whose word cannot be corrected is discarded. -/
def State.bufferLost (s : State) (h : Held) (n : Nat) : State :=
  ((s.unhold h).ownerDone h.owner).raise (Src.PRT_BUF_UNCORR n) { addr := n, atype := 5, unit := n }

theorem State.bufferRead_of_lost {s : State} {h : Held} {n : Nat} (hport : h.inPort = some n) (hecc : h.ecc = 2) :
    s.bufferRead h = s.bufferLost h n := by
  simp [State.bufferRead, hport, hecc, State.bufferLost]

theorem State.bufferLost_heldOf {s : State} (h : Held) (n : Nat) : (s.bufferLost h n).heldOf h.id = none := by
  have hwithin := State.raise_heldWithin ((s.unhold h).ownerDone h.owner) (Src.PRT_BUF_UNCORR n)
    { addr := n, atype := 5, unit := n }
  refine List.find?_eq_none.mpr fun x hx => ?_
  have hkept := hwithin.held hx
  rw [State.ownerDone_route, State.unhold_held, List.mem_filter] at hkept
  simpa using hkept.2

section

variable {s : State} {id : Nat} {h : Held} (hheld : s.heldOf id = some h) (hrun : s.halted = false)
include hheld hrun

theorem exec_winOutput_lost {n : Nat} (hport : h.inPort = some n) (hecc : h.ecc = 2) :
    exec (.winOutput id) s = .next (s.bufferLost h n).ended := by
  have hnone : (s.bufferLost h n).heldOf id = none := State.id_of_heldOf hheld ▸ State.bufferLost_heldOf h n
  rw [exec_winOutput, execWinOutput, hheld]
  dsimp only
  rw [if_neg (by simp [hrun]), State.bufferRead_of_lost hport hecc, hnone, fin_next]

theorem exec_winOutput_seeks (hclean : h.inPort = none ∨ h.ecc = 0) :
    exec (.winOutput id) s = .next (s.seekOutput h).ended := by
  rw [exec_winOutput, execWinOutput, hheld]
  dsimp only
  rw [if_neg (by simp [hrun]), State.bufferRead_of_clean hclean, hheld]
  rfl

end

/-! ## Bids (10 R340) -/

section

variable {s : State} {h : Held} {b : Bid}

/-- The first output of a packet that has room for it, and that no claim takes before it, is won. -/
theorem State.bid_of_wins {pool : Bool} (hroom : s.mayWin h b.port b.vc b.pkt.units = some pool)
    (hfirst : s.beaten h b.port b.vc = false) (l : List Bid) :
    s.bid h (b :: l) = s.claim h b.pkt b.port b.vc pool b.nonmin := by
  simp [State.bid, hroom, hfirst]

/-- Without room, or behind another claim, a packet waits with its claim. -/
theorem State.bid_of_waits (hwait : s.mayWin h b.port b.vc b.pkt.units = none ∨ s.beaten h b.port b.vc = true) :
    s.bid h [b] = s.wantAt h [(b.port, b.vc)] := by
  rcases hwait with hwait | hwait <;> simp [State.bid, hwait]

/-- A claim that no other packet makes moves no pointer (01 R27). -/
theorem State.claim_of_no_rivals {p : Packet} {n vc : Nat} (hout : s.rivals h n vc = []) (hland : s.landRivals h n vc = [])
    (hhops : p.get H.hops ≠ 7) (pool nonmin : Bool) :
    s.claim h p n vc pool nonmin = (s.unhold h).depart h p n vc pool nonmin := by
  simp [State.claim, State.tiesPast, hout, hland, State.ptrPast, State.win, hhops]

end

/-! ## The routes of a packet that is bound to no port (10 R329) -/

section

variable {s : State} {h : Held} (htwin : h.twin = none) (hturn : s.behindFrame h = false) (hdnv : s.on F.rteCfg_DNV = true)
include htwin hturn hdnv

theorem State.seekOutput_here (hhere : s.here ((s.phase2 h.pkt).get H.dst) = true) :
    s.seekOutput h = s.arrive { h with pkt := s.phase2 h.pkt } := by
  have hroute : s.routeOf (s.phase2 h.pkt) = (s, .deliver) := by simp [State.routeOf, hhere]
  simp [State.seekOutput, hturn, State.boundPort, htwin, hdnv, hroute]

theorem State.seekOutput_out {u : State} {c : Cand} {fp : Nat} (hroute : s.routeOf (s.phase2 h.pkt) = (u, .out c fp))
    (hvia : c.via = none) :
    s.seekOutput h = u.bid h ({ port := c.port, vc := u.bestVc c.port ((s.phase2 h.pkt).get H.mclass), pkt := s.phase2 h.pkt }
      :: if h.ferry then u.ferryBid (s.phase2 h.pkt) fp else []) := by
  simp [State.seekOutput, hturn, State.boundPort, htwin, hdnv, hroute, hvia]

end

/-! ## The outputs of a packet that is bound to no port (10 R329, R330, R340) -/

section

variable {s : State} {id : Nat} {h : Held} (hheld : s.heldOf id = some h) (hrun : s.halted = false)
  (hclean : h.inPort = none ∨ h.ecc = 0) (htwin : h.twin = none) (hturn : s.behindFrame h = false)
  (hdnv : s.on F.rteCfg_DNV = true)
include hheld hrun hclean htwin hturn hdnv

theorem exec_winOutput_here (hhere : s.here ((s.phase2 h.pkt).get H.dst) = true) :
    exec (.winOutput id) s = .next (s.arrive { h with pkt := s.phase2 h.pkt }).ended := by
  rw [exec_winOutput_seeks hheld hrun hclean, State.seekOutput_here htwin hturn hdnv hhere]

variable {u : State} {c : Cand} {fp : Nat} (hroute : s.routeOf (s.phase2 h.pkt) = (u, .out c fp)) (hvia : c.via = none)
include hroute hvia

theorem exec_winOutput_wins {pool : Bool}
    (hroom : u.mayWin h c.port (u.bestVc c.port ((s.phase2 h.pkt).get H.mclass)) (s.phase2 h.pkt).units = some pool)
    (hfirst : u.beaten h c.port (u.bestVc c.port ((s.phase2 h.pkt).get H.mclass)) = false) :
    exec (.winOutput id) s = .next (u.claim h (s.phase2 h.pkt) c.port
      (u.bestVc c.port ((s.phase2 h.pkt).get H.mclass)) pool false).ended := by
  rw [exec_winOutput_seeks hheld hrun hclean, State.seekOutput_out htwin hturn hdnv hroute hvia,
    State.bid_of_wins hroom hfirst]

theorem exec_winOutput_waits (hwait : u.mayWin h c.port (u.bestVc c.port ((s.phase2 h.pkt).get H.mclass))
      (s.phase2 h.pkt).units = none ∨ u.beaten h c.port (u.bestVc c.port ((s.phase2 h.pkt).get H.mclass)) = true)
    (hferry : h.ferry = false) : exec (.winOutput id) s
      = .next (u.wantAt h [(c.port, u.bestVc c.port ((s.phase2 h.pkt).get H.mclass))]).ended := by
  rw [exec_winOutput_seeks hheld hrun hclean, State.seekOutput_out htwin hturn hdnv hroute hvia, hferry,
    if_neg (by decide), State.bid_of_waits hwait]

end

/-! ## Flagged packets (10 R344, R351) -/

section

variable {s : State} {id : Nat} {h : Held} (hfind : s.route.flagged.find? (·.id == id) = some h)
include hfind

theorem exec_flaggedRelease_free (hrun : s.halted = false) (hcovered : h.behind.any s.unsacked = false)
    (hdrain : s.drainHolds h.pkt = false) : exec (.flaggedRelease id) s = .next (s.releaseFlagged h).ended := by
  rw [exec_flaggedRelease, execFlaggedRelease, hfind]
  dsimp only
  rw [if_neg (by simp [hcovered, hdrain, hrun]), fin_next]

theorem exec_flaggedRelease_waits (hheld : h.behind.any s.unsacked = true ∨ s.drainHolds h.pkt = true) :
    exec (.flaggedRelease id) s = .next s := by
  rw [exec_flaggedRelease, execFlaggedRelease, hfind]
  dsimp only
  rw [if_pos (by rcases hheld with hheld | hheld <;> simp [hheld])]

end

/-- A drain holds back the request class alone (10 R351). -/
theorem State.drainHolds_of_reply {p : Packet} (s : State) (hreply : p.get H.mclass = 1) : s.drainHolds p = false := by
  simp [State.drainHolds, hreply]

end Sys2Proof.Machine
end

section
/-! SUPPORT. A held packet that gains the ferry (10 R332, R341): whether it has a candidate output depends on the tables and on
the links, and not on the packets that wait. -/

namespace Sys2Proof.Machine

/-! ## Least costs -/

theorem leastCost_eq_none_iff (l : List Cand) : leastCost l = none ↔ l = [] := by
  cases l with
  | nil => simp [leastCost]
  | cons c l => cases h : leastCost l <;> simp [leastCost, h]

theorem exists_of_leastCost {l : List Cand} {k : Nat} (h : leastCost l = some k) : ∃ c ∈ l, c.cost2 = k := by
  induction l generalizing k with
  | nil => cases h
  | cons c l ih =>
    rw [leastCost] at h
    split at h
    · next j hj =>
      obtain ⟨x, hx, hcost⟩ := ih hj
      rcases min_choice c.cost2 j with hmin | hmin
      · exact ⟨c, List.mem_cons_self .., by simpa [hmin] using h⟩
      · exact ⟨x, List.mem_cons_of_mem _ hx, by simpa [hmin, hcost] using h⟩
    · exact ⟨c, List.mem_cons_self .., by simpa using h⟩

theorem leastCand_eq_none_iff (l : List Cand) : leastCand l = none ↔ l = [] := by
  unfold leastCand
  split
  · next k hk =>
    obtain ⟨c, hc, hcost⟩ := exists_of_leastCost hk
    have hfound : l.find? (fun c => c.cost2 == k) ≠ none := fun h => by simpa [hcost] using List.find?_eq_none.mp h c hc
    exact iff_of_false hfound (List.ne_nil_of_mem hc)
  · next hk => simpa using (leastCost_eq_none_iff l).mp hk

/-! ## The candidates of a packet (10 R329, R331) -/

/-- The group that a packet is on its way to (10 R329). -/
def routeGroup (p : Packet) : Nat := if p.get H.nonmin = 1 then p.get H.igroup else epGroup (p.get H.dst)

/-- The candidates toward the packet's group, or its member (10 R329). -/
def State.minCands (s : State) (p : Packet) : List Cand :=
  let b := s.rd F.rteCfg_BANK
  let tg := routeGroup p
  if tg = s.myGroup then s.memberCands b (epMember (p.get H.dst)) (p.get H.mclass)
  else s.groupCands b tg (if tg = epGroup (p.get H.dst) then 2 else 1) (p.get H.mclass)

/-- The candidates through the two groups that the source draws (10 R331). -/
def State.drawnCands (s : State) (p : Packet) : List Cand :=
  let b := s.rd F.rteCfg_BANK
  let l1 := Config.routeLfsr s.route.lfsr
  let l2 := Config.routeLfsr l1
  let g := s.rd F.rteCfg_GMAX + 1
  let first := (leastCand (s.minCands p)).map (·.port)
  let a := BitVec.ofNat 16 (p.get H.ahash)
  let dg := epGroup (p.get H.dst)
  s.nonminCand b ((a ^^^ l1).toNat % g) dg (p.get H.mclass) first
    ++ s.nonminCand b ((a ^^^ l2).toNat % g) dg (p.get H.mclass) first

/-- Every candidate of a packet. -/
def State.routeCands (s : State) (p : Packet) : List Cand :=
  let dg := epGroup (p.get H.dst)
  if p.get H.hops = 0 ∧ routeGroup p = dg ∧ dg ≠ s.myGroup then s.minCands p ++ s.drawnCands p else s.minCands p

/-- One of the candidates of least cost, or none (10 R330). -/
def chooseCand (l : List Cand) (fp k : Nat) : Verdict :=
  match leastCost l with
  | none => .wait fp
  | some c =>
    let w := l.filter fun x => x.cost2 == c
    match w[k % w.length]? with
    | some x => .out x fp
    | none => .wait fp

theorem chooseCand_wait_iff (l : List Cand) (fp k n : Nat) : chooseCand l fp k = .wait n ↔ l = [] ∧ fp = n := by
  unfold chooseCand
  split
  · next hnone => simp [(leastCost_eq_none_iff l).mp hnone]
  · next c hsome =>
    obtain ⟨x, hx, hcost⟩ := exists_of_leastCost hsome
    have hpos : 0 < (l.filter fun x => x.cost2 == c).length :=
      List.length_pos_of_mem (List.mem_filter.mpr ⟨hx, by simp [hcost]⟩)
    dsimp only
    rw [List.getElem?_eq_getElem (Nat.mod_lt k hpos)]
    simp [List.ne_nil_of_mem hx]

/-- The entry that R329 looks up for a packet is valid and not fenced. -/
def State.routeOk (s : State) (p : Packet) : Bool :=
  if routeGroup p = s.myGroup then s.memOk (s.rd F.rteCfg_BANK) (epMember (p.get H.dst))
  else s.grpOk (s.rd F.rteCfg_BANK) (routeGroup p)

/-- The ferry port of that entry. -/
def State.routeFerry (s : State) (p : Packet) : Nat :=
  if routeGroup p = s.myGroup then s.rd (F.rteMem_FPORT (s.rd F.rteCfg_BANK) (epMember (p.get H.dst)))
  else s.rd (F.rteGrp_FPORT (s.rd F.rteCfg_BANK) (routeGroup p))

/-- The number of that entry, as the errors of the tables name it (16 R511). -/
def State.routeEntry (s : State) (p : Packet) : Nat :=
  if routeGroup p = s.myGroup then epMember (p.get H.dst) else 65536 + routeGroup p

/-- What R329 answers, over the candidates. -/
theorem State.routeOf_snd (s : State) (p : Packet) :
    (s.routeOf p).2
      = if s.here (p.get H.dst) then .deliver
        else if s.latent Src.RTE_UNCORR (s.routeEntry p) then .fenced
        else if !s.routeOk p then .fenced
        else if p.get H.ferry = 1 then .ferry (s.routeFerry p)
        else chooseCand (s.routeCands p) (s.routeFerry p) (p.get H.ahash + p.get H.hops) := by
  have hchoose (x : State × List Cand) (fp k : Nat) : (match leastCost x.2 with
      | none => (x.1, Verdict.wait fp)
      | some c =>
        match (x.2.filter fun y : Cand => y.cost2 == c)[k % (x.2.filter fun y : Cand => y.cost2 == c).length]? with
        | some y => (x.1, .out y fp)
        | none => (x.1, .wait fp)).2 = chooseCand x.2 fp k := by
    unfold chooseCand
    split
    · rfl
    · dsimp only
      split <;> rfl
  unfold State.routeOf
  dsimp only
  rw [apply_ite Prod.snd, apply_ite Prod.snd, apply_ite Prod.snd, apply_ite Prod.snd]
  refine if_congr Iff.rfl rfl (if_congr Iff.rfl rfl (if_congr Iff.rfl rfl (if_congr Iff.rfl rfl ?_)))
  refine (hchoose _ _ _).trans ?_
  rw [apply_ite Prod.snd, List.append_assoc]
  rfl

end Sys2Proof.Machine
end

section
/-! SUPPORT. FERRY_WAIT (10 R332, R341): the packets that wait weigh on the costs of candidates, and not on there being any. -/

namespace Sys2Proof.Machine

/-- The state with other packets that wait for outputs. -/
def State.withHeld (s : State) (l : List Held) : State := { s with route := { s.route with held := l } }

/-- The ports of the candidates toward another group, without their costs. -/
theorem State.groupCands_ports (s : State) (b g h cls : Nat) : (s.groupCands b g h cls).map (·.port)
    = (([s.rd (F.rteGrp_GPORT0 b g), s.rd (F.rteGrp_GPORT1 b g)].take (s.rd (F.rteGrp_NDIR b g))).filter
        fun n => s.live n PR.globalPort)
      ++ (List.range (min 4 (s.rd (F.rteGrp_NVIA b g)))).filterMap fun k =>
        if s.memOk b (s.rd (F.rteGrp_VIA b g k) / 64) then (s.memPorts b (s.rd (F.rteGrp_VIA b g k) / 64)).head? else none := by
  rw [State.groupCands, List.map_append, List.map_map, List.map_filterMap]
  refine congrArg₂ (· ++ ·) (List.map_id _) (List.filterMap_congr fun k _ => ?_)
  dsimp only
  split
  · cases s.memPorts b (s.rd (F.rteGrp_VIA b g k) / 64) <;> rfl
  · rfl

theorem State.groupCands_withHeld (s : State) (l : List Held) (b g h cls : Nat) :
    (s.withHeld l).groupCands b g h cls = [] ↔ s.groupCands b g h cls = [] := by
  rw [← List.map_eq_nil_iff (f := Cand.port), ← List.map_eq_nil_iff (f := Cand.port) (l := s.groupCands b g h cls)]
  simp only [State.groupCands_ports]
  rfl

theorem State.minCands_withHeld (s : State) (l : List Held) (p : Packet) :
    (s.withHeld l).minCands p = [] ↔ s.minCands p = [] := by
  have hgroup : (s.withHeld l).myGroup = s.myGroup := rfl
  have hbank : (s.withHeld l).rd F.rteCfg_BANK = s.rd F.rteCfg_BANK := rfl
  unfold State.minCands
  dsimp only
  rw [hgroup, hbank]
  split
  · simp only [State.memberCands, List.map_eq_nil_iff]
    rfl
  · exact s.groupCands_withHeld l _ _ _ _

/-- A group that may be the intermediate one has a candidate when some port leads there. -/
theorem State.nonminCand_eq_nil_iff (s : State) (b i dg cls : Nat) (first : Option Nat) :
    s.nonminCand b i dg cls first = [] ↔
      (i = s.myGroup ∨ i = dg ∨ !s.grpOk b i) ∨ s.groupCands b i 1 cls = [] := by
  unfold State.nonminCand
  split
  · next hno => exact iff_of_true rfl (.inl hno)
  · next hok =>
    rw [or_iff_right hok, ← leastCand_eq_none_iff (s.groupCands b i 1 cls)]
    cases leastCand (s.groupCands b i 1 cls) <;> simp

theorem State.nonminCand_withHeld (s : State) (l : List Held) (b i dg cls : Nat) (first first' : Option Nat) :
    (s.withHeld l).nonminCand b i dg cls first = [] ↔ s.nonminCand b i dg cls first' = [] := by
  rw [State.nonminCand_eq_nil_iff, State.nonminCand_eq_nil_iff, State.groupCands_withHeld]
  rfl

theorem State.routeCands_withHeld (s : State) (l : List Held) (p : Packet) :
    (s.withHeld l).routeCands p = [] ↔ s.routeCands p = [] := by
  have hdrawn : (s.withHeld l).drawnCands p = [] ↔ s.drawnCands p = [] := by
    unfold State.drawnCands
    dsimp only
    rw [List.append_eq_nil_iff, List.append_eq_nil_iff]
    exact and_congr (s.nonminCand_withHeld l _ _ _ _ _ _) (s.nonminCand_withHeld l _ _ _ _ _ _)
  have hgroup : (s.withHeld l).myGroup = s.myGroup := rfl
  unfold State.routeCands
  dsimp only
  rw [hgroup]
  split
  · rw [List.append_eq_nil_iff, List.append_eq_nil_iff, State.minCands_withHeld, hdrawn]
  · exact s.minCands_withHeld l p

/-- A packet that only the ferry can carry is such a packet whatever else waits. -/
theorem State.routeOf_wait_of_withHeld {s : State} {l : List Held} {p : Packet} {fp : Nat}
    (hwait : ((s.withHeld l).routeOf p).2 = .wait fp) : (s.routeOf p).2 = .wait fp := by
  have hhere : (s.withHeld l).here = s.here := rfl
  have hlatent : (s.withHeld l).latent Src.RTE_UNCORR ((s.withHeld l).routeEntry p)
    = s.latent Src.RTE_UNCORR (s.routeEntry p) := rfl
  have hok : (s.withHeld l).routeOk p = s.routeOk p := rfl
  have hferry : (s.withHeld l).routeFerry p = s.routeFerry p := rfl
  rw [State.routeOf_snd, hhere, hlatent, hok, hferry] at hwait
  rw [State.routeOf_snd]
  split_ifs at hwait ⊢
  rw [chooseCand_wait_iff] at hwait ⊢
  exact ⟨(s.routeCands_withHeld l p).mp hwait.1, hwait.2⟩

section

variable {s : State} {h : Held}

/-- The state in which a held packet has gained the ferry. -/
def State.ferried (s : State) (h : Held) : State :=
  s.withHeld (s.route.held.map fun x => if x.id = h.id then { h with ferry := true } else x)

/-- A packet that is not routed yet, that is bound to a port, or that has a candidate gains the ferry and waits on. -/
theorem State.gainFerry_of_candidate
    (hcand : s.on F.rteCfg_DNV = false ∨ (s.boundPort h).isSome = true
      ∨ ∃ c fp, (s.routeOf (s.phase2 h.pkt)).2 = .out c fp) : s.gainFerry h = s.ferried h := by
  have hdnv : (s.ferried h).on F.rteCfg_DNV = s.on F.rteCfg_DNV := rfl
  have hbound : (s.ferried h).boundPort h = s.boundPort h := rfl
  have hphase : (s.ferried h).phase2 h.pkt = s.phase2 h.pkt := rfl
  have hgain : s.gainFerry h = if !(s.ferried h).on F.rteCfg_DNV || ((s.ferried h).boundPort h).isSome then s.ferried h
      else match ((s.ferried h).routeOf ((s.ferried h).phase2 h.pkt)).2 with
        | .wait fp => if (s.ferried h).ferryUp fp then s.ferried h
            else (s.ferried h).dropHeld { h with ferry := true } F.rteStat_NOROUTE
        | _ => s.ferried h := rfl
  rw [hgain, hdnv, hbound, hphase]
  rcases hcand with hoff | hsome | ⟨c, fp, hout⟩
  · exact if_pos (by simp [hoff])
  · exact if_pos (by simp [hsome])
  · split
    · rfl
    · split
      · next k hwait =>
        rw [State.routeOf_wait_of_withHeld hwait] at hout
        cases hout
      · rfl

theorem exec_ferryWaitExpiry_gains {id : Nat} (hheld : s.heldOf id = some h) (hrun : s.halted = false)
    (hnot : h.ferry = false) (hpkt : h.pkt.get H.ferry ≠ 1) : exec (.ferryWaitExpiry id) s
      = .next ((s.passTo (h.since + xbarNs (s.rd F.rteCfg_FERRY_WAIT))).gainFerry h).ended := by
  rw [exec_ferryWaitExpiry, execFerryWaitExpiry, hheld]
  dsimp only
  rw [if_neg (by simp [hrun, hnot, hpkt]), fin_next]

end

end Sys2Proof.Machine
end

section
/-! SUPPORT. Writes of route tables (10 R324, R327): the active bank takes only a change of FENCE, which is in word 0. -/

namespace Sys2Proof.Machine

/-- The word of the route tables that a select names (10 R324). -/
abbrev rteWord (sel : Nat) (w : Fin 2) : Reg :=
  if bits (BitVec.ofNat 64 sel) 16 16 = 1 then .rteMem (bits (BitVec.ofNat 64 sel) 17 17) (sel % 4096) w
  else .rteGrp (bits (BitVec.ofNat 64 sel) 17 17) (sel % 4096) w

section

variable {s : State} {m : Mst} {w : Fin 2} {v : Word} {sel : Nat} (hsel : s.selOf m .rte = sel)
  (hentry : ¬bits (BitVec.ofNat 64 sel) 16 16 = 1 ∨ sel % 4096 < 64)
include hsel hentry

theorem State.rteWrite_of_entry : s.rteWrite m w v =
    if bits (BitVec.ofNat 64 sel) 17 17 = s.rd F.rteCfg_BANK then
      if (s.get (rteWord sel w) ^^^ accWrite (rteWord sel w) false (s.get (rteWord sel w)) v)
          &&& ~~~(if w.val = 0 then (1#64 <<< 62) else 0) ≠ 0 then s.count F.rteStat_REFUSED
      else if s.get (rteWord sel w) = accWrite (rteWord sel w) false (s.get (rteWord sel w)) v then s
      else (s.winWrite m 4 w sel (rteWord sel w) v).1
    else (s.winWrite m 4 w sel (rteWord sel w) v).1 := by
  have hin : ¬(bits (BitVec.ofNat 64 sel) 16 16 == 1 && decide (64 ≤ sel % 4096)) = true := by
    simpa [Nat.not_le, imp_iff_not_or] using hentry
  rw [State.rteWrite]
  dsimp only
  rw [hsel, if_neg hin]
  simp only [beq_iff_eq]

/-- The other bank takes any change whose record is granted. -/
theorem State.rteWrite_of_other_bank (hbank : bits (BitVec.ofNat 64 sel) 17 17 ≠ s.rd F.rteCfg_BANK) {t : State}
    (hput : s.winWrite m 4 w sel (rteWord sel w) v = (t, true)) :
    s.rteWrite m w v = t ∧ t.get (rteWord sel w) = accWrite (rteWord sel w) false (s.get (rteWord sel w)) v := by
  rw [State.rteWrite_of_entry hsel hentry, if_neg hbank, hput]
  exact ⟨rfl, State.cfgPut_get hput⟩

variable (hbank : bits (BitVec.ofNat 64 sel) 17 17 = s.rd F.rteCfg_BANK)
include hbank

theorem State.rteWrite_of_same
    (hsame : s.get (rteWord sel w) = accWrite (rteWord sel w) false (s.get (rteWord sel w)) v) : s.rteWrite m w v = s := by
  rw [State.rteWrite_of_entry hsel hentry, if_pos hbank, ← hsame]
  simp

theorem State.rteWrite_of_word1 (hw : w = 1)
    (hnew : s.get (rteWord sel w) ≠ accWrite (rteWord sel w) false (s.get (rteWord sel w)) v) :
    s.rteWrite m w v = s.count F.rteStat_REFUSED := by
  have hmask : ~~~(if w.val = 0 then (1#64 <<< 62) else 0) = BitVec.allOnes 64 := by rw [hw]; rfl
  rw [State.rteWrite_of_entry hsel hentry, if_pos hbank, hmask, BitVec.and_allOnes]
  exact if_pos fun hzero => hnew (BitVec.xor_eq_zero_iff.mp hzero)

end

end Sys2Proof.Machine
end

section
/-! SUPPORT. Tide reports (10 R333, R334): when one is due, and the control frame that carries it. -/

namespace Sys2Proof.Machine

/-- A port with a control frame due (11 R382). -/
def Port.due (p : Port) (k : Nat) : Port := { p with ctl := if p.ctl.contains k then p.ctl else k :: p.ctl }

theorem State.ctlDue_eq (s : State) (n k : Nat) : s.ctlDue n k = s.setPort n fun p => p.due k := rfl

theorem Port.mem_due_self (p : Port) (k : Nat) : k ∈ (p.due k).ctl := by
  unfold Port.due
  split
  · next h => simpa using h
  · exact List.mem_cons_self ..

theorem Port.mem_due_of_mem {p : Port} {j : Nat} (h : j ∈ p.ctl) (k : Nat) : j ∈ (p.due k).ctl := by
  unfold Port.due
  split
  · exact h
  · exact List.mem_cons_of_mem _ h

/-- The state once the TIME frame of a port is due, when its time has come (11 R389). -/
def State.timeFalls (s : State) (n : Nat) : State :=
  if s.on F.lnkGlbCfg_TEN && s.portUp n && decide ((s.port n).timeAt + s.tPeriod ≤ s.now) then
    (s.ctlDue n CD.time).setPort n fun p => { p with timeAt := s.now }
  else s

/-- The state once the tide report of a port is due (10 R333). -/
def State.tideFalls (s : State) (n : Nat) : State := (s.ctlDue n CD.tide).setPort n fun p => { p with tideAt := s.now }

theorem State.timeFalls_now (s : State) (n : Nat) : (s.timeFalls n).now = s.now := by
  unfold State.timeFalls
  split <;> rfl

theorem State.timeFalls_ctl {s : State} {n : Nat} (hten : s.on F.lnkGlbCfg_TEN = true) (hup : s.portUp n = true)
    (hdue : (s.port n).timeAt + s.tPeriod ≤ s.now) : CD.time ∈ ((s.timeFalls n).port n).ctl := by
  rw [State.timeFalls, if_pos (by simp [hten, hup, hdue]), State.setPort_port_same, State.ctlDue_eq,
    State.setPort_port_same]
  exact Port.mem_due_self _ _

theorem State.tideFalls_port (s : State) (n : Nat) :
    (s.tideFalls n).port n = { (s.port n).due CD.tide with tideAt := s.now } := by
  rw [State.tideFalls, State.setPort_port_same, State.ctlDue_eq, State.setPort_port_same]

/-- Where the tide report of an aligned port is due, the CREDIT frame may be due behind it (11 R382). -/
theorem State.ctlPeriods_of_tide {s : State} {n : Nat} (halign : (s.port n).aligned = true)
    (hdue : (s.port n).tideAt + 500 ≤ s.now) : s.ctlPeriods n = (s.timeFalls n).tideFalls n
      ∨ s.ctlPeriods n = ((s.timeFalls n).tideFalls n).ctlDue n CD.credit := by
  have htide : (if (s.port n).aligned && decide ((s.port n).tideAt + 500 ≤ s.now) then (s.timeFalls n).tideFalls n
      else s.timeFalls n) = (s.timeFalls n).tideFalls n := if_pos (by simp [halign, hdue])
  have hcredit : s.ctlPeriods n = if (s.port n).aligned
      && decide ((s.port n).creditAt + max 1 (((s.timeFalls n).tideFalls n).rd F.lnkGlbCfg_CRPERIOD) * 10 ≤ s.now)
      then ((s.timeFalls n).tideFalls n).ctlDue n CD.credit else (s.timeFalls n).tideFalls n := by
    rw [← htide]
    rfl
  rw [hcredit]
  split
  · exact .inr rfl
  · exact .inl rfl

/-- The tide report of an aligned port is due 500 ns after the last, and with it the TIME frame when that is due
(10 R333, 11 R382). -/
theorem State.ctlPeriods_tide {s : State} {n : Nat} (halign : (s.port n).aligned = true)
    (hdue : (s.port n).tideAt + 500 ≤ s.now) :
    (s.ctlPeriods n).now = s.now ∧ ((s.ctlPeriods n).port n).tideAt = s.now ∧ CD.tide ∈ ((s.ctlPeriods n).port n).ctl
      ∧ (s.on F.lnkGlbCfg_TEN = true → s.portUp n = true → (s.port n).timeAt + s.tPeriod ≤ s.now →
          CD.time ∈ ((s.ctlPeriods n).port n).ctl) := by
  have hnow : ((s.timeFalls n).tideFalls n).now = s.now := s.timeFalls_now n
  have htide : CD.tide ∈ (((s.timeFalls n).tideFalls n).port n).ctl := by
    rw [State.tideFalls_port]
    exact Port.mem_due_self _ _
  have htime (hten : s.on F.lnkGlbCfg_TEN = true) (hup : s.portUp n = true)
      (hlate : (s.port n).timeAt + s.tPeriod ≤ s.now) : CD.time ∈ (((s.timeFalls n).tideFalls n).port n).ctl := by
    rw [State.tideFalls_port]
    exact Port.mem_due_of_mem (State.timeFalls_ctl hten hup hlate) _
  have hsent : (((s.timeFalls n).tideFalls n).port n).tideAt = s.now := by
    rw [State.tideFalls_port]
    exact s.timeFalls_now n
  rcases State.ctlPeriods_of_tide halign hdue with h | h <;> rw [h]
  · exact ⟨hnow, hsent, htide, htime⟩
  · rw [State.ctlDue_eq, State.setPort_port_same]
    exact ⟨hnow, hsent, Port.mem_due_of_mem htide _, fun hten hup hlate => Port.mem_due_of_mem (htime hten hup hlate) _⟩

/-- What a port holds beside words stays while time passes. -/
theorem State.passTo_port (s : State) (t n : Nat) : (s.passTo t).port n = s.port n := by
  obtain ⟨l, c, p, h⟩ := s.passTo_parts t
  rw [h]
  rfl

theorem exec_tideReportSend_due {n : PortNum} {s : State} (hrun : s.halted = false) (halign : (s.port n).aligned = true) :
    Gives (exec (.tideReportSend n) s) fun t => (t.port n).tideAt = t.now ∧ (s.port n).tideAt + 500 ≤ t.now
      ∧ CD.tide ∈ (t.port n).ctl ∧ (s.on F.lnkGlbCfg_TEN = true → s.portUp n = true →
        (s.port n).timeAt + s.tPeriod ≤ t.now → CD.time ∈ (t.port n).ctl) := by
  have hport := s.passTo_port ((s.port n).tideAt + 500) n
  have hword (f : Fld) (hf : ¬TimeReg f.reg) : (s.passTo ((s.port n).tideAt + 500)).rd f = s.rd f :=
    (s.passTo_onlyWords _).rd f hf
  have hlate : (s.port n).tideAt + 500 ≤ (s.passTo ((s.port n).tideAt + 500)).now := by
    rw [State.passTo_now]
    exact Nat.le_max_right _ _
  obtain ⟨hnow, hsent, htide, htime⟩ := State.ctlPeriods_tide (by rw [hport]; exact halign) (by rw [hport]; exact hlate)
  rw [exec_tideReportSend, execTideReportSend, if_pos (by simp [halign, hrun])]
  refine gives_fin ⟨hsent.trans hnow.symm, hnow ▸ hlate, htide, fun hten hup hper => htime ?_ ?_ ?_⟩
  · rw [State.on, hword _ (by simp [TimeReg])]
    exact hten
  · rw [State.portUp, State.on, hword _ (by simp [TimeReg])]
    exact hup
  · rw [hport, State.tPeriod, hword _ (by simp [TimeReg])]
    exact hnow ▸ hper

/-! ## The control frame of a tide report (10 R333, 11 R379) -/

theorem State.controlWord_kind (s : State) (n : Nat) {kind : Nat} (h : kind < 16) : bits (s.controlWord n kind) 55 52 = kind := by
  have hexpect : s.rd (F.lnkStat_EXPECT n) < 2 ^ 16 := bits_lt _ _ _
  have hnext : s.rd (F.lnkStat_NEXT n) < 2 ^ 16 := bits_lt _ _ _
  have hnak : (s.port n).nakDue.toNat ≤ 1 := Bool.toNat_le _
  simp only [State.controlWord, bits, BitVec.toNat_ofNat]
  omega

/-- What a port owes counts in no level. -/
theorem State.tideWord_setCtl (s : State) (n k : Nat) (l : List Nat) :
    (s.setPort n fun p => { p with ctl := l }).tideWord k = s.tideWord k := by
  have htxq (m : Nat) : ((s.setPort n fun p => { p with ctl := l }).port m).txq = (s.port m).txq := by
    rw [State.setPort_port]
    split
    · next h => rw [h]
    · rfl
  simp only [State.tideWord, State.ordLevel, State.portLevel, State.occLevel, State.queued, State.setPort_rd,
    State.setPort_route, htxq]

/-- A port that owes the tide report alone sends it, with its four words (10 R333). -/
theorem State.ctlFlush_tide {s : State} {n : Nat} (howed : (s.port n).ctl = [CD.tide]) (hmay : s.mayControl n = true) :
    ∃ o : Octet, (s.ctlFlush n).out = s.out ++ [.control n o] ∧ bits o.w0 55 52 = 1 ∧ o.w1 = s.tideWord 0
      ∧ o.w2 = s.tideWord 1 ∧ o.w3 = s.tideWord 2 ∧ o.w4 = s.tideWord 3 := by
  have hflush : s.ctlFlush n = (s.setPort n fun p => { p with ctl := [] }).sendTide n := by
    simp [State.ctlFlush, howed]
  have hmay' : (s.setPort n fun p => { p with ctl := [] }).mayControl n = true := by
    simpa [State.mayControl, State.halted, State.on] using hmay
  rw [hflush, State.sendTide, State.sendControl, if_neg (by simp [hmay'])]
  refine ⟨_, rfl, State.controlWord_kind _ n (by decide), ?_, ?_, ?_, ?_⟩ <;> exact s.tideWord_setCtl n _ []

end Sys2Proof.Machine
end

section
/-! SUPPORT. The loop of a port (10 R336, R337): the window that it measures, its one step, and a write of RTE_LOOP. -/

namespace Sys2Proof.Machine

/-! ## The window (10 R336) -/

/-- MARKRATE of the window that ends. -/
def State.windowMarks (s : State) (n : Nat) : Nat := per256 (s.port n).marks (s.port n).wins

/-- QMEAN of the window that ends. -/
def State.windowMean (s : State) (n : Nat) : Nat :=
  min 15 (((s.port n).occ + (s.port n).occLvl * (s.now - (s.port n).occAt)) / max 1 (s.now - (s.port n).winAt))

/-- The state with the measures of the window, and a new window begun. -/
def State.measured (s : State) (n : Nat) : State :=
  ((((s.windowStart n).wr (F.rteLoop_MARKRATE n) (s.windowMarks n)).wr (F.rteLoop_QMEAN n) (s.windowMean n)).wr
    (F.rteLoop_NMRATE n) (per256 (s.port n).nonmins (s.port n).wins))

/-- The measures lie below the fields that the loop steps. -/
theorem State.measured_rd (s : State) (n : Nat) {f : Fld} (hhi : f.hi < 64) (hlo : 23 < f.lo) : (s.measured n).rd f = s.rd f := by
  have hmark : (F.rteLoop_MARKRATE n).Apart f := .inr (.inr hlo)
  have hmean : (F.rteLoop_QMEAN n).Apart f := .inr (.inr (Nat.lt_trans (by simp) hlo))
  have hrate : (F.rteLoop_NMRATE n).Apart f := .inr (.inr (Nat.lt_trans (by simp) hlo))
  rw [State.measured, State.rd_wr_apart _ _ (by simp) hhi hrate, State.rd_wr_apart _ _ (by simp) hhi hmean,
    State.rd_wr_apart _ _ (by simp) hhi hmark]
  rfl

/-! ## The step of BIAS and of MARKTH (10 R337) -/

/-- One step of BIAS, by the mean of the window. -/
def State.loopBiasStep (s : State) (n qm : Nat) : State :=
  let b := s.rd (F.rteLoop_BIAS n)
  if 10 ≤ qm ∧ s.rd (F.rteLoop_BIAS_MIN n) < b then s.wr (F.rteLoop_BIAS n) (b - 1)
  else if qm ≤ 3 ∧ b < s.rd (F.rteLoop_BIAS_MAX n) then s.wr (F.rteLoop_BIAS n) (b + 1)
  else s

/-- One step of MARKTH from `t`, by the marks and the mean of the window. -/
def State.loopMarkStep (s : State) (n mr qm t : Nat) : State :=
  if 4 < mr ∧ qm < 8 ∧ t < s.rd (F.rteLoop_MTH_MAX n) then s.wr (F.rteLoop_MARKTH n) (t + 1)
  else if mr < 1 ∧ s.rd (F.rteLoop_MTH_MIN n) < t then s.wr (F.rteLoop_MARKTH n) (t - 1)
  else s

theorem State.loopWindow_eq (s : State) (n : Nat) : s.loopWindow n
    = if (s.measured n).on (F.rteLoop_FREEZE n) then s.measured n
      else ((s.measured n).loopBiasStep n (s.windowMean n)).loopMarkStep n (s.windowMarks n) (s.windowMean n)
        ((s.measured n).rd (F.rteLoop_MARKTH n)) := rfl

theorem State.loopMarkStep_bias (s : State) (n mr qm t : Nat) :
    (s.loopMarkStep n mr qm t).rd (F.rteLoop_BIAS n) = s.rd (F.rteLoop_BIAS n) := by
  have hapart : (F.rteLoop_MARKTH n).Apart (F.rteLoop_BIAS n) := .inr (.inr (by simp))
  have hstep (v : Nat) : (s.wr (F.rteLoop_MARKTH n) v).rd (F.rteLoop_BIAS n) = s.rd (F.rteLoop_BIAS n) :=
    s.rd_wr_apart v (by simp) (by simp) hapart
  unfold State.loopMarkStep
  split
  · exact hstep _
  · split
    · exact hstep _
    · rfl

/-- BIAS stays, or moves by one away from the limit that it has not reached. -/
theorem State.loopBiasStep_cases (s : State) (n qm : Nat) :
    let b := s.rd (F.rteLoop_BIAS n)
    let b' := (s.loopBiasStep n qm).rd (F.rteLoop_BIAS n)
    b' = b ∨ (s.rd (F.rteLoop_BIAS_MIN n) < b ∧ b' = b - 1) ∨ (b < s.rd (F.rteLoop_BIAS_MAX n) ∧ b' = b + 1) := by
  intro b b'
  have hwidth : b < 16 := bits_lt _ _ _
  have hmax : s.rd (F.rteLoop_BIAS_MAX n) < 16 := bits_lt _ _ _
  have hput (v : Nat) (hv : v < 16) : (s.wr (F.rteLoop_BIAS n) v).rd (F.rteLoop_BIAS n) = v :=
    (s.rd_wr (F.rteLoop_BIAS n) v (by simp) (by simp)).trans (Nat.mod_eq_of_lt hv)
  unfold b' State.loopBiasStep
  dsimp only
  split
  · next hdown => exact .inr (.inl ⟨hdown.2, hput _ (by omega)⟩)
  · split
    · next hup => exact .inr (.inr ⟨hup.2, hput _ (by omega)⟩)
    · exact .inl rfl

/-- While FREEZE is set the loop only measures (10 R337). -/
theorem State.loopWindow_frozen {s : State} {n : Nat} (hfreeze : s.on (F.rteLoop_FREEZE n) = true) :
    s.loopWindow n = s.measured n := by
  rw [State.loopWindow_eq, if_pos]
  rw [State.on, State.measured_rd s n (by simp) (by simp)]
  exact hfreeze

/-- BIAS after a window stays, or has moved by one away from the limit that it had not reached. -/
theorem State.loopWindow_bias (s : State) (n : Nat) :
    let b := s.rd (F.rteLoop_BIAS n)
    let b' := (s.loopWindow n).rd (F.rteLoop_BIAS n)
    b' = b ∨ (s.rd (F.rteLoop_BIAS_MIN n) < b ∧ b' = b - 1) ∨ (b < s.rd (F.rteLoop_BIAS_MAX n) ∧ b' = b + 1) := by
  have hfield {f : Fld} (hhi : f.hi < 64) (hlo : 23 < f.lo) := s.measured_rd n hhi hlo
  have hstep := (s.measured n).loopBiasStep_cases n (s.windowMean n)
  rw [hfield (by simp) (by simp), hfield (by simp) (by simp), hfield (by simp) (by simp)] at hstep
  dsimp only
  rw [State.loopWindow_eq]
  split
  · exact .inl (hfield (by simp) (by simp))
  · rw [State.loopMarkStep_bias]
    exact hstep

/-- The state at the end of the window of a port's loop, no sooner than 10 µs after it began. -/
abbrev State.windowEnd (s : State) (n : Nat) : State := s.passTo ((s.port n).winAt + 10000)

theorem exec_rteLoopWindow_enabled {n : PortNum} {s : State} (hrun : s.halted = false) (hen : s.on (F.rteLoop_EN n) = true) :
    exec (.rteLoopWindow n) s = .next ((s.windowEnd n).loopWindow n).ended := by
  rw [exec_rteLoopWindow, execRteLoopWindow, if_pos (by simp [hen, hrun]), fin_next]

/-- The time that passes leaves the word of the loop. -/
theorem State.windowEnd_rd (s : State) (n : Nat) {f : Fld} (hf : f.reg = .rteLoop n) : (s.windowEnd n).rd f = s.rd f :=
  (s.passTo_onlyWords _).rd f (by simp [hf, TimeReg])

theorem State.windowEnd_frozen {s : State} {n : Nat} (hfreeze : s.on (F.rteLoop_FREEZE n) = true) :
    ((s.windowEnd n).loopWindow n).rd (F.rteLoop_BIAS n) = s.rd (F.rteLoop_BIAS n)
      ∧ ((s.windowEnd n).loopWindow n).rd (F.rteLoop_MARKTH n) = s.rd (F.rteLoop_MARKTH n) := by
  rw [State.loopWindow_frozen (by rw [State.on, State.windowEnd_rd s n rfl]; exact hfreeze),
    State.measured_rd _ _ (by simp) (by simp), State.measured_rd _ _ (by simp) (by simp)]
  exact ⟨s.windowEnd_rd n rfl, s.windowEnd_rd n rfl⟩

/-- BIAS moves by one at most, and stays within limits that held it (10 R337). -/
theorem State.windowEnd_bias (s : State) (n : Nat) :
    let b := s.rd (F.rteLoop_BIAS n)
    let b' := ((s.windowEnd n).loopWindow n).rd (F.rteLoop_BIAS n)
    b' ≤ b + 1 ∧ b ≤ b' + 1 ∧ (s.rd (F.rteLoop_BIAS_MIN n) ≤ b → b ≤ s.rd (F.rteLoop_BIAS_MAX n) →
      s.rd (F.rteLoop_BIAS_MIN n) ≤ b' ∧ b' ≤ s.rd (F.rteLoop_BIAS_MAX n)) := by
  have hstep := (s.windowEnd n).loopWindow_bias n
  rw [s.windowEnd_rd n rfl, s.windowEnd_rd n rfl, s.windowEnd_rd n rfl] at hstep
  dsimp only
  omega

/-! ## A write of RTE_LOOP (10 R337) -/

/-- A value that is limited lies within its limits. -/
theorem limited_bounds {lo hi : Nat} (h : lo ≤ hi) (old v : Nat) : lo ≤ limited lo hi old v ∧ limited lo hi old v ≤ hi := by
  unfold limited
  split
  · next hin => exact hin
  · exact ⟨le_min h (le_max_left _ _), min_le_left _ _⟩

theorem loopNew_bias (old v : Word) :
    bits (loopNew old v) 61 58 = limited (bits v 57 54) (bits v 53 50) (bits old 61 58) (bits v 61 58) % 16 := by
  rw [loopNew, bits_setBits_apart _ _ (by decide) (by decide) (.inr (by decide)), bits_setBits _ _ _ _ (by decide) (by decide)]
  rfl

/-- A write whose limits are in order keeps BIAS within them. -/
theorem loopNew_bounds {v : Word} (h : bits v 57 54 ≤ bits v 53 50) (old : Word) :
    bits v 57 54 ≤ bits (loopNew old v) 61 58 ∧ bits (loopNew old v) 61 58 ≤ bits v 53 50 := by
  obtain ⟨hlo, hhi⟩ := limited_bounds h (bits old 61 58) (bits v 61 58)
  have hwidth : bits v 53 50 < 16 := bits_lt _ _ _
  rw [loopNew_bias, Nat.mod_eq_of_lt (by omega)]
  exact ⟨hlo, hhi⟩

end Sys2Proof.Machine
end

section
/-! PROOFS. Packets and the loops of a port (10 R324 to R347). -/

namespace Sys2Proof.Machine

/-- Settles O49: the routing unit's commands, one lemma for each end of each. The word that R511 reads, the verdict of R329, the
room and the claims of the others decide where a held packet goes; the bank decides what a table takes; and the loop's step
decides BIAS. -/
theorem routingAndPortLoops : Obligations.RoutingAndPortLoops := by
  unfold Obligations.RoutingAndPortLoops
  refine ⟨fun q id src t s u bs hreads => ⟨fun h => (exec_dgram q id src s).trans (State.plainEntry_reads hreads h _ _),
      fun h => (exec_mgmt q id src s).trans (State.plainEntry_reads hreads h _ _)⟩,
    fun id h s hheld hrun => ⟨exec_winOutput_seeks hheld hrun, fun n => exec_winOutput_lost hheld hrun,
      fun hclean htwin hturn hdnv => ⟨exec_winOutput_here hheld hrun hclean htwin hturn hdnv,
        fun u c fp hroute hvia => ⟨fun pool hroom hfirst =>
            ⟨exec_winOutput_wins hheld hrun hclean htwin hturn hdnv hroute hvia hroom hfirst,
              fun hout hland hhops => State.claim_of_no_rivals hout hland hhops pool false⟩,
          exec_winOutput_waits hheld hrun hclean htwin hturn hdnv hroute hvia⟩⟩,
      fun hferry hpkt => ⟨exec_ferryWaitExpiry_gains hheld hrun hferry hpkt, State.gainFerry_of_candidate⟩⟩,
    fun id h s hfind hrun => ⟨exec_flaggedRelease_free hfind hrun, exec_flaggedRelease_waits hfind, s.drainHolds_of_reply⟩,
    fun p s hrun => ⟨fun htype => ⟨exec_dgramArrival_discarded hrun htype, fun hcrc =>
        ⟨exec_dgramArrival_passes hrun htype hcrc, fun hpol => (exec_dgramArrival_policed hrun htype hcrc hpol).1,
          fun hpol => (exec_dgramArrival_policed hrun htype hcrc hpol).2⟩⟩,
      fun said htype => ⟨fun h hfind k hport => State.arrivedBy_of_arrived hfind hport said,
        exec_mgmtArrival_discarded hrun htype said, fun hcrc => ⟨exec_mgmtArrival_refused hrun htype said hcrc,
          fun i => exec_mgmtArrival_kept hrun htype said hcrc⟩⟩⟩,
    fun m w v s => ⟨fun hopens => (exec_routeTableWrite m w v s).trans (regWriteRow_opens hopens _ _), fun hentry =>
      ⟨fun hbank t => State.rteWrite_of_other_bank rfl hentry hbank, State.rteWrite_of_same rfl hentry,
        State.rteWrite_of_word1 rfl hentry⟩⟩,
    fun n s hrun => ⟨exec_tideReportSend_due hrun, State.ctlFlush_tide, fun hen => ?_, fun m v =>
      ⟨fun hopens => (exec_rteLoopWrite m n v s).trans (regWriteRow_opens hopens _ _), fun h => loopNew_bounds h _⟩⟩⟩
  obtain ⟨hup, hdown, hlimits⟩ := s.windowEnd_bias n
  have hlate : (s.port n).winAt + 10000 ≤ (s.windowEnd n).now := by
    rw [State.passTo_now]
    exact Nat.le_max_right _ _
  exact ⟨exec_rteLoopWindow_enabled hrun hen, hlate, State.windowEnd_frozen, hup, hdown, hlimits⟩

end Sys2Proof.Machine
end

section
/-! SUPPORT. Commands of the link layer (11), each named by its meaning. -/

namespace Sys2Proof.Machine

theorem exec_receiveDataFrame (n : PortNum) (bs : List Byte) (x : FrameSeen) (s : State) :
    exec (.receiveDataFrame n bs x) s = execReceiveDataFrame n bs x s := rfl

theorem exec_sendDataFrame (n : PortNum) (s : State) : exec (.sendDataFrame n) s = execSendDataFrame n s := rfl

theorem exec_replayTimerExpiry (n : PortNum) (s : State) : exec (.replayTimerExpiry n) s = execReplayTimerExpiry n s := rfl

theorem exec_creditFramePeriod (n : PortNum) (s : State) : exec (.creditFramePeriod n) s = execCreditFramePeriod n s := rfl

theorem exec_creditFrame (n : PortNum) (f : Octet) (s : State) :
    exec (.creditFrame n f) s = s.controlRow n (fun k => k == 0 || decide (4 ≤ k)) f := rfl

theorem exec_tideFrame (n : PortNum) (f : Octet) (s : State) :
    exec (.tideFrame n f) s = s.controlRow n (· == 1) f := rfl

theorem exec_timeFrame (n : PortNum) (f : Octet) (s : State) :
    exec (.timeFrame n f) s = s.controlRow n (· == 2) f := rfl

theorem exec_laneFrame (n : PortNum) (f : Octet) (s : State) :
    exec (.laneFrame n f) s = s.controlRow n (· == 3) f := rfl

theorem exec_timeFramePeriod (n : PortNum) (s : State) : exec (.timeFramePeriod n) s = execTimeFramePeriod n s := rfl

theorem exec_gmAnnounceLapse (s : State) : exec .gmAnnounceLapse s = execGmAnnounceLapse s := rfl

theorem exec_fastRetrainEnd (n : PortNum) (ok : Bool) (s : State) :
    exec (.fastRetrainEnd n ok) s = execFastRetrainEnd n ok s := rfl

theorem exec_retrainAcceptTimeout (n : PortNum) (s : State) :
    exec (.retrainAcceptTimeout n) s = execRetrainAcceptTimeout n s := rfl

theorem exec_linkDownPatternEnd (n : PortNum) (s : State) :
    exec (.linkDownPatternEnd n) s = execLinkDownPatternEnd n s := rfl

theorem exec_linkUp (n : PortNum) (s : State) : exec (.linkUp n) s = execLinkUp n s := rfl

end Sys2Proof.Machine
end

section
/-! SUPPORT. Frames that arrive (11 R364, R367, R380, 12 R403): what the data slots spell, the verdict on a data frame, and
the control frames that a command takes in. -/

namespace Sys2Proof.Machine

theorem seenFrame_of_noSlots {x : FrameSeen} {bs f : List Byte} (hseen : seenFrame x bs = some f) (hslots : x.slots = []) :
    f = bs := by
  rw [seenFrame, hslots, List.isEmpty_nil, if_pos rfl] at hseen
  exact (Option.some.inj hseen).symm

theorem exec_receiveDataFrame_seen {n : PortNum} {bs f : List Byte} {x : FrameSeen} {s : State}
    (hopen : s.receives n = true) (hseen : seenFrame x bs = some f) :
    exec (.receiveDataFrame n bs x) s = .next (s.receiveFrame n f x.err x.cut).ended := by
  rw [exec_receiveDataFrame, execReceiveDataFrame, hseen]
  dsimp only
  rw [if_pos hopen, fin_next]

section

variable {s : State} {n : Nat} {f : List Byte} {err cut : Bool}

/-- A lane error fails a frame whatever its CRC field holds (11 R367). -/
theorem State.receiveFrame_of_bad (hbad : err = true ∨ crcVerdict f = .bad) :
    s.receiveFrame n f err cut = (s.cutThrough n f cut).badCrc n := by
  have hverdict : (if err then CrcVerdict.bad else crcVerdict f) = .bad := by
    rcases hbad with h | h <;> simp [h]
  rw [State.receiveFrame, hverdict]

variable (herr : err = false) (hkind : (f.getD 7 0).toNat = 0xA5)
include herr hkind

theorem State.receiveFrame_of_good (hgood : crcVerdict f = .good) :
    s.receiveFrame n f err cut = s.dataIn n f false cut := by
  rw [State.receiveFrame, herr, if_neg Bool.false_ne_true, hgood]
  dsimp only
  rw [if_pos hkind, if_neg (by decide)]
  rfl

theorem State.receiveFrame_of_stomped (hstomped : crcVerdict f = .stomped) :
    s.receiveFrame n f err cut = (s.count (F.lnkCnt_STOMPED n)).dataIn n f true cut := by
  rw [State.receiveFrame, herr, if_neg Bool.false_ne_true, hstomped]
  dsimp only
  rw [if_pos hkind, if_pos rfl]
  rfl

end

/-- A command takes in what is no good control frame, and the kinds that are its own (11 R380). -/
theorem State.controlRow_takes {s : State} {n : Nat} {own : Nat → Bool} {f : Octet} {kinds : Prop}
    (hown : kinds → own (bits f.w0 55 52) = true)
    (h : (controlVerdict f = .bad ∨ bits f.w0 63 56 ≠ 0x5C) ∨ kinds) :
    s.controlRow n own f = .next (s.receiveControl n f).ended := by
  rw [State.controlRow, if_neg, fin_next]
  rintro ⟨hgood, hmark, hother⟩
  rcases h with (hbad | hnone) | hkind
  · exact hgood hbad
  · exact hnone hmark
  · exact Bool.false_ne_true (hother.symm.trans (hown hkind))

end Sys2Proof.Machine
end

section
/-! SUPPORT. A data frame that leaves (11 R366, R369): the sequence number that it takes, and its place in the replay buffer. -/

namespace Sys2Proof.Machine

@[simp] theorem State.bwSent_ports (s : State) (n k : Nat) : (s.bwSent n k).ports = s.ports := by
  unfold State.bwSent State.bwEdge
  dsimp only
  split <;> rfl

theorem State.port_of_ports {s t : State} (h : t.ports = s.ports) (n : Nat) : t.port n = s.port n := by
  rw [State.port, h, State.port]

/-- A frame that leaves stays in the replay buffer as long as it was there. -/
theorem State.sendFrame_replay (s : State) (n : Nat) (f : RFrame) : ((s.sendFrame n f).port n).replay = (s.port n).replay := by
  rw [State.sendFrame, State.port_of_ports (State.bwSent_ports _ _ _), State.setPort_port_same, State.putUnits,
    State.setPort_port_same]
  rfl

/-- The frame in which a packet that won port n leaves (11 R366). -/
def State.newFrame (s : State) (n : Nat) (i : TxItem) : RFrame :=
  { fseq := s.rd (F.lnkStat_NEXT n), pkt := i.pkt, mark := i.mark, pool := i.pool, stomp := i.stomp || i.parity }

/-- The state once the parity of the packet is known (16 R511, R530). -/
def State.parityRead (s : State) (n : Nat) (i : TxItem) : State :=
  if i.parity then s.raise (Src.XBAR_PARITY (n / 8)) { addr := n, atype := 14 } else s

/-- The state once the frame has left, before NEXT and the replay buffer tell of it. -/
def State.frameLeft (s : State) (n : Nat) (i : TxItem) (rest : List TxItem) : State :=
  (((s.parityRead n i).setPort n fun p => { p with txq := rest }).sendFrame n (s.newFrame n i)).wr (F.lnkStat_NEXT n)
    (s.rd (F.lnkStat_NEXT n) + 1)

/-- The port with the frame in its replay buffer; the replay timer of the first starts (11 R369, R371). -/
def Port.keep (p : Port) (f : RFrame) (now : Nat) : Port :=
  { p with replay := p.replay ++ [f], timer := if p.replay.isEmpty then now else p.timer
           expired := p.expired && !p.replay.isEmpty }

/-- The state once the frame is kept for replay. -/
def State.frameKept (s : State) (n : Nat) (i : TxItem) (rest : List TxItem) : State :=
  (s.frameLeft n i rest).setPort n fun p => p.keep (s.newFrame n i) (s.frameLeft n i rest).now

theorem State.frameOut_eq (s : State) (n : Nat) (i : TxItem) (rest : List TxItem) :
    s.frameOut n i rest = (((s.frameKept n i rest).rbSync n).tally (n / 8) 0x0B).ownerDone i.owner := rfl

theorem State.frameKept_next (s : State) (n : Nat) (i : TxItem) (rest : List TxItem) :
    (s.frameKept n i rest).rd (F.lnkStat_NEXT n) = (s.rd (F.lnkStat_NEXT n) + 1) % 2 ^ 16 := by
  rw [State.frameKept, State.setPort_rd, State.frameLeft]
  exact State.rd_wr _ _ _ (by simp) (by simp)

theorem State.frameKept_replay (s : State) (n : Nat) (i : TxItem) (rest : List TxItem) :
    ((s.frameKept n i rest).port n).replay = ((s.parityRead n i).port n).replay ++ [s.newFrame n i] := by
  have hleft : ((s.frameLeft n i rest).port n).replay = ((s.parityRead n i).port n).replay := by
    rw [State.frameLeft, State.port_of_ports (State.wr_ports _ _ _), State.sendFrame_replay, State.setPort_port_same]
  rw [State.frameKept, State.setPort_port_same, Port.keep, hleft]

theorem State.ownerDone_steady (s : State) (o : Option (Nat × Nat)) : Steady s (s.ownerDone o) := by
  cases o with
  | none => exact Steady.refl s
  | some x => exact State.finishEntry_steady s _ _ _

@[simp] theorem State.ownerDone_ports (s : State) (o : Option (Nat × Nat)) : (s.ownerDone o).ports = s.ports := by
  cases o <;> rfl

@[simp] theorem State.tally_ports (s : State) (b code n : Nat) : (s.tally b code n).ports = s.ports := by
  obtain ⟨l, hl⟩ := s.tally_wordsOnly b code n
  rw [hl]

/-- The frame takes the next sequence number (11 R366). -/
theorem State.frameOut_next (s : State) (n : Nat) (i : TxItem) (rest : List TxItem) :
    (s.frameOut n i rest).rd (F.lnkStat_NEXT n) = (s.rd (F.lnkStat_NEXT n) + 1) % 2 ^ 16 := by
  have hdone : (s.frameOut n i rest).get (.lnkStat n) = ((s.frameKept n i rest).rbSync n).get (.lnkStat n) :=
    ((State.tally_steady _ (n / 8) 0x0B 1).trans (State.ownerDone_steady _ i.owner)).reg _ rfl
  calc (s.frameOut n i rest).rd (F.lnkStat_NEXT n)
    _ = ((s.frameKept n i rest).rbSync n).rd (F.lnkStat_NEXT n) := by rw [State.rd, hdone, State.rd]
    _ = (s.frameKept n i rest).rd (F.lnkStat_NEXT n) := State.rd_wr_apart _ _ (by simp) (by simp) (by simp [Fld.Apart])
    _ = (s.rd (F.lnkStat_NEXT n) + 1) % 2 ^ 16 := s.frameKept_next n i rest

/-- The frame is kept for replay behind those that a halt for its parity has left (11 R369, 16 R520). -/
theorem State.frameOut_replay (s : State) (n : Nat) (i : TxItem) (rest : List TxItem) :
    ((s.frameOut n i rest).port n).replay = ((s.parityRead n i).port n).replay ++ [s.newFrame n i] := by
  have hports : (s.frameOut n i rest).ports = (s.frameKept n i rest).ports := by
    rw [State.frameOut_eq, State.ownerDone_ports, State.tally_ports]
    rfl
  rw [State.port_of_ports hports, State.frameKept_replay]

theorem State.frameOut_keeps (s : State) (n : Nat) (i : TxItem) (rest : List TxItem) :
    ∃ f : RFrame, f.fseq = s.rd (F.lnkStat_NEXT n) ∧ f.pkt = i.pkt ∧ f.stomp = (i.stomp || i.parity)
      ∧ f ∈ ((s.frameOut n i rest).port n).replay
      ∧ (i.parity = false → ((s.frameOut n i rest).port n).replay = (s.port n).replay ++ [f]) := by
  refine ⟨s.newFrame n i, rfl, rfl, rfl, ?_, fun hclean => ?_⟩ <;> rw [State.frameOut_replay]
  · simp
  · rw [State.parityRead, if_neg (by simp [hclean])]

theorem exec_sendDataFrame_leaves {n : PortNum} {s : State} {i : TxItem} {t : List TxItem} (hrun : s.halted = false)
    (hwon : (s.port n).txq = i :: t) (hup : s.portUp n = true) (hquiet : (s.port n).retrain = none)
    (hroom : s.replayRoom n i.pkt = true) : exec (.sendDataFrame n) s = .next (s.frameOut n i t).ended := by
  rw [exec_sendDataFrame, execSendDataFrame, hwon]
  dsimp only
  rw [if_pos (by simp [hup, hquiet, hrun, hroom]), fin_next]

end Sys2Proof.Machine
end

section
/-! SUPPORT. Acknowledgements and the replay timer (11 R370 to R372). -/

namespace Sys2Proof.Machine

/-- The port whose frames before `a` are freed, at `now`, with the replay timer due at `due` (11 R370, R372). -/
def Port.freed (p : Port) (a now due : Nat) : Port :=
  { p with replay := p.replay.filter fun f => !precedes 16 f.fseq a, count := 0, timer := now
           expired := (p.expired || decide (due ≤ now)) && !(p.replay.filter fun f => !precedes 16 f.fseq a).isEmpty }

/-- A valid FACK beyond the rewind mark, without NAK, frees frames and asks for nothing (11 R370). -/
theorem State.applyAck_of_valid {s : State} {n a : Nat} (hnew : 0 < serialSub 16 a (s.rd (F.lnkStat_RMARK n)))
    (hvalid : serialSub 16 a (s.rd (F.lnkStat_RMARK n))
      ≤ serialSub 16 (s.rd (F.lnkStat_NEXT n)) (s.rd (F.lnkStat_RMARK n))) :
    s.applyAck n a false
      = ((s.setPort n fun p => p.freed a s.now (s.replayTimer n)).wr (F.lnkStat_RMARK n) a).rbSync n := by
  rw [State.applyAck]
  dsimp only
  rw [if_neg (Nat.not_lt.mpr hvalid), if_neg (Nat.ne_of_gt hnew), if_neg (by simp)]
  rfl

theorem State.applyAck_frees {s : State} {n a : Nat} (ha : a < 2 ^ 16)
    (hnew : 0 < serialSub 16 a (s.rd (F.lnkStat_RMARK n)))
    (hvalid : serialSub 16 a (s.rd (F.lnkStat_RMARK n))
      ≤ serialSub 16 (s.rd (F.lnkStat_NEXT n)) (s.rd (F.lnkStat_RMARK n))) :
    (s.applyAck n a false).rd (F.lnkStat_RMARK n) = a
      ∧ ((s.applyAck n a false).port n).replay = (s.port n).replay.filter fun f => !precedes 16 f.fseq a := by
  rw [State.applyAck_of_valid hnew hvalid, State.rbSync]
  constructor
  · rw [State.rd_wr_apart _ _ (by simp) (by simp) (by simp [Fld.Apart]), State.rd_wr _ _ _ (by simp) (by simp)]
    exact Nat.mod_eq_of_lt ha
  · rw [State.port_of_ports (State.wr_ports _ _ _), State.port_of_ports (State.wr_ports _ _ _), State.setPort_port_same]
    rfl

/-- An expiry that a FACK met at its edge stands, and no time passes for it (11 R372). -/
theorem exec_replayTimerExpiry_due {n : PortNum} {s : State} (hrun : s.halted = false)
    (hkept : (s.port n).replay.isEmpty = false) (hquiet : (s.port n).retrain = none) (hup : s.portUp n = true) :
    exec (.replayTimerExpiry n) s
      = .next ((if (s.port n).expired then s else s.passTo (s.replayTimer n)).replayDue n).ended := by
  rw [exec_replayTimerExpiry, execReplayTimerExpiry]
  rw [if_neg (by simp [hkept, hquiet, hrun, hup]), fin_next]

end Sys2Proof.Machine
end

section
/-! SUPPORT. The periodic control frames (11 R377, R382, R389): those whose time has come fall due together, and what is
owed already stays owed. -/

namespace Sys2Proof.Machine

/-- From `s` to `t` port n owes no less, at the same time and with the same last TIME frame. -/
structure Owing (n : Nat) (s t : State) : Prop where
  now : t.now = s.now
  timeAt : (t.port n).timeAt = (s.port n).timeAt
  ctl : (s.port n).ctl ⊆ (t.port n).ctl

theorem Owing.refl (n : Nat) (s : State) : Owing n s s := ⟨rfl, rfl, List.Subset.refl _⟩

theorem Owing.trans {n : Nat} {s t u : State} (h : Owing n s t) (g : Owing n t u) : Owing n s u :=
  ⟨g.now.trans h.now, g.timeAt.trans h.timeAt, List.Subset.trans h.ctl g.ctl⟩

theorem State.ctlDue_port (s : State) (n k : Nat) : (s.ctlDue n k).port n = (s.port n).due k := by
  rw [State.ctlDue_eq, State.setPort_port_same]

theorem State.ctlDue_owing (s : State) (n k : Nat) : Owing n s (s.ctlDue n k) :=
  ⟨rfl, by rw [State.ctlDue_port]; rfl, fun j hj => by rw [State.ctlDue_port]; exact Port.mem_due_of_mem hj k⟩

theorem State.tideFalls_owing (s : State) (n : Nat) : Owing n s (s.tideFalls n) :=
  ⟨rfl, by rw [State.tideFalls_port]; rfl, fun j hj => by rw [State.tideFalls_port]; exact Port.mem_due_of_mem hj CD.tide⟩

/-- The state once the TIME frame and the tide report of a port are due, each when its time has come. -/
def State.reportsFall (s : State) (n : Nat) : State :=
  if (s.port n).aligned && decide ((s.port n).tideAt + 500 ≤ s.now) then (s.timeFalls n).tideFalls n else s.timeFalls n

theorem State.reportsFall_owing (s : State) (n : Nat) : Owing n (s.timeFalls n) (s.reportsFall n) := by
  unfold State.reportsFall
  split
  · exact State.tideFalls_owing _ n
  · exact Owing.refl n _

theorem State.reportsFall_rd (s : State) (n : Nat) (f : Fld) : (s.reportsFall n).rd f = s.rd f := by
  unfold State.reportsFall State.timeFalls
  split <;> split <;> rfl

/-- The CREDIT frame falls due last, by its own period (11 R377). -/
theorem State.ctlPeriods_eq (s : State) (n : Nat) : s.ctlPeriods n =
    if (s.port n).aligned && decide ((s.port n).creditAt + max 1 (s.rd F.lnkGlbCfg_CRPERIOD) * 10 ≤ s.now) then
      (s.reportsFall n).ctlDue n CD.credit else s.reportsFall n := by
  rw [← s.reportsFall_rd n F.lnkGlbCfg_CRPERIOD]
  rfl

theorem State.ctlPeriods_owing (s : State) (n : Nat) : Owing n (s.timeFalls n) (s.ctlPeriods n) := by
  rw [State.ctlPeriods_eq]
  split
  · exact (s.reportsFall_owing n).trans (State.ctlDue_owing _ n CD.credit)
  · exact s.reportsFall_owing n

theorem State.ctlPeriods_now (s : State) (n : Nat) : (s.ctlPeriods n).now = s.now :=
  (s.ctlPeriods_owing n).now.trans (s.timeFalls_now n)

theorem State.timeFalls_owes (s : State) (n : Nat) : (s.port n).ctl ⊆ ((s.timeFalls n).port n).ctl := by
  intro k hk
  unfold State.timeFalls
  split
  · rw [State.setPort_port_same, State.ctlDue_port]
    exact Port.mem_due_of_mem hk CD.time
  · exact hk

theorem State.ctlPeriods_owes (s : State) (n : Nat) : (s.port n).ctl ⊆ ((s.ctlPeriods n).port n).ctl :=
  List.Subset.trans (s.timeFalls_owes n) (s.ctlPeriods_owing n).ctl

section

variable {s : State} {n : Nat}

/-- A TIME frame whose period is over is due on a port that is up (11 R389). -/
theorem State.ctlPeriods_time (hten : s.on F.lnkGlbCfg_TEN = true) (hup : s.portUp n = true)
    (hdue : (s.port n).timeAt + s.tPeriod ≤ s.now) :
    ((s.ctlPeriods n).port n).timeAt = s.now ∧ CD.time ∈ ((s.ctlPeriods n).port n).ctl := by
  have hsent : ((s.timeFalls n).port n).timeAt = s.now := by
    rw [State.timeFalls, if_pos (by simp [hten, hup, hdue]), State.setPort_port_same]
  exact ⟨(s.ctlPeriods_owing n).timeAt.trans hsent, (s.ctlPeriods_owing n).ctl (State.timeFalls_ctl hten hup hdue)⟩

/-- A CREDIT frame whose period is over is due on an aligned port (11 R377). -/
theorem State.ctlPeriods_credit (halign : (s.port n).aligned = true)
    (hdue : (s.port n).creditAt + max 1 (s.rd F.lnkGlbCfg_CRPERIOD) * 10 ≤ s.now) :
    CD.credit ∈ ((s.ctlPeriods n).port n).ctl := by
  rw [State.ctlPeriods_eq, if_pos (by simp [halign, hdue]), State.ctlDue_port]
  exact Port.mem_due_self _ _

end

/-! ## After a wait -/

/-- A word that time does not write reads the same after a wait. -/
theorem State.passTo_rd (s : State) (d : Nat) {f : Fld} (hf : ¬TimeReg f.reg := by simp [TimeReg]) :
    (s.passTo d).rd f = s.rd f := (s.passTo_onlyWords d).rd f hf

theorem State.le_passTo_now (s : State) (d : Nat) : d ≤ (s.passTo d).now := by
  rw [State.passTo_now]
  exact Nat.le_max_right _ _

/-- The TIME frame is due after a wait until its period is over, with others that fall due then (11 R382, R389). -/
theorem State.ctlPeriods_passTo_time {s : State} {n : Nat} (d : Nat) (hten : s.on F.lnkGlbCfg_TEN = true)
    (hup : s.portUp n = true) (hdue : (s.port n).timeAt + s.tPeriod ≤ (s.passTo d).now) :
    (((s.passTo d).ctlPeriods n).port n).timeAt = (s.passTo d).now
      ∧ CD.time ∈ (((s.passTo d).ctlPeriods n).port n).ctl := by
  refine State.ctlPeriods_time ?_ ?_ ?_
  · rw [State.on, s.passTo_rd d]
    exact hten
  · rw [State.portUp, State.on, s.passTo_rd d]
    exact hup
  · rw [State.passTo_port, State.tPeriod, s.passTo_rd d]
    exact hdue

section

variable {n : PortNum} {s : State} (hrun : s.halted = false)
include hrun

theorem exec_timeFramePeriod_due (hten : s.on F.lnkGlbCfg_TEN = true) (hup : s.portUp n = true)
    (hquiet : (s.port n).retrain = none) : Gives (exec (.timeFramePeriod n) s) fun t =>
      (t.port n).timeAt = t.now ∧ (s.port n).timeAt + s.tPeriod ≤ t.now ∧ CD.time ∈ (t.port n).ctl := by
  have hlate := s.le_passTo_now ((s.port n).timeAt + s.tPeriod)
  obtain ⟨hsent, howed⟩ := State.ctlPeriods_passTo_time ((s.port n).timeAt + s.tPeriod) hten hup hlate
  rw [exec_timeFramePeriod, execTimeFramePeriod, if_pos (by simp [hten, hup, hquiet, hrun])]
  refine gives_fin ?_
  rw [State.ctlPeriods_now]
  exact ⟨hsent, hlate, howed⟩

variable (halign : (s.port n).aligned = true) (hquiet : (s.port n).retrain = none)
include halign hquiet

/-- A counter has changed and no data frame carries it: the CREDIT frame is due at once (11 R377). -/
theorem exec_creditFramePeriod_changed (hdirty : (s.port n).creditDirty = true) (hidle : s.dataReady n = false) :
    exec (.creditFramePeriod n) s = .next ((s.ctlDue n CD.credit).ctlPeriods n).ended
      ∧ CD.credit ∈ (((s.ctlDue n CD.credit).ctlPeriods n).port n).ctl := by
  constructor
  · rw [exec_creditFramePeriod, execCreditFramePeriod]
    rw [if_neg (by simp [halign, hquiet, hrun]), if_pos (by simp [hdirty, hidle]), fin_next]
  · refine State.ctlPeriods_owes _ n ?_
    rw [State.ctlDue_port]
    exact Port.mem_due_self _ _

theorem exec_creditFramePeriod_due (hwait : (s.port n).creditDirty = false ∨ s.dataReady n = true) :
    Gives (exec (.creditFramePeriod n) s) fun t =>
      (s.port n).creditAt + max 1 (s.rd F.lnkGlbCfg_CRPERIOD) * 10 ≤ t.now ∧ CD.credit ∈ (t.port n).ctl
        ∧ (s.on F.lnkGlbCfg_TEN = true → s.portUp n = true → (s.port n).timeAt + s.tPeriod ≤ t.now →
            CD.time ∈ (t.port n).ctl) := by
  have hlate := s.le_passTo_now ((s.port n).creditAt + max 1 (s.rd F.lnkGlbCfg_CRPERIOD) * 10)
  have hwaits : ¬((s.port n).creditDirty && !s.dataReady n) = true := by
    rcases hwait with h | h <;> simp [h]
  rw [exec_creditFramePeriod, execCreditFramePeriod]
  rw [if_neg (by simp [halign, hquiet, hrun]), if_neg hwaits]
  refine gives_fin ?_
  rw [State.ctlPeriods_now]
  refine ⟨hlate, State.ctlPeriods_credit ?_ ?_, fun hten hup hper => (State.ctlPeriods_passTo_time _ hten hup hper).2⟩
  · rw [State.passTo_port]
    exact halign
  · rw [State.passTo_port, s.passTo_rd]
    exact hlate

end

/-- A port that owes one control frame sends it, and nothing else (11 R382); a NAK goes in a CREDIT frame (R368). -/
theorem State.ctlFlush_single {s : State} {n k : Nat} (hk : k ≤ CD.credit) (howed : (s.port n).ctl = [k])
    (hnak : k = CD.nak → (s.port n).nakDue = true) :
    s.ctlFlush n =
      if k = CD.lane then (s.setPort n fun q => { q with ctl := [] }).sendLane n
      else if k = CD.time then (s.setPort n fun q => { q with ctl := [] }).sendTime n
      else if k = CD.tide then (s.setPort n fun q => { q with ctl := [] }).sendTide n
      else (s.setPort n fun q => { q with ctl := [] }).sendCredit n := by
  have hkind : k = CD.lane ∨ k = CD.nak ∨ k = CD.time ∨ k = CD.tide ∨ k = CD.credit := by
    have hlast : k ≤ 4 := hk
    show k = 0 ∨ k = 1 ∨ k = 2 ∨ k = 3 ∨ k = 4
    omega
  rcases hkind with rfl | rfl | rfl | rfl | rfl <;> simp [State.ctlFlush, howed, hnak]

end Sys2Proof.Machine
end

section
/-! SUPPORT. The parent's announcement (11 R390), and a fast retrain and the pattern of a link down as they end (11 R383, R384,
12 R416). -/

namespace Sys2Proof.Machine

section

variable {s : State} (hrun : s.halted = false) (hgm : s.on F.lnkTimeStat_GM = false)
  (hfree : s.on F.lnkTimeStat_FREERUN = false) (hdist : s.rd F.lnkTimeStat_DIST ≠ 0)
include hrun hgm hfree hdist

theorem exec_gmAnnounceLapse_held {t : TimeNote} (hnote : s.announcement (s.rd F.lnkTimeStat_PARENT) = some t) :
    exec .gmAnnounceLapse s
      = .next ((s.passTim (t.atTim + 4 * s.tPeriod + 1)).parentLost (s.rd F.lnkTimeStat_PARENT)).ended := by
  rw [exec_gmAnnounceLapse, execGmAnnounceLapse]
  rw [if_neg (by simp [hgm, hfree, hdist, hrun]), hnote]
  rfl

theorem exec_gmAnnounceLapse_lapsed (hnote : s.announcement (s.rd F.lnkTimeStat_PARENT) = none) :
    exec .gmAnnounceLapse s = .next (s.parentLost (s.rd F.lnkTimeStat_PARENT)).ended := by
  rw [exec_gmAnnounceLapse, execGmAnnounceLapse]
  rw [if_neg (by simp [hgm, hfree, hdist, hrun]), hnote]
  rfl

end

theorem State.passTo_of_le {s : State} {t : Nat} (h : t ≤ s.now) : s.passTo t = s := by
  rw [State.passTo, Nat.sub_eq_zero_of_le h, State.pass, if_pos rfl]

section

variable {n : PortNum} {s : State} {r : Retrain} (hrun : s.halted = false) (hretrain : (s.port n).retrain = some r)
include hrun hretrain

/-- Four periods without an acceptance: the initiator trains alone (12 R416). -/
theorem exec_retrainAcceptTimeout_trains (hidle : r.training = false) (hnone : r.accepted = false)
    (hours : r.initiator = true) : exec (.retrainAcceptTimeout n) s
      = .next ((s.passTo (r.began + 10526)).setPort n fun p => { p with retrain := some { r with accepted := true } }).ended := by
  rw [exec_retrainAcceptTimeout, execRetrainAcceptTimeout, hretrain]
  dsimp only
  rw [if_neg (by simp [hidle, hnone, hours, hrun]), fin_next]

variable (htrain : r.training = true)
include htrain

/-- How a fast retrain in training ends: in success, not yet, or at its limit in failure. -/
theorem exec_fastRetrainEnd_training (ok : Bool) : exec (.fastRetrainEnd n ok) s =
    if decide (s.now ≤ s.retrainLimit n r) && s.lanesReady n && r.prbs == 2 then .next (s.retrainOk n).ended
    else if ok && decide (s.now ≤ s.retrainLimit n r) then .next s
    else .next ((s.passTo (s.retrainLimit n r)).linkDown n).ended := by
  rw [exec_fastRetrainEnd, execFastRetrainEnd, hretrain]
  dsimp only
  rw [if_neg (by simp [htrain, hrun])]
  rfl

theorem exec_fastRetrainEnd_succeeds (hready : s.lanesReady n = true) (hprbs : r.prbs = 2)
    (hin : s.now ≤ s.retrainLimit n r) (ok : Bool) : exec (.fastRetrainEnd n ok) s = .next (s.retrainOk n).ended := by
  rw [exec_fastRetrainEnd_training hrun hretrain htrain, if_pos (by simp [hin, hready, hprbs])]

/-- Without the lanes or the two periods of PRBS31 the retrain fails at its limit, and no sooner. -/
theorem exec_fastRetrainEnd_unready (hunready : s.lanesReady n = false ∨ r.prbs ≠ 2) (hin : s.now ≤ s.retrainLimit n r) :
    exec (.fastRetrainEnd n false) s = .next ((s.passTo (s.retrainLimit n r)).linkDown n).ended
      ∧ exec (.fastRetrainEnd n true) s = .next s := by
  have hnot : ¬(decide (s.now ≤ s.retrainLimit n r) && s.lanesReady n && r.prbs == 2) = true := by
    rcases hunready with h | h <;> simp [h]
  rw [exec_fastRetrainEnd_training hrun hretrain htrain, exec_fastRetrainEnd_training hrun hretrain htrain, if_neg hnot,
    if_neg (by simp), if_neg hnot, if_pos (by simp [hin])]
  exact ⟨rfl, rfl⟩

theorem exec_fastRetrainEnd_late (hlate : s.retrainLimit n r < s.now) (ok : Bool) :
    exec (.fastRetrainEnd n ok) s = .next (s.linkDown n).ended := by
  have hpast : ¬s.now ≤ s.retrainLimit n r := Nat.not_le.mpr hlate
  rw [exec_fastRetrainEnd_training hrun hretrain htrain, if_neg (by simp [hpast]), if_neg (by simp [hpast]),
    State.passTo_of_le (Nat.le_of_lt hlate)]

end

theorem exec_linkDownPatternEnd_sent {n : PortNum} {s : State} {t : Nat} (hrun : s.halted = false)
    (hpattern : (s.port n).patternAt = some t) : exec (.linkDownPatternEnd n) s
      = .next (((s.passTo (t + 10000)).patternOut n ((s.passTo (t + 10000)).now - t)).bringUp n).ended := by
  rw [exec_linkDownPatternEnd, execLinkDownPatternEnd, hpattern]
  dsimp only
  rw [if_neg (by simp [hrun]), fin_next]
  rfl

end Sys2Proof.Machine
end

section
/-! SUPPORT. A link that comes up (11 R388): the words that its event, its state and the end of its condition leave, and the
counts at zero. -/

namespace Sys2Proof.Machine

/-! ## What a link entry and a condition that clears leave (02 R58, 16 R514) -/

section

variable {p : Reg → Prop} (hwm : ∀ i, ¬p (.wm i)) (hattn : ¬p .pieAttn)
include hwm hattn

theorem State.evPush_leaves (s : State) (k : Nat) (e : Quad) : Leaves p s (s.evPush k e) :=
  (Leaves.parts : Leaves p s (s.setEv k _)).trans (State.wmEval_leaves (hwm _) hattn _ _)

omit hwm in
theorem State.evLost_leaves (s : State) (k : Nat) : Leaves p s (s.evLost k) :=
  (Leaves.parts : Leaves p s (s.setEv k _)).trans
    (Leaves.ite (fun _ => Leaves.wr _ F.pieAttn_LOST _ hattn) fun _ => Leaves.refl _ _)

theorem State.evOverflow_leaves (s : State) (k : Nat) : Leaves p s (s.evOverflow k) :=
  Leaves.ite (fun _ => Leaves.refl _ s) fun _ => (State.evPush_leaves hwm hattn s k _).trans Leaves.parts

theorem State.evPost_leaves (s : State) (k cls master detail arg : Nat) (low : Bool) :
    Leaves p s (s.evPost k cls master detail arg low) := by
  rcases s.evPost_cases k cls master detail arg low with h | ⟨-, h⟩ | ⟨-, e, h⟩ <;> rw [h]
  · exact State.evLost_leaves hattn s k
  · exact (State.evOverflow_leaves hwm hattn s k).trans (State.evLost_leaves hattn _ k)
  · exact (State.evOverflow_leaves hwm hattn s k).trans (State.evPush_leaves hwm hattn _ k e)

end

/-- The words of watermarks, attention and fault sources. -/
def NoticeReg (r : Reg) : Prop := r = .pieAttn ∨ ∃ i, r = .wm i ∨ r = .fltSrc i

theorem State.evPost_rd (s : State) (k cls master detail arg : Nat) {f : Fld} (hf : ¬NoticeReg f.reg) :
    (s.evPost k cls master detail arg).rd f = s.rd f :=
  (State.evPost_leaves (p := fun r => ¬NoticeReg r) (fun i h => h (.inr ⟨i, .inl rfl⟩)) (fun h => h (.inl rfl)) s k cls
    master detail arg false).rd f hf

theorem State.condClear_rd (s : State) (n unit : Nat) {f : Fld} (hf : ¬NoticeReg f.reg) :
    (s.condClear n unit).rd f = s.rd f := by
  have hsrc : f.reg ≠ .fltSrc n := fun h => hf (.inr ⟨n, .inr h⟩)
  unfold State.condClear
  dsimp only
  split
  · rfl
  · rw [State.fltStatus, State.rd_wr_other _ _ hsrc, State.rd_wr_other _ _ hsrc]
    rfl

theorem State.setLstate_rd (s : State) (n v : Nat) {f : Fld} (hhi : f.hi < 64) (hapart : (F.lnkStat_LSTATE n).Apart f)
    (hf : ¬NoticeReg f.reg) : (s.setLstate n v).rd f = s.rd f := by
  unfold State.setLstate
  split
  · rfl
  · rw [State.evPost_rd _ _ _ _ _ _ hf, State.rd_wr_apart _ _ (by simp) hhi hapart]

theorem State.setLstate_lstate (s : State) (n : Nat) {v : Nat} (hv : v < 8) :
    (s.setLstate n v).rd (F.lnkStat_LSTATE n) = v := by
  unfold State.setLstate
  split
  · next h => exact h
  · rw [State.evPost_rd _ _ _ _ _ _ (by simp [NoticeReg]), State.rd_wr _ _ _ (by simp) (by simp)]
    exact Nat.mod_eq_of_lt hv

/-! ## The counts at zero (11 R374, R388) -/

/-- The sequence of a link starts at zero. -/
def State.seqZero (s : State) (n : Nat) : State :=
  ((s.wr (F.lnkStat_NEXT n) 0).wr (F.lnkStat_RMARK n) 0).wr (F.lnkStat_EXPECT n) 0

/-- No credit of a link is used. -/
def State.usedZero (s : State) (n : Nat) (l : List Nat) : State := l.foldl (fun t j => t.wr (F.lnkCredit_USED n j) 0) s

/-- The port of a link that comes up: no replay, no retrain and no gap before, and the credits of R374. -/
def Port.fresh (p : Port) : Port :=
  { p with count := 0, more := 0, retrainedAt := none, nakPending := false, nakDue := false, recvd := [], grant := grantStart
           expired := false, replaying := none }

/-- The link that comes up, before its state and its condition tell of it. -/
def State.linkZeroed (s : State) (n : Nat) : State :=
  (((s.seqZero n).usedZero n (List.range 9)).setPort n Port.fresh).wr (F.rtePort_UP n) 1

theorem State.comeUp_eq (s : State) (n : Nat) :
    s.comeUp n = ((s.linkZeroed n).setLstate n 2).condClear (Src.LNK_DOWN n) n := rfl

theorem State.seqZero_rd (s : State) (n : Nat) : (s.seqZero n).rd (F.lnkStat_NEXT n) = 0
    ∧ (s.seqZero n).rd (F.lnkStat_EXPECT n) = 0 ∧ (s.seqZero n).rd (F.lnkStat_RMARK n) = 0 := by
  have hzero (t : State) {f : Fld} (hlo : f.lo ≤ f.hi) (hhi : f.hi < 64) : (t.wr f 0).rd f = 0 :=
    (t.rd_wr f 0 hlo hhi).trans (Nat.zero_mod _)
  refine ⟨?_, hzero _ (by simp) (by simp), ?_⟩
  · rw [State.seqZero, State.rd_wr_apart _ _ (by simp) (by simp) (by simp [Fld.Apart]),
      State.rd_wr_apart _ _ (by simp) (by simp) (by simp [Fld.Apart]), hzero _ (by simp) (by simp)]
  · rw [State.seqZero, State.rd_wr_apart _ _ (by simp) (by simp) (by simp [Fld.Apart]), hzero _ (by simp) (by simp)]

theorem State.usedZero_rd_other (s : State) (n : Nat) (l : List Nat) {f : Fld} (hf : ∀ j, f.reg ≠ .lnkCredit n j) :
    (s.usedZero n l).rd f = s.rd f :=
  (Leaves.foldl (p := fun r => ∀ j, r ≠ .lnkCredit n j) (fun t _ => Leaves.wr t _ _ fun h => h _ rfl) l s).rd f hf

/-- A counter of the list reads zero, as does one that read zero before. -/
theorem State.usedZero_rd {n j : Nat} {l : List Nat} {s : State} (h : j ∈ l ∨ s.rd (F.lnkCredit_USED n j) = 0) :
    (s.usedZero n l).rd (F.lnkCredit_USED n j) = 0 := by
  induction l generalizing s with
  | nil => exact h.resolve_left (List.not_mem_nil)
  | cons x l ih =>
    refine ih (s := s.wr (F.lnkCredit_USED n x) 0) ?_
    by_cases hx : j = x
    · subst hx
      exact .inr ((State.rd_wr _ _ _ (by simp) (by simp)).trans (Nat.zero_mod _))
    · rw [State.rd_wr_other _ _ (by simp [hx])]
      exact h.imp_left fun hmem => (List.mem_cons.mp hmem).resolve_left hx

theorem State.linkZeroed_rd (s : State) (n : Nat) {f : Fld} (hf : f.reg ≠ .rtePort n) :
    (s.linkZeroed n).rd f = ((s.seqZero n).usedZero n (List.range 9)).rd f := by
  rw [State.linkZeroed, State.rd_wr_other _ _ hf, State.setPort_rd]

theorem State.linkZeroed_seq (s : State) (n : Nat) {f : Fld} (hf : f.reg = .lnkStat n) :
    (s.linkZeroed n).rd f = (s.seqZero n).rd f := by
  rw [State.linkZeroed_rd s n (by simp [hf]), State.usedZero_rd_other _ _ _ (by simp [hf])]

/-- Beside LSTATE, the words of a link that has come up read as they were zeroed. -/
theorem State.comeUp_rd (s : State) (n : Nat) {f : Fld} (hhi : f.hi < 64) (hapart : (F.lnkStat_LSTATE n).Apart f)
    (hf : ¬NoticeReg f.reg) : (s.comeUp n).rd f = (s.linkZeroed n).rd f := by
  rw [State.comeUp_eq, State.condClear_rd _ _ _ hf, State.setLstate_rd _ _ _ hhi hapart hf]

theorem State.comeUp_seq (s : State) (n : Nat) : (s.comeUp n).rd (F.lnkStat_NEXT n) = 0
    ∧ (s.comeUp n).rd (F.lnkStat_EXPECT n) = 0 ∧ (s.comeUp n).rd (F.lnkStat_RMARK n) = 0 := by
  obtain ⟨hnext, hexpect, hmark⟩ := s.seqZero_rd n
  have hseq {f : Fld} (hf : f.reg = .lnkStat n) (hhi : f.hi < 61) : (s.comeUp n).rd f = (s.seqZero n).rd f := by
    rw [s.comeUp_rd n (by omega) (.inr (.inl hhi)) (by simp [NoticeReg, hf]), s.linkZeroed_seq n hf]
  exact ⟨(hseq rfl (by simp)).trans hnext, (hseq rfl (by simp)).trans hexpect, (hseq rfl (by simp)).trans hmark⟩

theorem State.comeUp_used (s : State) (n : Nat) {j : Nat} (hj : j < 9) : (s.comeUp n).rd (F.lnkCredit_USED n j) = 0 := by
  rw [s.comeUp_rd n (by simp) (by simp [Fld.Apart]) (by simp [NoticeReg]), s.linkZeroed_rd n (by simp)]
  exact State.usedZero_rd (.inl (List.mem_range.mpr hj))

theorem State.comeUp_up (s : State) (n : Nat) : (s.comeUp n).rd (F.rtePort_UP n) = 1 := by
  rw [s.comeUp_rd n (by simp) (by simp [Fld.Apart]) (by simp [NoticeReg]), State.linkZeroed]
  exact State.rd_wr _ _ 1 (by simp) (by simp)

theorem State.comeUp_lstate (s : State) (n : Nat) : (s.comeUp n).rd (F.lnkStat_LSTATE n) = 2 := by
  rw [State.comeUp_eq, State.condClear_rd _ _ _ (by simp [NoticeReg]), State.setLstate_lstate _ n (by decide)]

theorem exec_linkUp_ready {n : PortNum} {s : State} (hready : s.mayComeUp n = true) :
    exec (.linkUp n) s = .next (s.comeUp n).ended := by
  rw [exec_linkUp, execLinkUp, if_pos hready, fin_next]

end Sys2Proof.Machine
end

section
/-! PROOFS. Frames and the state of a link (11 R366 to R391). -/

namespace Sys2Proof.Machine

/-- Settles O51: the commands of the link layer, one lemma for each end of each. The verdict on a frame decides what it does;
NEXT and the replay buffer follow each frame that leaves; periods make control frames due without losing one that is owed;
and the words of a link that comes up read zero behind its event and its condition. -/
theorem linkFramesAndState : Obligations.LinkFramesAndState := by
  unfold Obligations.LinkFramesAndState
  intro n s hrun
  refine ⟨fun bs f x hopen hseen => ⟨exec_receiveDataFrame_seen hopen hseen, seenFrame_of_noSlots hseen,
      State.receiveFrame_of_bad, fun herr hgood hkind => State.receiveFrame_of_good herr hkind hgood,
      fun herr hstomped hkind => State.receiveFrame_of_stomped herr hkind hstomped⟩,
    fun i t hwon hup hquiet hroom => ⟨exec_sendDataFrame_leaves hrun hwon hup hquiet hroom, s.frameOut_next n i t,
      s.frameOut_keeps n i t⟩,
    fun a ha hnew hvalid => State.applyAck_frees ha hnew hvalid,
    fun hkept hquiet hup => ?_,
    fun halign hquiet => ⟨exec_creditFramePeriod_changed hrun halign hquiet, exec_creditFramePeriod_due hrun halign hquiet⟩,
    fun k _ hk howed hnak => State.ctlFlush_single hk howed hnak,
    fun f => ?_,
    exec_timeFramePeriod_due hrun,
    fun hgm hfree hdist => ⟨fun t => exec_gmAnnounceLapse_held hrun hgm hfree hdist,
      exec_gmAnnounceLapse_lapsed hrun hgm hfree hdist⟩,
    fun r hretrain => ⟨fun htrain => ⟨exec_fastRetrainEnd_succeeds hrun hretrain htrain,
        exec_fastRetrainEnd_unready hrun hretrain htrain, exec_fastRetrainEnd_late hrun hretrain htrain⟩,
      exec_retrainAcceptTimeout_trains hrun hretrain⟩,
    fun t hpattern => ⟨exec_linkDownPatternEnd_sent hrun hpattern, s.le_passTo_now _⟩,
    fun hready => ?_⟩
  · have hdue := exec_replayTimerExpiry_due hrun hkept hquiet hup
    exact ⟨fun h => by rw [hdue, if_neg (by simp [h])]; rfl, fun h => by rw [hdue, if_pos h]⟩
  · exact ⟨fun h => (exec_creditFrame n f s).trans (State.controlRow_takes (by simp) h),
      fun h => (exec_tideFrame n f s).trans (State.controlRow_takes beq_iff_eq.mpr h),
      fun h => (exec_timeFrame n f s).trans (State.controlRow_takes beq_iff_eq.mpr h),
      fun h => (exec_laneFrame n f s).trans (State.controlRow_takes beq_iff_eq.mpr h)⟩
  · obtain ⟨hnext, hexpect, hmark⟩ := s.comeUp_seq n
    exact ⟨exec_linkUp_ready hready, s.comeUp_up n, s.comeUp_lstate n, hnext, hexpect, hmark, fun j => s.comeUp_used n⟩

end Sys2Proof.Machine
end
